-- ==== Sys2Proof/Word.lean ====
section
/-! DEFINITION. The word types of the block: a register is 32 bits (R11), a register pair, a seam word,
a command word and the time count are 64 bits (R18, R25, R4). -/
namespace Sys2Proof

/-- A register (R11). -/
abbrev Word := BitVec 32

/-- A register pair, a seam word or the time count (R18, R25, R33). -/
abbrev Word64 := BitVec 64

/-- One byte of a tile, a page or the MRAM (R9). -/
abbrev Byte := BitVec 8

end Sys2Proof
end

