-- ==== Sys2Proof/Syntax.lean ====
section
/-! DEFINITION. The commands of the block: one constructor for each row of spec/opcode_table.json, in the
table's order. An event row stands for the event coming about; its operands name the instance and carry what
the outside world supplies (a pin, a reading, a word). -/
namespace Sys2Proof

/-- A core cycle of station `n`: `idle` core cycles have passed since the last one of a row of this station, all without
a head token or with the array busy; `rivals` are the stations of the cluster (bit k its core k) that ask for ramp
tokens in the same cycle and are yet to be served. -/
structure CycleIn where
  n : Nat
  idle : Nat
  rivals : Nat
  deriving DecidableEq, Repr

/-- `cyc` generator cycles of core `n` have ended since they were last counted. -/
structure StretchIn where
  n : Nat
  cyc : Nat
  deriving DecidableEq, Repr

/-- Core `n` receives a unit message, the level of its PFAULT[1:0] being `pfault`. -/
structure UnitIn where
  n : Nat
  pfault : Nat
  deriving DecidableEq, Repr

/-- One cluster's inputs to NEED_UPDATE: sums over the 8 samples of R117 (output in 1/16 mV, slack in ps), its
current (code of R4) and its actual drop in 1/16 mV. -/
structure NeedIn where
  c : Nat
  voutSum : Nat
  slackW : Int
  slackM : Int
  slackN : Int
  iout : Nat
  drop : Nat
  deriving DecidableEq, Repr


/-- A command (a row of the operations and events table). -/
inductive Instr where
  /-- REGISTER_WRITE (R17). -/
  | registerWrite (priv : Bool) (addr : BitVec 18) (w : Word)
  /-- CFG_64BIT_WRITE (R550). -/
  | cfg64bitWrite (priv : Bool) (addr : BitVec 18) (w : Word64)
  /-- SEAM_CODE_ERROR (R26). -/
  | seamCodeError (src : Nat) (dst : Nat) (unit : Nat) (w : Word64)
  /-- SEAM_RESEND (R27). -/
  | seamResend (src : Nat) (dst : Nat) (unit : Nat) (ok : Bool)
  /-- ISLAND_STOP (R40). -/
  | islandStop (isl : Nat) (unit : Nat)
  /-- ISLAND_RESTART (R40). -/
  | islandRestart (isl : Nat) (unit : Nat)
  /-- TIME_TRIM_WRITE (R34). -/
  | timeTrimWrite (priv : Bool) (w : Word)
  /-- TIME_STEP_WRITE (R575). -/
  | timeStepWrite (priv : Bool) (w : Word)
  /-- TIME_STEP_APPLY (R574). -/
  | timeStepApply
  /-- REFCLK_LOST (R35). -/
  | refclkLost
  /-- REFCLK_RESTORED (R35). -/
  | refclkRestored
  /-- TOKEN_POST (R61). -/
  | tokenPost (n : Nat) (tok : Word64)
  /-- TOKEN_REJECT (R65). -/
  | tokenReject (n : Nat)
  /-- TOKEN_STALE_REJECT (R66). -/
  | tokenStaleReject (n : Nat)
  /-- TILE_ADMIT (R71). -/
  | tileAdmit (x : CycleIn)
  /-- TILE_DONE (R553). -/
  | tileDone (n : Nat)
  /-- EPOCH_BOUNDARY_REPORT (R75). -/
  | epochBoundaryReport (n : Nat)
  /-- DEMAND_REPORT (R76). -/
  | demandReport (n : Nat)
  /-- CLICKER_REFILL (R80). -/
  | clickerRefill
  /-- GRANT_RECEIVE (R82). -/
  | grantReceive (n : Nat)
  /-- RAMP_ALLOWANCE_COMPUTE (R86). -/
  | rampAllowanceCompute (c : Nat)
  /-- RAMP_ALLOWANCE_RECEIVE (R87). -/
  | rampAllowanceReceive (c : Nat)
  /-- RAMP_WINDOW_START (R88). -/
  | rampWindowStart (c : Nat)
  /-- PHASE_CAPACITY_REPORT (R180). -/
  | phaseCapacityReport
  /-- CLAMP_SOURCE_ASSERT (R96). -/
  | clampSourceAssert (bit : Nat) (unit : Nat)
  /-- CLAMP_RELEASE (R97). -/
  | clampRelease
  /-- CLAMP_FORCE_WRITE (R94). -/
  | clampForceWrite (priv : Bool) (w : Word)
  /-- PARTITION_FAULT (R100). -/
  | partitionFault (n : Nat) (p : Nat)
  /-- PARTITION_READMIT (R102). -/
  | partitionReadmit (priv : Bool) (n : Nat) (pfault : Nat) (w : Word)
  /-- ROLE_WRITE (R104). -/
  | roleWrite (priv : Bool) (n : Nat) (w : Word)
  /-- UNIT_MESSAGE (R105). -/
  | unitMessage (x : UnitIn) (w : Word64)
  /-- JOB_CLEAR_WRITE (R108). -/
  | jobClearWrite (priv : Bool) (m : Nat) (w : Word)
  /-- COST_DATA_WRITE (R69). -/
  | costDataWrite (priv : Bool) (w : Word)
  /-- WELT_HEADROOM_REPORT (R113). -/
  | weltHeadroomReport (c : Nat) (vrail : Nat) (vout : Nat) (iout : Nat) (dropout : Nat)
  /-- NEED_UPDATE (R117). -/
  | needUpdate (l : List NeedIn)
  /-- CLASS_UP_REQUEST (R121). -/
  | classUpRequest (n : Nat)
  /-- CLASS_READY (R122). -/
  | classReady (c : Nat) (vout : Nat)
  /-- CLASS_EXPIRE (R120). -/
  | classExpire (c : Nat)
  /-- CEIL_HOLD_EXPIRE (R125). -/
  | ceilHoldExpire (c : Nat)
  /-- DROOP_TRIP (R129). -/
  | droopTrip (n : Nat) (d : Nat)
  /-- STRETCH_END (R129). -/
  | stretchEnd (e : StretchIn)
  /-- KICK_EXPIRE (R131). -/
  | kickExpire (c : Nat)
  /-- STORM_EXIT (R134). -/
  | stormExit (c : Nat)
  /-- STORM_CLAMP_TIMEOUT (R136). -/
  | stormClampTimeout (c : Nat)
  /-- STORM_FRAC_UPDATE (R137). -/
  | stormFracUpdate
  /-- DETECTOR_STUCK (R138). -/
  | detectorStuck (n : Nat) (d : Nat)
  /-- DETECTOR_UNMASK (R139). -/
  | detectorUnmask (priv : Bool) (n : Nat) (w : Word)
  /-- WELT_ILIM_START (R140). -/
  | weltIlimStart (c : Nat) (iout : Nat)
  /-- WELT_ILIM_TIMEOUT (R140). -/
  | weltIlimTimeout (c : Nat)
  /-- WELT_ILIM_RELEASE (R140). -/
  | weltIlimRelease (c : Nat)
  /-- WELT_OV (R141). -/
  | weltOv (c : Nat) (v : Nat)
  /-- TF_SAMPLE (R146). -/
  | tfSample (p : Nat) (mv : Nat)
  /-- PHASE_CYCLE (R152). -/
  | phaseCycle (p : Nat) (wave : List (Nat × Int)) (cs : List Nat)
  /-- SOFTSTART_COMPLETE (R166). -/
  | softstartComplete (p : Nat)
  /-- PHASE_HICCUP_EXPIRE (R169). -/
  | phaseHiccupExpire (p : Nat) (vcs : Nat) (tf : Nat)
  /-- SENSE_LINE_OPEN (R182). -/
  | senseLineOpen (p : Nat) (ns : Nat)
  /-- SENSE_IMPLAUSIBLE_CHECK (R184). -/
  | senseImplausibleCheck (r : Nat)
  /-- RAIL_SAMPLE (R197). -/
  | railSample (r : Nat) (v : Int) (sig : Int) (coarse : Nat) (cs : List (Nat × Nat))
  /-- PHASE_SHED (R165). -/
  | phaseShed (r : Nat)
  /-- CAPABILITY_UPDATE (R179). -/
  | capabilityUpdate (r : Nat)
  /-- RAIL_OC_HICCUP (R172). -/
  | railOcHiccup (r : Nat)
  /-- RAIL_HICCUP_EXPIRE (R214). -/
  | railHiccupExpire (r : Nat)
  /-- BRAKE_START (R173). -/
  | brakeStart (r : Nat) (v : Nat)
  /-- BRAKE_END (R173). -/
  | brakeEnd (r : Nat) (v : Nat)
  /-- BRAKE_TIMEOUT (R173). -/
  | brakeTimeout (r : Nat)
  /-- SYNC_EDGE (R158). -/
  | syncEdge (ps : Nat)
  /-- SYNC_LOCK (R159). -/
  | syncLock (off : Nat)
  /-- SYNC_LOSS (R160). -/
  | syncLoss
  /-- PHASE_ENABLE_WRITE (R188). -/
  | phaseEnableWrite (priv : Bool) (p : Nat) (w : Word)
  /-- PHASE_DISABLE_WRITE (R189). -/
  | phaseDisableWrite (priv : Bool) (p : Nat) (w : Word)
  /-- DISABLE_HELD_APPLY (R189). -/
  | disableHeldApply (p : Nat)
  /-- PHASE_QUIET_POINT (R190). -/
  | phaseQuietPoint (p : Nat) (vcs : Nat)
  /-- PHASE_FAILED_REPROBE (R188). -/
  | phaseFailedReprobe (priv : Bool) (p : Nat) (w : Word)
  /-- PROBE_COMPLETE (R185). -/
  | probeComplete (p : Nat) (vcs : Nat) (tf : Nat)
  /-- ABSENT_PROBE (R187). -/
  | absentProbe (p : Nat) (vcs : Nat) (tf : Nat)
  /-- RAIL_TARGET_WRITE (R193). -/
  | railTargetWrite (priv : Bool) (r : Nat) (w : Word)
  /-- RAIL_ON_WRITE (R576). -/
  | railOnWrite (priv : Bool) (r : Nat) (w : Word)
  /-- RAIL_OFF_WRITE (R576). -/
  | railOffWrite (priv : Bool) (r : Nat) (w : Word)
  /-- RAIL_COEF_HOLD (R200). -/
  | railCoefHold (priv : Bool) (r : Nat) (w : Word)
  /-- PROFILE_STEP (R201). -/
  | profileStep (r : Nat)
  /-- RAIL_ENTER_ON (R214). -/
  | railEnterOn (r : Nat)
  /-- RAIL_START_TIMEOUT (R214). -/
  | railStartTimeout (r : Nat)
  /-- RAIL_QUIET_POINT (R215). -/
  | railQuietPoint (r : Nat) (cs : List (Nat × Nat))
  /-- RS_LOSS (R205). -/
  | rsLoss (r : Nat) (step : Nat)
  /-- RS_RESTORE (R206). -/
  | rsRestore (r : Nat) (n : Nat)
  /-- SENSE_BOTH_LOST (R207). -/
  | senseBothLost (r : Nat) (coarse : Nat) (ns : Nat)
  /-- RAIL_OVERVOLTAGE (R209). -/
  | railOvervoltage (r : Nat) (coarse : Nat) (ns : Nat)
  /-- SEQUENCE_UP_REQUEST (R219). -/
  | sequenceUpRequest (priv : Bool)
  /-- SEQUENCE_DOWN_REQUEST (R219). -/
  | sequenceDownRequest (priv : Bool)
  /-- SEQ_STEP_BEGIN (R217). -/
  | seqStepBegin
  /-- SEQ_CHECK_WAIT_TIMEOUT (R218). -/
  | seqCheckWaitTimeout
  /-- SEQ_PENDING_UP_START (R219). -/
  | seqPendingUpStart
  /-- SLOT_SAMPLE (R224). -/
  | slotSample (n : Nat)
  /-- SLOT_EVALUATE (R227). -/
  | slotEvaluate
  /-- SLOT_RELEASE (R230). -/
  | slotRelease
  /-- SLOT_HOLD_TIMEOUT (R251). -/
  | slotHoldTimeout (n : Nat)
  /-- CEILING_ARRIVAL (R241). -/
  | ceilingArrival (n : Nat)
  /-- SLOT_ENABLE (R259). -/
  | slotEnable (priv : Bool) (n : Nat) (w : Word)
  /-- SLOT_DISABLE (R259). -/
  | slotDisable (priv : Bool) (n : Nat) (w : Word)
  /-- SLOT_QUIET_POINT (R261). -/
  | slotQuietPoint (n : Nat)
  /-- NOTCH_ASSIGN (R258). -/
  | notchAssign (priv : Bool) (k : Nat) (w : Word)
  /-- LATENCY_CLEAR (R230). -/
  | latencyClear (priv : Bool)
  /-- RAIL_NEED_RECEIVE (R246). -/
  | railNeedReceive
  /-- RAIL_NEED_TIMEOUT (R246). -/
  | railNeedTimeout
  /-- GROUP_RESEND (R245). -/
  | groupResend
  /-- LAST_MARKER (R266). -/
  | lastMarker (l : Nat)
  /-- LAST_MARKER_TIMEOUT (R269). -/
  | lastMarkerTimeout (l : Nat)
  /-- LAST_FADE_END (R270). -/
  | lastFadeEnd (l : Nat)
  /-- LAST_CORRELATION_EVAL (R271). -/
  | lastCorrelationEval (l : Nat)
  /-- LAST_BIN_UPDATE (R272). -/
  | lastBinUpdate (l : Nat)
  /-- LAST_ENABLE_WRITE (R276). -/
  | lastEnableWrite (priv : Bool) (l : Nat) (w : Word)
  /-- LAST_BINLOAD (R277). -/
  | lastBinload (priv : Bool) (w : Word)
  /-- ACTIVITY_WINDOW (R281). -/
  | activityWindow (n : Nat) (counts : List Nat)
  /-- PREDICTOR_EVAL (R284). -/
  | predictorEval (intents : List (Nat × Nat × Nat))
  /-- RESIDUAL_CHECK (R286). -/
  | residualCheck
  /-- SHADOW_CHECK (R288). -/
  | shadowCheck
  /-- PRED_RESUME_GO (R291). -/
  | predResumeGo (priv : Bool)
  /-- PRED_SET_HOLD (R292). -/
  | predSetHold (priv : Bool) (w : Word)
  /-- PRED_GAIN_TRIM (R295). -/
  | predGainTrim
  /-- THERMAL_SAMPLE (R307). -/
  | thermalSample (layer : Nat) (readings : List (Nat × Int × Nat))
  /-- REFRESH_RELEASE (R312). -/
  | refreshRelease (layer : Nat) (unit : Nat)
  /-- BACKSTOP_RELEASE (R315). -/
  | backstopRelease (n : Nat)
  /-- SENSOR_UNBREAK (R305). -/
  | sensorUnbreak (priv : Bool) (w : Word)
  /-- COLUMN_MODEL_STEP (R317). -/
  | columnModelStep
  /-- WINDOW_EXPIRE (R322). -/
  | windowExpire
  /-- WAIT_INTENT (R330). -/
  | waitIntent (d : Nat) (mode : Nat)
  /-- DOMAIN_REQ_WRITE (R329). -/
  | domainReqWrite (priv : Bool) (d : Nat) (w : Word)
  /-- DOMAIN_COMMIT (R335). -/
  | domainCommit (d : Nat) (quiet : Bool) (words : List Nat) (walk : Nat) (bad : List (Nat × Nat))
  /-- DRAIN_TIMEOUT (R339). -/
  | drainTimeout (d : Nat)
  /-- WAKE_EVENT (R342). -/
  | wakeEvent (d : Nat) (src : Nat)
  /-- SAVE_ACCESS_TIMEOUT (R554). -/
  | saveAccessTimeout (d : Nat)
  /-- EYELET_POST (R361). -/
  | eyeletPost (priv : Bool) (ch : Nat) (wide : Bool) (w : Word64)
  /-- COMMAND_TAKE (R378). -/
  | commandTake (ch : Nat) (unread : Bool) (authOk : Bool)
  /-- REPLY_POST (R366). -/
  | replyPost (ch : Nat)
  /-- REPLY_TAKE (R366). -/
  | replyTake (priv : Bool) (ch : Nat) (w : Word)
  /-- EYE_WIN_WRITE (R370). -/
  | eyeWinWrite (priv : Bool) (w : Nat) (data : Word)
  /-- NOTICE_OVERFLOW (R376). -/
  | noticeOverflow
  /-- COMMAND_FINAL_REPLY (R382). -/
  | commandFinalReply (slot : Nat) (ready : Bool)
  /-- VERSION (R386). -/
  | version
  /-- PING (R386). -/
  | ping
  /-- STATE_CENSUS (R401). -/
  | stateCensus
  /-- PHASE_MAP (R386). -/
  | phaseMap
  /-- RAIL_TARGET (R386). -/
  | railTarget
  /-- RAIL_ON (R386). -/
  | railOn
  /-- SEQUENCE (R386). -/
  | sequence
  /-- PLATFORM_CAP (R386). -/
  | platformCap
  /-- RAIL_READ (R386). -/
  | railRead
  /-- PHASE_EN (R386). -/
  | phaseEn
  /-- CLAMP_FORCE (R386). -/
  | clampForce
  /-- SET_ROLE (R386). -/
  | setRole
  /-- SET_PRIORITY (R386). -/
  | setPriority
  /-- SET_CAP (R386). -/
  | setCap
  /-- SET_JOB (R386). -/
  | setJob
  /-- READMIT_PART (R386). -/
  | readmitPart
  /-- UNIT_PING (R386). -/
  | unitPing
  /-- JOB_METER (R386). -/
  | jobMeter
  /-- JOB_READ (R386). -/
  | jobRead
  /-- DOMAIN_REQ (R386). -/
  | domainReq
  /-- WINDOW_OPEN (R322). -/
  | windowOpen
  /-- WINDOW_CLOSE (R386). -/
  | windowClose
  /-- WINDOW_STATUS (R386). -/
  | windowStatus
  /-- PLAN_LOAD (R389). -/
  | planLoad (n : Nat)
  /-- PLAN_TILE (R386). -/
  | planTile
  /-- PLAN_STATUS (R386). -/
  | planStatus
  /-- PLAN_STORE (R386). -/
  | planStore (ok : Bool)
  /-- PLAN_DISCARD (R386). -/
  | planDiscard
  /-- TRACE_START (R509). -/
  | traceStart
  /-- TRACE_STOP (R509). -/
  | traceStop
  /-- TRACE_TRIGGER (R386). -/
  | traceTrigger
  /-- TRACE_STATUS (R509). -/
  | traceStatus
  /-- FAULT_LIST (R386). -/
  | faultList
  /-- FAULT_CLEAR (R443). -/
  | faultClear
  /-- SAFE_EXIT (R448). -/
  | safeExit
  /-- UNFENCE (R444). -/
  | unfence (bad : List Nat)
  /-- AWL_INJECT (R449). -/
  | awlInject
  /-- REPLAN_MARGINS (R483). -/
  | replanMargins
  /-- MARGIN_SCHEDULE (R484). -/
  | marginSchedule
  /-- TREAD_REPORT (R493). -/
  | treadReport
  /-- PRED_STATUS (R386). -/
  | predStatus
  /-- PRED_RESUME (R386). -/
  | predResume
  /-- REMOTE (R430). -/
  | remote
  /-- MODULE_STATUS (R386). -/
  | moduleStatus
  /-- MODULE_BUDGET (R386). -/
  | moduleBudget
  /-- AUTH_CHALLENGE (R532). -/
  | authChallenge
  /-- AUTH_RESPONSE (R534). -/
  | authResponse
  /-- AUTH_DROP (R535). -/
  | authDrop
  /-- AUTH_CHALLENGE_EXPIRE (R532). -/
  | authChallengeExpire
  /-- FW_BEGIN (R386). -/
  | fwBegin
  /-- FW_CHUNK (R386). -/
  | fwChunk
  /-- FW_COMMIT (R525). -/
  | fwCommit (sigOk : Bool)
  /-- FW_ACTIVATE (R387). -/
  | fwActivate
  /-- LOCKSTEP_MISMATCH (R394). -/
  | lockstepMismatch (p : Nat)
  /-- TAKEOVER_RESUME (R395). -/
  | takeoverResume
  /-- FIRMWARE_HEARTBEAT_TIMEOUT (R442). -/
  | firmwareHeartbeatTimeout (p : Nat)
  /-- LACE_SYMBOL_LOCK (R407). -/
  | laceSymbolLock (p : Nat)
  /-- LACE_LANES_ALIGNED (R407). -/
  | laceLanesAligned (p : Nat)
  /-- LACE_TRAIN_TIMEOUT (R407). -/
  | laceTrainTimeout (p : Nat)
  /-- LACE_PORT_DOWN (R407). -/
  | lacePortDown (p : Nat) (lockLost : Bool)
  /-- LACE_WAKE_PATTERN_SEND (R408). -/
  | laceWakePatternSend (p : Nat)
  /-- LACE_FRAME_CRC_FAIL (R410). -/
  | laceFrameCrcFail (p : Nat)
  /-- LACE_RESERVED_TYPE (R414). -/
  | laceReservedType (p : Nat)
  /-- LACE_HELLO (R407). -/
  | laceHello (p : Nat) (frames : List Word64)
  /-- LACE_HELLO_SEND (R414). -/
  | laceHelloSend (p : Nat)
  /-- LACE_DELAY_REQ_SEND (R421). -/
  | laceDelayReqSend (p : Nat) (early : Nat)
  /-- LACE_DELAY_REQ (R421). -/
  | laceDelayReq (p : Nat) (frames : List Word64) (residence : Nat)
  /-- LACE_DELAY_RSP (R421). -/
  | laceDelayRsp (p : Nat) (frames : List Word64) (early : Nat)
  /-- LACE_TIME_SEND (R422). -/
  | laceTimeSend
  /-- LACE_TIME (R423). -/
  | laceTime (p : Nat) (frames : List Word64) (early : Nat)
  /-- LACE_JOIN_SEND (R417). -/
  | laceJoinSend
  /-- LACE_JOIN (R424). -/
  | laceJoin (p : Nat) (frames : List Word64)
  /-- LACE_MEMBERS_SEND (R414). -/
  | laceMembersSend
  /-- LACE_MEMBERS (R418). -/
  | laceMembers (p : Nat) (frames : List Word64)
  /-- LACE_REPORT_SEND (R426). -/
  | laceReportSend
  /-- LACE_REPORT (R428). -/
  | laceReport (p : Nat) (frames : List Word64)
  /-- LACE_DEBT (R427). -/
  | laceDebt (p : Nat) (frames : List Word64)
  /-- LACE_SHARE_COMPUTE (R428). -/
  | laceShareCompute
  /-- LACE_SHARE (R429). -/
  | laceShare (p : Nat) (frames : List Word64)
  /-- LACE_SHARE_TIMEOUT (R429). -/
  | laceShareTimeout
  /-- LACE_MEMBER_TIMEOUT (R418). -/
  | laceMemberTimeout (site : Nat)
  /-- LACE_HEAD_LOST (R420). -/
  | laceHeadLost
  /-- LACE_SITE_CONFLICT (R417). -/
  | laceSiteConflict
  /-- LACE_TIME_TIMEOUT (R425). -/
  | laceTimeTimeout
  /-- LACE_HEAD_START_HOLD_END (R424). -/
  | laceHeadStartHoldEnd
  /-- LACE_SLOW (R435). -/
  | laceSlow (p : Nat) (frames : List Word64)
  /-- LACE_RELAY_CMD (R430). -/
  | laceRelayCmd (p : Nat) (frames : List Word64)
  /-- LACE_RELAY_RSP (R433). -/
  | laceRelayRsp (p : Nat) (frames : List Word64)
  /-- LACE_RELAY_REPLY_FORWARD (R431). -/
  | laceRelayReplyForward
  /-- LACE_RELAY_RETRY (R432). -/
  | laceRelayRetry (slot : Nat)
  /-- FAULT_EVENT_ACCEPT (R439). -/
  | faultEventAccept
  /-- UNCLEARED_WRITE (R443). -/
  | unclearedWrite (priv : Bool) (row : Nat) (w : Word)
  /-- FORCE_SAFE_WRITE (R442). -/
  | forceSafeWrite (priv : Bool) (w : Word)
  /-- AWL_ARM (R449). -/
  | awlArm (priv : Bool) (w : Word)
  /-- AWL_DISARM (R450). -/
  | awlDisarm (priv : Bool) (w : Word)
  /-- SAG_SAVE_START (R453). -/
  | sagSaveStart (vshk : Nat) (hold : Nat)
  /-- HEEL_WRITE_COMPLETE (R455). -/
  | heelWriteComplete (ok : Bool) (vshk : Nat) (hold : Nat)
  /-- SAG_SAVE_STOP (R456). -/
  | sagSaveStop (vshk : Nat) (hold : Nat)
  /-- SAG_RIDE_THROUGH (R457). -/
  | sagRideThrough (vshk : Nat) (hold : Nat)
  /-- TRD_CAL_WRITE (R464). -/
  | trdCalWrite (priv : Bool) (w : Word)
  /-- DRIFT_MEASURE (R466). -/
  | driftMeasure (clocks : List (Nat × Nat))
  /-- EM_ACCUMULATE (R467). -/
  | emAccumulate
  /-- HOLDUP_MEASUREMENT (R469). -/
  | holdupMeasurement (stepUv : Nat) (td : Nat) (tc : Nat)
  /-- MARGIN_WINDOW (R484). -/
  | marginWindow
  /-- RETENTION_REPORT (R474). -/
  | retentionReport (n : Nat) (ms : Nat)
  /-- TREAD_FIT (R476). -/
  | treadFit
  /-- TREAD_INSOLE_SAVE (R487). -/
  | treadInsoleSave (bad : List (Nat × Nat))
  /-- TREAD_CHECKPOINT (R490). -/
  | treadCheckpoint (ok1 : Bool) (ok2 : Bool)
  /-- TRACE_RECORD_ACCEPT (R498). -/
  | traceRecordAccept
  /-- TRC_TRIG_WRITE (R500). -/
  | trcTrigWrite (priv : Bool) (w : Word)
  /-- TRACE_REGION_COMPLETE (R501). -/
  | traceRegionComplete
  /-- TRC_RELEASE_WRITE (R503). -/
  | trcReleaseWrite (priv : Bool) (w : Word)
  /-- TRACE_DROP_REPORT (R505). -/
  | traceDropReport (k : Nat)
  /-- TRACE_RUN_START (R509). -/
  | traceRunStart (priv : Bool) (w : Word)
  /-- TRACE_FRAME_SEND (R507). -/
  | traceFrameSend (n : Nat)
  /-- PAGE (R516). -/
  | page (write : Bool) (w : BitVec 8) (pecBad : Bool)
  /-- CLEAR_FAULTS (R517). -/
  | clearFaults (pecBad : Bool)
  /-- CAPABILITY (R517). -/
  | capability (write : Bool)
  /-- VOUT_MODE (R517). -/
  | voutMode (write : Bool)
  /-- VOUT_COMMAND (R517). -/
  | voutCommand (write : Bool)
  /-- STATUS_BYTE (R519). -/
  | statusByte (write : Bool)
  /-- STATUS_WORD (R519). -/
  | statusWord (write : Bool)
  /-- STATUS_VOUT (R519). -/
  | statusVout (write : Bool)
  /-- STATUS_IOUT (R519). -/
  | statusIout (write : Bool)
  /-- STATUS_TEMPERATURE (R519). -/
  | statusTemperature (write : Bool)
  /-- STATUS_CML (R519). -/
  | statusCml (write : Bool)
  /-- READ_VOUT (R518). -/
  | readVout (write : Bool)
  /-- READ_IOUT (R518). -/
  | readIout (write : Bool)
  /-- READ_TEMPERATURE_1 (R517). -/
  | readTemperature1 (write : Bool)
  /-- READ_TEMPERATURE_2 (R517). -/
  | readTemperature2 (write : Bool)
  /-- READ_TEMPERATURE_3 (R517). -/
  | readTemperature3 (write : Bool)
  /-- READ_POUT (R517). -/
  | readPout (write : Bool)
  /-- PMBUS_REVISION (R517). -/
  | pmbusRevision (write : Bool)
  /-- MFR_ID (R517). -/
  | mfrId (write : Bool)
  /-- MFR_MODEL (R517). -/
  | mfrModel (write : Bool)
  /-- MFR_REVISION (R517). -/
  | mfrRevision (write : Bool)
  /-- MFR_EYE_CMD (R520). -/
  | mfrEyeCmd (bytes : List Nat) (pecBad : Bool)
  /-- MFR_EYE_RSP (R520). -/
  | mfrEyeRsp (write : Bool)
  /-- MFR_EYE_STATUS (R520). -/
  | mfrEyeStatus (write : Bool)
  /-- MFR_EYE_TAKE (R520). -/
  | mfrEyeTake (pecBad : Bool)
  /-- MFR_EYE_CLEAR (R520). -/
  | mfrEyeClear (pecBad : Bool)
  /-- MFR_PAGE_PTR (R520). -/
  | mfrPagePtr (write : Bool) (w : BitVec 16) (pecBad : Bool)
  /-- MFR_PAGE_DATA (R520). -/
  | mfrPageData (write : Bool)
  /-- PMBUS_INVALID_COMMAND (R517). -/
  | pmbusInvalidCommand (code : BitVec 8)
  /-- ALERT_RESPONSE (R515). -/
  | alertResponse
  /-- GOV_LOCK_WRITE (R526). -/
  | govLockWrite (priv : Bool) (w : Word)
  /-- JTAG_INSTRUCTION (R536). -/
  | jtagInstruction (instr : Nat)
  /-- INSOLE_WINDOW_WRITE (R537). -/
  | insoleWindowWrite (priv : Bool) (bank : BitVec 3) (tile : BitVec 8) (word : BitVec 6) (w : Word)
  /-- GOV_SUPPLY_LOSS (R541). -/
  | govSupplyLoss
  /-- COLD_RESET (R561). -/
  | coldReset
  /-- COLD_RESET_END (R567). -/
  | coldResetEnd (site : BitVec 6) (headEn : Bool) (bootSrc : Bool) (selfOk : Bool)
  /-- INSOLE_TEST (R357). -/
  | insoleTest (bad : List Nat)
  /-- HEEL_LOAD (R461). -/
  | heelLoad (vshk : Nat) (hold : Nat)
  /-- BOOT_ROM_START (R524). -/
  | bootRomStart (sig0 : Bool) (sig1 : Bool)
  /-- BOOT_LOADER_WORD (R547). -/
  | bootLoaderWord (unread : Bool) (sigOk : Bool)
  /-- FIRMWARE_BOOT (R567). -/
  | firmwareBoot (ok1 : Bool) (ok2 : Bool)
  /-- FIRMWARE_READY (R526). -/
  | firmwareReady
  /-- WARM_RESET (R562). -/
  | warmReset
  /-- GOV_RESET_WRITE (R562). -/
  | govResetWrite (priv : Bool) (w : Word)
  /-- WARM_RESET_END (R358). -/
  | warmResetEnd
  /-- ADOPT (R564). -/
  | adopt (priv : Bool) (w : Word)
  /-- DIE_RESET (R565). -/
  | dieReset
  /-- DIE_RESET_END (R109). -/
  | dieResetEnd
  /-- READ_SHADOW_LATCH (R18). -/
  | readShadowLatch (priv : Bool) (wide : Bool) (addr : BitVec 18)
  /-- STALL_CYCLE (R73). -/
  | stallCycle (c : CycleIn)
  /-- LACE_MESSAGE_FORWARD (R413). -/
  | laceMessageForward (p : Nat) (frames : List Word64) (residence : Nat)
  /-- DUMMY_LOAD_REQUEST_TOGGLE (R472). -/
  | dummyLoadRequestToggle (z : Nat)
  deriving DecidableEq, Repr

end Sys2Proof
end

