-- ==== Sys2Proof/Config.lean ====
section
/-! DEFINITION. What an implementation fixes: the integration parameters of R53 (the reference
accelerator's values, log entry 1) and the values the spec leaves open (free values: no body). -/
namespace Sys2Proof.Config
open Sys2Proof

/-- CORE_COUNT of R53, at its reference value (log entry 1). -/
def coreCount : Nat := 512
/-- Clusters: CORE_COUNT / 16 (R53). -/
def clusterCount : Nat := coreCount / 16
/-- PHASE_COUNT of R53. -/
def phaseCount : Nat := 96
/-- RAIL_COUNT of R53. -/
def railCount : Nat := 8
/-- LOGIC_SENSORS_PER_CORE of R53. -/
def logicSpc : Nat := 8
/-- MEM_SENSORS_PER_CORE of R53. -/
def memSpc : Nat := 2
/-- EDGE_STACKS of R53. -/
def edgeStacks : Nat := 8
/-- LACE_ENABLE of R53. -/
def laceEnable : Bool := true
/-- The total sensor count of R54. -/
def sensorCount : Nat := coreCount * (logicSpc + memSpc) + 8 * edgeStacks

/-- A free value of `w` bits: the `n`-th value the spec leaves open in a run (log entry 2). -/
opaque freeBits (w n : Nat) : BitVec w

/-- Which cycle of every `n` the clamp gate opens on: R95 fixes the rate and not the cycle (log entry 6). -/
opaque clampOpen (n : Nat) : Nat

/-- Where in every 16 core cycles the skipped ones lie: R238 fixes their number and not their place (log entry 7). -/
opaque skipPlace (k : Nat) : Nat

/-- The tap of the plan's calibration table for a cluster target in mV: R127 names the table and lays out none (log entry
116). -/
opaque tapFor (mv : Nat) : Nat

/-- The wear of a retention monitor whose baseline is not above RET_MIN, in 2^-12: R465 states none (log entry 31). -/
opaque retWear (ret0 retMin ret : Nat) : Nat

end Sys2Proof.Config
end

