-- ==== Sys2Proof/Machine/Tab.lean ====
section
/-! DEFINITION. Sparse tables: a list of (key, value) pairs in one canonical form (keys strictly rising, no
entry equal to what an unlisted key reads as). Indexed state of the block is held in them, so that equal
contents are equal data. -/
namespace Sys2Proof.Machine
open Sys2Proof

/-- A sparse table. -/
abbrev Tab (α : Type) := List (Nat × α)

/-- The value at a key; an unlisted key reads as `d`. -/
def Tab.get {α : Type} (d : α) (t : Tab α) (k : Nat) : α :=
  match t with
  | [] => d
  | (j, v) :: r => if j = k then v else Tab.get d r k

/-- The table without the key. -/
def Tab.erase {α : Type} (t : Tab α) (k : Nat) : Tab α :=
  match t with
  | [] => []
  | (j, v) :: r => if j = k then Tab.erase r k else (j, v) :: Tab.erase r k

/-- The table with the key at the value, placed in order. -/
def Tab.insert {α : Type} (t : Tab α) (k : Nat) (v : α) : Tab α :=
  match t with
  | [] => [(k, v)]
  | (j, w) :: r =>
    if j = k then (k, v) :: r
    else if k < j then (k, v) :: (j, w) :: r
    else (j, w) :: Tab.insert r k v

/-- Write a value; writing what an unlisted key reads as removes the entry. -/
def Tab.set {α : Type} [DecidableEq α] (d : α) (t : Tab α) (k : Nat) (v : α) : Tab α :=
  if v = d then Tab.erase t k else Tab.insert t k v

/-- Keys strictly rising. -/
def Tab.rising {α : Type} (t : Tab α) : Bool :=
  match t with
  | [] => true
  | (j, _) :: r => (match r with
      | [] => true
      | (k, _) :: _ => decide (j < k)) && Tab.rising r

/-- The canonical form: keys strictly rising and no entry at the default. -/
def Tab.wf {α : Type} [DecidableEq α] (d : α) (t : Tab α) : Bool :=
  Tab.rising t && t.all (fun e => decide (e.2 ≠ d))

end Sys2Proof.Machine
end

