-- ==== Sys2Proof/Machine/RegMap.lean ====
section
/-! DEFINITION. The register map: every register of the register tables of spec/01 to spec/16 at the place
spec/17_address_map.md gives it (R568), with its reset domain (R19), its writable fields (R13) and its reset
value; and every named field. -/
namespace Sys2Proof.Machine
open Sys2Proof

/-- The reset domains of R19. -/
inductive Dom where
  | cold | warm | die
  deriving DecidableEq, Repr

/-- What governs the count of present instances (R2, R53). -/
inductive Presence where
  | all | core | cluster | phase | rail | edge | lace | domain
  deriving DecidableEq, Repr

/-- The lock bits that govern RWL fields (R527); the `self` ones are the lock bits themselves (R526). -/
inductive Lock where
  | volt | curr | therm | dieVolt | selfV | selfC | selfT | selfD
  deriving DecidableEq, Repr

/-- The access types of R13 that a write can act through. -/
inductive Acc where
  | rw | w1c | rwl (l : Lock)
  deriving DecidableEq, Repr

/-- A writable field of a register. -/
structure WField where
  hi : Nat
  lo : Nat
  acc : Acc
  deriving DecidableEq, Repr

/-- A register: instance `i` lies at `off + stride * i` for `i < count` (R12, spec/17). -/
structure Reg where
  off : Nat
  stride : Nat
  count : Nat
  dom : Dom
  pres : Presence
  wf : List WField
  rst : Nat → Word

/-- A named field of a register. -/
structure Fld where
  reg : Reg
  lo : Nat
  len : Nat

/-- The reset word of FLTRr_CFG: REACTION, N and window of R442; reserved rows read 0. -/
def fltCfgReset (r : Nat) : Word :=
  match r with
  | 0x00 => 0x80010000
  | 0x01 => 0x80010000
  | 0x02 => 0x80010000
  | 0x03 => 0x40010000
  | 0x04 => 0x40010000
  | 0x05 => 0x800203E8
  | 0x06 => 0x00400001
  | 0x07 => 0x00010000
  | 0x08 => 0x401003E8
  | 0x09 => 0x00010000
  | 0x0A => 0x00010000
  | 0x0B => 0x00010000
  | 0x0C => 0x00010000
  | 0x0D => 0x00010000
  | 0x0E => 0x40030064
  | 0x0F => 0x00010000
  | 0x10 => 0x00010000
  | 0x11 => 0x400403E8
  | 0x12 => 0x80010000
  | 0x20 => 0x40010000
  | 0x21 => 0x400303E8
  | 0x22 => 0x40010000
  | 0x23 => 0x400403E8
  | 0x24 => 0x4003EA60
  | 0x25 => 0x000803E8
  | 0x26 => 0x00010000
  | 0x27 => 0x00010000
  | 0x28 => 0x800303E8
  | 0x29 => 0x80010000
  | 0x2A => 0x00010000
  | 0x2B => 0x00040064
  | 0x2C => 0x00010000
  | 0x2D => 0x00010000
  | 0x2E => 0x00010000
  | 0x40 => 0x40100001
  | 0x41 => 0x000803E8
  | 0x42 => 0x00010000
  | 0x43 => 0x40010000
  | 0x44 => 0x00080064
  | 0x45 => 0x00010000
  | 0x46 => 0x00010000
  | 0x47 => 0x00010000
  | 0x50 => 0x00010000
  | 0x51 => 0x00010000
  | 0x52 => 0x00010000
  | 0x53 => 0x00010000
  | 0x60 => 0x40010000
  | 0x70 => 0x400403E8
  | 0x71 => 0x00010000
  | _ => 0

/-- The reset word of TRC_SRCs_CFG: the default priority of R495. -/
def trcSrcReset (s : Nat) : Word :=
  BitVec.ofNat 32 ([3, 2, 1, 4, 2, 2, 5, 3, 1, 3, 1, 6, 4, 3, 0].getD s 0)

/-- The class delays of the reference plan (the table before R345), in units of 10 ns, DRAIN_MAX in µs:
RAMP, RAMP_R, CLOCK, SAVE, RESTORE, RELEASE, RETAIN, GATE, DRAIN_MAX. -/
def pwrDelays (k : Nat) : List Nat :=
  match k with
  | 0 => [400, 100, 20, 120, 150, 5, 50, 20, 20]
  | 1 => [1200, 300, 50, 50, 50, 10, 100, 50, 50]
  | 2 => [2000, 500, 100, 60, 80, 10, 100, 50, 100]
  | 3 => [5000, 1000, 200, 200, 300, 20, 200, 100, 200]
  | 4 => [1000, 200, 50, 400, 600, 10, 100, 50, 1000]
  | 5 => [800, 200, 40, 300, 500, 10, 50, 50, 100]
  | 6 => [500, 100, 40, 30, 40, 10, 50, 20, 50]
  | 7 => [500, 100, 40, 30, 40, 10, 50, 20, 50]
  | 8 => [300, 300, 20, 30, 40, 5, 50, 20, 20]
  | 9 => [0, 0, 0, 0, 0, 0, 0, 0, 10]
  | _ => []

/-- The reset word of PWRCLk_DLYj. -/
def pwrDelayReset (k j : Nat) : Word :=
  let d := fun n => (pwrDelays k).getD n 0
  BitVec.ofNat 32 (match j with
    | 0 => d 1 * 65536 + d 0
    | 1 => d 4 * 65536 + d 2
    | 2 => d 3 * 65536 + d 5
    | 3 => d 7 * 65536 + d 6
    | _ => d 8)

/-- The default parent of a domain (R326); a parent "from the plan" is none until the plan is loaded
(log entry 3). -/
def defaultParent (d : Nat) : Nat :=
  if d < 0x400 then 0x400 + d / 16
  else if d < 0x440 then 0x468
  else if d = 0x464 then 0x468
  else 0x7FF

/-- The reset word of PWRd_CTRL: REQ 0b11, LINK_WAKE 1 and the default parent. -/
def pwrCtrlReset (d : Nat) : Word := BitVec.ofNat 32 (0x34000000 + defaultParent d)

/-- The integration values of GOV_PARAM0. -/
def govParam0Reset : Word :=
  BitVec.ofNat 32 (Config.coreCount * 0x10000 + Config.phaseCount * 0x100 + Config.railCount * 16 + Config.edgeStacks)

/-- The integration values of GOV_PARAM1. -/
def govParam1Reset : Word :=
  BitVec.ofNat 32 ((if Config.laceEnable then 0x400000 else 0) + Config.logicSpc * 0x40000 + Config.memSpc * 0x8000
    + Config.sensorCount)

/-- GOV_ID, spec chapter 01. -/
def R.GOV_ID : Reg := ⟨0x00000, 0x4, 1, .cold, .all, [], fun _ => 0x02000064⟩
def F.GOV_ID_BLOCK_MAJOR : Fld := ⟨R.GOV_ID, 24, 8⟩
def F.GOV_ID_BLOCK_MINOR : Fld := ⟨R.GOV_ID, 16, 8⟩
def F.GOV_ID_PART : Fld := ⟨R.GOV_ID, 0, 16⟩
/-- GOV_PARAM0, spec chapter 01. -/
def R.GOV_PARAM0 : Reg := ⟨0x00004, 0x4, 1, .cold, .all, [], fun _ => govParam0Reset⟩
def F.GOV_PARAM0_CORE_COUNT : Fld := ⟨R.GOV_PARAM0, 16, 11⟩
def F.GOV_PARAM0_PHASE_COUNT : Fld := ⟨R.GOV_PARAM0, 8, 7⟩
def F.GOV_PARAM0_RAIL_COUNT : Fld := ⟨R.GOV_PARAM0, 4, 4⟩
def F.GOV_PARAM0_EDGE_STACKS : Fld := ⟨R.GOV_PARAM0, 0, 4⟩
/-- GOV_PARAM1, spec chapter 01. -/
def R.GOV_PARAM1 : Reg := ⟨0x00008, 0x4, 1, .cold, .all, [], fun _ => govParam1Reset⟩
def F.GOV_PARAM1_LACE_ENABLE : Fld := ⟨R.GOV_PARAM1, 22, 1⟩
def F.GOV_PARAM1_LOGIC_SPC : Fld := ⟨R.GOV_PARAM1, 18, 4⟩
def F.GOV_PARAM1_MEM_SPC : Fld := ⟨R.GOV_PARAM1, 15, 3⟩
def F.GOV_PARAM1_SENSOR_COUNT : Fld := ⟨R.GOV_PARAM1, 0, 14⟩
/-- GOV_LOCK, spec chapter 15. -/
def R.GOV_LOCK : Reg := ⟨0x00010, 0x4, 1, .warm, .all, [⟨2, 2, .rwl .selfT⟩, ⟨1, 1, .rwl .selfC⟩, ⟨0, 0, .rwl .selfV⟩], fun _ => 0x00000000⟩
def F.GOV_LOCK_THERM : Fld := ⟨R.GOV_LOCK, 2, 1⟩
def F.GOV_LOCK_CURR : Fld := ⟨R.GOV_LOCK, 1, 1⟩
def F.GOV_LOCK_VOLT : Fld := ⟨R.GOV_LOCK, 0, 1⟩
/-- GOV_LOCK_DIE, spec chapter 15. -/
def R.GOV_LOCK_DIE : Reg := ⟨0x00014, 0x4, 1, .die, .all, [⟨0, 0, .rwl .selfD⟩], fun _ => 0x00000000⟩
def F.GOV_LOCK_DIE_VOLT : Fld := ⟨R.GOV_LOCK_DIE, 0, 1⟩
/-- GOV_SEC, spec chapter 15. -/
def R.GOV_SEC : Reg := ⟨0x00018, 0x4, 1, .warm, .all, [], fun _ => 0x00000000⟩
def F.GOV_SEC_BOOT : Fld := ⟨R.GOV_SEC, 30, 2⟩
def F.GOV_SEC_SLOT : Fld := ⟨R.GOV_SEC, 29, 1⟩
def F.GOV_SEC_HOST_IMG : Fld := ⟨R.GOV_SEC, 28, 1⟩
def F.GOV_SEC_SCOPE : Fld := ⟨R.GOV_SEC, 16, 8⟩
def F.GOV_SEC_SVN : Fld := ⟨R.GOV_SEC, 0, 16⟩
/-- GOV_ARB, spec chapter 15. -/
def R.GOV_ARB : Reg := ⟨0x0001C, 0x4, 1, .warm, .all, [], fun _ => 0x00000000⟩
def F.GOV_ARB_COUNTER : Fld := ⟨R.GOV_ARB, 0, 16⟩
/-- GOV_RESET, spec chapter 16. -/
def R.GOV_RESET : Reg := ⟨0x00020, 0x4, 1, .cold, .all, [⟨0, 0, .rw⟩], fun _ => 0x00000000⟩
def F.GOV_RESET_STATUS : Fld := ⟨R.GOV_RESET, 30, 2⟩
def F.GOV_RESET_LAST_CAUSE : Fld := ⟨R.GOV_RESET, 20, 4⟩
def F.GOV_RESET_COUNT : Fld := ⟨R.GOV_RESET, 8, 8⟩
def F.GOV_RESET_WARM : Fld := ⟨R.GOV_RESET, 0, 1⟩
/-- GOV_ADOPT, spec chapter 16. -/
def R.GOV_ADOPT : Reg := ⟨0x00024, 0x4, 1, .warm, .all, [⟨0, 0, .rw⟩], fun _ => 0x00000000⟩
def F.GOV_ADOPT_STATUS : Fld := ⟨R.GOV_ADOPT, 30, 2⟩
def F.GOV_ADOPT_ADOPT : Fld := ⟨R.GOV_ADOPT, 0, 1⟩
/-- GOV_BOOT, spec chapter 16. -/
def R.GOV_BOOT : Reg := ⟨0x00028, 0x4, 1, .cold, .all, [], fun _ => 0x00000000⟩
def F.GOV_BOOT_HOLD_OK : Fld := ⟨R.GOV_BOOT, 31, 1⟩
def F.GOV_BOOT_VGOV_OK : Fld := ⟨R.GOV_BOOT, 30, 1⟩
def F.GOV_BOOT_REFCLK_OK : Fld := ⟨R.GOV_BOOT, 29, 1⟩
def F.GOV_BOOT_STAGE : Fld := ⟨R.GOV_BOOT, 0, 4⟩
/-- EYE_CTRL, spec chapter 10. -/
def R.EYE_CTRL : Reg := ⟨0x01000, 0x4, 1, .cold, .all, [⟨3, 0, .rw⟩], fun _ => 0x00000000⟩
def F.EYE_CTRL_NOTICE_CH : Fld := ⟨R.EYE_CTRL, 0, 4⟩
/-- EYE_FW, spec chapter 10. -/
def R.EYE_FW : Reg := ⟨0x01004, 0x4, 1, .cold, .all, [], fun _ => 0x00000000⟩
def F.EYE_FW_FW_MAJOR : Fld := ⟨R.EYE_FW, 24, 8⟩
def F.EYE_FW_FW_MINOR : Fld := ⟨R.EYE_FW, 16, 8⟩
def F.EYE_FW_STANDBY_READY : Fld := ⟨R.EYE_FW, 5, 1⟩
def F.EYE_FW_ACTIVE : Fld := ⟨R.EYE_FW, 4, 1⟩
def F.EYE_FW_FENCED_B : Fld := ⟨R.EYE_FW, 1, 1⟩
def F.EYE_FW_FENCED_A : Fld := ⟨R.EYE_FW, 0, 1⟩
/-- EYE_IRQ, spec chapter 10. -/
def R.EYE_IRQ : Reg := ⟨0x01008, 0x4, 1, .cold, .all, [⟨24, 16, .w1c⟩, ⟨8, 0, .w1c⟩], fun _ => 0x00000000⟩
def F.EYE_IRQ_REPLY : Fld := ⟨R.EYE_IRQ, 16, 9⟩
def F.EYE_IRQ_EMPTY : Fld := ⟨R.EYE_IRQ, 0, 9⟩
/-- EYE_IRQ_EN, spec chapter 10. -/
def R.EYE_IRQ_EN : Reg := ⟨0x0100C, 0x4, 1, .cold, .all, [⟨24, 16, .rw⟩, ⟨8, 0, .rw⟩], fun _ => 0x00000000⟩
def F.EYE_IRQ_EN_REPLY : Fld := ⟨R.EYE_IRQ_EN, 16, 9⟩
def F.EYE_IRQ_EN_EMPTY : Fld := ⟨R.EYE_IRQ_EN, 0, 9⟩
/-- EYE_NOTICE, spec chapter 10. -/
def R.EYE_NOTICE : Reg := ⟨0x01010, 0x4, 1, .cold, .all, [], fun _ => 0x00000000⟩
def F.EYE_NOTICE_LOST : Fld := ⟨R.EYE_NOTICE, 16, 16⟩
def F.EYE_NOTICE_QUEUED : Fld := ⟨R.EYE_NOTICE, 0, 9⟩
/-- EYE_WIN_SEL, spec chapter 10. -/
def R.EYE_WIN_SEL : Reg := ⟨0x01014, 0x4, 1, .cold, .all, [⟨4, 4, .rw⟩, ⟨3, 0, .rw⟩], fun _ => 0x00000000⟩
def F.EYE_WIN_SEL_HALF : Fld := ⟨R.EYE_WIN_SEL, 4, 1⟩
def F.EYE_WIN_SEL_CH : Fld := ⟨R.EYE_WIN_SEL, 0, 4⟩
/-- EYE_JOURNAL, spec chapter 10. -/
def R.EYE_JOURNAL : Reg := ⟨0x01018, 0x4, 1, .cold, .all, [], fun _ => 0x00000000⟩
def F.EYE_JOURNAL_OPEN : Fld := ⟨R.EYE_JOURNAL, 16, 9⟩
def F.EYE_JOURNAL_USED : Fld := ⟨R.EYE_JOURNAL, 0, 11⟩
/-- EYE_CENSUS, spec chapter 10. -/
def R.EYE_CENSUS : Reg := ⟨0x0101C, 0x4, 1, .cold, .all, [], fun _ => 0x00000000⟩
def F.EYE_CENSUS_GEN : Fld := ⟨R.EYE_CENSUS, 8, 24⟩
def F.EYE_CENSUS_PARTS : Fld := ⟨R.EYE_CENSUS, 0, 8⟩
/-- EYEc_CMD_LO, spec chapter 10. -/
def R.EYEc_CMD_LO : Reg := ⟨0x01100, 0x20, 9, .cold, .all, [⟨31, 0, .rw⟩], fun _ => 0x00000000⟩
def F.EYEc_CMD_LO_CMD : Fld := ⟨R.EYEc_CMD_LO, 0, 32⟩
/-- EYEc_CMD_HI, spec chapter 10. -/
def R.EYEc_CMD_HI : Reg := ⟨0x01104, 0x20, 9, .cold, .all, [⟨31, 0, .rw⟩], fun _ => 0x00000000⟩
def F.EYEc_CMD_HI_CMD : Fld := ⟨R.EYEc_CMD_HI, 0, 32⟩
/-- EYEc_RSP_LO, spec chapter 10. -/
def R.EYEc_RSP_LO : Reg := ⟨0x01108, 0x20, 9, .cold, .all, [], fun _ => 0x00000000⟩
def F.EYEc_RSP_LO_RSP : Fld := ⟨R.EYEc_RSP_LO, 0, 32⟩
/-- EYEc_RSP_HI, spec chapter 10. -/
def R.EYEc_RSP_HI : Reg := ⟨0x0110C, 0x20, 9, .cold, .all, [], fun _ => 0x00000000⟩
def F.EYEc_RSP_HI_RSP : Fld := ⟨R.EYEc_RSP_HI, 0, 32⟩
/-- EYEc_STATUS, spec chapter 10. -/
def R.EYEc_STATUS : Reg := ⟨0x01110, 0x20, 9, .cold, .all, [⟨30, 30, .w1c⟩, ⟨29, 29, .w1c⟩, ⟨27, 27, .w1c⟩], fun _ => 0x00000000⟩
def F.EYEc_STATUS_CMD_FULL : Fld := ⟨R.EYEc_STATUS, 31, 1⟩
def F.EYEc_STATUS_RSP_FULL : Fld := ⟨R.EYEc_STATUS, 30, 1⟩
def F.EYEc_STATUS_WR_REFUSED : Fld := ⟨R.EYEc_STATUS, 29, 1⟩
def F.EYEc_STATUS_PAGE_BUSY : Fld := ⟨R.EYEc_STATUS, 28, 1⟩
def F.EYEc_STATUS_PAGE_WR_REFUSED : Fld := ⟨R.EYEc_STATUS, 27, 1⟩
def F.EYEc_STATUS_CMD_HELD : Fld := ⟨R.EYEc_STATUS, 26, 1⟩
def F.EYEc_STATUS_RSP_QUEUED : Fld := ⟨R.EYEc_STATUS, 16, 5⟩
def F.EYEc_STATUS_EXP_SEQ : Fld := ⟨R.EYEc_STATUS, 0, 16⟩
/-- EYEc_COUNT, spec chapter 10. -/
def R.EYEc_COUNT : Reg := ⟨0x01114, 0x20, 9, .cold, .all, [], fun _ => 0x00000000⟩
def F.EYEc_COUNT_ACCEPTED : Fld := ⟨R.EYEc_COUNT, 16, 16⟩
def F.EYEc_COUNT_NOT_ACCEPTED : Fld := ⟨R.EYEc_COUNT, 0, 16⟩
/-- EYEc_LAST, spec chapter 10. -/
def R.EYEc_LAST : Reg := ⟨0x01118, 0x20, 9, .cold, .all, [], fun _ => 0x00000000⟩
def F.EYEc_LAST_SEQ : Fld := ⟨R.EYEc_LAST, 16, 16⟩
def F.EYEc_LAST_OPCODE : Fld := ⟨R.EYEc_LAST, 0, 8⟩
/-- EYE_WINw, spec chapter 10. -/
def R.EYE_WINw : Reg := ⟨0x01800, 0x4, 512, .cold, .all, [⟨31, 0, .rw⟩], fun _ => 0x00000000⟩
def F.EYE_WINw_DATA : Fld := ⟨R.EYE_WINw, 0, 32⟩
/-- TIME_NOW_LO, spec chapter 01. -/
def R.TIME_NOW_LO : Reg := ⟨0x02000, 0x4, 1, .cold, .all, [], fun _ => 0x00000000⟩
def F.TIME_NOW_LO_NOW : Fld := ⟨R.TIME_NOW_LO, 0, 32⟩
/-- TIME_NOW_HI, spec chapter 01. -/
def R.TIME_NOW_HI : Reg := ⟨0x02004, 0x4, 1, .cold, .all, [], fun _ => 0x00000000⟩
def F.TIME_NOW_HI_NOW : Fld := ⟨R.TIME_NOW_HI, 0, 32⟩
/-- TIME_TRIM, spec chapter 01. -/
def R.TIME_TRIM : Reg := ⟨0x02008, 0x4, 1, .cold, .all, [⟨31, 0, .rw⟩], fun _ => 0x00000000⟩
def F.TIME_TRIM_TRIM : Fld := ⟨R.TIME_TRIM, 0, 32⟩
/-- TIME_STEP, spec chapter 01. -/
def R.TIME_STEP : Reg := ⟨0x0200C, 0x4, 1, .cold, .all, [⟨29, 0, .rw⟩], fun _ => 0x00000000⟩
def F.TIME_STEP_STATUS : Fld := ⟨R.TIME_STEP, 30, 2⟩
def F.TIME_STEP_STEP_NS : Fld := ⟨R.TIME_STEP, 0, 30⟩
/-- TIME_STATUS, spec chapter 01. -/
def R.TIME_STATUS : Reg := ⟨0x02010, 0x4, 1, .cold, .all, [⟨3, 3, .w1c⟩, ⟨2, 2, .w1c⟩], fun _ => 0x00000000⟩
def F.TIME_STATUS_STARTED : Fld := ⟨R.TIME_STATUS, 4, 1⟩
def F.TIME_STATUS_TRIM_CLAMPED : Fld := ⟨R.TIME_STATUS, 3, 1⟩
def F.TIME_STATUS_REFCLK_LOST : Fld := ⟨R.TIME_STATUS, 2, 1⟩
def F.TIME_STATUS_ON_OSC : Fld := ⟨R.TIME_STATUS, 1, 1⟩
def F.TIME_STATUS_RESUMED : Fld := ⟨R.TIME_STATUS, 0, 1⟩
/-- FLT_CTRL, spec chapter 12. -/
def R.FLT_CTRL : Reg := ⟨0x03000, 0x4, 1, .cold, .all, [⟨1, 1, .rw⟩], fun _ => 0x00000000⟩
def F.FLT_CTRL_FORCE_SAFE : Fld := ⟨R.FLT_CTRL, 1, 1⟩
/-- FLT_STATUS, spec chapter 12. -/
def R.FLT_STATUS : Reg := ⟨0x03004, 0x4, 1, .cold, .all, [], fun _ => 0x00000000⟩
def F.FLT_STATUS_SAFE : Fld := ⟨R.FLT_STATUS, 31, 1⟩
def F.FLT_STATUS_SAG_ACTIVE : Fld := ⟨R.FLT_STATUS, 30, 1⟩
def F.FLT_STATUS_SELF_FAULT : Fld := ⟨R.FLT_STATUS, 29, 1⟩
def F.FLT_STATUS_SAFE_CAUSE : Fld := ⟨R.FLT_STATUS, 16, 8⟩
def F.FLT_STATUS_N_UNCLEARED : Fld := ⟨R.FLT_STATUS, 0, 9⟩
/-- FLT_UNCLEAREDk, spec chapter 12. -/
def R.FLT_UNCLEAREDk : Reg := ⟨0x03010, 0x4, 8, .cold, .all, [], fun _ => 0x00000000⟩
def F.FLT_UNCLEAREDk_ROWS : Fld := ⟨R.FLT_UNCLEAREDk, 0, 32⟩
/-- FLT_SAG, spec chapter 12. -/
def R.FLT_SAG : Reg := ⟨0x03040, 0x4, 1, .cold, .all, [⟨29, 29, .w1c⟩, ⟨28, 28, .w1c⟩, ⟨27, 27, .w1c⟩], fun _ => 0x00000000⟩
def F.FLT_SAG_STATE : Fld := ⟨R.FLT_SAG, 30, 2⟩
def F.FLT_SAG_HEEL_FAIL : Fld := ⟨R.FLT_SAG, 29, 1⟩
def F.FLT_SAG_RIDE : Fld := ⟨R.FLT_SAG, 28, 1⟩
def F.FLT_SAG_RETRY : Fld := ⟨R.FLT_SAG, 27, 1⟩
def F.FLT_SAG_SLOT : Fld := ⟨R.FLT_SAG, 26, 1⟩
def F.FLT_SAG_LAST_TIME : Fld := ⟨R.FLT_SAG, 0, 16⟩
/-- FLT_HEEL_SEQ, spec chapter 12. -/
def R.FLT_HEEL_SEQ : Reg := ⟨0x03044, 0x4, 1, .cold, .all, [], fun _ => 0x00000000⟩
def F.FLT_HEEL_SEQ_SEQNUM : Fld := ⟨R.FLT_HEEL_SEQ, 0, 32⟩
/-- FLT_HOLD, spec chapter 12. -/
def R.FLT_HOLD : Reg := ⟨0x03048, 0x4, 1, .cold, .all, [], fun _ => 0x00000000⟩
def F.FLT_HOLD_VSHK : Fld := ⟨R.FLT_HOLD, 16, 16⟩
def F.FLT_HOLD_HOLD : Fld := ⟨R.FLT_HOLD, 0, 16⟩
/-- FLT_BOOT, spec chapter 12. -/
def R.FLT_BOOT : Reg := ⟨0x0304C, 0x4, 1, .cold, .all, [], fun _ => 0x00000000⟩
def F.FLT_BOOT_LOADED : Fld := ⟨R.FLT_BOOT, 31, 1⟩
def F.FLT_BOOT_EXPECTED_BAD : Fld := ⟨R.FLT_BOOT, 30, 1⟩
def F.FLT_BOOT_FROM_SAFE : Fld := ⟨R.FLT_BOOT, 29, 1⟩
def F.FLT_BOOT_SLOT : Fld := ⟨R.FLT_BOOT, 8, 1⟩
def F.FLT_BOOT_CAUSE : Fld := ⟨R.FLT_BOOT, 0, 8⟩
/-- FLT_AWL, spec chapter 12. -/
def R.FLT_AWL : Reg := ⟨0x03050, 0x4, 1, .cold, .all, [⟨17, 17, .rw⟩, ⟨16, 16, .rw⟩, ⟨15, 0, .rw⟩], fun _ => 0x00000000⟩
def F.FLT_AWL_STATUS : Fld := ⟨R.FLT_AWL, 30, 2⟩
def F.FLT_AWL_DISARM : Fld := ⟨R.FLT_AWL, 17, 1⟩
def F.FLT_AWL_REPEAT : Fld := ⟨R.FLT_AWL, 16, 1⟩
def F.FLT_AWL_CHECKER : Fld := ⟨R.FLT_AWL, 0, 16⟩
/-- FLT_AWL_COUNT, spec chapter 12. -/
def R.FLT_AWL_COUNT : Reg := ⟨0x03054, 0x4, 1, .cold, .all, [], fun _ => 0x00000000⟩
def F.FLT_AWL_COUNT_COUNT : Fld := ⟨R.FLT_AWL_COUNT, 0, 32⟩
/-- FLT_TRK_SEL, spec chapter 12. -/
def R.FLT_TRK_SEL : Reg := ⟨0x03060, 0x4, 1, .cold, .all, [⟨15, 8, .rw⟩, ⟨2, 0, .rw⟩], fun _ => 0x00000000⟩
def F.FLT_TRK_SEL_ROW : Fld := ⟨R.FLT_TRK_SEL, 8, 8⟩
def F.FLT_TRK_SEL_ENTRY : Fld := ⟨R.FLT_TRK_SEL, 0, 3⟩
/-- FLT_TRK_DATA, spec chapter 12. -/
def R.FLT_TRK_DATA : Reg := ⟨0x03064, 0x4, 1, .cold, .all, [], fun _ => 0x00000000⟩
def F.FLT_TRK_DATA_USED : Fld := ⟨R.FLT_TRK_DATA, 31, 1⟩
def F.FLT_TRK_DATA_UNIT : Fld := ⟨R.FLT_TRK_DATA, 16, 15⟩
def F.FLT_TRK_DATA_COUNT : Fld := ⟨R.FLT_TRK_DATA, 8, 8⟩
def F.FLT_TRK_DATA_AGE_MS : Fld := ⟨R.FLT_TRK_DATA, 0, 8⟩
/-- FLTRr_CFG, spec chapter 12. -/
def R.FLTRr_CFG : Reg := ⟨0x03400, 0x10, 256, .cold, .all, [⟨31, 30, .rw⟩, ⟨23, 16, .rw⟩, ⟨15, 0, .rw⟩], fun r => fltCfgReset r⟩
def F.FLTRr_CFG_REACTION : Fld := ⟨R.FLTRr_CFG, 30, 2⟩
def F.FLTRr_CFG_N : Fld := ⟨R.FLTRr_CFG, 16, 8⟩
def F.FLTRr_CFG_WIN_MS : Fld := ⟨R.FLTRr_CFG, 0, 16⟩
/-- FLTRr_STATUS, spec chapter 12. -/
def R.FLTRr_STATUS : Reg := ⟨0x03404, 0x10, 256, .cold, .all, [⟨31, 31, .w1c⟩], fun _ => 0x00000000⟩
def F.FLTRr_STATUS_UNCLEARED : Fld := ⟨R.FLTRr_STATUS, 31, 1⟩
def F.FLTRr_STATUS_LEVEL : Fld := ⟨R.FLTRr_STATUS, 30, 1⟩
def F.FLTRr_STATUS_TRK_USED : Fld := ⟨R.FLTRr_STATUS, 16, 4⟩
def F.FLTRr_STATUS_SEVERE : Fld := ⟨R.FLTRr_STATUS, 0, 16⟩
/-- FLTRr_TOTAL, spec chapter 12. -/
def R.FLTRr_TOTAL : Reg := ⟨0x03408, 0x10, 256, .cold, .all, [], fun _ => 0x00000000⟩
def F.FLTRr_TOTAL_EVENTS : Fld := ⟨R.FLTRr_TOTAL, 0, 32⟩
/-- FLTRr_LAST, spec chapter 12. -/
def R.FLTRr_LAST : Reg := ⟨0x0340C, 0x10, 256, .cold, .all, [], fun _ => 0x00000000⟩
def F.FLTRr_LAST_AWL : Fld := ⟨R.FLTRr_LAST, 31, 1⟩
def F.FLTRr_LAST_UNIT : Fld := ⟨R.FLTRr_LAST, 16, 15⟩
def F.FLTRr_LAST_ARG : Fld := ⟨R.FLTRr_LAST, 0, 16⟩
/-- PWR_DIR, spec chapter 09. -/
def R.PWR_DIR : Reg := ⟨0x05000, 0x4, 1, .warm, .all, [⟨26, 16, .rw⟩, ⟨10, 0, .rw⟩], fun _ => 0x07FF07FF⟩
def F.PWR_DIR_DIR_B : Fld := ⟨R.PWR_DIR, 16, 11⟩
def F.PWR_DIR_DIR_A : Fld := ⟨R.PWR_DIR, 0, 11⟩
/-- PWR_STATUS, spec chapter 09. -/
def R.PWR_STATUS : Reg := ⟨0x05004, 0x4, 1, .warm, .all, [⟨2, 2, .w1c⟩], fun _ => 0x00000000⟩
def F.PWR_STATUS_N_ROUTE : Fld := ⟨R.PWR_STATUS, 21, 11⟩
def F.PWR_STATUS_DIR_BAD : Fld := ⟨R.PWR_STATUS, 2, 1⟩
def F.PWR_STATUS_HELD : Fld := ⟨R.PWR_STATUS, 1, 1⟩
def F.PWR_STATUS_WAKE_HELD : Fld := ⟨R.PWR_STATUS, 0, 1⟩
/-- PWR_INSOLE, spec chapter 09. -/
def R.PWR_INSOLE : Reg := ⟨0x05008, 0x4, 1, .cold, .all, [], fun _ => 0x00000000⟩
def F.PWR_INSOLE_FENCED : Fld := ⟨R.PWR_INSOLE, 24, 8⟩
def F.PWR_INSOLE_SINGLE : Fld := ⟨R.PWR_INSOLE, 0, 12⟩
/-- PWR_EVICT, spec chapter 09. -/
def R.PWR_EVICT : Reg := ⟨0x0500C, 0x4, 1, .cold, .all, [], fun _ => 0x00000000⟩
def F.PWR_EVICT_EVICTED : Fld := ⟨R.PWR_EVICT, 0, 16⟩
/-- PWR_COUNT, spec chapter 09. -/
def R.PWR_COUNT : Reg := ⟨0x05010, 0x4, 1, .cold, .all, [], fun _ => 0x00000000⟩
def F.PWR_COUNT_LOST : Fld := ⟨R.PWR_COUNT, 16, 16⟩
def F.PWR_COUNT_SECOND : Fld := ⟨R.PWR_COUNT, 0, 16⟩
/-- PWRCLk_DLY0, spec chapter 09. -/
def R.PWRCLk_DLY0 : Reg := ⟨0x05100, 0x20, 10, .warm, .all, [⟨31, 16, .rw⟩, ⟨15, 0, .rw⟩], fun k => pwrDelayReset k 0⟩
def F.PWRCLk_DLY0_RAMP_R : Fld := ⟨R.PWRCLk_DLY0, 16, 16⟩
def F.PWRCLk_DLY0_RAMP : Fld := ⟨R.PWRCLk_DLY0, 0, 16⟩
/-- PWRCLk_DLY1, spec chapter 09. -/
def R.PWRCLk_DLY1 : Reg := ⟨0x05104, 0x20, 10, .warm, .all, [⟨31, 16, .rw⟩, ⟨15, 0, .rw⟩], fun k => pwrDelayReset k 1⟩
def F.PWRCLk_DLY1_RESTORE : Fld := ⟨R.PWRCLk_DLY1, 16, 16⟩
def F.PWRCLk_DLY1_CLOCK : Fld := ⟨R.PWRCLk_DLY1, 0, 16⟩
/-- PWRCLk_DLY2, spec chapter 09. -/
def R.PWRCLk_DLY2 : Reg := ⟨0x05108, 0x20, 10, .warm, .all, [⟨31, 16, .rw⟩, ⟨15, 0, .rw⟩], fun k => pwrDelayReset k 2⟩
def F.PWRCLk_DLY2_SAVE : Fld := ⟨R.PWRCLk_DLY2, 16, 16⟩
def F.PWRCLk_DLY2_RELEASE : Fld := ⟨R.PWRCLk_DLY2, 0, 16⟩
/-- PWRCLk_DLY3, spec chapter 09. -/
def R.PWRCLk_DLY3 : Reg := ⟨0x0510C, 0x20, 10, .warm, .all, [⟨31, 16, .rw⟩, ⟨15, 0, .rw⟩], fun k => pwrDelayReset k 3⟩
def F.PWRCLk_DLY3_GATE : Fld := ⟨R.PWRCLk_DLY3, 16, 16⟩
def F.PWRCLk_DLY3_RETAIN : Fld := ⟨R.PWRCLk_DLY3, 0, 16⟩
/-- PWRCLk_DLY4, spec chapter 09. -/
def R.PWRCLk_DLY4 : Reg := ⟨0x05110, 0x20, 10, .warm, .all, [⟨15, 0, .rw⟩], fun k => pwrDelayReset k 4⟩
def F.PWRCLk_DLY4_DRAIN_MAX : Fld := ⟨R.PWRCLk_DLY4, 0, 16⟩
/-- PWRBb_STATUS, spec chapter 09. -/
def R.PWRBb_STATUS : Reg := ⟨0x05300, 0x10, 8, .cold, .all, [⟨30, 30, .w1c⟩], fun _ => 0x20000000⟩
def F.PWRBb_STATUS_FENCED : Fld := ⟨R.PWRBb_STATUS, 31, 1⟩
def F.PWRBb_STATUS_CANARY_FAIL : Fld := ⟨R.PWRBb_STATUS, 30, 1⟩
def F.PWRBb_STATUS_SPARES_FREE : Fld := ⟨R.PWRBb_STATUS, 27, 3⟩
def F.PWRBb_STATUS_REMAPS : Fld := ⟨R.PWRBb_STATUS, 0, 16⟩
/-- PWRBb_MAP0, spec chapter 09. -/
def R.PWRBb_MAP0 : Reg := ⟨0x05304, 0x10, 8, .cold, .all, [], fun _ => 0x00000000⟩
def F.PWRBb_MAP0_USED_HI : Fld := ⟨R.PWRBb_MAP0, 31, 1⟩
def F.PWRBb_MAP0_BAD_HI : Fld := ⟨R.PWRBb_MAP0, 30, 1⟩
def F.PWRBb_MAP0_TILE_HI : Fld := ⟨R.PWRBb_MAP0, 16, 8⟩
def F.PWRBb_MAP0_USED_LO : Fld := ⟨R.PWRBb_MAP0, 15, 1⟩
def F.PWRBb_MAP0_BAD_LO : Fld := ⟨R.PWRBb_MAP0, 14, 1⟩
def F.PWRBb_MAP0_TILE_LO : Fld := ⟨R.PWRBb_MAP0, 0, 8⟩
/-- PWRBb_MAP1, spec chapter 09. -/
def R.PWRBb_MAP1 : Reg := ⟨0x05308, 0x10, 8, .cold, .all, [], fun _ => 0x00000000⟩
def F.PWRBb_MAP1_USED_HI : Fld := ⟨R.PWRBb_MAP1, 31, 1⟩
def F.PWRBb_MAP1_BAD_HI : Fld := ⟨R.PWRBb_MAP1, 30, 1⟩
def F.PWRBb_MAP1_TILE_HI : Fld := ⟨R.PWRBb_MAP1, 16, 8⟩
def F.PWRBb_MAP1_USED_LO : Fld := ⟨R.PWRBb_MAP1, 15, 1⟩
def F.PWRBb_MAP1_BAD_LO : Fld := ⟨R.PWRBb_MAP1, 14, 1⟩
def F.PWRBb_MAP1_TILE_LO : Fld := ⟨R.PWRBb_MAP1, 0, 8⟩
/-- PWRAi_COUNT, spec chapter 09. -/
def R.PWRAi_COUNT : Reg := ⟨0x05400, 0x8, 24, .warm, .all, [], fun _ => 0x00000000⟩
def F.PWRAi_COUNT_REFUSED : Fld := ⟨R.PWRAi_COUNT, 16, 16⟩
def F.PWRAi_COUNT_ABORTED : Fld := ⟨R.PWRAi_COUNT, 0, 16⟩
/-- PWRAi_LAST, spec chapter 09. -/
def R.PWRAi_LAST : Reg := ⟨0x05404, 0x8, 24, .warm, .all, [], fun _ => 0x000007FF⟩
def F.PWRAi_LAST_WAS_ABORT : Fld := ⟨R.PWRAi_LAST, 31, 1⟩
def F.PWRAi_LAST_CAUSE : Fld := ⟨R.PWRAi_LAST, 11, 4⟩
def F.PWRAi_LAST_REFUSER : Fld := ⟨R.PWRAi_LAST, 0, 11⟩
/-- PWRd_CTRL, spec chapter 09. -/
def R.PWRd_CTRL : Reg := ⟨0x05800, 0x8, 1136, .warm, .domain, [⟨29, 28, .rw⟩, ⟨27, 27, .rw⟩, ⟨26, 26, .rw⟩, ⟨10, 0, .rw⟩], fun d => pwrCtrlReset d⟩
def F.PWRd_CTRL_REQ_STATUS : Fld := ⟨R.PWRd_CTRL, 30, 2⟩
def F.PWRd_CTRL_REQ : Fld := ⟨R.PWRd_CTRL, 28, 2⟩
def F.PWRd_CTRL_NO_ENTRY : Fld := ⟨R.PWRd_CTRL, 27, 1⟩
def F.PWRd_CTRL_LINK_WAKE : Fld := ⟨R.PWRd_CTRL, 26, 1⟩
def F.PWRd_CTRL_PARENT : Fld := ⟨R.PWRd_CTRL, 0, 11⟩
/-- PWRd_STATUS, spec chapter 09. -/
def R.PWRd_STATUS : Reg := ⟨0x05804, 0x8, 1136, .warm, .domain, [⟨19, 19, .w1c⟩, ⟨18, 18, .w1c⟩], fun _ => 0x0F000000⟩
def F.PWRd_STATUS_STEP : Fld := ⟨R.PWRd_STATUS, 28, 4⟩
def F.PWRd_STATUS_TARGET : Fld := ⟨R.PWRd_STATUS, 26, 2⟩
def F.PWRd_STATUS_PENDING : Fld := ⟨R.PWRd_STATUS, 24, 2⟩
def F.PWRd_STATUS_PENDING_ENABLE : Fld := ⟨R.PWRd_STATUS, 23, 1⟩
def F.PWRd_STATUS_WAIT_PARENT : Fld := ⟨R.PWRd_STATUS, 22, 1⟩
def F.PWRd_STATUS_REST : Fld := ⟨R.PWRd_STATUS, 20, 2⟩
def F.PWRd_STATUS_RETENTION_LOST : Fld := ⟨R.PWRd_STATUS, 19, 1⟩
def F.PWRd_STATUS_ABORTED : Fld := ⟨R.PWRd_STATUS, 18, 1⟩
def F.PWRd_STATUS_WAKE_SRC : Fld := ⟨R.PWRd_STATUS, 14, 4⟩
def F.PWRd_STATUS_FENCED : Fld := ⟨R.PWRd_STATUS, 13, 1⟩
def F.PWRd_STATUS_SAVE_GEN : Fld := ⟨R.PWRd_STATUS, 0, 8⟩
/-- SEQ_CTRL, spec chapter 05. -/
def R.SEQ_CTRL : Reg := ⟨0x08000, 0x4, 1, .warm, .all, [⟨0, 0, .rw⟩], fun _ => 0x00000000⟩
def F.SEQ_CTRL_UP : Fld := ⟨R.SEQ_CTRL, 0, 1⟩
/-- SEQ_STATUS, spec chapter 05. -/
def R.SEQ_STATUS : Reg := ⟨0x08004, 0x4, 1, .warm, .all, [⟨2, 2, .w1c⟩, ⟨1, 1, .w1c⟩, ⟨0, 0, .w1c⟩], fun _ => 0x00000000⟩
def F.SEQ_STATUS_STATE : Fld := ⟨R.SEQ_STATUS, 29, 3⟩
def F.SEQ_STATUS_PENDING_UP : Fld := ⟨R.SEQ_STATUS, 28, 1⟩
def F.SEQ_STATUS_STEP : Fld := ⟨R.SEQ_STATUS, 24, 4⟩
def F.SEQ_STATUS_FAIL_RAIL : Fld := ⟨R.SEQ_STATUS, 16, 3⟩
def F.SEQ_STATUS_WAITED : Fld := ⟨R.SEQ_STATUS, 2, 1⟩
def F.SEQ_STATUS_CONFIG_ERR : Fld := ⟨R.SEQ_STATUS, 1, 1⟩
def F.SEQ_STATUS_ABORTED : Fld := ⟨R.SEQ_STATUS, 0, 1⟩
/-- SEQ_UPk, spec chapter 05. -/
def R.SEQ_UPk : Reg := ⟨0x08100, 0x4, 16, .warm, .all, [⟨31, 31, .rw⟩, ⟨30, 30, .rw⟩, ⟨23, 16, .rw⟩, ⟨15, 0, .rw⟩], fun _ => 0x00000000⟩
def F.SEQ_UPk_VALID : Fld := ⟨R.SEQ_UPk, 31, 1⟩
def F.SEQ_UPk_CHECK : Fld := ⟨R.SEQ_UPk, 30, 1⟩
def F.SEQ_UPk_RAILS : Fld := ⟨R.SEQ_UPk, 16, 8⟩
def F.SEQ_UPk_DELAY_US : Fld := ⟨R.SEQ_UPk, 0, 16⟩
/-- SEQ_DNk, spec chapter 05. -/
def R.SEQ_DNk : Reg := ⟨0x08140, 0x4, 16, .warm, .all, [⟨31, 31, .rw⟩, ⟨30, 30, .rw⟩, ⟨23, 16, .rw⟩, ⟨15, 0, .rw⟩], fun _ => 0x00000000⟩
def F.SEQ_DNk_VALID : Fld := ⟨R.SEQ_DNk, 31, 1⟩
def F.SEQ_DNk_CHECK : Fld := ⟨R.SEQ_DNk, 30, 1⟩
def F.SEQ_DNk_RAILS : Fld := ⟨R.SEQ_DNk, 16, 8⟩
def F.SEQ_DNk_DELAY_US : Fld := ⟨R.SEQ_DNk, 0, 16⟩
/-- RAILr_CTRL, spec chapter 05. -/
def R.RAILr_CTRL : Reg := ⟨0x09000, 0x80, 8, .warm, .rail, [⟨31, 31, .rw⟩, ⟨30, 30, .rw⟩, ⟨29, 29, .rw⟩], fun _ => 0x40000000⟩
def F.RAILr_CTRL_ON : Fld := ⟨R.RAILr_CTRL, 31, 1⟩
def F.RAILr_CTRL_CMD_FF_EN : Fld := ⟨R.RAILr_CTRL, 30, 1⟩
def F.RAILr_CTRL_COEF_HOLD : Fld := ⟨R.RAILr_CTRL, 29, 1⟩
/-- RAILr_TARGET, spec chapter 05. -/
def R.RAILr_TARGET : Reg := ⟨0x09004, 0x80, 8, .warm, .rail, [⟨11, 0, .rw⟩], fun _ => 0x00000000⟩
def F.RAILr_TARGET_STATUS : Fld := ⟨R.RAILr_TARGET, 30, 2⟩
def F.RAILr_TARGET_LIMITED : Fld := ⟨R.RAILr_TARGET, 29, 1⟩
def F.RAILr_TARGET_CODE : Fld := ⟨R.RAILr_TARGET, 0, 12⟩
/-- RAILr_LIMIT, spec chapter 05. -/
def R.RAILr_LIMIT : Reg := ⟨0x09008, 0x80, 8, .warm, .rail, [⟨27, 16, .rwl .volt⟩, ⟨11, 0, .rwl .volt⟩], fun _ => 0x0E100190⟩
def F.RAILr_LIMIT_VMAX : Fld := ⟨R.RAILr_LIMIT, 16, 12⟩
def F.RAILr_LIMIT_VMIN : Fld := ⟨R.RAILr_LIMIT, 0, 12⟩
/-- RAILr_SAFE, spec chapter 05. -/
def R.RAILr_SAFE : Reg := ⟨0x0900C, 0x80, 8, .warm, .rail, [⟨11, 0, .rwl .volt⟩], fun _ => 0x00000000⟩
def F.RAILr_SAFE_SAFE_CODE : Fld := ⟨R.RAILr_SAFE, 0, 12⟩
/-- RAILr_PROFILE, spec chapter 05. -/
def R.RAILr_PROFILE : Reg := ⟨0x09010, 0x80, 8, .warm, .rail, [⟨31, 24, .rw⟩, ⟨23, 16, .rw⟩, ⟨8, 0, .rw⟩], fun _ => 0x04140032⟩
def F.RAILr_PROFILE_JERK : Fld := ⟨R.RAILr_PROFILE, 24, 8⟩
def F.RAILr_PROFILE_ACC : Fld := ⟨R.RAILr_PROFILE, 16, 8⟩
def F.RAILr_PROFILE_VEL : Fld := ⟨R.RAILr_PROFILE, 0, 9⟩
/-- RAILr_START, spec chapter 05. -/
def R.RAILr_START : Reg := ⟨0x09014, 0x80, 8, .warm, .rail, [⟨31, 24, .rw⟩, ⟨17, 9, .rw⟩, ⟨8, 0, .rw⟩], fun _ => 0x05006432⟩
def F.RAILr_START_START_TO : Fld := ⟨R.RAILr_START, 24, 8⟩
def F.RAILr_START_STOP_VEL : Fld := ⟨R.RAILr_START, 9, 9⟩
def F.RAILr_START_START_VEL : Fld := ⟨R.RAILr_START, 0, 9⟩
/-- RAILr_TRACK, spec chapter 05. -/
def R.RAILr_TRACK : Reg := ⟨0x09018, 0x80, 8, .warm, .rail, [⟨31, 30, .rw⟩, ⟨29, 27, .rw⟩, ⟨15, 0, .rw⟩], fun _ => 0x00000000⟩
def F.RAILr_TRACK_MODE : Fld := ⟨R.RAILr_TRACK, 30, 2⟩
def F.RAILr_TRACK_LEADER : Fld := ⟨R.RAILr_TRACK, 27, 3⟩
def F.RAILr_TRACK_K : Fld := ⟨R.RAILr_TRACK, 0, 16⟩
/-- RAILr_PROT, spec chapter 05. -/
def R.RAILr_PROT : Reg := ⟨0x0901C, 0x80, 8, .warm, .rail, [⟨31, 24, .rwl .volt⟩, ⟨23, 16, .rw⟩, ⟨5, 0, .rw⟩], fun _ => 0x96140000⟩
def F.RAILr_PROT_OV_MV : Fld := ⟨R.RAILr_PROT, 24, 8⟩
def F.RAILr_PROT_PG_MV : Fld := ⟨R.RAILr_PROT, 16, 8⟩
def F.RAILr_PROT_DROOP_ALLOW : Fld := ⟨R.RAILr_PROT, 0, 6⟩
/-- RAILr_STATUS, spec chapter 05. -/
def R.RAILr_STATUS : Reg := ⟨0x09020, 0x80, 8, .warm, .rail, [⟨23, 23, .w1c⟩, ⟨22, 22, .w1c⟩, ⟨21, 21, .w1c⟩, ⟨20, 20, .w1c⟩, ⟨19, 19, .w1c⟩], fun _ => 0x00000000⟩
def F.RAILr_STATUS_STATE : Fld := ⟨R.RAILr_STATUS, 29, 3⟩
def F.RAILr_STATUS_PENDING_ENABLE : Fld := ⟨R.RAILr_STATUS, 28, 1⟩
def F.RAILr_STATUS_PG : Fld := ⟨R.RAILr_STATUS, 27, 1⟩
def F.RAILr_STATUS_RS_LOST : Fld := ⟨R.RAILr_STATUS, 26, 1⟩
def F.RAILr_STATUS_SLEWING : Fld := ⟨R.RAILr_STATUS, 25, 1⟩
def F.RAILr_STATUS_TRACKING : Fld := ⟨R.RAILr_STATUS, 24, 1⟩
def F.RAILr_STATUS_PG_LOST : Fld := ⟨R.RAILr_STATUS, 23, 1⟩
def F.RAILr_STATUS_OV : Fld := ⟨R.RAILr_STATUS, 22, 1⟩
def F.RAILr_STATUS_START_TIMEOUT : Fld := ⟨R.RAILr_STATUS, 21, 1⟩
def F.RAILr_STATUS_RS_EVENT : Fld := ⟨R.RAILr_STATUS, 20, 1⟩
def F.RAILr_STATUS_SENSE_FAULT : Fld := ⟨R.RAILr_STATUS, 19, 1⟩
/-- RAILr_SETPT, spec chapter 05. -/
def R.RAILr_SETPT : Reg := ⟨0x09024, 0x80, 8, .warm, .rail, [], fun _ => 0x00000000⟩
def F.RAILr_SETPT_VEL_NOW : Fld := ⟨R.RAILr_SETPT, 16, 16⟩
def F.RAILr_SETPT_SETPT : Fld := ⟨R.RAILr_SETPT, 0, 16⟩
/-- RAILr_EFF, spec chapter 05. -/
def R.RAILr_EFF : Reg := ⟨0x09028, 0x80, 8, .warm, .rail, [], fun _ => 0x00000000⟩
def F.RAILr_EFF_SRC : Fld := ⟨R.RAILr_EFF, 30, 2⟩
def F.RAILr_EFF_CODE : Fld := ⟨R.RAILr_EFF, 0, 12⟩
/-- RAILr_MEAS, spec chapter 05. -/
def R.RAILr_MEAS : Reg := ⟨0x0902C, 0x80, 8, .warm, .rail, [], fun _ => 0x00000000⟩
def F.RAILr_MEAS_IOUT : Fld := ⟨R.RAILr_MEAS, 16, 16⟩
def F.RAILr_MEAS_VOUT : Fld := ⟨R.RAILr_MEAS, 0, 12⟩
/-- RAILr_CMD, spec chapter 05. -/
def R.RAILr_CMD : Reg := ⟨0x09030, 0x80, 8, .warm, .rail, [], fun _ => 0x00000000⟩
def F.RAILr_CMD_FF : Fld := ⟨R.RAILr_CMD, 16, 16⟩
def F.RAILr_CMD_ICMD : Fld := ⟨R.RAILr_CMD, 0, 16⟩
/-- RAILr_COUNT, spec chapter 05. -/
def R.RAILr_COUNT : Reg := ⟨0x09034, 0x80, 8, .warm, .rail, [], fun _ => 0x00000000⟩
def F.RAILr_COUNT_SUPERSEDED : Fld := ⟨R.RAILr_COUNT, 16, 16⟩
def F.RAILr_COUNT_RS_LOSSES : Fld := ⟨R.RAILr_COUNT, 0, 16⟩
/-- RAILr_B0, spec chapter 05. -/
def R.RAILr_B0 : Reg := ⟨0x09040, 0x80, 8, .warm, .rail, [⟨31, 0, .rw⟩], fun _ => 0x00000000⟩
def F.RAILr_B0_COEF : Fld := ⟨R.RAILr_B0, 0, 32⟩
/-- RAILr_B1, spec chapter 05. -/
def R.RAILr_B1 : Reg := ⟨0x09044, 0x80, 8, .warm, .rail, [⟨31, 0, .rw⟩], fun _ => 0x00000000⟩
def F.RAILr_B1_COEF : Fld := ⟨R.RAILr_B1, 0, 32⟩
/-- RAILr_B2, spec chapter 05. -/
def R.RAILr_B2 : Reg := ⟨0x09048, 0x80, 8, .warm, .rail, [⟨31, 0, .rw⟩], fun _ => 0x00000000⟩
def F.RAILr_B2_COEF : Fld := ⟨R.RAILr_B2, 0, 32⟩
/-- RAILr_B3, spec chapter 05. -/
def R.RAILr_B3 : Reg := ⟨0x0904C, 0x80, 8, .warm, .rail, [⟨31, 0, .rw⟩], fun _ => 0x00000000⟩
def F.RAILr_B3_COEF : Fld := ⟨R.RAILr_B3, 0, 32⟩
/-- RAILr_A1, spec chapter 05. -/
def R.RAILr_A1 : Reg := ⟨0x09050, 0x80, 8, .warm, .rail, [⟨31, 0, .rw⟩], fun _ => 0x00000000⟩
def F.RAILr_A1_COEF : Fld := ⟨R.RAILr_A1, 0, 32⟩
/-- RAILr_A2, spec chapter 05. -/
def R.RAILr_A2 : Reg := ⟨0x09054, 0x80, 8, .warm, .rail, [⟨31, 0, .rw⟩], fun _ => 0x00000000⟩
def F.RAILr_A2_COEF : Fld := ⟨R.RAILr_A2, 0, 32⟩
/-- RAILr_A3, spec chapter 05. -/
def R.RAILr_A3 : Reg := ⟨0x09058, 0x80, 8, .warm, .rail, [⟨31, 0, .rw⟩], fun _ => 0x00000000⟩
def F.RAILr_A3_COEF : Fld := ⟨R.RAILr_A3, 0, 32⟩
/-- RAILr_SHIFTB, spec chapter 05. -/
def R.RAILr_SHIFTB : Reg := ⟨0x0905C, 0x80, 8, .warm, .rail, [⟨19, 15, .rw⟩, ⟨14, 10, .rw⟩, ⟨9, 5, .rw⟩, ⟨4, 0, .rw⟩], fun _ => 0x00000000⟩
def F.RAILr_SHIFTB_SB3 : Fld := ⟨R.RAILr_SHIFTB, 15, 5⟩
def F.RAILr_SHIFTB_SB2 : Fld := ⟨R.RAILr_SHIFTB, 10, 5⟩
def F.RAILr_SHIFTB_SB1 : Fld := ⟨R.RAILr_SHIFTB, 5, 5⟩
def F.RAILr_SHIFTB_SB0 : Fld := ⟨R.RAILr_SHIFTB, 0, 5⟩
/-- RAILr_SHIFTA, spec chapter 05. -/
def R.RAILr_SHIFTA : Reg := ⟨0x09060, 0x80, 8, .warm, .rail, [⟨14, 10, .rw⟩, ⟨9, 5, .rw⟩, ⟨4, 0, .rw⟩], fun _ => 0x00000000⟩
def F.RAILr_SHIFTA_SA3 : Fld := ⟨R.RAILr_SHIFTA, 10, 5⟩
def F.RAILr_SHIFTA_SA2 : Fld := ⟨R.RAILr_SHIFTA, 5, 5⟩
def F.RAILr_SHIFTA_SA1 : Fld := ⟨R.RAILr_SHIFTA, 0, 5⟩
/-- PH_TIMEBASE, spec chapter 04. -/
def R.PH_TIMEBASE : Reg := ⟨0x0A000, 0x4, 1, .warm, .all, [⟨26, 16, .rw⟩, ⟨15, 12, .rw⟩, ⟨11, 8, .rw⟩, ⟨7, 0, .rw⟩], fun _ => 0x03E80008⟩
def F.PH_TIMEBASE_FSW_KHZ : Fld := ⟨R.PH_TIMEBASE, 16, 11⟩
def F.PH_TIMEBASE_SYNC_M : Fld := ⟨R.PH_TIMEBASE, 12, 4⟩
def F.PH_TIMEBASE_SYNC_D : Fld := ⟨R.PH_TIMEBASE, 8, 4⟩
def F.PH_TIMEBASE_SLEW : Fld := ⟨R.PH_TIMEBASE, 0, 8⟩
/-- PH_SYNC, spec chapter 04. -/
def R.PH_SYNC : Reg := ⟨0x0A004, 0x4, 1, .warm, .all, [⟨31, 31, .rw⟩, ⟨30, 30, .rw⟩, ⟨7, 0, .rw⟩], fun _ => 0x00000000⟩
def F.PH_SYNC_SYNC_EN : Fld := ⟨R.PH_SYNC, 31, 1⟩
def F.PH_SYNC_OUT_EN : Fld := ⟨R.PH_SYNC, 30, 1⟩
def F.PH_SYNC_OUT_ANGLE : Fld := ⟨R.PH_SYNC, 0, 8⟩
/-- PH_SYNC_STATUS, spec chapter 04. -/
def R.PH_SYNC_STATUS : Reg := ⟨0x0A008, 0x4, 1, .warm, .all, [⟨3, 3, .w1c⟩, ⟨2, 2, .w1c⟩], fun _ => 0x00000001⟩
def F.PH_SYNC_STATUS_MEAS_KHZ : Fld := ⟨R.PH_SYNC_STATUS, 16, 16⟩
def F.PH_SYNC_STATUS_SYNC_BAD : Fld := ⟨R.PH_SYNC_STATUS, 3, 1⟩
def F.PH_SYNC_STATUS_SYNC_LOST : Fld := ⟨R.PH_SYNC_STATUS, 2, 1⟩
def F.PH_SYNC_STATUS_LOCKED : Fld := ⟨R.PH_SYNC_STATUS, 1, 1⟩
def F.PH_SYNC_STATUS_ON_INT : Fld := ⟨R.PH_SYNC_STATUS, 0, 1⟩
/-- PH_FSW_NOW, spec chapter 04. -/
def R.PH_FSW_NOW : Reg := ⟨0x0A00C, 0x4, 1, .warm, .all, [], fun _ => 0x00007D00⟩
def F.PH_FSW_NOW_FSW_NOW : Fld := ⟨R.PH_FSW_NOW, 0, 16⟩
/-- PH_PROT, spec chapter 04. -/
def R.PH_PROT : Reg := ⟨0x0A010, 0x4, 1, .warm, .all, [⟨31, 24, .rwl .curr⟩, ⟨23, 16, .rwl .curr⟩, ⟨15, 8, .rw⟩, ⟨7, 0, .rw⟩], fun _ => 0x10084010⟩
def F.PH_PROT_HICCUP_MS : Fld := ⟨R.PH_PROT, 24, 8⟩
def F.PH_PROT_HICCUP_N : Fld := ⟨R.PH_PROT, 16, 8⟩
def F.PH_PROT_TON_MAX : Fld := ⟨R.PH_PROT, 8, 8⟩
def F.PH_PROT_OPEN_RISE : Fld := ⟨R.PH_PROT, 0, 8⟩
/-- PH_TEMP, spec chapter 04. -/
def R.PH_TEMP : Reg := ⟨0x0A014, 0x4, 1, .warm, .all, [⟨23, 16, .rwl .therm⟩, ⟨15, 8, .rwl .therm⟩, ⟨7, 0, .rw⟩], fun _ => 0x00877308⟩
def F.PH_TEMP_T_SHUT : Fld := ⟨R.PH_TEMP, 16, 8⟩
def F.PH_TEMP_T_WARN : Fld := ⟨R.PH_TEMP, 8, 8⟩
def F.PH_TEMP_SKEW : Fld := ⟨R.PH_TEMP, 0, 8⟩
/-- PH_LIGHT, spec chapter 04. -/
def R.PH_LIGHT : Reg := ⟨0x0A018, 0x4, 1, .warm, .all, [⟨31, 24, .rw⟩, ⟨23, 16, .rw⟩, ⟨15, 8, .rw⟩, ⟨7, 0, .rw⟩], fun _ => 0x08140C14⟩
def F.PH_LIGHT_ZCD : Fld := ⟨R.PH_LIGHT, 24, 8⟩
def F.PH_LIGHT_DE_EXIT : Fld := ⟨R.PH_LIGHT, 16, 8⟩
def F.PH_LIGHT_DE_ENTER : Fld := ⟨R.PH_LIGHT, 8, 8⟩
def F.PH_LIGHT_SHED_DWELL : Fld := ⟨R.PH_LIGHT, 0, 8⟩
/-- PH_DISCk, spec chapter 04. -/
def R.PH_DISCk : Reg := ⟨0x0A020, 0x4, 3, .warm, .all, [], fun _ => 0x00000000⟩
def F.PH_DISCk_PRESENT : Fld := ⟨R.PH_DISCk, 0, 32⟩
/-- PHRAILr_SHED, spec chapter 04. -/
def R.PHRAILr_SHED : Reg := ⟨0x0A100, 0x10, 8, .warm, .rail, [⟨31, 24, .rw⟩, ⟨23, 16, .rw⟩, ⟨15, 8, .rw⟩, ⟨2, 2, .rw⟩, ⟨1, 1, .rw⟩, ⟨0, 0, .rw⟩], fun _ => 0x01281E04⟩
def F.PHRAILr_SHED_MIN_PH : Fld := ⟨R.PHRAILr_SHED, 24, 8⟩
def F.PHRAILr_SHED_ADD_A : Fld := ⟨R.PHRAILr_SHED, 16, 8⟩
def F.PHRAILr_SHED_SHED_A : Fld := ⟨R.PHRAILr_SHED, 8, 8⟩
def F.PHRAILr_SHED_FF_EN : Fld := ⟨R.PHRAILr_SHED, 2, 1⟩
def F.PHRAILr_SHED_DE_EN : Fld := ⟨R.PHRAILr_SHED, 1, 1⟩
def F.PHRAILr_SHED_SHED_EN : Fld := ⟨R.PHRAILr_SHED, 0, 1⟩
/-- PHRAILr_OC, spec chapter 04. -/
def R.PHRAILr_OC : Reg := ⟨0x0A104, 0x10, 8, .warm, .rail, [⟨31, 16, .rwl .curr⟩, ⟨15, 8, .rwl .curr⟩, ⟨7, 0, .rwl .curr⟩], fun _ => 0xFFFF1032⟩
def F.PHRAILr_OC_RAIL_OC : Fld := ⟨R.PHRAILr_OC, 16, 16⟩
def F.PHRAILr_OC_OC_HICCUP_MS : Fld := ⟨R.PHRAILr_OC, 8, 8⟩
def F.PHRAILr_OC_OC_PERSIST_US : Fld := ⟨R.PHRAILr_OC, 0, 8⟩
/-- PHRAILr_BRAKE, spec chapter 04. -/
def R.PHRAILr_BRAKE : Reg := ⟨0x0A108, 0x10, 8, .warm, .rail, [⟨31, 24, .rw⟩, ⟨23, 16, .rw⟩, ⟨15, 8, .rw⟩, ⟨0, 0, .rw⟩], fun _ => 0x0A0A2801⟩
def F.PHRAILr_BRAKE_BRAKE_MAX_US : Fld := ⟨R.PHRAILr_BRAKE, 24, 8⟩
def F.PHRAILr_BRAKE_BRAKE_HYST : Fld := ⟨R.PHRAILr_BRAKE, 16, 8⟩
def F.PHRAILr_BRAKE_BRAKE_MV : Fld := ⟨R.PHRAILr_BRAKE, 8, 8⟩
def F.PHRAILr_BRAKE_BRAKE_EN : Fld := ⟨R.PHRAILr_BRAKE, 0, 1⟩
/-- PHRAILr_STATUS, spec chapter 04. -/
def R.PHRAILr_STATUS : Reg := ⟨0x0A10C, 0x10, 8, .warm, .rail, [], fun _ => 0x00000000⟩
def F.PHRAILr_STATUS_CAP : Fld := ⟨R.PHRAILr_STATUS, 16, 16⟩
def F.PHRAILr_STATUS_N_ACT : Fld := ⟨R.PHRAILr_STATUS, 9, 7⟩
def F.PHRAILr_STATUS_OC_HICCUP : Fld := ⟨R.PHRAILr_STATUS, 4, 1⟩
def F.PHRAILr_STATUS_BRAKING : Fld := ⟨R.PHRAILr_STATUS, 3, 1⟩
def F.PHRAILr_STATUS_CAP_LOW : Fld := ⟨R.PHRAILr_STATUS, 2, 1⟩
def F.PHRAILr_STATUS_OC : Fld := ⟨R.PHRAILr_STATUS, 1, 1⟩
/-- PHp_CFG, spec chapter 04. -/
def R.PHp_CFG : Reg := ⟨0x0B000, 0x20, 96, .warm, .phase, [⟨31, 31, .rw⟩, ⟨30, 30, .rw⟩, ⟨29, 27, .rw⟩, ⟨26, 24, .rw⟩, ⟨23, 16, .rw⟩, ⟨15, 8, .rw⟩, ⟨7, 0, .rw⟩], fun _ => 0x40641080⟩
def F.PHp_CFG_EN : Fld := ⟨R.PHp_CFG, 31, 1⟩
def F.PHp_CFG_AUTO_READMIT : Fld := ⟨R.PHp_CFG, 30, 1⟩
def F.PHp_CFG_ID_EXP : Fld := ⟨R.PHp_CFG, 27, 3⟩
def F.PHp_CFG_RAIL : Fld := ⟨R.PHp_CFG, 24, 3⟩
def F.PHp_CFG_L_NH : Fld := ⟨R.PHp_CFG, 16, 8⟩
def F.PHp_CFG_SLOPE_K : Fld := ⟨R.PHp_CFG, 8, 8⟩
def F.PHp_CFG_SHARE : Fld := ⟨R.PHp_CFG, 0, 8⟩
/-- PHp_LIM, spec chapter 04. -/
def R.PHp_LIM : Reg := ⟨0x0B004, 0x20, 96, .warm, .phase, [⟨31, 24, .rwl .curr⟩, ⟨23, 16, .rwl .curr⟩, ⟨15, 8, .rw⟩], fun _ => 0x3C8C0000⟩
def F.PHp_LIM_IRATE_A : Fld := ⟨R.PHp_LIM, 24, 8⟩
def F.PHp_LIM_ILIM_PK : Fld := ⟨R.PHp_LIM, 16, 8⟩
def F.PHp_LIM_CS_OFFS : Fld := ⟨R.PHp_LIM, 8, 8⟩
/-- PHp_STATUS, spec chapter 04. -/
def R.PHp_STATUS : Reg := ⟨0x0B008, 0x20, 96, .warm, .phase, [⟨23, 23, .w1c⟩, ⟨22, 22, .w1c⟩], fun _ => 0x00000080⟩
def F.PHp_STATUS_STATE : Fld := ⟨R.PHp_STATUS, 28, 4⟩
def F.PHp_STATUS_PENDING_ENABLE : Fld := ⟨R.PHp_STATUS, 27, 1⟩
def F.PHp_STATUS_DISABLE_HELD : Fld := ⟨R.PHp_STATUS, 26, 1⟩
def F.PHp_STATUS_DE : Fld := ⟨R.PHp_STATUS, 25, 1⟩
def F.PHp_STATUS_WARN : Fld := ⟨R.PHp_STATUS, 24, 1⟩
def F.PHp_STATUS_FAILED : Fld := ⟨R.PHp_STATUS, 23, 1⟩
def F.PHp_STATUS_TF_BAD : Fld := ⟨R.PHp_STATUS, 22, 1⟩
def F.PHp_STATUS_ID_SEEN : Fld := ⟨R.PHp_STATUS, 19, 3⟩
def F.PHp_STATUS_CAUSE : Fld := ⟨R.PHp_STATUS, 15, 4⟩
def F.PHp_STATUS_ID_BAD : Fld := ⟨R.PHp_STATUS, 14, 1⟩
def F.PHp_STATUS_SHARE_EFF : Fld := ⟨R.PHp_STATUS, 0, 8⟩
/-- PHp_MEAS, spec chapter 04. -/
def R.PHp_MEAS : Reg := ⟨0x0B00C, 0x20, 96, .warm, .phase, [], fun _ => 0x00000000⟩
def F.PHp_MEAS_TEMP : Fld := ⟨R.PHp_MEAS, 16, 16⟩
def F.PHp_MEAS_IAVG : Fld := ⟨R.PHp_MEAS, 0, 16⟩
/-- PHp_COUNT, spec chapter 04. -/
def R.PHp_COUNT : Reg := ⟨0x0B010, 0x20, 96, .warm, .phase, [], fun _ => 0x00000000⟩
def F.PHp_COUNT_HICCUPS : Fld := ⟨R.PHp_COUNT, 24, 8⟩
def F.PHp_COUNT_READMITS : Fld := ⟨R.PHp_COUNT, 16, 8⟩
def F.PHp_COUNT_LIMITED : Fld := ⟨R.PHp_COUNT, 0, 16⟩
/-- PHp_ONTIME, spec chapter 04. -/
def R.PHp_ONTIME : Reg := ⟨0x0B014, 0x20, 96, .warm, .phase, [], fun _ => 0x00000000⟩
def F.PHp_ONTIME_TON : Fld := ⟨R.PHp_ONTIME, 0, 16⟩
/-- WELT_CTRL, spec chapter 03. -/
def R.WELT_CTRL : Reg := ⟨0x0C000, 0x4, 1, .die, .all, [⟨28, 24, .rw⟩, ⟨20, 16, .rw⟩, ⟨15, 8, .rwl .dieVolt⟩, ⟨0, 0, .rw⟩], fun _ => 0x0A0A0F00⟩
def F.WELT_CTRL_KICK_T : Fld := ⟨R.WELT_CTRL, 24, 5⟩
def F.WELT_CTRL_KICK_MV : Fld := ⟨R.WELT_CTRL, 16, 5⟩
def F.WELT_CTRL_HEADROOM_MV : Fld := ⟨R.WELT_CTRL, 8, 8⟩
def F.WELT_CTRL_EN : Fld := ⟨R.WELT_CTRL, 0, 1⟩
/-- WELT_CLASS, spec chapter 03. -/
def R.WELT_CLASS : Reg := ⟨0x0C004, 0x4, 1, .die, .all, [⟨22, 16, .rwl .dieVolt⟩, ⟨15, 8, .rw⟩, ⟨7, 0, .rw⟩], fun _ => 0x00780A14⟩
def F.WELT_CLASS_ILIM_A : Fld := ⟨R.WELT_CLASS, 16, 7⟩
def F.WELT_CLASS_CEIL_HOLD_MS : Fld := ⟨R.WELT_CLASS, 8, 8⟩
def F.WELT_CLASS_SLACK_TGT : Fld := ⟨R.WELT_CLASS, 0, 8⟩
/-- WELT_SENS, spec chapter 03. -/
def R.WELT_SENS : Reg := ⟨0x0C008, 0x4, 1, .die, .all, [⟨23, 16, .rw⟩, ⟨15, 8, .rw⟩, ⟨7, 0, .rw⟩], fun _ => 0x00303030⟩
def F.WELT_SENS_SENS_N : Fld := ⟨R.WELT_SENS, 16, 8⟩
def F.WELT_SENS_SENS_M : Fld := ⟨R.WELT_SENS, 8, 8⟩
def F.WELT_SENS_SENS_W : Fld := ⟨R.WELT_SENS, 0, 8⟩
/-- WELT_RAIL_NEED, spec chapter 03. -/
def R.WELT_RAIL_NEED : Reg := ⟨0x0C00C, 0x4, 1, .die, .all, [], fun _ => 0x00000000⟩
def F.WELT_RAIL_NEED_SETTER : Fld := ⟨R.WELT_RAIL_NEED, 26, 6⟩
def F.WELT_RAIL_NEED_NEED : Fld := ⟨R.WELT_RAIL_NEED, 0, 12⟩
/-- WELT_DISS, spec chapter 03. -/
def R.WELT_DISS : Reg := ⟨0x0C010, 0x4, 1, .die, .all, [], fun _ => 0x00000000⟩
def F.WELT_DISS_DISS : Fld := ⟨R.WELT_DISS, 0, 16⟩
/-- WELT_LOSS_LO, spec chapter 03. -/
def R.WELT_LOSS_LO : Reg := ⟨0x0C018, 0x4, 1, .die, .all, [], fun _ => 0x00000000⟩
def F.WELT_LOSS_LO_LOSS : Fld := ⟨R.WELT_LOSS_LO, 0, 32⟩
/-- WELT_LOSS_HI, spec chapter 03. -/
def R.WELT_LOSS_HI : Reg := ⟨0x0C01C, 0x4, 1, .die, .all, [], fun _ => 0x00000000⟩
def F.WELT_LOSS_HI_LOSS : Fld := ⟨R.WELT_LOSS_HI, 0, 32⟩
/-- WELTc_CFG, spec chapter 03. -/
def R.WELTc_CFG : Reg := ⟨0x0C100, 0x20, 64, .die, .cluster, [⟨1, 0, .rw⟩], fun _ => 0x00000002⟩
def F.WELTc_CFG_CLASS_CEIL : Fld := ⟨R.WELTc_CFG, 0, 2⟩
/-- WELTc_GUARD, spec chapter 03. -/
def R.WELTc_GUARD : Reg := ⟨0x0C104, 0x20, 64, .die, .cluster, [⟨23, 16, .rw⟩, ⟨15, 8, .rw⟩, ⟨7, 0, .rw⟩], fun _ => 0x000A0A0A⟩
def F.WELTc_GUARD_GUARD_N : Fld := ⟨R.WELTc_GUARD, 16, 8⟩
def F.WELTc_GUARD_GUARD_M : Fld := ⟨R.WELTc_GUARD, 8, 8⟩
def F.WELTc_GUARD_GUARD_W : Fld := ⟨R.WELTc_GUARD, 0, 8⟩
/-- WELTc_NEED_WM, spec chapter 03. -/
def R.WELTc_NEED_WM : Reg := ⟨0x0C108, 0x20, 64, .die, .cluster, [], fun _ => 0x00000000⟩
def F.WELTc_NEED_WM_NEED_M : Fld := ⟨R.WELTc_NEED_WM, 16, 12⟩
def F.WELTc_NEED_WM_NEED_W : Fld := ⟨R.WELTc_NEED_WM, 0, 12⟩
/-- WELTc_NEED_N, spec chapter 03. -/
def R.WELTc_NEED_N : Reg := ⟨0x0C10C, 0x20, 64, .die, .cluster, [], fun _ => 0x00000000⟩
def F.WELTc_NEED_N_NEED_N : Fld := ⟨R.WELTc_NEED_N, 0, 12⟩
/-- WELTc_SLACK, spec chapter 03. -/
def R.WELTc_SLACK : Reg := ⟨0x0C110, 0x20, 64, .die, .cluster, [], fun _ => 0x00000000⟩
def F.WELTc_SLACK_SLACK_N : Fld := ⟨R.WELTc_SLACK, 16, 8⟩
def F.WELTc_SLACK_SLACK_M : Fld := ⟨R.WELTc_SLACK, 8, 8⟩
def F.WELTc_SLACK_SLACK_W : Fld := ⟨R.WELTc_SLACK, 0, 8⟩
/-- WELTc_STATUS, spec chapter 03. -/
def R.WELTc_STATUS : Reg := ⟨0x0C114, 0x20, 64, .die, .cluster, [⟨28, 28, .w1c⟩], fun _ => 0x02000000⟩
def F.WELTc_STATUS_NEED_VALID : Fld := ⟨R.WELTc_STATUS, 31, 1⟩
def F.WELTc_STATUS_DROPOUT : Fld := ⟨R.WELTc_STATUS, 30, 1⟩
def F.WELTc_STATUS_ILIM : Fld := ⟨R.WELTc_STATUS, 29, 1⟩
def F.WELTc_STATUS_OV : Fld := ⟨R.WELTc_STATUS, 28, 1⟩
def F.WELTc_STATUS_CLASS : Fld := ⟨R.WELTc_STATUS, 26, 2⟩
def F.WELTc_STATUS_CEIL_EFF : Fld := ⟨R.WELTc_STATUS, 24, 2⟩
def F.WELTc_STATUS_RISING : Fld := ⟨R.WELTc_STATUS, 23, 1⟩
def F.WELTc_STATUS_DROP_ACT : Fld := ⟨R.WELTc_STATUS, 8, 8⟩
def F.WELTc_STATUS_HEADROOM : Fld := ⟨R.WELTc_STATUS, 0, 8⟩
/-- WELTc_POWER, spec chapter 03. -/
def R.WELTc_POWER : Reg := ⟨0x0C118, 0x20, 64, .die, .cluster, [], fun _ => 0x00000000⟩
def F.WELTc_POWER_DISS : Fld := ⟨R.WELTc_POWER, 16, 16⟩
def F.WELTc_POWER_IOUT : Fld := ⟨R.WELTc_POWER, 0, 16⟩
/-- WELTc_COUNT, spec chapter 03. -/
def R.WELTc_COUNT : Reg := ⟨0x0C11C, 0x20, 64, .die, .cluster, [], fun _ => 0x00000000⟩
def F.WELTc_COUNT_KICKS : Fld := ⟨R.WELTc_COUNT, 16, 16⟩
def F.WELTc_COUNT_CLASS_UPS : Fld := ⟨R.WELTc_COUNT, 0, 16⟩
/-- DRP_CTRL, spec chapter 03. -/
def R.DRP_CTRL : Reg := ⟨0x0D000, 0x4, 1, .die, .all, [⟨25, 20, .rw⟩, ⟨19, 16, .rw⟩, ⟨7, 0, .rw⟩], fun _ => 0x03F80028⟩
def F.DRP_CTRL_STRETCH_CYC : Fld := ⟨R.DRP_CTRL, 20, 6⟩
def F.DRP_CTRL_STRETCH : Fld := ⟨R.DRP_CTRL, 16, 4⟩
def F.DRP_CTRL_TRIP_MV : Fld := ⟨R.DRP_CTRL, 0, 8⟩
/-- DRP_STORM, spec chapter 03. -/
def R.DRP_STORM : Reg := ⟨0x0D004, 0x4, 1, .die, .all, [⟨31, 24, .rw⟩, ⟨23, 18, .rw⟩, ⟨17, 16, .rw⟩, ⟨15, 12, .rw⟩, ⟨7, 0, .rw⟩], fun _ => 0x04114020⟩
def F.DRP_STORM_STORM_CLAMP_US : Fld := ⟨R.DRP_STORM, 24, 8⟩
def F.DRP_STORM_STORM_CLUSTERS : Fld := ⟨R.DRP_STORM, 18, 6⟩
def F.DRP_STORM_STORM_QUIET : Fld := ⟨R.DRP_STORM, 16, 2⟩
def F.DRP_STORM_STORM_RAMP : Fld := ⟨R.DRP_STORM, 12, 4⟩
def F.DRP_STORM_STORM_TRIPS : Fld := ⟨R.DRP_STORM, 0, 8⟩
/-- DRP_STATUS, spec chapter 03. -/
def R.DRP_STATUS : Reg := ⟨0x0D008, 0x4, 1, .die, .all, [], fun _ => 0x00000000⟩
def F.DRP_STATUS_CLAMP_REQ : Fld := ⟨R.DRP_STATUS, 31, 1⟩
def F.DRP_STATUS_STORMS : Fld := ⟨R.DRP_STATUS, 0, 7⟩
/-- DRP_NUDGE, spec chapter 03. -/
def R.DRP_NUDGE : Reg := ⟨0x0D00C, 0x4, 1, .die, .all, [⟨7, 0, .rwl .dieVolt⟩], fun _ => 0x00000014⟩
def F.DRP_NUDGE_NUDGE : Fld := ⟨R.DRP_NUDGE, 16, 8⟩
def F.DRP_NUDGE_NUDGE_MAX : Fld := ⟨R.DRP_NUDGE, 0, 8⟩
/-- DRP_STORM_FRAC, spec chapter 03. -/
def R.DRP_STORM_FRAC : Reg := ⟨0x0D010, 0x4, 1, .die, .all, [], fun _ => 0x00000000⟩
def F.DRP_STORM_FRAC_FRAC : Fld := ⟨R.DRP_STORM_FRAC, 0, 16⟩
/-- DRP_TRIPS_LO, spec chapter 03. -/
def R.DRP_TRIPS_LO : Reg := ⟨0x0D018, 0x4, 1, .die, .all, [], fun _ => 0x00000000⟩
def F.DRP_TRIPS_LO_TRIPS : Fld := ⟨R.DRP_TRIPS_LO, 0, 32⟩
/-- DRP_TRIPS_HI, spec chapter 03. -/
def R.DRP_TRIPS_HI : Reg := ⟨0x0D01C, 0x4, 1, .die, .all, [], fun _ => 0x00000000⟩
def F.DRP_TRIPS_HI_TRIPS : Fld := ⟨R.DRP_TRIPS_HI, 0, 32⟩
/-- DRPCc_STATUS, spec chapter 03. -/
def R.DRPCc_STATUS : Reg := ⟨0x0D100, 0x4, 64, .die, .cluster, [], fun _ => 0x00000000⟩
def F.DRPCc_STATUS_STORM : Fld := ⟨R.DRPCc_STATUS, 31, 1⟩
def F.DRPCc_STATUS_TRIPS_LAST : Fld := ⟨R.DRPCc_STATUS, 16, 8⟩
def F.DRPCc_STATUS_STORM_COUNT : Fld := ⟨R.DRPCc_STATUS, 0, 16⟩
/-- DRPn_CFG, spec chapter 03. -/
def R.DRPn_CFG : Reg := ⟨0x0D200, 0x8, 1024, .die, .core, [⟨23, 18, .rw⟩, ⟨17, 12, .rw⟩, ⟨11, 6, .rw⟩, ⟨5, 0, .rw⟩], fun _ => 0x00000000⟩
def F.DRPn_CFG_TRIM3 : Fld := ⟨R.DRPn_CFG, 18, 6⟩
def F.DRPn_CFG_TRIM2 : Fld := ⟨R.DRPn_CFG, 12, 6⟩
def F.DRPn_CFG_TRIM1 : Fld := ⟨R.DRPn_CFG, 6, 6⟩
def F.DRPn_CFG_TRIM0 : Fld := ⟨R.DRPn_CFG, 0, 6⟩
/-- DRPn_STATUS, spec chapter 03. -/
def R.DRPn_STATUS : Reg := ⟨0x0D204, 0x8, 1024, .die, .core, [⟨19, 16, .w1c⟩], fun _ => 0x00000000⟩
def F.DRPn_STATUS_STUCK : Fld := ⟨R.DRPn_STATUS, 16, 4⟩
def F.DRPn_STATUS_TRIPS : Fld := ⟨R.DRPn_STATUS, 0, 16⟩
/-- CRD_CTRL, spec chapter 02. -/
def R.CRD_CTRL : Reg := ⟨0x10000, 0x4, 1, .die, .all, [⟨7, 6, .rw⟩, ⟨5, 5, .rw⟩, ⟨4, 4, .rw⟩, ⟨0, 0, .rw⟩], fun _ => 0x00000070⟩
def F.CRD_CTRL_DECAY_SHIFT : Fld := ⟨R.CRD_CTRL, 6, 2⟩
def F.CRD_CTRL_FORECAST_EN : Fld := ⟨R.CRD_CTRL, 5, 1⟩
def F.CRD_CTRL_PREALLOC_EN : Fld := ⟨R.CRD_CTRL, 4, 1⟩
def F.CRD_CTRL_FROZEN : Fld := ⟨R.CRD_CTRL, 2, 1⟩
def F.CRD_CTRL_EN : Fld := ⟨R.CRD_CTRL, 0, 1⟩
/-- CRD_RESERVE, spec chapter 02. -/
def R.CRD_RESERVE : Reg := ⟨0x10004, 0x4, 1, .die, .all, [⟨15, 0, .rw⟩], fun _ => 0x00000000⟩
def F.CRD_RESERVE_DEFICIT : Fld := ⟨R.CRD_RESERVE, 16, 16⟩
def F.CRD_RESERVE_RESERVE : Fld := ⟨R.CRD_RESERVE, 0, 16⟩
/-- CRD_FLOAT, spec chapter 02. -/
def R.CRD_FLOAT : Reg := ⟨0x10008, 0x4, 1, .die, .all, [⟨15, 0, .rw⟩], fun _ => 0x00000640⟩
def F.CRD_FLOAT_FLOAT : Fld := ⟨R.CRD_FLOAT, 16, 16⟩
def F.CRD_FLOAT_FLOAT_MAX : Fld := ⟨R.CRD_FLOAT, 0, 16⟩
/-- CRD_FLOOR, spec chapter 02. -/
def R.CRD_FLOOR : Reg := ⟨0x1000C, 0x4, 1, .die, .all, [⟨15, 0, .rw⟩], fun _ => 0x00000004⟩
def F.CRD_FLOOR_FLOOR : Fld := ⟨R.CRD_FLOOR, 0, 16⟩
/-- CRD_BUDGET, spec chapter 02. -/
def R.CRD_BUDGET : Reg := ⟨0x10010, 0x4, 1, .die, .all, [], fun _ => 0x00000000⟩
def F.CRD_BUDGET_POOL : Fld := ⟨R.CRD_BUDGET, 16, 16⟩
def F.CRD_BUDGET_BUDGET : Fld := ⟨R.CRD_BUDGET, 0, 16⟩
/-- CRD_RAMP, spec chapter 02. -/
def R.CRD_RAMP : Reg := ⟨0x10014, 0x4, 1, .die, .all, [⟨31, 16, .rw⟩, ⟨15, 0, .rw⟩], fun _ => 0x01000008⟩
def F.CRD_RAMP_RAMP_MAX : Fld := ⟨R.CRD_RAMP, 16, 16⟩
def F.CRD_RAMP_RAMP_FREE : Fld := ⟨R.CRD_RAMP, 0, 16⟩
/-- CRD_RAMP_RAIL, spec chapter 02. -/
def R.CRD_RAMP_RAIL : Reg := ⟨0x10018, 0x4, 1, .die, .all, [⟨23, 16, .rw⟩, ⟨15, 0, .rw⟩], fun _ => 0x00030140⟩
def F.CRD_RAMP_RAIL_KW : Fld := ⟨R.CRD_RAMP_RAIL, 16, 8⟩
def F.CRD_RAMP_RAIL_RAIL_RAMP : Fld := ⟨R.CRD_RAMP_RAIL, 0, 16⟩
/-- CRD_PACE, spec chapter 02. -/
def R.CRD_PACE : Reg := ⟨0x1001C, 0x4, 1, .die, .all, [⟨31, 16, .rw⟩, ⟨15, 0, .rw⟩], fun _ => 0x00800040⟩
def F.CRD_PACE_PACE_HIGH : Fld := ⟨R.CRD_PACE, 16, 16⟩
def F.CRD_PACE_PACE_LOW : Fld := ⟨R.CRD_PACE, 0, 16⟩
/-- CRD_CLAMP, spec chapter 02. -/
def R.CRD_CLAMP : Reg := ⟨0x10020, 0x4, 1, .die, .all, [⟨31, 31, .rw⟩, ⟨15, 8, .rw⟩, ⟨3, 0, .rw⟩], fun _ => 0x00000203⟩
def F.CRD_CLAMP_FORCE : Fld := ⟨R.CRD_CLAMP, 31, 1⟩
def F.CRD_CLAMP_HOLD_US : Fld := ⟨R.CRD_CLAMP, 8, 8⟩
def F.CRD_CLAMP_RATE : Fld := ⟨R.CRD_CLAMP, 0, 4⟩
/-- CRD_CLAMP_STATUS, spec chapter 02. -/
def R.CRD_CLAMP_STATUS : Reg := ⟨0x10024, 0x4, 1, .die, .all, [⟨5, 5, .w1c⟩, ⟨4, 4, .w1c⟩, ⟨3, 3, .w1c⟩, ⟨2, 2, .w1c⟩, ⟨1, 1, .w1c⟩, ⟨0, 0, .w1c⟩], fun _ => 0x00000000⟩
def F.CRD_CLAMP_STATUS_ACTIVE : Fld := ⟨R.CRD_CLAMP_STATUS, 31, 1⟩
def F.CRD_CLAMP_STATUS_FORCE_SEEN : Fld := ⟨R.CRD_CLAMP_STATUS, 5, 1⟩
def F.CRD_CLAMP_STATUS_SAFE : Fld := ⟨R.CRD_CLAMP_STATUS, 4, 1⟩
def F.CRD_CLAMP_STATUS_SAG : Fld := ⟨R.CRD_CLAMP_STATUS, 3, 1⟩
def F.CRD_CLAMP_STATUS_STORM : Fld := ⟨R.CRD_CLAMP_STATUS, 2, 1⟩
def F.CRD_CLAMP_STATUS_RAIL_OC : Fld := ⟨R.CRD_CLAMP_STATUS, 1, 1⟩
def F.CRD_CLAMP_STATUS_PHASE_CAP : Fld := ⟨R.CRD_CLAMP_STATUS, 0, 1⟩
/-- CRD_CLAMP_COUNT, spec chapter 02. -/
def R.CRD_CLAMP_COUNT : Reg := ⟨0x10028, 0x4, 1, .die, .all, [], fun _ => 0x00000000⟩
def F.CRD_CLAMP_COUNT_COUNT : Fld := ⟨R.CRD_CLAMP_COUNT, 0, 32⟩
/-- CRD_STALE_COUNT, spec chapter 02. -/
def R.CRD_STALE_COUNT : Reg := ⟨0x1002C, 0x4, 1, .die, .all, [], fun _ => 0x00000000⟩
def F.CRD_STALE_COUNT_MSG : Fld := ⟨R.CRD_STALE_COUNT, 16, 16⟩
def F.CRD_STALE_COUNT_GRANT : Fld := ⟨R.CRD_STALE_COUNT, 0, 16⟩
/-- CRD_COST_ADDR, spec chapter 02. -/
def R.CRD_COST_ADDR : Reg := ⟨0x10030, 0x4, 1, .die, .all, [⟨31, 31, .rw⟩, ⟨10, 7, .rw⟩, ⟨6, 4, .rw⟩, ⟨3, 0, .rw⟩], fun _ => 0x00000000⟩
def F.CRD_COST_ADDR_AUTOINC : Fld := ⟨R.CRD_COST_ADDR, 31, 1⟩
def F.CRD_COST_ADDR_SET : Fld := ⟨R.CRD_COST_ADDR, 7, 4⟩
def F.CRD_COST_ADDR_OPCLASS : Fld := ⟨R.CRD_COST_ADDR, 4, 3⟩
def F.CRD_COST_ADDR_FORMAT : Fld := ⟨R.CRD_COST_ADDR, 0, 4⟩
/-- CRD_COST_DATA, spec chapter 02. -/
def R.CRD_COST_DATA : Reg := ⟨0x10034, 0x4, 1, .die, .all, [⟨31, 24, .rw⟩, ⟨23, 8, .rw⟩, ⟨7, 0, .rw⟩], fun _ => 0x00000000⟩
def F.CRD_COST_DATA_E0 : Fld := ⟨R.CRD_COST_DATA, 24, 8⟩
def F.CRD_COST_DATA_EMAC : Fld := ⟨R.CRD_COST_DATA, 8, 16⟩
def F.CRD_COST_DATA_ESWAP : Fld := ⟨R.CRD_COST_DATA, 0, 8⟩
/-- CRD_SPENT_LO, spec chapter 02. -/
def R.CRD_SPENT_LO : Reg := ⟨0x10040, 0x4, 1, .die, .all, [], fun _ => 0x00000000⟩
def F.CRD_SPENT_LO_COUNT : Fld := ⟨R.CRD_SPENT_LO, 0, 32⟩
/-- CRD_SPENT_HI, spec chapter 02. -/
def R.CRD_SPENT_HI : Reg := ⟨0x10044, 0x4, 1, .die, .all, [], fun _ => 0x00000000⟩
def F.CRD_SPENT_HI_COUNT : Fld := ⟨R.CRD_SPENT_HI, 0, 32⟩
/-- CRD_UNMETERED_LO, spec chapter 02. -/
def R.CRD_UNMETERED_LO : Reg := ⟨0x10048, 0x4, 1, .die, .all, [], fun _ => 0x00000000⟩
def F.CRD_UNMETERED_LO_COUNT : Fld := ⟨R.CRD_UNMETERED_LO, 0, 32⟩
/-- CRD_UNMETERED_HI, spec chapter 02. -/
def R.CRD_UNMETERED_HI : Reg := ⟨0x1004C, 0x4, 1, .die, .all, [], fun _ => 0x00000000⟩
def F.CRD_UNMETERED_HI_COUNT : Fld := ⟨R.CRD_UNMETERED_HI, 0, 32⟩
/-- CRD_LOST_CREDIT_LO, spec chapter 02. -/
def R.CRD_LOST_CREDIT_LO : Reg := ⟨0x10050, 0x4, 1, .die, .all, [], fun _ => 0x00000000⟩
def F.CRD_LOST_CREDIT_LO_COUNT : Fld := ⟨R.CRD_LOST_CREDIT_LO, 0, 32⟩
/-- CRD_LOST_CREDIT_HI, spec chapter 02. -/
def R.CRD_LOST_CREDIT_HI : Reg := ⟨0x10054, 0x4, 1, .die, .all, [], fun _ => 0x00000000⟩
def F.CRD_LOST_CREDIT_HI_COUNT : Fld := ⟨R.CRD_LOST_CREDIT_HI, 0, 32⟩
/-- CRD_LOST_RAMP_LO, spec chapter 02. -/
def R.CRD_LOST_RAMP_LO : Reg := ⟨0x10058, 0x4, 1, .die, .all, [], fun _ => 0x00000000⟩
def F.CRD_LOST_RAMP_LO_COUNT : Fld := ⟨R.CRD_LOST_RAMP_LO, 0, 32⟩
/-- CRD_LOST_RAMP_HI, spec chapter 02. -/
def R.CRD_LOST_RAMP_HI : Reg := ⟨0x1005C, 0x4, 1, .die, .all, [], fun _ => 0x00000000⟩
def F.CRD_LOST_RAMP_HI_COUNT : Fld := ⟨R.CRD_LOST_RAMP_HI, 0, 32⟩
/-- CRD_LOST_CLAMP_LO, spec chapter 02. -/
def R.CRD_LOST_CLAMP_LO : Reg := ⟨0x10060, 0x4, 1, .die, .all, [], fun _ => 0x00000000⟩
def F.CRD_LOST_CLAMP_LO_COUNT : Fld := ⟨R.CRD_LOST_CLAMP_LO, 0, 32⟩
/-- CRD_LOST_CLAMP_HI, spec chapter 02. -/
def R.CRD_LOST_CLAMP_HI : Reg := ⟨0x10064, 0x4, 1, .die, .all, [], fun _ => 0x00000000⟩
def F.CRD_LOST_CLAMP_HI_COUNT : Fld := ⟨R.CRD_LOST_CLAMP_HI, 0, 32⟩
/-- CRD_LOST_OTHER_LO, spec chapter 02. -/
def R.CRD_LOST_OTHER_LO : Reg := ⟨0x10068, 0x4, 1, .die, .all, [], fun _ => 0x00000000⟩
def F.CRD_LOST_OTHER_LO_COUNT : Fld := ⟨R.CRD_LOST_OTHER_LO, 0, 32⟩
/-- CRD_LOST_OTHER_HI, spec chapter 02. -/
def R.CRD_LOST_OTHER_HI : Reg := ⟨0x1006C, 0x4, 1, .die, .all, [], fun _ => 0x00000000⟩
def F.CRD_LOST_OTHER_HI_COUNT : Fld := ⟨R.CRD_LOST_OTHER_HI, 0, 32⟩
/-- CRDCc_CFG, spec chapter 02. -/
def R.CRDCc_CFG : Reg := ⟨0x10100, 0x8, 64, .die, .cluster, [⟨1, 0, .rw⟩], fun _ => 0x00000000⟩
def F.CRDCc_CFG_PACE_FLOOR : Fld := ⟨R.CRDCc_CFG, 0, 2⟩
/-- CRDCc_STATUS, spec chapter 02. -/
def R.CRDCc_STATUS : Reg := ⟨0x10104, 0x8, 64, .die, .cluster, [], fun _ => 0x00000000⟩
def F.CRDCc_STATUS_PACE_EFF : Fld := ⟨R.CRDCc_STATUS, 16, 2⟩
def F.CRDCc_STATUS_ALLOW : Fld := ⟨R.CRDCc_STATUS, 0, 16⟩
/-- CRDSn_CFG, spec chapter 02. -/
def R.CRDSn_CFG : Reg := ⟨0x11000, 0x20, 1024, .die, .core, [⟨31, 20, .rw⟩, ⟨19, 12, .rw⟩, ⟨11, 8, .rw⟩, ⟨7, 4, .rw⟩, ⟨3, 2, .rw⟩, ⟨1, 1, .rw⟩, ⟨0, 0, .rw⟩], fun _ => 0x0A080004⟩
def F.CRDSn_CFG_CAP : Fld := ⟨R.CRDSn_CFG, 20, 12⟩
def F.CRDSn_CFG_COST_TRIM : Fld := ⟨R.CRDSn_CFG, 12, 8⟩
def F.CRDSn_CFG_COST_SET : Fld := ⟨R.CRDSn_CFG, 8, 4⟩
def F.CRDSn_CFG_WEIGHT : Fld := ⟨R.CRDSn_CFG, 4, 4⟩
def F.CRDSn_CFG_PRIO : Fld := ⟨R.CRDSn_CFG, 2, 2⟩
def F.CRDSn_CFG_SPLIT : Fld := ⟨R.CRDSn_CFG, 1, 1⟩
def F.CRDSn_CFG_FOLLOW_ROLE : Fld := ⟨R.CRDSn_CFG, 0, 1⟩
/-- CRDSn_ROLE, spec chapter 02. -/
def R.CRDSn_ROLE : Reg := ⟨0x11004, 0x20, 1024, .die, .core, [⟨21, 16, .rw⟩, ⟨9, 8, .rw⟩], fun _ => 0x00000500⟩
def F.CRDSn_ROLE_JOB : Fld := ⟨R.CRDSn_ROLE, 16, 6⟩
def F.CRDSn_ROLE_PENDING : Fld := ⟨R.CRDSn_ROLE, 12, 1⟩
def F.CRDSn_ROLE_ACTIVE_ROLE : Fld := ⟨R.CRDSn_ROLE, 10, 2⟩
def F.CRDSn_ROLE_ROLE : Fld := ⟨R.CRDSn_ROLE, 8, 2⟩
def F.CRDSn_ROLE_ROLE_EPOCH : Fld := ⟨R.CRDSn_ROLE, 0, 8⟩
/-- CRDSn_BUCKET, spec chapter 02. -/
def R.CRDSn_BUCKET : Reg := ⟨0x11008, 0x20, 1024, .die, .core, [], fun _ => 0x00000000⟩
def F.CRDSn_BUCKET_BUCKET1 : Fld := ⟨R.CRDSn_BUCKET, 16, 16⟩
def F.CRDSn_BUCKET_BUCKET0 : Fld := ⟨R.CRDSn_BUCKET, 0, 16⟩
/-- CRDSn_STATUS, spec chapter 02. -/
def R.CRDSn_STATUS : Reg := ⟨0x1100C, 0x20, 1024, .die, .core, [⟨5, 5, .w1c⟩, ⟨4, 4, .w1c⟩], fun _ => 0x00000000⟩
def F.CRDSn_STATUS_DEBT : Fld := ⟨R.CRDSn_STATUS, 16, 16⟩
def F.CRDSn_STATUS_STALE_CNT : Fld := ⟨R.CRDSn_STATUS, 8, 8⟩
def F.CRDSn_STATUS_PART1_FROZEN : Fld := ⟨R.CRDSn_STATUS, 5, 1⟩
def F.CRDSn_STATUS_PART0_FROZEN : Fld := ⟨R.CRDSn_STATUS, 4, 1⟩
def F.CRDSn_STATUS_FENCED : Fld := ⟨R.CRDSn_STATUS, 3, 1⟩
def F.CRDSn_STATUS_CLASS_WAIT : Fld := ⟨R.CRDSn_STATUS, 2, 1⟩
def F.CRDSn_STATUS_CLAMPED : Fld := ⟨R.CRDSn_STATUS, 1, 1⟩
def F.CRDSn_STATUS_STALLED : Fld := ⟨R.CRDSn_STATUS, 0, 1⟩
/-- CRDSn_STALL_CREDIT, spec chapter 02. -/
def R.CRDSn_STALL_CREDIT : Reg := ⟨0x11010, 0x20, 1024, .die, .core, [], fun _ => 0x00000000⟩
def F.CRDSn_STALL_CREDIT_CYCLES : Fld := ⟨R.CRDSn_STALL_CREDIT, 0, 32⟩
/-- CRDSn_STALL_RAMP, spec chapter 02. -/
def R.CRDSn_STALL_RAMP : Reg := ⟨0x11014, 0x20, 1024, .die, .core, [], fun _ => 0x00000000⟩
def F.CRDSn_STALL_RAMP_CYCLES : Fld := ⟨R.CRDSn_STALL_RAMP, 0, 32⟩
/-- CRDSn_STALL_CLAMP, spec chapter 02. -/
def R.CRDSn_STALL_CLAMP : Reg := ⟨0x11018, 0x20, 1024, .die, .core, [], fun _ => 0x00000000⟩
def F.CRDSn_STALL_CLAMP_CYCLES : Fld := ⟨R.CRDSn_STALL_CLAMP, 0, 32⟩
/-- CRDSn_STALL_OTHER, spec chapter 02. -/
def R.CRDSn_STALL_OTHER : Reg := ⟨0x1101C, 0x20, 1024, .die, .core, [], fun _ => 0x00000000⟩
def F.CRDSn_STALL_OTHER_CYCLES : Fld := ⟨R.CRDSn_STALL_OTHER, 0, 32⟩
/-- JOBm_TAG, spec chapter 02. -/
def R.JOBm_TAG : Reg := ⟨0x1A000, 0x10, 64, .warm, .all, [⟨31, 0, .rw⟩], fun _ => 0x00000000⟩
def F.JOBm_TAG_TAG : Fld := ⟨R.JOBm_TAG, 0, 32⟩
/-- JOBm_CTRL, spec chapter 02. -/
def R.JOBm_CTRL : Reg := ⟨0x1A004, 0x10, 64, .warm, .all, [⟨1, 1, .rw⟩, ⟨0, 0, .rw⟩], fun _ => 0x00000000⟩
def F.JOBm_CTRL_STATUS : Fld := ⟨R.JOBm_CTRL, 30, 2⟩
def F.JOBm_CTRL_CLEAR : Fld := ⟨R.JOBm_CTRL, 1, 1⟩
def F.JOBm_CTRL_EN : Fld := ⟨R.JOBm_CTRL, 0, 1⟩
/-- JOBm_EC_LO, spec chapter 02. -/
def R.JOBm_EC_LO : Reg := ⟨0x1A008, 0x10, 64, .warm, .all, [], fun _ => 0x00000000⟩
def F.JOBm_EC_LO_EC : Fld := ⟨R.JOBm_EC_LO, 0, 32⟩
/-- JOBm_EC_HI, spec chapter 02. -/
def R.JOBm_EC_HI : Reg := ⟨0x1A00C, 0x10, 64, .warm, .all, [], fun _ => 0x00000000⟩
def F.JOBm_EC_HI_EC : Fld := ⟨R.JOBm_EC_HI, 0, 32⟩
/-- LOOP_CTRL, spec chapter 06. -/
def R.LOOP_CTRL : Reg := ⟨0x20000, 0x4, 1, .warm, .all, [⟨23, 16, .rw⟩, ⟨0, 0, .rw⟩], fun _ => 0x00040000⟩
def F.LOOP_CTRL_OSC_CLEAR : Fld := ⟨R.LOOP_CTRL, 16, 8⟩
def F.LOOP_CTRL_EN : Fld := ⟨R.LOOP_CTRL, 0, 1⟩
/-- LOOP_LATCLR, spec chapter 06. -/
def R.LOOP_LATCLR : Reg := ⟨0x20004, 0x4, 1, .warm, .all, [⟨0, 0, .rw⟩], fun _ => 0x00000000⟩
def F.LOOP_LATCLR_STATUS : Fld := ⟨R.LOOP_LATCLR, 30, 2⟩
def F.LOOP_LATCLR_CLR : Fld := ⟨R.LOOP_LATCLR, 0, 1⟩
/-- LOOP_LOAD, spec chapter 06. -/
def R.LOOP_LOAD : Reg := ⟨0x20008, 0x4, 1, .warm, .all, [], fun _ => 0x00000000⟩
def F.LOOP_LOAD_BUSY_MAX : Fld := ⟨R.LOOP_LOAD, 16, 16⟩
def F.LOOP_LOAD_LOAD : Fld := ⟨R.LOOP_LOAD, 0, 16⟩
/-- LOOP_STATUS, spec chapter 06. -/
def R.LOOP_STATUS : Reg := ⟨0x2000C, 0x4, 1, .warm, .all, [], fun _ => 0x00000000⟩
def F.LOOP_STATUS_N_SAFE : Fld := ⟨R.LOOP_STATUS, 24, 8⟩
def F.LOOP_STATUS_N_HOLD : Fld := ⟨R.LOOP_STATUS, 16, 8⟩
def F.LOOP_STATUS_N_RECOVER : Fld := ⟨R.LOOP_STATUS, 8, 8⟩
def F.LOOP_STATUS_NOTCH_BUSY : Fld := ⟨R.LOOP_STATUS, 0, 4⟩
/-- LOOP_PCAP, spec chapter 06. -/
def R.LOOP_PCAP : Reg := ⟨0x20010, 0x4, 1, .warm, .all, [⟨15, 0, .rw⟩], fun _ => 0x0000FFFF⟩
def F.LOOP_PCAP_PCAP : Fld := ⟨R.LOOP_PCAP, 0, 16⟩
/-- LOOP_OVR, spec chapter 06. -/
def R.LOOP_OVR : Reg := ⟨0x20014, 0x4, 1, .warm, .all, [], fun _ => 0x00000000⟩
def F.LOOP_OVR_COUNT : Fld := ⟨R.LOOP_OVR, 0, 32⟩
/-- LOOP_SAFEk, spec chapter 06. -/
def R.LOOP_SAFEk : Reg := ⟨0x20020, 0x4, 4, .warm, .all, [], fun _ => 0x00000000⟩
def F.LOOP_SAFEk_SAFE : Fld := ⟨R.LOOP_SAFEk, 0, 32⟩
/-- LOOPGg_CFG, spec chapter 06. -/
def R.LOOPGg_CFG : Reg := ⟨0x20100, 0x10, 16, .warm, .all, [⟨31, 28, .rw⟩, ⟨26, 20, .rw⟩, ⟨17, 12, .rw⟩], fun g => if g = 0 then 0x10000000 else 0x00000000⟩
def F.LOOPGg_CFG_DEST : Fld := ⟨R.LOOPGg_CFG, 28, 4⟩
def F.LOOPGg_CFG_IDX : Fld := ⟨R.LOOPGg_CFG, 20, 7⟩
def F.LOOPGg_CFG_CNT : Fld := ⟨R.LOOPGg_CFG, 12, 6⟩
/-- LOOPGg_HEAD, spec chapter 06. -/
def R.LOOPGg_HEAD : Reg := ⟨0x20104, 0x10, 16, .warm, .all, [⟨31, 0, .rw⟩], fun _ => 0x00000040⟩
def F.LOOPGg_HEAD_HEADROOM : Fld := ⟨R.LOOPGg_HEAD, 0, 32⟩
/-- LOOPGg_OUT, spec chapter 06. -/
def R.LOOPGg_OUT : Reg := ⟨0x20108, 0x10, 16, .warm, .all, [], fun _ => 0x00000000⟩
def F.LOOPGg_OUT_OUT : Fld := ⟨R.LOOPGg_OUT, 0, 32⟩
/-- LOOPGg_STATUS, spec chapter 06. -/
def R.LOOPGg_STATUS : Reg := ⟨0x2010C, 0x10, 16, .warm, .all, [], fun _ => 0x00000000⟩
def F.LOOPGg_STATUS_VALID : Fld := ⟨R.LOOPGg_STATUS, 31, 1⟩
def F.LOOPGg_STATUS_WINNER : Fld := ⟨R.LOOPGg_STATUS, 16, 7⟩
def F.LOOPGg_STATUS_SWITCHES : Fld := ⟨R.LOOPGg_STATUS, 0, 16⟩
/-- LOOPNk_CFG, spec chapter 06. -/
def R.LOOPNk_CFG : Reg := ⟨0x20200, 0x10, 8, .warm, .all, [⟨31, 31, .rw⟩, ⟨30, 24, .rw⟩, ⟨23, 16, .rw⟩], fun _ => 0x00E60000⟩
def F.LOOPNk_CFG_EN : Fld := ⟨R.LOOPNk_CFG, 31, 1⟩
def F.LOOPNk_CFG_SLOT : Fld := ⟨R.LOOPNk_CFG, 24, 7⟩
def F.LOOPNk_CFG_RHO : Fld := ⟨R.LOOPNk_CFG, 16, 8⟩
/-- LOOPNk_FREQ, spec chapter 06. -/
def R.LOOPNk_FREQ : Reg := ⟨0x20204, 0x10, 8, .warm, .all, [⟨15, 0, .rw⟩], fun _ => 0x00000000⟩
def F.LOOPNk_FREQ_F_MAN : Fld := ⟨R.LOOPNk_FREQ, 0, 16⟩
/-- LOOPNk_STATUS, spec chapter 06. -/
def R.LOOPNk_STATUS : Reg := ⟨0x20208, 0x10, 8, .warm, .all, [], fun _ => 0x00000000⟩
def F.LOOPNk_STATUS_USE : Fld := ⟨R.LOOPNk_STATUS, 30, 2⟩
def F.LOOPNk_STATUS_SLOT_NOW : Fld := ⟨R.LOOPNk_STATUS, 23, 7⟩
def F.LOOPNk_STATUS_F_NOW : Fld := ⟨R.LOOPNk_STATUS, 0, 16⟩
/-- SLOTn_CTRL, spec chapter 06. -/
def R.SLOTn_CTRL : Reg := ⟨0x24000, 0x80, 128, .warm, .all, [⟨31, 31, .rw⟩, ⟨30, 30, .rw⟩, ⟨29, 29, .rw⟩, ⟨28, 28, .rw⟩, ⟨27, 27, .rw⟩, ⟨26, 22, .rw⟩, ⟨21, 21, .rw⟩, ⟨19, 16, .rw⟩, ⟨15, 12, .rw⟩, ⟨7, 0, .rw⟩], fun _ => 0x00000010⟩
def F.SLOTn_CTRL_EN : Fld := ⟨R.SLOTn_CTRL, 31, 1⟩
def F.SLOTn_CTRL_ORDER : Fld := ⟨R.SLOTn_CTRL, 30, 1⟩
def F.SLOTn_CTRL_POL : Fld := ⟨R.SLOTn_CTRL, 29, 1⟩
def F.SLOTn_CTRL_FF_EN : Fld := ⟨R.SLOTn_CTRL, 28, 1⟩
def F.SLOTn_CTRL_PROF_BYPASS : Fld := ⟨R.SLOTn_CTRL, 27, 1⟩
def F.SLOTn_CTRL_TAPS : Fld := ⟨R.SLOTn_CTRL, 22, 5⟩
def F.SLOTn_CTRL_COEF_HOLD : Fld := ⟨R.SLOTn_CTRL, 21, 1⟩
def F.SLOTn_CTRL_GROUP : Fld := ⟨R.SLOTn_CTRL, 16, 4⟩
def F.SLOTn_CTRL_LAST_SEL : Fld := ⟨R.SLOTn_CTRL, 12, 4⟩
def F.SLOTn_CTRL_FF_K : Fld := ⟨R.SLOTn_CTRL, 0, 8⟩
/-- SLOTn_PERIOD, spec chapter 06. -/
def R.SLOTn_PERIOD : Reg := ⟨0x24004, 0x80, 128, .warm, .all, [⟨16, 0, .rw⟩], fun _ => 0x00000001⟩
def F.SLOTn_PERIOD_VALUE : Fld := ⟨R.SLOTn_PERIOD, 0, 17⟩
/-- SLOTn_PHASE, spec chapter 06. -/
def R.SLOTn_PHASE : Reg := ⟨0x24008, 0x80, 128, .warm, .all, [⟨16, 0, .rw⟩], fun _ => 0x00000000⟩
def F.SLOTn_PHASE_VALUE : Fld := ⟨R.SLOTn_PHASE, 0, 17⟩
/-- SLOTn_SRC, spec chapter 06. -/
def R.SLOTn_SRC : Reg := ⟨0x2400C, 0x80, 128, .warm, .all, [⟨31, 16, .rw⟩, ⟨15, 0, .rw⟩], fun _ => 0x00000000⟩
def F.SLOTn_SRC_TGT_SRC : Fld := ⟨R.SLOTn_SRC, 16, 16⟩
def F.SLOTn_SRC_FB_SRC : Fld := ⟨R.SLOTn_SRC, 0, 16⟩
/-- SLOTn_TARGET, spec chapter 06. -/
def R.SLOTn_TARGET : Reg := ⟨0x24010, 0x80, 128, .warm, .all, [⟨31, 0, .rw⟩], fun _ => 0x00000000⟩
def F.SLOTn_TARGET_VALUE : Fld := ⟨R.SLOTn_TARGET, 0, 32⟩
/-- SLOTn_PROF0, spec chapter 06. -/
def R.SLOTn_PROF0 : Reg := ⟨0x24014, 0x80, 128, .warm, .all, [⟨31, 0, .rw⟩], fun _ => 0x00006400⟩
def F.SLOTn_PROF0_VEL : Fld := ⟨R.SLOTn_PROF0, 0, 32⟩
/-- SLOTn_PROF1, spec chapter 06. -/
def R.SLOTn_PROF1 : Reg := ⟨0x24018, 0x80, 128, .warm, .all, [⟨31, 16, .rw⟩, ⟨15, 0, .rw⟩], fun _ => 0x0A000200⟩
def F.SLOTn_PROF1_ACC : Fld := ⟨R.SLOTn_PROF1, 16, 16⟩
def F.SLOTn_PROF1_JERK : Fld := ⟨R.SLOTn_PROF1, 0, 16⟩
/-- SLOTn_HI, spec chapter 06. -/
def R.SLOTn_HI : Reg := ⟨0x2401C, 0x80, 128, .warm, .all, [⟨31, 0, .rw⟩], fun _ => 0x7FFFFFFF⟩
def F.SLOTn_HI_VALUE : Fld := ⟨R.SLOTn_HI, 0, 32⟩
/-- SLOTn_LO, spec chapter 06. -/
def R.SLOTn_LO : Reg := ⟨0x24020, 0x80, 128, .warm, .all, [⟨31, 0, .rw⟩], fun _ => 0x00000000⟩
def F.SLOTn_LO_VALUE : Fld := ⟨R.SLOTn_LO, 0, 32⟩
/-- SLOTn_SAFE, spec chapter 06. -/
def R.SLOTn_SAFE : Reg := ⟨0x24024, 0x80, 128, .warm, .all, [⟨31, 0, .rw⟩], fun _ => 0x00000000⟩
def F.SLOTn_SAFE_VALUE : Fld := ⟨R.SLOTn_SAFE, 0, 32⟩
/-- SLOTn_INIT, spec chapter 06. -/
def R.SLOTn_INIT : Reg := ⟨0x24028, 0x80, 128, .warm, .all, [⟨31, 0, .rw⟩], fun _ => 0x00000000⟩
def F.SLOTn_INIT_VALUE : Fld := ⟨R.SLOTn_INIT, 0, 32⟩
/-- SLOTn_CEIL, spec chapter 06. -/
def R.SLOTn_CEIL : Reg := ⟨0x2402C, 0x80, 128, .warm, .all, [⟨31, 16, .rw⟩, ⟨15, 0, .rw⟩], fun _ => 0x00001000⟩
def F.SLOTn_CEIL_CEIL_SRC : Fld := ⟨R.SLOTn_CEIL, 16, 16⟩
def F.SLOTn_CEIL_CEIL_K : Fld := ⟨R.SLOTn_CEIL, 0, 16⟩
/-- SLOTn_B0, spec chapter 06. -/
def R.SLOTn_B0 : Reg := ⟨0x24030, 0x80, 128, .warm, .all, [⟨31, 0, .rw⟩], fun _ => 0x00000000⟩
def F.SLOTn_B0_COEF : Fld := ⟨R.SLOTn_B0, 0, 32⟩
/-- SLOTn_B1, spec chapter 06. -/
def R.SLOTn_B1 : Reg := ⟨0x24034, 0x80, 128, .warm, .all, [⟨31, 0, .rw⟩], fun _ => 0x00000000⟩
def F.SLOTn_B1_COEF : Fld := ⟨R.SLOTn_B1, 0, 32⟩
/-- SLOTn_B2, spec chapter 06. -/
def R.SLOTn_B2 : Reg := ⟨0x24038, 0x80, 128, .warm, .all, [⟨31, 0, .rw⟩], fun _ => 0x00000000⟩
def F.SLOTn_B2_COEF : Fld := ⟨R.SLOTn_B2, 0, 32⟩
/-- SLOTn_B3, spec chapter 06. -/
def R.SLOTn_B3 : Reg := ⟨0x2403C, 0x80, 128, .warm, .all, [⟨31, 0, .rw⟩], fun _ => 0x00000000⟩
def F.SLOTn_B3_COEF : Fld := ⟨R.SLOTn_B3, 0, 32⟩
/-- SLOTn_A1, spec chapter 06. -/
def R.SLOTn_A1 : Reg := ⟨0x24040, 0x80, 128, .warm, .all, [⟨31, 0, .rw⟩], fun _ => 0x00000000⟩
def F.SLOTn_A1_COEF : Fld := ⟨R.SLOTn_A1, 0, 32⟩
/-- SLOTn_A2, spec chapter 06. -/
def R.SLOTn_A2 : Reg := ⟨0x24044, 0x80, 128, .warm, .all, [⟨31, 0, .rw⟩], fun _ => 0x00000000⟩
def F.SLOTn_A2_COEF : Fld := ⟨R.SLOTn_A2, 0, 32⟩
/-- SLOTn_A3, spec chapter 06. -/
def R.SLOTn_A3 : Reg := ⟨0x24048, 0x80, 128, .warm, .all, [⟨31, 0, .rw⟩], fun _ => 0x00000000⟩
def F.SLOTn_A3_COEF : Fld := ⟨R.SLOTn_A3, 0, 32⟩
/-- SLOTn_SHIFTB, spec chapter 06. -/
def R.SLOTn_SHIFTB : Reg := ⟨0x2404C, 0x80, 128, .warm, .all, [⟨19, 15, .rw⟩, ⟨14, 10, .rw⟩, ⟨9, 5, .rw⟩, ⟨4, 0, .rw⟩], fun _ => 0x00000000⟩
def F.SLOTn_SHIFTB_SB3 : Fld := ⟨R.SLOTn_SHIFTB, 15, 5⟩
def F.SLOTn_SHIFTB_SB2 : Fld := ⟨R.SLOTn_SHIFTB, 10, 5⟩
def F.SLOTn_SHIFTB_SB1 : Fld := ⟨R.SLOTn_SHIFTB, 5, 5⟩
def F.SLOTn_SHIFTB_SB0 : Fld := ⟨R.SLOTn_SHIFTB, 0, 5⟩
/-- SLOTn_SHIFTA, spec chapter 06. -/
def R.SLOTn_SHIFTA : Reg := ⟨0x24050, 0x80, 128, .warm, .all, [⟨14, 10, .rw⟩, ⟨9, 5, .rw⟩, ⟨4, 0, .rw⟩], fun _ => 0x00000000⟩
def F.SLOTn_SHIFTA_SA3 : Fld := ⟨R.SLOTn_SHIFTA, 10, 5⟩
def F.SLOTn_SHIFTA_SA2 : Fld := ⟨R.SLOTn_SHIFTA, 5, 5⟩
def F.SLOTn_SHIFTA_SA1 : Fld := ⟨R.SLOTn_SHIFTA, 0, 5⟩
/-- SLOTn_CHECK, spec chapter 06. -/
def R.SLOTn_CHECK : Reg := ⟨0x24054, 0x80, 128, .warm, .all, [⟨31, 24, .rw⟩, ⟨23, 16, .rw⟩, ⟨15, 0, .rw⟩], fun _ => 0x20010000⟩
def F.SLOTn_CHECK_FRZ_K : Fld := ⟨R.SLOTn_CHECK, 24, 8⟩
def F.SLOTn_CHECK_FRZ_BAND : Fld := ⟨R.SLOTn_CHECK, 16, 8⟩
def F.SLOTn_CHECK_MAX_AGE : Fld := ⟨R.SLOTn_CHECK, 0, 16⟩
/-- SLOTn_RANGE_LO, spec chapter 06. -/
def R.SLOTn_RANGE_LO : Reg := ⟨0x24058, 0x80, 128, .warm, .all, [⟨31, 0, .rw⟩], fun _ => 0x80000000⟩
def F.SLOTn_RANGE_LO_VALUE : Fld := ⟨R.SLOTn_RANGE_LO, 0, 32⟩
/-- SLOTn_RANGE_HI, spec chapter 06. -/
def R.SLOTn_RANGE_HI : Reg := ⟨0x2405C, 0x80, 128, .warm, .all, [⟨31, 0, .rw⟩], fun _ => 0x7FFFFFFF⟩
def F.SLOTn_RANGE_HI_VALUE : Fld := ⟨R.SLOTn_RANGE_HI, 0, 32⟩
/-- SLOTn_LOSS, spec chapter 06. -/
def R.SLOTn_LOSS : Reg := ⟨0x24060, 0x80, 128, .warm, .all, [⟨31, 16, .rw⟩, ⟨15, 8, .rw⟩, ⟨7, 0, .rw⟩], fun _ => 0x00640804⟩
def F.SLOTn_LOSS_HOLD_US : Fld := ⟨R.SLOTn_LOSS, 16, 16⟩
def F.SLOTn_LOSS_REVALID : Fld := ⟨R.SLOTn_LOSS, 8, 8⟩
def F.SLOTn_LOSS_OVR_K : Fld := ⟨R.SLOTn_LOSS, 0, 8⟩
/-- SLOTn_OSC, spec chapter 06. -/
def R.SLOTn_OSC : Reg := ⟨0x24064, 0x80, 128, .warm, .all, [⟨31, 24, .rw⟩, ⟨23, 16, .rw⟩, ⟨15, 0, .rw⟩], fun _ => 0x10400010⟩
def F.SLOTn_OSC_OSC_N : Fld := ⟨R.SLOTn_OSC, 24, 8⟩
def F.SLOTn_OSC_OSC_WIN : Fld := ⟨R.SLOTn_OSC, 16, 8⟩
def F.SLOTn_OSC_OSC_BAND : Fld := ⟨R.SLOTn_OSC, 0, 16⟩
/-- SLOTn_STATUS, spec chapter 06. -/
def R.SLOTn_STATUS : Reg := ⟨0x24068, 0x80, 128, .warm, .all, [⟨20, 20, .w1c⟩, ⟨19, 19, .w1c⟩, ⟨18, 18, .w1c⟩, ⟨13, 13, .w1c⟩], fun _ => 0x00000000⟩
def F.SLOTn_STATUS_STATE : Fld := ⟨R.SLOTn_STATUS, 29, 3⟩
def F.SLOTn_STATUS_PENDING_ENABLE : Fld := ⟨R.SLOTn_STATUS, 28, 1⟩
def F.SLOTn_STATUS_HALVED : Fld := ⟨R.SLOTn_STATUS, 27, 1⟩
def F.SLOTn_STATUS_CAUSE : Fld := ⟨R.SLOTn_STATUS, 25, 2⟩
def F.SLOTn_STATUS_WINNER : Fld := ⟨R.SLOTn_STATUS, 24, 1⟩
def F.SLOTn_STATUS_CEIL_ACT : Fld := ⟨R.SLOTn_STATUS, 23, 1⟩
def F.SLOTn_STATUS_CLAMP_LOSE : Fld := ⟨R.SLOTn_STATUS, 22, 1⟩
def F.SLOTn_STATUS_SRC_STALE : Fld := ⟨R.SLOTn_STATUS, 21, 1⟩
def F.SLOTn_STATUS_FRESH_FAIL : Fld := ⟨R.SLOTn_STATUS, 20, 1⟩
def F.SLOTn_STATUS_FREEZE_FAIL : Fld := ⟨R.SLOTn_STATUS, 19, 1⟩
def F.SLOTn_STATUS_RANGE_FAIL : Fld := ⟨R.SLOTn_STATUS, 18, 1⟩
def F.SLOTn_STATUS_NOTCH : Fld := ⟨R.SLOTn_STATUS, 17, 1⟩
def F.SLOTn_STATUS_NOTCH_IDX : Fld := ⟨R.SLOTn_STATUS, 14, 3⟩
def F.SLOTn_STATUS_NO_NOTCH : Fld := ⟨R.SLOTn_STATUS, 13, 1⟩
/-- SLOTn_OUT, spec chapter 06. -/
def R.SLOTn_OUT : Reg := ⟨0x2406C, 0x80, 128, .warm, .all, [], fun _ => 0x00000000⟩
def F.SLOTn_OUT_VALUE : Fld := ⟨R.SLOTn_OUT, 0, 32⟩
/-- SLOTn_LAT, spec chapter 06. -/
def R.SLOTn_LAT : Reg := ⟨0x24070, 0x80, 128, .warm, .all, [], fun _ => 0x0000FFFF⟩
def F.SLOTn_LAT_LAT_MAX : Fld := ⟨R.SLOTn_LAT, 16, 16⟩
def F.SLOTn_LAT_LAT_MIN : Fld := ⟨R.SLOTn_LAT, 0, 16⟩
/-- SLOTn_COUNT, spec chapter 06. -/
def R.SLOTn_COUNT : Reg := ⟨0x24074, 0x80, 128, .warm, .all, [], fun _ => 0x00000000⟩
def F.SLOTn_COUNT_OVERRUNS : Fld := ⟨R.SLOTn_COUNT, 16, 16⟩
def F.SLOTn_COUNT_OSC_TRIPS : Fld := ⟨R.SLOTn_COUNT, 8, 8⟩
def F.SLOTn_COUNT_LOSSES : Fld := ⟨R.SLOTn_COUNT, 0, 8⟩
/-- SLOTn_REF, spec chapter 06. -/
def R.SLOTn_REF : Reg := ⟨0x24078, 0x80, 128, .warm, .all, [], fun _ => 0x00000000⟩
def F.SLOTn_REF_VALUE : Fld := ⟨R.SLOTn_REF, 0, 32⟩
/-- SLOTn_YNOW, spec chapter 06. -/
def R.SLOTn_YNOW : Reg := ⟨0x2407C, 0x80, 128, .warm, .all, [], fun _ => 0x00000000⟩
def F.SLOTn_YNOW_VALUE : Fld := ⟨R.SLOTn_YNOW, 0, 32⟩
/-- LAST_CTRL, spec chapter 07. -/
def R.LAST_CTRL : Reg := ⟨0x28000, 0x4, 1, .warm, .all, [⟨15, 8, .rw⟩], fun _ => 0x0000C000⟩
def F.LAST_CTRL_AC_THR : Fld := ⟨R.LAST_CTRL, 8, 8⟩
/-- LAST_STATUS, spec chapter 07. -/
def R.LAST_STATUS : Reg := ⟨0x28004, 0x4, 1, .warm, .all, [], fun _ => 0x00000000⟩
def F.LAST_STATUS_FADING : Fld := ⟨R.LAST_STATUS, 16, 16⟩
def F.LAST_STATUS_LOCKED : Fld := ⟨R.LAST_STATUS, 0, 16⟩
/-- LAST_BINLOAD, spec chapter 07. -/
def R.LAST_BINLOAD : Reg := ⟨0x28008, 0x4, 1, .warm, .all, [⟨19, 16, .rw⟩, ⟨11, 0, .rw⟩], fun _ => 0x00000000⟩
def F.LAST_BINLOAD_STATUS : Fld := ⟨R.LAST_BINLOAD, 30, 2⟩
def F.LAST_BINLOAD_L : Fld := ⟨R.LAST_BINLOAD, 16, 4⟩
def F.LAST_BINLOAD_BIN : Fld := ⟨R.LAST_BINLOAD, 0, 12⟩
/-- LAST_BINDATA, spec chapter 07. -/
def R.LAST_BINDATA : Reg := ⟨0x2800C, 0x4, 1, .warm, .all, [⟨15, 0, .rw⟩], fun _ => 0x00000000⟩
def F.LAST_BINDATA_VALUE : Fld := ⟨R.LAST_BINDATA, 0, 16⟩
/-- LAST_FFLIMr, spec chapter 07. -/
def R.LAST_FFLIMr : Reg := ⟨0x28010, 0x4, 8, .warm, .rail, [⟨15, 0, .rw⟩], fun _ => 0x00000000⟩
def F.LAST_FFLIMr_FFLIM : Fld := ⟨R.LAST_FFLIMr, 0, 16⟩
/-- LASTl_CFG, spec chapter 07. -/
def R.LASTl_CFG : Reg := ⟨0x28100, 0x40, 16, .warm, .all, [⟨31, 31, .rw⟩, ⟨30, 29, .rw⟩, ⟨28, 27, .rw⟩, ⟨26, 24, .rw⟩, ⟨23, 18, .rw⟩, ⟨17, 12, .rw⟩, ⟨11, 0, .rw⟩], fun _ => 0x000003FF⟩
def F.LASTl_CFG_EN : Fld := ⟨R.LASTl_CFG, 31, 1⟩
def F.LASTl_CFG_MODE : Fld := ⟨R.LASTl_CFG, 29, 2⟩
def F.LASTl_CFG_DEST : Fld := ⟨R.LASTl_CFG, 27, 2⟩
def F.LASTl_CFG_RAIL : Fld := ⟨R.LASTl_CFG, 24, 3⟩
def F.LASTl_CFG_CL_FIRST : Fld := ⟨R.LASTl_CFG, 18, 6⟩
def F.LASTl_CFG_CL_CNT : Fld := ⟨R.LASTl_CFG, 12, 6⟩
def F.LASTl_CFG_BINS : Fld := ⟨R.LASTl_CFG, 0, 12⟩
/-- LASTl_SRC, spec chapter 07. -/
def R.LASTl_SRC : Reg := ⟨0x28104, 0x40, 16, .warm, .all, [⟨15, 0, .rw⟩], fun _ => 0x00000000⟩
def F.LASTl_SRC_SRC : Fld := ⟨R.LASTl_SRC, 0, 16⟩
/-- LASTl_PMIN, spec chapter 07. -/
def R.LASTl_PMIN : Reg := ⟨0x28108, 0x40, 16, .warm, .all, [⟨17, 0, .rw⟩], fun _ => 0x0000000A⟩
def F.LASTl_PMIN_PERIOD : Fld := ⟨R.LASTl_PMIN, 0, 18⟩
/-- LASTl_PMAX, spec chapter 07. -/
def R.LASTl_PMAX : Reg := ⟨0x2810C, 0x40, 16, .warm, .all, [⟨17, 0, .rw⟩], fun _ => 0x00030D40⟩
def F.LASTl_PMAX_PERIOD : Fld := ⟨R.LASTl_PMAX, 0, 18⟩
/-- LASTl_LEARN, spec chapter 07. -/
def R.LASTl_LEARN : Reg := ⟨0x28110, 0x40, 16, .warm, .all, [⟨31, 28, .rw⟩, ⟨27, 24, .rw⟩, ⟨23, 20, .rw⟩, ⟨19, 16, .rw⟩, ⟨15, 0, .rw⟩], fun _ => 0x20040002⟩
def F.LASTl_LEARN_LRN : Fld := ⟨R.LASTl_LEARN, 28, 4⟩
def F.LASTl_LEARN_FGT : Fld := ⟨R.LASTl_LEARN, 24, 4⟩
def F.LASTl_LEARN_SHIFT : Fld := ⟨R.LASTl_LEARN, 20, 4⟩
def F.LASTl_LEARN_WARM : Fld := ⟨R.LASTl_LEARN, 16, 4⟩
def F.LASTl_LEARN_LEAD_US : Fld := ⟨R.LASTl_LEARN, 0, 16⟩
/-- LASTl_GAIN, spec chapter 07. -/
def R.LASTl_GAIN : Reg := ⟨0x28114, 0x40, 16, .warm, .all, [⟨7, 0, .rw⟩], fun _ => 0x00000010⟩
def F.LASTl_GAIN_FF_K : Fld := ⟨R.LASTl_GAIN, 0, 8⟩
/-- LASTl_STATUS, spec chapter 07. -/
def R.LASTl_STATUS : Reg := ⟨0x28118, 0x40, 16, .warm, .all, [⟨27, 27, .w1c⟩], fun _ => 0x00000000⟩
def F.LASTl_STATUS_STATE : Fld := ⟨R.LASTl_STATUS, 30, 2⟩
def F.LASTl_STATUS_AUTO_LOCK : Fld := ⟨R.LASTl_STATUS, 29, 1⟩
def F.LASTl_STATUS_LOADED : Fld := ⟨R.LASTl_STATUS, 28, 1⟩
def F.LASTl_STATUS_CFG_ERR : Fld := ⟨R.LASTl_STATUS, 27, 1⟩
def F.LASTl_STATUS_G : Fld := ⟨R.LASTl_STATUS, 18, 9⟩
def F.LASTl_STATUS_PER_EST : Fld := ⟨R.LASTl_STATUS, 0, 18⟩
/-- LASTl_PHASE, spec chapter 07. -/
def R.LASTl_PHASE : Reg := ⟨0x2811C, 0x40, 16, .warm, .all, [], fun _ => 0x00000000⟩
def F.LASTl_PHASE_BIN_NOW : Fld := ⟨R.LASTl_PHASE, 16, 12⟩
def F.LASTl_PHASE_DEV : Fld := ⟨R.LASTl_PHASE, 0, 16⟩
/-- LASTl_MEAN, spec chapter 07. -/
def R.LASTl_MEAN : Reg := ⟨0x28120, 0x40, 16, .warm, .all, [], fun _ => 0x00000000⟩
def F.LASTl_MEAN_M : Fld := ⟨R.LASTl_MEAN, 0, 16⟩
/-- LASTl_PLOAD, spec chapter 07. -/
def R.LASTl_PLOAD : Reg := ⟨0x28124, 0x40, 16, .warm, .all, [⟨17, 0, .rw⟩], fun _ => 0x00000000⟩
def F.LASTl_PLOAD_PERIOD : Fld := ⟨R.LASTl_PLOAD, 0, 18⟩
/-- LASTl_COUNT, spec chapter 07. -/
def R.LASTl_COUNT : Reg := ⟨0x28128, 0x40, 16, .warm, .all, [], fun _ => 0x00000000⟩
def F.LASTl_COUNT_LOCKS : Fld := ⟨R.LASTl_COUNT, 16, 16⟩
def F.LASTl_COUNT_FADES : Fld := ⟨R.LASTl_COUNT, 0, 16⟩
/-- LASTl_PLOCK, spec chapter 07. -/
def R.LASTl_PLOCK : Reg := ⟨0x28130, 0x40, 16, .warm, .all, [], fun _ => 0x00000000⟩
def F.LASTl_PLOCK_PLOCK : Fld := ⟨R.LASTl_PLOCK, 0, 18⟩
/-- LASTl_BINk, spec chapter 07. -/
def R.LASTl_BINk : Reg := ⟨0x30000, 0x4, 32768, .warm, .all, [], fun _ => 0x00000000⟩
def F.LASTl_BINk_BIN_HI : Fld := ⟨R.LASTl_BINk, 16, 16⟩
def F.LASTl_BINk_BIN_LO : Fld := ⟨R.LASTl_BINk, 0, 16⟩
/-- THM_CTRL, spec chapter 08. -/
def R.THM_CTRL : Reg := ⟨0x50000, 0x4, 1, .warm, .all, [⟨1, 1, .rw⟩, ⟨0, 0, .rw⟩], fun _ => 0x00000001⟩
def F.THM_CTRL_MODEL_EN : Fld := ⟨R.THM_CTRL, 1, 1⟩
def F.THM_CTRL_REF_EN : Fld := ⟨R.THM_CTRL, 0, 1⟩
/-- THM_LOGIC_LVL, spec chapter 08. -/
def R.THM_LOGIC_LVL : Reg := ⟨0x50004, 0x4, 1, .warm, .all, [⟨23, 16, .rwl .therm⟩, ⟨15, 8, .rwl .therm⟩, ⟨7, 0, .rwl .therm⟩], fun _ => 0x006E645F⟩
def F.THM_LOGIC_LVL_CRIT : Fld := ⟨R.THM_LOGIC_LVL, 16, 8⟩
def F.THM_LOGIC_LVL_THROTTLE : Fld := ⟨R.THM_LOGIC_LVL, 8, 8⟩
def F.THM_LOGIC_LVL_WARN : Fld := ⟨R.THM_LOGIC_LVL, 0, 8⟩
/-- THM_MEM_LVL, spec chapter 08. -/
def R.THM_MEM_LVL : Reg := ⟨0x50008, 0x4, 1, .warm, .all, [⟨31, 24, .rwl .therm⟩, ⟨23, 16, .rwl .therm⟩, ⟨15, 8, .rwl .therm⟩, ⟨7, 0, .rwl .therm⟩], fun _ => 0x69645F55⟩
def F.THM_MEM_LVL_CRIT : Fld := ⟨R.THM_MEM_LVL, 24, 8⟩
def F.THM_MEM_LVL_HARD : Fld := ⟨R.THM_MEM_LVL, 16, 8⟩
def F.THM_MEM_LVL_EXTENDED : Fld := ⟨R.THM_MEM_LVL, 8, 8⟩
def F.THM_MEM_LVL_NORMAL : Fld := ⟨R.THM_MEM_LVL, 0, 8⟩
/-- THM_HYST, spec chapter 08. -/
def R.THM_HYST : Reg := ⟨0x5000C, 0x4, 1, .warm, .all, [⟨31, 24, .rwl .therm⟩, ⟨23, 16, .rw⟩, ⟨15, 8, .rwl .therm⟩, ⟨7, 0, .rw⟩], fun _ => 0x03030202⟩
def F.THM_HYST_HARD_GUARD : Fld := ⟨R.THM_HYST, 24, 8⟩
def F.THM_HYST_REF_HYST : Fld := ⟨R.THM_HYST, 16, 8⟩
def F.THM_HYST_REF_MARGIN : Fld := ⟨R.THM_HYST, 8, 8⟩
def F.THM_HYST_HYST : Fld := ⟨R.THM_HYST, 0, 8⟩
/-- THM_RATE, spec chapter 08. -/
def R.THM_RATE : Reg := ⟨0x50010, 0x4, 1, .warm, .all, [⟨31, 24, .rwl .therm⟩, ⟨23, 16, .rwl .therm⟩, ⟨15, 8, .rwl .therm⟩, ⟨7, 0, .rwl .therm⟩], fun _ => 0x10083C20⟩
def F.THM_RATE_MEM_ACT : Fld := ⟨R.THM_RATE, 24, 8⟩
def F.THM_RATE_MEM_WARN : Fld := ⟨R.THM_RATE, 16, 8⟩
def F.THM_RATE_LOG_ACT : Fld := ⟨R.THM_RATE, 8, 8⟩
def F.THM_RATE_LOG_WARN : Fld := ⟨R.THM_RATE, 0, 8⟩
/-- THM_BACKSTOP, spec chapter 08. -/
def R.THM_BACKSTOP : Reg := ⟨0x50014, 0x4, 1, .warm, .all, [⟨31, 24, .rw⟩, ⟨23, 16, .rw⟩, ⟨13, 12, .rwl .therm⟩, ⟨11, 8, .rwl .therm⟩, ⟨3, 0, .rwl .therm⟩], fun _ => 0x0A0A0F08⟩
def F.THM_BACKSTOP_RATE_BAND : Fld := ⟨R.THM_BACKSTOP, 24, 8⟩
def F.THM_BACKSTOP_THR_HOLD : Fld := ⟨R.THM_BACKSTOP, 16, 8⟩
def F.THM_BACKSTOP_HARD_DIV : Fld := ⟨R.THM_BACKSTOP, 12, 2⟩
def F.THM_BACKSTOP_HARD_SKIP : Fld := ⟨R.THM_BACKSTOP, 8, 4⟩
def F.THM_BACKSTOP_THR_SKIP : Fld := ⟨R.THM_BACKSTOP, 0, 4⟩
/-- THM_BROKEN, spec chapter 08. -/
def R.THM_BROKEN : Reg := ⟨0x50018, 0x4, 1, .warm, .all, [⟨31, 24, .rwl .therm⟩, ⟨23, 16, .rw⟩, ⟨15, 0, .rw⟩], fun _ => 0x08140100⟩
def F.THM_BROKEN_PENALTY : Fld := ⟨R.THM_BROKEN, 24, 8⟩
def F.THM_BROKEN_DEV_C : Fld := ⟨R.THM_BROKEN, 16, 8⟩
def F.THM_BROKEN_STUCK_N : Fld := ⟨R.THM_BROKEN, 0, 16⟩
/-- THM_REF, spec chapter 08. -/
def R.THM_REF : Reg := ⟨0x5001C, 0x4, 1, .warm, .all, [⟨31, 24, .rw⟩, ⟨23, 12, .rw⟩, ⟨11, 0, .rw⟩], fun _ => 0x0A25801E⟩
def F.THM_REF_REF_HOLD_MS : Fld := ⟨R.THM_REF, 24, 8⟩
def F.THM_REF_EDGE_REF_MW : Fld := ⟨R.THM_REF, 12, 12⟩
def F.THM_REF_REF_MW : Fld := ⟨R.THM_REF, 0, 12⟩
/-- THM_REF_RSV, spec chapter 08. -/
def R.THM_REF_RSV : Reg := ⟨0x50020, 0x4, 1, .warm, .all, [], fun _ => 0x00000000⟩
def F.THM_REF_RSV_RSV : Fld := ⟨R.THM_REF_RSV, 0, 16⟩
/-- THM_STATUS, spec chapter 08. -/
def R.THM_STATUS : Reg := ⟨0x50024, 0x4, 1, .warm, .all, [⟨31, 31, .w1c⟩], fun _ => 0x00000000⟩
def F.THM_STATUS_CRIT_SEEN : Fld := ⟨R.THM_STATUS, 31, 1⟩
def F.THM_STATUS_N_REF : Fld := ⟨R.THM_STATUS, 14, 11⟩
def F.THM_STATUS_N_BACKSTOP : Fld := ⟨R.THM_STATUS, 0, 11⟩
/-- THM_CHIP, spec chapter 08. -/
def R.THM_CHIP : Reg := ⟨0x50028, 0x4, 1, .warm, .all, [], fun _ => 0x00000000⟩
def F.THM_CHIP_MEM_MAX : Fld := ⟨R.THM_CHIP, 16, 16⟩
def F.THM_CHIP_LOGIC_MAX : Fld := ⟨R.THM_CHIP, 0, 16⟩
/-- THM_NBROKEN, spec chapter 08. -/
def R.THM_NBROKEN : Reg := ⟨0x5002C, 0x4, 1, .warm, .all, [], fun _ => 0x00000000⟩
def F.THM_NBROKEN_N_BROKEN : Fld := ⟨R.THM_NBROKEN, 0, 14⟩
/-- THM_SEL, spec chapter 08. -/
def R.THM_SEL : Reg := ⟨0x50030, 0x4, 1, .warm, .all, [⟨14, 0, .rw⟩], fun _ => 0x00000000⟩
def F.THM_SEL_ADDR : Fld := ⟨R.THM_SEL, 0, 15⟩
/-- THM_SDATA, spec chapter 08. -/
def R.THM_SDATA : Reg := ⟨0x50034, 0x4, 1, .warm, .all, [⟨31, 31, .w1c⟩, ⟨30, 30, .rw⟩], fun _ => 0x00000000⟩
def F.THM_SDATA_BROKEN : Fld := ⟨R.THM_SDATA, 31, 1⟩
def F.THM_SDATA_SUBST : Fld := ⟨R.THM_SDATA, 30, 1⟩
def F.THM_SDATA_SAMPLED : Fld := ⟨R.THM_SDATA, 29, 1⟩
def F.THM_SDATA_CAUSE : Fld := ⟨R.THM_SDATA, 26, 3⟩
def F.THM_SDATA_VALUE : Fld := ⟨R.THM_SDATA, 0, 16⟩
/-- THM_WIN_CFG, spec chapter 08. -/
def R.THM_WIN_CFG : Reg := ⟨0x50040, 0x4, 1, .warm, .all, [⟨31, 24, .rw⟩, ⟨7, 4, .rwl .therm⟩, ⟨3, 0, .rwl .therm⟩], fun _ => 0x6400004C⟩
def F.THM_WIN_CFG_WIN_MAX_MS : Fld := ⟨R.THM_WIN_CFG, 24, 8⟩
def F.THM_WIN_CFG_CRIT_SKIP : Fld := ⟨R.THM_WIN_CFG, 4, 4⟩
def F.THM_WIN_CFG_WIN_SKIP : Fld := ⟨R.THM_WIN_CFG, 0, 4⟩
/-- THM_WIN_STATUS, spec chapter 08. -/
def R.THM_WIN_STATUS : Reg := ⟨0x50044, 0x4, 1, .warm, .all, [], fun _ => 0x00000000⟩
def F.THM_WIN_STATUS_STATE : Fld := ⟨R.THM_WIN_STATUS, 30, 2⟩
def F.THM_WIN_STATUS_SLOW_SENT : Fld := ⟨R.THM_WIN_STATUS, 29, 1⟩
def F.THM_WIN_STATUS_WIN_ID : Fld := ⟨R.THM_WIN_STATUS, 0, 16⟩
/-- THM_WIN_END_LO, spec chapter 08. -/
def R.THM_WIN_END_LO : Reg := ⟨0x50048, 0x4, 1, .warm, .all, [], fun _ => 0x00000000⟩
def F.THM_WIN_END_LO_END : Fld := ⟨R.THM_WIN_END_LO, 0, 32⟩
/-- THM_WIN_END_HI, spec chapter 08. -/
def R.THM_WIN_END_HI : Reg := ⟨0x5004C, 0x4, 1, .warm, .all, [], fun _ => 0x00000000⟩
def F.THM_WIN_END_HI_END : Fld := ⟨R.THM_WIN_END_HI, 0, 32⟩
/-- THM_WIN_DELAY, spec chapter 08. -/
def R.THM_WIN_DELAY : Reg := ⟨0x50050, 0x4, 1, .warm, .all, [], fun _ => 0x00000000⟩
def F.THM_WIN_DELAY_DELAY_US : Fld := ⟨R.THM_WIN_DELAY, 0, 32⟩
/-- THM_WIN_CRITk, spec chapter 08. -/
def R.THM_WIN_CRITk : Reg := ⟨0x50080, 0x4, 32, .warm, .all, [], fun _ => 0x00000000⟩
def F.THM_WIN_CRITk_CRIT : Fld := ⟨R.THM_WIN_CRITk, 0, 32⟩
/-- THMMs_A0, spec chapter 08. -/
def R.THMMs_A0 : Reg := ⟨0x50400, 0x20, 16, .warm, .all, [⟨31, 16, .rw⟩, ⟨15, 0, .rw⟩], fun _ => 0x2AAB3333⟩
def F.THMMs_A0_AL : Fld := ⟨R.THMMs_A0, 16, 16⟩
def F.THMMs_A0_AB : Fld := ⟨R.THMMs_A0, 0, 16⟩
/-- THMMs_A1, spec chapter 08. -/
def R.THMMs_A1 : Reg := ⟨0x50404, 0x20, 16, .warm, .all, [⟨31, 16, .rw⟩, ⟨15, 0, .rw⟩], fun _ => 0x06662800⟩
def F.THMMs_A1_AM : Fld := ⟨R.THMMs_A1, 16, 16⟩
def F.THMMs_A1_GLB : Fld := ⟨R.THMMs_A1, 0, 16⟩
/-- THMMs_G, spec chapter 08. -/
def R.THMMs_G : Reg := ⟨0x50408, 0x20, 16, .warm, .all, [⟨31, 16, .rw⟩, ⟨15, 0, .rw⟩], fun _ => 0x0D550155⟩
def F.THMMs_G_GBM : Fld := ⟨R.THMMs_G, 16, 16⟩
def F.THMMs_G_GMS : Fld := ⟨R.THMMs_G, 0, 16⟩
/-- THMMs_K, spec chapter 08. -/
def R.THMMs_K : Reg := ⟨0x5040C, 0x20, 16, .warm, .all, [⟨31, 24, .rw⟩, ⟨23, 16, .rw⟩, ⟨11, 0, .rw⟩], fun _ => 0x4040003C⟩
def F.THMMs_K_KL : Fld := ⟨R.THMMs_K, 24, 8⟩
def F.THMMs_K_KM : Fld := ⟨R.THMMs_K, 16, 8⟩
def F.THMMs_K_PMEM_MW : Fld := ⟨R.THMMs_K, 0, 12⟩
/-- THMCc_TSINK, spec chapter 08. -/
def R.THMCc_TSINK : Reg := ⟨0x50800, 0x10, 64, .warm, .cluster, [⟨15, 0, .rw⟩], fun _ => 0x000002D0⟩
def F.THMCc_TSINK_TSINK : Fld := ⟨R.THMCc_TSINK, 0, 16⟩
/-- THMCc_MAX, spec chapter 08. -/
def R.THMCc_MAX : Reg := ⟨0x50804, 0x10, 64, .warm, .cluster, [], fun _ => 0x00000000⟩
def F.THMCc_MAX_MEM_MAX : Fld := ⟨R.THMCc_MAX, 16, 16⟩
def F.THMCc_MAX_LOGIC_MAX : Fld := ⟨R.THMCc_MAX, 0, 16⟩
/-- THMCc_MODEL, spec chapter 08. -/
def R.THMCc_MODEL : Reg := ⟨0x50808, 0x10, 64, .warm, .cluster, [], fun _ => 0x00000000⟩
def F.THMCc_MODEL_PROJ_MAX : Fld := ⟨R.THMCc_MODEL, 16, 16⟩
def F.THMCc_MODEL_MODEL_MAX : Fld := ⟨R.THMCc_MODEL, 0, 16⟩
/-- THMEs_ZONE, spec chapter 08. -/
def R.THMEs_ZONE : Reg := ⟨0x50C00, 0x4, 8, .warm, .edge, [], fun _ => 0x00000000⟩
def F.THMEs_ZONE_REF : Fld := ⟨R.THMEs_ZONE, 31, 1⟩
def F.THMEs_ZONE_LVL : Fld := ⟨R.THMEs_ZONE, 16, 3⟩
def F.THMEs_ZONE_T_EDGE : Fld := ⟨R.THMEs_ZONE, 0, 16⟩
/-- THMn_CFG, spec chapter 08. -/
def R.THMn_CFG : Reg := ⟨0x54000, 0x20, 1024, .warm, .core, [⟨3, 0, .rw⟩], fun _ => 0x00000000⟩
def F.THMn_CFG_MSET : Fld := ⟨R.THMn_CFG, 0, 4⟩
/-- THMn_ZONE, spec chapter 08. -/
def R.THMn_ZONE : Reg := ⟨0x54004, 0x20, 1024, .warm, .core, [], fun _ => 0x00000000⟩
def F.THMn_ZONE_T_MEM : Fld := ⟨R.THMn_ZONE, 16, 16⟩
def F.THMn_ZONE_T_LOGIC : Fld := ⟨R.THMn_ZONE, 0, 16⟩
/-- THMn_STATUS, spec chapter 08. -/
def R.THMn_STATUS : Reg := ⟨0x54008, 0x20, 1024, .warm, .core, [], fun _ => 0x00000000⟩
def F.THMn_STATUS_LLVL : Fld := ⟨R.THMn_STATUS, 30, 2⟩
def F.THMn_STATUS_MLVL : Fld := ⟨R.THMn_STATUS, 27, 3⟩
def F.THMn_STATUS_REF : Fld := ⟨R.THMn_STATUS, 26, 1⟩
def F.THMn_STATUS_RATE_WARN : Fld := ⟨R.THMn_STATUS, 25, 1⟩
def F.THMn_STATUS_BACKSTOP : Fld := ⟨R.THMn_STATUS, 24, 1⟩
def F.THMn_STATUS_HARD_BS : Fld := ⟨R.THMn_STATUS, 23, 1⟩
def F.THMn_STATUS_CRIT : Fld := ⟨R.THMn_STATUS, 22, 1⟩
def F.THMn_STATUS_EXEMPT : Fld := ⟨R.THMn_STATUS, 21, 1⟩
def F.THMn_STATUS_LOST : Fld := ⟨R.THMn_STATUS, 20, 1⟩
def F.THMn_STATUS_LRATE : Fld := ⟨R.THMn_STATUS, 8, 8⟩
def F.THMn_STATUS_MRATE : Fld := ⟨R.THMn_STATUS, 0, 8⟩
/-- THMn_MODEL, spec chapter 08. -/
def R.THMn_MODEL : Reg := ⟨0x5400C, 0x20, 1024, .warm, .core, [], fun _ => 0x00000000⟩
def F.THMn_MODEL_TM : Fld := ⟨R.THMn_MODEL, 16, 16⟩
def F.THMn_MODEL_TL : Fld := ⟨R.THMn_MODEL, 0, 16⟩
/-- THMn_PROJ, spec chapter 08. -/
def R.THMn_PROJ : Reg := ⟨0x54010, 0x20, 1024, .warm, .core, [], fun _ => 0x00000000⟩
def F.THMn_PROJ_TM_INF : Fld := ⟨R.THMn_PROJ, 16, 16⟩
def F.THMn_PROJ_PROJ : Fld := ⟨R.THMn_PROJ, 0, 16⟩
/-- THMn_BOND, spec chapter 08. -/
def R.THMn_BOND : Reg := ⟨0x54014, 0x20, 1024, .warm, .core, [], fun _ => 0x00000000⟩
def F.THMn_BOND_TB : Fld := ⟨R.THMn_BOND, 0, 16⟩
/-- PRED_CTRL, spec chapter 07. -/
def R.PRED_CTRL : Reg := ⟨0x60000, 0x4, 1, .die, .all, [⟨31, 31, .rw⟩, ⟨30, 30, .rw⟩, ⟨29, 29, .rw⟩, ⟨28, 28, .rw⟩, ⟨27, 26, .rw⟩, ⟨15, 8, .rw⟩], fun _ => 0x10001000⟩
def F.PRED_CTRL_EN : Fld := ⟨R.PRED_CTRL, 31, 1⟩
def F.PRED_CTRL_SET_HOLD : Fld := ⟨R.PRED_CTRL, 30, 1⟩
def F.PRED_CTRL_FORCE_LIN : Fld := ⟨R.PRED_CTRL, 29, 1⟩
def F.PRED_CTRL_RAIL_FF_EN : Fld := ⟨R.PRED_CTRL, 28, 1⟩
def F.PRED_CTRL_WMODE : Fld := ⟨R.PRED_CTRL, 26, 2⟩
def F.PRED_CTRL_PRED_FF_K : Fld := ⟨R.PRED_CTRL, 8, 8⟩
/-- PRED_RESUME, spec chapter 07. -/
def R.PRED_RESUME : Reg := ⟨0x60004, 0x4, 1, .die, .all, [⟨0, 0, .rw⟩], fun _ => 0x00000000⟩
def F.PRED_RESUME_STATUS : Fld := ⟨R.PRED_RESUME, 30, 2⟩
def F.PRED_RESUME_GO : Fld := ⟨R.PRED_RESUME, 0, 1⟩
/-- PRED_STATUS, spec chapter 07. -/
def R.PRED_STATUS : Reg := ⟨0x60008, 0x4, 1, .die, .all, [], fun _ => 0x00000000⟩
def F.PRED_STATUS_STATE : Fld := ⟨R.PRED_STATUS, 30, 2⟩
def F.PRED_STATUS_SET_LIN : Fld := ⟨R.PRED_STATUS, 0, 16⟩
/-- PRED_RES, spec chapter 07. -/
def R.PRED_RES : Reg := ⟨0x6000C, 0x4, 1, .die, .all, [⟨31, 24, .rw⟩, ⟨23, 16, .rw⟩, ⟨15, 8, .rw⟩, ⟨7, 0, .rw⟩], fun _ => 0x10400810⟩
def F.PRED_RES_RES_PERSIST : Fld := ⟨R.PRED_RES, 24, 8⟩
def F.PRED_RES_RES_THR : Fld := ⟨R.PRED_RES, 16, 8⟩
def F.PRED_RES_RES_ABS : Fld := ⟨R.PRED_RES, 8, 8⟩
def F.PRED_RES_SHD_THR : Fld := ⟨R.PRED_RES, 0, 8⟩
/-- PRED_UNCORE, spec chapter 07. -/
def R.PRED_UNCORE : Reg := ⟨0x60010, 0x4, 1, .die, .all, [⟨15, 0, .rw⟩], fun _ => 0x00000000⟩
def F.PRED_UNCORE_UNCORE : Fld := ⟨R.PRED_UNCORE, 0, 16⟩
/-- PRED_CHIP, spec chapter 07. -/
def R.PRED_CHIP : Reg := ⟨0x60014, 0x4, 1, .die, .all, [], fun _ => 0x00000000⟩
def F.PRED_CHIP_RESIDUAL : Fld := ⟨R.PRED_CHIP, 16, 16⟩
def F.PRED_CHIP_EST : Fld := ⟨R.PRED_CHIP, 0, 16⟩
/-- PRED_SHADOW, spec chapter 07. -/
def R.PRED_SHADOW : Reg := ⟨0x60018, 0x4, 1, .die, .all, [], fun _ => 0x00000000⟩
def F.PRED_SHADOW_CORE : Fld := ⟨R.PRED_SHADOW, 16, 10⟩
def F.PRED_SHADOW_DEV : Fld := ⟨R.PRED_SHADOW, 0, 16⟩
/-- PRED_COUNT, spec chapter 07. -/
def R.PRED_COUNT : Reg := ⟨0x6001C, 0x4, 1, .die, .all, [], fun _ => 0x00000000⟩
def F.PRED_COUNT_FALLBACKS : Fld := ⟨R.PRED_COUNT, 24, 8⟩
def F.PRED_COUNT_SHD_FAILS : Fld := ⟨R.PRED_COUNT, 16, 8⟩
def F.PRED_COUNT_LATE : Fld := ⟨R.PRED_COUNT, 8, 8⟩
def F.PRED_COUNT_RES_TRIPS : Fld := ⟨R.PRED_COUNT, 0, 8⟩
/-- PREDCc_STATUS, spec chapter 07. -/
def R.PREDCc_STATUS : Reg := ⟨0x60100, 0x4, 64, .die, .cluster, [⟨29, 29, .w1c⟩], fun _ => 0x00000000⟩
def F.PREDCc_STATUS_FALLBACK : Fld := ⟨R.PREDCc_STATUS, 31, 1⟩
def F.PREDCc_STATUS_WITHDRAWN : Fld := ⟨R.PREDCc_STATUS, 30, 1⟩
def F.PREDCc_STATUS_RES_TRIP : Fld := ⟨R.PREDCc_STATUS, 29, 1⟩
def F.PREDCc_STATUS_RESIDUAL : Fld := ⟨R.PREDCc_STATUS, 0, 16⟩
/-- PREDn_CFG, spec chapter 07. -/
def R.PREDn_CFG : Reg := ⟨0x61000, 0x8, 1024, .die, .core, [⟨3, 0, .rw⟩], fun _ => 0x00000000⟩
def F.PREDn_CFG_SET : Fld := ⟨R.PREDn_CFG, 0, 4⟩
/-- PREDn_EST, spec chapter 07. -/
def R.PREDn_EST : Reg := ⟨0x61004, 0x8, 1024, .die, .core, [], fun _ => 0x00000000⟩
def F.PREDn_EST_LIN : Fld := ⟨R.PREDn_EST, 31, 1⟩
def F.PREDn_EST_EST : Fld := ⟨R.PREDn_EST, 0, 16⟩
/-- PREDSs_Wk, spec chapter 07. -/
def R.PREDSs_Wk (k : Nat) : Reg := ⟨0x64000 + 4 * k, 0x200, 16, .die, .all, [⟨31, 0, .rw⟩], fun _ => 0x00000000⟩
def F.PREDSs_Wk_W (k : Nat) : Fld := ⟨R.PREDSs_Wk k, 0, 32⟩
/-- PREDSs_SCALE0, spec chapter 07. -/
def R.PREDSs_SCALE0 : Reg := ⟨0x64040, 0x200, 16, .die, .all, [⟨31, 0, .rw⟩], fun _ => 0x80808080⟩
def F.PREDSs_SCALE0_S0 : Fld := ⟨R.PREDSs_SCALE0, 0, 32⟩
/-- PREDSs_SCALE1, spec chapter 07. -/
def R.PREDSs_SCALE1 : Reg := ⟨0x64044, 0x200, 16, .die, .all, [⟨31, 0, .rw⟩], fun _ => 0x80808080⟩
def F.PREDSs_SCALE1_S1 : Fld := ⟨R.PREDSs_SCALE1, 0, 32⟩
/-- PREDSs_BIAS, spec chapter 07. -/
def R.PREDSs_BIAS : Reg := ⟨0x64048, 0x200, 16, .die, .all, [⟨31, 16, .rw⟩, ⟨15, 0, .rw⟩], fun _ => 0x00000000⟩
def F.PREDSs_BIAS_B1 : Fld := ⟨R.PREDSs_BIAS, 16, 16⟩
def F.PREDSs_BIAS_B0 : Fld := ⟨R.PREDSs_BIAS, 0, 16⟩
/-- PREDSs_OUT, spec chapter 07. -/
def R.PREDSs_OUT : Reg := ⟨0x6404C, 0x200, 16, .die, .all, [⟨31, 16, .rw⟩, ⟨15, 8, .rw⟩, ⟨7, 0, .rw⟩], fun _ => 0x00000000⟩
def F.PREDSs_OUT_OB : Fld := ⟨R.PREDSs_OUT, 16, 16⟩
def F.PREDSs_OUT_V1 : Fld := ⟨R.PREDSs_OUT, 8, 8⟩
def F.PREDSs_OUT_V0 : Fld := ⟨R.PREDSs_OUT, 0, 8⟩
/-- PREDSs_GAIN, spec chapter 07. -/
def R.PREDSs_GAIN : Reg := ⟨0x64050, 0x200, 16, .die, .all, [⟨31, 16, .rw⟩, ⟨15, 0, .rw⟩], fun _ => 0x00808000⟩
def F.PREDSs_GAIN_KQ : Fld := ⟨R.PREDSs_GAIN, 16, 16⟩
def F.PREDSs_GAIN_GAIN : Fld := ⟨R.PREDSs_GAIN, 0, 16⟩
/-- PREDSs_LIM, spec chapter 07. -/
def R.PREDSs_LIM : Reg := ⟨0x64054, 0x200, 16, .die, .all, [⟨15, 0, .rw⟩], fun _ => 0x00000060⟩
def F.PREDSs_LIM_PMAX : Fld := ⟨R.PREDSs_LIM, 0, 16⟩
/-- PREDSs_LINCFG, spec chapter 07. -/
def R.PREDSs_LINCFG : Reg := ⟨0x64058, 0x200, 16, .die, .all, [⟨15, 8, .rw⟩, ⟨4, 0, .rw⟩], fun _ => 0x00008000⟩
def F.PREDSs_LINCFG_SHS : Fld := ⟨R.PREDSs_LINCFG, 8, 8⟩
def F.PREDSs_LINCFG_LSH : Fld := ⟨R.PREDSs_LINCFG, 0, 5⟩
/-- PREDSs_LB, spec chapter 07. -/
def R.PREDSs_LB : Reg := ⟨0x6405C, 0x200, 16, .die, .all, [⟨15, 0, .rw⟩], fun _ => 0x00000000⟩
def F.PREDSs_LB_LB : Fld := ⟨R.PREDSs_LB, 0, 16⟩
/-- PREDSs_LINk, spec chapter 07. -/
def R.PREDSs_LINk (k : Nat) : Reg := ⟨0x64060 + 4 * k, 0x200, 16, .die, .all, [⟨31, 16, .rw⟩, ⟨15, 0, .rw⟩], fun _ => 0x00000000⟩
def F.PREDSs_LINk_LC_HI (k : Nat) : Fld := ⟨R.PREDSs_LINk k, 16, 16⟩
def F.PREDSs_LINk_LC_LO (k : Nat) : Fld := ⟨R.PREDSs_LINk k, 0, 16⟩
/-- PREDSs_SHk, spec chapter 07. -/
def R.PREDSs_SHk (k : Nat) : Reg := ⟨0x64100 + 4 * k, 0x200, 16, .die, .all, [⟨31, 16, .rw⟩, ⟨15, 0, .rw⟩], fun _ => 0x00000000⟩
def F.PREDSs_SHk_WS_HI (k : Nat) : Fld := ⟨R.PREDSs_SHk k, 16, 16⟩
def F.PREDSs_SHk_WS_LO (k : Nat) : Fld := ⟨R.PREDSs_SHk k, 0, 16⟩
/-- TRD_CTRL, spec chapter 13. -/
def R.TRD_CTRL : Reg := ⟨0x70000, 0x4, 1, .cold, .all, [⟨31, 16, .rw⟩, ⟨15, 8, .rw⟩, ⟨1, 1, .rw⟩, ⟨0, 0, .rw⟩], fun _ => 0x016D0A02⟩
def F.TRD_CTRL_WARN_DAYS : Fld := ⟨R.TRD_CTRL, 16, 16⟩
def F.TRD_CTRL_CKPT_MIN : Fld := ⟨R.TRD_CTRL, 8, 8⟩
def F.TRD_CTRL_SWEEP_EN : Fld := ⟨R.TRD_CTRL, 1, 1⟩
def F.TRD_CTRL_EN : Fld := ⟨R.TRD_CTRL, 0, 1⟩
/-- TRD_STATUS, spec chapter 13. -/
def R.TRD_STATUS : Reg := ⟨0x70004, 0x4, 1, .cold, .all, [⟨29, 29, .w1c⟩, ⟨28, 28, .w1c⟩, ⟨27, 27, .w1c⟩], fun _ => 0x00000000⟩
def F.TRD_STATUS_CAL_VALID : Fld := ⟨R.TRD_STATUS, 31, 1⟩
def F.TRD_STATUS_HOLD_DEGRADED : Fld := ⟨R.TRD_STATUS, 30, 1⟩
def F.TRD_STATUS_CKPT_FAIL : Fld := ⟨R.TRD_STATUS, 29, 1⟩
def F.TRD_STATUS_SWEEP_SKIPPED : Fld := ⟨R.TRD_STATUS, 28, 1⟩
def F.TRD_STATUS_MEAS_ABORT : Fld := ⟨R.TRD_STATUS, 27, 1⟩
def F.TRD_STATUS_N_WARN : Fld := ⟨R.TRD_STATUS, 8, 8⟩
def F.TRD_STATUS_N_WORN : Fld := ⟨R.TRD_STATUS, 0, 8⟩
/-- TRD_SERVICE_LO, spec chapter 13. -/
def R.TRD_SERVICE_LO : Reg := ⟨0x70008, 0x4, 1, .cold, .all, [], fun _ => 0x00000000⟩
def F.TRD_SERVICE_LO_SERVICE : Fld := ⟨R.TRD_SERVICE_LO, 0, 32⟩
/-- TRD_SERVICE_HI, spec chapter 13. -/
def R.TRD_SERVICE_HI : Reg := ⟨0x7000C, 0x4, 1, .cold, .all, [], fun _ => 0x00000000⟩
def F.TRD_SERVICE_HI_SERVICE : Fld := ⟨R.TRD_SERVICE_HI, 0, 32⟩
/-- TRD_CAL_LO, spec chapter 13. -/
def R.TRD_CAL_LO : Reg := ⟨0x70010, 0x4, 1, .cold, .all, [⟨31, 0, .rw⟩], fun _ => 0x00000000⟩
def F.TRD_CAL_LO_CAL : Fld := ⟨R.TRD_CAL_LO, 0, 32⟩
/-- TRD_CAL_HI, spec chapter 13. -/
def R.TRD_CAL_HI : Reg := ⟨0x70014, 0x4, 1, .cold, .all, [⟨31, 0, .rw⟩], fun _ => 0x00000000⟩
def F.TRD_CAL_HI_CAL : Fld := ⟨R.TRD_CAL_HI, 0, 32⟩
/-- TRD_MARGIN, spec chapter 13. -/
def R.TRD_MARGIN : Reg := ⟨0x70018, 0x4, 1, .cold, .all, [⟨15, 8, .rw⟩, ⟨7, 0, .rw⟩], fun _ => 0x0000051E⟩
def F.TRD_MARGIN_LAST_LOWER : Fld := ⟨R.TRD_MARGIN, 16, 16⟩
def F.TRD_MARGIN_AGE_ADD : Fld := ⟨R.TRD_MARGIN, 8, 8⟩
def F.TRD_MARGIN_DRIFT_MAX : Fld := ⟨R.TRD_MARGIN, 0, 8⟩
/-- TRD_MARGIN_VER, spec chapter 13. -/
def R.TRD_MARGIN_VER : Reg := ⟨0x7001C, 0x4, 1, .cold, .all, [], fun _ => 0x00000000⟩
def F.TRD_MARGIN_VER_BASE : Fld := ⟨R.TRD_MARGIN_VER, 16, 16⟩
def F.TRD_MARGIN_VER_CHANGES : Fld := ⟨R.TRD_MARGIN_VER, 0, 16⟩
/-- TRD_EM, spec chapter 13. -/
def R.TRD_EM : Reg := ⟨0x70020, 0x4, 1, .cold, .all, [⟨31, 24, .rw⟩, ⟨23, 12, .rw⟩], fun _ => 0x20352000⟩
def F.TRD_EM_EM_N : Fld := ⟨R.TRD_EM, 24, 8⟩
def F.TRD_EM_EA : Fld := ⟨R.TRD_EM, 12, 12⟩
/-- TRD_CYC, spec chapter 13. -/
def R.TRD_CYC : Reg := ⟨0x70024, 0x4, 1, .cold, .all, [⟨31, 24, .rw⟩, ⟨23, 16, .rw⟩, ⟨15, 0, .rw⟩], fun _ => 0x142003E8⟩
def F.TRD_CYC_CYC_DT : Fld := ⟨R.TRD_CYC, 24, 8⟩
def F.TRD_CYC_CYC_Q : Fld := ⟨R.TRD_CYC, 16, 8⟩
def F.TRD_CYC_CYC_LIFE : Fld := ⟨R.TRD_CYC, 0, 16⟩
/-- TRD_HOLD, spec chapter 13. -/
def R.TRD_HOLD : Reg := ⟨0x70028, 0x4, 1, .cold, .all, [], fun _ => 0x00000000⟩
def F.TRD_HOLD_C : Fld := ⟨R.TRD_HOLD, 16, 16⟩
def F.TRD_HOLD_ESR : Fld := ⟨R.TRD_HOLD, 0, 16⟩
/-- TRD_HOLD_LIM, spec chapter 13. -/
def R.TRD_HOLD_LIM : Reg := ⟨0x7002C, 0x4, 1, .cold, .all, [⟨31, 24, .rw⟩, ⟨23, 16, .rw⟩, ⟨15, 8, .rw⟩, ⟨7, 0, .rw⟩], fun _ => 0x64963214⟩
def F.TRD_HOLD_LIM_C_MIN : Fld := ⟨R.TRD_HOLD_LIM, 24, 8⟩
def F.TRD_HOLD_LIM_C_NOM : Fld := ⟨R.TRD_HOLD_LIM, 16, 8⟩
def F.TRD_HOLD_LIM_ESR_MAX : Fld := ⟨R.TRD_HOLD_LIM, 8, 8⟩
def F.TRD_HOLD_LIM_ESR_NOM : Fld := ⟨R.TRD_HOLD_LIM, 0, 8⟩
/-- TRD_PDN, spec chapter 13. -/
def R.TRD_PDN : Reg := ⟨0x70030, 0x4, 1, .cold, .all, [⟨31, 16, .rw⟩, ⟨15, 8, .rw⟩, ⟨7, 0, .rw⟩], fun _ => 0x00004D1E⟩
def F.TRD_PDN_Z0 : Fld := ⟨R.TRD_PDN, 16, 16⟩
def F.TRD_PDN_Z_RISE : Fld := ⟨R.TRD_PDN, 8, 8⟩
def F.TRD_PDN_SWEEP_DAYS : Fld := ⟨R.TRD_PDN, 0, 8⟩
/-- TRD_PDN_MEAS, spec chapter 13. -/
def R.TRD_PDN_MEAS : Reg := ⟨0x70034, 0x4, 1, .cold, .all, [], fun _ => 0x00000000⟩
def F.TRD_PDN_MEAS_Z_PEAK : Fld := ⟨R.TRD_PDN_MEAS, 16, 16⟩
def F.TRD_PDN_MEAS_LAST_SWEEP : Fld := ⟨R.TRD_PDN_MEAS, 0, 16⟩
/-- TRD_RET, spec chapter 13. -/
def R.TRD_RET : Reg := ⟨0x70038, 0x4, 1, .cold, .all, [⟨15, 0, .rw⟩], fun _ => 0x00000080⟩
def F.TRD_RET_RET_MIN : Fld := ⟨R.TRD_RET, 0, 16⟩
/-- TRD_TVT, spec chapter 13. -/
def R.TRD_TVT : Reg := ⟨0x7003C, 0x4, 1, .cold, .all, [⟨15, 0, .rw⟩], fun _ => 0x00000000⟩
def F.TRD_TVT_KT : Fld := ⟨R.TRD_TVT, 0, 16⟩
/-- TRDRr_CFG, spec chapter 13. -/
def R.TRDRr_CFG : Reg := ⟨0x70100, 0x10, 8, .cold, .rail, [⟨31, 16, .rw⟩, ⟨15, 8, .rw⟩, ⟨7, 0, .rw⟩], fun _ => 0x08005564⟩
def F.TRDRr_CFG_I_REF : Fld := ⟨R.TRDRr_CFG, 16, 16⟩
def F.TRDRr_CFG_T_REF : Fld := ⟨R.TRDRr_CFG, 8, 8⟩
def F.TRDRr_CFG_LIFE : Fld := ⟨R.TRDRr_CFG, 0, 8⟩
/-- TRDRr_TSRC, spec chapter 13. -/
def R.TRDRr_TSRC : Reg := ⟨0x70104, 0x10, 8, .cold, .rail, [⟨11, 0, .rw⟩], fun _ => 0x000008C0⟩
def F.TRDRr_TSRC_TSRC : Fld := ⟨R.TRDRr_TSRC, 0, 12⟩
/-- TRDRr_ACC_LO, spec chapter 13. -/
def R.TRDRr_ACC_LO : Reg := ⟨0x70108, 0x10, 8, .cold, .rail, [], fun _ => 0x00000000⟩
def F.TRDRr_ACC_LO_ACC : Fld := ⟨R.TRDRr_ACC_LO, 0, 32⟩
/-- TRDRr_ACC_HI, spec chapter 13. -/
def R.TRDRr_ACC_HI : Reg := ⟨0x7010C, 0x10, 8, .cold, .rail, [], fun _ => 0x00000000⟩
def F.TRDRr_ACC_HI_ACC : Fld := ⟨R.TRDRr_ACC_HI, 0, 32⟩
/-- TRDPp_CYC, spec chapter 13. -/
def R.TRDPp_CYC : Reg := ⟨0x70200, 0x4, 96, .cold, .phase, [], fun _ => 0x00000000⟩
def F.TRDPp_CYC_EQ : Fld := ⟨R.TRDPp_CYC, 0, 32⟩
/-- TRDCc_TVT, spec chapter 13. -/
def R.TRDCc_TVT : Reg := ⟨0x70400, 0x8, 64, .cold, .cluster, [⟨31, 16, .rw⟩], fun _ => 0x00000000⟩
def F.TRDCc_TVT_D0 : Fld := ⟨R.TRDCc_TVT, 16, 16⟩
def F.TRDCc_TVT_DRIFT : Fld := ⟨R.TRDCc_TVT, 0, 16⟩
/-- TRDCc_RET, spec chapter 13. -/
def R.TRDCc_RET : Reg := ⟨0x70404, 0x8, 64, .cold, .cluster, [⟨31, 16, .rw⟩], fun _ => 0x00000000⟩
def F.TRDCc_RET_RET0 : Fld := ⟨R.TRDCc_RET, 16, 16⟩
def F.TRDCc_RET_RET : Fld := ⟨R.TRDCc_RET, 0, 16⟩
/-- TRD_SEL, spec chapter 13. -/
def R.TRD_SEL : Reg := ⟨0x70800, 0x4, 1, .cold, .all, [⟨7, 0, .rw⟩], fun _ => 0x00000000⟩
def F.TRD_SEL_INST : Fld := ⟨R.TRD_SEL, 0, 8⟩
/-- TRD_VIEW0, spec chapter 13. -/
def R.TRD_VIEW0 : Reg := ⟨0x70804, 0x4, 1, .cold, .all, [], fun _ => 0x0000FFFF⟩
def F.TRD_VIEW0_W : Fld := ⟨R.TRD_VIEW0, 16, 16⟩
def F.TRD_VIEW0_EOL_MED : Fld := ⟨R.TRD_VIEW0, 0, 16⟩
/-- TRD_VIEW1, spec chapter 13. -/
def R.TRD_VIEW1 : Reg := ⟨0x70808, 0x4, 1, .cold, .all, [], fun _ => 0xFFFFFFFF⟩
def F.TRD_VIEW1_EOL_LO : Fld := ⟨R.TRD_VIEW1, 16, 16⟩
def F.TRD_VIEW1_EOL_HI : Fld := ⟨R.TRD_VIEW1, 0, 16⟩
/-- TRD_VIEW2, spec chapter 13. -/
def R.TRD_VIEW2 : Reg := ⟨0x7080C, 0x4, 1, .cold, .all, [], fun _ => 0x00000000⟩
def F.TRD_VIEW2_POINTS : Fld := ⟨R.TRD_VIEW2, 8, 4⟩
def F.TRD_VIEW2_WORN : Fld := ⟨R.TRD_VIEW2, 3, 1⟩
def F.TRD_VIEW2_WARN : Fld := ⟨R.TRD_VIEW2, 2, 1⟩
def F.TRD_VIEW2_DATE : Fld := ⟨R.TRD_VIEW2, 1, 1⟩
def F.TRD_VIEW2_EOL_VALID : Fld := ⟨R.TRD_VIEW2, 0, 1⟩
/-- TRC_CTRL, spec chapter 14. -/
def R.TRC_CTRL : Reg := ⟨0x78000, 0x4, 1, .warm, .all, [⟨13, 8, .rw⟩, ⟨2, 2, .rw⟩, ⟨1, 1, .rw⟩, ⟨0, 0, .rw⟩], fun _ => 0x00000100⟩
def F.TRC_CTRL_TRIG_EN : Fld := ⟨R.TRC_CTRL, 8, 6⟩
def F.TRC_CTRL_PORT_EN : Fld := ⟨R.TRC_CTRL, 2, 1⟩
def F.TRC_CTRL_MODE : Fld := ⟨R.TRC_CTRL, 1, 1⟩
def F.TRC_CTRL_RUN : Fld := ⟨R.TRC_CTRL, 0, 1⟩
/-- TRC_SRC, spec chapter 14. -/
def R.TRC_SRC : Reg := ⟨0x78004, 0x4, 1, .warm, .all, [⟨14, 0, .rw⟩], fun _ => 0x00000000⟩
def F.TRC_SRC_MASK : Fld := ⟨R.TRC_SRC, 0, 15⟩
/-- TRC_REGION, spec chapter 14. -/
def R.TRC_REGION : Reg := ⟨0x78008, 0x4, 1, .warm, .all, [⟨21, 16, .rw⟩, ⟨5, 0, .rw⟩], fun _ => 0x00080008⟩
def F.TRC_REGION_POST : Fld := ⟨R.TRC_REGION, 16, 6⟩
def F.TRC_REGION_PRE : Fld := ⟨R.TRC_REGION, 0, 6⟩
/-- TRC_TRIG, spec chapter 14. -/
def R.TRC_TRIG : Reg := ⟨0x7800C, 0x4, 1, .warm, .all, [⟨7, 0, .rw⟩], fun _ => 0x00000000⟩
def F.TRC_TRIG_STATUS : Fld := ⟨R.TRC_TRIG, 30, 2⟩
def F.TRC_TRIG_TAG : Fld := ⟨R.TRC_TRIG, 0, 8⟩
/-- TRC_STATUS, spec chapter 14. -/
def R.TRC_STATUS : Reg := ⟨0x78010, 0x4, 1, .warm, .all, [⟨23, 23, .w1c⟩], fun _ => 0x00020000⟩
def F.TRC_STATUS_LEVEL : Fld := ⟨R.TRC_STATUS, 29, 3⟩
def F.TRC_STATUS_REGIONS : Fld := ⟨R.TRC_STATUS, 24, 4⟩
def F.TRC_STATUS_REGION_REFUSED : Fld := ⟨R.TRC_STATUS, 23, 1⟩
def F.TRC_STATUS_FREE : Fld := ⟨R.TRC_STATUS, 0, 18⟩
/-- TRC_COUNT, spec chapter 14. -/
def R.TRC_COUNT : Reg := ⟨0x78014, 0x4, 1, .warm, .all, [], fun _ => 0x00000000⟩
def F.TRC_COUNT_GAPS : Fld := ⟨R.TRC_COUNT, 16, 16⟩
def F.TRC_COUNT_TRIGGERS : Fld := ⟨R.TRC_COUNT, 0, 16⟩
/-- TRC_DROP_LO, spec chapter 14. -/
def R.TRC_DROP_LO : Reg := ⟨0x78018, 0x4, 1, .warm, .all, [], fun _ => 0x00000000⟩
def F.TRC_DROP_LO_DROPPED : Fld := ⟨R.TRC_DROP_LO, 0, 32⟩
/-- TRC_DROP_HI, spec chapter 14. -/
def R.TRC_DROP_HI : Reg := ⟨0x7801C, 0x4, 1, .warm, .all, [], fun _ => 0x00000000⟩
def F.TRC_DROP_HI_DROPPED : Fld := ⟨R.TRC_DROP_HI, 0, 32⟩
/-- TRC_SEL, spec chapter 14. -/
def R.TRC_SEL : Reg := ⟨0x78020, 0x4, 1, .warm, .all, [⟨31, 22, .rw⟩, ⟨21, 16, .rw⟩, ⟨15, 13, .rw⟩], fun _ => 0x00000000⟩
def F.TRC_SEL_CORE : Fld := ⟨R.TRC_SEL, 22, 10⟩
def F.TRC_SEL_CLUSTER : Fld := ⟨R.TRC_SEL, 16, 6⟩
def F.TRC_SEL_RAIL : Fld := ⟨R.TRC_SEL, 13, 3⟩
/-- TRC_RELEASE, spec chapter 14. -/
def R.TRC_RELEASE : Reg := ⟨0x78024, 0x4, 1, .warm, .all, [⟨15, 0, .rw⟩], fun _ => 0x00000000⟩
def F.TRC_RELEASE_STATUS : Fld := ⟨R.TRC_RELEASE, 30, 2⟩
def F.TRC_RELEASE_NUMBER : Fld := ⟨R.TRC_RELEASE, 0, 16⟩
/-- TRC_WRPTR, spec chapter 14. -/
def R.TRC_WRPTR : Reg := ⟨0x78028, 0x4, 1, .warm, .all, [], fun _ => 0x00000000⟩
def F.TRC_WRPTR_WRAPPED : Fld := ⟨R.TRC_WRPTR, 31, 1⟩
def F.TRC_WRPTR_NEXT : Fld := ⟨R.TRC_WRPTR, 0, 17⟩
/-- TRC_RD, spec chapter 14. -/
def R.TRC_RD : Reg := ⟨0x7802C, 0x4, 1, .warm, .all, [⟨8, 0, .rw⟩], fun _ => 0x00000000⟩
def F.TRC_RD_BASE : Fld := ⟨R.TRC_RD, 0, 9⟩
/-- TRC_PORT, spec chapter 14. -/
def R.TRC_PORT : Reg := ⟨0x78030, 0x4, 1, .warm, .all, [], fun _ => 0x00000000⟩
def F.TRC_PORT_FRAMES : Fld := ⟨R.TRC_PORT, 0, 32⟩
/-- TRC_REGk_A, spec chapter 14. -/
def R.TRC_REGk_A : Reg := ⟨0x78040, 0x8, 8, .warm, .all, [], fun _ => 0x00000000⟩
def F.TRC_REGk_A_VALID : Fld := ⟨R.TRC_REGk_A, 31, 1⟩
def F.TRC_REGk_A_ACTIVE : Fld := ⟨R.TRC_REGk_A, 30, 1⟩
def F.TRC_REGk_A_START : Fld := ⟨R.TRC_REGk_A, 0, 17⟩
/-- TRC_REGk_B, spec chapter 14. -/
def R.TRC_REGk_B : Reg := ⟨0x78044, 0x8, 8, .warm, .all, [], fun _ => 0x00000000⟩
def F.TRC_REGk_B_NUMBER : Fld := ⟨R.TRC_REGk_B, 16, 16⟩
def F.TRC_REGk_B_LEN : Fld := ⟨R.TRC_REGk_B, 0, 13⟩
/-- TRC_SRCs_CFG, spec chapter 14. -/
def R.TRC_SRCs_CFG : Reg := ⟨0x78100, 0x4, 15, .warm, .all, [⟨7, 4, .rw⟩, ⟨2, 0, .rw⟩], fun s => trcSrcReset s⟩
def F.TRC_SRCs_CFG_DEC : Fld := ⟨R.TRC_SRCs_CFG, 4, 4⟩
def F.TRC_SRCs_CFG_PRIO : Fld := ⟨R.TRC_SRCs_CFG, 0, 3⟩
/-- TRC_PMB_CFG, spec chapter 14. -/
def R.TRC_PMB_CFG : Reg := ⟨0x78F00, 0x4, 1, .warm, .all, [⟨6, 0, .rw⟩], fun _ => 0x00000040⟩
def F.TRC_PMB_CFG_ADDR : Fld := ⟨R.TRC_PMB_CFG, 0, 7⟩
/-- TRC_PMB_STATUS, spec chapter 14. -/
def R.TRC_PMB_STATUS : Reg := ⟨0x78F04, 0x4, 1, .warm, .all, [], fun _ => 0x00000000⟩
def F.TRC_PMB_STATUS_PEC_ERR : Fld := ⟨R.TRC_PMB_STATUS, 8, 8⟩
def F.TRC_PMB_STATUS_CML_ERR : Fld := ⟨R.TRC_PMB_STATUS, 0, 8⟩
/-- TRC_WINw, spec chapter 14. -/
def R.TRC_WINw : Reg := ⟨0x79000, 0x4, 1024, .warm, .all, [], fun _ => 0x00000000⟩
def F.TRC_WINw_DATA : Fld := ⟨R.TRC_WINw, 0, 32⟩
/-- LACE_CTRL, spec chapter 11. -/
def R.LACE_CTRL : Reg := ⟨0x7C000, 0x4, 1, .warm, .lace, [⟨11, 8, .rw⟩, ⟨2, 2, .rw⟩, ⟨1, 1, .rw⟩, ⟨0, 0, .rw⟩], fun _ => 0x00000706⟩
def F.LACE_CTRL_RELAY_CH : Fld := ⟨R.LACE_CTRL, 8, 4⟩
def F.LACE_CTRL_WAKE_PEER : Fld := ⟨R.LACE_CTRL, 2, 1⟩
def F.LACE_CTRL_RELAY_EN : Fld := ⟨R.LACE_CTRL, 1, 1⟩
def F.LACE_CTRL_EN : Fld := ⟨R.LACE_CTRL, 0, 1⟩
/-- LACE_ID, spec chapter 11. -/
def R.LACE_ID : Reg := ⟨0x7C004, 0x4, 1, .cold, .lace, [⟨15, 15, .w1c⟩, ⟨14, 14, .w1c⟩], fun _ => 0x00000000⟩
def F.LACE_ID_SITE_CONFLICT : Fld := ⟨R.LACE_ID, 15, 1⟩
def F.LACE_ID_HEAD_CONFLICT : Fld := ⟨R.LACE_ID, 14, 1⟩
def F.LACE_ID_MEMBER : Fld := ⟨R.LACE_ID, 13, 1⟩
def F.LACE_ID_IS_HEAD : Fld := ⟨R.LACE_ID, 12, 1⟩
def F.LACE_ID_HEAD_EN : Fld := ⟨R.LACE_ID, 8, 1⟩
def F.LACE_ID_SITE : Fld := ⟨R.LACE_ID, 0, 6⟩
/-- LACE_PORTp_STATUS, spec chapter 11. -/
def R.LACE_PORTp_STATUS : Reg := ⟨0x7C010, 0x10, 2, .warm, .lace, [], fun _ => 0x00000000⟩
def F.LACE_PORTp_STATUS_STATE : Fld := ⟨R.LACE_PORTp_STATUS, 29, 3⟩
def F.LACE_PORTp_STATUS_WRAP : Fld := ⟨R.LACE_PORTp_STATUS, 28, 1⟩
def F.LACE_PORTp_STATUS_NEIGHBOUR : Fld := ⟨R.LACE_PORTp_STATUS, 22, 6⟩
def F.LACE_PORTp_STATUS_DELAY : Fld := ⟨R.LACE_PORTp_STATUS, 0, 16⟩
/-- LACE_PORTp_COUNT, spec chapter 11. -/
def R.LACE_PORTp_COUNT : Reg := ⟨0x7C014, 0x10, 2, .warm, .lace, [], fun _ => 0x00000000⟩
def F.LACE_PORTp_COUNT_CRC_ERR : Fld := ⟨R.LACE_PORTp_COUNT, 16, 16⟩
def F.LACE_PORTp_COUNT_DOWNS : Fld := ⟨R.LACE_PORTp_COUNT, 8, 8⟩
def F.LACE_PORTp_COUNT_DROPPED : Fld := ⟨R.LACE_PORTp_COUNT, 0, 8⟩
/-- LACE_MEMBERS_LO, spec chapter 11. -/
def R.LACE_MEMBERS_LO : Reg := ⟨0x7C030, 0x4, 1, .warm, .lace, [], fun _ => 0x00000000⟩
def F.LACE_MEMBERS_LO_MEMBERS : Fld := ⟨R.LACE_MEMBERS_LO, 0, 32⟩
/-- LACE_MEMBERS_HI, spec chapter 11. -/
def R.LACE_MEMBERS_HI : Reg := ⟨0x7C034, 0x4, 1, .warm, .lace, [], fun _ => 0x00000000⟩
def F.LACE_MEMBERS_HI_MEMBERS : Fld := ⟨R.LACE_MEMBERS_HI, 0, 32⟩
/-- LACE_TIME, spec chapter 11. -/
def R.LACE_TIME : Reg := ⟨0x7C038, 0x4, 1, .warm, .lace, [], fun _ => 0x40000000⟩
def F.LACE_TIME_ALIGNED : Fld := ⟨R.LACE_TIME, 31, 1⟩
def F.LACE_TIME_NO_TIME : Fld := ⟨R.LACE_TIME, 30, 1⟩
def F.LACE_TIME_HOPS : Fld := ⟨R.LACE_TIME, 24, 6⟩
def F.LACE_TIME_OFFS : Fld := ⟨R.LACE_TIME, 0, 24⟩
/-- LACE_ALIGN, spec chapter 11. -/
def R.LACE_ALIGN : Reg := ⟨0x7C03C, 0x4, 1, .warm, .lace, [⟨7, 0, .rw⟩], fun _ => 0x00000010⟩
def F.LACE_ALIGN_ALIGN : Fld := ⟨R.LACE_ALIGN, 0, 8⟩
/-- LACE_SHARE, spec chapter 11. -/
def R.LACE_SHARE : Reg := ⟨0x7C040, 0x4, 1, .warm, .lace, [], fun _ => 0x80000000⟩
def F.LACE_SHARE_NO_SHARE : Fld := ⟨R.LACE_SHARE, 31, 1⟩
def F.LACE_SHARE_SHARE : Fld := ⟨R.LACE_SHARE, 0, 16⟩
/-- LACE_LIMIT, spec chapter 11. -/
def R.LACE_LIMIT : Reg := ⟨0x7C044, 0x4, 1, .warm, .lace, [⟨31, 16, .rw⟩, ⟨15, 0, .rw⟩], fun _ => 0x7D001900⟩
def F.LACE_LIMIT_MAXW : Fld := ⟨R.LACE_LIMIT, 16, 16⟩
def F.LACE_LIMIT_FALLBACK_W : Fld := ⟨R.LACE_LIMIT, 0, 16⟩
/-- LACE_BUDGET, spec chapter 11. -/
def R.LACE_BUDGET : Reg := ⟨0x7C048, 0x4, 1, .warm, .lace, [⟨31, 0, .rw⟩], fun _ => 0x00000000⟩
def F.LACE_BUDGET_BUDGET : Fld := ⟨R.LACE_BUDGET, 0, 32⟩
/-- LACE_FLOOR, spec chapter 11. -/
def R.LACE_FLOOR : Reg := ⟨0x7C04C, 0x4, 1, .warm, .lace, [⟨15, 0, .rw⟩], fun _ => 0x00001900⟩
def F.LACE_FLOOR_FLOOR_W : Fld := ⟨R.LACE_FLOOR, 0, 16⟩
/-- LACE_REPORT, spec chapter 11. -/
def R.LACE_REPORT : Reg := ⟨0x7C050, 0x4, 1, .warm, .lace, [], fun _ => 0x00000000⟩
def F.LACE_REPORT_WANT : Fld := ⟨R.LACE_REPORT, 16, 16⟩
def F.LACE_REPORT_USED : Fld := ⟨R.LACE_REPORT, 0, 16⟩
/-- LACE_DEBT, spec chapter 11. -/
def R.LACE_DEBT : Reg := ⟨0x7C054, 0x4, 1, .warm, .lace, [], fun _ => 0x00000000⟩
def F.LACE_DEBT_DEBT : Fld := ⟨R.LACE_DEBT, 0, 16⟩
/-- LACE_SLOW_SRC, spec chapter 11. -/
def R.LACE_SLOW_SRC : Reg := ⟨0x7C058, 0x4, 1, .warm, .lace, [], fun _ => 0x00000000⟩
def F.LACE_SLOW_SRC_SITE : Fld := ⟨R.LACE_SLOW_SRC, 16, 6⟩
def F.LACE_SLOW_SRC_WIN_ID : Fld := ⟨R.LACE_SLOW_SRC, 0, 16⟩
/-- LACE_SLOW_DELAY, spec chapter 11. -/
def R.LACE_SLOW_DELAY : Reg := ⟨0x7C05C, 0x4, 1, .warm, .lace, [], fun _ => 0x00000000⟩
def F.LACE_SLOW_DELAY_DELAY_US : Fld := ⟨R.LACE_SLOW_DELAY, 0, 32⟩
/-- LACE_RELAY, spec chapter 11. -/
def R.LACE_RELAY : Reg := ⟨0x7C060, 0x4, 1, .warm, .lace, [], fun _ => 0x00000000⟩
def F.LACE_RELAY_RETRIES : Fld := ⟨R.LACE_RELAY, 16, 8⟩
def F.LACE_RELAY_OUTSTANDING : Fld := ⟨R.LACE_RELAY, 0, 5⟩
/-- LACE_SITEs_RPT, spec chapter 11. -/
def R.LACE_SITEs_RPT : Reg := ⟨0x7C100, 0x8, 64, .warm, .lace, [], fun _ => 0x00000000⟩
def F.LACE_SITEs_RPT_WANT : Fld := ⟨R.LACE_SITEs_RPT, 16, 16⟩
def F.LACE_SITEs_RPT_USED : Fld := ⟨R.LACE_SITEs_RPT, 0, 16⟩
/-- LACE_SITEs_SHR, spec chapter 11. -/
def R.LACE_SITEs_SHR : Reg := ⟨0x7C104, 0x8, 64, .warm, .lace, [], fun _ => 0x00000000⟩
def F.LACE_SITEs_SHR_DEBT_FLAG : Fld := ⟨R.LACE_SITEs_SHR, 31, 1⟩
def F.LACE_SITEs_SHR_SHARE : Fld := ⟨R.LACE_SITEs_SHR, 0, 16⟩
/-- LOG_SEL, spec chapter 14. -/
def R.LOG_SEL : Reg := ⟨0x7E000, 0x4, 1, .cold, .all, [⟨31, 31, .rw⟩, ⟨26, 16, .rw⟩, ⟨4, 0, .rw⟩], fun _ => 0x00000000⟩
def F.LOG_SEL_RING : Fld := ⟨R.LOG_SEL, 31, 1⟩
def F.LOG_SEL_RING_ID : Fld := ⟨R.LOG_SEL, 16, 11⟩
def F.LOG_SEL_BASE : Fld := ⟨R.LOG_SEL, 0, 5⟩
/-- LOG_HEAD, spec chapter 14. -/
def R.LOG_HEAD : Reg := ⟨0x7E004, 0x4, 1, .cold, .all, [], fun _ => 0x00000000⟩
def F.LOG_HEAD_WRAPPED : Fld := ⟨R.LOG_HEAD, 31, 1⟩
def F.LOG_HEAD_RING_NEWEST : Fld := ⟨R.LOG_HEAD, 16, 5⟩
def F.LOG_HEAD_NEWEST : Fld := ⟨R.LOG_HEAD, 0, 13⟩
/-- LOG_COUNT_LO, spec chapter 14. -/
def R.LOG_COUNT_LO : Reg := ⟨0x7E008, 0x4, 1, .cold, .all, [], fun _ => 0x00000000⟩
def F.LOG_COUNT_LO_COUNT : Fld := ⟨R.LOG_COUNT_LO, 0, 32⟩
/-- LOG_COUNT_HI, spec chapter 14. -/
def R.LOG_COUNT_HI : Reg := ⟨0x7E00C, 0x4, 1, .cold, .all, [], fun _ => 0x00000000⟩
def F.LOG_COUNT_HI_COUNT : Fld := ⟨R.LOG_COUNT_HI, 0, 32⟩
/-- LOG_WINw, spec chapter 14. -/
def R.LOG_WINw : Reg := ⟨0x7F000, 0x4, 1024, .cold, .all, [], fun _ => 0x00000000⟩
def F.LOG_WINw_DATA : Fld := ⟨R.LOG_WINw, 0, 32⟩

/-- The registers of the Gov block. -/
def regsGov : List Reg :=
  [R.GOV_ID, R.GOV_PARAM0, R.GOV_PARAM1, R.GOV_LOCK, R.GOV_LOCK_DIE, R.GOV_SEC, R.GOV_ARB, R.GOV_RESET, R.GOV_ADOPT, R.GOV_BOOT]
/-- The registers of the Eye block. -/
def regsEye : List Reg :=
  [R.EYE_CTRL, R.EYE_FW, R.EYE_IRQ, R.EYE_IRQ_EN, R.EYE_NOTICE, R.EYE_WIN_SEL, R.EYE_JOURNAL, R.EYE_CENSUS, R.EYEc_CMD_LO, R.EYEc_CMD_HI, R.EYEc_RSP_LO, R.EYEc_RSP_HI] ++
  [R.EYEc_STATUS, R.EYEc_COUNT, R.EYEc_LAST, R.EYE_WINw]
/-- The registers of the Time block. -/
def regsTime : List Reg :=
  [R.TIME_NOW_LO, R.TIME_NOW_HI, R.TIME_TRIM, R.TIME_STEP, R.TIME_STATUS]
/-- The registers of the Flt block. -/
def regsFlt : List Reg :=
  [R.FLT_CTRL, R.FLT_STATUS, R.FLT_UNCLEAREDk, R.FLT_SAG, R.FLT_HEEL_SEQ, R.FLT_HOLD, R.FLT_BOOT, R.FLT_AWL, R.FLT_AWL_COUNT, R.FLT_TRK_SEL, R.FLT_TRK_DATA, R.FLTRr_CFG] ++
  [R.FLTRr_STATUS, R.FLTRr_TOTAL, R.FLTRr_LAST]
/-- The registers of the Pwr block. -/
def regsPwr : List Reg :=
  [R.PWR_DIR, R.PWR_STATUS, R.PWR_INSOLE, R.PWR_EVICT, R.PWR_COUNT, R.PWRCLk_DLY0, R.PWRCLk_DLY1, R.PWRCLk_DLY2, R.PWRCLk_DLY3, R.PWRCLk_DLY4, R.PWRBb_STATUS, R.PWRBb_MAP0] ++
  [R.PWRBb_MAP1, R.PWRAi_COUNT, R.PWRAi_LAST, R.PWRd_CTRL, R.PWRd_STATUS]
/-- The registers of the Rail block. -/
def regsRail : List Reg :=
  [R.SEQ_CTRL, R.SEQ_STATUS, R.SEQ_UPk, R.SEQ_DNk, R.RAILr_CTRL, R.RAILr_TARGET, R.RAILr_LIMIT, R.RAILr_SAFE, R.RAILr_PROFILE, R.RAILr_START, R.RAILr_TRACK, R.RAILr_PROT] ++
  [R.RAILr_STATUS, R.RAILr_SETPT, R.RAILr_EFF, R.RAILr_MEAS, R.RAILr_CMD, R.RAILr_COUNT, R.RAILr_B0, R.RAILr_B1, R.RAILr_B2, R.RAILr_B3, R.RAILr_A1, R.RAILr_A2] ++
  [R.RAILr_A3, R.RAILr_SHIFTB, R.RAILr_SHIFTA]
/-- The registers of the Ph block. -/
def regsPh : List Reg :=
  [R.PH_TIMEBASE, R.PH_SYNC, R.PH_SYNC_STATUS, R.PH_FSW_NOW, R.PH_PROT, R.PH_TEMP, R.PH_LIGHT, R.PH_DISCk, R.PHRAILr_SHED, R.PHRAILr_OC, R.PHRAILr_BRAKE, R.PHRAILr_STATUS] ++
  [R.PHp_CFG, R.PHp_LIM, R.PHp_STATUS, R.PHp_MEAS, R.PHp_COUNT, R.PHp_ONTIME]
/-- The registers of the Welt block. -/
def regsWelt : List Reg :=
  [R.WELT_CTRL, R.WELT_CLASS, R.WELT_SENS, R.WELT_RAIL_NEED, R.WELT_DISS, R.WELT_LOSS_LO, R.WELT_LOSS_HI, R.WELTc_CFG, R.WELTc_GUARD, R.WELTc_NEED_WM, R.WELTc_NEED_N, R.WELTc_SLACK] ++
  [R.WELTc_STATUS, R.WELTc_POWER, R.WELTc_COUNT]
/-- The registers of the Drp block. -/
def regsDrp : List Reg :=
  [R.DRP_CTRL, R.DRP_STORM, R.DRP_STATUS, R.DRP_NUDGE, R.DRP_STORM_FRAC, R.DRP_TRIPS_LO, R.DRP_TRIPS_HI, R.DRPCc_STATUS, R.DRPn_CFG, R.DRPn_STATUS]
/-- The registers of the Crd block. -/
def regsCrd : List Reg :=
  [R.CRD_CTRL, R.CRD_RESERVE, R.CRD_FLOAT, R.CRD_FLOOR, R.CRD_BUDGET, R.CRD_RAMP, R.CRD_RAMP_RAIL, R.CRD_PACE, R.CRD_CLAMP, R.CRD_CLAMP_STATUS, R.CRD_CLAMP_COUNT, R.CRD_STALE_COUNT] ++
  [R.CRD_COST_ADDR, R.CRD_COST_DATA, R.CRD_SPENT_LO, R.CRD_SPENT_HI, R.CRD_UNMETERED_LO, R.CRD_UNMETERED_HI, R.CRD_LOST_CREDIT_LO, R.CRD_LOST_CREDIT_HI, R.CRD_LOST_RAMP_LO, R.CRD_LOST_RAMP_HI, R.CRD_LOST_CLAMP_LO, R.CRD_LOST_CLAMP_HI] ++
  [R.CRD_LOST_OTHER_LO, R.CRD_LOST_OTHER_HI, R.CRDCc_CFG, R.CRDCc_STATUS, R.CRDSn_CFG, R.CRDSn_ROLE, R.CRDSn_BUCKET, R.CRDSn_STATUS, R.CRDSn_STALL_CREDIT, R.CRDSn_STALL_RAMP, R.CRDSn_STALL_CLAMP, R.CRDSn_STALL_OTHER] ++
  [R.JOBm_TAG, R.JOBm_CTRL, R.JOBm_EC_LO, R.JOBm_EC_HI]
/-- The registers of the Loop block. -/
def regsLoop : List Reg :=
  [R.LOOP_CTRL, R.LOOP_LATCLR, R.LOOP_LOAD, R.LOOP_STATUS, R.LOOP_PCAP, R.LOOP_OVR, R.LOOP_SAFEk, R.LOOPGg_CFG, R.LOOPGg_HEAD, R.LOOPGg_OUT, R.LOOPGg_STATUS, R.LOOPNk_CFG] ++
  [R.LOOPNk_FREQ, R.LOOPNk_STATUS, R.SLOTn_CTRL, R.SLOTn_PERIOD, R.SLOTn_PHASE, R.SLOTn_SRC, R.SLOTn_TARGET, R.SLOTn_PROF0, R.SLOTn_PROF1, R.SLOTn_HI, R.SLOTn_LO, R.SLOTn_SAFE] ++
  [R.SLOTn_INIT, R.SLOTn_CEIL, R.SLOTn_B0, R.SLOTn_B1, R.SLOTn_B2, R.SLOTn_B3, R.SLOTn_A1, R.SLOTn_A2, R.SLOTn_A3, R.SLOTn_SHIFTB, R.SLOTn_SHIFTA, R.SLOTn_CHECK] ++
  [R.SLOTn_RANGE_LO, R.SLOTn_RANGE_HI, R.SLOTn_LOSS, R.SLOTn_OSC, R.SLOTn_STATUS, R.SLOTn_OUT, R.SLOTn_LAT, R.SLOTn_COUNT, R.SLOTn_REF, R.SLOTn_YNOW]
/-- The registers of the Last block. -/
def regsLast : List Reg :=
  [R.LAST_CTRL, R.LAST_STATUS, R.LAST_BINLOAD, R.LAST_BINDATA, R.LAST_FFLIMr, R.LASTl_CFG, R.LASTl_SRC, R.LASTl_PMIN, R.LASTl_PMAX, R.LASTl_LEARN, R.LASTl_GAIN, R.LASTl_STATUS] ++
  [R.LASTl_PHASE, R.LASTl_MEAN, R.LASTl_PLOAD, R.LASTl_COUNT, R.LASTl_PLOCK, R.LASTl_BINk]
/-- The registers of the Thm block. -/
def regsThm : List Reg :=
  [R.THM_CTRL, R.THM_LOGIC_LVL, R.THM_MEM_LVL, R.THM_HYST, R.THM_RATE, R.THM_BACKSTOP, R.THM_BROKEN, R.THM_REF, R.THM_REF_RSV, R.THM_STATUS, R.THM_CHIP, R.THM_NBROKEN] ++
  [R.THM_SEL, R.THM_SDATA, R.THM_WIN_CFG, R.THM_WIN_STATUS, R.THM_WIN_END_LO, R.THM_WIN_END_HI, R.THM_WIN_DELAY, R.THM_WIN_CRITk, R.THMMs_A0, R.THMMs_A1, R.THMMs_G, R.THMMs_K] ++
  [R.THMCc_TSINK, R.THMCc_MAX, R.THMCc_MODEL, R.THMEs_ZONE, R.THMn_CFG, R.THMn_ZONE, R.THMn_STATUS, R.THMn_MODEL, R.THMn_PROJ, R.THMn_BOND]
/-- The registers of the Pred block. -/
def regsPred : List Reg :=
  [R.PRED_CTRL, R.PRED_RESUME, R.PRED_STATUS, R.PRED_RES, R.PRED_UNCORE, R.PRED_CHIP, R.PRED_SHADOW, R.PRED_COUNT, R.PREDCc_STATUS, R.PREDn_CFG, R.PREDn_EST, R.PREDSs_SCALE0] ++
  [R.PREDSs_SCALE1, R.PREDSs_BIAS, R.PREDSs_OUT, R.PREDSs_GAIN, R.PREDSs_LIM, R.PREDSs_LINCFG, R.PREDSs_LB] ++
  (List.range 16).map R.PREDSs_Wk ++
  (List.range 8).map R.PREDSs_LINk ++
  (List.range 64).map R.PREDSs_SHk
/-- The registers of the Trd block. -/
def regsTrd : List Reg :=
  [R.TRD_CTRL, R.TRD_STATUS, R.TRD_SERVICE_LO, R.TRD_SERVICE_HI, R.TRD_CAL_LO, R.TRD_CAL_HI, R.TRD_MARGIN, R.TRD_MARGIN_VER, R.TRD_EM, R.TRD_CYC, R.TRD_HOLD, R.TRD_HOLD_LIM] ++
  [R.TRD_PDN, R.TRD_PDN_MEAS, R.TRD_RET, R.TRD_TVT, R.TRDRr_CFG, R.TRDRr_TSRC, R.TRDRr_ACC_LO, R.TRDRr_ACC_HI, R.TRDPp_CYC, R.TRDCc_TVT, R.TRDCc_RET, R.TRD_SEL] ++
  [R.TRD_VIEW0, R.TRD_VIEW1, R.TRD_VIEW2]
/-- The registers of the Trc block. -/
def regsTrc : List Reg :=
  [R.TRC_CTRL, R.TRC_SRC, R.TRC_REGION, R.TRC_TRIG, R.TRC_STATUS, R.TRC_COUNT, R.TRC_DROP_LO, R.TRC_DROP_HI, R.TRC_SEL, R.TRC_RELEASE, R.TRC_WRPTR, R.TRC_RD] ++
  [R.TRC_PORT, R.TRC_REGk_A, R.TRC_REGk_B, R.TRC_SRCs_CFG, R.TRC_PMB_CFG, R.TRC_PMB_STATUS, R.TRC_WINw]
/-- The registers of the Lace block. -/
def regsLace : List Reg :=
  [R.LACE_CTRL, R.LACE_ID, R.LACE_PORTp_STATUS, R.LACE_PORTp_COUNT, R.LACE_MEMBERS_LO, R.LACE_MEMBERS_HI, R.LACE_TIME, R.LACE_ALIGN, R.LACE_SHARE, R.LACE_LIMIT, R.LACE_BUDGET, R.LACE_FLOOR] ++
  [R.LACE_REPORT, R.LACE_DEBT, R.LACE_SLOW_SRC, R.LACE_SLOW_DELAY, R.LACE_RELAY, R.LACE_SITEs_RPT, R.LACE_SITEs_SHR]
/-- The registers of the Log block. -/
def regsLog : List Reg :=
  [R.LOG_SEL, R.LOG_HEAD, R.LOG_COUNT_LO, R.LOG_COUNT_HI, R.LOG_WINw]

/-- The registers of the range of R568 an offset lies in. -/
def regsAt (off : Nat) : List Reg :=
  if off < 0x1000 then regsGov else
  if off < 0x2000 then regsEye else
  if off < 0x3000 then regsTime else
  if off < 0x5000 then regsFlt else
  if off < 0x8000 then regsPwr else
  if off < 0xA000 then regsRail else
  if off < 0xC000 then regsPh else
  if off < 0xD000 then regsWelt else
  if off < 0x10000 then regsDrp else
  if off < 0x20000 then regsCrd else
  if off < 0x28000 then regsLoop else
  if off < 0x50000 then regsLast else
  if off < 0x60000 then regsThm else
  if off < 0x70000 then regsPred else
  if off < 0x78000 then regsTrd else
  if off < 0x7C000 then regsTrc else
  if off < 0x7E000 then regsLace else
  if off < 0x80000 then regsLog else []

/-- Every register. -/
def allRegs : List Reg :=
  regsGov ++ regsEye ++ regsTime ++ regsFlt ++ regsPwr ++ regsRail ++ regsPh ++ regsWelt ++ regsDrp ++ regsCrd ++ regsLoop ++ regsLast ++ regsThm ++ regsPred ++ regsTrd ++ regsTrc ++ regsLace ++ regsLog

end Sys2Proof.Machine
end

