-- ==== Sys2Proof/Machine/State.lean ====
section
/-! DEFINITION. The state of the block as plain data: the registers (one word per offset that differs from its
reset value), the state the chapters describe that no register shows, the pins and messages the block drives,
the free-value counter, and the queue of waiting commands. -/
namespace Sys2Proof.Machine
open Sys2Proof

/-- Why a command could stop the machine. No row of the table stops this block: every command has an effect. -/
inductive Fault where
  /-- Raised by no command: the spec names no condition that stops the block (safe). -/
  | stopped
  deriving DecidableEq, Repr

/-- Why a command is not run. -/
inductive Refusal where
  /-- A row of the table without a meaning yet; raised by Dispatch only (safe). -/
  | notModelled (mnemonic : String)
  deriving DecidableEq, Repr

/-! ### Chapter 01: time base, seams, islands -/

/-- The time base of the Shank (R33 to R36). `count` runs once STARTED; `boot` is the boot count before it. -/
structure TimeSt where
  /-- The time count in ns (R33). -/
  count : Word64 := 0
  /-- The boot count in ns (R36). -/
  boot : Word64 := 0
  /-- Phase reached in the present REFCLK period, 0 to 9 (R33). -/
  phase : Nat := 0
  /-- The fractional accumulator of TIME_TRIM (R34). -/
  acc : Word := 0
  deriving DecidableEq, Repr

/-- One seam into an island (R25 to R31). -/
structure SeamSt where
  /-- Words held for a stopped island in retention, oldest first (R30). -/
  held : List Word64 := []
  /-- Words delivered to the destination, newest first (R28); kept for the last word only. -/
  delivered : List Word64 := []
  /-- The word whose first attempt failed and awaits its resend (R27). -/
  retry : Option Word64 := none
  /-- Flush indications given to sources (R31). -/
  flushed : Nat := 0
  deriving DecidableEq, Repr

/-- A clock island (R22, R40). -/
structure IslandSt where
  /-- The island has stopped. -/
  stopped : Bool := false
  /-- Time-stamp of its last clock edge (R40). -/
  stopAt : Word64 := 0
  deriving DecidableEq, Repr

/-! ### Chapter 10: Eyelets, journal, firmware -/

/-- A journal entry (R390, R391). -/
structure JEnt where
  seq : Nat := 0
  ch : Nat := 0
  /-- Latest status, in the codes of R374. -/
  status : Nat := 0
  op : Nat := 0
  /-- Command flags: bit 0 PAGE, bit 1 REPLAY. -/
  flags : Nat := 0
  accPosted : Bool := false
  finPosted : Bool := false
  taken : Bool := false
  effect : Bool := false
  partialDone : Bool := false
  step : Nat := 0
  arg : Word := 0
  result : Word := 0
  /-- The final reply has been produced (its post may still be queued). -/
  final : Bool := false
  /-- The slot of the journal that holds the entry, 0 to 1,023. -/
  slot : Nat := 0
  /-- The order in which entries closed, 0 while open (R392). -/
  closedAt : Nat := 0
  deriving DecidableEq, Repr

/-- A reply or notice word queued on a channel (R365, R366, R375). -/
structure QWord where
  word : Word64 := 0
  notice : Bool := false
  /-- The journal slot of the entry the reply belongs to. -/
  jslot : Option Nat := none
  /-- It is that entry's final reply. -/
  fin : Bool := false
  deriving DecidableEq, Repr

/-- An Eyelet channel (R360 to R372). -/
structure ChanSt where
  /-- The copy of the taken word (R364). -/
  held : Word64 := 0
  /-- Words produced and not yet posted, oldest first. -/
  queue : List QWord := []
  /-- The posted word, while RSP_FULL is 1. -/
  posted : Option QWord := none
  /-- The journal slot of the command that uses the page (R371). -/
  pageUser : Option Nat := none
  deriving DecidableEq, Repr

/-- An action held by the supply-sag save together with its journal operation (R453, R454). -/
inductive HeldOp where
  /-- The host's take on channel `ch`. -/
  | take (ch : Nat)
  /-- A unit message to station `n`. -/
  | unitMsg (n : Nat) (msg : Nat)
  deriving DecidableEq, Repr

/-- A unit command sent to a station and awaiting its acknowledgement (R105, R386). -/
structure UnitCmd where
  core : Nat := 0
  slot : Nat := 0
  word : Nat := 0
  deriving DecidableEq, Repr

/-- Firmware state (R384, R389, R401, R402, R525). -/
structure FwSt where
  /-- The firmware of the active pair runs and takes words. -/
  running : Bool := false
  /-- A takeover or firmware restart has not finished resuming the journal (BUSY cause 0x02). -/
  resuming : Bool := false
  /-- PLAN_LOAD is executing (BUSY cause 0x04). -/
  planLoading : Bool := false
  /-- FW_COMMIT or FW_ACTIVATE is executing (BUSY cause 0x05). -/
  fwBusy : Bool := false
  /-- Staged plan tiles, oldest first (256 bytes each). -/
  staged : List (List Byte) := []
  /-- Header payload (28 bytes) of the applied plan. -/
  planHdr : List Byte := []
  /-- The tiles of the applied plan, from which the firmware restores registers. -/
  plan : List (List Byte) := []
  /-- Refused register writes of the applied plan (R389). -/
  refusedWrites : Nat := 0
  /-- Planned phase bitmap: EN of the plan (R186). -/
  plannedPhases : Nat := 0
  /-- The held census snapshot (R401). -/
  snapshot : List Byte := []
  /-- GEN of the held snapshot. -/
  snapGen : Nat := 0
  /-- Notices dropped since the last OVERFLOW notice (R376). -/
  lostPending : Nat := 0
  /-- Firmware image being received: size announced by FW_BEGIN. -/
  imgSize : Option Nat := none
  /-- Bytes of the image received so far. -/
  img : List Byte := []
  /-- Next chunk number expected. -/
  nextChunk : Nat := 0
  /-- Version of the committed image, and its slot. -/
  committed : Option (Nat × Nat) := none
  /-- FW_ACTIVATE took effect and awaits the boot that answers it: the slot it activated. -/
  activating : Option Nat := none
  /-- A lockstep takeover is in progress. -/
  takeover : Bool := false
  /-- Entries reported at the last restart. -/
  reported : Nat := 0
  /-- Kind of the last restart: SUBJECT of the RESTART notice. -/
  restartKind : Nat := 0
  /-- The firmware has made the reports of a cold start and written its boot record (R399, R462). -/
  booted : Bool := false
  /-- Unit messages in flight (R105). -/
  unitCmds : List UnitCmd := []
  /-- Time + 1 at which the UNFENCE command of a journal slot took effect (R444). -/
  effAt : Tab Nat := []
  /-- Slots of the journal whose commands await a domain, an acknowledgement or an arrival that came. -/
  outcome : Tab Nat := []
  deriving DecidableEq, Repr

/-- Eyelets, journal and firmware (R360, R390, R392, R401). -/
structure EyeSt where
  chans : Tab ChanSt := []
  /-- Page bytes: key 4096 * channel + offset (R369, R370); an unwritten byte reads 0. -/
  pages : List Host.Cell := []
  /-- Journal entries in the order of acceptance (R49, R390). -/
  journal : List JEnt := []
  /-- Entries that have closed so far. -/
  closes : Nat := 0
  fw : FwSt := {}
  deriving DecidableEq, Repr

/-! ### Chapter 12: fault collector, sag save -/

/-- A fault event held by its source until the collector accepts it (R437, R438). -/
structure FaultEv where
  row : Nat
  unit : Nat
  arg : Word
  t : Word64
  awl : Bool
  mult : Nat
  deriving DecidableEq, Repr

/-- A tracker entry (R439). -/
structure TrkEnt where
  used : Bool := false
  unit : Nat := 0
  count : Nat := 0
  start : Word64 := 0
  deriving DecidableEq, Repr

/-- The fault collector, its pins and the supply-sag save engine (R437 to R445, R452 to R461). -/
structure FltSt where
  /-- Events not yet accepted, oldest first. -/
  pend : List FaultEv := []
  /-- Tracker entries: key 8 * row + entry. -/
  trk : Tab TrkEnt := []
  /-- Severe events of each row since cold start (R459). -/
  severe : Tab Nat := []
  /-- Fenced sensors, by sensor address (R441). -/
  fencedSensors : Tab Bool := []
  /-- Fenced Lace peers, by site. -/
  fencedPeers : Tab Bool := []
  /-- ERR_N and SAFE_N levels: true is released. -/
  errN : Bool := false
  safeN : Bool := false
  /-- Both pins are held low until the Heel load (R445). -/
  pinHold : Bool := true
  /-- The safe-state line of R32. -/
  safeLine : Bool := false
  /-- The save engine is armed (R452). -/
  armed : Bool := false
  /-- Time of the save start. -/
  sagAt : Word64 := 0
  /-- Time of the end of the save: done or stopped. -/
  sagEnd : Word64 := 0
  /-- The record being written, its slot (false A) and its attempt. -/
  image : List Byte := []
  slot : Bool := false
  attempt : Nat := 0
  /-- Journal operations held by the save (R453, R454). -/
  heldOps : List HeldOp := []
  /-- Slot of the newest valid record: none when neither is valid. -/
  newest : Option Bool := none
  /-- The MRAM (R557, R559); an unwritten byte reads 0. -/
  mram : List Host.Cell := []
  deriving DecidableEq, Repr

/-! ### Chapter 14: log, hang rings, trace, PMBus -/

/-- An event-log entry (R513). -/
structure LogEnt where
  t : Word64
  code : Nat
  restored : Bool
  unit : Nat
  arg : Word
  deriving DecidableEq, Repr

/-- A hang-ring entry (R511). -/
structure HangEnt where
  t : Word64
  code : Nat
  arg : Nat
  deriving DecidableEq, Repr

/-- A trace record: one or two buffer positions, little-endian words of 16 bytes (R494). -/
abbrev TraceRec := List (BitVec 128)

/-- A protected region (R501). -/
structure Region where
  /-- Index k of TRC_REGk that shows it. -/
  k : Nat := 0
  number : Nat := 0
  start : Nat := 0
  len : Nat := 0
  /-- Positions of the post part still to be written; 0 when complete. -/
  left : Nat := 0
  active : Bool := false
  cause : Nat := 0
  tag : Nat := 0
  t : Word64 := 0
  deriving DecidableEq, Repr

/-- The account of one trace source (R497, R498, R505). -/
structure SrcSt where
  /-- Records waiting for a position, oldest first. -/
  queue : List TraceRec := []
  /-- Instants seen since the start, for decimation. -/
  instants : Nat := 0
  /-- The count of the latest instant: the rails' and the thermal channels' records of one count are of one instant. -/
  lastAt : Option Word64 := none
  dropped : Nat := 0
  thinned : Nat := 0
  /-- Time of the first drop or thinning since the last DROP record. -/
  firstDrop : Option Word64 := none
  /-- Time of the last DROP record or of the first drop. -/
  lastReport : Word64 := 0
  /-- The latest record of the source was dropped or thinned. -/
  dropping : Bool := false
  deriving DecidableEq, Repr

/-- PMBus latches of one page (R519). -/
structure PmbPage where
  vout : Nat := 0
  iout : Nat := 0
  temp : Nat := 0
  deriving DecidableEq, Repr

/-- The PMBus target (R515 to R520). -/
structure PmbSt where
  page : Nat := 0
  pages : Tab PmbPage := []
  cml : Nat := 0
  ptr : Nat := 0
  /-- Bytes returned by the last read. -/
  reply : List Nat := []
  /-- The last transaction was NACKed. -/
  nack : Bool := false
  deriving DecidableEq, Repr

/-- Event log, hang rings, trace island and PMBus target (R494 to R520). -/
structure TrcSt where
  /-- Event-log entries, newest first, at most 8,192. -/
  log : List LogEnt := []
  /-- Hang rings by ring ID, newest first, at most 32 entries each. -/
  hang : Tab (List HangEnt) := []
  /-- Entries ever written to each hang ring. -/
  hangN : Tab Nat := []
  /-- Trace buffer positions, 0 where not written since the clear (R508). -/
  buf : Tab (BitVec 128) := []
  srcs : Tab SrcSt := []
  regions : List Region := []
  /-- Capture mode in force since the start: true STREAM (R499). -/
  stream : Bool := false
  /-- Positions written and not yet sent on the port, oldest first (STREAM). -/
  unsent : List Nat := []
  frameSeq : Nat := 0
  /-- Frames put on the lanes: positions of the last frame. -/
  lastFrame : List (BitVec 128) := []
  lastFrameHdr : List Nat := []
  pmb : PmbSt := {}
  deriving DecidableEq, Repr

/-! ### Chapters 15 and 16: security, integration -/

/-- Security state outside the registers (R532 to R536). -/
structure SecSt where
  /-- The outstanding challenge: ID, requested scope, issue time, nonce. -/
  challenge : Option (Nat × Nat × Word64 × List Byte) := none
  /-- Time of the last failed response. -/
  lastFail : Option Word64 := none
  /-- Instruction selected by the TAP: 0 BYPASS, 1 IDCODE, 2 SAMPLE/PRELOAD, 3 EXTEST, 4 INTEST. -/
  tap : Nat := 1
  deriving DecidableEq, Repr

/-- Resets, straps, supplies and boot (R541 to R567). -/
structure RstSt where
  /-- A cold reset is held. -/
  cold : Bool := true
  /-- A warm reset is in progress, and the cause that holds it. -/
  warm : Bool := false
  warmCause : Nat := 0
  warmAt : Word64 := 0
  /-- A warm-reset cause waits for SAG_ACTIVE to clear (R562). -/
  warmPending : Option Nat := none
  /-- A die reset is held. -/
  die : Bool := true
  /-- Straps sampled at the end of the cold reset (R546). -/
  bootSrc : Bool := false
  /-- The MRAM reset pair has been issued (R558). -/
  mramReset : Bool := false
  deriving DecidableEq, Repr

/-- A telemetry value over windows of 1 ms, for readers without privilege (R531). -/
structure Tele where
  /-- The present value and the time since when it has held. -/
  cur : Int := 0
  since : Nat := 0
  /-- Value-time sum over the present window. -/
  acc : Int := 0
  /-- Sum over the last completed window, its length in ns, and the value at its end. -/
  last : Int := 0
  lastLen : Nat := 1000000
  atEnd : Int := 0
  /-- Start of the present window; earlier than its last boundary only where a step of the count jumped over it (R574). -/
  start : Nat := 0
  deriving DecidableEq, Repr

/-- The response of the CFG port to the last request (R548). -/
structure Rsp where
  err : Bool := false
  data : Word64 := 0
  deriving DecidableEq, Repr

/-! ### Chapter 02: unit stations and the Clicker -/

/-- A tile intent token held by a station, with the cost the station gave it (R62, R67). -/
structure Token where
  raw : Word64 := 0
  cost : Nat := 0
  deriving DecidableEq, Repr

/-- A unit station (R60, R75, R88). Amounts are in 1/16 ec (R59). -/
structure StationSt where
  /-- Posted tokens, oldest first (R61). -/
  queue : List Token := []
  /-- Admitted tiles not yet done, oldest first (R71, R553). -/
  running : List Token := []
  /-- SPLIT and JOB in force (R99, R108). -/
  split : Bool := false
  job : Nat := 0
  /-- Cost admitted in the epoch; sum of the costs of tokens stalled for credit, and whether the head is in it. -/
  spent : Nat := 0
  stalled : Nat := 0
  headStalled : Bool := false
  /-- Shortfall of R72; droop stretches; credit to return, and whether it includes a discarded grant. -/
  shortfall : Nat := 0
  stretches : Nat := 0
  toReturn : Nat := 0
  stale : Bool := false
  /-- Window spend, the spends of the last two windows, and the ramp base (R88). -/
  x : Nat := 0
  s1 : Nat := 0
  s2 : Nat := 0
  base : Nat := 0
  /-- Core cycles counted for the 1-in-N gate, and the gate generation they belong to (R74, R95). -/
  gateCnt : Nat := 0
  gateGen : Nat := 0
  /-- Core cycles counted modulo 16 for the cycle skip (R45, R238). -/
  skipCnt : Nat := 0
  /-- The station has sent a report since its last wake (R83, R85). -/
  reported : Bool := false
  /-- The active role has changed in this epoch; the pending role, and the journal slot that asked for it (R104). -/
  roleChanged : Bool := false
  pendRole : Nat := 0
  pendSlot : Option Nat := none
  /-- Levels of PFAULT[1:0] (R100). -/
  pfault : Nat := 0
  /-- The demand report in flight: words A and B (R76). -/
  report : Option (Word64 × Word64) := none
  /-- The partitions that were frozen at the report in flight, one bit each (R80, R82, R102). -/
  reportFz : Nat := 0
  /-- The grant words in flight on the seam, oldest first (R28, R78). -/
  grants : List Word64 := []
  /-- The last stale notice the station returned: CODE and role epoch (R106). -/
  staleNote : Option (Nat × Nat) := none
  /-- Last answer on the unit link: 0 none, 1 ADMIT, 2 REJECT, 3 REJECT with REJ_STALE (R553). -/
  answer : Nat := 0
  /-- SKIP of the unit link: cycles skipped of 16 (R553). -/
  skip : Nat := 0
  /-- Lengthened generator cycles left of the stretch in progress (R129, R130). -/
  stretchLeft : Nat := 0
  /-- Trips in a row of one detector: which, since when, and when it tripped last (R138). -/
  tripRun : Option (Nat × Word64 × Word64) := none
  deriving DecidableEq, Repr

/-- What the Clicker keeps for a station (R76, R84, R101). -/
structure ClickSt where
  /-- The report received for the present boundary (R76). -/
  report : Option (Word64 × Word64) := none
  /-- Grants to the sub-buckets computed at the last boundary (R101). -/
  g0 : Nat := 0
  g1 : Nat := 0
  /-- The partitions that were frozen at that report, one bit each (R80, R82, R102). -/
  fz : Nat := 0
  /-- The station has woken and the boundary of its first report has not passed (R85, R109). -/
  waking : Bool := false
  /-- A partition whose fault makes a held grant due, and the epoch of the fault (R101). -/
  heldFor : Option (Nat × Nat) := none
  /-- The predictor's forecast for the next epoch (R77, R285). -/
  forecast : Nat := 0
  deriving DecidableEq, Repr

/-- What the Clicker keeps for a cluster (R86 to R92). -/
structure ClusterSt where
  /-- Welt headroom H in mV and cluster current as last reported (R113). -/
  h : Nat := 0
  iout : Nat := 0
  /-- Ramp tokens left in the present window (R89). -/
  pool : Nat := 0
  /-- The allowance words in flight, oldest first, and the window the last was computed for (plus 1). -/
  words : List Word64 := []
  forWindow : Nat := 0
  /-- An allowance that arrived for the next window: tag, allowance, pace. -/
  next : Option (Nat × Nat × Nat) := none
  /-- Effective pacing code, and windows at or above PACE_HIGH (R92). -/
  pace : Nat := 0
  paceRun : Nat := 0
  /-- Station served last (R89). -/
  rr : Nat := 0
  deriving DecidableEq, Repr

/-- Pre-allocations on their way from the loop engine to the Clicker (R280). -/
structure PreSt where
  /-- The values the Clicker uses at the refill of the present epoch, by core, in 1/16 ec. -/
  now : Tab Nat := []
  /-- Values that arrived after the boundary they were sent for; they count at the next one. -/
  late : Option (Tab Nat) := none
  /-- Values whose words wait on the seam for a resend (R27). -/
  wait : Option (Tab Nat) := none
  deriving DecidableEq, Repr

/-- The credit economy (R58 to R109; the float and the deficit R63, R80). -/
structure CrdSt where
  stations : Tab StationSt := []
  clicks : Tab ClickSt := []
  clusters : Tab ClusterSt := []
  /-- Cost-table entries: key 128 * set + 16 * class + format (R67). -/
  cost : Tab Word := []
  /-- Latest chip budget code (R80); the float and the deficit in 1/16 ec. -/
  budget : Nat := 0
  float : Nat := 0
  deficit : Nat := 0
  /-- Credit drained from sleeping or fenced stations (R85) and grants lost on their seams (R83): what came before the
  present epoch, what came in epoch `drainedAt`, and that epoch. -/
  drained : Nat := 0
  drainedNow : Nat := 0
  drainedAt : Nat := 0
  /-- The epoch the last refill served, plus 1. -/
  refilled : Nat := 0
  /-- The fraction F of Rail 0's planned capacity as last reported: numerator and denominator (R86, R180). -/
  fracNum : Nat := 0
  fracDen : Nat := 0
  /-- Clamp sources asserted: key 4096 * source bit + unit (R94). -/
  clampReq : Tab Bool := []
  /-- Time since every source has been deasserted, while the line holds (R97). -/
  clampOff : Option Word64 := none
  /-- Generation of the 1-in-N count: changes when the count must start again (R74, R96). -/
  gateGen : Nat := 1
  /-- Epoch of the pending clear of each meter, plus 1 (R108). -/
  jobClear : Tab Nat := []
  /-- The pre-allocations that the loop engine has sent (R280). -/
  pre : PreSt := {}
  deriving DecidableEq, Repr
/-! ### Chapter 03: Welt regulators and droop detectors -/

/-- A cluster's Welt controller and droop account. Voltages are codes of R4 unless named mV. -/
structure WeltSt where
  /-- Time + 1 of the last admission of each class N, M, W; 0 none (R120, R125). -/
  admitN : Nat := 0
  admitM : Nat := 0
  admitW : Nat := 0
  /-- Class the target is set for while a class-up is in progress (R121, R123). -/
  reqClass : Option Nat := none
  /-- The class of the target the detectors' trip level follows (R128). -/
  tripClass : Nat := 0
  /-- The output, the actual drop, and the rail less the dropout, as last seen, in 1/16 mV (R113, R117, R122, R131). -/
  vout : Nat := 0
  drop : Nat := 0
  room : Nat := 0
  /-- End of the kick in progress (R131). -/
  kickUntil : Option Word64 := none
  /-- Times of ILIM: since when it has limited, since when the current is below 90 %; the zero allowance (R140). -/
  ilimAt : Option Word64 := none
  below90 : Option Word64 := none
  zeroAllow : Bool := false
  /-- The limit in progress has been reported (R140). -/
  ilimTold : Bool := false
  /-- Trips of the present epoch, and the epoch they belong to (R134). -/
  trips : Nat := 0
  tripsEpoch : Nat := 0
  /-- Storm: entry time; consecutive quiet epochs (R134, R136). -/
  stormAt : Option Word64 := none
  quiet : Nat := 0
  /-- The window from which the storm reduction applies. -/
  stormFrom : Nat := 0
  /-- The storm has lasted longer than STORM_CLAMP_US. -/
  stormLong : Bool := false
  /-- A storm was in force at some time of the present epoch; the domain was ON at some time of it (R137). -/
  stormSeen : Bool := false
  onSeen : Bool := false
  deriving DecidableEq, Repr

/-- Chapter 03 as a whole (R110 to R142). -/
structure WeltAll where
  cl : Tab WeltSt := []
  /-- WELT_CTRL.EN in force since the last window boundary (R114). -/
  en : Bool := false
  /-- Cluster-epochs counted and in storm during the present 100 us (R137). -/
  epochs : Nat := 0
  storms : Nat := 0
  /-- Rail need sent and not yet received by the loop engine (R115). -/
  needSent : Option Nat := none
  deriving DecidableEq, Repr
/-! ### Chapter 04: phases -/

/-- A phase (R143 to R191). Sense voltages are in converter steps of 1.25 mV (R149). -/
structure PhaseSt where
  /-- RAIL, ID_EXP, L_NH and IRATE_A as latched at the last entry to PROBE (R191). -/
  rail : Fin 8 := 0
  idExp : Nat := 0
  lnh : Nat := 0x64
  irate : Nat := 0x3C
  /-- SHARE, SLOPE_K and CS_OFFS in force since the last cycle (R191). -/
  share : Nat := 0x80
  slope : Nat := 0x10
  offs : Int := 0
  /-- The pins PH_EN and PH_PWM, and the time since PH_EN is 0 (R143, R190). -/
  en : Bool := false
  pwm : Bool := false
  lowAt : Word64 := 0
  /-- The last four temperature samples, newest first, in 1/16 °C; w of R175 (R145, R146). -/
  temps : List Int := []
  w : Nat := 256
  /-- PH_TF signals a stage fault; PH_TF is invalid (R170, R176). -/
  tfFault : Bool := false
  tfInvalid : Bool := false
  /-- Runs of limited, open and no-rise cycles (R168, R181, R183). -/
  limRun : Nat := 0
  openRun : Nat := 0
  flatRun : Nat := 0
  /-- The share ramp: cycles done and cycles in all (R166). -/
  rampDone : Nat := 0
  rampLen : Nat := 0
  /-- The phase angle in 2^-16 of the period (R156). -/
  angle : Nat := 0
  /-- The part of the last cycle, in 25 ps, in which diode emulation held both switches off (R163). -/
  idle : Option (Nat × Nat) := none
  /-- Sum and number of the cycle means of the present 50 µs interval, in 1/8 A (R184). -/
  sumI : Nat := 0
  numI : Nat := 0
  /-- The time of entry to the state, or of the last probe in ABSENT (R169, R185, R187). -/
  since : Word64 := 0
  /-- Consecutive matching probes in ABSENT; the times of the last two re-admissions (R187). -/
  matches_ : Nat := 0
  readmits : List Word64 := []
  /-- The journal slots of the PHASE_EN commands whose disable is held (R189). -/
  heldSlots : List Nat := []
  deriving DecidableEq, Repr

/-- The phase timebase (R157 to R162). Frequencies are in 1/32 kHz. -/
structure TimebaseSt where
  /-- The phase of the oscillator at `at_`, in 2^-32 of a period (R157). -/
  nco : BitVec 32 := 0
  /-- The slew in progress: where it started, when, and where it goes (R161). -/
  freq : Nat := 32000
  at_ : Word64 := 0
  target : Nat := 32000
  /-- The last valid SYNC_IN periods in ps, newest first, at most 8 (R158, R159). -/
  periods : List Nat := []
  /-- Time and period of the last valid edge (R160). -/
  lastEdge : Option (Word64 × Nat) := none
  /-- Acquisition is in progress; the distance in ps of the timebase edge from the last SYNC_IN edge (R159). -/
  acq : Bool := false
  off : Option Nat := none
  deriving DecidableEq, Repr

/-- The phase control island (R143 to R191). -/
structure PhSt where
  ph : Tab PhaseSt := []
  tb : TimebaseSt := {}
  deriving DecidableEq, Repr

/-! ### Chapter 05: rails and the sequencer -/

/-- A rail (R192 to R215). The generator's quantities are in 2^-10 mV, mV/µs and mV/µs² (R201). -/
structure RailSt where
  vset : Int := 0
  v : Int := 0
  a : Int := 0
  target : Int := 0
  /-- Arrival of the generator in STARTING (R214). -/
  arrivedAt : Option Word64 := none
  /-- Since when every fine error has been within PG_MV (R208, R214). -/
  goodAt : Option Word64 := none
  /-- Time of entry to the state. -/
  since : Word64 := 0
  /-- Stored errors and outputs of the compensator, newest first (R197). -/
  e : List Int := [0, 0, 0, 0]
  y : List Int := [0, 0, 0]
  /-- The coefficients captured under COEF_HOLD: b, a, shifts b, shifts a (R200). -/
  held : Option (List Word × List Word × Word × Word) := none
  /-- The coarse reading in steps of 3.125 mV (R196). -/
  coarse : Nat := 0
  /-- The rail currents of the last 1 µs, newest first, in 1/80 A (R177). -/
  cur : List Int := []
  /-- The load L_eff of R164 in 1/80 A. -/
  leff : Int := 0
  /-- Consecutive samples above, and at or below, RAIL_OC (R171); since when every sample exceeds it clamped (R172). -/
  ocHi : Nat := 0
  ocLo : Nat := 0
  ocAt : Option Word64 := none
  /-- Light-load cycles counted, and diode emulation (R163). -/
  deRun : Nat := 0
  de : Bool := false
  /-- Since when L_eff / (N_act - 1) has stayed below SHED_A (R165). -/
  shedAt : Option Word64 := none
  /-- Braking since; braking blocked after its timeout (R173). -/
  brakeAt : Option Word64 := none
  brakeBlock : Bool := false
  /-- Set-point at entry to STOPPING (R211). -/
  stopHold : Int := 0
  /-- The phases have gone to READY in STOPPING (R214). -/
  stopped : Bool := false
  /-- In HICCUP or FAULT with its leader (R212). -/
  withLeader : Bool := false
  /-- Since when the bias of the sense pair is on: none in OFF (R204, R214). -/
  biasAt : Option Word64 := none
  /-- In HICCUP or FAULT, ON has been written 0 and the quiet point is awaited (R214, R215). -/
  offWait : Bool := false
  /-- In STARTING, a power-down has retargeted the rail to 0 mV (R219). -/
  toZero : Bool := false
  /-- A host target is pending, and its journal slot (R203). -/
  hostPending : Bool := false
  hostSlot : Option Nat := none
  /-- The electrical limit the loop engine holds, and whether a change is to be delivered (R179). -/
  limit : Nat := 0
  limitDue : Bool := false
  deriving DecidableEq, Repr

/-- The sequencer (R216 to R219). -/
structure SeqSt where
  /-- The entries of the table that runs, as latched at the request. -/
  table : List Word := []
  /-- The next step, and the time from which its delay counts. -/
  next : Nat := 0
  at_ : Word64 := 0
  /-- Rails the earlier steps named. -/
  earlier : Nat := 0
  /-- Rails that the run skips (R218, R219). -/
  skip : Nat := 0
  /-- A power-down check waits since. -/
  waitAt : Option Word64 := none
  /-- The run stops the rails of an aborted power-up (R218). -/
  aborting : Bool := false
  /-- The journal slot of the SEQUENCE command that runs, and of the one PENDING_UP holds, with its table. -/
  slot : Option Nat := none
  pendSlot : Option Nat := none
  pendTable : List Word := []
  deriving DecidableEq, Repr

/-- Rails and sequencer (R192 to R221). -/
structure RailsSt where
  r : Tab RailSt := []
  seq : SeqSt := {}
  /-- The rail need the loop engine passes (R246): none before the first, 0 empty. -/
  need : Nat := 0
  needAt : Option Word64 := none
  /-- The 10 µs without a rail need have been reported. -/
  needLate : Bool := false
  deriving DecidableEq, Repr

/-! ### Chapter 06: the loop engine -/

/-- The newest value received from a source, with its arrival time (R224). -/
structure SrcVal where
  v : Int := 0
  t : Word64 := 0
  /-- The sum and the number of the values received so far, for means (R272). -/
  sum : Int := 0
  n : Nat := 0
  deriving DecidableEq, Repr

/-- A loop slot (R222 to R262). -/
structure SlotSt where
  /-- Configuration words +0x00 to +0x64 as latched at the last sample (R262). -/
  cfg : List Word := []
  /-- ORDER, POL, GROUP and FB_SRC as latched at the enable action (R262). -/
  order : Bool := false
  pol : Bool := false
  group : Fin 16 := 0
  fb : Nat := 0
  /-- Values latched at the sample: feedback, target, ceiling, and whether the check passed (R224, R250). -/
  fbVal : Int := 0
  tgtVal : Int := 0
  ceilVal : Option Int := none
  checkOk : Bool := true
  /-- Feedback history for the freeze check, newest first (R250). -/
  hist : List Int := []
  /-- The reference generator in 2^-10 units, and whether it starts at the next sample (R236, R237). -/
  vset : Int := 0
  v : Int := 0
  a : Int := 0
  genStart : Bool := false
  /-- Stored errors and outputs, newest first (R232). -/
  e : List Int := [0, 0, 0]
  y : List Int := [0, 0, 0]
  /-- Released since the enable action, and the value (R239). -/
  out : Option Int := none
  /-- Coefficients captured under COEF_HOLD, in force until the first sample at COEF_HOLD 0 (R200, R235). -/
  held : Option (List Word × List Word × Word × Word) := none
  /-- An evaluation waits to start, with its sample instant and deadline in engine cycles (R227). -/
  ready : Bool := false
  sampleAt : Nat := 0
  deadline : Nat := 0
  /-- Evaluations in progress on the lanes. -/
  busy : Nat := 0
  /-- Runs of drops, of passing checks in HOLD, of passing checks in SAFE (R247, R251, R252). -/
  drops : Nat := 0
  passes : Nat := 0
  revalid : Nat := 0
  /-- The state HOLD came from, and its start (R251). -/
  from_ : Nat := 1
  holdAt : Word64 := 0
  /-- The oscillation detector: side last beyond (1 above, 2 below), samples, crossings, quiet blocks (R253, R256). -/
  side : Nat := 0
  k : Nat := 0
  crossings : Nat := 0
  quiet : Nat := 0
  /-- The recovery use of the slot's section ends at the next sample (R258). -/
  dropNotch : Bool := false
  /-- Bound on y while the clamp or safe state is asserted, with the assertion's number (R243). -/
  yCap : Option (Nat × Int) := none
  /-- LAT_MIN and LAT_MAX restart at the next sample (LOOP_LATCLR). -/
  latClr : Bool := false
  /-- ff of the last evaluation (R233). -/
  ff : Int := 0
  deriving DecidableEq, Repr

/-- A lane with an evaluation in progress (R227, R228). -/
structure LaneSt where
  busy : Bool := false
  slot : Fin 128 := 0
  /-- Sample instant and completion, in engine cycles. -/
  sampleAt : Nat := 0
  endAt : Nat := 0
  /-- The output to release, for an evaluation of the law, and the tapped nodes: feedback, e, y, out, ff (R263). -/
  out : Option Int := none
  taps : List Int := []
  deriving DecidableEq, Repr

/-- A notch section (R257, R258). -/
structure NotchSt where
  /-- Coefficients b and a with their shifts. -/
  b : List (Int × Nat) := []
  a : List (Int × Nat) := []
  xs : List Int := [0, 0]
  ys : List Int := [0, 0]
  /-- The next evaluation is the first: inputs and outputs start at e. -/
  fresh : Bool := false
  /-- A manual request is held. -/
  req : Bool := false
  deriving DecidableEq, Repr

/-- A competition group (R238, R239). -/
structure GroupSt where
  /-- The group has had a valid member since the engine started (R239). -/
  had : Bool := false
  /-- The slot that won last. -/
  last : Option Nat := none
  /-- The cap it now sends: destination, first cluster, clusters, value. -/
  cap : Option (Nat × Nat × Nat × Nat) := none
  deriving DecidableEq, Repr

/-- The loop engine (R222 to R263; the lane-cycles of R227 to R229). -/
structure LoopSt where
  slots : Tab SlotSt := []
  lanes : Tab LaneSt := []
  notches : Tab NotchSt := []
  groups : Tab GroupSt := []
  /-- Source values by selector (R225). -/
  src : Tab SrcVal := []
  /-- Thermal channels marked lost (R300). -/
  lost : Tab Bool := []
  /-- Lane-cycles used in the present epoch, and those that run on into the next (LOOP_LOAD). -/
  busyEpoch : Nat := 0
  used : Nat := 0
  carry : Nat := 0
  /-- Epoch at which BUSY_MAX restarts. -/
  busyClr : Option Nat := none
  /-- Divider code of each cluster where it is below 3 (R238, R242). -/
  div : Tab Nat := []
  /-- The phase currents as the phase/rail island last delivered them, current codes (R51). -/
  phaseI : Tab Nat := []
  deriving DecidableEq, Repr

/-! ### Chapter 07: Lasts and the predictor -/

/-- A Last (R264 to R277). Times are in ns. -/
structure LastSt where
  /-- MODE, DEST, RAIL, CL_FIRST, CL_CNT, BINS, SRC, PMIN and PMAX as latched at the last entry to SEARCH (R276). -/
  mode : Nat := 0
  dest : Nat := 0
  rail : Nat := 0
  clFirst : Nat := 0
  clCnt : Nat := 0
  bins : Nat := 1024
  src : Nat := 0
  pmin : Nat := 10000
  pmax : Nat := 200000000
  /-- LASTl_LEARN and LASTl_GAIN as latched at the last bin boundary (R276). -/
  learn : Word := 0x20040002
  ffk : Nat := 16
  /-- The template: bins that are not 0 (R264). -/
  t : Tab Int := []
  /-- P_est, the time of the last marker, PLOCK (R267, R268). -/
  pEst : Nat := 0
  tm : Word64 := 0
  plock : Nat := 0
  /-- Markers taken and not yet processed, oldest first (R266). -/
  marks : List Word64 := []
  /-- The last marker taken (R266); the last one processed in SEARCH or FADE, and the intervals since, newest first,
  at most four (R267, R270). -/
  lastMark : Option Word64 := none
  prevMark : Option Word64 := none
  intervals : List Nat := []
  /-- The source's cumulative sum and count at the last marker, for the fourth interval's mean (R267). -/
  markSum : Int := 0
  markNum : Nat := 0
  /-- Gain: its value at `gAt`, rising in LOCKED, falling in FADE over `gLen` ns (R270, R274). -/
  gFrom : Nat := 0
  gAt : Word64 := 0
  gLen : Nat := 0
  /-- A lock that completed during FADE: period, time of its marker, sum and number for the source mean (R270). -/
  pendLock : Option (Nat × Word64 × Int × Nat) := none
  /-- The bin interval in progress: its bin, the source's sum and count at its start, the longest gap between arrivals,
  the clamp's generation, and whether the clamp or safe state was asserted at its start (R272). -/
  bin : Nat := 0
  binSum : Int := 0
  binNum : Nat := 0
  gap : Nat := 0
  gateGen : Nat := 0
  binHeld : Bool := false
  /-- The source has been marked lost in the bin interval in progress (R272). -/
  srcBad : Bool := false
  /-- Block means of the source in 1/256, newest first, at most 4,096, and the block in progress (R271). -/
  blocks : List Int := []
  blkAt : Nat := 0
  blkSum : Int := 0
  blkNum : Nat := 0
  /-- The lead bin last traced (R273, R495). -/
  leadWas : Nat := 0
  /-- The best lag of the last evaluation, where it met the threshold (R271). -/
  lag : Option Nat := none
  deriving DecidableEq, Repr

/-- The predictor's state for a core (R281 to R285). -/
structure PredCore where
  /-- The counts of the last four windows, newest first, and the window they were delivered for. -/
  wins : List (List Nat) := []
  got : Option Nat := none
  /-- The partial sums p[j][k] in 2^-128, j = 0 then j = 1 (R284). -/
  parts : List Int := []
  /-- The next evaluation recomputes all four banks. -/
  fresh : Bool := true
  /-- The intent sum Q at the latest boundary, in 1/16 ec (R282). -/
  q : Nat := 0
  /-- SET in use. -/
  set_ : Nat := 0
  deriving DecidableEq, Repr

/-- The predictor's account of a cluster (R286 to R290, R295). -/
structure PredClu where
  /-- Sums of EST issued at the last 1 µs boundaries, with the boundary in µs, newest first. -/
  est : List (Nat × Nat) := []
  /-- Welt power of the last 100 ns reports in 1/8,000 of a power code, newest first, at most 20; domain ON and Welt EN at each. -/
  pw : List (Nat × Bool) := []
  run : Nat := 0
  /-- Sums of 20 E and 20 M over the present millisecond, in 1/8,000 of a power code (R295). -/
  sumE : Nat := 0
  sumM : Nat := 0
  deriving DecidableEq, Repr

/-- The predictor (R284 to R295). -/
structure PredSt where
  cores : Tab PredCore := []
  clus : Tab PredClu := []
  /-- Sums of every EST at the last 1 µs boundaries, with the boundary in µs, newest first; sums and counts of the
  chip-power source at them (R286). -/
  est : List (Nat × Nat) := []
  chip : List (Nat × Int × Nat) := []
  run : Nat := 0
  /-- The rail term I_pred as a current code (R285). -/
  ipred : Int := 0
  /-- The time of the last release of the clamp line (R287). -/
  heldAt : Option Word64 := none
  /-- Weight-set words captured under SET_HOLD (R292). -/
  held : Option (Tab Word) := none
  /-- The release of SET_HOLD takes effect at the next boundary. -/
  releaseAt : Bool := false
  /-- The core the shadow unit looks at first, and each suspect set's last failure (epoch + 1) (R288). -/
  next : Nat := 0
  suspect : Tab Nat := []
  /-- The calibrated GAIN of each set (R295). -/
  cal : Tab Nat := []
  /-- Since when no chip check has tripped (R295). -/
  calm : Option Word64 := none
  /-- When every affected set was trimmed within its limits after the last entry to a fallback (R295). -/
  retrim : Option Word64 := none
  /-- The epoch in which the Clicker's forecasts were issued (R285). -/
  fcAt : Option Nat := none
  deriving DecidableEq, Repr

/-- Lasts and predictor (R264 to R295). -/
structure LastsSt where
  l : Tab LastSt := []
  pred : PredSt := {}
  deriving DecidableEq, Repr

/-! ### Chapter 08: thermal -/

/-- A sensor (R296 to R305). Temperatures are codes of R4. -/
structure SensSt where
  /-- Its last own reading and sequence count, none before the first (R298). -/
  last : Option (Int × Nat) := none
  /-- Runs: identical readings, missing readings, deviations from the neighbours, readings at CRIT (R302, R309). -/
  same : Nat := 0
  missing : Nat := 0
  dev : Nat := 0
  crit : Nat := 0
  broken : Bool := false
  cause : Nat := 0
  subst : Bool := false
  /-- Written healthy: it returns at its next sample (R305). -/
  unbreak : Bool := false
  /-- Sampled at the last instant, and the reading in use (R299, R300). -/
  sampled : Bool := false
  use : Int := 0
  deriving DecidableEq, Repr

/-- A zone (R300, R307 to R312): key 1024 * layer + unit. -/
structure ZoneSt where
  v : Option Int := none
  /-- The last zone values formed from healthy sensors only, newest first, at most five (R310). -/
  hist : List (Option Int) := []
  lvl : Nat := 0
  rate : Int := 0
  warn : Bool := false
  /-- Last samples that called for the throttle and the hard backstop (R315). -/
  thrAt : Option Word64 := none
  /-- Last sample that called for the throttle without exemption: the OVER level and above (R307, R323). -/
  ovrAt : Option Word64 := none
  hardAt : Option Word64 := none
  /-- The zone is below the release threshold of R312 since. -/
  lowAt : Option Word64 := none
  deriving DecidableEq, Repr

/-- A column of the model, nodes in 1/256 °C (R317 to R320). -/
structure ColSt where
  tl : Int := 0
  tb : Int := 0
  tm : Int := 0
  /-- TM_INF and PROJ in 1/256 °C. -/
  inf : Int := 0
  proj : Int := 0
  deriving DecidableEq, Repr

/-- Thermal state (R296 to R325). -/
structure ThmSt where
  sens : Tab SensSt := []
  zones : Tab ZoneSt := []
  cols : Tab ColSt := []
  /-- Clusters whose non-critical cores take WIN_SKIP (R324). -/
  winCl : Tab Bool := []
  /-- When the window opened (R322). -/
  winAt : Word64 := 0
  deriving DecidableEq, Repr

/-! ### Chapter 09: power domains and the Insole -/

/-- A power domain (R326 to R344): what PWRd_CTRL and PWRd_STATUS do not show. -/
structure DomSt where
  /-- Start of the present step (R334). -/
  stepAt : Word64 := 0
  /-- The step has ended and the domain stays at its commit point while the sag save is active (R341). -/
  held : Bool := false
  /-- The route aborts: RELEASE is its next step (R339, R340). -/
  abort : Bool := false
  /-- RAMP starts from the retention level (R333). -/
  rampR : Bool := false
  /-- The route began in OFF and the domain has not reached ON since (R337). -/
  fromOff : Bool := false
  /-- An entry request that waits for the unit's next wait intent: target and source (R331). -/
  wait : Option (Nat × Nat) := none
  /-- Source of the request in the pending slot, in the codes of WAKE_SRC (R336, R342). -/
  pendSrc : Nat := 0
  /-- Journal slots of the commands whose requests wait, run and are pending (R383). -/
  waitSlot : Option Nat := none
  slot : Option Nat := none
  pendSlot : Option Nat := none
  /-- DRAIN_MAX periods that a fenced domain's DRAIN has lasted (R339). -/
  drains : Nat := 0
  /-- Words written over the domain's link at the last restore (R354, R553). -/
  restored : List Nat := []
  /-- ISO, CLKEN and PSW of the domain's link (R553, R555). -/
  iso : Bool := false
  clk : Bool := true
  psw : Nat := 2
  deriving DecidableEq, Repr

/-- The power domains and the Insole (R326 to R359). -/
structure PwrSt where
  dom : Tab DomSt := []
  /-- The Insole as its logical tiles show it (R347, R359): key 256 * tile address + byte. An unlisted byte is that
  of a free tile (log entry 23). -/
  insole : List Host.Cell := []
  /-- The first tile of each copy of what the firmware keeps in the Insole: key 2 * object + copy; object 0 is the journal
  (R390), 1 the census state, 2 + c the page of channel c (R369). Their bytes are those of the fields that hold them. -/
  fwTiles : Tab Nat := []
  deriving DecidableEq, Repr

/-! ### Chapter 11: Lace -/

/-- A Lace port (R404, R407, R421). Times of frames are in 1/16 ns. -/
structure PortSt where
  /-- Entry to TRAIN, or the last valid HELLO in UP. -/
  at_ : Word64 := 0
  /-- Consecutive valid HELLO messages from one site, and the site. -/
  hellos : Nat := 0
  helloSite : Nat := 0
  /-- Departure of the outstanding DELAY_REQ; the link delays measured, newest first, at most 16 (R421). -/
  t1 : Option Nat := none
  delays : List Int := []
  /-- Times of CRC errors of the last 100 µs (R407). -/
  crc : List Word64 := []
  deriving DecidableEq, Repr

/-- A message as it stands on a ring (R411): type, source, destination, hops, broadcast, number, body words. -/
structure LaceMsg where
  typ : Nat := 0
  src : Nat := 0
  dst : Nat := 0
  hops : Nat := 0
  bcast : Bool := false
  mseq : Nat := 0
  body : List Nat := []
  deriving DecidableEq, Repr

/-- A frame that leaves a port: port, ring W, payload, CRC (R409 to R411). -/
structure LaceFrame where
  port : Nat
  payload : Word64
  crc : BitVec 16
  deriving DecidableEq, Repr

/-- An outstanding REMOTE of the head (R432). -/
structure RelayEnt where
  slot : Nat := 0
  site : Nat := 0
  word : Word64 := 0
  page : List Byte := []
  sentAt : Word64 := 0
  /-- A RELAY_RSP for it has arrived since (R432). -/
  answered : Bool := false
  deriving DecidableEq, Repr

/-- The Lace island (R403 to R436: membership R417 to R420, alignment R421 to R424, shares R426 to R428). -/
structure LaceSt where
  ports : Tab PortSt := []
  /-- The number of the next message this governor originates (R411). -/
  mseq : Nat := 0
  /-- The frames of the last message, or copies, that left (R412); the wake pattern sent last on each port (R408). -/
  out : List LaceFrame := []
  wakes : Tab Nat := []
  /-- Messages accepted of each source, newest first, at most 64 numbers (R412). -/
  seen : Tab (List Nat) := []
  /-- The head's site, once known. -/
  headSite : Option Nat := none
  /-- The time the island started; the greatest time received in a JOIN (R424). -/
  startAt : Word64 := 0
  joinTime : Nat := 0
  /-- The head's start-up hold has ended (R424); the head is lost (R420). -/
  timeOn : Bool := false
  headLost : Bool := false
  /-- JOIN has been sent without admission since; the report of it has been made (R417). -/
  joinAt : Option Word64 := none
  /-- The head's member set, the sites whose JOIN it admits at the next MEMBERS, and the time of each member's last REPORT
  (R417, R418). -/
  members : Nat := 0
  joins : Nat := 0
  reportAt : Tab Word64 := []
  debts : Tab Nat := []
  /-- Times of the last MEMBERS, TIME and SHARE received. -/
  membersAt : Word64 := 0
  timeAt : Word64 := 0
  shareAt : Word64 := 0
  /-- One offset has been measured (R417); the integral of R423 in 2^-12 ns; consecutive offsets within ALIGN. -/
  measured : Bool := false
  integ : Int := 0
  alignRun : Nat := 0
  /-- Cumulative sum and number of chip power, and of STALLED per epoch, at the last report (R426). -/
  usedSum : Int := 0
  usedNum : Nat := 0
  stallSum : Nat := 0
  stallNum : Nat := 0
  /-- Outstanding REMOTE commands, oldest first (R432). -/
  relays : List RelayEnt := []
  deriving DecidableEq, Repr

/-! ### Chapter 13: Tread -/

/-- The thermal-cycle tracker of a phase (R468), in 1/16 °C. -/
structure CycSt where
  started : Bool := false
  /-- The extreme recorded last. -/
  prev : Int := 0
  /-- The highest and lowest readings since then. -/
  hi : Int := 0
  lo : Int := 0
  /-- 0 no extreme recorded yet, 1 a low, 2 a high was recorded last. -/
  last : Nat := 0
  deriving DecidableEq, Repr

/-- The history of an instance: its interval in days and its points (day, W in 2^-12), oldest first (R475). -/
structure HistSt where
  step : Nat := 1
  pts : List (Nat × Nat) := []
  deriving DecidableEq, Repr

/-- The fit of an instance: service days in 2^-16 (R476). -/
structure FitSt where
  valid : Bool := false
  lo : Nat := 0
  med : Nat := 0
  hi : Nat := 0
  deriving DecidableEq, Repr

/-- A decoupling sweep in progress (R472). -/
structure SweepSt where
  /-- The frequency's number, the half-periods done, and the time the point started. -/
  k : Nat := 0
  half : Nat := 0
  at_ : Word64 := 0
  /-- The greatest Z so far, 0.01 µΩ. -/
  z : Nat := 0
  /-- The count of clamp assertions at the start of the point, whether the line was asserted then, and whether this is the
  repetition of the point (R471). -/
  clamps : Nat := 0
  clamped : Bool := false
  again : Bool := false
  deriving DecidableEq, Repr

/-- The Tread monitors. Times named in service time are ns of R463. -/
structure TrdSt where
  cyc : Tab CycSt := []
  /-- Service time at the start of the count, and the count then (R463). -/
  base : Nat := 0
  from_ : Word64 := 0
  /-- The calendar as last taken, with its service time (R464). -/
  calSec : Nat := 0
  calAt : Nat := 0
  /-- Hours measured, days fitted, seconds saved: the next one due. -/
  hour : Nat := 1
  day : Nat := 0
  sec : Nat := 1
  /-- A guard has changed since the section was last written (R487). -/
  changed : Bool := false
  /-- The Insole tiles of the section: copy A's five, then copy B's (R487). -/
  tiles : List Nat := []
  /-- Service time of the last checkpoint; the newest valid one: slot (true C1) and SEQNUM (R490). -/
  ckptAt : Nat := 0
  ckpt : Option (Bool × Nat) := none
  hist : Tab HistSt := []
  fit : Tab FitSt := []
  warn : Tab Bool := []
  worn : Tab Bool := []
  /-- Service time + 1 of each cluster's last measurement under R466. -/
  meas : Tab Nat := []
  /-- Retention reports by core, + 1 (R474). -/
  ret : Tab Nat := []
  /-- Scheduled windows: service time of the command, period in hours, windows opened (R484). -/
  sched : Option (Nat × Nat × Nat) := none
  sweep : Option SweepSt := none
  /-- The dummy-load request of every present core's unit link (R472, R553). -/
  dummy : Bool := false
  /-- The hold-up measurement is in progress (R469). -/
  measuring : Bool := false
  /-- The restored guard table, W, M, N of each cluster, until the plan is loaded (R486); while a die reset holds
  the registers, the guards that the firmware keeps (R528, log entry 36). -/
  guards : List Byte := []
  /-- The PLAN_FLOOR of the applied plan: W, M, N of each cluster (R388). -/
  floor : List Byte := []
  deriving DecidableEq, Repr


/-- The machine. -/
structure State where
  /-- Commands waiting, first in first out. -/
  pending : List Instr := []
  /-- Registers that differ from their reset value, by offset. -/
  regs : Tab Word := []
  /-- Read shadows of the 64-bit pairs, by the offset of the low word (R18). -/
  shadow : Tab Word := []
  /-- The number of free values taken so far (the model's own field, log entry 2). -/
  free : Nat := 0
  /-- When each periodic action last served a boundary: time count + 1 (the model's own field, log entry 5). -/
  served : Tab Nat := []
  rsp : Rsp := {}
  time : TimeSt := {}
  seams : Tab SeamSt := []
  islands : Tab IslandSt := []
  eye : EyeSt := {}
  flt : FltSt := {}
  trc : TrcSt := {}
  sec : SecSt := {}
  rst : RstSt := {}
  tele : Tab Tele := []
  crd : CrdSt := {}
  welt : WeltAll := {}
  ph : PhSt := {}
  rails : RailsSt := {}
  loop : LoopSt := {}
  lasts : LastsSt := {}
  thm : ThmSt := {}
  pwr : PwrSt := {}
  lace : LaceSt := {}
  trd : TrdSt := {}
  deriving DecidableEq, Repr

/-- The machine right after reset: a cold reset is in force (R561); every register at its reset value, every
memory with nothing listed, every queue empty. -/
def State.reset : State := {}

end Sys2Proof.Machine
end

