-- ==== Sys2Proof/Machine/Ops.lean ====
section
/-! DEFINITION. The shared operations: register words and fields, free values, the time count and its boundaries,
the event log, hang rings, notices and fault events, and sparse byte memories. -/
namespace Sys2Proof.Machine
open Sys2Proof

/-! ### Register words and fields (R11 to R13) -/

/-- The mask of `len` bits from bit `lo`. -/
def fieldMask (lo len : Nat) : Word := ((BitVec.allOnes 32) >>> (32 - len)) <<< lo

/-- The value of the field of `len` bits at `lo`. -/
def getBits (w : Word) (lo len : Nat) : Nat := (w.extractLsb' lo len).toNat

/-- The word with the field of `len` bits at `lo` set to the low bits of `v`. -/
def putBits (w : Word) (lo len v : Nat) : Word :=
  (w &&& ~~~(fieldMask lo len)) ||| ((BitVec.ofNat 32 v <<< lo) &&& fieldMask lo len)

/-- The offset of instance `i`. -/
def Reg.at (r : Reg) (i : Nat) : Nat := r.off + r.stride * i

/-- The word of a register instance. -/
def State.rd (s : State) (r : Reg) (i : Nat := 0) : Word := Tab.get (r.rst i) s.regs (r.at i)

/-- Write the word of a register instance. -/
def State.wr (s : State) (r : Reg) (i : Nat) (w : Word) : State :=
  { s with regs := Tab.set (r.rst i) s.regs (r.at i) w }

/-- The value of a field. -/
def State.f (s : State) (x : Fld) (i : Nat := 0) : Nat := getBits (s.rd x.reg i) x.lo x.len

/-- A one-bit field as a Bool. -/
def State.on (s : State) (x : Fld) (i : Nat := 0) : Bool := s.f x i == 1

/-- Set a field. -/
def State.setf (s : State) (x : Fld) (i : Nat) (v : Nat) : State :=
  s.wr x.reg i (putBits (s.rd x.reg i) x.lo x.len v)

/-- Set a one-bit field from a Bool. -/
def State.setb (s : State) (x : Fld) (i : Nat) (b : Bool) : State := s.setf x i (if b then 1 else 0)

/-- Add to a wrapping field. -/
def State.incf (s : State) (x : Fld) (i : Nat) (v : Nat := 1) : State := s.setf x i (s.f x i + v)

/-- Add to a saturating field. -/
def State.satf (s : State) (x : Fld) (i : Nat) (v : Nat := 1) : State :=
  s.setf x i (min (s.f x i + v) (2 ^ x.len - 1))

/-- A field that is one bit of a bitmap. -/
def State.bitf (s : State) (x : Fld) (i k : Nat) : Bool := (s.f x i).testBit k

/-- A number with bit `k` set or cleared. -/
def setBit (v k : Nat) (b : Bool) : Nat :=
  if b then v ||| (1 <<< k) else if v.testBit k then v - (1 <<< k) else v

/-- Set bit `k` of a bitmap field. -/
def State.setBitf (s : State) (x : Fld) (i k : Nat) (b : Bool) : State := s.setf x i (setBit (s.f x i) k b)

/-- A value read as a signed number of `len` bits. -/
def toSigned (len v : Nat) : Int := if v < 2 ^ (len - 1) then v else (v : Int) - 2 ^ len

/-- A signed field. -/
def State.fi (s : State) (x : Fld) (i : Nat := 0) : Int := toSigned x.len (s.f x i)

/-- The two's-complement code of a signed number in `len` bits. -/
def ofSigned (len : Nat) (v : Int) : Nat := (v % (2 ^ len : Int)).toNat

/-- Set a signed field, wrapping. -/
def State.setfi (s : State) (x : Fld) (i : Nat) (v : Int) : State := s.setf x i (ofSigned x.len v)

/-- The nearest value of the range `[lo, hi]`. -/
def clampInt (lo hi v : Int) : Int := if v < lo then lo else if hi < v then hi else v

/-- A signed number saturated to `len` bits (R6). -/
def satSigned (len : Nat) (v : Int) : Int := clampInt (-(2 ^ (len - 1))) (2 ^ (len - 1) - 1) v

/-- Set a signed field, saturating (R6). -/
def State.setfiSat (s : State) (x : Fld) (i : Nat) (v : Int) : State := s.setfi x i (satSigned x.len v)

/-- Set an unsigned field, saturating (R6). -/
def State.setfSat (s : State) (x : Fld) (i : Nat) (v : Nat) : State := s.setf x i (min v (2 ^ x.len - 1))

/-- A 64-bit quantity held in two registers (R18). -/
def State.pair (s : State) (lo hi : Reg) (i : Nat := 0) : Nat := (s.rd hi i).toNat * 2 ^ 32 + (s.rd lo i).toNat

/-- Write a 64-bit quantity, modulo 2^64 (R7). -/
def State.setPair (s : State) (lo hi : Reg) (i : Nat) (v : Nat) : State :=
  (s.wr lo i (BitVec.ofNat 32 v)).wr hi i (BitVec.ofNat 32 (v / 2 ^ 32))

/-- Return a register instance to its reset value. -/
def State.clr (s : State) (r : Reg) (i : Nat) : State := s.wr r i (r.rst i)

/-- Return a register and all its instances to reset (R19). -/
def State.clrAll (s : State) (r : Reg) : State :=
  { s with regs := s.regs.filter (fun e =>
      !(decide (r.off ≤ e.1) && (e.1 - r.off) % r.stride == 0 && decide ((e.1 - r.off) / r.stride < r.count))) }

/-- Return every register of a list to reset. -/
def State.clrRegs (s : State) (l : List Reg) : State := l.foldl State.clrAll s

/-! ### Rounding (R8) -/

/-- `a / b` rounded to the nearest integer, ties to even (R8), for `b > 0`. -/
def divNearest (a : Int) (b : Nat) : Int :=
  let q := a / (b : Int)
  let r := a % (b : Int)
  if 2 * r < b then q else if 2 * r > b then q + 1 else if q % 2 = 0 then q else q + 1

/-- `a / b` rounded up, for naturals. -/
def divUp (a b : Nat) : Nat := (a + b - 1) / b

/-- `a / b` rounded towards zero. -/
def divTrunc (a : Int) (b : Nat) : Int := if 0 ≤ a then a / b else -((-a) / b)

/-! ### Free values (log entry 2) -/

/-- The next free value of `w` bits. -/
def State.freeVal (s : State) (w : Nat) : BitVec w := Config.freeBits w s.free

/-- The state after taking a free value. -/
def State.usedFree (s : State) : State := { s with free := s.free + 1 }

/-! ### Presence (R2) -/

/-- A domain ID that the configuration has (R326). -/
def domainPresent (d : Nat) : Bool :=
  decide (d < Config.coreCount)
  || (decide (0x400 ≤ d) && decide (d < 0x400 + Config.clusterCount))
  || (decide (0x440 ≤ d) && decide (d < 0x450))
  || (decide (0x450 ≤ d) && decide (d < 0x450 + Config.edgeStacks))
  || (decide (0x458 ≤ d) && decide (d < 0x462))
  || (decide (d = 0x462) && Config.laceEnable)
  || decide (d = 0x463) || decide (d = 0x464)
  || (decide (0x468 ≤ d) && decide (d < 0x468 + Config.railCount))

/-- Instance `i` of a register is present (R2, R53). -/
def presentIdx (p : Presence) (i : Nat) : Bool :=
  match p with
  | .all => true
  | .core => decide (i < Config.coreCount)
  | .cluster => decide (i < Config.clusterCount)
  | .phase => decide (i < Config.phaseCount)
  | .rail => decide (i < Config.railCount)
  | .edge => decide (i < Config.edgeStacks)
  | .lace => Config.laceEnable
  | .domain => domainPresent i

/-! ### Time (R33 to R40) -/

/-- The count has started (R36). -/
def State.started (s : State) : Bool := s.on F.TIME_STATUS_STARTED

/-- The time-stamp of an event now: the count, or the boot count before the start (R36, R37). -/
def State.now (s : State) : Word64 := if s.started then s.time.count else s.time.boot

/-- ns since a stamp, across the wrap of R7. -/
def State.since (s : State) (t : Word64) : Nat := (s.now - t).toNat

/-- `d` ns or more have passed since `t`. -/
def State.passed (s : State) (t : Word64) (d : Nat) : Bool := decide (d ≤ s.since t)

/-- The key of a periodic action: its kind and its instance. -/
def servedKey (kind i : Nat) : Nat := kind * 65536 + i

/-- The count stands at a boundary of `period` ns, `phase` after its multiples, that the action has not served
(R574: boundaries are multiples of the count). -/
def State.due (s : State) (kind i period phase : Nat) : Bool :=
  s.started && decide (s.time.count.toNat % period = phase)
    && decide (Tab.get 0 s.served (servedKey kind i) ≠ s.time.count.toNat + 1)

/-- The periodic action has served this boundary. -/
def State.serve (s : State) (kind i : Nat) : State :=
  { s with served := Tab.set 0 s.served (servedKey kind i) (s.time.count.toNat + 1) }

/-! ### Islands (R22) -/

/-- The base-die supplies are in range (R538, R541). -/
def State.vgov (s : State) : Bool := s.on F.GOV_BOOT_VGOV_OK

/-- The compute-die parts operate: no die reset is held. -/
def State.dieUp (s : State) : Bool := !s.rst.die

/-- The key of an island: its number in the order of R22 and its instance. -/
def islandKey (i unit : Nat) : Nat := i * 65536 + unit

/-- An island's record. -/
def State.island (s : State) (i unit : Nat) : IslandSt := Tab.get {} s.islands (islandKey i unit)

/-- The key of a seam: source, destination and instance. -/
def seamKey (src dst unit : Nat) : Nat := (dst * 65536 + unit) * 8 + src

/-- A seam's record. -/
def State.seam (s : State) (k : Nat) : SeamSt := Tab.get {} s.seams k

/-- The oldest word of a seam can be taken: none of its words waits for a resend (R27, R28). -/
def State.seamFree (s : State) (src dst unit : Nat) : Bool := (s.seam (seamKey src dst unit)).retry.isNone

/-! ### Byte memories in canonical form -/

/-- The byte at an address; an unlisted address reads 0. -/
def memByte (m : List Host.Cell) (a : Nat) : Byte := Tab.get 0 m a

/-- Write one byte. -/
def memPut (m : List Host.Cell) (a : Nat) (b : Byte) : List Host.Cell := Tab.set 0 m a b

/-- `n` bytes from an address. -/
def memBytes (m : List Host.Cell) (a n : Nat) : List Byte := (List.range n).map (fun i => memByte m (a + i))

/-- Write consecutive bytes. -/
def memWrite (m : List Host.Cell) (a : Nat) (l : List Byte) : List Host.Cell :=
  match l with
  | [] => m
  | b :: r => memWrite (memPut m a b) (a + 1) r

/-- The number of a little-endian byte list (R9). -/
def leNat (l : List Byte) : Nat := l.foldr (fun b n => b.toNat + 256 * n) 0

/-- `n` little-endian bytes of a number (R9). -/
def leBytes (n v : Nat) : List Byte :=
  match n with
  | 0 => []
  | k + 1 => BitVec.ofNat 8 v :: leBytes k (v / 256)

/-- Bytes `a` to `a + n - 1` of a list, 0 beyond its end. -/
def bytesAt (l : List Byte) (a n : Nat) : List Byte := (List.range n).map (fun i => l.getD (a + i) 0)

/-- A little-endian number inside a byte list. -/
def leAt (l : List Byte) (a n : Nat) : Nat := leNat (bytesAt l a n)

/-- One bit step of the reflected CRC-32C (R10). -/
def crcBit (c : BitVec 32) : BitVec 32 := if c.getLsbD 0 then (c >>> 1) ^^^ 0x82F63B78 else c >>> 1

/-- One byte of the CRC. -/
def crcByte (c : BitVec 32) (b : Byte) : BitVec 32 :=
  let x := c ^^^ b.setWidth 32
  crcBit (crcBit (crcBit (crcBit (crcBit (crcBit (crcBit (crcBit x)))))))

/-- CRC-32C of a byte list (R10). -/
def crc32c (l : List Byte) : BitVec 32 := (l.foldl crcByte 0xFFFFFFFF) ^^^ 0xFFFFFFFF

/-! ### The event log and the hang rings (R510 to R514) -/

/-- Write an event-log entry with a given stamp (R513). -/
def State.logAt (s : State) (t : Word64) (code unit : Nat) (arg : Word) : State :=
  let e : LogEnt := { t := t, code := code, restored := false, unit := unit % 2 ^ 15, arg := arg }
  let n := s.pair R.LOG_COUNT_LO R.LOG_COUNT_HI
  let s := s.setPair R.LOG_COUNT_LO R.LOG_COUNT_HI 0 (n + 1)
  let s := if 8192 ≤ s.trc.log.length then s.setf F.LOG_HEAD_WRAPPED 0 1 else s
  let s := s.setf F.LOG_HEAD_NEWEST 0 n
  { s with trc := { s.trc with log := (e :: s.trc.log).take 8192 } }

/-- Write an event-log entry now. -/
def State.log (s : State) (code unit : Nat) (arg : Nat) : State :=
  s.logAt s.now code unit (BitVec.ofNat 32 arg)

/-- Write a hang-ring entry (R511, R512). -/
def State.hangAt (s : State) (t : Word64) (ring code arg : Nat) : State :=
  let e : HangEnt := { t := t, code := code, arg := arg % 256 }
  { s with trc := { s.trc with
      hang := Tab.set [] s.trc.hang ring ((e :: Tab.get [] s.trc.hang ring).take 32),
      hangN := Tab.set 0 s.trc.hangN ring (Tab.get 0 s.trc.hangN ring + 1) } }

/-- Write a hang-ring entry now. -/
def State.hang (s : State) (ring code arg : Nat) : State := s.hangAt s.now ring code arg

/-! ### Notices (R375, R376) -/

/-- The channel on which notices are posted: NOTICE_CH, values above 7 acting as 0. -/
def State.noticeCh (s : State) : Nat :=
  let c := s.f F.EYE_CTRL_NOTICE_CH
  if c ≤ 7 then c else 0

/-- A channel's state. -/
def State.chan (s : State) (c : Nat) : ChanSt := Tab.get {} s.eye.chans c

/-- Set a channel's state. -/
def State.setChan (s : State) (c : Nat) (x : ChanSt) : State :=
  { s with eye := { s.eye with chans := Tab.set {} s.eye.chans c x } }

/-- Put a word on a channel's queue and show its length (RSP_QUEUED). -/
def State.enqueue (s : State) (c : Nat) (q : QWord) : State :=
  let x := s.chan c
  let s := s.setChan c { x with queue := x.queue ++ [q] }
  s.setf F.EYEc_STATUS_RSP_QUEUED c (min (x.queue.length + 1) 31)

/-- The word of a notice (R375). -/
def noticeWord (kind subject : Nat) (arg : Word) : Word64 :=
  BitVec.ofNat 64 ((kind % 256) * 2 ^ 48 + (subject % 65536) * 2 ^ 32 + arg.toNat)

/-- The Lace island owns channel `c`: this governor is a member whose RELAY_EN is 1, and `c` is RELAY_CH (R430, R431).
Values of RELAY_CH above 7 act as 7. -/
def State.relayOwns (s : State) (c : Nat) : Bool :=
  s.on F.LACE_CTRL_EN && s.on F.LACE_CTRL_RELAY_EN && s.on F.LACE_ID_MEMBER && !s.on F.LACE_ID_IS_HEAD
    && min (s.f F.LACE_CTRL_RELAY_CH) 7 == c

/-- Produce a notice: queue it and log it; drop it when 256 are queued (R376) or when its channel is the relay's (R431). -/
def State.notice (s : State) (kind subject : Nat) (arg : Nat) : State :=
  if s.relayOwns s.noticeCh then s.incf F.EYE_NOTICE_LOST 0
  else if 256 ≤ s.f F.EYE_NOTICE_QUEUED then
    let s := s.incf F.EYE_NOTICE_LOST 0
    { s with eye := { s.eye with fw := { s.eye.fw with lostPending := s.eye.fw.lostPending + 1 } } }
  else
    let w := BitVec.ofNat 32 arg
    let s := s.log (0x6000 + kind) subject arg
    let s := s.incf F.EYE_NOTICE_QUEUED 0
    s.enqueue s.noticeCh { word := noticeWord kind subject w, notice := true }

/-! ### Fault events (R437, R438) -/

/-- Rows that the table of R442 assigns. -/
def faultRowUsed (r : Nat) : Bool :=
  decide (r ≤ 0x12) || (decide (0x20 ≤ r) && decide (r ≤ 0x2E)) || (decide (0x40 ≤ r) && decide (r ≤ 0x47))
  || (decide (0x50 ≤ r) && decide (r ≤ 0x53)) || decide (r = 0x60) || decide (r = 0x70) || decide (r = 0x71)

/-- Level rows of R442. -/
def faultRowLevel (r : Nat) : Bool :=
  decide (r = 0x00) || decide (r = 0x01) || decide (r = 0x0A) || decide (r = 0x12) || decide (r = 0x71)

/-- Add an event to those held on the seams: an event of the same row, unit and AWL flag joins the held one (R438). -/
def addFault (l : List FaultEv) (e : FaultEv) : List FaultEv :=
  match l with
  | [] => [e]
  | x :: r =>
    if x.row = e.row ∧ x.unit = e.unit ∧ x.awl = e.awl then { x with mult := x.mult + e.mult } :: r
    else x :: addFault r e

/-- Safe state is active (R446). -/
def State.safe (s : State) : Bool := s.on F.FLT_STATUS_SAFE

/-- A supply-sag save is active (R453). -/
def State.sag (s : State) : Bool := s.on F.FLT_STATUS_SAG_ACTIVE

/-! ### Journal entries (R390 to R392) -/

/-- The open entry in a journal slot. -/
def State.jent? (s : State) (slot : Nat) : Option JEnt := s.eye.journal.find? (fun e => e.slot = slot)

/-- Change the entry of a slot. -/
def State.jmod (s : State) (slot : Nat) (g : JEnt → JEnt) : State :=
  { s with eye := { s.eye with journal := s.eye.journal.map (fun e => if e.slot = slot then g e else e) } }

/-- Change the firmware state. -/
def State.setFw (s : State) (x : FwSt) : State := { s with eye := { s.eye with fw := x } }

/-- The firmware's state changed: GEN of the census counts it (R401). -/
def State.fwChanged (s : State) : State := s.incf F.EYE_CENSUS_GEN 0

/-! ### Telemetry windows (R531) -/

/-- Bring a telemetry record to `now`: close every 1 ms window that has ended. -/
def Tele.upto (x : Tele) (now : Nat) : Tele :=
  if now < x.since then { x with since := now, acc := 0, start := now }
  else
    let w := 1000000
    if now / w = x.since / w then { x with since := now, acc := x.acc + x.cur * (now - x.since) }
    else
      let edge := (x.since / w + 1) * w
      let first := x.acc + x.cur * (edge - x.since)
      let one := decide (now / w = x.since / w + 1)
      { x with since := now, acc := x.cur * (now % w), last := if one then first else x.cur * w,
               lastLen := if one then edge - x.start else w, atEnd := x.cur, start := now / w * w }

/-- A step of the count from the record's time to `new`: the boundaries inside it are jumped over, so the window in
progress goes on, and ends at once where `new` is a boundary (R574). -/
def Tele.jump (x : Tele) (new : Nat) : Tele :=
  let acc := x.acc + x.cur * (new - x.since)
  if new % 1000000 = 0 ∧ x.since < new then
    { x with since := new, acc := 0, last := acc, lastLen := new - x.start, atEnd := x.cur, start := new }
  else { x with since := new, acc := acc }

/-- Note a new value of the telemetry quantity `key`. -/
def State.telem (s : State) (key : Nat) (v : Int) : State :=
  let x := (Tab.get {} s.tele key).upto s.now.toNat
  { s with tele := Tab.set {} s.tele key { x with cur := v } }

/-- The telemetry record of `key` at this time. -/
def State.teleNow (s : State) (key : Nat) : Tele := (Tab.get {} s.tele key).upto s.now.toNat

end Sys2Proof.Machine
end

