-- ==== Sys2Proof/Machine/InsoleOps.lean ====
section
/-! DEFINITION. Tiles of the Insole (R345 to R350): their bytes, their verification, free tiles, and the writing of
tiles whose place the governor chooses. -/
namespace Sys2Proof.Machine
open Sys2Proof

/-- Byte `k` of a free tile (R345, R346): MAGIC, TYPE 0, OWNER none and the CRC; every other byte 0 (log entry 23). -/
def freeByte (k : Nat) : Byte :=
  match k with
  | 0 => 0x4B | 1 => 0x5A | 4 => 0xFF | 5 => 0x07
  | 252 => 0x9D | 253 => 0x8B | 254 => 0xDE | 255 => 0x24
  | _ => 0

/-- The Insole's byte at key 256 * tile address + byte. -/
def insByte (m : List Host.Cell) (a : Nat) : Byte := Tab.get (freeByte (a % 256)) m a

/-- Write one byte of the Insole. -/
def insPut (m : List Host.Cell) (a : Nat) (b : Byte) : List Host.Cell := Tab.set (freeByte (a % 256)) m a b

/-- Write consecutive bytes. -/
def insWrite (m : List Host.Cell) (a : Nat) (l : List Byte) : List Host.Cell :=
  match l with
  | [] => m
  | b :: r => insWrite (insPut m a b) (a + 1) r

/-- The 256 bytes of the tile at an address. -/
def insTile (m : List Host.Cell) (t : Nat) : List Byte := (List.range 256).map (fun i => insByte m (256 * t + i))

/-- A tile (R345): type, flags, owner, index, generation and payload. -/
def buildTile (typ flags owner index gen : Nat) (payload : List Byte) : List Byte :=
  let p := payload.take 236
  let head := leBytes 2 0x5A4B ++ leBytes 1 typ ++ leBytes 1 flags ++ leBytes 2 owner ++ leBytes 2 index
    ++ leBytes 4 gen ++ leBytes 2 p.length ++ leBytes 2 0
  let body := head ++ bytesAt p 0 236
  body ++ leBytes 4 (crc32c body).toNat

/-- Fields of a tile (R345). -/
def tileMagic (t : List Byte) : Nat := leAt t 0 2
def tileType (t : List Byte) : Nat := leAt t 2 1
def tileFlags (t : List Byte) : Nat := leAt t 3 1
def tileOwner (t : List Byte) : Nat := leAt t 4 2
def tileIndex (t : List Byte) : Nat := leAt t 6 2
def tileGen (t : List Byte) : Nat := leAt t 8 4
def tileLen (t : List Byte) : Nat := leAt t 12 2
/-- `n` payload bytes from payload byte `i` as a number. -/
def tilePay (t : List Byte) (i n : Nat) : Nat := leAt t (16 + i) n
/-- The payload bytes in use. -/
def tilePayload (t : List Byte) : List Byte := bytesAt t 16 (min (tileLen t) 236)

/-- The CRC of a tile is right and its MAGIC is as expected (R345, R353). -/
def tileSound (t : List Byte) : Bool :=
  tileMagic t == 0x5A4B && (crc32c (t.take 252)).toNat == leAt t 252 4

/-- The same tile with other flags and a new CRC. -/
def reflag (t : List Byte) (flags : Nat) : List Byte :=
  let body := (t.take 252).set 3 (BitVec.ofNat 8 flags)
  body ++ leBytes 4 (crc32c body).toNat

/-- The same tile with `n` payload bytes from `i` replaced and a new CRC. -/
def repay (t : List Byte) (i : Nat) (l : List Byte) : List Byte :=
  let body := t.take (16 + i) ++ l ++ (t.take 252).drop (16 + i + l.length)
  body ++ leBytes 4 (crc32c body).toNat

/-- The canary tile (R347). -/
def canaryTile : List Byte :=
  buildTile 3 0 0x7FF 0 0 ((List.range 236).map (fun i => 0x5A ^^^ BitVec.ofNat 8 i))

/-- Tiles 0 and 255 of a bank are canaries (R347). -/
def isCanary (t : Nat) : Bool := t % 256 == 0 || t % 256 == 255

/-- The bank of a tile address. -/
def bankOf (t : Nat) : Nat := t / 256

/-- A bank is fenced (R356). -/
def State.bankFenced (s : State) (b : Nat) : Bool := s.on F.PWRBb_STATUS_FENCED b

/-- The TYPE of the tile at an address. -/
def State.tileTypeAt (s : State) (t : Nat) : Nat := (insByte s.pwr.insole (256 * t + 2)).toNat

/-- Tiles of each copy of an object of the firmware: the journal 74 (R390), the census state up to 139 (eight parts of
4,096 B, R401), a page 18 (R369). -/
def fwSize (o : Nat) : Nat := if o = 0 then 74 else if o = 1 then 139 else 18

/-- The object of the firmware, its copy and its tile that stand at an address. -/
def State.fwObjAt (s : State) (t : Nat) : Option (Nat × Nat × Nat) :=
  (s.pwr.fwTiles.find? (fun (e : Nat × Nat) => decide (e.2 ≤ t) && decide (t < e.2 + fwSize (e.1 / 2)))).map
    (fun e => (e.1 / 2, e.1 % 2, t - e.2))

/-- The tile at an address is free. -/
def State.tileFree (s : State) (t : Nat) : Bool :=
  !isCanary t && !s.bankFenced (bankOf t) && s.tileTypeAt t == 0 && (s.fwObjAt t).isNone

/-- The tile at an address holds trace metadata (R346). -/
def State.tileTrace (s : State) (t : Nat) : Bool :=
  !isCanary t && !s.bankFenced (bankOf t) && decide (0x50 ≤ s.tileTypeAt t) && decide (s.tileTypeAt t ≤ 0x5F)

/-- Put the bytes of a tile. -/
def State.putTile (s : State) (t : Nat) (l : List Byte) : State :=
  { s with pwr := { s.pwr with insole := insWrite s.pwr.insole (256 * t) l } }

/-- Free a tile. -/
def State.freeTile (s : State) (t : Nat) : State :=
  { s with pwr := { s.pwr with insole := s.pwr.insole.filter (fun e => !(e.1 / 256 == t)) } }

/-- Write a tile of the governor's own choice of place: the free tile of the lowest address (log entry 24). -/
def State.placeTile (s : State) (l : List Byte) : State :=
  match (List.range 2048).find? (fun t => s.tileFree t) with
  | none => s
  | some t => s.putTile t l

/-- Replace the payload bytes of the placed tile of a type and index. -/
def State.patchTile (s : State) (typ index i : Nat) (l : List Byte) : State :=
  match (List.range 2048).find? (fun t => !isCanary t && s.tileTypeAt t == typ
      && (tileIndex (insTile s.pwr.insole t)) == index) with
  | none => s
  | some t => s.putTile t (repay (insTile s.pwr.insole t) i l)

/-- Free the placed tiles of a type that satisfy a condition on their INDEX. -/
def State.freeTiles (s : State) (typ : Nat) (ok : Nat → Bool) : State :=
  (List.range 2048).foldl (fun s t =>
    if !isCanary t && s.tileTypeAt t == typ && ok (tileIndex (insTile s.pwr.insole t)) then s.freeTile t else s) s

end Sys2Proof.Machine
end

