-- ==== Sys2Proof/Machine/TraceOps.lean ====
section
/-! DEFINITION. Trace records, the buffer writer, protected regions, pressure and triggers (R494 to R505), and the
toe-cap clamp line (R94), which every chapter uses. -/
namespace Sys2Proof.Machine
open Sys2Proof

/-- Positions of the trace buffer: 2 MiB of 16 B (R494). -/
def trcSize : Nat := 131072

/-- The state of a trace source; 15 is the system source. -/
def State.src (s : State) (k : Nat) : SrcSt := Tab.get {} s.trc.srcs k

/-- Set the state of a trace source. -/
def State.setSrc (s : State) (k : Nat) (x : SrcSt) : State :=
  { s with trc := { s.trc with srcs := Tab.set {} s.trc.srcs k x } }

/-- Trace is recording (RUN, the trace island ON). -/
def State.tracing (s : State) : Bool := s.on F.TRC_CTRL_RUN && s.f F.PWRd_STATUS_STEP 0x463 == 0

/-- A region contains a position. -/
def Region.has (r : Region) (p : Nat) : Bool := decide ((p + trcSize - r.start) % trcSize < r.len)

/-- A position lies in a region that is complete or not the active one. -/
def State.protectedAt (s : State) (p : Nat) : Bool := s.trc.regions.any (fun r => !r.active && r.has p)

/-- The first position from `p` outside the regions that are not active (R499). -/
def skipRegions (l : List Region) (fuel p : Nat) : Nat :=
  match fuel with
  | 0 => p
  | n + 1 =>
    match l.find? (fun r => !r.active && r.has p) with
    | none => p
    | some r => skipRegions l n ((r.start + r.len) % trcSize)

/-- Positions the regions hold. -/
def protectedTotal (l : List Region) : Nat := (l.map (·.len)).sum

/-- The free space F (R499). -/
def State.trcFree (s : State) : Nat :=
  trcSize - protectedTotal s.trc.regions
    - (s.trc.unsent.filter (fun p => !s.trc.regions.any (fun r => r.has p))).length

/-- The threshold below which a pressure level is entered (R504). -/
def pressureBelow (l : Nat) : Nat :=
  match l with
  | 0 => 131073 | 1 => 65536 | 2 => 32768 | 3 => 16384 | 4 => 8192 | _ => 4096

/-- Leave levels while F is at or above their threshold plus 4,096 (R504). -/
def pressureLeave (free l : Nat) : Nat :=
  match l with
  | 0 => 0
  | n + 1 => if pressureBelow (n + 1) + 4096 ≤ free then pressureLeave free n else n + 1

/-- The highest level whose threshold F is below. -/
def pressureEnter (free : Nat) : Nat :=
  ((List.range 6).filter (fun l => decide (free < pressureBelow l))).foldl max 0

/-- Evaluate F and the pressure level (R504). -/
def State.trcPressure (s : State) : State :=
  let free := s.trcFree
  let s := s.setf F.TRC_STATUS_FREE 0 free
  let up := pressureEnter free
  let cur := s.f F.TRC_STATUS_LEVEL
  s.setf F.TRC_STATUS_LEVEL 0 (if cur ≤ up then up else max up (pressureLeave free cur))

/-- The decimation step of a pressure level (R504). -/
def pressureStep (l : Nat) : Nat := [0, 1, 2, 2, 3, 3].getD l 3

/-- A source of this priority is dropped at this level (R504). -/
def pressureDrops (l prio : Nat) : Bool :=
  match l with
  | 0 => false | 1 => false
  | 2 => decide (prio = 0)
  | 3 => decide (prio ≤ 2)
  | 4 => decide (prio ≤ 4)
  | _ => decide (prio ≤ 6)

/-- Write one position at `p` (R499, R501). -/
def State.putPos (s : State) (p : Nat) (v : BitVec 128) : State :=
  let regs := s.trc.regions.map (fun r => if r.active then { r with left := r.left - 1 } else r)
  let s := { s with trc := { s.trc with
    buf := Tab.set 0 s.trc.buf p v,
    regions := regs,
    unsent := if s.trc.stream then s.trc.unsent ++ [p] else s.trc.unsent } }
  let s := if p + 1 = trcSize then s.setf F.TRC_WRPTR_WRAPPED 0 1 else s
  (s.setf F.TRC_WRPTR_NEXT 0 ((p + 1) % trcSize)).trcPressure

/-- A record's first position as it is written: with PROT in a protected region (R494). -/
def State.protMark (s : State) (v : BitVec 128) : BitVec 128 :=
  if s.trc.regions.any (fun r => r.active && decide (0 < r.left)) then v ||| (1#128 <<< 78) else v

/-- The writer reaches another protected region: the active region's post part stops early (R501). -/
def State.stopPost (s : State) : State :=
  { s with trc := { s.trc with regions := s.trc.regions.map (fun r =>
      if r.active then { r with len := r.len - r.left, left := 0 } else r) } }

/-- Where the next position will be written. -/
def State.trcAt (s : State) : Nat := skipRegions s.trc.regions 9 (s.f F.TRC_WRPTR_NEXT)

/-- Move the writer over protected regions. -/
def State.trcSeek (s : State) : State :=
  let p := s.trcAt
  if p = s.f F.TRC_WRPTR_NEXT then s
  else
    let s := s.stopPost
    let s := if p < s.f F.TRC_WRPTR_NEXT then s.setf F.TRC_WRPTR_WRAPPED 0 1 else s
    s.setf F.TRC_WRPTR_NEXT 0 p

/-- The position can be written: in STREAM mode only when it is not unsent (R499). -/
def State.trcCan (s : State) (p : Nat) : Bool := !(s.trc.stream && s.trc.unsent.contains p)

/-- The first word of a record (R494). -/
def recWord (t : Word64) (src typ prio : Nat) (long : Bool) (idx value : Nat) : BitVec 128 :=
  BitVec.ofNat 128 (t.toNat + (src * 16 + typ) * 2 ^ 64 + (prio + (if long then 128 else 0)) * 2 ^ 72
    + (idx % 65536) * 2 ^ 80 + (value % 2 ^ 32) * 2 ^ 96)

/-- Write a record of one or two positions; a long one never straddles the end or a region: PAD goes before it. -/
def State.putRec (s : State) (r : TraceRec) : Option State :=
  let s := s.trcSeek
  let p := s.f F.TRC_WRPTR_NEXT
  match r with
  | [] => some s
  | [v] => if s.trcCan p then some (s.putPos p (s.protMark v)) else none
  | v :: e :: _ =>
    let s? := if p + 1 = trcSize ∨ s.protectedAt (p + 1) then
        (if s.trcCan p then some ((s.putPos p (s.protMark (recWord s.now 15 0 7 false 0 0))).trcSeek) else none)
      else some s
    match s? with
    | none => none
    | some s =>
      let p := s.f F.TRC_WRPTR_NEXT
      if s.trcCan p && s.trcCan (p + 1) then some ((s.putPos p (s.protMark v)).putPos (p + 1) e) else none

/-- Build a record. -/
def mkRec (t : Word64) (src typ prio idx value : Nat) (ext : Option Nat) : TraceRec :=
  match ext with
  | none => [recWord t src typ prio false idx value]
  | some e => [recWord t src typ prio true idx value, BitVec.ofNat 128 e]

/-- Queue a system record: never decimated, never dropped (R496). -/
def State.sysRec (s : State) (typ idx value : Nat) (ext : Option Nat) : State :=
  if s.tracing then
    let x := s.src 15
    let s := s.setSrc 15 { x with queue := x.queue ++ [mkRec s.now 15 typ 7 idx value ext] }
    if typ = 2 ∨ typ = 3 then s.incf F.TRC_COUNT_GAPS 0 else s
  else s

/-- The priority of a source; 7 acts as 6. -/
def State.srcPrio (s : State) (k : Nat) : Nat := min (s.f F.TRC_SRCs_CFG_PRIO k) 6

/-- Positions waiting in a queue. -/
def queuePositions (q : List TraceRec) : Nat := (q.map List.length).sum

/-- Note a drop or thinning of records (R505). -/
def SrcSt.noteDrop (x : SrcSt) (now : Word64) : SrcSt :=
  match x.firstDrop with
  | none => { x with firstDrop := some now, lastReport := if x.dropping then x.lastReport else now, dropping := true }
  | some _ => { x with dropping := true }

/-- Queue one record of a source, or drop it when 16 positions wait (R498). -/
def State.queueRec (s : State) (k : Nat) (r : TraceRec) : State :=
  let x := s.src k
  if queuePositions x.queue + r.length ≤ 16 then
    s.setSrc k { x with queue := x.queue ++ [r], dropping := x.dropping && s.f F.TRC_STATUS_LEVEL != 0 }
  else
    let n := s.pair R.TRC_DROP_LO R.TRC_DROP_HI
    (s.setSrc k { (x.noteDrop s.now) with dropped := x.dropped + 1 }).setPair R.TRC_DROP_LO R.TRC_DROP_HI 0 (n + 1)

/-- The number of the source's present instant. The rails' 1 µs values and the thermal channels' updates of one count are
the records of one instant (R497; DEDUCED, log entry 133). -/
def State.instantOf (s : State) (k : Nat) : Nat :=
  let x := s.src k
  if (k = 9 ∨ k = 10) ∧ x.lastAt = some s.now then x.instants - 1 else x.instants

/-- The records of one sample instant of a source (R497): decimated, thinned or dropped together. -/
def State.traceMany (s : State) (k : Nat) (recs : List (Nat × Nat × Nat × Option Nat)) : State :=
  if s.tracing && s.bitf F.TRC_SRC_MASK 0 k then
    let n := s.instantOf k
    let lvl := s.f F.TRC_STATUS_LEVEL
    let dec := s.f F.TRC_SRCs_CFG_DEC k
    let s := s.setSrc k { s.src k with instants := n + 1, lastAt := some s.now }
    if n % 2 ^ dec ≠ 0 then s
    else if pressureDrops lvl (s.srcPrio k) then
      let x := s.src k
      let d := s.pair R.TRC_DROP_LO R.TRC_DROP_HI
      (s.setSrc k { (x.noteDrop s.now) with dropped := x.dropped + recs.length }).setPair
        R.TRC_DROP_LO R.TRC_DROP_HI 0 (d + recs.length)
    else if n % 2 ^ (min (dec + pressureStep lvl) 15) ≠ 0 then
      let x := s.src k
      s.setSrc k { (x.noteDrop s.now) with thinned := x.thinned + recs.length }
    else recs.foldl (fun s r => s.queueRec k (mkRec s.now k r.1 (s.srcPrio k) r.2.1 r.2.2.1 r.2.2.2)) s
  else s

/-- One record of an event source. -/
def State.trace (s : State) (k typ idx value : Nat) (ext : Option Nat := none) : State :=
  s.traceMany k [(typ, idx, value, ext)]

/-- Show the regions in TRC_REGk and TRC_STATUS (R501). -/
def State.showRegions (s : State) : State :=
  let s := (List.range 8).foldl (fun s k =>
    match s.trc.regions.find? (fun r => r.k = k) with
    | none => (s.clr R.TRC_REGk_A k).clr R.TRC_REGk_B k
    | some r =>
      let s := ((s.setf F.TRC_REGk_A_VALID k 1).setb F.TRC_REGk_A_ACTIVE k r.active).setf F.TRC_REGk_A_START k r.start
      (s.setf F.TRC_REGk_B_NUMBER k r.number).setf F.TRC_REGk_B_LEN k (divUp r.len 16)) s
  s.setf F.TRC_STATUS_REGIONS 0 s.trc.regions.length

/-- The metadata tile of a region (R509). -/
def regionTile (r : Region) : List Byte :=
  buildTile 0x50 2 0x7FF r.number 0 (leBytes 2 r.number ++ leBytes 1 r.cause ++ leBytes 1 r.tag
    ++ leBytes 8 r.t.toNat ++ leBytes 4 r.start ++ leBytes 4 r.len)

/-- An active region whose post part is written is complete (R501); its metadata tile takes the length (R509). -/
def State.completeRegions (s : State) : State :=
  let s := (s.trc.regions.filter (fun (r : Region) => r.active && r.left == 0)).foldl
    (fun s r => s.patchTile 0x50 r.number 16 (leBytes 4 r.len)) s
  let s := { s with trc := { s.trc with regions := s.trc.regions.map (fun (r : Region) =>
      if r.active ∧ r.left = 0 then { r with active := false } else r) } }
  s.showRegions

/-- The pre and post parts of a region in positions. -/
def State.trcPre (s : State) : Nat := min (s.f F.TRC_REGION_PRE) 32 * 1024
def State.trcPost (s : State) : Nat := max 1 (min (s.f F.TRC_REGION_POST) 32) * 1024

/-- The pre part before position `p`: stops at an earlier region's end, and at what has been written (R501). -/
def State.preLen (s : State) (p : Nat) : Nat :=
  let lim := if s.on F.TRC_WRPTR_WRAPPED then s.trcPre else min s.trcPre p
  s.trc.regions.foldl (fun n r => min n ((p + trcSize - (r.start + r.len) % trcSize) % trcSize)) lim

/-- The lowest TRC_REGk not in use. -/
def freeRegion (l : List Region) : Nat :=
  ((List.range 8).find? (fun k => !l.any (fun r => r.k = k))).getD 8

/-- A trigger: its marker, and a protected region when the limits allow (R500 to R502). -/
def State.trigger (s : State) (cause bit tag : Nat) : State :=
  if s.tracing && s.bitf F.TRC_CTRL_TRIG_EN 0 bit then
    let s := s.completeRegions
    let s := s.incf F.TRC_COUNT_TRIGGERS 0
    let num := s.f F.TRC_COUNT_TRIGGERS
    let marker := fun (noReg : Bool) =>
      mkRec s.now 15 1 7 num (cause * 2 ^ 24 + (if noReg then 2 ^ 23 else 0) + tag % 256) none
    let put := fun (s : State) (r : TraceRec) => match s.putRec r with
      | some s => s
      | none => let x := s.src 15; s.setSrc 15 { x with queue := x.queue ++ [r] }
    if s.trc.regions.any (·.active) then put s (marker false)
    else if s.trc.regions.length < 8 ∧ protectedTotal s.trc.regions + s.trcPre + s.trcPost ≤ 98304 then
      let s := s.trcSeek
      let p := s.f F.TRC_WRPTR_NEXT
      let pre := s.preLen p
      let start := (p + trcSize - pre) % trcSize
      let r : Region := {
        k := freeRegion s.trc.regions, number := num, start := start,
        len := pre + s.trcPost, left := s.trcPost, active := true, cause := cause, tag := tag % 256, t := s.now }
      let s := ({ s with trc := { s.trc with regions := s.trc.regions ++ [r] } }).placeTile (regionTile r)
      (put s (marker false)).showRegions.trcPressure
    else put (s.setf F.TRC_STATUS_REGION_REFUSED 0 1) (marker true)
  else s

/-! ### The toe-cap clamp line (R94 to R97) -/

/-- The clamp line is asserted. -/
def State.clamped (s : State) : Bool := s.on F.CRD_CLAMP_STATUS_ACTIVE

/-- Some clamp source is asserted. -/
def State.clampAny (s : State) : Bool := s.crd.clampReq.any (fun e => e.2)

/-- A clamp source (bit of CRD_CLAMP_STATUS, unit) is asserted. -/
def State.clampSrc (s : State) (bit unit : Nat) : Bool := Tab.get false s.crd.clampReq (4096 * bit + unit)

/-- Every present station notes the clamp gate going on or off (R512). -/
def State.hangStations (s : State) (code : Nat) : State :=
  (List.range Config.coreCount).foldl (fun s n => s.hang n code 0) s

/-- A source asserts: the line rises, or the release hold restarts (R94, R96, R97). -/
def State.clampOn (s : State) (bit unit : Nat) : State :=
  let s := { s with crd := { s.crd with
    clampReq := Tab.set false s.crd.clampReq (4096 * bit + unit) true, clampOff := none } }
  let s := s.setBitf ⟨R.CRD_CLAMP_STATUS, 0, 6⟩ 0 bit true
  if s.clamped then s
  else
    let s := (s.setf F.CRD_CLAMP_STATUS_ACTIVE 0 1).incf F.CRD_CLAMP_COUNT_COUNT 0
    let s := { s with crd := { s.crd with gateGen := s.crd.gateGen + 1 } }
    let s := s.log 0x0101 0 (s.f ⟨R.CRD_CLAMP_STATUS, 0, 6⟩)
    (s.hangStations 0x02).trigger 0x03 2 0

/-- A source deasserts; when none is left the hold of R97 begins. -/
def State.clampOffSrc (s : State) (bit unit : Nat) : State :=
  if s.clampSrc bit unit then
    let s := { s with crd := { s.crd with clampReq := Tab.set false s.crd.clampReq (4096 * bit + unit) false } }
    if s.clampAny then s else { s with crd := { s.crd with clampOff := some s.now } }
  else s

/-- Put a source at a level. -/
def State.clampSet (s : State) (bit unit : Nat) (on : Bool) : State :=
  if on then (if s.clampSrc bit unit then s else s.clampOn bit unit) else s.clampOffSrc bit unit

/-! ### PMBus status latches (R519) -/

/-- Latch a status bit of a page: register 0 STATUS_VOUT, 1 STATUS_IOUT, 2 STATUS_TEMPERATURE. -/
def State.pmbLatch (s : State) (page reg bit : Nat) : State :=
  let x : PmbPage := Tab.get {} s.trc.pmb.pages page
  let x := match reg with
    | 0 => { x with vout := setBit x.vout bit true }
    | 1 => { x with iout := setBit x.iout bit true }
    | _ => { x with temp := setBit x.temp bit true }
  { s with trc := { s.trc with pmb := { s.trc.pmb with pages := Tab.set {} s.trc.pmb.pages page x } } }

/-! ### Fault events (R437, R438, R496, R513) -/

/-- Report a fault event: it is logged and traced, and held until the collector accepts it (R437, R438, R496, R513).
No rule gives the 32-bit argument a value for any row: it is a free value (log entry 2). -/
def State.faultA (s : State) (row unit : Nat) (awl : Bool) : State :=
  if faultRowUsed row then
    let arg : Word := s.freeVal 32
    let s := s.usedFree
    let e : FaultEv := { row := row, unit := unit % 2 ^ 15, arg := arg, t := s.now, awl := awl, mult := 1 }
    let s := { s with flt := { s.flt with pend := addFault s.flt.pend e } }
    let s := s.log ((if awl then 0x1100 else 0x1000) + row) unit arg.toNat
    s.sysRec 4 (row + if awl then 2 ^ 15 else 0) arg.toNat (some (unit % 2 ^ 15))
  else s

/-- Report a fault event that no injection caused. -/
def State.fault (s : State) (row unit : Nat) : State := s.faultA row unit false

end Sys2Proof.Machine
end

