-- ==== Sys2Proof/Machine/Access.lean ====
section
/-! DEFINITION. The CFG port's side of a register access: which request is answered with RSP_ERR (R530, R551, R564),
how a write reaches the fields (R13, R16, R17), and the response. -/
namespace Sys2Proof.Machine
open Sys2Proof

/-- Who writes a register. -/
inductive Writer where
  | cfg | firmware
  deriving DecidableEq, Repr

/-- A register by its offset, with the instance (R568); none for a reserved offset (R569). -/
def findReg (off : Nat) : Option (Reg × Nat) :=
  match (regsAt off).find? (fun r => decide (r.off ≤ off) && (off - r.off) % r.stride == 0
      && decide ((off - r.off) / r.stride < r.count)) with
  | none => none
  | some r => some (r, (off - r.off) / r.stride)

/-- The block of R564 whose registers are held from a warm reset until ADOPT. -/
def heldBlock (off : Nat) : Bool :=
  (decide (0x8000 ≤ off) && decide (off < 0x20000)) || (decide (0x50000 ≤ off) && decide (off < 0x60000))

/-- The hold of R564 is in force. -/
def State.holding (s : State) : Bool := !(s.f F.GOV_ADOPT_STATUS == 2)

/-- A domain's clocks run and its clamps are open: ON, DRAIN, SAVE or RELEASE (R333). -/
def State.domRuns (s : State) (d : Nat) : Bool :=
  let st := s.f F.PWRd_STATUS_STEP d
  decide (st ≤ 2) || decide (st = 0xB)

/-- The island of a register answers (R551). The PMBus target's registers lie outside the trace island (R22). -/
def State.answers (s : State) (off : Nat) (r : Reg) (i : Nat) : Bool :=
  if s.rst.cold then false
  else match r.dom with
  | .cold => true
  | _ =>
    s.vgov &&
    (if 0x10 ≤ off ∧ off < 0x1000 then true
     else if 0x78F00 ≤ off ∧ off < 0x78F08 then true
     else if 0x78000 ≤ off ∧ off < 0x7C000 then s.domRuns 0x463
     else if 0x7C000 ≤ off ∧ off < 0x7E000 then s.domRuns 0x462
     else if 0x60000 ≤ off ∧ off < 0x70000 then s.dieUp && s.domRuns 0x464
     else if (0xD200 ≤ off ∧ off < 0xF200) ∨ (0x11000 ≤ off ∧ off < 0x19000) then s.dieUp && s.domRuns i
     else if r.dom = .die then s.dieUp
     else true)

/-- A lock governs a writer's change of an RWL field (R526 to R529). -/
def State.locked (s : State) (by_ : Writer) (l : Lock) (lo : Nat) (w : Word) : Bool :=
  match l with
  | .volt => s.on F.GOV_LOCK_VOLT
  | .curr => s.on F.GOV_LOCK_CURR
  | .therm => s.on F.GOV_LOCK_THERM
  | .dieVolt => s.on F.GOV_LOCK_DIE_VOLT || (by_ == .cfg && s.on F.GOV_LOCK_VOLT)
  | .selfV | .selfC | .selfT | .selfD => w.getLsbD lo

/-- One field of a write: the new register word, and whether the change of a locked field was refused (R17). -/
def mergeField (s : State) (by_ : Writer) (new : Word) (acc : Word × Bool) (x : WField) : Word × Bool :=
  let len := x.hi + 1 - x.lo
  let v := getBits new x.lo len
  match x.acc with
  | .rw => (putBits acc.1 x.lo len v, acc.2)
  | .w1c => (acc.1 &&& ~~~(new &&& fieldMask x.lo len), acc.2)
  | .rwl l =>
    if v = getBits acc.1 x.lo len then acc
    else if s.locked by_ l x.lo acc.1 then (acc.1, true)
    else (putBits acc.1 x.lo len v, acc.2)

/-- What a write makes of a register word: every field under its access type, reserved and RO bits unchanged
(R13, R16, R17). -/
def merge (s : State) (by_ : Writer) (r : Reg) (i : Nat) (new : Word) : Word × Bool :=
  r.wf.foldl (mergeField s by_ new) (s.rd r i, false)

/-- A plain register write, and whether it draws an error response. -/
def writeReg (s : State) (by_ : Writer) (r : Reg) (i : Nat) (new : Word) : State × Bool :=
  let m := merge s by_ r i new
  (s.wr r i m.1, m.2)

/-- Write under an access rule that differs for some fields: only the listed fields are written. -/
def writeFields (s : State) (by_ : Writer) (r : Reg) (i : Nat) (fs : List WField) (new : Word) : State × Bool :=
  let m := fs.foldl (mergeField s by_ new) (s.rd r i, false)
  (s.wr r i m.1, m.2)

/-- The response of the CFG port. -/
def State.respond (s : State) (err : Bool) (data : Word64 := 0) : State := { s with rsp := { err := err, data := data } }

/-- A CFG write of register `r`, instance `i`: refused without privilege (R530), ignored when absent (R2), refused
while its island is stopped (R551) or held (R564), without effect while a warm reset holds the register (R19), else the
register's own write. -/
def State.cfgWrite (s : State) (priv : Bool) (r : Reg) (i : Nat) (h : State → State × Bool) : State :=
  if !priv then s.respond true
  else if !presentIdx r.pres i || !decide (i < r.count) then s.respond (s.rst.cold)
  else if !s.answers (r.at i) r i then s.respond true
  else if heldBlock (r.at i) && s.holding then s.respond true
  else if s.rst.warm && decide (r.dom ≠ .cold) then s.respond false
  else
    let q := h s
    q.1.respond q.2

/-! ### The Awl (R449, R450) -/

/-- An armed checker injects into its next check: kind 0 tile CRC, 1 parity, 2 lockstep, 3 seam code, and which unit. -/
def State.awlFires (s : State) (kind unit : Nat) : Bool :=
  let c := s.f F.FLT_AWL_CHECKER
  let mask := [8, 256, 2, 8].getD kind 1
  s.f F.FLT_AWL_STATUS == 1 && c / 4096 == kind && c % mask == unit

/-- An injected check: it is counted, and without REPEAT the checker is disarmed (R450). -/
def State.awlUsed (s : State) : State :=
  let s := s.incf F.FLT_AWL_COUNT_COUNT 0
  if s.on F.FLT_AWL_REPEAT then s else s.setf F.FLT_AWL_STATUS 0 2

end Sys2Proof.Machine
end

