-- ==== Sys2Proof/Machine/Insole.lean ====
section
/-! DEFINITION. The Insole's directory, save lists and data tiles, remapping, bank fences and recopies, save walks
and restore walks (R345 to R357). A failure of the memory itself comes in as a list `bad` of (tile address, number
of places in which the tile fails, its own place first and then its spares). -/
namespace Sys2Proof.Machine
open Sys2Proof

/-- Places of a tile that fail. -/
abbrev BadTiles := List (Nat × Nat)

/-- In how many places a tile fails. -/
def badCount (bad : BadTiles) (t : Nat) : Nat := ((bad.find? (fun e => e.1 = t)).map (·.2)).getD 0

/-- Every domain ID of the directory (R348). -/
def allDomains : List Nat := (List.range 0x470).filter domainPresent

/-! ### Spares (R355) -/

/-- The fields of spare `k`: USED, BAD and TILE. -/
def spareFlds (k : Nat) : Fld × Fld × Fld :=
  match k with
  | 0 => (F.PWRBb_MAP0_USED_LO, F.PWRBb_MAP0_BAD_LO, F.PWRBb_MAP0_TILE_LO)
  | 1 => (F.PWRBb_MAP0_USED_HI, F.PWRBb_MAP0_BAD_HI, F.PWRBb_MAP0_TILE_HI)
  | 2 => (F.PWRBb_MAP1_USED_LO, F.PWRBb_MAP1_BAD_LO, F.PWRBb_MAP1_TILE_LO)
  | _ => (F.PWRBb_MAP1_USED_HI, F.PWRBb_MAP1_BAD_HI, F.PWRBb_MAP1_TILE_HI)

def State.spareUsed (s : State) (b k : Nat) : Bool := s.on (spareFlds k).1 b
def State.spareBad (s : State) (b k : Nat) : Bool := s.on (spareFlds k).2.1 b
def State.spareTile (s : State) (b k : Nat) : Nat := s.f (spareFlds k).2.2 b

/-- The spare that holds a logical tile. -/
def State.spareOf (s : State) (t : Nat) : Option Nat :=
  (List.range 4).find? (fun k => s.spareUsed (bankOf t) k && !s.spareBad (bankOf t) k
    && s.spareTile (bankOf t) k == t % 256)

/-- A bank's next free spare. -/
def State.nextSpare (s : State) (b : Nat) : Option Nat :=
  (List.range 4).find? (fun k => !s.spareUsed b k && !s.spareBad b k)

/-- Show the number of free spares. -/
def State.showSpares (s : State) (b : Nat) : State :=
  s.setf F.PWRBb_STATUS_SPARES_FREE b ((List.range 4).filter (fun k => !s.spareUsed b k && !s.spareBad b k)).length

/-- Map a failing tile to the next free spare; false where none is free (R355). -/
def State.remapTile (s : State) (t : Nat) : State × Bool :=
  let b := bankOf t
  let s := match s.spareOf t with
    | some k => s.setb (spareFlds k).2.1 b true
    | none => s
  match s.nextSpare b with
  | none => (s.showSpares b, false)
  | some k =>
    let s := (s.setb (spareFlds k).1 b true).setf (spareFlds k).2.2 b (t % 256)
    ((((s.incf F.PWRBb_STATUS_REMAPS b).showSpares b).log 0x5101 b (t % 256)), true)

/-! ### The directory, the lists and the data pointers (R348 to R350) -/

/-- The tile at an address is usable and of a type: in a bank that is not fenced, sound, of that TYPE. -/
def State.tileOk (s : State) (t typ : Nat) : Bool :=
  decide (t < 2048) && !s.bankFenced (bankOf t) &&
    (let l := insTile s.pwr.insole t
     tileSound l && tileType l == typ)

/-- The first tile of directory copy `c`. -/
def State.dirBase (s : State) (c : Nat) : Nat := if c = 0 then s.f F.PWR_DIR_DIR_A else s.f F.PWR_DIR_DIR_B

/-- The directory is absent. -/
def State.dirAbsent (s : State) : Bool := s.dirBase 0 == 0x7FF && s.dirBase 1 == 0x7FF

/-- The directory tile of domain `d` in copy `c`; none where that copy is absent. -/
def State.dirTile (s : State) (c d : Nat) : Option Nat :=
  if s.dirBase c = 0x7FF then none else some (s.dirBase c + d / 29)

/-- Field `i` of a domain's entry in a directory tile: LIST_A, LIST_B, DATA_A, DATA_B. -/
def dirField (l : List Byte) (d i : Nat) : Nat := tilePay l (8 * (d % 29) + 2 * i) 2

/-- A domain's directory entry, from the first usable copy; none where no copy is usable. -/
def State.dirEntry (s : State) (d : Nat) : Option (Nat × Nat × Nat × Nat) :=
  let at_ := fun (c : Nat) => (s.dirTile c d).filter (fun t => s.tileOk t 4)
  match (at_ 0).orElse (fun _ => at_ 1) with
  | none => none
  | some t =>
    let l := insTile s.pwr.insole t
    some (dirField l d 0, dirField l d 1, dirField l d 2, dirField l d 3)

/-- Change field `i` of a domain's entry in both directory copies. -/
def State.dirSet (s : State) (d i v : Nat) : State :=
  [0, 1].foldl (fun s c => match (s.dirTile c d).filter (fun t => s.tileOk t 4) with
    | none => s
    | some t => s.putTile t (repay (insTile s.pwr.insole t) (8 * (d % 29) + 2 * i) (leBytes 2 v))) s

/-- The entries and the W of a save-list copy, from its first tile (R349); none where it is malformed or unusable. -/
def State.parseList (s : State) (fuel t : Nat) : Option (List (Nat × Nat)) :=
  match fuel with
  | 0 => none
  | k + 1 =>
    let l := insTile s.pwr.insole t
    let n := tilePay l 0 2
    if s.tileOk t 1 && decide (1 ≤ n) && decide (n ≤ 57) then
      let es := (List.range n).map (fun j =>
        let e := tilePay l (8 + 4 * j) 4
        (e / 256, e % 256 + 1))
      let nx := tilePay l 4 2
      if nx = 0xFFFF then some es else (s.parseList k nx).map (fun r => es ++ r)
    else none

/-- The tiles of the Insole, which bound every chain of tiles: a longer one comes back to a tile it has been at. -/
def listFuel : Nat := 2048

/-- A save list from its first usable copy: its entries and its W. -/
def State.saveList (s : State) (la lb : Nat) : Option (List (Nat × Nat) × Nat) :=
  let one := fun (t : Nat) => (s.parseList listFuel t).map (fun es => (es, tilePay (insTile s.pwr.insole t) 2 2))
  ((one la).orElse (fun _ => one lb)).filter (fun e =>
    decide (1 ≤ e.2) && decide (e.2 ≤ 1000) && (e.1.map (·.2)).sum == e.2)

/-- Parts of a data pointer (R350). -/
def ptrTile (p : Nat) : Nat := p % 2048
def ptrSlots (p : Nat) : Nat := p / 4096 % 4
def ptrSlot (p : Nat) : Nat := p / 16384
/-- Tiles a pointer's data occupy, for `w` words. -/
def ptrCount (p w : Nat) : Nat := if ptrSlots p = 0 then divUp w 59 else 1
/-- Words of a slot with its header. -/
def slotSize (p : Nat) : Nat := if ptrSlots p = 1 then 29 else 14
/-- A data pointer is well formed for `w` words. -/
def ptrOk (p w : Nat) : Bool :=
  match ptrSlots p with
  | 0 => decide (ptrTile p % 256 + ptrCount p w ≤ 256)
  | 1 => decide (w ≤ 28) && decide (ptrSlot p < 2)
  | 2 => decide (w ≤ 13)
  | _ => false

/-- What a domain saves: its list, the list pointers and the data pointers. -/
structure SavePlan where
  entries : List (Nat × Nat)
  w : Nat
  la : Nat
  lb : Nat
  da : Nat
  db : Nat

/-- The save plan of a domain: `none` where its entry or list is malformed, `some none` for an empty list (R348 to R350,
R352). -/
def State.savePlan (s : State) (d : Nat) : Option (Option SavePlan) :=
  if s.dirAbsent then some none
  else match s.dirEntry d with
  | none => none
  | some (la, lb, da, db) =>
    if la = 0xFFFF ∧ lb = 0xFFFF then some none
    else match s.saveList la lb with
    | none => none
    | some (es, w) =>
      if ptrOk da w && ptrOk db w && bankOf (ptrTile da) != bankOf (ptrTile db) then
        some (some { entries := es, w := w, la := la, lb := lb, da := da, db := db })
      else none

/-! ### Bank fences and recopies (R356) -/

/-- A run of `n` free tiles (or, with `evict`, free or trace-metadata tiles) in one bank outside `avoid`: the lowest. -/
def State.findRun (s : State) (n : Nat) (avoid : List Nat) (evict : Bool) : Option Nat :=
  (List.range 2048).find? (fun t => decide (t % 256 + n ≤ 256) && !avoid.contains (bankOf t)
    && (List.range n).all (fun i => s.tileFree (t + i) || (evict && s.tileTrace (t + i))))

/-- Evict a trace-metadata tile. -/
def State.evictTile (s : State) (t : Nat) : State :=
  if s.tileTrace t then (s.freeTile t).incf F.PWR_EVICT_EVICTED 0 else s

/-- Place fresh copies of `n` tiles that stand from `src` in a bank outside `avoid`, marked copy `c`; the tile they start
at, or none where no tile remains. -/
def State.copyRun (s : State) (src n c : Nat) (avoid : List Nat) : State × Option Nat :=
  match (s.findRun n avoid false).orElse (fun _ => s.findRun n avoid true) with
  | none => (s, none)
  | some dst =>
    ((List.range n).foldl (fun s i =>
      let l := insTile s.pwr.insole (src + i)
      (s.evictTile (dst + i)).putTile (dst + i) (reflag l (tileFlags l / 2 * 2 + c))) s, some dst)

/-- An object stays in one copy (R356). -/
def State.single (s : State) (b : Nat) : State := (s.incf F.PWR_INSOLE_SINGLE 0).fault 0x09 b

/-- Change the pointer field `i` from `old` to `new` in every directory entry that holds it. -/
def State.redirect (s : State) (i old new : Nat) : State :=
  allDomains.foldl (fun s d => match s.dirEntry d with
    | none => s
    | some (la, lb, da, db) => if [la, lb, da, db].getD i 0 = old then s.dirSet d i new else s) s

/-- Recopy directory copy `c` where it stands in the fenced bank. -/
def State.recopyDir (s : State) (b c : Nat) : State :=
  if s.dirBase c ≠ 0x7FF ∧ bankOf (s.dirBase c) = b then
    let o := s.dirBase (1 - c)
    if o = 0x7FF ∨ s.bankFenced (bankOf o) then s
    else match s.copyRun o 40 c [b, bankOf o] with
    | (s, some t) => if c = 0 then s.setf F.PWR_DIR_DIR_A 0 t else s.setf F.PWR_DIR_DIR_B 0 t
    | (s, none) => s.single b
  else s

/-- The tiles of a list copy. -/
def State.chainTiles (s : State) (fuel t : Nat) : List Nat :=
  match fuel with
  | 0 => []
  | k + 1 =>
    let nx := tilePay (insTile s.pwr.insole t) 4 2
    if nx = 0xFFFF then [t] else t :: s.chainTiles k nx

/-- `n` tiles of the lowest bank outside `avoid` that has them: free tiles from the lowest address, then trace-metadata
tiles from the lowest address (R356). -/
def State.pickTiles (s : State) (n : Nat) (avoid : List Nat) : Option (List Nat) :=
  let tiles := fun (evict : Bool) (b : Nat) =>
    let l := (List.range 256).map (fun t => 256 * b + t)
    l.filter (fun t => s.tileFree t) ++ (if evict then l.filter (fun t => s.tileTrace t) else [])
  let bank := fun (evict : Bool) => (List.range 8).find? (fun b => !avoid.contains b && decide (n ≤ (tiles evict b).length))
  match bank false with
  | some b => some ((tiles false b).take n)
  | none => (bank true).map (fun b => (tiles true b).take n)

/-- Recopy copy `c` of a list where it stands in the fenced bank, from the other copy. -/
def State.recopyList (s : State) (b c own other : Nat) : State :=
  match s.parseList listFuel other with
  | none => s
  | some _ =>
    let src := s.chainTiles listFuel other
    match s.pickTiles src.length [b, bankOf other] with
    | none => s.single b
    | some dst =>
      let s := (src.zip dst).zipIdx.foldl (fun s (e : (Nat × Nat) × Nat) =>
        let l := insTile s.pwr.insole e.1.1
        let nx := dst.getD (e.2 + 1) 0xFFFF
        (s.evictTile e.1.2).putTile e.1.2 (repay (reflag l (tileFlags l / 2 * 2 + c)) 4 (leBytes 2 nx))) s
      s.redirect c own (dst.headD 0xFFFF)

/-- Recopy copy `c` of save data where it stands in the fenced bank, from the other copy. -/
def State.recopyData (s : State) (b c own other w : Nat) : State :=
  if s.bankFenced (bankOf (ptrTile other)) then s
  else match s.copyRun (ptrTile other) (ptrCount own w) c [b, bankOf (ptrTile other)] with
  | (s, some t) => s.redirect (2 + c) own (own / 2048 * 2048 + t)
  | (s, none) => s.single b

/-- Recopy what a domain's entry names in the fenced bank; `done` lists the pointers already dealt with. -/
def State.recopyEntry (s : State) (b d : Nat) (done : List Nat) : State × List Nat :=
  [0, 1].foldl (fun (q : State × List Nat) c =>
    match q.1.dirEntry d with
    | none => q
    | some (la, lb, da, db) =>
      if la = 0xFFFF ∧ lb = 0xFFFF then q
      else
        let own := if c = 0 then la else lb
        let other := if c = 0 then lb else la
        let q := if bankOf own = b ∧ !q.2.contains own then (q.1.recopyList b c own other, own :: q.2) else q
        let ownD := if c = 0 then da else db
        let otherD := if c = 0 then db else da
        let w := ((q.1.saveList la lb).map (·.2)).getD 1
        if bankOf (ptrTile ownD) = b ∧ !q.2.contains (65536 + ptrTile ownD) then
          (q.1.recopyData b c ownD otherD w, (65536 + ptrTile ownD) :: q.2)
        else q) (s, done)

/-- Give copy `c` of an object of the firmware a place outside the fenced bank and that of its other copy. -/
def State.moveFw (s : State) (b o c : Nat) : State :=
  let other := Tab.get 2048 s.pwr.fwTiles (2 * o + (1 - c))
  let avoid := [b, bankOf other]
  let s := { s with pwr := { s.pwr with fwTiles := Tab.erase s.pwr.fwTiles (2 * o + c) } }
  match (s.findRun (fwSize o) avoid false).orElse (fun _ => s.findRun (fwSize o) avoid true) with
  | none => s.single b
  | some dst =>
    let s := (List.range (fwSize o)).foldl (fun s i => s.evictTile (dst + i)) s
    { s with pwr := { s.pwr with fwTiles := Tab.insert s.pwr.fwTiles (2 * o + c) dst } }

/-- Recopy what the firmware keeps in the fenced bank, from each object's other copy. -/
def State.recopyFw (s : State) (b : Nat) : State :=
  (s.pwr.fwTiles.filter (fun (e : Nat × Nat) => bankOf e.2 = b)).foldl (fun s (e : Nat × Nat) =>
    let other := Tab.get 2048 s.pwr.fwTiles (e.1 / 2 * 2 + (1 - e.1 % 2))
    if other = 2048 ∨ s.bankFenced (bankOf other) then s else s.moveFw b (e.1 / 2) (e.1 % 2)) s

/-- Where the firmware first keeps copy `c` of an object: in the upper tiles of banks 7, 6, 5 and 4 (log entry 46). -/
def fwHome (o c : Nat) : Nat :=
  if o = 0 then 256 * (7 - c) + 181 else if o = 1 then 256 * (7 - c) + 42 else 256 * (5 - c) + 93 + 18 * (o - 2)

/-- At a cold start the firmware takes its tiles of the Insole: those of a bank that is fenced stand elsewhere. -/
def State.takeFwTiles (s : State) : State :=
  let keys := List.range 22
  let s := { s with pwr := { s.pwr with fwTiles := keys.map (fun k => (k, fwHome (k / 2) (k % 2))) } }
  (List.range 8).foldl (fun s b => if s.bankFenced b then s.recopyFw b else s) s

/-- Fence a bank and recopy its objects (R356). -/
def State.fenceBank (s : State) (b arg : Nat) : State :=
  if s.bankFenced b then s
  else
    let s := (s.setf F.PWRBb_STATUS_FENCED b 1).setBitf F.PWR_INSOLE_FENCED 0 b true
    let s := (s.fault 0x09 b).log 0x5102 b arg
    let s := ((s.recopyDir b 0).recopyDir b 1).recopyFw b
    (allDomains.foldl (fun (q : State × List Nat) d => q.1.recopyEntry b d q.2) (s, [])).1

/-! ### Written and verified tiles (R353, R355) -/

/-- Write a tile and read it back: every place that fails is remapped; false where the bank is fenced for it. -/
def State.writeTile (s : State) (fuel fails t : Nat) (l : List Byte) : State × Bool :=
  match fuel with
  | 0 => (s, false)
  | k + 1 =>
    if fails = 0 then (s.putTile t l, true)
    else match s.remapTile t with
    | (s, true) => s.writeTile k (fails - 1) t l
    | (s, false) => (s.fenceBank (bankOf t) (t % 256), false)

/-- Read one tile of a pair of copies, each of which has to satisfy `ok` (`true` for the second copy): the bytes that passed and whether they are the second copy's; a failing copy is
reported and, where the other passes, remapped with its bytes (R353, R355). -/
def State.readPair (s : State) (bad : BadTiles) (badBanks : List Nat) (ta tb : Option Nat) (ok : Bool → List Byte → Bool) :
    State × Option (List Byte × Bool) :=
  let passes := fun (s : State) (c : Bool) (t : Nat) => badCount bad t == 0 && ok c (insTile s.pwr.insole t)
  let usable := fun (s : State) (t : Option Nat) => t.filter (fun t => decide (t < 2048) && !s.bankFenced (bankOf t))
  let swap := (ta.map (fun t => badBanks.contains (bankOf t))).getD false
  let first := if swap then tb else ta
  let second := if swap then ta else tb
  let try_ := fun (s : State) (c : Bool) (t : Option Nat) => match usable s t with
    | none => (s, false)
    | some t =>
      if s.awlFires 0 (bankOf t) then (s.awlUsed.faultA 0x08 (bankOf t) true, false)
      else if passes s c t then (s, true) else (s.fault 0x08 (bankOf t), false)
  let r1 := try_ s swap first
  if r1.2 then (r1.1, first.map (fun t => (insTile r1.1.pwr.insole t, swap)))
  else
    let r2 := try_ r1.1 (!swap) second
    if r2.2 then
      let l := (second.map (fun t => insTile r2.1.pwr.insole t)).getD []
      let s := match usable r2.1 first with
        | none => r2.1
        | some t => (r2.1.writeTile 6 (max 1 (badCount bad t)) t (reflag l (tileFlags l / 2 * 2 + (if swap then 1 else 0)))).1
      (s, some (l, !swap))
    else (r2.1, none)

/-! ### Walks (R351 to R354) -/

/-- The register at an offset as a saved word. -/
def State.rawWord (s : State) (off : Nat) : Nat :=
  match findReg off with
  | some (r, i) => (s.rd r i).toNat
  | none => 0

/-- Restore a register: its writable fields take the saved values. -/
def State.restoreReg (s : State) (off w : Nat) : State :=
  match findReg off with
  | none => s
  | some (r, i) =>
    let v := BitVec.ofNat 32 w
    s.wr r i (r.wf.foldl (fun acc x => match x.acc with
      | .w1c => acc
      | _ => putBits acc x.lo (x.hi + 1 - x.lo) (getBits v x.lo (x.hi + 1 - x.lo))) (s.rd r i))

/-- The word addresses of a list, in order. -/
def listAddrs (es : List (Nat × Nat)) : List Nat := es.flatMap (fun e => (List.range e.2).map (fun i => e.1 + i))

/-- A governor island, whose save space is the governor window (R349). -/
def govIsland (d : Nat) : Bool := decide (0x460 ≤ d) && decide (d ≤ 0x464)

/-- Words as bytes. -/
def wordBytes (l : List Nat) : List Byte := l.flatMap (fun w => leBytes 4 w)

/-- Write copy `c` of a domain's data, remapping and moving as the fences require; false where it cannot be written. -/
def State.saveCopy (s : State) (fuel d c gen : Nat) (words : List Nat) (bad : BadTiles) : State × Bool :=
  match fuel with
  | 0 => (s, false)
  | k + 1 =>
    match s.dirEntry d with
    | none => (s, false)
    | some (_, _, da, db) =>
      let p := if c = 0 then da else db
      let t0 := ptrTile p
      if s.bankFenced (bankOf t0) then (s, false)
      else
        let r :=
          if ptrSlots p = 0 then
            let n := ptrCount p words.length
            (List.range n).foldl (fun (q : State × Bool) i =>
              let pay := wordBytes ((words.drop (59 * i)).take 59)
              let l := buildTile 2 (c + (if i + 1 = n then 2 else 0)) d i gen pay
              let w := q.1.writeTile 6 (badCount bad (t0 + i)) (t0 + i) l
              (w.1, q.2 && w.2)) (s, true)
          else
            let old := insTile s.pwr.insole t0
            let base := if s.tileOk t0 2 && tileOwner old == 0x7FE then old
              else buildTile 2 (c + 2) 0x7FE 0 0 (List.replicate 232 0)
            let l := repay base (4 * slotSize p * ptrSlot p) (wordBytes ((d * 2 ^ 21 + gen) :: words))
            s.writeTile 6 (badCount bad t0) t0 l
        if r.2 then r else r.1.saveCopy k d c gen words []

/-- A save walk; false where a copy cannot be written (R340, R352). -/
def State.saveWalk (s : State) (d : Nat) (link : List Nat) (bad : BadTiles) : State × Bool :=
  match s.savePlan d with
  | some (some p) =>
    let words := (listAddrs p.entries).zipIdx.map (fun e => if govIsland d then s.rawWord (4 * e.1) else link.getD e.2 0)
    let gen := (s.f F.PWRd_STATUS_SAVE_GEN d + 1) % 256
    let a := s.saveCopy 2 d 0 gen words bad
    let b := a.1.saveCopy 2 d 1 gen words bad
    (b.1, a.2 && b.2)
  | _ => (s, true)

/-- Check a bank's canaries at a wake: a failed one is reported and rewritten, and what is written is read
back (R353, R355). -/
def State.checkCanary (s : State) (bad : BadTiles) (b : Nat) : State × Bool :=
  if s.bankFenced b then (s, true)
  else
    let failed := [256 * b, 256 * b + 255].filter (fun t => badCount bad t != 0 || insTile s.pwr.insole t != canaryTile)
    if failed = [] then (s, true)
    else
      let s := (s.setf F.PWRBb_STATUS_CANARY_FAIL b 1).fault 0x11 b
      (failed.foldl (fun s t => (s.writeTile 6 (badCount bad t) t canaryTile).1) s, false)

/-- Read the tiles of a list through both copies; none where both copies of a tile fail. -/
def State.readList (s : State) (fuel : Nat) (bad : BadTiles) (bb : List Nat) (ta tb : Option Nat) (second : Bool) :
    State × Option (List (Nat × Nat) × Bool) :=
  match fuel with
  | 0 => (s, none)
  | k + 1 =>
    match s.readPair bad bb ta tb (fun _ l => tileSound l && tileType l == 1) with
    | (s, none) => (s, none)
    | (s, some (l, two)) =>
      let n := tilePay l 0 2
      let es := (List.range n).map (fun j =>
        let e := tilePay l (8 + 4 * j) 4
        (e / 256, e % 256 + 1))
      if tilePay l 4 2 = 0xFFFF then (s, some (es, second || two))
      else
        let next := fun (t : Option Nat) => (t.filter (fun t => s.tileOk t 1)).map
          (fun t => tilePay (insTile s.pwr.insole t) 4 2)
        match s.readList k bad bb (next ta) (next tb) (second || two) with
        | (s, none) => (s, none)
        | (s, some (r, two)) => (s, some (es ++ r, two))

/-- A data tile that pointer `p` names is sound and holds domain `d`'s data of generation `gen` (R350, R353). -/
def dataOk (d gen p : Nat) (l : List Byte) : Bool :=
  tileSound l && tileType l == 2 &&
    (if ptrSlots p = 0 then tileOwner l == d && tileGen l == gen
    else
      let h := tilePay l (4 * slotSize p * ptrSlot p) 4
      tileOwner l == 0x7FE && h / 2 ^ 21 == d && h % 256 == gen)

/-- The payload byte at which the data words of a tile that pointer `p` names start (R350). -/
def dataOff (p : Nat) : Nat := if ptrSlots p = 0 then 0 else 4 * slotSize p * ptrSlot p + 4

/-- Read a domain's data through both copies, each under its own pointer's SLOT and SLOTS (R350, R353). -/
def State.readData (s : State) (d gen : Nat) (da db w : Nat) (bad : BadTiles) (bb : List Nat) :
    State × Option (List Nat × Bool) :=
  (List.range (max (ptrCount da w) (ptrCount db w))).foldl (fun (q : State × Option (List Nat × Bool)) i =>
    match q.2 with
    | none => q
    | some (acc, two) =>
      match q.1.readPair bad bb (some (ptrTile da + i)) (some (ptrTile db + i)) (fun c l => dataOk d gen (if c then db else da) l) with
      | (s, none) => (s, none)
      | (s, some (l, t2)) =>
        let off := dataOff (if t2 then db else da)
        let n := min 59 (w - 59 * i)
        (s, some (acc ++ (List.range n).map (fun j => tilePay l (off + 4 * j) 4), two || t2))) (s, some ([], false))

/-- The banks that hold a tile the domain will use (R353). -/
def State.walkBanks (s : State) (d : Nat) : List Nat :=
  let dirs := [s.dirTile 0 d, s.dirTile 1 d].filterMap id
  let own := match s.dirEntry d with
    | none => []
    | some (la, lb, da, db) =>
      if la = 0xFFFF ∧ lb = 0xFFFF then []
      else s.chainTiles listFuel la ++ s.chainTiles listFuel lb ++ [ptrTile da, ptrTile db]
  (List.range 8).filter (fun b => (dirs ++ own).any (fun t => bankOf t == b))

/-- The result of a restore walk. -/
inductive Restored where
  /-- The domain has no list. -/
  | none
  /-- The addresses with their words, and whether a second copy was used. -/
  | data (l : List (Nat × Nat)) (second : Bool)
  /-- Both copies of a tile failed. -/
  | lost
  deriving DecidableEq, Repr

/-- A restore walk's reading and verification (R353, R354). -/
def State.restoreWalk (s : State) (d : Nat) (bad : BadTiles) : State × Restored :=
  if s.dirAbsent then (s, .none)
  else
    let q := (s.walkBanks d).foldl (fun (q : State × List Nat) b =>
      let r := q.1.checkCanary bad b
      (r.1, if r.2 then q.2 else b :: q.2)) (s, [])
    let s := q.1
    let bb := q.2
    match s.readPair bad bb (s.dirTile 0 d) (s.dirTile 1 d) (fun _ l => tileSound l && tileType l == 4) with
    | (s, none) => (s.setf F.PWR_STATUS_DIR_BAD 0 1, .lost)
    | (s, some (l, two0)) =>
      let la := dirField l d 0
      let lb := dirField l d 1
      if la = 0xFFFF ∧ lb = 0xFFFF then (s, .none)
      else match s.readList listFuel bad bb (some la) (some lb) false with
      | (s, none) => (s, .lost)
      | (s, some (es, two1)) =>
        let w := (es.map (·.2)).sum
        match s.readData d (s.f F.PWRd_STATUS_SAVE_GEN d) (dirField l d 2) (dirField l d 3) w bad bb with
        | (s, none) => (s, .lost)
        | (s, some (ws, two2)) => (s, .data ((listAddrs es).zip ws) (two0 || two1 || two2))

end Sys2Proof.Machine
end

