-- ==== Sys2Proof/Machine/LastOps.lean ====
section
/-! DEFINITION. What the Lasts and the predictor put out at any time (R264, R268, R273 to R275, R278 to R280, R285,
R292): each output is a function of the state and the time, so it is computed where it is used. Times are in ns;
`d` is how far ahead of now. -/
namespace Sys2Proof.Machine
open Sys2Proof

/-- A selector with the index dropped where its class has none (R225). -/
def normSel (sel : Nat) : Nat :=
  let c := sel / 4096
  if c = 4 ∨ c = 6 ∨ c = 7 ∨ c = 10 ∨ c = 11 ∨ c = 12 ∨ c = 13 then 4096 * c else sel

/-- A Last. -/
def State.last (s : State) (l : Nat) : LastSt := Tab.get {} s.lasts.l l

/-- Set a Last. -/
def State.setLast (s : State) (l : Nat) (x : LastSt) : State :=
  { s with lasts := { s.lasts with l := Tab.set {} s.lasts.l l x } }

/-- The state of a Last: 0 OFF, 1 SEARCH, 2 LOCKED, 3 FADE. -/
def State.lastState (s : State) (l : Nat) : Nat := s.f F.LASTl_STATUS_STATE l

/-- The clamp line or safe state is asserted (R243, R275, R287). -/
def State.outHeld (s : State) : Bool := s.clamped || s.safe

/-- N_eff (R264). -/
def LastSt.nEff (x : LastSt) : Nat := min x.bins (x.pEst / 1000)

/-- Fields of LASTl_LEARN in force. -/
def LastSt.lrn (x : LastSt) : Nat := getBits x.learn 28 4
def LastSt.fgt (x : LastSt) : Nat := getBits x.learn 24 4
def LastSt.shift (x : LastSt) : Nat := getBits x.learn 20 4
def LastSt.warm (x : LastSt) : Nat := max 1 (getBits x.learn 16 4)
def LastSt.lead (x : LastSt) : Nat := getBits x.learn 0 16 * 1000

/-- A bin; bins from N_eff on read 0 (R264). -/
def LastSt.bin? (x : LastSt) (b : Nat) : Int := if b < x.nEff then Tab.get 0 x.t b else 0

/-- DEST in force (R265): 0b11, and a rail Last whose source is not its rail's current, act as 0b00. -/
def LastSt.destEff (x : LastSt) : Nat :=
  if x.dest = 3 then 0 else if x.dest = 1 ∧ x.src ≠ 0x2000 + x.rail then 0 else x.dest

/-- The key under which a Last's source is received: SRC, or the mean SPENT of its stations (R265). -/
def LastSt.srcKey (x : LastSt) (l : Nat) : Nat := if x.dest = 2 then 0x10000 + l else normSel x.src

/-- ns since the phase's start (R268). -/
def State.lastElapsed (s : State) (l d : Nat) : Nat := s.since (s.last l).tm + d

/-- The bin at a time (R268). -/
def State.lastBin (s : State) (l d : Nat) : Nat :=
  let x := s.last l
  if x.pEst = 0 then 0 else s.lastElapsed l d % x.pEst * x.nEff / x.pEst

/-- The output gain g in 1/256 (R270, R274). -/
def State.lastG (s : State) (l d : Nat) : Nat :=
  let x := s.last l
  let el := s.since x.gAt + d
  if s.lastState l = 2 then (if x.gLen ≤ el then 256 else 256 * el / x.gLen)
  else if s.lastState l = 3 then (if x.gLen ≤ el then 0 else x.gFrom * (x.gLen - el) / x.gLen)
  else 0

/-- The lead bin (R273). -/
def State.leadBin (s : State) (l d : Nat) : Nat := s.lastBin l ((s.last l).lead + d)

/-- ABS and DEV of the lead bin (R273). -/
def State.lastAbs (s : State) (l d : Nat) : Int := (s.last l).bin? (s.leadBin l d)
def State.lastDev (s : State) (l d : Nat) : Int := s.lastAbs l d - s.fi F.LASTl_MEAN_M l

/-- The slot contribution, an additive term (R48, R273, R275), in the source's units, rounded towards zero. -/
def State.lastSlot (s : State) (l : Nat) : Int :=
  if s.outHeld then 0 else divTrunc (s.lastDev l 0 * 2 ^ (s.last l).shift * s.lastG l 0) 256

/-- The rail output (R273, R275), in current code. -/
def State.lastRail (s : State) (l d : Nat) : Int :=
  if s.outHeld then 0 else divTrunc (s.lastDev l d * 2 ^ (s.last l).shift * s.lastG l d * (s.last l).ffk) 4096

/-- The pre-allocation (R273, R275), in 1/16 ec. -/
def State.lastPre (s : State) (l d : Nat) : Nat :=
  if s.outHeld then 0
  else ((max 0 (s.lastAbs l d)).toNat * 2 ^ (s.last l).shift * s.lastG l d * (s.last l).ffk) / 4096

/-- Every Last. -/
def allLasts : List Nat := List.range 16

/-- The Lasts that drive a rail now (R278). -/
def State.railLasts (s : State) (r : Nat) : List Nat :=
  allLasts.filter (fun l => (s.last l).destEff == 1 && (s.last l).rail == r
    && (s.lastState l == 2 || (s.lastState l == 3 && decide (0 < s.lastG l 0))))

/-- The predictor delivers: EN 1 on a die that runs (R278, R292). -/
def State.predOn (s : State) : Bool := s.dieUp && s.on F.PRED_CTRL_EN && s.domRuns 0x464

/-- A current code held within FFLIM of a rail (R278, R279). -/
def State.ffClamp (s : State) (r : Nat) (v : Int) : Int :=
  clampInt (-(s.f F.LAST_FFLIMr_FFLIM r : Int)) (s.f F.LAST_FFLIMr_FFLIM r) v

/-- The feed-forward current of a rail `d` ns ahead, unclamped. -/
def State.iffRaw (s : State) (r d : Nat) : Int :=
  match s.railLasts r with
  | [] => if r = 0 ∧ s.on F.PRED_CTRL_RAIL_FF_EN ∧ s.predOn then s.lasts.pred.ipred else 0
  | l => (l.map (fun k => s.lastRail k d)).sum

/-- I_ff of a rail, in current code (R278). -/
def State.iffOf (s : State) (r : Nat) : Int := s.ffClamp r (s.iffRaw r 0)

/-- When the lead bins of a Last begin within the next 2 µs. -/
def State.leadStarts (s : State) (l : Nat) : List Nat :=
  let x := s.last l
  let n := x.nEff
  if n = 0 ∨ x.pEst = 0 then []
  else
    let e := s.lastElapsed l x.lead
    let base := e / x.pEst * x.pEst
    let b := s.leadBin l 0
    ([1, 2, 3].map (fun k => base + divUp ((b + k) * x.pEst) n - e)).filter (fun d => decide (d ≤ 2000))

/-- H of a rail (R279). Where no lead bin begins within 2 µs, the present one is the forecast (log entry 20). -/
def State.hOf (s : State) (r : Nat) : Int :=
  match s.railLasts r with
  | [] => s.iffOf r
  | l =>
    match l.flatMap (fun k => s.leadStarts k) with
    | [] => s.iffOf r
    | d :: ds => s.ffClamp r (ds.foldl (fun m d => max m (s.iffRaw r d)) (s.iffRaw r d))

/-- The pre-allocation of a core's station for an epoch that opens now, as the Lasts give it, in 1/16 ec (R280). -/
def State.preallocOf (s : State) (n : Nat) : Nat :=
  ((allLasts.filter (fun l =>
    let x := s.last l
    x.destEff == 2 && decide (x.clFirst ≤ n / 16) && decide (n / 16 ≤ x.clFirst + x.clCnt)
      && (s.lastState l == 2 || s.lastState l == 3))).map (fun l => s.lastPre l 0)).foldl max 0

/-- The predictor's estimates of a cluster are withdrawn (R290). -/
def State.withdrawn (s : State) (c : Nat) : Bool := s.f F.PRED_STATUS_STATE == 3 || s.on F.PREDCc_STATUS_WITHDRAWN c

/-- The pre-allocations of every station that has one. -/
def State.preallocs (s : State) : Tab Nat :=
  (List.range Config.coreCount).filterMap (fun n => let v := s.preallocOf n; if v = 0 then none else some (n, v))

/-- The loop engine sends the pre-allocations for the epoch that opens now. While the seam waits for a resend they wait
with it, and the Clicker goes on with what reached it late or, failing that, with what it had (R27, R280). -/
def State.sendPre (s : State) (blocked : Bool) : State :=
  let p := s.crd.pre
  let v := s.preallocs
  { s with crd := { s.crd with pre :=
      if blocked then { now := p.late.getD p.now, late := none, wait := some v } else { now := v } } }

/-- The forecast of a core's station, in 1/16 ec: the EST issued 750 ns into the epoch before (R285, R290, R292). -/
def State.forecastOf (s : State) (n : Nat) : Nat :=
  if s.predOn && !s.withdrawn (n / 16) && (s.lasts.pred.fcAt.map (· + 1) == some (s.now.toNat / 1000)) then (Tab.get {} s.crd.clicks n : ClickSt).forecast else 0

/-! ### Values received from the sources (R224, R271, R272) -/

/-- D of R271 in ns: whole µs, with PMAX in µs. -/
def LastSt.blockLen (x : LastSt) : Nat := 1000 * max 1 (divUp (x.pmax / 1000) 2048)

/-- Close the block means up to the block of `now`: an empty block repeats the newest value (R271, log entry 21). -/
def LastSt.closeBlocks (x : LastSt) (now : Nat) (v : Int) : LastSt :=
  let b := now / x.blockLen
  if b ≤ x.blkAt then x
  else
    let m := if x.blkNum = 0 then v * 256 else divNearest (x.blkSum * 256) x.blkNum
    { x with
      blocks := (List.replicate (min (b - x.blkAt - 1) 4096) (v * 256) ++ m :: x.blocks).take 4096,
      blkAt := b, blkSum := 0, blkNum := 0 }

/-- A Last takes note of a value of its source: the gap to the one before, and the block mean in progress. -/
def LastSt.note (x : LastSt) (old : SrcVal) (now : Word64) (v : Int) : LastSt :=
  let x := { x with gap := max x.gap (now - old.t).toNat }
  if x.mode = 0 then x
  else
    let x := x.closeBlocks now.toNat old.v
    { x with blkSum := x.blkSum + v, blkNum := x.blkNum + 1 }

/-- A source value arrives at the loop engine. -/
def State.post (s : State) (sel : Nat) (v : Int) : State :=
  let old : SrcVal := Tab.get {} s.loop.src sel
  let s := { s with loop := { s.loop with
    src := Tab.insert s.loop.src sel { v := v, t := s.now, sum := old.sum + v, n := old.n + 1 } } }
  { s with lasts := { s.lasts with l := s.lasts.l.map (fun (e : Nat × LastSt) =>
    if e.2.srcKey e.1 = sel then (e.1, e.2.note old s.now v) else e) } }

/-- A 100 ns report of a cluster's Welt: current code x voltage in 1/16 mV, a power in 1/8,000 of a code, and whether the cluster was
ON with the Welts enabled (R285, R286). -/
def State.notePower (s : State) (c iout vout : Nat) (ok : Bool) : State :=
  let x : PredClu := Tab.get {} s.lasts.pred.clus c
  { s with lasts := { s.lasts with pred := { s.lasts.pred with
      clus := Tab.set {} s.lasts.pred.clus c { x with pw := ((iout * vout, ok) :: x.pw).take 20 } } } }

end Sys2Proof.Machine
end

