-- ==== Sys2Proof/Machine/Credit.lean ====
section
/-! DEFINITION. The credit economy (spec chapter 02): tokens, costs, admission, the epoch, the refill, ramp tokens,
the toe-cap clamp, partitions, roles, unit messages and job meters. Amounts are in 1/16 ec (R59). -/
namespace Sys2Proof.Machine
open Sys2Proof

/-! ### Stations, clusters, and what the configuration gives them -/

/-- A station. -/
def State.station (s : State) (n : Nat) : StationSt := Tab.get {} s.crd.stations n

/-- Set a station. -/
def State.setStation (s : State) (n : Nat) (x : StationSt) : State :=
  { s with crd := { s.crd with stations := Tab.set {} s.crd.stations n x } }

/-- The Clicker's account of a station. -/
def State.click (s : State) (n : Nat) : ClickSt := Tab.get {} s.crd.clicks n

/-- Set the Clicker's account of a station. -/
def State.setClick (s : State) (n : Nat) (x : ClickSt) : State :=
  { s with crd := { s.crd with clicks := Tab.set {} s.crd.clicks n x } }

/-- The Clicker's account of a cluster. -/
def State.cluster (s : State) (c : Nat) : ClusterSt := Tab.get {} s.crd.clusters c

/-- Set the Clicker's account of a cluster. -/
def State.setCluster (s : State) (c : Nat) (x : ClusterSt) : State :=
  { s with crd := { s.crd with clusters := Tab.set {} s.crd.clusters c x } }

/-- The cluster of a core (R53). -/
def clusterOf (n : Nat) : Nat := n / 16

/-- The cores of a cluster. -/
def coresOf (c : Nat) : List Nat := (List.range 16).map (fun i => 16 * c + i)

/-- Every core, every cluster. -/
def allCores : List Nat := List.range Config.coreCount
def allClusters : List Nat := List.range Config.clusterCount

/-- The epoch number (R58). -/
def State.epoch (s : State) : Nat := s.now.toNat / 1000

/-- The window number (R58). -/
def State.window (s : State) : Nat := s.now.toNat / 100

/-- A core is present and its station's island runs: no die reset, domain not off or retained, the core's clock not
stopped (R23). -/
def State.coreUp (s : State) (n : Nat) : Bool :=
  decide (n < Config.coreCount) && s.dieUp && s.domRuns n && !(s.island 2 n).stopped

/-- The cap of a whole bucket, in 1/16 ec (R60). -/
def State.cap (s : State) (n : Nat) : Nat := s.f F.CRDSn_CFG_CAP n * 16

/-- The cap of a bucket or of a sub-bucket (R60). -/
def State.capOf (s : State) (n : Nat) : Nat := if (s.station n).split then s.cap n / 2 else s.cap n

/-- The balance of sub-bucket `p` (or of the whole bucket, p = 0). -/
def State.bucket (s : State) (n p : Nat) : Nat :=
  if p = 0 then s.f F.CRDSn_BUCKET_BUCKET0 n else s.f F.CRDSn_BUCKET_BUCKET1 n

/-- Set the balance of sub-bucket `p`. -/
def State.setBucket (s : State) (n p v : Nat) : State :=
  if p = 0 then s.setf F.CRDSn_BUCKET_BUCKET0 n v else s.setf F.CRDSn_BUCKET_BUCKET1 n v

/-- Partition `p` is frozen (R100). -/
def State.frozen (s : State) (n p : Nat) : Bool :=
  if p = 0 then s.on F.CRDSn_STATUS_PART0_FROZEN n else s.on F.CRDSn_STATUS_PART1_FROZEN n

/-- Set or clear a frozen bit. -/
def State.setFrozen (s : State) (n p : Nat) (b : Bool) : State :=
  if p = 0 then s.setb F.CRDSn_STATUS_PART0_FROZEN n b else s.setb F.CRDSn_STATUS_PART1_FROZEN n b

/-! ### Tokens (R61 to R69) -/

/-- Fields of a token (R62). -/
def tokOpclass (t : Word64) : Nat := t.toNat / 2 ^ 61
def tokFormat (t : Word64) : Nat := t.toNat / 2 ^ 57 % 16
def tokRows (t : Word64) : Nat := t.toNat / 2 ^ 50 % 128 + 1
def tokColsField (t : Word64) : Nat := t.toNat / 2 ^ 43 % 128
def tokCols (t : Word64) : Nat := tokColsField t + 1
def tokK (t : Word64) : Nat := (t.toNat / 2 ^ 33 % 1024 + 1) * 8
def tokCycles (t : Word64) : Nat := (t.toNat / 2 ^ 23 % 1024 + 1) * 8
def tokSwap (t : Word64) : Nat := t.toNat / 2 ^ 22 % 2
def tokPart (t : Word64) : Nat := t.toNat / 2 ^ 21 % 2
def tokEpoch (t : Word64) : Nat := t.toNat / 2 ^ 13 % 256
def tokStep (t : Word64) : Bool := t.toNat / 2 ^ 12 % 2 == 1
def tokCost (t : Word64) : Nat := t.toNat % 4096

/-- The width class of a FORMAT code (R63): 0 N, 1 M, 2 W; a reserved code is W. -/
def formatClass (f : Nat) : Nat :=
  match f with
  | 4 | 5 | 6 => 1
  | 8 | 9 | 10 | 11 | 12 => 0
  | _ => 2

/-- The class of a token. -/
def Token.cls (t : Token) : Nat := formatClass (tokFormat t.raw)

/-- The cost-table entry an address names (R67). -/
def State.costEntry (s : State) (k : Nat) : Word := Tab.get 0 s.crd.cost k

/-- The cost of a token in 1/16 ec (R67): exact, rounded up once, saturated at 255.9375 ec. -/
def tileCost (entry : Word) (trim : Nat) (t : Word64) : Nat :=
  let e0 := getBits entry 24 8
  let emac := getBits entry 8 16
  let eswap := getBits entry 0 8
  let raw := e0 * 2 ^ 26 + tokRows t * tokCols t * tokK t * emac + tokSwap t * tokCols t * eswap * 2 ^ 18
  min (divUp (raw * trim) (2 ^ 33)) 4095

/-- The cost station `n` gives a token (R67). -/
def State.costOf (s : State) (n : Nat) (t : Word64) : Nat :=
  tileCost (s.costEntry (128 * s.f F.CRDSn_CFG_COST_SET n + 16 * tokOpclass t + tokFormat t))
    (s.f F.CRDSn_CFG_COST_TRIM n) t

/-- The current role epoch of a station (R103). -/
def State.roleEpoch (s : State) (n : Nat) : Nat := s.f F.CRDSn_ROLE_ROLE_EPOCH n

/-- A token is malformed (R65). -/
def State.malformed (s : State) (n : Nat) (t : Word64) : Bool :=
  let split := (s.station n).split
  tokOpclass t == 7 || (tokPart t == 1 && !split) || (split && decide (63 < tokColsField t))
    || s.frozen n (tokPart t) || decide (tokCost t ≠ 0)

/-- A token is stale (R66). -/
def State.staleTok (s : State) (n : Nat) (t : Word64) : Bool := decide (tokEpoch t ≠ s.roleEpoch n)

/-- The head token of a station (R61). -/
def State.head (s : State) (n : Nat) : Option Token := (s.station n).queue.head?

/-! ### The gates of R70 -/

/-- N of R95. -/
def State.clampN (s : State) : Nat := max (s.f F.CRD_CLAMP_RATE) 1 + 1

/-- Core cycles counted since the 1-in-N count of this station started (R74, R96). -/
def State.gateCount (s : State) (n : Nat) : Nat :=
  let x := s.station n
  if x.gateGen = s.crd.gateGen then x.gateCnt else 0

/-- The clamp gate is open in this core cycle (R74, R95). -/
def State.gateOpen (s : State) (n : Nat) : Bool :=
  if s.clamped then s.gateCount n % s.clampN == Config.clampOpen s.clampN % s.clampN
  else if s.on F.CRD_CTRL_EN then true
  else s.gateCount n % s.clampN == 0

/-- The cycle skip permits issue in this core cycle: `skip` of every 16 are withheld (R45, R238). -/
def State.skipOpen (s : State) (n : Nat) : Bool :=
  let x := s.station n
  decide (x.skip ≤ (x.skipCnt + 16 - Config.skipPlace x.skip % 16) % 16)

/-- The cluster divider of a core: its clock generator's cycles to a core cycle (R22, R238). -/
def State.divRatio (s : State) (n : Nat) : Nat := 2 ^ (3 - min 3 (Tab.get 3 s.loop.div (clusterOf n)))

/-- `k` core cycles of a station pass: the 1-in-N and the skip counts run on them, and so do the lengthened generator
cycles of a stretch in progress (R74, R95, R96, R129, R238). -/
def State.coreCycles (s : State) (n k : Nat) : State :=
  let x := s.station n
  s.setStation n { x with gateCnt := (s.gateCount n + k) % 720720, gateGen := s.crd.gateGen,
                          skipCnt := (x.skipCnt + k) % 16, stretchLeft := x.stretchLeft - k * s.divRatio n }

/-- Count one core cycle of a station. -/
def State.tickGate (s : State) (n : Nat) : State := s.coreCycles n 1

/-- A voltage code in 1/16 mV (R4). -/
def codeMv16 (code : Nat) : Nat := 4800 + 4 * code

/-- The need of class `k` of a cluster, as a code (R117). -/
def State.needCode (s : State) (c k : Nat) : Nat :=
  match k with
  | 0 => s.f F.WELTc_NEED_N_NEED_N c
  | 1 => s.f F.WELTc_NEED_WM_NEED_M c
  | _ => s.f F.WELTc_NEED_WM_NEED_W c

/-- The need of class `k` in 1/16 mV: the Rail 0 set-point while NEED_VALID is 0 (R119). -/
def State.need16 (s : State) (c k : Nat) : Nat :=
  if s.on F.WELTc_STATUS_NEED_VALID c then codeMv16 (s.needCode c k) else s.f F.RAILr_SETPT_SETPT 0

/-- Class-ready for class `k` is signalled to the stations of a cluster: its class is `k` or wider and its output is at or
above need[k] - 4 mV (R122); for every class while EN is 0 (R114). -/
def State.classReady (s : State) (c k : Nat) : Bool :=
  if s.welt.en then
    decide (k ≤ s.f F.WELTc_STATUS_CLASS c)
      && decide (s.need16 c k ≤ (Tab.get {} s.welt.cl c : WeltSt).vout + 64)
  else true

/-- Ramp tokens a token of cost `c` needs (R88). -/
def rampNeed (x : StationSt) (c : Nat) : Nat := (x.x + c - x.base) - (x.x - x.base)

/-- The ramp tokens that the head token of a station needs; 0 without a head. -/
def State.headNeed (s : State) (n : Nat) : Nat :=
  match s.head n with
  | some t => rampNeed (s.station n) t.cost
  | none => 0

/-- What the cluster's pool holds for station `n` in a core cycle in which the stations of `rivals` (a bitmap of the
cluster's) ask as well: those that come before `n`, going round from the station served last, are served first (R89).
One whose need exceeds what is left takes nothing (log entry 107). -/
def State.poolFor (s : State) (n rivals : Nat) : Nat :=
  let k := s.cluster (clusterOf n)
  let ahead := (n % 16 + 31 - k.rr) % 16
  (List.range ahead).foldl (fun p i =>
    let m := (k.rr + 1 + i) % 16
    let need := s.headNeed (16 * clusterOf n + m)
    if rivals.testBit m && decide (need ≤ p) then p - need else p) k.pool

/-- Ramp tokens are available (R70, R89); waived while EN is 0 (R74). -/
def State.rampOk (s : State) (n c rivals : Nat) : Bool :=
  !s.on F.CRD_CTRL_EN || decide (rampNeed (s.station n) c ≤ s.poolFor n rivals)

/-- Credit suffices: the bucket holds the cost, or is full when the cost exceeds its cap (R70, R72); waived while EN
is 0 (R74). -/
def State.creditOk (s : State) (n : Nat) (t : Token) : Bool :=
  let b := s.bucket n (tokPart t.raw)
  !s.on F.CRD_CTRL_EN || (if s.capOf n < t.cost then decide (s.capOf n ≤ b) else decide (t.cost ≤ b))

/-- Why the head is not admitted in a core cycle (R73). -/
inductive StallWhy where
  | none | rejected | clamp | other | ramp | credit
  deriving DecidableEq, Repr

/-- A tile of operation class 6, the dummy load of the decoupling sweep (R473). -/
def isDummy (t : Token) : Bool := tokOpclass t.raw == 6

/-- The first failing condition, in the order of R73; `none` when every condition of R70 holds. `rivals` are the stations
that ask for ramp tokens in the same cycle (R89). Dummy tiles wait for the dummy-load request and need no credit
(R473). -/
def State.whyStall (s : State) (n : Nat) (t : Token) (rivals : Nat) : StallWhy :=
  if s.malformed n t.raw || s.staleTok n t.raw then .rejected
  else if !s.gateOpen n then .clamp
  else if !s.skipOpen n || !s.classReady (clusterOf n) t.cls then .other
  else if isDummy t && !s.trd.dummy then .other
  else if !s.rampOk n t.cost rivals then .ramp
  else if !isDummy t && !s.creditOk n t then .credit
  else .none

/-! ### TOKEN_REJECT, TOKEN_STALE_REJECT, TILE_ADMIT, TILE_DONE, STALL_CYCLE -/

/-- Drop the head token and signal its rejection on the unit link (R553). -/
def State.reject (s : State) (n answer : Nat) : State :=
  let x := s.station n
  let s := s.setStation n { x with queue := x.queue.tail, headStalled := false, answer := answer }
  let s := s.setf F.CRDSn_STATUS_CLASS_WAIT n 0
  let s := s.setf F.CRDSn_STATUS_STALLED n 0
  s.hang n 0x06 (answer - 2)

/-- TOKEN_REJECT: a malformed head token is rejected and a fault event reported (R65). -/
def execTokenReject (n : Nat) (s : State) : Host.Outcome State Fault Refusal :=
  .next (match s.head n with
  | some t => if s.coreUp n && s.malformed n t.raw then (s.reject n 2).fault 0x40 n else s
  | none => s)

/-- TOKEN_STALE_REJECT: a head token of another role epoch is rejected as stale (R66). -/
def execTokenStaleReject (n : Nat) (s : State) : Host.Outcome State Fault Refusal :=
  .next (match s.head n with
  | some t =>
    if s.coreUp n && !s.malformed n t.raw && s.staleTok n t.raw then
      (s.reject n 3).incf F.CRDSn_STATUS_STALE_CNT n else s
  | none => s)

/-- Note an admission in the cluster's class account (R120, R125). -/
def State.noteAdmit (s : State) (c cls : Nat) : State :=
  let w : WeltSt := Tab.get {} s.welt.cl c
  let t := s.now.toNat + 1
  let w := match cls with
    | 0 => { w with admitN := t }
    | 1 => { w with admitM := t }
    | _ => { w with admitW := t }
  let s := { s with welt := { s.welt with cl := Tab.set {} s.welt.cl c w } }
  let s := if s.f F.WELTc_STATUS_CLASS c < cls then (s.setf F.WELTc_STATUS_CLASS c cls).trace 7 0 c cls else s
  if s.f F.WELTc_STATUS_CEIL_EFF c < cls then s.setf F.WELTc_STATUS_CEIL_EFF c cls else s

/-- A tile is admitted in the cluster: where no class-up is in progress, class-ready stands for its class, and the trip
level follows the target of the present class (R128). -/
def State.noteTile (s : State) (c cls : Nat) : State :=
  let s := s.noteAdmit c cls
  let w : WeltSt := Tab.get {} s.welt.cl c
  if w.reqClass.isSome then s
  else { s with welt := { s.welt with cl := Tab.set {} s.welt.cl c { w with tripClass := s.f F.WELTc_STATUS_CLASS c } } }

/-- Pay for the head token: its cost from the bucket, or the whole bucket with the shortfall noted (R71, R72). -/
def State.payTile (s : State) (n : Nat) (t : Token) : State :=
  let p := tokPart t.raw
  let x := s.station n
  if s.capOf n < t.cost then
    let s := s.setStation n { x with shortfall := min (x.shortfall + (t.cost - s.capOf n)) 65535 }
    s.setBucket n p 0
  else s.setBucket n p (s.bucket n p - t.cost)

/-- An admission with STEP set is a marker for the Lasts that watch its cluster, outside their dead time (R266, R271). -/
def State.noteStep (s : State) (c : Nat) : State :=
  allLasts.foldl (fun s l =>
    let x := s.last l
    let st := s.lastState l
    let dead := if 2 ≤ st then x.pEst / 2 else x.pmin / 2
    let free : Bool := match x.lastMark with
      | none => true
      | some t => s.passed t dead
    if st ≠ 0 ∧ x.mode ≠ 1 ∧ x.clFirst ≤ c ∧ c ≤ x.clFirst + x.clCnt ∧ free
        ∧ ¬(st = 2 ∧ s.on F.LASTl_STATUS_AUTO_LOCK l) then
      s.setLast l { x with lastMark := some s.now, marks := x.marks ++ [s.now] }
    else s) s

/-- The effect of an admission (R71, R72, R74, R88, R473). -/
def State.admitTile (s : State) (n : Nat) (t : Token) : State :=
  let c := clusterOf n
  let s := if s.on F.CRD_CTRL_EN then
      let k := s.cluster c
      let need := rampNeed (s.station n) t.cost
      let s := s.setCluster c { k with pool := k.pool - need, rr := if need = 0 then k.rr else n % 16 }
      if isDummy t then s else s.payTile n t
    else s
  let s := if isDummy t then
      s.setPair R.CRD_UNMETERED_LO R.CRD_UNMETERED_HI 0 (s.pair R.CRD_UNMETERED_LO R.CRD_UNMETERED_HI + t.cost)
    else s
  let x := s.station n
  let s := s.setStation n { x with queue := x.queue.tail, running := x.running ++ [t], x := x.x + t.cost,
                                   spent := if isDummy t then x.spent else x.spent + t.cost,
                                   headStalled := false, answer := 1 }
  let total := (s.pair R.CRD_SPENT_LO R.CRD_SPENT_HI + t.cost) % 2 ^ 64
  let s := (s.setPair R.CRD_SPENT_LO R.CRD_SPENT_HI 0 total).telem 0x10040 total
  let s := s.setf F.CRDSn_STATUS_STALLED n 0
  let s := s.setf F.CRDSn_STATUS_CLASS_WAIT n 0
  let s := if tokStep t.raw then s.noteStep c else s
  s.noteTile c t.cls

/-- TILE_ADMIT: the station admits its head token in a core cycle in which every condition of R70 holds (R71). -/
def execTileAdmit (x : CycleIn) (s : State) : Host.Outcome State Fault Refusal :=
  .next (match s.head x.n with
  | some t =>
    let u := s.coreCycles x.n x.idle
    if s.coreUp x.n && s.f F.PWRd_STATUS_STEP x.n == 0 && decide (u.whyStall x.n t x.rivals = .none) then
      (u.admitTile x.n t).tickGate x.n else s
  | none => s)

/-- TILE_DONE: the oldest running tile completes (R553). -/
def execTileDone (n : Nat) (s : State) : Host.Outcome State Fault Refusal :=
  let x := s.station n
  .next (if s.coreUp n then s.setStation n { x with running := x.running.tail } else s)

/-- Count a stall cycle for one reason, at the station and in the chip's LOST counter (R73). -/
def State.countStall (s : State) (n : Nat) (r : Reg) (lo hi : Reg) : State :=
  let s := s.wr r n (s.rd r n + 1)
  s.setPair lo hi 0 (s.pair lo hi + 1)

/-- STALL_CYCLE: a core cycle in which a head token is present, the array is free and the station does not admit it:
one reason is counted, and the gate counts advance (R73, R95). A cycle whose head token is to be rejected counts for no
reason (log entry 108). -/
def execStallCycle (c : CycleIn) (s₀ : State) : Host.Outcome State Fault Refusal :=
  let n := c.n
  .next (match s₀.head n with
  | none => s₀
  | some t =>
    if s₀.coreUp n then
      let s := s₀.coreCycles n c.idle
      match s.whyStall n t c.rivals with
      | .none => s₀
      | .rejected => s₀
      | .clamp => ((s.countStall n R.CRDSn_STALL_CLAMP R.CRD_LOST_CLAMP_LO R.CRD_LOST_CLAMP_HI).setf
          F.CRDSn_STATUS_STALLED n 1).tickGate n
      | .other => ((s.countStall n R.CRDSn_STALL_OTHER R.CRD_LOST_OTHER_LO R.CRD_LOST_OTHER_HI).setf
          F.CRDSn_STATUS_STALLED n 1).tickGate n
      | .ramp => ((s.countStall n R.CRDSn_STALL_RAMP R.CRD_LOST_RAMP_LO R.CRD_LOST_RAMP_HI).setf
          F.CRDSn_STATUS_STALLED n 1).tickGate n
      | .credit =>
        let x := s.station n
        let s := if x.headStalled then s
          else s.setStation n { x with headStalled := true, stalled := min (x.stalled + t.cost) 65535 }
        ((s.countStall n R.CRDSn_STALL_CREDIT R.CRD_LOST_CREDIT_LO R.CRD_LOST_CREDIT_HI).setf
          F.CRDSn_STATUS_STALLED n 1).tickGate n
    else s₀)

/-! ### Roles (R103, R104) -/

/-- Change the active role: the role epoch counts it (R103). -/
def State.changeRole (s : State) (n role : Nat) : State :=
  let x := s.station n
  let s := s.setf F.CRDSn_ROLE_ACTIVE_ROLE n role
  let s := s.incf F.CRDSn_ROLE_ROLE_EPOCH n
  (s.setStation n { x with roleChanged := true }).hang n 0x05 (s.roleEpoch n)

/-- The pending write leaves: its SET_ROLE command, if any, is superseded (R104). -/
def State.dropPendingRole (s : State) (n : Nat) : State :=
  let x := s.station n
  let s := match x.pendSlot with
    | some k => s.setFw { s.eye.fw with outcome := Tab.set 0 s.eye.fw.outcome k 0x3000 }
    | none => s
  (s.setStation n { x with pendSlot := none }).setf F.CRDSn_ROLE_PENDING n 0

/-- A role write (R104). `slot` is the journal slot of a SET_ROLE command. -/
def State.roleWrite (s : State) (n role : Nat) (slot : Option Nat) : State :=
  let pending := s.on F.CRDSn_ROLE_PENDING n
  let active := s.f F.CRDSn_ROLE_ACTIVE_ROLE n
  let s := s.setf F.CRDSn_ROLE_ROLE n role
  if pending then
    let s := s.dropPendingRole n
    if role = active then s
    else
      let x := s.station n
      (s.setStation n { x with pendRole := role, pendSlot := slot }).setf F.CRDSn_ROLE_PENDING n 1
  else if role = active then s
  else if (s.station n).roleChanged then
    let x := s.station n
    (s.setStation n { x with pendRole := role, pendSlot := slot }).setf F.CRDSn_ROLE_PENDING n 1
  else s.changeRole n role

/-- A pending role write takes effect at the boundary (R104). -/
def State.applyPendingRole (s : State) (n : Nat) : State :=
  let x := s.station n
  let s := s.setStation n { x with roleChanged := false }
  if s.on F.CRDSn_ROLE_PENDING n then
    let x := s.station n
    let s := (s.setStation n { x with pendSlot := none }).setf F.CRDSn_ROLE_PENDING n 0
    s.changeRole n x.pendRole
  else s

/-- A write of CRDSn_ROLE: JOB takes the value, ROLE is a role write (R104, R108). -/
def writeCrdsRole (n : Nat) (by_ : Writer) (w : Word) (slot : Option Nat) (s : State) : State × Bool :=
  let q := writeFields s by_ R.CRDSn_ROLE n [⟨21, 16, .rw⟩] w
  (q.1.roleWrite n (getBits w 8 2) slot, q.2)

/-- ROLE_WRITE: a CFG write of CRDSn_ROLE (R104). -/
def execRoleWrite (priv : Bool) (n : Nat) (w : Word) (s : State) : Host.Outcome State Fault Refusal :=
  .next (s.cfgWrite priv R.CRDSn_ROLE n (writeCrdsRole n .cfg w none))

/-! ### The epoch boundary at a station (R75, R76, R99) -/

/-- Return the balance of every frozen sub-bucket (R75). -/
def State.returnFrozen (s : State) (n : Nat) : State :=
  [0, 1].foldl (fun s p =>
    if s.frozen n p then
      let x := s.station n
      (s.setStation n { x with toReturn := x.toReturn + s.bucket n p }).setBucket n p 0
    else s) s

/-- Apply a changed SPLIT: merge the balance, or divide it with the odd 1/16 ec to sub-bucket 1 (R99). -/
def State.applySplit (s : State) (n : Nat) : State :=
  let x := s.station n
  let want := s.on F.CRDSn_CFG_SPLIT n
  if want = x.split then s
  else
    let b := s.bucket n 0 + s.bucket n 1
    let s := s.setStation n { x with split := want }
    if want then (s.setBucket n 0 (b / 2)).setBucket n 1 (b - b / 2)
    else (s.setBucket n 0 (min b 65535)).setBucket n 1 0

/-- Return part of the excess above the cap (R75). -/
def State.returnExcess (s : State) (n p : Nat) : State :=
  let b := s.bucket n p
  let cap := s.capOf n
  if cap < b then
    let r := divUp (b - cap) (2 ^ s.f F.CRD_CTRL_DECAY_SHIFT)
    let x := s.station n
    (s.setStation n { x with toReturn := x.toReturn + r }).setBucket n p (b - r)
  else s

/-- Words A and B of the demand report (R76). -/
def reportA (u0 u1 stalled epochR tag : Nat) (split stale : Bool) : Word64 :=
  BitVec.ofNat 64 (u0 * 2 ^ 48 + u1 * 2 ^ 32 + stalled * 2 ^ 16 + epochR * 2 ^ 8 + tag * 4
    + (if split then 2 else 0) + (if stale then 1 else 0))
def reportB (ret spent job stretch debt : Nat) : Word64 :=
  BitVec.ofNat 64 (ret * 2 ^ 48 + spent * 2 ^ 32 + job * 2 ^ 26 + stretch * 2 ^ 18 + debt * 4)

/-- JOB in force follows its register at an epoch boundary (R108). -/
def State.latchJob (s : State) (n : Nat) : State := s.setStation n { s.station n with job := s.f F.CRDSn_ROLE_JOB n }

/-- The partitions that are frozen, one bit each. -/
def State.frozenBits (s : State) (n : Nat) : Nat := (if s.frozen n 0 then 1 else 0) + (if s.frozen n 1 then 2 else 0)

/-- EPOCH_BOUNDARY_REPORT: snapshot, returns, and the two-word demand report (R75, R76, R99, R104, R108). EPOCH_TAG is the
number of the epoch that begins (log entry 109); a merge of the sub-buckets while one is frozen returns the whole balance
(log entry 110). A station whose island stands still sends no report; SPLIT, a pending role and JOB take effect at the
boundary all the same. -/
def execEpochBoundaryReport (n : Nat) (s : State) : Host.Outcome State Fault Refusal :=
  .next (if decide (n < Config.coreCount) && s.dieUp && s.due 1 n 1000 0 then
    let s := s.serve 1 n
    if !s.coreUp n then ((s.applySplit n).applyPendingRole n).latchJob n
    else
    let s := s.returnFrozen n
    let s := s.applySplit n
    let s := ((s.returnExcess n 0).returnExcess n 1).returnFrozen n
    let s := s.applyPendingRole n
    let x := s.station n
    let a := reportA (s.bucket n 0) (s.bucket n 1) x.stalled (s.roleEpoch n) (s.epoch % 64) x.split x.stale
    let b := reportB (min x.toReturn 65535) (min x.spent 65535) x.job (min x.stretches 255) x.shortfall
    let s := s.setStation n { x with spent := 0, stalled := 0, headStalled := false, shortfall := 0, stretches := 0,
                                     toReturn := x.toReturn - min x.toReturn 65535, stale := false,
                                     reported := x.reported || s.f F.PWRd_STATUS_STEP n == 0,
                                     reportFz := s.frozenBits n, report := some (a, b) }
    let s := s.latchJob n
    if n = s.f F.TRC_SEL_CORE then s.trace 1 0 n 0 (some (a.toNat + 2 ^ 64 * b.toNat)) else s
  else s)

/-! ### The Clicker: reports, meters, the refill (R76 to R85, R101, R107, R108) -/

/-- Apply a pending clear of a meter whose boundary has come (R108). -/
def State.applyJobClear (s : State) (m : Nat) : State :=
  let e := Tab.get 0 s.crd.jobClear m
  if e ≠ 0 ∧ e < s.epoch + 1 then
    let s := { s with crd := { s.crd with jobClear := Tab.set 0 s.crd.jobClear m 0 } }
    let s := (s.setPair R.JOBm_EC_LO R.JOBm_EC_HI m 0).telem (0x1A008 + 16 * m) 0
    s.setf F.JOBm_CTRL_STATUS m 2
  else s

/-- Charge the SPENT of a report to its meter, or to CRD_UNMETERED (R107). -/
def State.chargeJob (s : State) (m spent : Nat) : State :=
  let s := s.applyJobClear m
  if s.on F.JOBm_CTRL_EN m then
    let v := (s.pair R.JOBm_EC_LO R.JOBm_EC_HI m + spent) % 2 ^ 64
    (s.setPair R.JOBm_EC_LO R.JOBm_EC_HI m v).telem (0x1A008 + 16 * m) v
  else s.setPair R.CRD_UNMETERED_LO R.CRD_UNMETERED_HI 0 (s.pair R.CRD_UNMETERED_LO R.CRD_UNMETERED_HI + spent)

/-- Fields of a report. -/
def repU0 (r : Word64 × Word64) : Nat := r.1.toNat / 2 ^ 48
def repU1 (r : Word64 × Word64) : Nat := r.1.toNat / 2 ^ 32 % 65536
def repStalled (r : Word64 × Word64) : Nat := r.1.toNat / 2 ^ 16 % 65536
def repRole (r : Word64 × Word64) : Nat := r.1.toNat / 2 ^ 8 % 256
def repTag (r : Word64 × Word64) : Nat := r.1.toNat / 4 % 64
def repSplit (r : Word64 × Word64) : Bool := r.1.toNat / 2 % 2 == 1
def repReturned (r : Word64 × Word64) : Nat := r.2.toNat / 2 ^ 48
def repSpent (r : Word64 × Word64) : Nat := r.2.toNat / 2 ^ 32 % 65536
def repJob (r : Word64 × Word64) : Nat := r.2.toNat / 2 ^ 26 % 64
def repDebt (r : Word64 × Word64) : Nat := r.2.toNat / 4 % 65536

/-- DEMAND_REPORT: the Clicker receives the report in flight, records its shortfall as debt and charges the meter. -/
def execDemandReport (n : Nat) (s : State) : Host.Outcome State Fault Refusal :=
  let x := s.station n
  .next (match x.report with
  | some r =>
    if decide (n < Config.coreCount) && s.dieUp && s.seamFree 2 1 n then
      let s := s.setStation n { x with report := none }
      let k := s.click n
      let s := s.setClick n { k with report := some r, fz := x.reportFz }
      let s := s.setf F.CRDSn_STATUS_DEBT n (min (s.f F.CRDSn_STATUS_DEBT n + repDebt r) 65535)
      s.chargeJob (repJob r) (repSpent r)
    else s
  | none => s)

/-- A station is an entrant (R80): reported for this boundary, not fenced, its domain ON, its role not idle, and not at
the boundary of its first report after a wake (R85, R109). -/
def State.entrant (s : State) (n : Nat) : Bool :=
  !(s.click n).waking && !s.on F.CRDSn_STATUS_FENCED n && s.f F.PWRd_STATUS_STEP n == 0 && decide (s.f F.CRDSn_ROLE_ACTIVE_ROLE n ≠ 0)
    && (match (s.click n).report with
        | some r => repTag r == s.epoch % 64
        | none => false)

/-- The cap of R80: CAP, CAP / 2 with one sub-bucket frozen at the report, 0 with both (R102). -/
def State.entrantCap (s : State) (n : Nat) (r : Word64 × Word64) : Nat :=
  let fz := (s.click n).fz
  if repSplit r then
    (match fz.testBit 0, fz.testBit 1 with
    | true, true => 0
    | true, false | false, true => s.cap n / 2
    | false, false => s.cap n)
  else if fz.testBit 0 then 0 else s.cap n

/-- The priority class (R103): set by the role when FOLLOW_ROLE is 1. -/
def State.prioClass (s : State) (n : Nat) : Nat :=
  if s.on F.CRDSn_CFG_FOLLOW_ROLE n then
    (match s.f F.CRDSn_ROLE_ACTIVE_ROLE n with
    | 1 => 1
    | 2 => 3
    | 3 => 2
    | _ => 0)
  else s.f F.CRDSn_CFG_PRIO n

/-- One entrant of a refill. -/
structure Entrant where
  n : Nat
  r : Word64 × Word64
  cls : Nat
  weight : Nat
  want : Nat
  held : Option Nat
  grant : Nat
  deriving DecidableEq, Repr

/-- The demand of a station for the epoch (R77). -/
def State.demand (s : State) (n : Nat) (r : Word64 × Word64) : Nat :=
  let a := max (repSpent r) (if s.on F.CRD_CTRL_FORECAST_EN then s.forecastOf n else 0)
  max a (if s.on F.CRD_CTRL_PREALLOC_EN then Tab.get 0 s.crd.pre.now n else 0) + repStalled r

/-- The held grant due to a station at the boundary after that of the fault's epoch: the sibling's last grant, up to its
room (R101); none where the sibling is frozen too, since its grant is then 0 (R82, log entry 110). -/
def State.heldGrant (s : State) (n : Nat) (r : Word64 × Word64) : Option Nat :=
  let k := s.click n
  match k.heldFor with
  | none => none
  | some (p, e) =>
    if repSplit r && decide (e < s.epoch) && decide (k.fz ≠ 3) then
      let g := if p = 0 then k.g1 else k.g0
      let u := if p = 0 then repU1 r else repU0 r
      some (min g (s.cap n / 2 - u))
    else none

/-- The entrants of this boundary. -/
def State.entrants (s : State) : List Entrant :=
  (allCores.filter (fun n => s.entrant n)).map (fun n =>
    let r := ((s.click n).report).getD (0, 0)
    let u := repU0 r + repU1 r
    let held := s.heldGrant n r
    { n := n, r := r, cls := s.prioClass n, weight := s.f F.CRDSn_CFG_WEIGHT n + 1,
      want := (match held with
        | some _ => 0
        | none => min (s.demand n r - u) (s.entrantCap n r - u)),
      held := held, grant := held.getD 0 })

/-- The sum of min(want, level * weight) over a class, level in 1/16 ec. -/
def classSum (l : List Entrant) (c level : Nat) : Nat :=
  ((l.filter (fun e => e.cls = c)).map (fun e => min e.want (level * e.weight))).sum

/-- The largest level from 0 to 4,096 ec whose sum is at most the pool (R80), found bit by bit. -/
def fillLevel (l : List Entrant) (c pool : Nat) : Nat :=
  [16, 15, 14, 13, 12, 11, 10, 9, 8, 7, 6, 5, 4, 3, 2, 1, 0].foldl (fun acc b =>
    let t := acc + 2 ^ b
    if t ≤ 65536 ∧ classSum l c t ≤ pool then t else acc) 0

/-- Fill the classes from `c` - 1 down: a class that fits is paid whole, the first that does not is water-filled
and the lower ones receive nothing (R80). -/
def fillClasses (l : List Entrant) (c pool : Nat) : List Entrant × Nat :=
  match c with
  | 0 => (l, pool)
  | k + 1 =>
    let sum := ((l.filter (fun e => e.cls = k)).map (·.want)).sum
    if sum ≤ pool then
      fillClasses (l.map (fun e => if e.cls = k ∧ 0 < e.want then { e with grant := e.want } else e)) k (pool - sum)
    else
      let lv := fillLevel l k pool
      (l.map (fun e => if e.cls = k ∧ 0 < e.want then { e with grant := min e.want (lv * e.weight) } else e),
        pool - classSum l k lv)

/-- GRANT0 and GRANT1 of a grant (R82). -/
def State.divideGrant (s : State) (e : Entrant) (g : Nat) : Nat × Nat :=
  let fz := (s.click e.n).fz
  if repSplit e.r then
    if fz.testBit 0 && fz.testBit 1 then (0, 0)
    else if fz.testBit 0 then (0, g)
    else if fz.testBit 1 then (g, 0)
    else
      let x : Int := ((g : Int) + repU1 e.r - repU0 e.r) / 2
      let hi := min g (s.cap e.n / 2 - repU0 e.r)
      let g0 := (clampInt 0 hi x).toNat
      (g0, g - g0)
  else (g, 0)

/-- A grant word (R78). -/
def grantWord (role tag : Nat) (split floor : Bool) (g0 g1 : Nat) : Word64 :=
  BitVec.ofNat 64 (role * 2 ^ 54 + tag * 2 ^ 48 + (if split then 2 ^ 47 else 0) + (if floor then 2 ^ 46 else 0)
    + (g1 % 65536) * 2 ^ 16 + g0 % 65536)

/-- Send a station its grant and keep the division for R101. -/
def State.sendGrant (s : State) (e : Entrant) (g : Nat) (floor : Bool) : State :=
  let d := s.divideGrant e g
  let k := s.click e.n
  let s := s.setClick e.n { k with g0 := d.1, g1 := d.2, report := none }
  let x := s.station e.n
  s.setStation e.n { x with grants := x.grants ++ [grantWord (repRole e.r) (s.epoch % 64) (repSplit e.r) floor d.1 d.2] }

/-- Pay a station's debt from its grant and send the rest (R72, R80). -/
def State.payAndSend (s : State) (e : Entrant) : State :=
  let debt := s.f F.CRDSn_STATUS_DEBT e.n
  let paid := min e.grant debt
  (s.setf F.CRDSn_STATUS_DEBT e.n (debt - paid)).sendGrant e (e.grant - paid) false

/-- What was drained before the present epoch: it counts as reclaimed at this epoch's boundary (R85). -/
def State.drainedDue (s : State) : Nat := s.crd.drained + (if s.crd.drainedAt < s.epoch then s.crd.drainedNow else 0)

/-- Credit reclaimed at this boundary: every RETURNED, and what sleeping stations left (R80, R85). -/
def State.reclaimed (s : State) : Nat :=
  ((allCores.map (fun n => match (s.click n).report with
    | some r => repReturned r
    | none => 0))).sum + s.drainedDue

/-- The boundary's reports are used up: held grants that were due lapse or are paid, what was drained before it is used,
and a station that has sent its first report since its wake enters at the next one (R84, R85, R101). While EN is 0 the
credit reclaimed at a boundary and the held grants due at it are lost (log entry 111). -/
def State.clearReports (s : State) : State :=
  { s with crd := { s.crd with
      clicks := s.crd.clicks.map (fun e => (e.1, { e.2 with
        report := none,
        waking := e.2.waking && !(match e.2.report with
          | some r => repTag r == s.epoch % 64
          | none => false),
        heldFor := match e.2.heldFor with
          | some (p, f) => if f < s.epoch then none else some (p, f)
          | none => none })),
      drained := 0, drainedNow := if s.crd.drainedAt < s.epoch then 0 else s.crd.drainedNow } }

/-- The Clicker's float and deficit, shown in whole ec (R80, R81). -/
def State.setFloat (s : State) (fl df : Nat) : State :=
  let s := { s with crd := { s.crd with float := fl, deficit := df } }
  (s.setf F.CRD_FLOAT_FLOAT 0 (fl / 16)).setf F.CRD_RESERVE_DEFICIT 0 (divUp df 16)

/-- The refill of R80. -/
def State.refill (s : State) : State :=
  let budget := s.crd.budget * 8
  let rec0 := s.reclaimed
  let pool0 : Int := (budget : Int) - (s.f F.CRD_RESERVE_RESERVE + s.f F.THM_REF_RSV_RSV) * 16 + s.crd.float - s.crd.deficit + rec0
  let pool1 := pool0.toNat
  let es := s.entrants
  let held := (es.map (fun e => e.held.getD 0)).sum
  let q := fillClasses es 4 (pool1 - held)
  let s := s.setf F.CRD_BUDGET_BUDGET 0 (budget / 16)
  let s := s.setfSat F.CRD_BUDGET_POOL 0 (pool1 / 16)
  let s := q.1.foldl State.payAndSend s
  let s := s.clearReports
  let s := s.setFloat (min q.2 (s.f F.CRD_FLOAT_FLOAT_MAX * 16)) (held - pool1)
  let s := s.setf F.CRD_CTRL_FROZEN 0 0
  s.trace 0 0 0 (budget / 16) (some (pool1 / 16 + (s.crd.float / 16) * 2 ^ 32 + (rec0 / 16) * 2 ^ 64
    + s.f F.THM_REF_RSV_RSV * 2 ^ 96))

/-- Floor grants while safe state is active (R84). -/
def State.floorGrants (s : State) : State :=
  let es := s.entrants
  let s := es.foldl (fun s e =>
    s.sendGrant e (min (s.f F.CRD_FLOOR_FLOOR) (s.entrantCap e.n e.r - (repU0 e.r + repU1 e.r))) true) s
  let s := s.clearReports
  (s.setFloat 0 0).setf F.CRD_CTRL_FROZEN 0 1

/-- Admitted power: the charges of the last epoch as a power code; 1 ec per epoch is 2 codes (R225, class 0xC). -/
def State.admittedPower (s : State) : Nat :=
  min (divNearest (((allCores.map (fun n => match (s.click n).report with
    | some r => if repTag r = s.epoch % 64 then repSpent r else 0
    | none => 0)).sum : Nat)) 8).toNat 65535

/-- The mean SPENT of the reporting stations of a pre-allocation Last's clusters reaches it (R265). -/
def State.postSpent (s : State) (l : Nat) : State :=
  let x := s.last l
  if x.dest = 2 ∧ s.lastState l ≠ 0 then
    let v := (allCores.filter (fun n => decide (x.clFirst ≤ clusterOf n) && decide (clusterOf n ≤ x.clFirst + x.clCnt))).filterMap
      (fun n => (s.click n).report.map repSpent)
    if v = [] then s else s.post (0x10000 + l) (divNearest (v.sum : Nat) v.length)
  else s

/-- THM_REF_RSV at an epoch boundary: the refresh power of doubled columns and stacks at 8 ec/W, rounded up (R314). -/
def State.refReserve (s : State) : State :=
  let cols := (allCores.filter (fun n => s.on F.THMn_STATUS_REF n)).length
  let edge := ((List.range Config.edgeStacks).filter (fun k => s.on F.THMEs_ZONE_REF k)).length
  s.setfSat F.THM_REF_RSV_RSV 0 (divUp (8 * (cols * s.f F.THM_REF_REF_MW + edge * s.f F.THM_REF_EDGE_REF_MW)) 1000)

/-- The STALLED of an epoch enters the mean of R426. -/
def State.noteStalled (s : State) : State :=
  let v := (allCores.map (fun n => ((s.click n).report.map repStalled).getD 0)).sum
  { s with lace := { s.lace with stallSum := s.lace.stallSum + v, stallNum := s.lace.stallNum + 1 } }

/-- CLICKER_REFILL: once per epoch, after the reports (R80); floor grants in safe state (R84); nothing is granted
while EN is 0 (R74); the clamp changes nothing here (R98). Pending meter clears take effect (R108). During a die reset
the base die updates the refresh reserve alone (R21, R314). -/
def execClickerRefill (s : State) : Host.Outcome State Fault Refusal :=
  .next (if s.started && decide (s.crd.refilled < s.epoch + 1) then
    let s := { s with crd := { s.crd with refilled := s.epoch + 1 } }
    if !s.dieUp then s.refReserve else
    let s := s.noteStalled.refReserve.post 0xC000 s.admittedPower
    let s := allLasts.foldl State.postSpent s
    let s := (List.range 64).foldl State.applyJobClear s
    if !s.on F.CRD_CTRL_EN then
      (if s.safe then s.clearReports.setf F.CRD_CTRL_FROZEN 0 1 else s.clearReports.setf F.CRD_CTRL_FROZEN 0 0)
    else if s.safe then s.floorGrants
    else s.refill
  else s)

/-- Add a grant to a sub-bucket, holding it at the cap; the excess is returned at the next boundary (R82). -/
def State.addGrant (s : State) (n p g : Nat) : State :=
  let b := s.bucket n p
  let cap := s.capOf n
  if g = 0 then s
  else if cap < b + g then
    let x := s.station n
    (s.setStation n { x with toReturn := x.toReturn + (b + g - cap) }).setBucket n p cap
  else s.setBucket n p (b + g)

/-- Discard a grant: its amount returns at the next boundary with STALE set (R83). -/
def State.discardGrant (s : State) (n g : Nat) : State :=
  let x := s.station n
  let s := s.setStation n { x with toReturn := x.toReturn + g, stale := true }
  (s.incf F.CRD_STALE_COUNT_GRANT 0).incf F.CRDSn_STATUS_STALE_CNT n

/-- GRANT_RECEIVE: the oldest grant word in flight reaches its station (R28, R82, R83). A grant that reaches a station in
an entry, after its drain, is discarded as one before its first report is (log entry 112). -/
def execGrantReceive (n : Nat) (s : State) : Host.Outcome State Fault Refusal :=
  let x := s.station n
  .next (match x.grants with
  | w :: rest =>
    if s.coreUp n && s.seamFree 1 2 n then
      let s := s.setStation n { x with grants := rest }
      let g0 := w.toNat % 65536
      let g1 := w.toNat / 65536 % 65536
      if w.toNat / 2 ^ 54 % 256 ≠ s.roleEpoch n ∨ w.toNat / 2 ^ 48 % 64 ≠ s.epoch % 64 ∨ x.reported = false then
        s.discardGrant n (g0 + g1)
      else
        let s := if x.split then (s.addGrant n 0 g0).addGrant n 1 g1 else s.addGrant n 0 (g0 + g1)
        s.hang n 0x01 (min ((g0 + g1) / 16) 255)
    else s
  | [] => s)

/-! ### Ramp tokens (R86 to R92) -/

/-- A station counts as active for R86: an entrant's conditions, without the boundary's report. -/
def State.activeStation (s : State) (n : Nat) : Bool :=
  !s.on F.CRDSn_STATUS_FENCED n && s.f F.PWRd_STATUS_STEP n == 0 && decide (s.f F.CRDSn_ROLE_ACTIVE_ROLE n ≠ 0)

/-- The allowance of a cluster (R86), with the storm reduction of R135 and the zero allowance of R140. -/
def State.allowance (s : State) (c : Nat) : Nat :=
  let w : WeltSt := Tab.get {} s.welt.cl c
  let k := s.cluster c
  let act := (coresOf c).countP (fun n => s.activeStation n)
  let all := allCores.countP (fun n => s.activeStation n)
  let rail := if s.crd.fracDen * all = 0 then 0
    else s.f F.CRD_RAMP_RAIL_RAIL_RAMP * 16 * s.crd.fracNum * act / (s.crd.fracDen * all)
  let a := min (s.f F.CRD_RAMP_RAMP_MAX) (min (k.h * s.f F.CRD_RAMP_RAIL_KW) rail)
  let a := if s.on F.DRPCc_STATUS_STORM c && decide (w.stormFrom ≤ s.window + 1) then
      a * s.f F.DRP_STORM_STORM_RAMP / 16 else a
  if w.zeroAllow then 0 else a

/-- The effective pacing of a cluster and its run at or above PACE_HIGH, after a window's allowance (R92); a swap follows it in
the accelerator, and operation class 1 does not (R91, R93). -/
def State.paceAfter (s : State) (c a : Nat) : Nat × Nat :=
  let k := s.cluster c
  let floor := s.f F.CRDCc_CFG_PACE_FLOOR c
  let run := if s.f F.CRD_PACE_PACE_HIGH ≤ a then k.paceRun + 1 else 0
  if k.pace < floor then (floor, 0)
  else if a < s.f F.CRD_PACE_PACE_LOW then
    (if k.pace < 3 then (k.pace + 1, 0) else (k.pace, run))
  else if 8 ≤ run then (if floor < k.pace then (k.pace - 1, 0) else (k.pace, 8))
  else (k.pace, run)

/-- The ramp allowance word (R87). -/
def rampWord (tag pace a : Nat) : Word64 := BitVec.ofNat 64 (2 ^ 62 + tag * 2 ^ 48 + pace * 2 ^ 18 + a)

/-- RAMP_ALLOWANCE_COMPUTE: the allowance and pacing of the next window go to the cluster's stations (R86, R92). -/
def execRampAllowanceCompute (c : Nat) (s : State) : Host.Outcome State Fault Refusal :=
  let k := s.cluster c
  let w := s.window + 1
  .next (if decide (c < Config.clusterCount) && s.dieUp && s.started && decide (k.forWindow < w + 1) then
    let a := s.allowance c
    let p := s.paceAfter c a
    let s := s.setCluster c { k with forWindow := w + 1, pace := p.1, paceRun := p.2,
                                     words := k.words ++ [rampWord (w % 256) p.1 a] }
    if c = s.f F.TRC_SEL_CLUSTER then s.trace 2 0 c (a * 65536 + p.1) else s
  else s)

/-- Show a cluster's allowance and pacing. -/
def State.showRamp (s : State) (c a pace : Nat) : State :=
  (s.setf F.CRDCc_STATUS_ALLOW c a).setf F.CRDCc_STATUS_PACE_EFF c pace

/-- RAMP_ALLOWANCE_RECEIVE: the oldest word in flight initialises the pool of its window (R28, R87). -/
def execRampAllowanceReceive (c : Nat) (s : State) : Host.Outcome State Fault Refusal :=
  let k := s.cluster c
  .next (match k.words with
  | w :: rest =>
    if decide (c < Config.clusterCount) && s.dieUp && s.seamFree 1 2 (0x400 + c) then
      let tag := w.toNat / 2 ^ 48 % 256
      let a := w.toNat % 65536
      let pace := w.toNat / 2 ^ 18 % 4
      if tag = s.window % 256 then (s.setCluster c { k with words := rest, pool := a }).showRamp c a pace
      else if tag = (s.window + 1) % 256 then s.setCluster c { k with words := rest, next := some (tag, a, pace) }
      else s.setCluster c { k with words := rest }
    else s
  | [] => s)

/-- A station starts a window: its base follows its last two windows (R88). -/
def StationSt.newWindow (x : StationSt) (free : Nat) : StationSt :=
  { x with s2 := x.s1, s1 := x.x, x := 0, base := max x.x x.s1 + free }

/-- RAMP_WINDOW_START: bases and spends of the cluster's stations, and its pool, for the window (R87, R88, R90). -/
def execRampWindowStart (c : Nat) (s : State) : Host.Outcome State Fault Refusal :=
  .next (if decide (c < Config.clusterCount) && s.dieUp && s.due 2 c 100 0 then
    let s := s.serve 2 c
    let free := s.f F.CRD_RAMP_RAMP_FREE
    let s := (coresOf c).foldl (fun s n => s.setStation n ((s.station n).newWindow free)) s
    let k := s.cluster c
    match k.next with
    | some (tag, a, pace) =>
      if tag = s.window % 256 then (s.setCluster c { k with next := none, pool := a }).showRamp c a pace
      else (s.setCluster c { k with next := none, pool := 0 }).showRamp c 0 (s.f F.CRDCc_STATUS_PACE_EFF c)
    | none => (s.setCluster c { k with pool := 0 }).showRamp c 0 (s.f F.CRDCc_STATUS_PACE_EFF c)
  else s)

/-! ### The toe-cap clamp (R94 to R97) -/

/-- The source (bit of CRD_CLAMP_STATUS, unit) has its cause: capacity and over-current of a rail, the storm source, the
supply-sag save, safe state, FORCE (R94). -/
def State.clampCause (s : State) (bit unit : Nat) : Bool :=
  match bit with
  | 0 => decide (unit < Config.railCount) && s.on F.PHRAILr_STATUS_CAP_LOW unit
  | 1 => decide (unit < Config.railCount) && s.on F.PHRAILr_STATUS_OC unit
  | 2 => unit == 0 && s.on F.DRP_STATUS_CLAMP_REQ
  | 3 => unit == 0 && s.sag
  | 4 => unit == 0 && s.safe
  | 5 => unit == 0 && s.on F.CRD_CLAMP_FORCE
  | _ => false

/-- CLAMP_SOURCE_ASSERT: a source that has its cause (bit of CRD_CLAMP_STATUS, unit) asserts (R94, R96). -/
def execClampSourceAssert (bit unit : Nat) (s : State) : Host.Outcome State Fault Refusal :=
  .next (if s.clampCause bit unit then s.clampOn bit unit else s)

/-- CLAMP_RELEASE: every source has been deasserted for HOLD_US (R97). -/
def execClampRelease (s : State) : Host.Outcome State Fault Refusal :=
  .next (match s.crd.clampOff with
  | some t =>
    if s.clamped && !s.clampAny && s.passed t (s.f F.CRD_CLAMP_HOLD_US * 1000) then
      let s := { s with crd := { s.crd with clampOff := none, gateGen := s.crd.gateGen + 1 } }
      let s := s.setf F.CRD_CLAMP_STATUS_ACTIVE 0 0
      let s := { s with lasts := { s.lasts with pred := { s.lasts.pred with heldAt := some s.now } } }
      (s.log 0x0102 0 (s.f ⟨R.CRD_CLAMP_STATUS, 0, 6⟩)).hangStations 0x03
    else s
  | none => s)

/-- A write of CRD_CLAMP: its fields, and FORCE as a clamp source (R94). -/
def writeCrdClamp (by_ : Writer) (w : Word) (s : State) : State × Bool :=
  let q := writeReg s by_ R.CRD_CLAMP 0 w
  (q.1.clampSet 5 0 (q.1.on F.CRD_CLAMP_FORCE), q.2)

/-- CLAMP_FORCE_WRITE: a CFG write of CRD_CLAMP (R94). -/
def execClampForceWrite (priv : Bool) (w : Word) (s : State) : Host.Outcome State Fault Refusal :=
  .next (s.cfgWrite priv R.CRD_CLAMP 0 (writeCrdClamp .cfg w))

/-- A write of CRD_CTRL: a change of EN starts the 1-in-N count again (R74). -/
def writeCrdCtrl (by_ : Writer) (w : Word) (s : State) : State × Bool :=
  let old := s.on F.CRD_CTRL_EN
  let q := writeReg s by_ R.CRD_CTRL 0 w
  (if q.1.on F.CRD_CTRL_EN = old then q.1 else { q.1 with crd := { q.1.crd with gateGen := q.1.crd.gateGen + 1 } }, q.2)

/-! ### Partitions (R100, R102) -/

/-- PARTITION_FAULT: PFAULT[p] rises (R100). -/
def execPartitionFault (n p : Nat) (s : State) : Host.Outcome State Fault Refusal :=
  .next (if s.coreUp n && decide (p < 2) then
    let x := s.station n
    let s := s.setStation n { x with pfault := setBit x.pfault p true }
    if s.frozen n p then s.fault 0x41 n
    else
      let s := s.setFrozen n p true
      let k := s.click n
      let s := s.setClick n { k with heldFor := if x.split then some (p, s.epoch) else none }
      (s.hang n 0x07 p).fault 0x41 n
  else s)

/-- Re-admit a partition, unless the core still signals its fault (R102). -/
def State.readmitPart (s : State) (n p : Nat) : State :=
  if (s.station n).pfault.testBit p then s
  else if s.frozen n p then
    let k := s.click n
    let x := s.station n
    let s := s.setStation n { x with toReturn := x.toReturn + s.bucket n p }
    ((s.setClick n { k with heldFor := none }).setFrozen n p false).setBucket n p 0
  else s

/-- A write of CRDSn_STATUS: writing 1 to PARTp_FROZEN re-admits (R102). -/
def writeCrdsStatus (n : Nat) (w : Word) (s : State) : State × Bool :=
  let s := if w.getLsbD 4 then s.readmitPart n 0 else s
  (if w.getLsbD 5 then s.readmitPart n 1 else s, false)

/-- PARTITION_READMIT: a CFG write of CRDSn_STATUS; `pfault` is the level of PFAULT[1:0] at the write (R102). -/
def execPartitionReadmit (priv : Bool) (n pfault : Nat) (w : Word) (s : State) : Host.Outcome State Fault Refusal :=
  let x := s.station n
  let s := if n < Config.coreCount then s.setStation n { x with pfault := pfault % 4 } else s
  .next (s.cfgWrite priv R.CRDSn_STATUS n (writeCrdsStatus n w))

/-! ### Unit messages (R105, R106) -/

/-- What a unit message code sets (R105); false for a reserved code. -/
def State.unitApply (s : State) (n code arg : Nat) : State × Bool :=
  let w := BitVec.ofNat 32 arg
  match code with
  | 1 => ((writeFields s .firmware R.CRDSn_CFG n [⟨7, 4, .rw⟩, ⟨3, 2, .rw⟩] w).1, true)
  | 2 => ((writeFields s .firmware R.CRDSn_ROLE n [⟨21, 16, .rw⟩] w).1, true)
  | 3 => ((writeFields s .firmware R.CRDSn_CFG n [⟨31, 20, .rw⟩] w).1, true)
  | 4 => (s.readmitPart n (arg % 2), true)
  | 5 => (s, true)
  | _ => (s, false)

/-- The firmware's command that sent this message gets its outcome: 0x1000 + role epoch for an acknowledgement (its
EFFECT is journalled, R391), 0x2000 + role epoch for a stale notice (R106). -/
def State.unitOutcome (s : State) (n msg code : Nat) : State :=
  match s.eye.fw.unitCmds.find? (fun u => u.core = n ∧ u.word = msg) with
  | none => s
  | some u =>
    let s := s.setFw { s.eye.fw with
      unitCmds := s.eye.fw.unitCmds.filter (fun v => v ≠ u),
      outcome := Tab.set 0 s.eye.fw.outcome u.slot (code + s.roleEpoch n) }
    if code = 0x1000 then s.jmod u.slot (fun e => { e with effect := true }) else s

/-- A unit message is stale: it is discarded, counted, and a stale notice with its CODE and the role epoch returns
(R106). -/
def State.staleMessage (s : State) (n : Nat) (w : Word64) : State :=
  let s := s.incf F.CRD_STALE_COUNT_MSG 0
  let s := s.incf F.CRDSn_STATUS_STALE_CNT n
  let s := s.setStation n { s.station n with staleNote := some (w.toNat / 2 ^ 48 % 64, s.roleEpoch n) }
  s.unitOutcome n w.toNat 0x2000

/-- A unit message reaches its station (R105, R106). A word that is both stale and of a reserved CODE is reported and
answered by a stale notice: both rules discard it (log entry 132). A word of TYPE 0b00 or 0b01 is no unit message. -/
def State.unitMessage (s : State) (n : Nat) (w : Word64) : State :=
  let typ := w.toNat / 2 ^ 62
  let code := w.toNat / 2 ^ 48 % 64
  let good := decide (0 < code) && decide (code < 6)
  if typ = 2 then
    let s := if good then s else s.fault 0x47 n
    if w.toNat / 2 ^ 54 % 256 ≠ s.roleEpoch n then s.staleMessage n w
    else if good then (s.unitApply n code (w.toNat % 2 ^ 48)).1.unitOutcome n w.toNat 0x1000
    else s
  else if typ = 3 then s.fault 0x47 n
  else s

/-- A unit message in flight is lost on its seam: the firmware, which has no acknowledgement, sends it again (log entry
106). -/
def State.dropUnitCmd (s : State) (n msg : Nat) : State :=
  s.setFw { s.eye.fw with unitCmds := s.eye.fw.unitCmds.filter (fun u => !(u.core == n && u.word == msg)) }

/-- UNIT_MESSAGE: a station receives a unit message, with the level of PFAULT[1:0] then (R102). During the
supply-sag save it is held, since its acknowledgement is a journal operation (R391, R454). -/
def execUnitMessage (x : UnitIn) (w : Word64) (s : State) : Host.Outcome State Fault Refusal :=
  let n := x.n
  .next (if s.coreUp n && s.seamFree 5 2 n then
    let s := s.setStation n { s.station n with pfault := x.pfault % 4 }
    (if s.sag && s.eye.fw.unitCmds.any (fun u => u.core = n ∧ u.word = w.toNat) then
      { s with flt := { s.flt with heldOps := s.flt.heldOps ++ [.unitMsg n w.toNat] } }
    else s.unitMessage n w)
  else s)

/-! ### Job meters and the cost table -/

/-- A write of JOBm_CTRL: EN takes the value, a 1 in CLEAR requests a clear at the next boundary (R108). -/
def writeJobCtrl (m : Nat) (by_ : Writer) (w : Word) (s : State) : State × Bool :=
  let q := writeReg s by_ R.JOBm_CTRL m w
  (if w.getLsbD 1 then
    let s := { q.1 with crd := { q.1.crd with jobClear := Tab.set 0 q.1.crd.jobClear m (q.1.epoch + 1) } }
    s.setf F.JOBm_CTRL_STATUS m 1
  else q.1, q.2)

/-- JOB_CLEAR_WRITE: a CFG write of JOBm_CTRL (R108). -/
def execJobClearWrite (priv : Bool) (m : Nat) (w : Word) (s : State) : Host.Outcome State Fault Refusal :=
  .next (s.cfgWrite priv R.JOBm_CTRL m (writeJobCtrl m .cfg w))

/-- The index of the cost-table entry selected by CRD_COST_ADDR. -/
def State.costIndex (s : State) : Nat :=
  128 * s.f F.CRD_COST_ADDR_SET + 16 * s.f F.CRD_COST_ADDR_OPCLASS + s.f F.CRD_COST_ADDR_FORMAT

/-- A write of CRD_COST_DATA: the selected entry, then the index when AUTOINC is 1 (R69). -/
def writeCostData (w : Word) (s : State) : State × Bool :=
  let i := s.costIndex
  let s := { s with crd := { s.crd with cost := Tab.set 0 s.crd.cost i w } }
  (if s.on F.CRD_COST_ADDR_AUTOINC then s.setf ⟨R.CRD_COST_ADDR, 0, 11⟩ 0 (i + 1) else s, false)

/-- COST_DATA_WRITE: a CFG write of CRD_COST_DATA (R69). -/
def execCostDataWrite (priv : Bool) (w : Word) (s : State) : Host.Outcome State Fault Refusal :=
  .next (s.cfgWrite priv R.CRD_COST_DATA 0 (writeCostData w))

/-! ### What other chapters do to a station -/

/-- Credit comes back to the Clicker: it counts as reclaimed at the next boundary (R83, R85). -/
def State.addDrained (s : State) (g : Nat) : State :=
  if s.crd.drainedAt = s.epoch then { s with crd := { s.crd with drainedNow := s.crd.drainedNow + g } }
  else { s with crd := { s.crd with drained := s.crd.drained + s.crd.drainedNow, drainedNow := g, drainedAt := s.epoch } }

/-- The credit of a grant word. -/
def grantOf (w : Word64) : Nat := w.toNat % 65536 + w.toNat / 65536 % 65536

/-- A station's balance is drained: it counts as reclaimed at the next boundary (R85). What it has reported stays
reported, and until it wakes a grant that reaches it is discarded under R83 (log entry 112). -/
def State.drainStation (s : State) (n : Nat) : State :=
  let b := s.bucket n 0 + s.bucket n 1
  let x := s.station n
  let s := s.setStation n { x with toReturn := 0, reported := false }
  let s := s.setClick n { s.click n with heldFor := none }
  ((s.addDrained (b + x.toReturn)).setBucket n 0 0).setBucket n 1 0

/-- The seams into a station are flushed (R31): the grants in flight return to the Clicker's next pool, and the firmware
sends the unit messages again (log entry 106). -/
def State.flushStation (s : State) (n : Nat) : State :=
  let x := s.station n
  let s := s.setFw { s.eye.fw with unitCmds := s.eye.fw.unitCmds.filter (fun u => u.core ≠ n) }
  (s.setStation n { x with grants := [] }).addDrained ((x.grants.map grantOf).sum)

/-- A station's clock stops in an entry: what it has admitted since its last report is charged (R107), since it cannot
report at the epoch's end (log entry 113). -/
def State.settleStation (s : State) (n : Nat) : State :=
  let x := s.station n
  (s.setStation n { x with spent := 0, stalled := 0, headStalled := false, stretches := 0 }).chargeJob x.job (min x.spent 65535)

/-- A station wakes: an empty bucket, no report yet, its counts from the start (R74, R85). Its window spends start from 0
and its base from RAMP_FREE, after an aborted or reversed entry too (log entry 114). -/
def State.wakeStation (s : State) (n : Nat) : State :=
  let x := s.station n
  let s := s.setStation n { x with reported := false, gateGen := 0, x := 0, s1 := 0, s2 := 0,
                                   base := s.f F.CRD_RAMP_RAMP_FREE }
  let s := s.setClick n { s.click n with waking := true }
  (s.setBucket n 0 0).setBucket n 1 0

/-- Set a seam's record. -/
def State.setSeam (s : State) (k : Nat) (x : SeamSt) : State := { s with seams := Tab.set {} s.seams k x }

/-- The words in flight on a seam whose words the spec lays out, oldest first; none for another seam (R76, R78, R87,
R105). -/
def State.inFlight (s : State) (src dst unit : Nat) : Option (List Word64) :=
  if src = 1 ∧ dst = 2 then (if unit < 0x400 then some (s.station unit).grants else some (s.cluster (unit - 0x400)).words)
  else if src = 2 ∧ dst = 1 then some (match (s.station unit).report with
    | some r => [r.1, r.2]
    | none => [])
  else if src = 5 ∧ dst = 2 then
    some ((s.eye.fw.unitCmds.filter (fun u => u.core = unit)).map (fun u => BitVec.ofNat 64 u.word))
  else none

end Sys2Proof.Machine
end

