-- ==== Sys2Proof/Machine/CapOps.lean ====
section
/-! DEFINITION. The caps on cluster dividers and cycle skips (R238, R242, R315, R316, R322 to R324, R573). -/
namespace Sys2Proof.Machine
open Sys2Proof

/-- The caps that the competition groups send for a destination and a cluster (R238, R242). -/
def State.groupCaps (s : State) (dest c : Nat) : List Nat :=
  s.loop.groups.filterMap (fun (e : Nat × GroupSt) => match e.2.cap with
    | some (d, i, n, v) => if d = dest ∧ i ≤ c ∧ c ≤ i + n then some v else none
    | none => none)

/-- The core is collective-critical in the open window (R322). -/
def State.winCrit (s : State) (n : Nat) : Bool := s.bitf F.THM_WIN_CRITk_CRIT (n / 32) (n % 32)

/-- The cycle skip in effect for a core: the cap that throttles most (R242, R315, R316, R322 to R324). -/
def State.effSkip (s : State) (n : Nat) : Nat :=
  let c := clusterOf n
  let loop := if s.on F.THMn_STATUS_EXEMPT n then 0 else ((s.groupCaps 3 c).map (fun o => 16 - o)).foldl max 0
  let thr := if s.on F.THMn_STATUS_BACKSTOP n then s.f F.THM_BACKSTOP_THR_SKIP else 0
  let hard := if s.on F.THMn_STATUS_HARD_BS n then s.f F.THM_BACKSTOP_HARD_SKIP else 0
  let crit := if s.f F.THM_WIN_STATUS_STATE = 2 ∧ s.winCrit n then s.f F.THM_WIN_CFG_CRIT_SKIP else 0
  let win := if Tab.get false s.thm.winCl c && !s.winCrit n then s.f F.THM_WIN_CFG_WIN_SKIP else 0
  max loop (max thr (max hard (max crit win)))

/-- The divider code in effect for a cluster: the least cap (R242, R315, R323). -/
def State.effDiv (s : State) (c : Nat) : Nat :=
  let exempt := (coresOf c).any (fun n => s.on F.THMn_STATUS_EXEMPT n)
  let loop := if exempt then 3 else (s.groupCaps 2 c).foldl min 3
  if (coresOf c).any (fun n => s.on F.THMn_STATUS_HARD_BS n) then min loop (s.f F.THM_BACKSTOP_HARD_DIV) else loop

/-- Apply the caps to a cluster: the divider and the skip of its stations (R573). -/
def State.applyCaps (s : State) (c : Nat) : State :=
  let s := { s with loop := { s.loop with div := Tab.set 3 s.loop.div c (s.effDiv c) } }
  (coresOf c).foldl (fun s n =>
    let k := s.effSkip n
    if (s.station n).skip = k then s else s.setStation n { s.station n with skip := k }) s

/-- Apply the caps to every cluster. -/
def State.applyAllCaps (s : State) : State := allClusters.foldl State.applyCaps s

end Sys2Proof.Machine
end

