-- ==== Sys2Proof/Machine/TreadOps.lean ====
section
/-! DEFINITION. Service time, the wear fractions, and the thermal-cycle count that other chapters drive (R463, R465,
R468, R478). -/
namespace Sys2Proof.Machine
open Sys2Proof

/-- The largest value below 2^`bits` for which `ok` holds, `ok` true up to it and false after (binary search by bits). -/
def largest (bits : Nat) (ok : Nat → Bool) : Nat :=
  ((List.range bits).reverse).foldl (fun acc b => if ok (acc + 2 ^ b) then acc + 2 ^ b else acc) 0

/-- `m * (n / d) ^ (q / 16)` rounded to the nearest integer, at most 2^32 - 1. -/
def powNearest (m n d q : Nat) : Nat :=
  largest 32 (fun k => decide ((2 * k - 1) ^ 16 * d ^ q ≤ (2 * m) ^ 16 * n ^ q))

/-! ### Service time (R463) -/

/-- Nanoseconds in a service day. -/
def dayNs : Nat := 86400000000000

/-- Service time in ns: what was restored and the count's advance since its start (R463). -/
def State.service (s : State) : Nat :=
  if s.started then (s.trd.base + (s.time.count - s.trd.from_).toNat) % 2 ^ 64 else s.trd.base

/-- The present service day. -/
def State.today (s : State) : Nat := s.service / dayNs

/-- The monitors and re-planning run (TRD_CTRL.EN). -/
def State.treadOn (s : State) : Bool := s.started && s.vgov && s.on F.TRD_CTRL_EN

/-! ### The monitors (R465) -/

/-- An instance is present (R2, R465). -/
def instPresent (i : Nat) : Bool :=
  if i < 64 then decide (i < Config.clusterCount)
  else if i < 72 then decide (i - 64 < Config.railCount)
  else if i < 168 then decide (i - 72 < Config.phaseCount)
  else if i < 170 then true
  else decide (i < 170 + Config.clusterCount)

/-- The greater of two fractions. -/
def maxFrac (a b : Nat × Nat) : Nat × Nat := if a.1 * b.2 < b.1 * a.2 then b else a

/-- The wear fraction of an instance as numerator and denominator; none where its baseline is 0 (R465). -/
def State.wear (s : State) (i : Nat) : Option (Nat × Nat) :=
  if i < 64 then
    if s.f F.TRDCc_TVT_D0 i = 0 then none
    else some ((s.fi F.TRDCc_TVT_DRIFT i).toNat, 4 * max 1 (s.f F.TRD_MARGIN_DRIFT_MAX))
  else if i < 72 then
    some (s.pair R.TRDRr_ACC_LO R.TRDRr_ACC_HI (i - 64), max 1 (s.f F.TRDRr_CFG_LIFE (i - 64)) * 3600000000000)
  else if i < 168 then some (s.f F.TRDPp_CYC_EQ (i - 72), 1600 * max 1 (s.f F.TRD_CYC_CYC_LIFE))
  else if i = 168 then
    some (maxFrac
      (100 * s.f F.TRD_HOLD_LIM_C_NOM - s.f F.TRD_HOLD_C,
        100 * max 1 (s.f F.TRD_HOLD_LIM_C_NOM - s.f F.TRD_HOLD_LIM_C_MIN))
      (s.f F.TRD_HOLD_ESR - 100 * s.f F.TRD_HOLD_LIM_ESR_NOM,
        100 * max 1 (s.f F.TRD_HOLD_LIM_ESR_MAX - s.f F.TRD_HOLD_LIM_ESR_NOM)))
  else if i = 169 then
    let z0 := s.f F.TRD_PDN_Z0
    if z0 = 0 then none else some ((s.f F.TRD_PDN_MEAS_Z_PEAK - z0) * 256, z0 * max 1 (s.f F.TRD_PDN_Z_RISE))
  else
    let c := i - 170
    let r0 := s.f F.TRDCc_RET_RET0 c
    let rm := s.f F.TRD_RET_RET_MIN
    let r := s.f F.TRDCc_RET_RET c
    if r0 = 0 then none
    else if r0 ≤ rm then some (Config.retWear r0 rm r, 4096)
    else some (r0 - r, r0 - rm)

/-- The wear code: 2^-12, saturating. -/
def wearCode (w : Nat × Nat) : Nat := min (divNearest ((4096 * w.1 : Nat) : Int) w.2).toNat 65535

/-- The W of an instance as its code; 0 where it has none. -/
def State.wearOf (s : State) (i : Nat) : Nat := ((s.wear i).map wearCode).getD 0

/-! ### Notices and flags (R478, R479) -/

/-- A TREAD notice. -/
def State.treadNotice (s : State) (code inst arg : Nat) : State :=
  s.notice 0xA inst (code * 2 ^ 24 + min arg (2 ^ 24 - 1))

/-- Instances with WARN or WORN, as the status counts them. -/
def State.showWear (s : State) : State :=
  (s.setfSat F.TRD_STATUS_N_WARN 0 s.trd.warn.length).setfSat F.TRD_STATUS_N_WORN 0 s.trd.worn.length

/-- WORN is set when W reaches 1; its first setting is noticed (R478). -/
def State.checkWorn (s : State) (i : Nat) : State :=
  let reached := match s.wear i with
    | some (n, d) => decide (d ≤ n)
    | none => false
  if reached && instPresent i && !Tab.get false s.trd.worn i then
    (({ s with trd := { s.trd with worn := Tab.set false s.trd.worn i true } }).showWear).treadNotice 0x07 i 0
  else s

/-! ### Thermal cycles (R468) -/

/-- CYC_DT of R468, in 1/16 °C. -/
def State.cycDt (s : State) : Nat := max (s.f F.TRD_CYC_CYC_DT) 1 * 16

/-- Record an extreme and add its equivalent cycles, in 1/16 cycle (R468). -/
def State.cycRecord (s : State) (p : Nat) (x : CycSt) (ext : Int) : State :=
  let dT := (ext - x.prev).natAbs
  let add := if dT = 0 then 0 else powNearest 8 dT s.cycDt (s.f F.TRD_CYC_CYC_Q)
  (s.satf F.TRDPp_CYC_EQ p add).checkWorn (72 + p)

/-- One valid stage temperature enters the thermal-cycle count of its phase (R468). -/
def State.cycTemp (s : State) (p : Nat) (t : Int) : State :=
  let x : CycSt := Tab.get {} s.trd.cyc p
  let put := fun (s : State) (y : CycSt) => { s with trd := { s.trd with cyc := Tab.set {} s.trd.cyc p y } }
  if !s.treadOn then s
  else if !x.started then put s { started := true, prev := t, hi := t, lo := t, last := 0 }
  else
    let hi := max x.hi t
    let lo := min x.lo t
    let dt : Int := s.cycDt
    if x.last ≠ 2 ∧ t + dt ≤ hi then
      put (s.cycRecord p x hi) { x with prev := hi, hi := t, lo := t, last := 2 }
    else if x.last ≠ 1 ∧ lo + dt ≤ t then
      put (s.cycRecord p x lo) { x with prev := lo, hi := t, lo := t, last := 1 }
    else put s { x with hi := hi, lo := lo }

end Sys2Proof.Machine
end

