-- ==== Sys2Proof/Machine/Welt.lean ====
section
/-! DEFINITION. Cluster voltage, width classes and droop (spec chapter 03). Voltages inside this file are in 1/16 mV
unless a code of R4 is named; classes are 0 N, 1 M, 2 W. -/
namespace Sys2Proof.Machine
open Sys2Proof

/-- A cluster's Welt controller. -/
def State.weltC (s : State) (c : Nat) : WeltSt := Tab.get {} s.welt.cl c

/-- Set a cluster's Welt controller. -/
def State.setWelt (s : State) (c : Nat) (w : WeltSt) : State :=
  { s with welt := { s.welt with cl := Tab.set {} s.welt.cl c w } }

/-- A cluster is present and the compute die operates. -/
def State.clusterUp (s : State) (c : Nat) : Bool := decide (c < Config.clusterCount) && s.dieUp

/-- A cluster's domain is ON (R115). -/
def State.clusterOn (s : State) (c : Nat) : Bool := s.f F.PWRd_STATUS_STEP (0x400 + c) == 0

/-- The voltage code of a whole number of mV, held to the 12 bits of a code (R4). -/
def mvCode (mv : Int) : Nat := (clampInt 0 4095 ((mv - 300) * 4)).toNat

/-- Set the need of class `k`. -/
def State.setNeed (s : State) (c k v : Nat) : State :=
  match k with
  | 0 => s.setf F.WELTc_NEED_N_NEED_N c v
  | 1 => s.setf F.WELTc_NEED_WM_NEED_M c v
  | _ => s.setf F.WELTc_NEED_WM_NEED_W c v

/-- The cluster's present class. -/
def State.clsNow (s : State) (c : Nat) : Nat := s.f F.WELTc_STATUS_CLASS c

/-- The target of class `k` with the kick in progress: the need raised by KICK_MV, limited by dropout, so not above what the
rail leaves over the dropout as last reported, and never lowered (R131). -/
def State.targetOf (s : State) (c k : Nat) : Nat :=
  let w := s.weltC c
  let need := s.need16 c k
  need + (match w.kickUntil with
    | some _ => min (s.f F.WELT_CTRL_KICK_MV * 16) (w.room - need)
    | none => 0)

/-- The cluster target: the need of its class, or of the class a class-up goes to, raised by a kick (R111, R121, R131). -/
def State.clusterTarget (s : State) (c : Nat) : Nat := s.targetOf c ((s.weltC c).reqClass.getD (s.clsNow c))

/-- The drop setting: the Rail 0 set-point minus the target, held between 0 mV and 150 mV; 0 while the pass device is held
fully on (R111, R114). It is kept in 1/16 mV, whatever the regulator's steps of 1 mV make of it (log entry 115). -/
def State.dropSetting (s : State) (c : Nat) : Nat :=
  if s.welt.en then min (s.f F.RAILr_SETPT_SETPT 0 - s.clusterTarget c) 2400 else 0

/-- The trip level of the cluster's detectors (R127, R128): TRIP_MV, held to 10 to 100 mV, below the target they follow,
which is that of the class last signalled ready. -/
def State.tripLevel (s : State) (c : Nat) : Nat :=
  s.targetOf c (s.weltC c).tripClass - max 10 (min (s.f F.DRP_CTRL_TRIP_MV) 100) * 16

/-- The tap of detector `d` of core `n`: the calibration table's for the target in mV, adjusted by the detector's TRIM
(R127; log entry 116). -/
def State.detectorTap (s : State) (n d : Nat) : Int :=
  let c := clusterOf n
  (Config.tapFor (s.targetOf c (s.weltC c).tripClass / 16) : Int) + s.fi ⟨R.DRPn_CFG, 6 * d, 6⟩ n

/-- ILIM_A in 1/8 A: values above 120 act as 120. -/
def State.ilim (s : State) : Nat := min (s.f F.WELT_CLASS_ILIM_A) 120 * 8

/-- CLASS_CEIL: 0b11 acts as W. -/
def State.classCeil (s : State) (c : Nat) : Nat := min (s.f F.WELTc_CFG_CLASS_CEIL c) 2

/-- Set the class and trace the change. -/
def State.setClass (s : State) (c k : Nat) : State :=
  if s.clsNow c = k then s else (s.setf F.WELTc_STATUS_CLASS c k).trace 7 0 c k

/-- Clear CLASS_WAIT of the cluster's stations whose head token's class is signalled ready (R122). -/
def State.clearWaits (s : State) (c : Nat) : State :=
  (coresOf c).foldl (fun s n => match s.head n with
    | some t => if s.on F.CRDSn_STATUS_CLASS_WAIT n && s.classReady c t.cls then s.setf F.CRDSn_STATUS_CLASS_WAIT n 0 else s
    | none => s) s

/-- Class-ready follows the needs, the output and EN: a class-up whose class is signalled ready is over, and the trip level
follows the new target (R114, R122, R128). -/
def State.classSettle (s : State) (c : Nat) : State :=
  let w := s.weltC c
  let s := match w.reqClass with
    | some k => if s.classReady c k then
        (s.setWelt c { w with reqClass := none, tripClass := k }).setf F.WELTc_STATUS_RISING c 0
      else s
    | none => s
  s.clearWaits c

/-! ### Headroom, need, rail need, dissipation -/

/-- The 90 % and limit tests of R140 on a new current: a current below ILIM_A is no longer limited (log entry 117). -/
def State.noteCurrent (s : State) (c iout : Nat) : State :=
  let w := s.weltC c
  let below := decide (iout * 10 < s.ilim * 9)
  let s := s.setWelt c { w with below90 := if below then (match w.below90 with
      | some t => some t
      | none => some s.now) else none }
  if s.on F.WELTc_STATUS_ILIM c && decide (iout < s.ilim) then
    let w := s.weltC c
    (s.setWelt c { w with ilimAt := none, ilimTold := false }).setf F.WELTc_STATUS_ILIM c 0
  else s

/-- WELT_HEADROOM_REPORT: at a 100 ns boundary the controller of cluster `c` reports H and its current (R113); a write
of EN takes effect here (R114). `vrail` and `vout` are the actual rail and output, `dropout` the dropout at the present
current, all in 1/16 mV; `iout` is a current code. In dropout DROPOUT reads 1 (R112). -/
def execWeltHeadroomReport (c vrail vout iout dropout : Nat) (s : State) : Host.Outcome State Fault Refusal :=
  .next (if s.clusterUp c && s.due 3 c 100 0 then
    let s := s.serve 3 c
    let s := { s with welt := { s.welt with en := s.on F.WELT_CTRL_EN } }
    let h := if s.welt.en then min (((vrail - vout) - dropout) / 16) 255 else 0
    let s := s.setWelt c { s.weltC c with vout := vout, drop := vrail - vout, room := vrail - dropout }
    let d := decide (vrail < s.clusterTarget c + dropout)
    let s := if s.on F.WELTc_STATUS_DROPOUT c = d then s
      else (s.setb F.WELTc_STATUS_DROPOUT c d).trace 7 2 c (if d then 1 else 0)
    let s := s.setf F.WELTc_STATUS_DROP_ACT c (min (divNearest ((vrail - vout : Nat) : Int) 16).toNat 255)
    let s := s.setf F.WELTc_STATUS_HEADROOM c h
    let i := min iout 65535
    let s := (s.setf F.WELTc_POWER_IOUT c i).telem (0x20000000 + c) i
    let k := s.cluster c
    let s := (s.setCluster c { k with h := h, iout := i }).notePower c i vout (s.clusterOn c && s.welt.en)
    (s.noteCurrent c i).classSettle c
  else s)

/-- ceil((SLACK_TGT - slack) / SENS) in mV, from the sum of 8 slacks; SENS is in 1/16 ps per mV, 0 acting as 1 (R117). -/
def slackMv (tgt : Nat) (sum : Int) (sens : Nat) : Int :=
  -((-(((tgt : Int) * 8 - sum) * 2)) / (max sens 1 : Nat))

/-- The new need of a class in whole mV, rounded up (R117). -/
def needMv (voutSum tgt : Nat) (sum : Int) (sens guard : Nat) : Int :=
  ((divUp voutSum 128 : Nat) : Int) + slackMv tgt sum sens + guard

/-- A new need: at once when higher, by at most 1 mV when lower (R118). -/
def fallNeed (old new : Nat) : Nat := if old ≤ new then new else max new (old - 4)

/-- One cluster's needs of its 8 samples (R117 to R119), and its class-ready. The first need falls from the Rail 0 set-point
in whole mV, rounded up as needs are (log entry 118). -/
def State.needOne (s : State) (i : NeedIn) : State :=
  let c := i.c
  if decide (c < Config.clusterCount) then
    let tgt := s.f F.WELT_CLASS_SLACK_TGT
    let valid := s.on F.WELTc_STATUS_NEED_VALID c
    let setp := mvCode (divUp (s.f F.RAILr_SETPT_SETPT 0) 16)
    let upd := fun (s : State) (k : Nat) (sum : Int) (sens guard : Nat) =>
      let old := if valid then s.needCode c k else setp
      s.setNeed c k (fallNeed old (mvCode (needMv i.voutSum tgt sum sens guard)))
    let s := upd s 2 i.slackW (s.f F.WELT_SENS_SENS_W) (s.f F.WELTc_GUARD_GUARD_W c)
    let s := upd s 1 i.slackM (s.f F.WELT_SENS_SENS_M) (s.f F.WELTc_GUARD_GUARD_M c)
    let s := upd s 0 i.slackN (s.f F.WELT_SENS_SENS_N) (s.f F.WELTc_GUARD_GUARD_N c)
    let s := s.setf F.WELTc_STATUS_NEED_VALID c 1
    let s := s.setfiSat F.WELTc_SLACK_SLACK_W c (divNearest i.slackW 8)
    let s := s.setfiSat F.WELTc_SLACK_SLACK_M c (divNearest i.slackM 8)
    let s := s.setfiSat F.WELTc_SLACK_SLACK_N c (divNearest i.slackN 8)
    (s.setWelt c { s.weltC c with vout := i.voutSum / 8 }).classSettle c
  else s

/-- The dissipation of a cluster in 1/16 W: its current (a code) times its actual drop (1/16 mV), nearest (R126). -/
def dissCode (iout drop : Nat) : Nat := min (divNearest ((min iout 65535 * drop : Nat) : Int) 8000).toNat 65535

/-- A cluster's dissipation as its controller reports it at this update: of the current and the drop given with its
samples, else of those it last reported (R126; log entry 119). -/
def State.dissOf (s : State) (l : List NeedIn) (c : Nat) : Nat :=
  match l.find? (fun i => i.c = c) with
  | some i => dissCode i.iout i.drop
  | none => dissCode (s.f F.WELTc_POWER_IOUT c) (s.weltC c).drop

/-- Show a cluster's dissipation. -/
def State.showDiss (s : State) (c p : Nat) : State :=
  if s.f F.WELTc_POWER_DISS c = p then s else (s.setf F.WELTc_POWER_DISS c p).telem (0x21000000 + c) p

/-- A counted cluster (R115). -/
def State.counted (s : State) (c : Nat) : Bool := s.clusterOn c && s.on F.WELTc_STATUS_NEED_VALID c

/-- The need of a cluster at its effective ceiling class. -/
def State.ceilNeed (s : State) (c : Nat) : Nat := s.needCode c (s.f F.WELTc_STATUS_CEIL_EFF c)

/-- The counted cluster with the greatest need at its ceiling, the lowest number among equals. -/
def State.needSetter (s : State) : Option Nat :=
  (allClusters.filter (fun c => s.counted c)).foldl (fun b c => match b with
    | none => some c
    | some d => if s.ceilNeed d < s.ceilNeed c then some c else some d) none

/-- The rail need is formed and sent to the loop engine: a code, or 0 while it is empty (R115). -/
def State.sendRailNeed (s : State) : State :=
  match s.needSetter with
  | none =>
    let s := (s.setf F.WELT_RAIL_NEED_NEED 0 0).setf F.WELT_RAIL_NEED_SETTER 0 0
    { s with welt := { s.welt with needSent := some 0 } }
  | some c =>
    let v := min (s.ceilNeed c + 4 * (s.f F.WELT_CTRL_HEADROOM_MV + s.f F.DRP_NUDGE_NUDGE)) 4095
    let s := (s.setf F.WELT_RAIL_NEED_NEED 0 v).setf F.WELT_RAIL_NEED_SETTER 0 c
    { s with welt := { s.welt with needSent := some v } }

/-- NEED_UPDATE: every 1 µs, the needs of the clusters whose samples are given, every cluster's dissipation and the rail
need (R115, R117, R126). -/
def execNeedUpdate (l : List NeedIn) (s : State) : Host.Outcome State Fault Refusal :=
  .next (if s.dieUp && s.due 4 0 1000 0 then
    let s := s.serve 4 0
    let s := l.foldl State.needOne s
    let s := allClusters.foldl (fun s c => s.showDiss c (s.dissOf l c)) s
    let d := (allClusters.map (fun c => s.f F.WELTc_POWER_DISS c)).sum
    let s := s.setPair R.WELT_LOSS_LO R.WELT_LOSS_HI 0 (s.pair R.WELT_LOSS_LO R.WELT_LOSS_HI + 8 * d)
    let s := (s.setf F.WELT_DISS_DISS 0 (min d 65535)).telem 0x22000000 (min d 65535)
    s.sendRailNeed
  else s)

/-! ### Classes and ceilings (R120 to R125) -/

/-- The class of an admission within the last `d` ns, widest first. -/
def WeltSt.admitted (w : WeltSt) (now d : Nat) : Nat :=
  if w.admitW ≠ 0 ∧ now + 1 - w.admitW < d then 2
  else if w.admitM ≠ 0 ∧ now + 1 - w.admitM < d then 1
  else 0

/-- The widest class of the tiles running in a cluster. -/
def State.runningClass (s : State) (c : Nat) : Nat :=
  ((coresOf c).flatMap (fun n => (s.station n).running.map Token.cls)).foldl max 0

/-- The class R120 gives a cluster at this time. -/
def State.classOf (s : State) (c : Nat) : Nat :=
  max ((s.weltC c).admitted s.now.toNat 2000) (s.runningClass c)

/-- CEIL_HOLD_MS in ns; 0 acts as 1. -/
def State.ceilHold (s : State) : Nat := max (s.f F.WELT_CLASS_CEIL_HOLD_MS) 1 * 1000000

/-- The effective ceiling (R125): CLASS_CEIL, the classes admitted within the hold, and a class-up in progress. -/
def State.ceilOf (s : State) (c : Nat) : Nat :=
  max (max (s.classCeil c) ((s.weltC c).admitted s.now.toNat s.ceilHold)) ((s.weltC c).reqClass.getD 0)

/-- CLASS_UP_REQUEST: the head token of core `n` is wider than its cluster's class (R121, R123 to R125). Where class-ready is
signalled for its class at once, as while EN is 0, the class-up is over at once (R114). -/
def execClassUpRequest (n : Nat) (s : State) : Host.Outcome State Fault Refusal :=
  let c := clusterOf n
  .next (match s.head n with
  | some t =>
    let w := s.weltC c
    if s.coreUp n && decide (max (s.clsNow c) (w.reqClass.getD 0) < t.cls) then
      let s := s.setf F.CRDSn_STATUS_CLASS_WAIT n 1
      let s := s.noteAdmit c t.cls
      let w := s.weltC c
      let s := s.setWelt c { w with reqClass := some t.cls }
      let s := (s.setClass c t.cls).setf F.WELTc_STATUS_RISING c 1
      (s.incf F.WELTc_COUNT_CLASS_UPS c).classSettle c
    else if s.coreUp n && !s.classReady c t.cls then s.setf F.CRDSn_STATUS_CLASS_WAIT n 1
    else s
  | none => s)

/-- CLASS_READY: the output is now `vout` (1/16 mV); where it has reached the need of the requested class less 4 mV,
class-ready is signalled and the trip level follows the new target (R122, R128). -/
def execClassReady (c vout : Nat) (s : State) : Host.Outcome State Fault Refusal :=
  .next (if s.clusterUp c then (s.setWelt c { s.weltC c with vout := vout }).classSettle c else s)

/-- CLASS_EXPIRE: the class narrows to what R120 gives, unless a class-up is in progress (R124). -/
def execClassExpire (c : Nat) (s : State) : Host.Outcome State Fault Refusal :=
  .next (if s.clusterUp c then
    let w := s.weltC c
    let k := s.classOf c
    if w.reqClass = none ∧ k < s.clsNow c then
      let s := s.setWelt c { w with tripClass := k }
      s.setClass c k
    else s
  else s)

/-- CEIL_HOLD_EXPIRE: the effective ceiling narrows towards CLASS_CEIL (R125). -/
def execCeilHoldExpire (c : Nat) (s : State) : Host.Outcome State Fault Refusal :=
  .next (if s.clusterUp c && decide (s.ceilOf c < s.f F.WELTc_STATUS_CEIL_EFF c) then
    s.setf F.WELTc_STATUS_CEIL_EFF c (s.ceilOf c) else s)

/-- A write of WELTc_CFG: the ceiling follows CLASS_CEIL within R125. -/
def writeWeltCfg (c : Nat) (by_ : Writer) (w : Word) (s : State) : State × Bool :=
  let q := writeReg s by_ R.WELTc_CFG c w
  (q.1.setf F.WELTc_STATUS_CEIL_EFF c (q.1.ceilOf c), q.2)

/-! ### Droop trips, stretches, kicks, storms (R129 to R137) -/

/-- Close the epochs that have ended since the cluster's account was last brought up to date (R134, R137). Whatever changes
the cluster's storm or its domain's state brings the account up to date first. -/
def State.rollEpoch (s : State) (c : Nat) : State :=
  let w := s.weltC c
  let e := s.epoch
  if e = w.tripsEpoch then s
  else if e < w.tripsEpoch then s.setWelt c { w with tripsEpoch := e }
  else
    let k := e - w.tripsEpoch
    let quietNow := decide (w.trips ≤ s.f F.DRP_STORM_STORM_TRIPS)
    let storm := s.on F.DRPCc_STATUS_STORM c
    let on := s.clusterOn c
    let counted := (if w.onSeen || on then 1 else 0) + (if on then k - 1 else 0)
    let stormy := (if (w.onSeen || on) && (w.stormSeen || storm) then 1 else 0) + (if on && storm then k - 1 else 0)
    let s := s.setf F.DRPCc_STATUS_TRIPS_LAST c (if k = 1 then min w.trips 255 else 0)
    let s := s.setWelt c { w with
      trips := 0, tripsEpoch := e, stormSeen := storm, onSeen := on,
      quiet := (if quietNow then w.quiet + k else k - 1) }
    { s with welt := { s.welt with epochs := s.welt.epochs + counted, storms := s.welt.storms + stormy } }

/-- Every cluster's account starts at the present epoch. -/
def State.stormsFrom (s : State) (e : Nat) : State :=
  allClusters.foldl (fun s c => s.setWelt c { s.weltC c with tripsEpoch := e }) s

/-- The epoch in progress goes on as epoch `e`: a step of the count has jumped over its end (R574). -/
def State.jumpStorms (s : State) (e : Nat) : State := (allClusters.foldl State.rollEpoch s).stormsFrom e

/-- The cluster's domain is ON at some time of the present epoch (R137). -/
def State.noteOn (s : State) (c : Nat) : State :=
  if s.clusterOn c then s.setWelt c { s.weltC c with onSeen := true } else s

/-- The storm source of the clamp follows R136. -/
def State.stormClamp (s : State) : State :=
  let wide := decide (max (s.f F.DRP_STORM_STORM_CLUSTERS) 1 ≤ s.f F.DRP_STATUS_STORMS)
  let long := allClusters.any (fun c => (s.weltC c).stormLong)
  let s := s.setb F.DRP_STATUS_CLAMP_REQ 0 (wide || long)
  s.clampSet 2 0 (wide || long)

/-- A ramp allowance under the storm reduction (R135). -/
def State.stormCut (s : State) (a : Nat) : Nat := a * s.f F.DRP_STORM_STORM_RAMP / 16

/-- An allowance of the first window after the entry that has left already is reduced as well (R135; log entry 120). -/
def State.cutSent (s : State) (c : Nat) : State :=
  let k := s.cluster c
  let tag := (s.window + 1) % 256
  s.setCluster c { k with
    words := k.words.map (fun w => if w.toNat / 2 ^ 48 % 256 = tag then
      rampWord tag (w.toNat / 2 ^ 18 % 4) (s.stormCut (w.toNat % 65536)) else w),
    next := k.next.map (fun x => if x.1 = tag then (tag, s.stormCut x.2.1, x.2.2) else x) }

/-- A cluster enters a storm (R134 to R136). -/
def State.enterStorm (s : State) (c : Nat) : State :=
  let w := s.weltC c
  let s := s.setWelt c { w with
    stormAt := some s.now, stormFrom := s.window + 1, stormSeen := true, quiet := 0, stormLong := false }
  let s := s.setf F.DRPCc_STATUS_STORM c 1
  let s := s.incf F.DRPCc_STATUS_STORM_COUNT c
  let s := s.incf F.DRP_STATUS_STORMS 0
  let s := (s.cutSent c).log 0x4801 c w.trips
  (s.trigger 0x06 5 c).stormClamp

/-- The storm of a cluster has lasted longer than STORM_CLAMP_US (R136). -/
def State.stormOver (s : State) (c : Nat) : Bool :=
  match (s.weltC c).stormAt with
  | some t => decide (max (s.f F.DRP_STORM_STORM_CLAMP_US) 1 * 1000 < s.since t)
  | none => false

/-- A write of DRP_STORM: the clamp source follows the new STORM_CLUSTERS and STORM_CLAMP_US (R136). -/
def writeDrpStorm (by_ : Writer) (w : Word) (s : State) : State × Bool :=
  let q := writeReg s by_ R.DRP_STORM 0 w
  let s := allClusters.foldl (fun s c => if (s.weltC c).stormAt.isSome then
    s.setWelt c { s.weltC c with stormLong := s.stormOver c } else s) q.1
  (s.stormClamp, q.2)

/-- A kick request: the target rises by KICK_MV for KICK_T x 20 ns; a request during a kick restarts it (R131). -/
def State.kick (s : State) (c : Nat) : State :=
  let w := s.weltC c
  let s := s.setWelt c { w with kickUntil := some (s.now + BitVec.ofNat 64 (s.f F.WELT_CTRL_KICK_T * 20)) }
  (s.incf F.WELTc_COUNT_KICKS c).trace 7 1 c 0

/-- The longest core cycle in ns: a generator at 1.0 GHz, a divider of 8 and a stretch of 50 % (R129, R238). Trips of a
detector no further apart come in every core cycle (log entry 121). -/
def tripGap : Nat := 12

/-- The run of trips of one detector that a trip of detector `d` now belongs to: detector, first and last trip (R138). -/
def State.tripRun (s : State) (n d : Nat) : Nat × Word64 × Word64 :=
  match (s.station n).tripRun with
  | some r => if r.1 = d ∧ s.since r.2.2 ≤ tripGap then (d, r.2.1, s.now) else (d, s.now, s.now)
  | none => (d, s.now, s.now)

/-- Detector `d` of core `n` has tripped in every core cycle for 1 µs and none of its siblings has (R138). -/
def State.stuckRun (s : State) (n d : Nat) : Bool :=
  match (s.station n).tripRun with
  | some r => r.1 == d && s.passed r.2.1 1000 && decide (s.since r.2.2 ≤ tripGap)
  | none => false

/-- DROOP_TRIP: detector `d` of core `n` trips while unmasked, in every state of the governor (R44,
R129 to R134, R142). -/
def execDroopTrip (n d : Nat) (s : State) : Host.Outcome State Fault Refusal :=
  let c := clusterOf n
  .next (if s.coreUp n && decide (d < 4) && !s.bitf F.DRPn_STATUS_STUCK n d then
    let s := s.rollEpoch c
    let x := s.station n
    let again := decide (0 < x.stretchLeft)
    let s := s.setStation n { x with stretchLeft := s.f F.DRP_CTRL_STRETCH_CYC + 1,
                                     stretches := if again then x.stretches else x.stretches + 1,
                                     tripRun := some (s.tripRun n d) }
    let s := if again then s else s.hang n 0x04 d
    let s := s.incf F.DRPn_STATUS_TRIPS n
    let s := s.setPair R.DRP_TRIPS_LO R.DRP_TRIPS_HI 0 (s.pair R.DRP_TRIPS_LO R.DRP_TRIPS_HI + 1)
    let w := s.weltC c
    let s := s.setWelt c { w with trips := w.trips + 1 }
    let s := s.trace 6 0 n (d + if again then 256 else 0)
    let s := s.kick c
    if s.f F.DRP_STORM_STORM_TRIPS < w.trips + 1 ∧ s.on F.DRPCc_STATUS_STORM c = false then s.enterStorm c else s
  else s)

/-- STRETCH and STRETCH_CYC as the clock generator uses them (R129): sixteenths 1 to 8. -/
def State.stretchAmount (s : State) : Nat := max 1 (min (s.f F.DRP_CTRL_STRETCH) 8)

/-- STRETCH_END: generator cycles have ended since they were last counted, with the core cycles or at a trip; where
the lengthened ones have run out, the stretch is over (R129, R130; log entry 122). -/
def execStretchEnd (e : StretchIn) (s : State) : Host.Outcome State Fault Refusal :=
  let x := s.station e.n
  .next (if s.coreUp e.n then s.setStation e.n { x with stretchLeft := x.stretchLeft - e.cyc } else s)

/-- KICK_EXPIRE: the kick's duration has ended (R131). -/
def execKickExpire (c : Nat) (s : State) : Host.Outcome State Fault Refusal :=
  let w := s.weltC c
  .next (match w.kickUntil with
  | some t => if s.clusterUp c && decide (t.toNat ≤ s.now.toNat) then s.setWelt c { w with kickUntil := none } else s
  | none => s)

/-- STORM_EXIT: STORM_QUIET + 1 consecutive quiet epochs have ended (R134). -/
def execStormExit (c : Nat) (s : State) : Host.Outcome State Fault Refusal :=
  .next (if s.clusterUp c then
    let s := s.rollEpoch c
    let w := s.weltC c
    if s.on F.DRPCc_STATUS_STORM c && decide (s.f F.DRP_STORM_STORM_QUIET + 1 ≤ w.quiet) then
      let s := s.setWelt c { w with stormAt := none, stormLong := false }
      let s := s.setf F.DRPCc_STATUS_STORM c 0
      let s := s.setf F.DRP_STATUS_STORMS 0 (s.f F.DRP_STATUS_STORMS - 1)
      (s.log 0x4802 c (s.f F.DRPCc_STATUS_TRIPS_LAST c)).stormClamp
    else s
  else s)

/-- STORM_CLAMP_TIMEOUT: the cluster's storm has lasted longer than STORM_CLAMP_US (R136). -/
def execStormClampTimeout (c : Nat) (s : State) : Host.Outcome State Fault Refusal :=
  .next (if s.clusterUp c && s.stormOver c then (s.setWelt c { s.weltC c with stormLong := true }).stormClamp else s)

/-- STORM_FRAC_UPDATE: every 100 µs, the fraction of cluster-epochs in storm, in 2^-16 (R137). -/
def execStormFracUpdate (s : State) : Host.Outcome State Fault Refusal :=
  .next (if s.dieUp && s.due 5 0 100000 0 then
    let s := s.serve 5 0
    let s := allClusters.foldl State.rollEpoch s
    let f := if s.welt.epochs = 0 then 0 else (divNearest ((s.welt.storms * 65536 : Nat) : Int) s.welt.epochs).toNat
    let s := (s.setfSat F.DRP_STORM_FRAC_FRAC 0 f).post 0x7000 (min f 65535)
    { s with welt := { s.welt with epochs := 0, storms := 0 } }
  else s)

/-- DETECTOR_STUCK: the detector, stuck, is masked and reported; the fourth mask of a core is reported as such (R138, R139). -/
def execDetectorStuck (n d : Nat) (s : State) : Host.Outcome State Fault Refusal :=
  .next (if s.coreUp n && decide (d < 4) && !s.bitf F.DRPn_STATUS_STUCK n d && s.stuckRun n d then
    let s := s.setBitf F.DRPn_STATUS_STUCK n d true
    let s := s.fault 0x42 n
    if s.f F.DRPn_STATUS_STUCK n = 15 then s.fault 0x43 n else s
  else s)

/-- DETECTOR_UNMASK: a CFG write of DRPn_STATUS (R139). -/
def execDetectorUnmask (priv : Bool) (n : Nat) (w : Word) (s : State) : Host.Outcome State Fault Refusal :=
  .next (s.cfgWrite priv R.DRPn_STATUS n (fun s => writeReg s .cfg R.DRPn_STATUS n w))

/-! ### Current limit and over-voltage (R140, R141) -/

/-- WELT_ILIM_START: the cluster's current (code) exceeds ILIM_A (R140). -/
def execWeltIlimStart (c iout : Nat) (s : State) : Host.Outcome State Fault Refusal :=
  .next (if s.clusterUp c && decide (s.ilim < iout) && !s.on F.WELTc_STATUS_ILIM c then
    let w := s.weltC c
    (s.setWelt c { w with ilimAt := some s.now, below90 := none, ilimTold := false }).setf F.WELTc_STATUS_ILIM c 1
  else s)

/-- WELT_ILIM_TIMEOUT: the limit has lasted longer than 1 µs (R140). -/
def execWeltIlimTimeout (c : Nat) (s : State) : Host.Outcome State Fault Refusal :=
  let w := s.weltC c
  .next (match w.ilimAt with
  | some t =>
    if s.clusterUp c && s.on F.WELTc_STATUS_ILIM c && decide (1000 < s.since t) && !w.ilimTold then
      (s.setWelt c { w with zeroAllow := true, ilimTold := true }).fault 0x44 c
    else s
  | none => s)

/-- WELT_ILIM_RELEASE: the current has stayed below 90 % of ILIM_A for 1 µs (R140); the limit is then over (log entry
117). -/
def execWeltIlimRelease (c : Nat) (s : State) : Host.Outcome State Fault Refusal :=
  let w := s.weltC c
  .next (match w.below90 with
  | some t =>
    if s.clusterUp c && w.zeroAllow && s.passed t 1000 then
      (s.setWelt c { w with zeroAllow := false, ilimAt := none }).setf F.WELTc_STATUS_ILIM c 0
    else s
  | none => s)

/-- WELT_OV: the cluster voltage (1/16 mV) exceeds its target by more than 25 mV while EN is 1 (R141). -/
def execWeltOv (c v : Nat) (s : State) : Host.Outcome State Fault Refusal :=
  .next (if s.clusterUp c && s.welt.en && decide (s.clusterTarget c + 400 < v) then
    (s.setf F.WELTc_STATUS_OV c 1).fault 0x45 c
  else s)

/-- The cluster's domain returns to ON, or a die reset ends: the needs are invalid until 8 samples, and a class-up in
progress is over. Until then each need is the Rail 0 set-point and the need registers keep what they held (R119; log
entry 118). -/
def State.weltWake (s : State) (c : Nat) : State :=
  let s := s.setWelt c { s.weltC c with reqClass := none, tripClass := s.clsNow c }
  ((s.setf F.WELTc_STATUS_RISING c 0).setf F.WELTc_STATUS_NEED_VALID c 0).clearWaits c

end Sys2Proof.Machine
end

