-- ==== Sys2Proof/Machine/PhaseOps.lean ====
section
/-! DEFINITION. Shared operations of the phase/rail island (spec chapters 04 and 05): phase states, capability, the
capacity clamp, rail states, effective targets, tracking, starting and stopping rails. -/
namespace Sys2Proof.Machine
open Sys2Proof

/-! ### Phases -/

/-- STATE codes of PHp_STATUS. -/
def PH_OFF : Nat := 0
def PH_PROBE : Nat := 1
def PH_READY : Nat := 2
def PH_SOFT : Nat := 3
def PH_ACTIVE : Nat := 4
def PH_SHED : Nat := 5
def PH_HICCUP : Nat := 6
def PH_HOT : Nat := 7
def PH_STOPPING : Nat := 8
def PH_FAILED : Nat := 9
def PH_ABSENT : Nat := 10
def PH_MISMATCH : Nat := 11

/-- A phase. -/
def State.phase (s : State) (p : Nat) : PhaseSt := Tab.get {} s.ph.ph p

/-- Set a phase. -/
def State.setPhase (s : State) (p : Nat) (x : PhaseSt) : State :=
  { s with ph := { s.ph with ph := Tab.set {} s.ph.ph p x } }

/-- The phase is present and the base die operates. -/
def State.phaseUp (s : State) (p : Nat) : Bool := decide (p < Config.phaseCount) && s.vgov

/-- STATE of a phase. -/
def State.phSt (s : State) (p : Nat) : Nat := s.f F.PHp_STATUS_STATE p

/-- Every phase; the phases of rail `r`; those that switch (R156). -/
def allPhases : List Nat := List.range Config.phaseCount
def State.phasesOf (s : State) (r : Nat) : List Nat := allPhases.filter (fun p => (s.phase p).rail = r)
def State.active (s : State) (r : Nat) : List Nat :=
  (s.phasesOf r).filter (fun p => s.phSt p == PH_SOFT || s.phSt p == PH_ACTIVE)

/-- N_act of a rail (R156). -/
def State.nAct (s : State) (r : Nat) : Nat := (s.active r).length

/-- The phases of a rail whose EN is 1 (R192). -/
def State.enabledOf (s : State) (r : Nat) : List Nat := (s.phasesOf r).filter (fun p => s.on F.PHp_CFG_EN p)

/-- A rail. -/
def State.rail (s : State) (r : Nat) : RailSt := Tab.get {} s.rails.r r

/-- Set a rail. -/
def State.setRail (s : State) (r : Nat) (x : RailSt) : State :=
  { s with rails := { s.rails with r := Tab.set {} s.rails.r r x } }

/-- STATE of a rail: 0 OFF, 1 STARTING, 2 ON, 3 STOPPING, 4 HICCUP, 5 FAULT. -/
def State.railSt (s : State) (r : Nat) : Nat := s.f F.RAILr_STATUS_STATE r

/-- A rail is present and the base die operates. -/
def State.railUp (s : State) (r : Nat) : Bool := decide (r < Config.railCount) && s.vgov

/-- A rail is on (R577). -/
def State.railOn (s : State) (r : Nat) : Bool := s.railSt r == 1 || s.railSt r == 2

/-! ### Capability (R177 to R180) -/

/-- A phase counts in C_r: SOFTSTART, ACTIVE or SHED. -/
def State.capable (s : State) (p : Nat) : Bool :=
  s.phSt p == PH_SOFT || s.phSt p == PH_ACTIVE || s.phSt p == PH_SHED

/-- C_r of R177 in 1/256 A, the phase `except_` left out. -/
def State.capExcept (s : State) (r : Nat) (except_ : Option Nat) : Nat :=
  (((s.phasesOf r).filter (fun p => s.capable p && decide (some p ≠ except_))).map (fun p =>
    (s.phase p).irate * (s.phase p).w)).sum

/-- C_r of R177 in 1/256 A. -/
def State.capOfRail (s : State) (r : Nat) : Nat := s.capExcept r none

/-- Sum and number of the samples of the last 1 µs: L_r is their quotient, in 1/80 A (R177). -/
def State.loadSum (s : State) (r : Nat) : Int := (s.rail r).cur.sum
def State.loadNum (s : State) (r : Nat) : Nat := max 1 (s.rail r).cur.length

/-- C is below 1.10 x L (R178): C in 1/256 A, the load of rail `r`. -/
def State.capLow (s : State) (r c : Nat) : Bool := decide ((c : Int) * 800 * s.loadNum r < 2816 * s.loadSum r)

/-- C is at or above 1.15 x L (R178, R189). -/
def State.capEnough (s : State) (r c : Nat) : Bool := decide (29440 * s.loadSum r ≤ (c : Int) * 8000 * s.loadNum r)

/-- SHARE_EFF of R175: the share in force times w / 256, rounded down. -/
def State.showShare (s : State) (p : Nat) : State :=
  let x := s.phase p
  s.setf F.PHp_STATUS_SHARE_EFF p (x.share * x.w / 256)

/-- End diode emulation of a rail (R163). -/
def State.endDe (s : State) (r : Nat) : State :=
  let x := s.rail r
  let s := s.setRail r { x with de := false, deRun := 0 }
  (s.phasesOf r).foldl (fun s p => s.setf F.PHp_STATUS_DE p 0) s

/-- Note a state change of a phase: event log and hang ring (R512, R514). -/
def State.notePhase (s : State) (p : Nat) : State :=
  let s := s.log 0x2001 p ((s.rd R.PHp_STATUS p).toNat / 2 ^ 15)
  s.hang (0x400 + p) 0x01 (s.phSt p * 16 + s.f F.PHp_STATUS_CAUSE p)

/-- The angle phase `k` of `n` of rail `r` goes to, in 2^-16 of the period (R156). -/
def angleOf (k n r : Nat) : Nat := ((divNearest ((k * 65536 : Nat) : Int) (max n 1)).toNat + r * 1024) % 65536

/-- The index of a phase among the active ones of its rail. -/
def State.rankOf (s : State) (p : Nat) : Nat := ((s.active (s.phase p).rail).filter (fun q => decide (q < p))).length

/-- The greatest TEMP among a rail's phases not in OFF, none where every phase is OFF (R517). -/
def State.railTemp (s : State) (r : Nat) : Option Int :=
  ((List.range Config.phaseCount).filter (fun p => s.phSt p ≠ PH_OFF && (s.phase p).rail == r)).foldl
    (fun (a : Option Int) p => some (match a with
      | none => s.fi F.PHp_MEAS_TEMP p
      | some t => max t (s.fi F.PHp_MEAS_TEMP p))) none

/-- Note the temperature of a phase's rail for readers without privilege (R531). -/
def State.noteRailTemp (s : State) (p : Nat) : State :=
  let r := (s.phase p).rail
  match s.railTemp r with
  | none => s
  | some t => s.telem (0x28000000 + r) t

/-- The bias current out of PH_CS in µA: on in every state except OFF (R148). -/
def State.csBias (s : State) (p : Nat) : Nat := if s.phSt p = PH_OFF then 0 else 2

/-- Change the state of a phase, with its pins (R143, R188); PH_TF shows no temperature in OFF and PROBE, so an invalid or
faulty signal ends there (R170, R176). Nothing else. -/
def State.phPut (s : State) (p st : Nat) : State :=
  let s := s.setf F.PHp_STATUS_STATE p st
  let s := s.setb F.PHp_STATUS_FAILED p (st == PH_FAILED)
  let x := s.phase p
  let sw := st == PH_SOFT || st == PH_ACTIVE
  let unseen := st == PH_OFF || st == PH_PROBE
  let s := s.setPhase p { x with
    since := s.now, en := x.en && sw, pwm := st == PH_PROBE && !s.on F.PHRAILr_STATUS_BRAKING x.rail,
    tfFault := x.tfFault && !unseen, tfInvalid := x.tfInvalid && !unseen, idle := none,
    lowAt := if x.en && !sw then s.now else x.lowAt,
    limRun := if sw then x.limRun else 0, openRun := if sw then x.openRun else 0,
    flatRun := if sw then x.flatRun else 0 }
  let s := if sw then s else s.setf F.PHp_STATUS_DE p 0
  s.notePhase p

/-- Put a phase into SOFTSTART with a share ramp of `len` cycles; an added phase ends diode emulation (R163, R166). -/
def State.softStart (s : State) (p len : Nat) : State :=
  let s := s.phPut p PH_SOFT
  let x := s.phase p
  let s := s.setPhase p { x with rampDone := 0, rampLen := len }
  if (s.rail x.rail).de then s.endDe x.rail else s

/-- A phase starts at its angle among the phases that are active now (R156). -/
def State.toAngle (s : State) (p : Nat) : State :=
  let x := s.phase p
  s.setPhase p { x with angle := angleOf (s.rankOf p) (s.nAct x.rail) x.rail }

/-- Put a phase into SOFTSTART at its new angle (R156, R166). -/
def State.phSoft (s : State) (p len : Nat) : State := (s.softStart p len).toAngle p

/-- Add the SHED phases of a list: each starts at the angle that the new N_act gives it (R156, R165, R178). -/
def State.addPhases (s : State) (l : List Nat) : State :=
  l.foldl State.toAngle (l.foldl (fun s p => s.softStart p 8) s)

/-- Show C_r and N_act; a changed C_r is to be delivered to the loop engine (R177, R179). -/
def State.showCap (s : State) (r : Nat) : State :=
  let c := min (divNearest (s.capOfRail r : Int) 32).toNat 65535
  let s := if s.f F.PHRAILr_STATUS_CAP r = c then s
    else (s.setf F.PHRAILr_STATUS_CAP r c).setRail r { s.rail r with limitDue := true }
  s.setf F.PHRAILr_STATUS_N_ACT r (s.nAct r)

/-- The phase-capacity source of the clamp (R178, R577). -/
def State.capClamp (s : State) (r : Nat) : State :=
  let s := s.showCap r
  let c := s.capOfRail r
  if !s.railOn r then (s.setf F.PHRAILr_STATUS_CAP_LOW r 0).clampSet 0 r false
  else
    let low := if s.on F.PHRAILr_STATUS_CAP_LOW r then !s.capEnough r c else s.capLow r c
    if low then
      let s := (s.setf F.PHRAILr_STATUS_CAP_LOW r 1).clampSet 0 r true
      let s := s.addPhases ((s.phasesOf r).filter (fun p => s.phSt p = PH_SHED))
      (if (s.rail r).de then s.endDe r else s).showCap r
    else (s.setf F.PHRAILr_STATUS_CAP_LOW r 0).clampSet 0 r false

/-- Change the state of a phase and evaluate its rail's capability (R177, R188). -/
def State.phGo (s : State) (p st : Nat) : State :=
  let s := s.phPut p st
  let s := if st = PH_HOT then s.pmbLatch (s.phase p).rail 2 7 else s
  (s.noteRailTemp p).capClamp (s.phase p).rail

/-- PH_DISC bit of a phase (R186). -/
def State.setDisc (s : State) (p : Nat) (b : Bool) : State := s.setBitf F.PH_DISCk_PRESENT (p / 32) (p % 32) b

/-- Change the state of a phase for a cause (R188). -/
def State.phCause (s : State) (p st cause : Nat) : State :=
  let s := s.setf F.PHp_STATUS_CAUSE p cause
  let s := if st = PH_ABSENT ∨ st = PH_MISMATCH ∨ st = PH_FAILED then s.setDisc p false else s
  s.phGo p st

/-- Enter HICCUP: HICCUPS counts it and row 0x23 is reported (R168, R170). -/
def State.phHiccup (s : State) (p cause : Nat) : State :=
  let s := s.phCause p PH_HICCUP cause
  (s.incf F.PHp_COUNT_HICCUPS p).fault 0x23 p

/-- Enter SOFTSTART with 64 cycles, or READY while the rail is off (R166, R188). -/
def State.phJoin (s : State) (p : Nat) : State :=
  let r := (s.phase p).rail
  if s.railOn r then (s.phSoft p 64).capClamp r else s.phGo p PH_READY

/-- Enter PROBE: the settings of R191 take effect (R185). -/
def State.phProbe (s : State) (p : Nat) : State :=
  let x := s.phase p
  let old := x.rail
  let s := s.setPhase p { x with
    rail := Fin.ofNat 8 (s.f F.PHp_CFG_RAIL p), idExp := s.f F.PHp_CFG_ID_EXP p, lnh := max (s.f F.PHp_CFG_L_NH p) 1,
    irate := s.f F.PHp_LIM_IRATE_A p, matches_ := 0 }
  ((s.phGo p PH_PROBE).showShare p).capClamp old

/-- The fault collector fences a phase (R188). -/
def State.phFence (s : State) (p : Nat) : State :=
  if s.phSt p = PH_OFF then s else s.phCause p PH_FAILED 7

/-- Stop a phase whose disable is applied (R189). -/
def State.phDisable (s : State) (p : Nat) : State :=
  let x := s.phase p
  let s := s.setPhase p { x with heldSlots := [] }
  let s := (s.setf F.PHp_STATUS_DISABLE_HELD p 0).setf F.PHp_CFG_EN p 0
  s.phGo p PH_STOPPING

/-- The capacity of rail `r` without phase `p` is sufficient, or the rail is off (R189). -/
def State.canDisable (s : State) (p : Nat) : Bool :=
  let r := (s.phase p).rail
  !s.railOn r || s.capEnough r (s.capExcept r (some p))

/-- A rail has turned off: held disables are applied, and the capacity source is released (R189, R577). -/
def State.railWentOff (s : State) (r : Nat) : State :=
  let s := ((s.phasesOf r).filter (fun p => s.on F.PHp_STATUS_DISABLE_HELD p)).foldl State.phDisable s
  s.capClamp r

/-- The rail's switching phases go to READY, and its run of light cycles is over (R163, R188). -/
def State.phasesReady (s : State) (r : Nat) : State :=
  (((s.phasesOf r).filter (fun p => s.capable p)).foldl (fun s p => s.phPut p PH_READY) (s.endDe r)).capClamp r

/-- READY phases switch from the rail's first cycle, each at its angle (R156, R188). -/
def State.phasesStart (s : State) (r : Nat) : State :=
  let l := (s.phasesOf r).filter (fun p => s.phSt p = PH_READY)
  (l.foldl State.toAngle (l.foldl (fun s p => s.phPut p PH_ACTIVE) s)).capClamp r

/-- A phase has held PH_EN 0 for 20 µs (R190). -/
def State.phLow (s : State) (p : Nat) : Bool := !(s.phase p).en && s.passed (s.phase p).lowAt 20000

/-! ### Tracking (R210, R211, R213) -/

/-- The rail after `n` steps along the tracking settings, none where the chain ends. -/
def State.leaderAfter (s : State) (r n : Nat) : Option Nat :=
  match n with
  | 0 => some r
  | k + 1 => match s.leaderAfter r k with
    | none => none
    | some q =>
      let m := s.f F.RAILr_TRACK_MODE q
      if m = 1 ∨ m = 2 then some (s.f F.RAILr_TRACK_LEADER q) else none

/-- The tracking settings of the rail are at fault (R213): they come back to the rail itself, or name an absent one. -/
def State.trackBad (s : State) (r : Nat) : Bool :=
  let m := s.f F.RAILr_TRACK_MODE r
  (m == 1 || m == 2)
    && (decide (Config.railCount ≤ s.f F.RAILr_TRACK_LEADER r)
        || (List.range 8).any (fun k => s.leaderAfter r (k + 1) == some r))

/-- MODE as it acts: 1 ratiometric, 2 coincident, else 0 (R213). -/
def State.trackMode (s : State) (r : Nat) : Nat :=
  let m := s.f F.RAILr_TRACK_MODE r
  if m = 3 || s.trackBad r then 0 else m

/-- The leader of a rail that tracks. -/
def State.leader (s : State) (r : Nat) : Nat := s.f F.RAILr_TRACK_LEADER r

/-- Every rail; the rails that track rail `r`. -/
def allRails : List Nat := List.range Config.railCount
def State.followers (s : State) (r : Nat) : List Nat :=
  allRails.filter (fun q => decide (s.trackMode q ≠ 0) && s.leader q == r)

/-! ### Effective target (R116, R193 to R195) -/

/-- The base of R194 for Rail 0 with the Welt on: the greater of the rail need and the host target (R116). -/
def State.railBase (s : State) (r : Nat) : Nat :=
  let h := s.f F.RAILr_TARGET_CODE r
  if r = 0 ∧ s.welt.en then max h s.rails.need else h

/-- The base with DROOP_ALLOW added while RS_LOST is 1 (R194). -/
def State.drooped (s : State) (r : Nat) : Nat :=
  s.railBase r + (if s.on F.RAILr_STATUS_RS_LOST r then 4 * s.f F.RAILr_PROT_DROOP_ALLOW r else 0)

/-- The composed target before safe state, as a code: the host target as the higher ranks limit it (R43, R50, R194). -/
def State.composed (s : State) (r : Nat) : Nat :=
  min (max (s.drooped r) (s.f F.RAILr_LIMIT_VMIN r)) (s.f F.RAILr_LIMIT_VMAX r)

/-- LIMITED: the clamp or R116 makes the effective target differ from the host target (R194). -/
def State.limited (s : State) (r : Nat) : Bool :=
  let h := s.f F.RAILr_TARGET_CODE r
  (decide (s.composed r ≠ s.drooped r) || decide (s.railBase r ≠ h)) && decide (s.composed r ≠ h)

/-- The effective target as a code (R194). -/
def State.effCode (s : State) (r : Nat) : Nat :=
  if s.safe then s.f F.RAILr_SAFE_SAFE_CODE r else s.composed r

/-- A code in 2^-10 mV (R4). -/
def codeU (c : Nat) : Int := 307200 + 256 * c

/-- A rail's set-point in 1/16 mV, as the register shows it. -/
def State.showSet (s : State) (r : Nat) : State :=
  let x := s.rail r
  let s := s.setf F.RAILr_SETPT_SETPT r (clampInt 0 65535 (divNearest x.vset 64)).toNat
  s.setfiSat F.RAILr_SETPT_VEL_NOW r (divNearest x.v 4)

/-- The rail takes its set-point from its leader now (R210, R211). -/
def State.tracking (s : State) (r : Nat) : Bool :=
  match s.trackMode r with
  | 1 => decide (s.railSt r ≠ 0)
  | 2 => (s.railSt r == 1 && s.on F.RAILr_STATUS_TRACKING r) || s.railSt r == 3
  | _ => false

/-- Show the effective target and LIMITED (R194): SRC 0 host, 1 rail need, 2 tracking, 3 safe state. -/
def State.showEff (s : State) (r : Nat) : State :=
  let ratio := decide (s.trackMode r = 1)
  let src := if ratio then 2 else if s.safe then 3
    else if r = 0 ∧ s.welt.en ∧ s.f F.RAILr_TARGET_CODE r < s.rails.need then 1
    else if s.tracking r then 2 else 0
  let code := if ratio then (clampInt 0 4095 (((s.rail r).vset - 307200) / 256)).toNat else s.effCode r
  let s := (s.setf F.RAILr_EFF_SRC r src).setf F.RAILr_EFF_CODE r code
  if ratio then s
  else s.setb F.RAILr_TARGET_LIMITED r (s.limited r)

/-- The host target of a rail is complete (R203): the command that set it is done. -/
def State.hostDone (s : State) (r : Nat) : State :=
  let x := s.rail r
  if x.hostPending then
    let s := s.setRail r { x with hostPending := false, hostSlot := none }
    let s := s.setf F.RAILr_TARGET_STATUS r 2
    match x.hostSlot with
    | some k => s.setFw { s.eye.fw with outcome := Tab.set 0 s.eye.fw.outcome k (0x4000 + s.f F.RAILr_EFF_CODE r) }
    | none => s
  else s

/-- The generator stands at its target (R201). -/
def RailSt.arrived (x : RailSt) : Bool := decide (x.vset = x.target) && decide (x.v = 0) && decide (x.a = 0)

/-- The rail's generator has arrived in STARTING, or has moved away again: so have the ratiometric followers of the rail,
along their chains (R210, R214, R576). -/
def State.markArrival (s : State) (fuel r : Nat) (t : Option Word64) : State :=
  match fuel with
  | 0 => s
  | n + 1 =>
    let x := s.rail r
    let s := if t = none then s.setRail r { x with arrivedAt := none }
      else if s.railSt r = 1 ∧ x.arrivedAt = none ∧ x.toZero = false then s.setRail r { x with arrivedAt := t } else s
    ((s.followers r).filter (fun q => s.trackMode q = 1)).foldl (fun s q => s.markArrival n q t) s

/-- Give the generator a target (R195, R202). -/
def State.setTarget (s : State) (r : Nat) (t : Int) : State :=
  let x := s.rail r
  let s := if x.target = t then s else (s.setRail r { x with target := t }).markArrival 8 r none
  s.setb F.RAILr_STATUS_SLEWING r (!((s.rail r).arrived))

/-- Compose the effective target again, and retarget a rail in STARTING or ON, one that a power-down has retargeted to
0 mV apart (R194, R195, R219). -/
def State.recompose (s : State) (r : Nat) : State :=
  let s := s.showEff r
  if s.trackMode r ≠ 1 ∧ s.railOn r then
    s.setTarget r (if (s.rail r).toZero then 0 else codeU (s.f F.RAILr_EFF_CODE r)) else s

/-- A leader's set-point has moved: its followers take theirs from it (R210, R211), along the chain. -/
def State.propagate (s : State) (fuel r : Nat) : State :=
  match fuel with
  | 0 => s
  | n + 1 => (s.followers r).foldl (fun s q =>
      let lead := s.rail r
      let x := s.rail q
      match s.trackMode q with
      | 1 =>
        if s.railSt q = 0 then s
        else
          let k := (s.f F.RAILr_TRACK_K q : Int)
          let s := s.setRail q { x with vset := divNearest (lead.vset * k) 65536, v := divNearest (lead.v * k) 65536,
                                        a := divNearest (lead.a * k) 65536 }
          ((s.showSet q).showEff q).propagate n q
      | _ =>
        if s.railSt q = 1 ∧ s.on F.RAILr_STATUS_TRACKING q then
          let own := codeU (s.effCode q)
          if own ≤ lead.vset then
            let s := (s.setRail q { x with vset := own, v := 0, a := 0, target := own }).markArrival 8 q (some s.now)
            let s := (s.setf F.RAILr_STATUS_TRACKING q 0).setf F.RAILr_STATUS_SLEWING q 0
            let s := (s.showSet q).showEff q
            (if s.safe then s else s.hostDone q).propagate n q
          else ((s.setRail q { x with vset := lead.vset, v := lead.v, a := lead.a }).showSet q).propagate n q
        else if s.railSt q = 3 then
          let m := lead.vset < x.stopHold
          ((s.setRail q { x with vset := min lead.vset x.stopHold, v := if m then lead.v else 0,
                                 a := if m then lead.a else 0 }).showSet q).propagate n q
        else s) s

/-! ### Rail states (R212, R214, R220, R221, R576) -/

/-- Note a state change of a rail in the event log (R514). -/
def State.noteRail (s : State) (r : Nat) : State := s.log 0x2101 r ((s.rd R.RAILr_STATUS r).toNat / 2 ^ 24)

/-- Change the state of a rail; the bias of its sense pair is on in every state except OFF (R204, R214). -/
def State.railPut (s : State) (r st : Nat) : State :=
  let s := s.setf F.RAILr_STATUS_STATE r st
  let s := if st = 2 then s else s.setf F.RAILr_STATUS_PG r 0
  let x := s.rail r
  let s := s.setRail r { x with
    since := s.now, arrivedAt := none, goodAt := none, ocAt := none, offWait := false, toZero := false,
    biasAt := if st = 0 then none else some (x.biasAt.getD s.now) }
  s.noteRail r

/-- End braking on a rail: a phase in PROBE presents its ID again (R173, R185). -/
def State.endBrake (s : State) (r : Nat) : State :=
  let s := (s.setRail r { s.rail r with brakeAt := none }).setf F.PHRAILr_STATUS_BRAKING r 0
  ((s.phasesOf r).filter (fun p => s.phSt p = PH_PROBE)).foldl (fun s p => s.setPhase p { s.phase p with pwm := true }) s

/-- A rail enters STARTING (R199, R210, R211, R214). -/
def State.railStart1 (s : State) (r : Nat) : State :=
  let s := s.railPut r 1
  let x := s.rail r
  let m := s.trackMode r
  let s := s.setRail r { x with
    vset := 3200 * x.coarse, v := 0, a := 0, e := [0, 0, 0, 0], y := [0, 0, 0],
    stopped := false, withLeader := false }
  let s := s.setb F.RAILr_STATUS_TRACKING r (m == 1 || m == 2)
  let s := s.setf F.PHRAILr_STATUS_OC_HICCUP r 0
  let s := s.showEff r
  let s := if m = 1 then s else s.setTarget r (codeU (s.effCode r))
  ((s.showSet r).phasesStart r)

/-- A rail may not start: safe state holds it off (R221). -/
def State.safeHolds (s : State) (r : Nat) : Bool := s.safe && s.f F.RAILr_SAFE_SAFE_CODE r == 0

/-- Start a rail and its followers: from OFF every follower in OFF or held with its leader, from HICCUP those held with
their leader; none without an enabled phase or that safe state holds (R192, R210 to R212, R221). -/
def State.railStart (s : State) (fuel r : Nat) (fromOff : Bool) : State :=
  match fuel with
  | 0 => s
  | n + 1 =>
    let s := s.railStart1 r
    let s := (s.followers r).foldl (fun s q =>
      let st := s.railSt q
      if s.enabledOf q ≠ [] ∧ s.safeHolds q = false
          ∧ ((st = 0 ∧ fromOff) ∨ ((st = 4 ∨ st = 5) ∧ (s.rail q).withLeader)) then
        s.railStart n q fromOff else s) s
    s.propagate 8 r

/-- Stop a rail in STARTING or ON, and its followers (R210, R211, R214). -/
def State.railStop (s : State) (fuel r : Nat) : State :=
  match fuel with
  | 0 => s
  | n + 1 =>
    if s.railOn r then
      let s := s.railPut r 3
      let s := s.setRail r { s.rail r with stopHold := (s.rail r).vset, stopped := false }
      let m := s.trackMode r
      let s := s.setb F.RAILr_STATUS_TRACKING r (m == 1 || m == 2)
      let s := s.setTarget r 0
      let s := s.railWentOff r
      (s.followers r).foldl (fun s q => s.railStop n q) s
    else s

/-- A rail enters HICCUP or FAULT: its set-point is 0, its phases are READY, and a fault event of `row` is reported (R172,
R214); the followers R212 names enter the same state as it does, with the same event. OV and SENSE_FAULT name the rail's
own pair, and a follower keeps its own (log entry 124). -/
def State.railTrip (s : State) (fuel r st row : Nat) (withLeader : Bool) : State :=
  match fuel with
  | 0 => s
  | n + 1 =>
    let s := s.railPut r st
    let s := s.setRail r { s.rail r with vset := 0, v := 0, a := 0, target := 0, withLeader := withLeader }
    let s := (s.setf F.RAILr_STATUS_TRACKING r 0).setf F.RAILr_STATUS_SLEWING r 0
    let s := if row = 0x2A then s.setf F.RAILr_STATUS_START_TIMEOUT r 1 else s
    let s := s.setf F.RAILr_STATUS_PENDING_ENABLE r 0
    let s := s.setb F.PHRAILr_STATUS_OC_HICCUP r (st == 4)
    let s := if st = 4 then s.pmbLatch r 1 7 else s
    let s := (((s.showSet r).phasesReady r).railWentOff r).fault row r
    (s.followers r).foldl (fun s q =>
      if (s.trackMode q = 1 ∧ s.railSt q ≠ 0) ∨ (s.trackMode q = 2 ∧ s.railSt q = 1) then
        s.railTrip n q st row true else s) s

/-- The current into VS_P, and out of VS_N, in µA: 2 from the first µs on, reversed every 1 µs; none in OFF (R204). -/
def State.vsBias (s : State) (r : Nat) : Int :=
  match (s.rail r).biasAt with
  | none => 0
  | some t => if s.since t / 1000 % 2 = 0 then 2 else -2

/-- A rail goes to OFF: the bias is off (R214). -/
def State.railOffNow (s : State) (r : Nat) : State :=
  let s := s.railPut r 0
  let s := s.setRail r { s.rail r with vset := 0, v := 0, a := 0, target := 0, withLeader := false }
  let s := (s.setf F.RAILr_STATUS_TRACKING r 0).setf F.RAILr_STATUS_SLEWING r 0
  let s := s.setf F.PHRAILr_STATUS_OC_HICCUP r 0
  (s.showSet r).showEff r

/-- A rail in HICCUP or FAULT goes to OFF, at its quiet point: at once where its phases have held PH_EN 0 for 20 µs, which
leaves no current, else when RAIL_QUIET_POINT shows it (R214, R215; log entry 125). -/
def State.offWhenQuiet (s : State) (r : Nat) : State :=
  if (s.phasesOf r).all (fun p => s.phLow p) then s.railOffNow r
  else s.setRail r { s.rail r with offWait := true }

/-- ON written 1 (R576): the effects of R192, R214 and R221. -/
def State.onWritten1 (s : State) (r : Nat) : State :=
  if s.safeHolds r then s
  else if s.railSt r = 0 then
    (if s.enabledOf r = [] then s.fault 0x2A r
     else (s.setf F.RAILr_CTRL_ON r 1).railStart 8 r true)
  else
    let s := s.setf F.RAILr_CTRL_ON r 1
    if s.railSt r = 3 then s.setf F.RAILr_STATUS_PENDING_ENABLE r 1 else s

/-- ON written 0 (R576): the effects of R214. -/
def State.onWritten0 (s : State) (r : Nat) : State :=
  let s := s.setf F.RAILr_CTRL_ON r 0
  match s.railSt r with
  | 1 | 2 => s.railStop 8 r
  | 3 => s.setf F.RAILr_STATUS_PENDING_ENABLE r 0
  | 4 | 5 => s.offWhenQuiet r
  | _ => s

/-- Write the ON bit of a rail, from any source (R576). -/
def State.writeOn (s : State) (r : Nat) (b : Bool) : State :=
  if s.on F.RAILr_CTRL_ON r = b then s
  else if b then s.onWritten1 r else s.onWritten0 r

/-- Safe state begins or ends: every rail in STARTING or ON retargets, or stops (R221). -/
def State.railsSafe (s : State) : State :=
  allRails.foldl (fun s r =>
    let s := s.recompose r
    if s.safeHolds r && (s.on F.RAILr_CTRL_ON r || s.railOn r) then s.onWritten0 r else s) s

end Sys2Proof.Machine
end

