-- ==== Sys2Proof/Machine/Phase.lean ====
section
/-! DEFINITION. Phase control (spec chapter 04): temperature and fault sampling, switched cycles, hiccup, sense faults,
probing, the phase lifecycle, light load, braking and the timebase. PH_TF voltages are in mV, PH_CS voltages in
converter steps of 1.25 mV (R149), times within a cycle in 25 ps. -/
namespace Sys2Proof.Machine
open Sys2Proof

/-! ### PH_TF (R145, R146, R170, R175, R176) -/

/-- The temperature of a PH_TF voltage in 1/16 °C, saturated (R145). -/
def tfTemp (mv : Nat) : Int := clampInt (-400) 2400 (2 * ((mv : Int) - 600))

/-- PH_TF is invalid as a temperature (R145). -/
def tfInvalid (mv : Nat) : Bool := decide (mv < 350) || (decide (1850 < mv) && decide (mv < 2400))

/-- The stage ID of a PH_TF voltage: 0 no ID, none unreadable (R145). -/
def tfId (mv : Nat) : Option Nat :=
  if mv < 100 then some 0
  else ([1, 2, 3, 4, 5, 6, 7] : List Nat).find? (fun k => decide (250 * k ≤ mv + 60) && decide (mv ≤ 250 * k + 60))

/-- T_WARN and T_SHUT in °C. -/
def State.tWarn (s : State) : Int := s.f F.PH_TEMP_T_WARN
def State.tShut (s : State) : Int := s.f F.PH_TEMP_T_SHUT

/-- The factor w of R175 for a temperature in whole °C. -/
def State.warmFactor (s : State) (t : Int) : Nat :=
  if s.tWarn < t then max 128 (256 - s.f F.PH_TEMP_SKEW * (t - s.tWarn).toNat) else 256

/-- Use a stage temperature, in 1/16 °C: WARN, SHARE_EFF, HOT and the return from HOT (R175). -/
def State.useTemp (s : State) (p : Nat) (t : Int) : State :=
  let s := (s.setfiSat F.PHp_MEAS_TEMP p t).telem (0x26000000 + p) t
  let c := t / 16
  let s := if s.tWarn * 16 < t ∧ !s.on F.PHp_STATUS_WARN p then s.pmbLatch (s.phase p).rail 2 6 else s
  let s := (s.setb F.PHp_STATUS_WARN p (decide (s.tWarn * 16 < t))).noteRailTemp p
  let x := s.phase p
  let s := (s.setPhase p { x with w := s.warmFactor c }).showShare p
  let s := if x.w = (s.phase p).w then s else s.capClamp x.rail
  if s.capable p ∧ s.tShut * 16 ≤ t then (s.phCause p PH_HOT 10).fault 0x24 p
  else if s.phSt p = PH_HOT ∧ t ≤ (s.tWarn - 10) * 16 then
    s.phGo p (if s.railOn x.rail then PH_SHED else PH_READY)
  else s

/-- A stage-fault signal on PH_TF (R170). -/
def State.stageFault (s : State) (p : Nat) : State :=
  let st := s.phSt p
  let onset := !(s.phase p).tfFault
  let s := s.setPhase p { s.phase p with tfFault := true, tfInvalid := false }
  if s.capable p || st == PH_READY then s.phHiccup p 9
  else if st ≠ PH_HICCUP ∧ onset then s.fault 0x2E p
  else s

/-- The mean of at most four samples, in 1/16 °C (R146). -/
def meanTemp (l : List Int) : Int := divNearest l.sum (max l.length 1)

/-- TF_SAMPLE: the 10 µs sample of PH_TF of phase `p` (R145, R146, R170, R175, R176, R468). -/
def execTfSample (p mv : Nat) (s : State) : Host.Outcome State Fault Refusal :=
  .next (if s.phaseUp p && s.due 6 p 10000 0 then
    let s := s.serve 6 p
    let st := s.phSt p
    if st = PH_OFF ∨ st = PH_PROBE then s
    else if 2400 ≤ mv then s.stageFault p
    else
      let x := s.phase p
      let s := s.setPhase p { x with tfFault := false }
      if tfInvalid mv then
        let s := s.setf F.PHp_STATUS_TF_BAD p 1
        let s := s.setPhase p { s.phase p with tfInvalid := true }
        let s := if x.tfInvalid then s else s.fault 0x25 p
        s.useTemp p ((s.tWarn + 5) * 16)
      else
        let l := (tfTemp mv :: x.temps).take 4
        let s := s.setPhase p { s.phase p with temps := l, tfInvalid := false }
        (s.useTemp p (meanTemp l)).cycTemp p (meanTemp l)
  else s)

/-! ### The timebase (R157 to R162) -/

/-- FSW_KHZ between 400 and 2,000. -/
def State.fswKhz (s : State) : Nat := max 400 (min (s.f F.PH_TIMEBASE_FSW_KHZ) 2000)

/-- What the SLEW rate moves the frequency in `ns`, in 1/32 kHz (R161). -/
def State.slewStep (s : State) (ns : Nat) : Nat := ns * max (s.f F.PH_TIMEBASE_SLEW) 1 * s.fswKhz * 32 / 800000

/-- The present timebase frequency in 1/32 kHz (R157, R161). -/
def State.fswNow (s : State) : Nat :=
  let b := s.ph.tb
  let d := s.slewStep (s.since b.at_)
  if b.freq ≤ b.target then min b.target (b.freq + d) else max b.target (b.freq - d)

/-- Twice the frequency summed over the first `d` ns of the slew, in 1/32 kHz x ns (R161). -/
def State.slewSum (s : State) (d : Nat) : Nat :=
  let b := s.ph.tb
  let k := max (s.f F.PH_TIMEBASE_SLEW) 1 * s.fswKhz * 32
  let gap := if b.freq ≤ b.target then b.target - b.freq else b.freq - b.target
  let full := divUp (gap * 800000) k
  let e := min d full
  let ramp := min (k * e * e / 800000) (gap * e)
  (if b.freq ≤ b.target then 2 * b.freq * e + ramp else 2 * b.freq * e - ramp) + 2 * b.target * (d - full)

/-- The phase of the timebase now, in 2^-32 of its period: the 32-bit oscillator (R157). -/
def State.tbPhase (s : State) : BitVec 32 :=
  s.ph.tb.nco + BitVec.ofNat 32 (s.slewSum (s.since s.ph.tb.at_) * 2 ^ 26 / 1000000)

/-- The pin SYNC_OUT when `x` of 65,536 parts of the timebase period have passed (R162). -/
def State.syncOut (s : State) (x : Nat) : Bool :=
  s.on F.PH_SYNC_OUT_EN && decide ((x + 65536 - 256 * s.f F.PH_SYNC_OUT_ANGLE) % 65536 < 32768)

/-- The pin SYNC_OUT now (R162). -/
def State.syncPin (s : State) : Bool := s.syncOut (s.tbPhase.toNat / 65536)

/-- f_SYNC x M / D in 1/32 kHz, from a period in ps (R157). -/
def State.syncFreq (s : State) (ps : Nat) : Nat :=
  (divNearest ((32 * 1000000000 * (s.f F.PH_TIMEBASE_SYNC_M + 1) : Nat) : Int)
    (max 1 (ps * (s.f F.PH_TIMEBASE_SYNC_D + 1)))).toNat

/-- The frequency the timebase goes to: f_SYNC x M / D while it acquires or is locked, else FSW_KHZ. -/
def State.fswTarget (s : State) : Nat :=
  match s.ph.tb.lastEdge with
  | some (_, ps) => if s.ph.tb.acq || s.on F.PH_SYNC_STATUS_LOCKED then s.syncFreq ps else s.fswKhz * 32
  | none => s.fswKhz * 32

/-- Slew from the present frequency towards the target, without a step of the phase (R161); `old` is the state whose rate
applied until now. -/
def State.retime (s : State) (old : State) : State :=
  { s with ph := { s.ph with tb := { s.ph.tb with
    nco := old.tbPhase, freq := old.fswNow, at_ := s.now, target := s.fswTarget } } }

/-- A write of PH_TIMEBASE slews the frequency (R161). -/
def writePhTimebase (by_ : Writer) (w : Word) (s : State) : State × Bool :=
  let q := writeReg s by_ R.PH_TIMEBASE 0 w
  (q.1.retime s, q.2)

/-- A SYNC_IN period in ps is valid (R158). -/
def State.syncValid (s : State) (ps : Nat) : Bool :=
  let m := s.f F.PH_TIMEBASE_SYNC_M + 1
  let d := s.f F.PH_TIMEBASE_SYNC_D + 1
  s.on F.PH_SYNC_SYNC_EN && decide (250000 ≤ ps) && decide (ps ≤ 5000000)
    && decide (400 * ps * d ≤ 1000000000 * m) && decide (1000000000 * m ≤ 2000 * ps * d)

/-- Eight periods agree within 1 % (R159). -/
def periodsAgree (l : List Nat) : Bool :=
  decide (l.length = 8) && decide ((l.foldl max 0) * 100 ≤ (l.foldl min 5000000) * 101)

/-- At a SYNC_IN edge that ends a period of `ps` ps, the acquired timebase moves its phase towards the edge by at most 1/64 of
its period per cycle, of which M / D have passed (R159). With D above 1, its edge comes within 2 ns of every D-th SYNC_IN
edge, whichever of the D it is nearest to (log entry 123). -/
def State.syncMove (s : State) (ps : Nat) : State :=
  let m := s.f F.PH_TIMEBASE_SYNC_M + 1
  let d := s.f F.PH_TIMEBASE_SYNC_D + 1
  let x := s.ph.tb.nco.toNat
  let u := 2 ^ 32 / d
  let r := x % u
  let dist := min r (u - r)
  let step := min dist (2 ^ 26 * m / d)
  { s with ph := { s.ph with tb := { s.ph.tb with
    nco := BitVec.ofNat 32 (if 2 * r ≤ u then x - step else x + step),
    off := some ((dist - step) * (ps * d / m) / 2 ^ 32) } } }

/-- SYNC_EDGE: a SYNC_IN edge that ends a period of `ps` ps (R158, R159). -/
def execSyncEdge (ps : Nat) (s : State) : Host.Outcome State Fault Refusal :=
  .next (if s.vgov && decide (0 < ps) then
    let s := s.setfSat F.PH_SYNC_STATUS_MEAS_KHZ 0 (1000000000 / ps)
    if s.syncValid ps then
      let old := s
      let b := s.ph.tb
      let l := (ps :: b.periods).take 8
      let s := { s with ph := { s.ph with tb := { b with
        periods := l, lastEdge := some (s.now, ps),
        acq := !s.on F.PH_SYNC_STATUS_LOCKED && (b.acq || periodsAgree l), off := none } } }
      let s := s.retime old
      if s.ph.tb.acq ∧ b.acq ∧ old.fswNow = b.target then s.syncMove ps else s
    else
      let s := s.setf F.PH_SYNC_STATUS_SYNC_BAD 0 1
      { s with ph := { s.ph with tb := { s.ph.tb with periods := [] } } }
  else s)

/-- SYNC_LOCK: the frequency has been acquired and the timebase edge lies within 2 ns of the SYNC_IN edge (R159).
The distance is that of State; `off` is the jitter of the two edges, ps, which the phase detector sees beside it (log
entry 123). -/
def execSyncLock (off : Nat) (s : State) : Host.Outcome State Fault Refusal :=
  .next (if s.vgov && s.ph.tb.acq && decide ((s.ph.tb.off.getD 2001) + off ≤ 2000) then
    let s := (s.setf F.PH_SYNC_STATUS_LOCKED 0 1).setf F.PH_SYNC_STATUS_ON_INT 0 0
    { s with ph := { s.ph with tb := { s.ph.tb with acq := false } } }
  else s)

/-- SYNC_LOSS: no valid edge for two of the last measured periods (R160). -/
def execSyncLoss (s : State) : Host.Outcome State Fault Refusal :=
  .next (match s.ph.tb.lastEdge with
  | some (t, ps) =>
    if s.vgov && decide (2 * ps ≤ s.since t * 1000) then
      let old := s
      let s := ((s.setf F.PH_SYNC_STATUS_ON_INT 0 1).setf F.PH_SYNC_STATUS_SYNC_LOST 0 1).setf
        F.PH_SYNC_STATUS_LOCKED 0 0
      let s := s.setf F.PH_SYNC_STATUS_MEAS_KHZ 0 0
      let s := { s with ph := { s.ph with tb := { s.ph.tb with lastEdge := none, periods := [], acq := false, off := none } } }
      (s.retime old).fault 0x27 0
    else s
  | none => s)

/-! ### The switched cycle (R152 to R156, R163, R168, R181, R183) -/

/-- A current of a sense voltage, in 1/80 A: I = (V - 5 mV) / 12.5 mV - CS_OFFS / 8 (R149). -/
def senseI (steps : Nat) (offs : Int) : Int := 8 * ((steps : Int) - 4) - 10 * offs

/-- The switching period in 25 ps. -/
def State.period25 (s : State) : Nat := 40000000 * 32 / max s.fswNow 1

/-- The longest on-time in 25 ps (R152): TON_MAX held between 16 and 128. -/
def State.tonMax (s : State) : Nat := s.period25 * max 16 (min (s.f F.PH_PROT_TON_MAX) 128) / 256

/-- ILIM_PK in 1/2 A, at most 160. -/
def State.ilimPk (s : State) (p : Nat) : Nat := min (s.f F.PHp_LIM_ILIM_PK p) 160

/-- I_cmd x SHARE_EFF / 128 in 1/32,768 A, with the share ramp (R153, R166). -/
def State.shareCmd (s : State) (p : Nat) : Nat :=
  let x := s.phase p
  let c := s.f F.RAILr_CMD_ICMD x.rail * s.f F.PHp_STATUS_SHARE_EFF p
  if s.phSt p = PH_SOFT ∧ 0 < x.rampLen then c * min x.rampDone x.rampLen / x.rampLen else c

/-- I_pk of R153 in 1/32,768 A. -/
def State.iPk (s : State) (p : Nat) : Nat := min (s.shareCmd p) (s.ilimPk p * 16384)

/-- The comparator's threshold I_pk - S_e x t at `t` (25 ps), in steps of 0.1 A (R153, R154). -/
def State.threshold (s : State) (p t : Nat) : Int :=
  let x := s.phase p
  let d : Nat := 512 * x.lnh * 40000
  -- S_e x t in A is SLOPE_K x V_set x t over d, V_set in 1/16 mV and t in 25 ps
  divNearest (((s.iPk p * d : Nat) : Int) * 10 - ((x.slope * s.f F.RAILr_SETPT_SETPT x.rail * t * 327680 : Nat) : Int))
    (32768 * d)

/-- The first instant of the on-time's current wave at which the comparator trips (R152). -/
def State.tripAt (s : State) (p : Nat) (wave : List (Nat × Int)) : Option Nat :=
  (wave.find? (fun e => decide (s.threshold p e.1 ≤ e.2))).map (·.1)

/-- The rise of the sensed current over the on-time, in 0.1 A. -/
def riseOf (wave : List (Nat × Int)) (ton : Nat) : Int :=
  match wave with
  | [] => 0
  | e :: _ => (wave.foldl (fun acc x => if x.1 ≤ ton then x.2 else acc) e.2) - e.2

/-- Move the angle by at most 1/64 of the period, along the shorter direction (R156). -/
def moveAngle (now goal : Nat) : Nat :=
  let d := (goal + 65536 - now) % 65536
  if d ≤ 1024 ∨ 64512 ≤ d then goal
  else if d ≤ 32768 then (now + 1024) % 65536 else (now + 64512) % 65536

/-- Light load: a cycle of the rail, counted at its first active phase (R163). -/
def State.lightCycle (s : State) (r : Nat) : State :=
  let x := s.rail r
  let n : Int := s.nAct r
  if x.de then
    (if (s.f F.PH_LIGHT_DE_EXIT : Int) * 20 * n < x.leff ∨ s.on F.PHRAILr_STATUS_CAP_LOW r
      then s.endDe r else s)
  else if s.on F.PHRAILr_SHED_DE_EN r ∧ !s.on F.PHRAILr_STATUS_CAP_LOW r ∧ x.leff < (s.f F.PH_LIGHT_DE_ENTER : Int) * 20 * n then
    (if 15 ≤ x.deRun then
      (s.active r).foldl (fun s p => s.setf F.PHp_STATUS_DE p 1) (s.setRail r { x with de := true, deRun := 0 })
    else s.setRail r { x with deRun := x.deRun + 1 })
  else s.setRail r { x with deRun := 0 }

/-- What the on-time of a cycle found: CYCLE_LIMIT, OPEN_CYCLE and SENSE_STUCK (R168, R181, R183). -/
def State.cycleChecks (s : State) (p : Nat) (tripped limited : Bool) (rise : Int) : State :=
  let x := s.phase p
  let isOpen := !tripped && decide (rise * 4 < (s.f F.PH_PROT_OPEN_RISE : Int) * 5)
  let x := { x with
    limRun := if limited then x.limRun + 1 else 0,
    openRun := if isOpen then x.openRun + 1 else 0,
    flatRun := if rise < 5 then x.flatRun + 1 else 0 }
  let s := s.setPhase p x
  let s := if limited then s.incf F.PHp_COUNT_LIMITED p else s
  if 2 ≤ x.openRun then (s.phCause p PH_FAILED 1).fault 0x20 p
  else if 16 ≤ x.flatRun then (s.phCause p PH_FAILED 3).fault 0x22 p
  else if max 1 (min (s.f F.PH_PROT_HICCUP_N) 64) ≤ x.limRun then s.phHiccup p 8
  else s

/-- IAVG: the mean of a cycle's samples of V_CS, each converted to current (R149); without a sample it stands. -/
def State.meanIavg (s : State) (p : Nat) (cs : List Nat) : Nat :=
  if cs = [] then s.f F.PHp_MEAS_IAVG p
  else (clampInt 0 65535 (divNearest (cs.map (fun v => senseI v (s.phase p).offs)).sum (10 * cs.length))).toNat

/-- A cycle begins: SHARE, SLOPE_K and CS_OFFS take effect, and the angle moves (R156, R191). -/
def State.cycleStart (s : State) (p : Nat) : State :=
  let x := s.phase p
  (s.setPhase p { x with
    share := s.f F.PHp_CFG_SHARE p, slope := min (s.f F.PHp_CFG_SLOPE_K p) 64, offs := s.fi F.PHp_LIM_CS_OFFS p,
    angle := moveAngle x.angle (angleOf (s.rankOf p) (s.nAct x.rail) x.rail) }).showShare p

/-- The part of a cycle in which diode emulation holds both switches off: from the first instant after the on-time at
which the current has fallen to ZCD, until 20 ns before the next angle point (R163). -/
def State.idleOf (s : State) (p ton : Nat) (wave : List (Nat × Int)) : Option (Nat × Nat) :=
  if !(s.rail (s.phase p).rail).de then none
  else match wave.find? (fun e => decide (ton < e.1) && decide (e.2 * 16 ≤ 10 * (s.f F.PH_LIGHT_ZCD : Int))) with
    | some e => if e.1 + 800 < s.period25 then some (e.1, s.period25 - 800) else none
    | none => none

/-- PHASE_CYCLE: one cycle of phase `p`. `wave` is the sensed current in 0.1 A at successive instants of the cycle in
25 ps; `cs` lists the cycle's samples of V_CS (R149, R152). A cycle without an on-time, because of braking, counts for no
check (R168). At its end PH_EN is 1 again, in diode emulation too (R163). -/
def execPhaseCycle (p : Nat) (wave : List (Nat × Int)) (cs : List Nat) (s : State) : Host.Outcome State Fault Refusal :=
  .next (
    let r := (s.phase p).rail
    if s.phaseUp p && (s.phSt p == PH_SOFT || s.phSt p == PH_ACTIVE) then
      let s := s.cycleStart p
      let i := s.meanIavg p cs
      let s := (s.setf F.PHp_MEAS_IAVG p i).telem (0x25000000 + p) i
      let x := s.phase p
      let s := s.setPhase p { x with sumI := x.sumI + i, numI := x.numI + 1 }
      if s.on F.PHRAILr_STATUS_BRAKING r then
        (let x := s.phase p
        let s := s.setPhase p { x with en := false, pwm := false, idle := none, lowAt := if x.en then s.now else x.lowAt }
        let s := if r = s.f F.TRC_SEL_RAIL then s.trace 8 0 p i else s
        if s.rankOf p = 0 then s.lightCycle r else s)
      else
        let x := s.phase p
        let s := s.setPhase p { x with rampDone := min (x.rampDone + 1) x.rampLen }
        let tm := s.tonMax
        let trip := match s.tripAt p wave with
          | some t => if t ≤ tm then some t else none
          | none => none
        let ton := max 400 (trip.getD tm)
        let limited := trip.isSome && decide (s.ilimPk p * 16384 < s.shareCmd p)
        let s := s.setfSat F.PHp_ONTIME_TON p ton
        let s := s.setPhase p { s.phase p with en := true, pwm := false, idle := s.idleOf p ton wave }
        let s := if r = s.f F.TRC_SEL_RAIL then s.trace 8 0 p (min ton 65535 * 65536 + i) else s
        let s := if s.rankOf p = 0 then s.lightCycle r else s
        s.cycleChecks p trip.isSome limited (riseOf wave ton)
    else s)

/-- SOFTSTART_COMPLETE: the share ramp of the phase is complete (R166). -/
def execSoftstartComplete (p : Nat) (s : State) : Host.Outcome State Fault Refusal :=
  let x := s.phase p
  .next (if s.phaseUp p && s.phSt p == PH_SOFT && decide (x.rampLen ≤ x.rampDone) then s.phGo p PH_ACTIVE else s)

/-- HICCUP_MS in ns: held between 1 and 64 ms. -/
def State.hiccupNs (s : State) : Nat := max 1 (min (s.f F.PH_PROT_HICCUP_MS) 64) * 1000000

/-- PHASE_HICCUP_EXPIRE: the bias check with V_CS `vcs`, and PH_TF at `tf` mV (R169, R170). -/
def execPhaseHiccupExpire (p vcs tf : Nat) (s : State) : Host.Outcome State Fault Refusal :=
  .next (if s.phaseUp p && s.phSt p == PH_HICCUP && s.passed (s.phase p).since s.hiccupNs then
    let s := s.setPhase p { s.phase p with tfFault := decide (2400 ≤ tf) }
    if 80 < vcs then (s.phCause p PH_ABSENT 2).fault 0x21 p
    else if 2400 ≤ tf then s.phHiccup p 9
    else s.phJoin p
  else s)

/-- SENSE_LINE_OPEN: V_CS has stayed above 1.200 V for `ns` ns (R151, R182). -/
def execSenseLineOpen (p ns : Nat) (s : State) : Host.Outcome State Fault Refusal :=
  let st := s.phSt p
  .next (if s.phaseUp p && decide (1000 ≤ ns) && decide (st ≠ PH_OFF) && decide (st ≠ PH_PROBE) then
    (if st = PH_ABSENT then s.setf F.PHp_STATUS_CAUSE p 2 else s.phCause p PH_ABSENT 2).fault 0x21 p
  else s)

/-- The phases of a rail with a cycle mean in this interval. -/
def State.measured (s : State) (r : Nat) : List Nat := (s.active r).filter (fun p => decide (0 < (s.phase p).numI))

/-- The mean current of a phase over the interval, in 1/8 A. -/
def State.meanI (s : State) (p : Nat) : Rat := ((s.phase p).sumI : Rat) / (s.phase p).numI

/-- A phase's mean current is implausible (R184), SHARE_EFF of every other phase being above 0. -/
def State.implausible (s : State) (p : Nat) (others : List Nat) : Bool :=
  let e : Rat := (s.f F.PHp_STATUS_SHARE_EFF p : Rat)
    * ((others.map (fun q => s.meanI q / (s.f F.PHp_STATUS_SHARE_EFF q : Rat))).sum / others.length)
  let d := s.meanI p - e
  decide (80 < (if d < 0 then -d else d)) && decide (e * 2 / 5 < (if d < 0 then -d else d))

/-- SENSE_IMPLAUSIBLE_CHECK: every 50 µs, the phases of rail `r` are compared (R184). Where SHARE_EFF of another phase is
0 the rule gives no expected value, and the outcome is free (log entry 2). -/
def execSenseImplausibleCheck (r : Nat) (s : State) : Host.Outcome State Fault Refusal :=
  .next (if s.railUp r && s.due 7 r 50000 0 then
    let s := s.serve 7 r
    let l := s.measured r
    let zero := fun (s : State) (p : Nat) => l.any (fun q => decide (q ≠ p) && s.f F.PHp_STATUS_SHARE_EFF q == 0)
    let bad := l.filter (fun p => decide (3 ≤ l.length)
      && (if zero s p then (s.freeVal 128).getLsbD p else s.implausible p (l.filter (fun q => q ≠ p))))
    let s := if l.any (fun p => zero s p) then s.usedFree else s
    let s := (s.phasesOf r).foldl (fun s p => s.setPhase p { s.phase p with sumI := 0, numI := 0 }) s
    bad.foldl (fun s p => (s.phCause p PH_FAILED 4).fault 0x22 p) s
  else s)

/-! ### Shedding and capability (R165, R179, R180) -/

/-- The order in which phases are added: lowest temperature, then lowest index; `n` of them (R165). -/
def State.coolest (s : State) (l : List Nat) (n : Nat) : List Nat :=
  match n with
  | 0 => []
  | k + 1 =>
    match l.foldl (fun (b : Option Nat) p => match b with
        | none => some p
        | some q => if s.fi F.PHp_MEAS_TEMP p < s.fi F.PHp_MEAS_TEMP q then some p else some q) none with
    | none => []
    | some p => p :: s.coolest (l.filter (fun q => q ≠ p)) k

/-- The active phase with the highest temperature, the highest index among equals (R165). -/
def State.hottest (s : State) (l : List Nat) : Option Nat :=
  l.foldl (fun (b : Option Nat) p => match b with
    | none => some p
    | some q => if s.fi F.PHp_MEAS_TEMP q ≤ s.fi F.PHp_MEAS_TEMP p then some p else some q) none

/-- L_eff / (N_act - 1) is below SHED_A (R165). -/
def State.lightLoad (s : State) (r : Nat) : Bool :=
  decide ((s.rail r).leff < (s.f F.PHRAILr_SHED_SHED_A r : Int) * 80 * ((s.nAct r : Int) - 1))

/-- A phase may be shed (R165, R178). -/
def State.shedCond (s : State) (r : Nat) : Bool :=
  s.on F.PHRAILr_SHED_SHED_EN r && decide (max 1 (s.f F.PHRAILr_SHED_MIN_PH r) < s.nAct r) && s.lightLoad r
    && decide (s.f F.PHRAILr_SHED_SHED_A r < s.f F.PHRAILr_SHED_ADD_A r) && !s.on F.PHRAILr_STATUS_CAP_LOW r

/-- PHASE_SHED: the load per phase has stayed below SHED_A for SHED_DWELL (R165). A hottest active phase that is still in
SOFTSTART is not shed: R188 lists the event for ACTIVE only. -/
def execPhaseShed (r : Nat) (s : State) : Host.Outcome State Fault Refusal :=
  let x := s.rail r
  .next (match x.shedAt, s.hottest (s.active r) with
  | some t, some p =>
    if s.railUp r && s.shedCond r && s.phSt p == PH_ACTIVE && s.passed t (max 1 (s.f F.PH_LIGHT_SHED_DWELL) * 1000) then
      (s.setRail r { x with shedAt := some s.now }).phGo p PH_SHED
    else s
  | _, _ => s)

/-- CAPABILITY_UPDATE: a changed C_r reaches the loop engine (R179). -/
def execCapabilityUpdate (r : Nat) (s : State) : Host.Outcome State Fault Refusal :=
  let x := s.rail r
  .next (if s.railUp r && x.limitDue then
    (s.setRail r { x with limit := s.f F.PHRAILr_STATUS_CAP r, limitDue := false }).post (0x3000 + r)
      (s.f F.PHRAILr_STATUS_CAP r) else s)

/-- PHASE_CAPACITY_REPORT: F of R180 for each 100 ns window, as C_0 over the planned capacity. -/
def execPhaseCapacityReport (s : State) : Host.Outcome State Fault Refusal :=
  .next (if s.vgov && s.due 8 0 100 0 then
    let s := s.serve 8 0
    let d := ((s.enabledOf 0).map (fun p => (s.phase p).irate)).sum
    { s with crd := { s.crd with fracNum := if d = 0 then 0 else s.capOfRail 0, fracDen := 256 * d } }
  else s)

/-! ### Braking (R173, R174) -/

/-- BRAKE_MV, at most 60, and BRAKE_HYST in 1/16 mV. -/
def State.brakeMv (s : State) (r : Nat) : Nat := min (s.f F.PHRAILr_BRAKE_BRAKE_MV r) 60 * 16

/-- BRAKE_START: the overshoot comparator sees the rail at `v` (1/16 mV) (R173). -/
def execBrakeStart (r v : Nat) (s : State) : Host.Outcome State Fault Refusal :=
  let x := s.rail r
  .next (if s.railUp r && s.on F.PHRAILr_BRAKE_BRAKE_EN r && !s.on F.PHRAILr_STATUS_BRAKING r && !x.brakeBlock
      && decide (s.f F.RAILr_SETPT_SETPT r + s.brakeMv r < v) then
    let s := (s.setRail r { x with brakeAt := some s.now }).setf F.PHRAILr_STATUS_BRAKING r 1
    let s := (s.phasesOf r).foldl (fun s p =>
      let y := s.phase p
      s.setPhase p { y with en := false, pwm := false, lowAt := if y.en then s.now else y.lowAt }) s
    (s.active r).foldl (fun s p => s.hang (0x400 + p) 0x02 0) s
  else s)

/-- The rail at `v` (1/16 mV) is below set-point + BRAKE_MV - BRAKE_HYST (R173). -/
def State.brakeOver (s : State) (r v : Nat) : Bool :=
  decide (v + s.f F.PHRAILr_BRAKE_BRAKE_HYST r * 16 < s.f F.RAILr_SETPT_SETPT r + s.brakeMv r)

/-- BRAKE_END: the rail has fallen far enough; a block left by a timeout ends too (R173). -/
def execBrakeEnd (r v : Nat) (s : State) : Host.Outcome State Fault Refusal :=
  .next (if s.railUp r && s.brakeOver r v then
    let s := s.endBrake r
    s.setRail r { s.rail r with brakeBlock := false }
  else s)

/-- BRAKE_TIMEOUT: braking has lasted BRAKE_MAX_US (R173). -/
def execBrakeTimeout (r : Nat) (s : State) : Host.Outcome State Fault Refusal :=
  let x := s.rail r
  .next (match x.brakeAt with
  | some t =>
    if s.railUp r && s.passed t (max 1 (s.f F.PHRAILr_BRAKE_BRAKE_MAX_US r) * 1000) then
      let s := s.endBrake r
      let s := s.setRail r { s.rail r with brakeBlock := true }
      s.log 0x2102 r ((s.rd R.RAILr_STATUS r).toNat / 2 ^ 24)
    else s
  | none => s)

/-! ### Enable, disable, probe (R182 to R191) -/

/-- A held disable is withdrawn: its PHASE_EN commands are superseded (R189). -/
def State.dropHeld (s : State) (p : Nat) : State :=
  let x := s.phase p
  let s := (s.setPhase p { x with heldSlots := [] }).setf F.PHp_STATUS_DISABLE_HELD p 0
  x.heldSlots.foldl (fun s k => s.setFw { s.eye.fw with outcome := Tab.set 0 s.eye.fw.outcome k 0x3000 }) s

/-- A write of 1 to EN (R188, R189). -/
def State.phEnable (s : State) (p : Nat) : State :=
  let st := s.phSt p
  let s := s.setf F.PHp_CFG_EN p 1
  if st = PH_OFF then s.phProbe p
  else if st = PH_STOPPING then s.setf F.PHp_STATUS_PENDING_ENABLE p 1
  else if s.on F.PHp_STATUS_DISABLE_HELD p then s.dropHeld p
  else s

/-- A write of 0 to EN, for the command in journal slot `slot` (R188, R189). -/
def State.phDisableReq (s : State) (p : Nat) (slot : Option Nat) : State :=
  let st := s.phSt p
  let s := s.setf F.PHp_CFG_EN p 0
  if st = PH_OFF then s
  else if st = PH_STOPPING then s.setf F.PHp_STATUS_PENDING_ENABLE p 0
  else if s.on F.PHp_STATUS_DISABLE_HELD p then
    s.setPhase p { s.phase p with heldSlots := (s.phase p).heldSlots ++ slot.toList }
  else if s.canDisable p then s.phDisable p
  else (s.setf F.PHp_STATUS_DISABLE_HELD p 1).setPhase p { s.phase p with heldSlots := slot.toList }

/-- Write EN of a phase. -/
def State.phEnWrite (s : State) (p : Nat) (b : Bool) (slot : Option Nat) : State :=
  if b then s.phEnable p else s.phDisableReq p slot

/-- A write of PHp_CFG: the other fields first, then EN (R188, R189, R191). -/
def writePhCfg (p : Nat) (by_ : Writer) (w : Word) (s : State) : State × Bool :=
  let q := writeFields s by_ R.PHp_CFG p [⟨30, 0, .rw⟩] w
  (q.1.phEnWrite p (w.getLsbD 31) none, q.2)

/-- PHASE_ENABLE_WRITE: a CFG write of PHp_CFG (R188). -/
def execPhaseEnableWrite (priv : Bool) (p : Nat) (w : Word) (s : State) : Host.Outcome State Fault Refusal :=
  .next (s.cfgWrite priv R.PHp_CFG p (writePhCfg p .cfg w))

/-- PHASE_DISABLE_WRITE: a CFG write of PHp_CFG (R189). -/
def execPhaseDisableWrite (priv : Bool) (p : Nat) (w : Word) (s : State) : Host.Outcome State Fault Refusal :=
  .next (s.cfgWrite priv R.PHp_CFG p (writePhCfg p .cfg w))

/-- DISABLE_HELD_APPLY: a held disable can be applied (R189). -/
def execDisableHeldApply (p : Nat) (s : State) : Host.Outcome State Fault Refusal :=
  .next (if s.phaseUp p && s.on F.PHp_STATUS_DISABLE_HELD p && s.canDisable p then s.phDisable p else s)

/-- The quiet point of R190 with a sensed current of `vcs`. -/
def State.phQuiet (s : State) (p vcs : Nat) : Bool :=
  let x := s.phase p
  let c := s.f F.PHp_STATUS_CAUSE p
  s.phLow p && (c == 2 || c == 3 || c == 4 || decide (senseI vcs x.offs < 40))

/-- PHASE_QUIET_POINT: a STOPPING phase with V_CS `vcs` reaches its quiet point (R188, R190). -/
def execPhaseQuietPoint (p vcs : Nat) (s : State) : Host.Outcome State Fault Refusal :=
  .next (if s.phaseUp p && s.phSt p == PH_STOPPING && s.phQuiet p vcs then
    (if s.on F.PHp_STATUS_PENDING_ENABLE p then (s.setf F.PHp_STATUS_PENDING_ENABLE p 0).phProbe p
    else s.phGo p PH_OFF)
  else s)

/-- A write of PHp_STATUS: 1 to FAILED starts a probe (R188). -/
def writePhStatus (p : Nat) (by_ : Writer) (w : Word) (s : State) : State × Bool :=
  let q := writeFields s by_ R.PHp_STATUS p [⟨22, 22, .w1c⟩] w
  (if w.getLsbD 23 ∧ s.phSt p = PH_FAILED then q.1.phProbe p else q.1, q.2)

/-- PHASE_FAILED_REPROBE: a CFG write of PHp_STATUS (R188). -/
def execPhaseFailedReprobe (priv : Bool) (p : Nat) (w : Word) (s : State) : Host.Outcome State Fault Refusal :=
  .next (s.cfgWrite priv R.PHp_STATUS p (writePhStatus p .cfg w))

/-- Record what a probe read (R185, R512). -/
def State.probeRead (s : State) (p vcs tf : Nat) : State :=
  let id := tfId tf
  let s := s.setf F.PHp_STATUS_ID_SEEN p (id.getD 0)
  let s := s.setb F.PHp_STATUS_ID_BAD p id.isNone
  let s := s.setPhase p { s.phase p with pwm := false }
  s.hang (0x400 + p) 0x03 ((if vcs ≤ 80 then 8 else 0) + id.getD 0)

/-- PROBE_COMPLETE: 20 µs of probing are over; V_CS is `vcs` and PH_TF `tf` mV (R185, R186, R188). -/
def execProbeComplete (p vcs tf : Nat) (s : State) : Host.Outcome State Fault Refusal :=
  .next (if s.phaseUp p && s.phSt p == PH_PROBE && s.passed (s.phase p).since 20000 then
    let s := s.probeRead p vcs tf
    if 80 < vcs ∨ tfId tf = some 0 then s.phCause p PH_ABSENT 2
    else if tfId tf = some (s.phase p).idExp then (s.setDisc p true).phJoin p
    else (s.phCause p PH_MISMATCH 6).fault 0x26 p
  else s)

/-- Re-admit a phase, or refuse the third within 1 s (R187). -/
def State.readmit (s : State) (p : Nat) : State :=
  let x := s.phase p
  if 2 ≤ (x.readmits.filter (fun t => decide (s.since t < 1000000000))).length then
    (s.phCause p PH_FAILED 5).fault 0x26 p
  else
    let s := s.setPhase p { x with readmits := (s.now :: x.readmits).take 2, matches_ := 0 }
    ((s.incf F.PHp_COUNT_READMITS p).setDisc p true).phJoin p

/-- ABSENT_PROBE: the probe every 10 ms in ABSENT; V_CS is `vcs` and PH_TF `tf` mV (R187). -/
def execAbsentProbe (p vcs tf : Nat) (s : State) : Host.Outcome State Fault Refusal :=
  .next (if s.phaseUp p && s.phSt p == PH_ABSENT && s.passed (s.phase p).since 10000000 then
    let s := s.probeRead p vcs tf
    let x := s.phase p
    let ok := decide (vcs ≤ 80) && s.f F.PHp_STATUS_ID_SEEN p == x.idExp
    let m := if ok then x.matches_ + 1 else 0
    let s := s.setPhase p { x with since := s.now, matches_ := m }
    if 2 ≤ m ∧ s.on F.PHp_CFG_AUTO_READMIT p then s.readmit p else s
  else s)

end Sys2Proof.Machine
end

