-- ==== Sys2Proof/Machine/Rail.lean ====
section
/-! DEFINITION. Rails and the sequencer (spec chapter 05): targets, the compensator and the rail samples, the profile
generator, remote sense, power good, over-voltage, the rail state machine and the sequence tables. -/
namespace Sys2Proof.Machine
open Sys2Proof

/-! ### Host targets (R193, R194, R203) -/

/-- A new host target replaces a pending one: its command is superseded (R203). -/
def State.replaceHost (s : State) (r : Nat) : State :=
  let x := s.rail r
  if x.hostPending then
    let s := s.incf F.RAILr_COUNT_SUPERSEDED r
    match x.hostSlot with
    | some k => s.setFw { s.eye.fw with outcome := Tab.set 0 s.eye.fw.outcome k 0x3000 }
    | none => s
  else s

/-- Set the host target, for the command in journal slot `slot`; a generator at rest at the target has arrived (R203). -/
def State.setHost (s : State) (r code : Nat) (slot : Option Nat) : State :=
  let s := s.replaceHost r
  let s := (s.setf F.RAILr_TARGET_CODE r code).setf F.RAILr_TARGET_STATUS r 1
  let s := s.setRail r { s.rail r with hostPending := true, hostSlot := slot }
  let s := s.recompose r
  if s.railOn r && !s.safe && !s.tracking r && (s.rail r).arrived then s.hostDone r else s

/-- A target write: refused outside 400 to 3600, and for a ratiometric follower (R5, R193). -/
def State.targetWrite (s : State) (r code : Nat) (slot : Option Nat) : State :=
  if code < 400 ∨ 3600 < code ∨ s.trackMode r = 1 then s.setf F.RAILr_TARGET_STATUS r 3
  else s.setHost r code slot

/-- A write of RAILr_TARGET (R193). -/
def writeRailTarget (r : Nat) (w : Word) (s : State) : State × Bool := (s.targetWrite r (getBits w 0 12) none, false)

/-- RAIL_TARGET_WRITE: a CFG write of RAILr_TARGET (R193). -/
def execRailTargetWrite (priv : Bool) (r : Nat) (w : Word) (s : State) : Host.Outcome State Fault Refusal :=
  .next (s.cfgWrite priv R.RAILr_TARGET r (writeRailTarget r w))

/-! ### RAILr_CTRL (R200, R220, R576) -/

/-- The compensator's coefficient registers: b, a, shifts of b, shifts of a. -/
def State.coefRegs (s : State) (r : Nat) : List Word × List Word × Word × Word :=
  ([s.rd R.RAILr_B0 r, s.rd R.RAILr_B1 r, s.rd R.RAILr_B2 r, s.rd R.RAILr_B3 r],
   [s.rd R.RAILr_A1 r, s.rd R.RAILr_A2 r, s.rd R.RAILr_A3 r], s.rd R.RAILr_SHIFTB r, s.rd R.RAILr_SHIFTA r)

/-- A change of COEF_HOLD captures the coefficients or releases them (R200). -/
def State.coefHold (s : State) (r : Nat) (b : Bool) : State :=
  if s.on F.RAILr_CTRL_COEF_HOLD r = b then s
  else
    let s := s.setb F.RAILr_CTRL_COEF_HOLD r b
    s.setRail r { s.rail r with held := if b then some (s.coefRegs r) else none }

/-- The sequencer runs a table: UP or DOWN. -/
def State.seqBusy (s : State) : Bool := s.f F.SEQ_STATUS_STATE == 1 || s.f F.SEQ_STATUS_STATE == 3

/-- A write of RAILr_CTRL: a change of ON while the sequencer runs is refused with an error response (R220). -/
def writeRailCtrl (r : Nat) (by_ : Writer) (w : Word) (s : State) : State × Bool :=
  let q := writeFields s by_ R.RAILr_CTRL r [⟨30, 30, .rw⟩] w
  let s := q.1.coefHold r (w.getLsbD 29)
  let on := w.getLsbD 31
  if s.on F.RAILr_CTRL_ON r = on then (s, q.2)
  else if s.seqBusy then (s, true)
  else (s.writeOn r on, q.2)

/-- RAIL_ON_WRITE: a CFG write of RAILr_CTRL (R576). -/
def execRailOnWrite (priv : Bool) (r : Nat) (w : Word) (s : State) : Host.Outcome State Fault Refusal :=
  .next (s.cfgWrite priv R.RAILr_CTRL r (writeRailCtrl r .cfg w))

/-- RAIL_OFF_WRITE: a CFG write of RAILr_CTRL (R576). -/
def execRailOffWrite (priv : Bool) (r : Nat) (w : Word) (s : State) : Host.Outcome State Fault Refusal :=
  .next (s.cfgWrite priv R.RAILr_CTRL r (writeRailCtrl r .cfg w))

/-- RAIL_COEF_HOLD: a CFG write of RAILr_CTRL (R200). -/
def execRailCoefHold (priv : Bool) (r : Nat) (w : Word) (s : State) : Host.Outcome State Fault Refusal :=
  .next (s.cfgWrite priv R.RAILr_CTRL r (writeRailCtrl r .cfg w))

/-- A write of a register that the effective target depends on (R194); SAFE_CODE written 0 in safe state stops the rail
(R221). -/
def writeRailInput (reg : Reg) (r : Nat) (by_ : Writer) (w : Word) (s : State) : State × Bool :=
  let q := writeReg s by_ reg r w
  let s := q.1
  (if s.safeHolds r && (s.on F.RAILr_CTRL_ON r || s.railOn r) then (s.onWritten0 r).recompose r else s.recompose r, q.2)

/-- A write of RAILr_TRACK: faulty settings set the sequencer's CONFIG_ERR (R213). -/
def writeRailTrack (r : Nat) (by_ : Writer) (w : Word) (s : State) : State × Bool :=
  let q := writeReg s by_ R.RAILr_TRACK r w
  let s := if allRails.any (fun k => q.1.trackBad k) then q.1.setf F.SEQ_STATUS_CONFIG_ERR 0 1 else q.1
  (s.recompose r, q.2)

/-! ### The compensator (R196 to R200) -/

/-- A sum saturated to the 64-bit accumulator (R197). -/
def acc64 (a b : Int) : Int := satSigned 64 (a + b)

/-- A product as it enters the accumulator (R197). -/
def term (c : Word) (x : Int) (sh : Nat) : Int :=
  if sh ≤ 16 then c.toInt * x * 2 ^ (16 - sh) else (c.toInt * x) / 2 ^ (sh - 16)

/-- The accumulator of R197 from coefficients, errors e[n], …, e[n-3] and outputs y[n-1], …, y[n-3]. -/
def compensate (k : List Word × List Word × Word × Word) (e y : List Int) : Int :=
  let sb := fun (i : Nat) => getBits k.2.2.1 (5 * i) 5
  let sa := fun (i : Nat) => getBits k.2.2.2 (5 * i) 5
  let a := (List.range 4).foldl (fun acc i => acc64 acc (term (k.1.getD i 0) (e.getD i 0) (sb i))) 0
  let a := (List.range 3).foldl (fun acc i => acc64 acc (-(term (k.2.1.getD i 0) (y.getD i 0) (sa i)))) a
  clampInt 0 20480 (a / 65536)

/-- The coefficients in force (R200). -/
def State.coefs (s : State) (r : Nat) : List Word × List Word × Word × Word := (s.rail r).held.getD (s.coefRegs r)

/-- The fine error of a sample in 0.125 mV, before saturation (R196). -/
def State.fineError (s : State) (r : Nat) (v : Int) : Int := divNearest ((s.rail r).vset - 128 * v) 128

/-- ff of R198 in 1/256 A per phase. Where N_act is 0 the quotient has no value: it is free (log entry 2). -/
def State.feedForward (s : State) (r : Nat) : State × Int :=
  let i := s.iffOf r * 32
  let n := s.nAct r
  if i = 0 then (s, 0)
  else if n = 0 then (s.usedFree, toSigned 16 (s.freeVal 16 : BitVec 16).toNat)
  else (s, satSigned 16 (divNearest i n))

/-- The compensator's part of a sample (R197 to R199). -/
def State.compStep (s : State) (r : Nat) (v : Int) : State :=
  let x := s.rail r
  let s := if s.on F.PHRAILr_STATUS_BRAKING r then s
    else
      let e := (clampInt (-512) 511 (s.fineError r v) :: x.e).take 4
      s.setRail r { x with e := e, y := (compensate (s.coefs r) e x.y :: x.y).take 3 }
  let q := s.feedForward r
  let ff := if s.on F.RAILr_CTRL_CMD_FF_EN r then q.2 else 0
  let s := q.1.setfi F.RAILr_CMD_FF r q.2
  s.setf F.RAILr_CMD_ICMD r (clampInt 0 20480 ((s.rail r).y.getD 0 0 + ff)).toNat

/-! ### The rail-level checks of a sample (R165, R171, R172, R177, R178, R208) -/

/-- The rail current of sensed voltages (phase, V_CS), in 1/80 A: over the active phases. -/
def State.railCurrent (s : State) (r : Nat) (cs : List (Nat × Nat)) : Int :=
  ((cs.filter (fun e => (s.active r).contains e.1)).map (fun e => senseI e.2 (s.phase e.1).offs)).sum

/-- VOUT of a sample: from the fine converter inside its window, else from the coarse monitor (RAILr_MEAS). -/
def State.voutCode (s : State) (r : Nat) (v : Int) (coarse : Nat) : Nat :=
  let e := s.fineError r v
  let c := if -512 ≤ e ∧ e ≤ 511 then divNearest (v - 2400) 2 else divNearest (25 * (coarse : Int) - 2400) 2
  (clampInt 0 4095 c).toNat

/-- The averages of the last 1 µs, L_eff, and their telemetry (R164, R177). -/
def State.railAverages (s : State) (r : Nat) (i : Int) (v : Int) (coarse : Nat) : State :=
  let x := s.rail r
  let cur := (i :: x.cur).take 16
  let avg := divNearest cur.sum cur.length
  let fore := avg + 10 * max 0 (s.hOf r)
  let s := s.setRail r { x with
    cur := cur, coarse := coarse, leff := if s.on F.PHRAILr_SHED_FF_EN r then max avg fore else avg }
  let iout := (clampInt 0 65535 (divNearest cur.sum (10 * cur.length))).toNat
  let vout := s.voutCode r v coarse
  let s := (s.setf F.RAILr_MEAS_IOUT r iout).telem (0x23000000 + r) iout
  let s := (s.setf F.RAILr_MEAS_VOUT r vout).telem (0x24000000 + r) vout
  s.telem (0x27000000 + r) ((1200 + vout) * iout)

/-- Rail over-current (R171) and its persistence under the clamp (R172). -/
def State.railOc (s : State) (r : Nat) (i : Int) : State :=
  let x := s.rail r
  let tooHigh := decide ((s.f F.PHRAILr_OC_RAIL_OC r : Int) * 10 < i)
  let x := { x with ocHi := if tooHigh then min (x.ocHi + 1) 2 else 0, ocLo := if tooHigh then 0 else min (x.ocLo + 1) 2 }
  let s := s.setRail r x
  let s := if 2 ≤ x.ocHi then
      ((if s.on F.PHRAILr_STATUS_OC r then s else s.pmbLatch r 1 5).setf F.PHRAILr_STATUS_OC r 1).clampSet 1 r true
    else if 2 ≤ x.ocLo then (s.setf F.PHRAILr_STATUS_OC r 0).clampSet 1 r false
    else s
  s.setRail r { s.rail r with ocAt := if tooHigh && s.clamped then some ((s.rail r).ocAt.getD s.now) else none }

/-- PHASE_ADD (R165). -/
def State.phaseAdd (s : State) (r : Nat) : State :=
  let n := s.nAct r
  let a := s.f F.PHRAILr_SHED_ADD_A r
  let l := (s.rail r).leff
  if s.on F.PHRAILr_SHED_SHED_EN r ∧ 0 < n ∧ (a : Int) * 80 * n < l then
    let shed := (s.phasesOf r).filter (fun p => s.phSt p = PH_SHED)
    let need := if a = 0 then shed.length else (-(-l / (80 * a : Nat)) - n).toNat
    (s.addPhases (s.coolest shed need)).capClamp r
  else s

/-- Power good (R208). -/
def State.powerGood (s : State) (r : Nat) (v : Int) : State :=
  let e := clampInt (-512) 511 (s.fineError r v)
  let w : Int := 8 * min (s.f F.RAILr_PROT_PG_MV r) 64
  let ok := decide (-w ≤ e) && decide (e ≤ w)
  let x := s.rail r
  let s := s.setRail r { x with goodAt := if ok then some (x.goodAt.getD s.now) else none }
  if s.railSt r = 2 then
    (if s.on F.RAILr_STATUS_PG r then
      (if ok then s
      else (((s.setf F.RAILr_STATUS_PG r 0).setf F.RAILr_STATUS_PG_LOST r 1).pmbLatch r 0 4).fault 0x2B r)
    else match (s.rail r).goodAt with
      | some t => if s.passed t 10000 then s.setf F.RAILr_STATUS_PG r 1 else s
      | none => s)
  else s

/-- The power of a rail: voltage x current, in 2^-4 W / 2,000 (R4). -/
def State.railPower (s : State) (r : Nat) : Nat :=
  (if s.f F.RAILr_MEAS_VOUT r = 0 then 0 else 1200 + s.f F.RAILr_MEAS_VOUT r) * s.f F.RAILr_MEAS_IOUT r

/-- Chip power, as a power code: the sum over the configured rails (R225, class 0x4). -/
def State.chipPower (s : State) : Nat :=
  min (divNearest ((allRails.map (fun r => s.railPower r)).sum : Nat) 2000).toNat 65535

/-- The 1 µs values of a rail: its sources of the loop engine, its phase currents, and its trace record (R51, R225, R495). -/
def State.railMicro (s : State) (r : Nat) : State :=
  let s := { s with loop := { s.loop with
    phaseI := (s.phasesOf r).foldl (fun l p => Tab.set 0 l p (s.f F.PHp_MEAS_IAVG p)) s.loop.phaseI } }
  let s := s.post (0x1000 + r) (s.f F.RAILr_MEAS_VOUT r)
  let s := s.post (0x2000 + r) (s.f F.RAILr_MEAS_IOUT r)
  let s := s.post (0x3000 + r) (s.rail r).limit
  let s := s.post 0x4000 s.chipPower
  s.trace 9 0 r (s.f F.RAILr_MEAS_IOUT r * 65536 + s.f F.RAILr_SETPT_SETPT r)

/-- RAIL_SAMPLE: one 16 MS/s sample of rail `r`. `v` is the sensed voltage in 0.125 mV, `sig` the demodulated bias
signature in it (subtracted while RS_LOST, R205), `coarse` the latest coarse reading in 3.125 mV, `cs` the PH_CS
voltages of the rail's phases (R196, R197). -/
def execRailSample (r : Nat) (v sig : Int) (coarse : Nat) (cs : List (Nat × Nat)) (s : State) :
    Host.Outcome State Fault Refusal :=
  .next (if s.railUp r then
    let v := if s.on F.RAILr_STATUS_RS_LOST r then v - sig else v
    let i := s.railCurrent r cs
    let s := s.compStep r v
    let s := s.railAverages r i v coarse
    let s := s.railOc r i
    let s := s.capClamp r
    let s := s.phaseAdd r
    let s := s.setRail r { s.rail r with shedAt := if s.lightLoad r then some ((s.rail r).shedAt.getD s.now) else none }
    let s := s.powerGood r v
    if s.due 9 r 1000 0 then (s.serve 9 r).railMicro r else s
  else s)

/-! ### Rail hiccup, faults (R172, R205 to R207, R209, R212) -/

/-- RAIL_OC_HICCUP: over-current has persisted under the clamp (R172). -/
def execRailOcHiccup (r : Nat) (s : State) : Host.Outcome State Fault Refusal :=
  .next (match (s.rail r).ocAt with
  | some t =>
    if s.railUp r && s.railOn r && s.clamped && s.passed t (max 1 (s.f F.PHRAILr_OC_OC_PERSIST_US r) * 1000) then
      s.railTrip 8 r 4 0x28 false
    else s
  | none => s)

/-- RAIL_HICCUP_EXPIRE: the rail restarts as from OFF on ON written 1 (R214), unless it waits for its quiet point; without
an enabled phase it does not start and ON goes to 0 (R192). A follower restarts with its leader (R212). -/
def execRailHiccupExpire (r : Nat) (s : State) : Host.Outcome State Fault Refusal :=
  let x := s.rail r
  .next (if s.railUp r && s.railSt r == 4 && !x.withLeader && !x.offWait
      && s.passed x.since (max 1 (s.f F.PHRAILr_OC_OC_HICCUP_MS r) * 1000000) then
    (if s.enabledOf r = [] then ((s.setf F.RAILr_CTRL_ON r 0).offWhenQuiet r).fault 0x2A r
    else s.railStart 8 r false)
  else s)

/-- RS_LOSS: the signature's step over four reversals is `step` in 0.1 mV (R205). -/
def execRsLoss (r step : Nat) (s : State) : Host.Outcome State Fault Refusal :=
  .next (if s.railUp r && decide (s.railSt r ≠ 0) && decide (20 ≤ step) && !s.on F.RAILr_STATUS_RS_LOST r then
    let s := (s.setf F.RAILr_STATUS_RS_LOST r 1).setf F.RAILr_STATUS_RS_EVENT r 1
    let s := s.incf F.RAILr_COUNT_RS_LOSSES r
    (s.recompose r).fault 0x2C r
  else s)

/-- RS_RESTORE: the signature's step has stayed below 0.5 mV for `n` reversals (R206). -/
def execRsRestore (r n : Nat) (s : State) : Host.Outcome State Fault Refusal :=
  .next (if s.railUp r && s.on F.RAILr_STATUS_RS_LOST r && decide (1000 ≤ n) then
    let s := s.setf F.RAILr_STATUS_RS_LOST r 0
    let s := s.log 0x2103 r ((s.rd R.RAILr_STATUS r).toNat / 2 ^ 24)
    s.recompose r
  else s)

/-- A rail enters FAULT, and the followers of R212 with it. -/
def State.railFault (s : State) (r : Nat) : State := s.railTrip 8 r 5 0x29 false

/-- SENSE_BOTH_LOST: the coarse monitor has read `coarse` (3.125 mV) for `ns` ns (R207). -/
def execSenseBothLost (r coarse ns : Nat) (s : State) : Host.Outcome State Fault Refusal :=
  .next (if s.railUp r && decide (1 ≤ s.railSt r) && decide (s.railSt r ≤ 3) && decide (10000 ≤ ns)
      && (decide (496 ≤ coarse) || (coarse == 0 && decide (204800 < (s.rail r).vset))) then
    (s.setf F.RAILr_STATUS_SENSE_FAULT r 1).railFault r
  else s)

/-- RAIL_OVERVOLTAGE: the coarse monitor has read `coarse` (3.125 mV) for `ns` ns, above set-point + OV_MV (R209). -/
def execRailOvervoltage (r coarse ns : Nat) (s : State) : Host.Outcome State Fault Refusal :=
  .next (if s.railUp r && decide (1 ≤ s.railSt r) && decide (s.railSt r ≤ 3) && decide (2000 ≤ ns)
      && decide ((s.rail r).vset + 1024 * max (s.f F.RAILr_PROT_OV_MV r) 65 < 3200 * (coarse : Int)) then
    ((s.setf F.RAILr_STATUS_OV r 1).pmbLatch r 0 7).railFault r
  else s)

/-! ### The profile generator (R201 to R203) -/

/-- The integer square root, of numbers below 2^128. -/
def isqrt (n : Nat) : Nat := largest 64 (fun k => decide (k * k ≤ n))

/-- A velocity field: 0 acts as 1, above 500 as 500 (RAILr_PROFILE, RAILr_START). -/
def velField (v : Nat) : Nat := max 1 (min v 500)

/-- vel_max of R201 in 0.1 mV/µs. -/
def State.velMax (s : State) (r : Nat) : Nat :=
  velField (if s.railSt r = 1 then s.f F.RAILr_START_START_VEL r
    else if s.railSt r = 3 then s.f F.RAILr_START_STOP_VEL r
    else s.f F.RAILr_PROFILE_VEL r)

/-- One update of R201. Inside it the quantities are in 2^-18 / 10 of their units: 2,560 of these are 2^-10. -/
def genStep (x : RailSt) (vel acc jerk : Nat) : RailSt :=
  let d := x.target - x.vset
  let dir : Int := if 0 < d then 1 else if d < 0 then -1 else 0
  -- room x 10 jerk, in 2^-10 mV / 10: t_a is acc / (10 jerk) µs
  let room : Int := max (10 * (d.natAbs * (10 * jerk)) - 10 * (x.v.natAbs * acc) : Int) 0
  let root := isqrt (2 * acc * 1024 * room.toNat * 65536 / (10 * jerk))
  let vref := dir * (min (vel * 1024 * 256) root : Nat)
  let amax : Int := acc * 1024 * 256
  let aref := clampInt (-amax) amax (divNearest ((vref - x.v * 2560) * (10 * jerk)) acc)
  let jdt : Int := jerk * 10240 * 16
  let a := divNearest (x.a * 2560 + clampInt (-jdt) jdt (aref - x.a * 2560)) 2560
  let vmax : Int := vel * 1024 * 256
  let v := divNearest (clampInt (-vmax) vmax (x.v * 2560 + a * 160)) 2560
  let vset := divNearest (16 * x.vset + v) 16
  if (x.target - vset).natAbs ≤ 256 ∧ v.natAbs ≤ 1024 then { x with vset := x.target, v := 0, a := 0 }
  else { x with vset := vset, v := v, a := a }

/-- GENERATOR_ARRIVAL (R203, R210, R214): a rail in STARTING counts its 10 µs from here, its ratiometric followers too,
and a pending host target is complete outside safe state. An arrival at the 0 mV of R219 is neither (log entry 126). -/
def State.genArrival (s : State) (r : Nat) : State :=
  if (s.rail r).toZero then s
  else
    let s := s.markArrival 8 r (some s.now)
    if s.railOn r ∧ !s.safe then s.hostDone r else s

/-- In STOPPING at or below 200 mV the phases go to READY (R214). -/
def State.stopLow (s : State) (r : Nat) : State :=
  if s.railSt r = 3 ∧ (s.rail r).vset ≤ 204800 ∧ (s.rail r).stopped = false then
    (s.setRail r { s.rail r with stopped := true }).phasesReady r
  else s

/-- A rail's own generator moves in this state. -/
def State.genRuns (s : State) (r : Nat) : Bool :=
  (s.railOn r || s.railSt r == 3) && !s.tracking r

/-- PROFILE_STEP: one 62.5 ns update of the rail's generator, or of the set-point it takes from its leader (R201, R210,
R211). -/
def execProfileStep (r : Nat) (s : State) : Host.Outcome State Fault Refusal :=
  .next (if s.railUp r then
    let s := s.recompose r
    let s := if s.genRuns r then
        let s := s.setRail r (genStep (s.rail r) (s.velMax r) (max 1 (s.f F.RAILr_PROFILE_ACC r))
          (max 1 (s.f F.RAILr_PROFILE_JERK r)))
        let s := s.setb F.RAILr_STATUS_SLEWING r (!(s.rail r).arrived)
        let s := s.showSet r
        let s := if (s.rail r).arrived then s.genArrival r else s
        s.propagate 8 r
      else if s.tracking r then s.propagate 8 (s.leader r)
      else s
    allRails.foldl State.stopLow s
  else s)

/-! ### Entering ON, timeouts, quiet points (R214, R215) -/

/-- RAIL_ENTER_ON: 10 µs of good fine error since the generator's arrival (R214). -/
def execRailEnterOn (r : Nat) (s : State) : Host.Outcome State Fault Refusal :=
  let x := s.rail r
  .next (match x.arrivedAt, x.goodAt with
  | some t, some g =>
    if s.railUp r && s.railSt r == 1 && s.passed t 10000 && s.passed g 10000 then
      let s := (s.setf F.RAILr_STATUS_PG r 1).railPut r 2
      let s := s.setRail r { s.rail r with goodAt := some g }
      if s.trackMode r = 1 then s else s.setf F.RAILr_STATUS_TRACKING r 0
    else s
  | _, _ => s)

/-- RAIL_START_TIMEOUT: START_TO ms in STARTING (R214). -/
def execRailStartTimeout (r : Nat) (s : State) : Host.Outcome State Fault Refusal :=
  .next (if s.railUp r && s.railSt r == 1
      && s.passed (s.rail r).since (max 1 (s.f F.RAILr_START_START_TO r) * 1000000) then
    s.railTrip 8 r 5 0x2A false
  else s)

/-- The quiet point of a rail, with the V_CS of the phases `cs` lists (R215); an unlisted phase senses none. -/
def State.railQuiet (s : State) (r : Nat) (cs : List (Nat × Nat)) : Bool :=
  (s.phasesOf r).all (fun p => s.phQuiet p (Tab.get 4 cs p))

/-- A rail at its quiet point starts as from OFF on ON written 1 (R192, R214). -/
def State.restartQuiet (s : State) (r : Nat) : State :=
  if s.enabledOf r = [] then ((s.setf F.RAILr_CTRL_ON r 0).railOffNow r).fault 0x2A r
  else if s.safeHolds r then (s.setf F.RAILr_CTRL_ON r 0).railOffNow r
  else s.railStart 8 r true

/-- RAIL_QUIET_POINT: a STOPPING rail is quiet: it enters OFF, or starts again; a rail in HICCUP or FAULT whose ON has been
written 0 enters OFF, and starts where ON is 1 again (R214, R215, R576). -/
def execRailQuietPoint (r : Nat) (cs : List (Nat × Nat)) (s : State) : Host.Outcome State Fault Refusal :=
  .next (if s.railUp r && s.railQuiet r cs then
    (if s.railSt r = 3 then
      let s := s.phasesReady r
      (if s.on F.RAILr_STATUS_PENDING_ENABLE r then (s.setf F.RAILr_STATUS_PENDING_ENABLE r 0).restartQuiet r
      else s.railOffNow r)
    else if (s.rail r).offWait then
      (if s.on F.RAILr_CTRL_ON r then (s.railOffNow r).restartQuiet r else s.railOffNow r)
    else s)
  else s)

/-! ### The sequencer (R213, R216 to R219) -/

/-- Fields of a table entry (R216). -/
def seqValid (w : Word) : Bool := w.getLsbD 31
def seqCheck (w : Word) : Bool := w.getLsbD 30
def seqRails (w : Word) : Nat := getBits w 16 8
def seqDelay (w : Word) : Nat := getBits w 0 16

/-- A table as its registers give it: entries up to the first with VALID 0. -/
def State.seqTable (s : State) (up : Bool) : List Word :=
  ((List.range 16).map (fun k => s.rd (if up then R.SEQ_UPk else R.SEQ_DNk) k)).takeWhile seqValid

/-- The rails that a mask names. -/
def railsIn (m : Nat) : List Nat := allRails.filter (fun r => m.testBit r)

/-- A table names a follower, or a rail of a tracking cycle (R213, R217). -/
def State.seqConfigErr (s : State) (up : Bool) (t : List Word) : Bool :=
  t.any (fun w => (railsIn (seqRails w)).any (fun r =>
    s.trackMode r == 1 || (up && s.trackMode r == 2) || s.trackBad r))

/-- Set the sequencer. -/
def State.setSeq (s : State) (x : SeqSt) : State := { s with rails := { s.rails with seq := x } }

/-- The command of a sequence ends: RESULT is [2:0] SEQ_STATUS bits 2:0, [6:4] FAIL_RAIL (SEQUENCE of R386). -/
def State.seqOutcome (s : State) (slot : Option Nat) (superseded : Bool) : State :=
  match slot with
  | some k =>
    let v := s.f F.SEQ_STATUS_FAIL_RAIL * 16 + (s.rd R.SEQ_STATUS).toNat % 8
    s.setFw { s.eye.fw with outcome := Tab.set 0 s.eye.fw.outcome k (if superseded then 0x3000 else 0x4000 + v) }
  | none => s

/-- Begin a table from now. -/
def State.seqBegin (s : State) (up : Bool) (t : List Word) (skip : Nat) (aborting : Bool) (slot : Option Nat) : State :=
  let s := s.setSeq { s.rails.seq with
    table := t, next := 0, at_ := s.now, earlier := 0, skip := skip, waitAt := none, aborting := aborting, slot := slot }
  (s.setf F.SEQ_STATUS_STATE 0 (if up then 1 else 3)).setf F.SEQ_STATUS_STEP 0 0

/-- A sequence has run its last step, or has none (R219): UP_DONE, or IDLE when no power-up is pending. -/
def State.seqEnd (s : State) : State :=
  let q := s.rails.seq
  if q.table.length ≤ q.next then
    (if s.f F.SEQ_STATUS_STATE = 1 then
      ((s.setf F.SEQ_STATUS_STATE 0 2).setSeq { q with slot := none }).seqOutcome q.slot false
    else if s.f F.SEQ_STATUS_STATE = 3 ∧ !s.on F.SEQ_STATUS_PENDING_UP then
      ((s.setf F.SEQ_STATUS_STATE 0 0).setSeq { q with slot := none, aborting := false }).seqOutcome q.slot false
    else s)
  else s

/-- The rails now in OFF, as a mask. -/
def State.offMask (s : State) : Nat := (allRails.filter (fun r => s.railSt r = 0)).foldl (fun m r => m + 2 ^ r) 0

/-- A rail still in STARTING retargets to 0 mV through its own generator, a coincident follower too (R202, R219). -/
def State.toZero (s : State) (r : Nat) : State :=
  if s.railSt r = 1 ∧ s.trackMode r ≠ 1 then
    ((s.setf F.RAILr_STATUS_TRACKING r 0).setRail r { s.rail r with toZero := true }).setTarget r 0
  else s

/-- A request to the sequencer (R217, R219), for the command in journal slot `slot`. The table is the one that the
registers hold at the request. -/
def State.seqRequest (s : State) (up : Bool) (slot : Option Nat) : State :=
  let st := s.f F.SEQ_STATUS_STATE
  let q := s.rails.seq
  let t := s.seqTable up
  if s.seqConfigErr up t then (s.setf F.SEQ_STATUS_CONFIG_ERR 0 1).seqOutcome slot false
  else if up then
    (if st = 3 then
      ((s.setf F.SEQ_STATUS_PENDING_UP 0 1).seqOutcome q.pendSlot true).setSeq { q with
        pendSlot := slot, pendTable := t }
    else if st = 1 then (s.seqOutcome q.slot true).setSeq { q with slot := slot }
    else (s.seqBegin true t 0 false slot).seqEnd)
  else if st = 3 then
    (if q.aborting then s.setSeq { q with slot := slot }
    else (s.seqOutcome q.slot true).setSeq { q with slot := slot })
  else
    let s := if st = 1 then s.seqOutcome q.slot true else s
    let s := s.seqBegin false t (if st = 1 then s.offMask else 0) false slot
    (if st = 1 then allRails.foldl State.toZero s else s).seqEnd

/-- A write of SEQ_CTRL: 1 requests power-up, 0 power-down (R219). -/
def writeSeqCtrl (w : Word) (s : State) : State × Bool :=
  ((s.setf F.SEQ_CTRL_UP 0 (getBits w 0 1)).seqRequest (w.getLsbD 0) none, false)

/-- SEQUENCE_UP_REQUEST: a CFG write of SEQ_CTRL with UP 1 (R219). -/
def execSequenceUpRequest (priv : Bool) (s : State) : Host.Outcome State Fault Refusal :=
  .next (s.cfgWrite priv R.SEQ_CTRL 0 (writeSeqCtrl 1))

/-- SEQUENCE_DOWN_REQUEST: a CFG write of SEQ_CTRL with UP 0 (R219). -/
def execSequenceDownRequest (priv : Bool) (s : State) : Host.Outcome State Fault Refusal :=
  .next (s.cfgWrite priv R.SEQ_CTRL 0 (writeSeqCtrl 0))

/-- The followers of a rail along the chains (R218). -/
def State.chain (s : State) (fuel r : Nat) : List Nat :=
  match fuel with
  | 0 => [r]
  | n + 1 => r :: (s.followers r).flatMap (fun q => s.chain n q)

/-- The lowest rail that fails the check of a step, among the rails of the earlier steps and their followers (R218). -/
def State.seqFails (s : State) (up : Bool) (earlier : Nat) : Option Nat :=
  let l := (railsIn earlier).flatMap (fun r => s.chain 8 r)
  allRails.find? (fun r => l.contains r &&
    (if up then !(s.railSt r == 2 && s.on F.RAILr_STATUS_PG r) else decide (s.railSt r ≠ 0)))

/-- The step writes ON for its rails (R217), skipping those the run skips, and the next one follows. -/
def State.seqRun (s : State) (up : Bool) (w : Word) : State :=
  let q := s.rails.seq
  let s := s.setf F.SEQ_STATUS_STEP 0 q.next
  let s := (railsIn (seqRails w)).foldl (fun s r => if q.skip.testBit r then s else s.writeOn r up) s
  let s := s.setSeq { s.rails.seq with
    next := q.next + 1, at_ := s.now, waitAt := none, earlier := q.earlier ||| seqRails w }
  s.seqEnd

/-- A failed power-up check (R218): the started rails stop in power-down order. -/
def State.seqAbort (s : State) (r : Nat) : State :=
  let q := s.rails.seq
  let s := (s.setf F.SEQ_STATUS_FAIL_RAIL 0 r).setf F.SEQ_STATUS_ABORTED 0 1
  let s := s.fault 0x2D 0
  let started := (railsIn q.earlier).filter (fun k => decide (s.railSt k ≠ 0))
  let skip := (allRails.filter (fun k => !started.contains k)).foldl (fun m k => m + 2 ^ k) 0
  (s.seqBegin false (s.seqTable false) skip true q.slot).seqEnd

/-- SEQ_STEP_BEGIN: the delay of the next step is over; its check runs; it begins, aborts or waits (R217, R218). -/
def execSeqStepBegin (s : State) : Host.Outcome State Fault Refusal :=
  let q := s.rails.seq
  let up := decide (s.f F.SEQ_STATUS_STATE = 1)
  .next (match q.table[q.next]? with
  | some w =>
    if s.vgov && s.seqBusy && s.passed q.at_ (seqDelay w * 1000) then
      (if seqCheck w then
        match s.seqFails up q.earlier with
        | none => s.seqRun up w
        | some r =>
          if up then s.seqAbort r
          else s.setSeq { q with waitAt := some (q.waitAt.getD s.now) }
      else s.seqRun up w)
    else s
  | none => s)

/-- SEQ_CHECK_WAIT_TIMEOUT: a power-down check has waited 10 ms (R218). -/
def execSeqCheckWaitTimeout (s : State) : Host.Outcome State Fault Refusal :=
  let q := s.rails.seq
  .next (match q.waitAt, q.table[q.next]? with
  | some t, some w =>
    if s.vgov && decide (s.f F.SEQ_STATUS_STATE = 3) && s.passed t 10000000 then
      ((s.setf F.SEQ_STATUS_WAITED 0 1).fault 0x2D 0).seqRun false w
    else s
  | _, _ => s)

/-- SEQ_PENDING_UP_START: every rail of the power-down is OFF, so the latched power-up begins (R219), unless its table has
become a configuration error (R213, R217). -/
def execSeqPendingUpStart (s : State) : Host.Outcome State Fault Refusal :=
  let q := s.rails.seq
  .next (if s.vgov && decide (s.f F.SEQ_STATUS_STATE = 3) && s.on F.SEQ_STATUS_PENDING_UP
      && decide (q.table.length ≤ q.next) && (railsIn q.earlier).all (fun r => decide (s.railSt r = 0)) then
    let s := (s.setf F.SEQ_STATUS_PENDING_UP 0 0).seqOutcome q.slot false
    let s := s.setSeq { q with pendSlot := none, pendTable := [], slot := none }
    if s.seqConfigErr true q.pendTable then
      ((s.setf F.SEQ_STATUS_CONFIG_ERR 0 1).setf F.SEQ_STATUS_STATE 0 0).seqOutcome q.pendSlot false
    else (s.seqBegin true q.pendTable 0 false q.pendSlot).seqEnd
  else s)

end Sys2Proof.Machine
end

