-- ==== Sys2Proof/Machine/LoopOps.lean ====
section
/-! DEFINITION. Shared operations of the loop engine (spec chapter 06): sources and their checks, the law, notches, the
reference generator, competition groups and slot states. -/
namespace Sys2Proof.Machine
open Sys2Proof

/-! ### Slots -/

/-- A slot. -/
def State.slot (s : State) (n : Nat) : SlotSt := Tab.get {} s.loop.slots n

/-- Set a slot. -/
def State.setSlot (s : State) (n : Nat) (x : SlotSt) : State :=
  { s with loop := { s.loop with slots := Tab.set {} s.loop.slots n x } }

/-- Every slot. -/
def allSlots : List Nat := List.range 128

/-- STATE of a slot: 0 OFF, 1 RUN, 2 HOLD, 3 RECOVER, 4 SAFE, 5 STOPPING. -/
def State.slotSt (s : State) (n : Nat) : Nat := s.f F.SLOTn_STATUS_STATE n

/-- The slot is in a state with samples. -/
def State.slotLive (s : State) (n : Nat) : Bool := decide (1 ≤ s.slotSt n) && decide (s.slotSt n ≤ 4)

/-- The slot evaluates its law: RUN or RECOVER. -/
def State.slotRuns (s : State) (n : Nat) : Bool := s.slotSt n == 1 || s.slotSt n == 3

/-- Configuration word `k` (offset 4 k) of a slot as latched at its last sample (R262). -/
def SlotSt.w (x : SlotSt) (k : Nat) : Word := x.cfg.getD k 0

/-- The configuration words of a slot as its registers hold them. -/
def State.slotWords (s : State) (n : Nat) : List Word :=
  [R.SLOTn_CTRL, R.SLOTn_PERIOD, R.SLOTn_PHASE, R.SLOTn_SRC, R.SLOTn_TARGET, R.SLOTn_PROF0, R.SLOTn_PROF1, R.SLOTn_HI,
   R.SLOTn_LO, R.SLOTn_SAFE, R.SLOTn_INIT, R.SLOTn_CEIL, R.SLOTn_B0, R.SLOTn_B1, R.SLOTn_B2, R.SLOTn_B3, R.SLOTn_A1,
   R.SLOTn_A2, R.SLOTn_A3, R.SLOTn_SHIFTB, R.SLOTn_SHIFTA, R.SLOTn_CHECK, R.SLOTn_RANGE_LO, R.SLOTn_RANGE_HI,
   R.SLOTn_LOSS, R.SLOTn_OSC].map (fun r => s.rd r n)

/-- Fields of the latched configuration. -/
def SlotSt.ffEn (x : SlotSt) : Bool := (x.w 0).getLsbD 28
def SlotSt.bypass (x : SlotSt) : Bool := (x.w 0).getLsbD 27
def SlotSt.tapMask (x : SlotSt) : Nat := getBits (x.w 0) 22 5
def SlotSt.lastSel (x : SlotSt) : Nat := getBits (x.w 0) 12 4
def SlotSt.ffk (x : SlotSt) : Nat := getBits (x.w 0) 0 8
/-- PERIOD in µs: 0 acts as 1, above 100,000 as 100,000 (R223). -/
def SlotSt.period (x : SlotSt) : Nat := max 1 (min (getBits (x.w 1) 0 17) 100000)
def SlotSt.phase (x : SlotSt) : Nat := getBits (x.w 2) 0 17 % x.period
def SlotSt.tgtSrc (x : SlotSt) : Nat := getBits (x.w 3) 16 16
def SlotSt.hi (x : SlotSt) : Int := (x.w 7).toInt
def SlotSt.lo (x : SlotSt) : Int := (x.w 8).toInt
def SlotSt.safeVal (x : SlotSt) : Int := (x.w 9).toInt
def SlotSt.ceilSrc (x : SlotSt) : Nat := getBits (x.w 11) 16 16
def SlotSt.ceilK (x : SlotSt) : Nat := getBits (x.w 11) 0 16

/-- The cycles of an evaluation in RUN without a notch (R228). -/
def SlotSt.cycles (x : SlotSt) : Nat := if x.order then 15 else 13

/-! ### Sources (R224, R225) -/

/-- Members of a group with samples. -/
def State.members (s : State) (g : Nat) : List Nat := allSlots.filter (fun n => s.slotLive n && (s.slot n).group == g)

/-- The nominal update period of a source in ns (R225, R301). -/
def State.nominal (s : State) (sel : Nat) : Nat :=
  let i := sel % 4096
  match sel / 4096 with
  | 5 =>
    if i < 0x400 ∨ (0x840 ≤ i ∧ i < 0x880) ∨ i = 0x8C0 ∨ i = 0x8C3 ∨ (0x900 ≤ i ∧ i < 0x940) ∨ 0xC00 ≤ i then 20000
    else 100000
  | 7 => 100000
  | 8 => 1000 * (match (s.members i).map (fun n => (s.slot n).period) with
      | [] => 1
      | p :: ps => ps.foldl min p)
  | 9 => 1000 * (s.slot i).period
  | 10 => 100000
  | 13 => 250
  | _ => 1000

/-- A source that is always present: class 0x0, 0xE, 0xF or 0xB. -/
def constSrc (sel : Nat) : Bool :=
  let c := sel / 4096
  c == 0 || c == 14 || c == 15 || c == 11

/-- The newest value of a source and its age in ns; none when it has never been received. -/
def State.source (s : State) (sel : Nat) : Option (Int × Nat) :=
  let c := sel / 4096
  if c = 0 ∨ c = 14 ∨ c = 15 then some (0, 0)
  else if c = 11 then some (s.f F.LOOP_PCAP_PCAP, 0)
  else
    match s.loop.src.find? (fun e => e.1 = normSel sel) with
    | none => none
    | some e => some (e.2.v, s.since e.2.t)

/-- A source of compute-die origin (R225, R301). -/
def dieSrc (sel : Nat) : Bool :=
  let c := sel / 4096
  let i := sel % 4096
  c == 6 || c == 7 || c == 12 || c == 13
    || (c == 5 && (decide (i < 0x400) || (decide (0x840 ≤ i) && decide (i < 0x880)) || i == 0x8C0))

/-- A thermal channel that the table of R301 lists. -/
def thermalListed (i : Nat) : Bool :=
  decide (i < 0x808) || (decide (0x840 ≤ i) && decide (i ≤ 0x8C3)) || (decide (0x900 ≤ i) && decide (i < 0x940))
    || decide (0xC00 ≤ i)

/-- The source is marked lost (R21, R250, R300, R301). -/
def State.srcLost (s : State) (sel : Nat) : Bool :=
  (dieSrc sel && !s.dieUp) || (sel / 4096 == 5 && (Tab.get false s.loop.lost (sel % 4096) || !thermalListed (sel % 4096)))

/-- A source has been marked lost: the bin intervals in progress of the Lasts that learn it are marked (R272). -/
def State.markLost (s : State) : State :=
  { s with lasts := { s.lasts with l := s.lasts.l.map (fun (e : Nat × LastSt) =>
    let key := e.2.srcKey e.1
    (e.1, { e.2 with srcBad := e.2.srcBad || (if key < 0x10000 then s.srcLost key else !s.dieUp) })) } }

/-- The freshness and lost-source checks of R250, with the given limit in ns; the fallback share is marked fresh (R429). -/
def State.srcFresh (s : State) (sel limit : Nat) : Bool :=
  constSrc sel || (!s.srcLost sel && (match s.source sel with
    | none => false
    | some v => decide (v.2 ≤ limit) || (sel / 4096 == 0xA && s.on F.LACE_SHARE_NO_SHARE)))

/-- The automatic freshness limit (R250). -/
def State.autoAge (s : State) (sel : Nat) : Nat := 2 * s.nominal sel + 1000

/-- The freeze check fails: the value has stayed within the band of the one `k` samples earlier (R250). -/
def frozenValue (hist : List Int) (v : Int) (k band : Nat) : Bool :=
  match hist[k - 1]? with
  | none => false
  | some r => decide (k ≠ 0) && (v :: hist.take k).all (fun x => decide ((x - r).natAbs ≤ band))

/-- The three kinds of failure of a feedback value: freshness or loss, freeze, range (R250). -/
def State.checkFb (s : State) (x : SlotSt) (v : Int) : Bool × Bool × Bool :=
  if constSrc x.fb then (false, false, false)
  else
    let a := getBits (x.w 21) 0 16
    let fresh := s.srcFresh x.fb (if a = 0 then s.autoAge x.fb else 1000 * a)
    (!fresh, frozenValue x.hist v (getBits (x.w 21) 24 8) (getBits (x.w 21) 16 8),
     decide (v < (x.w 22).toInt) || decide ((x.w 23).toInt < v))

/-- TGT_SRC or CEIL_SRC is older than twice its nominal period (SLOTn_STATUS.SRC_STALE). -/
def State.srcStale (s : State) (sel : Nat) : Bool :=
  !constSrc sel && (match s.source sel with
    | none => true
    | some v => decide (2 * s.nominal sel < v.2))

/-- A ceiling: the source's value x CEIL_K / 4,096, rounded down (R241). -/
def State.ceiling (s : State) (x : SlotSt) : Option Int :=
  if x.ceilSrc = 0 then none else (s.source x.ceilSrc).map (fun v => (v.1 * x.ceilK) / 4096)

/-! ### The law (R231 to R235, R257) -/

/-- A product as it enters the accumulator of 32 fraction bits (R232). -/
def lawTerm (c x : Int) (sh : Nat) : Int := if sh ≤ 32 then c * x * 2 ^ (32 - sh) else (c * x) / 2 ^ (sh - 32)

/-- A sum of products in the 64-bit saturating accumulator, first the terms of `b`, then those of `a` (R232). -/
def lawSum (b a : List (Int × Nat)) (xs ys : List Int) : Int :=
  let acc := (b.zip xs).foldl (fun acc e => acc64 acc (lawTerm e.1.1 e.2 e.1.2)) 0
  (a.zip ys).foldl (fun acc e => acc64 acc (-(lawTerm e.1.1 e.2 e.1.2))) acc

/-- The accumulator's result: nearest, ties to even, saturated to 32 bits (R232). -/
def lawRound (acc : Int) : Int := satSigned 32 (divNearest acc (2 ^ 32))

/-- A value limited to the range from `lo` to `hi`; `hi` governs (R234). -/
def limitOut (lo hi v : Int) : Int := min (max v lo) hi

/-- The coefficients of a slot: its registers', or those captured under COEF_HOLD (R235). -/
def State.slotCoefRegs (s : State) (n : Nat) : List Word × List Word × Word × Word :=
  ([s.rd R.SLOTn_B0 n, s.rd R.SLOTn_B1 n, s.rd R.SLOTn_B2 n, s.rd R.SLOTn_B3 n],
   [s.rd R.SLOTn_A1 n, s.rd R.SLOTn_A2 n, s.rd R.SLOTn_A3 n], s.rd R.SLOTn_SHIFTB n, s.rd R.SLOTn_SHIFTA n)

/-- The coefficient and shift pairs of an evaluation; HALVED adds 1 to each shift of b (R232, R255). -/
def State.slotCoefs (s : State) (n : Nat) : List (Int × Nat) × List (Int × Nat) :=
  let x := s.slot n
  let k := x.held.getD (s.slotCoefRegs n)
  let m := if x.order then 3 else 2
  let half := if s.on F.SLOTn_STATUS_HALVED n then 1 else 0
  ((List.range (m + 1)).map (fun i => ((k.1.getD i 0).toInt, getBits k.2.2.1 (5 * i) 5 + half)),
   (List.range m).map (fun i => ((k.2.1.getD i 0).toInt, getBits k.2.2.2 (5 * i) 5)))

/-- 2π and the cosine in units of 2^-120, by the series (R257). -/
def twoPi : Nat := 2 * 0x3243f6a8885a308d313198a2e037073
def cosTerms (n : Nat) (k : Nat) (x2 t acc : Int) : Int :=
  match n with
  | 0 => acc
  | m + 1 =>
    let t' := -(t * x2 / 2 ^ 120) / ((2 * k + 1) * (2 * k + 2) : Nat)
    cosTerms m (k + 1) x2 t' (acc + t')
def cosFix (f : Nat) : Int :=
  let th : Int := twoPi * f / 65536
  cosTerms 30 0 (th * th / 2 ^ 120) (2 ^ 120) (2 ^ 120)

/-- A coefficient to 32-bit precision: the largest shift that keeps it within 32 bits (R257, log entry 22). -/
def quantise (v : Int) : Int × Nat :=
  let c := fun (sh : Nat) => divNearest (v * 2 ^ sh) (2 ^ 120)
  match ((List.range 32).reverse).find? (fun sh => decide (-(2 ^ 31) ≤ c sh) && decide (c sh < 2 ^ 31)) with
  | some sh => (c sh, sh)
  | none => (c 0, 0)

/-- The coefficients of a notch section at `f` with pole radius RHO / 256 (R257). -/
def notchCoefs (f rho : Nat) : List (Int × Nat) × List (Int × Nat) :=
  let f := max 1 (min f 29491)
  let b := cosFix f
  let one : Int := 2 ^ 120
  -- 1 - 2 ρ β + ρ², and g
  let p := one - 2 * b * rho / 256 + one * (rho * rho : Nat) / 65536
  let g := p * one / (2 * one - 2 * b)
  ([quantise g, quantise (-(2 * g * b / one)), quantise g],
   [quantise (-(2 * b * rho / 256)), quantise (one * (rho * rho : Nat) / 65536)])

/-- A notch section. -/
def State.notch (s : State) (k : Nat) : NotchSt := Tab.get {} s.loop.notches k
def State.setNotch (s : State) (k : Nat) (x : NotchSt) : State :=
  { s with loop := { s.loop with notches := Tab.set {} s.loop.notches k x } }

/-- The section that serves a slot (R258). -/
def State.notchOf (s : State) (n : Nat) : Option Nat :=
  (List.range 8).find? (fun k => decide (s.f F.LOOPNk_STATUS_USE k ≠ 0) && s.f F.LOOPNk_STATUS_SLOT_NOW k == n)

/-- One evaluation of a section: its output, and its stored values (R257). -/
def NotchSt.eval (x : NotchSt) (e : Int) : Int × NotchSt :=
  if x.fresh then (e, { x with xs := [e, e], ys := [e, e], fresh := false })
  else
    let y := lawRound (lawSum x.b x.a (e :: x.xs) x.ys)
    (y, { x with xs := (e :: x.xs).take 2, ys := (y :: x.ys).take 2 })

/-! ### The reference generator (R236, R237) -/

/-- One sample of the generator of R201 with dt 1: `vset`, `v` and `a` are in 2^-10 units; VEL, ACC and JERK in
1/256 units. -/
def slotGen (vset v a target : Int) (vel acc jerk : Nat) : Int × Int × Int :=
  let d := target - vset
  let dir : Int := if 0 < d then 1 else if d < 0 then -1 else 0
  let room : Int := max ((d.natAbs * jerk : Nat) - (v.natAbs * acc : Nat) : Int) 0
  let root := isqrt (2 * acc * room.toNat * 2 ^ 18 / jerk)
  let vref := dir * (min (vel * 1024) root : Nat)
  let amax : Int := acc * 1024
  let aref := clampInt (-amax) amax (divNearest ((vref - v * 256) * jerk) acc)
  let jdt : Int := jerk * 1024
  let a := divNearest (a * 256 + clampInt (-jdt) jdt (aref - a * 256)) 256
  let vmax : Int := vel * 4
  let v := clampInt (-vmax) vmax (v + a)
  let vset := vset + v
  if (target - vset).natAbs ≤ 512 ∧ v.natAbs ≤ 512 then (target, 0, 0) else (vset, v, a)

/-- The generator at a sample, started from the feedback or the target when it is to start (R237). -/
def SlotSt.advance (x : SlotSt) (ok : Bool) : SlotSt :=
  if x.genStart then
    { x with genStart := false, vset := 1024 * (if ok then x.fbVal else x.tgtVal), v := 0, a := 0 }
  else if x.bypass then x
  else
    let q := slotGen x.vset x.v x.a (1024 * x.tgtVal) (max 1 (x.w 5).toNat) (max 1 (getBits (x.w 6) 16 16))
      (max 1 (getBits (x.w 6) 0 16))
    { x with vset := q.1, v := q.2.1, a := q.2.2 }

/-- r[n] (R236). -/
def SlotSt.ref (x : SlotSt) : Int := if x.bypass then x.tgtVal else satSigned 32 (divNearest x.vset 1024)

/-! ### Competition groups (R238 to R240, R242, R245) -/

/-- A group. -/
def State.group (s : State) (g : Nat) : GroupSt := Tab.get {} s.loop.groups g
def State.setGroup (s : State) (g : Nat) (x : GroupSt) : State :=
  { s with loop := { s.loop with groups := Tab.set {} s.loop.groups g x } }

/-- The destination of a group: the chip budget for group 0 only (R238). -/
def State.groupDest (s : State) (g : Nat) : Nat :=
  if g = 0 then 1 else
    let d := s.f F.LOOPGg_CFG_DEST g
    if 2 ≤ d ∧ d ≤ 4 then d else 0

/-- The caps a group sends changed: apply them, or lose the word while the die is down (R242, R245; the
Clicker has no power domain of its own, log entry 127). -/
def State.sendCap (s : State) (g : Nat) (c : Option (Nat × Nat × Nat × Nat)) : State :=
  if !s.dieUp ∨ (s.group g).cap = c then s
  else (s.setGroup g { s.group g with cap := c }).applyAllCaps

/-- Send a group's output to its destination (R238). -/
def State.sendGroup (s : State) (g : Nat) (o : Int) : State :=
  let idx := s.f F.LOOPGg_CFG_IDX g
  let cnt := s.f F.LOOPGg_CFG_CNT g
  match s.groupDest g with
  | 1 => if s.dieUp then { s with crd := { s.crd with budget := (clampInt 0 65535 o).toNat } } else s
  | 2 => s.sendCap g (some (2, idx, cnt, (clampInt 0 3 o).toNat))
  | 3 => s.sendCap g (some (3, idx, cnt, (clampInt 1 16 o).toNat))
  | 4 =>
    let s := s.sendCap g none
    if s.dieUp then s.setf F.DRP_NUDGE_NUDGE 0 (clampInt 0 (s.f F.DRP_NUDGE_NUDGE_MAX) o).toNat else s
  | _ => s.sendCap g none

/-- A group that has had a valid member has none: the last column of R238 (R239). -/
def State.sendNone (s : State) (g : Nat) : State :=
  match s.groupDest g with
  | 2 | 3 => s.sendCap g none
  | 4 => if s.dieUp then s.setf F.DRP_NUDGE_NUDGE 0 0 else s
  | _ => s

/-- The valid members of a group with their outputs (R239). -/
def State.validMembers (s : State) (g : Nat) : List (Nat × Int) :=
  (s.members g).filterMap (fun n => (s.slot n).out.map (fun o => (n, o)))

/-- The member with the least output, the lowest slot on a tie (R239). -/
def leastMember (l : List (Nat × Int)) : Option (Nat × Int) :=
  match l with
  | [] => none
  | a :: r => some (r.foldl (fun b e => if e.2 < b.2 then e else b) a)

/-- Show which member of a group wins. -/
def State.showWinner (s : State) (g : Nat) (w : Option Nat) : State :=
  (allSlots.filter (fun n => (s.slot n).group = g ∧ s.slotSt n ≠ 0)).foldl (fun s n =>
    s.setb F.SLOTn_STATUS_WINNER n (w == some n && s.slotLive n)) s

/-- Recompute a group's output and send it (R226, R239). -/
def State.regroup (s : State) (g : Nat) : State :=
  match leastMember (s.validMembers g) with
  | none =>
    let had := s.on F.LOOPGg_STATUS_VALID g
    let s := (s.setf F.LOOPGg_STATUS_VALID g 0).showWinner g none
    if had ∧ (s.group g).had ∧ s.on F.LOOP_CTRL_EN then s.sendNone g else s
  | some (n, o) =>
    let x := s.group g
    let s := match x.last with
      | some k => if k = n then s else s.incf F.LOOPGg_STATUS_SWITCHES g
      | none => s
    let s := if x.last = some n then s else s.hang (0x460 + n) 0x04 g
    let s := s.setGroup g { x with had := true, last := some n }
    let s := ((s.setf F.LOOPGg_STATUS_VALID g 1).setf F.LOOPGg_STATUS_WINNER g n).setfi F.LOOPGg_OUT_OUT g o
    let s := s.showWinner g (some n)
    if s.on F.LOOP_CTRL_EN then (s.post (0x8000 + g) o).sendGroup g o else s

/-! ### Slot states (R258, R259) -/

/-- Count the slots in each state and the sections in use (LOOP_STATUS, LOOP_SAFEk). -/
def State.loopCounts (s : State) : State :=
  let cnt := fun st => (allSlots.filter (fun n => s.slotSt n = st)).length
  let s := ((s.setf F.LOOP_STATUS_N_SAFE 0 (cnt 4)).setf F.LOOP_STATUS_N_HOLD 0 (cnt 2)).setf F.LOOP_STATUS_N_RECOVER 0 (cnt 3)
  let s := s.setf F.LOOP_STATUS_NOTCH_BUSY 0 ((List.range 8).filter (fun k => s.f F.LOOPNk_STATUS_USE k ≠ 0)).length
  (List.range 4).foldl (fun s k => s.setf F.LOOP_SAFEk_SAFE k
    (((List.range 32).filter (fun b => s.slotSt (32 * k + b) = 4)).map (fun b => 2 ^ b)).sum) s

/-- Show which section serves a slot. -/
def State.showNotch (s : State) (n : Nat) : State :=
  match s.notchOf n with
  | some k => (s.setf F.SLOTn_STATUS_NOTCH n 1).setf F.SLOTn_STATUS_NOTCH_IDX n k
  | none => (s.setf F.SLOTn_STATUS_NOTCH n 0).setf F.SLOTn_STATUS_NOTCH_IDX n 0

/-- Put section `k` on slot `n` at frequency `f` in use `use`; a section already there keeps its stored values. -/
def State.placeNotch (s : State) (k n f use : Nat) (fresh : Bool) : State :=
  let f := max 1 (min f 29491)
  let q := notchCoefs f (s.f F.LOOPNk_CFG_RHO k)
  let x := s.notch k
  let s := s.setNotch k { x with b := q.1, a := q.2, fresh := fresh || x.fresh, req := false }
  let s := ((s.setf F.LOOPNk_STATUS_USE k use).setf F.LOOPNk_STATUS_SLOT_NOW k n).setf F.LOOPNk_STATUS_F_NOW k f
  (s.showNotch n).loopCounts

/-- Serve held manual requests (R258): a free section, a slot not in OFF that holds no section. -/
def State.serveRequests (s : State) : State :=
  (List.range 8).foldl (fun s k =>
    let n := s.f F.LOOPNk_CFG_SLOT k
    if (s.notch k).req ∧ s.f F.LOOPNk_STATUS_USE k = 0 ∧ s.slotSt n ≠ 0 ∧ s.notchOf n = none then
      s.placeNotch k n (s.f F.LOOPNk_FREQ_F_MAN k) 1 true
    else s) s

/-- Free a section. -/
def State.freeNotch (s : State) (k : Nat) (req : Bool) : State :=
  let n := s.f F.LOOPNk_STATUS_SLOT_NOW k
  let s := (s.setf F.LOOPNk_STATUS_USE k 0).setf F.LOOPNk_STATUS_SLOT_NOW k 0
  let s := s.setf F.LOOPNk_STATUS_F_NOW k 0
  let s := s.setNotch k { req := req }
  (s.showNotch n).loopCounts

/-- The recovery use of a slot's section ends (R258). -/
def State.endRecovery (s : State) (n : Nat) : State :=
  match s.notchOf n with
  | some k =>
    if s.f F.LOOPNk_STATUS_USE k = 2 then (s.freeNotch k (s.on F.LOOPNk_CFG_EN k)).serveRequests else s
  | none => s

/-- A slot's state changes: it is counted, logged and noted in its hang ring, and where the slot is or was a member its
group is recomputed (R239, R259, R263). -/
def State.slotPut (s : State) (n st : Nat) : State :=
  let was := s.slotLive n
  let s := s.setf F.SLOTn_STATUS_STATE n st
  let s := s.log 0x3001 n ((s.rd R.SLOTn_STATUS n).toNat / 2 ^ 25)
  let s := (s.hang (0x460 + n) 0x01 (32 * st + s.f F.SLOTn_STATUS_CAUSE n)).loopCounts
  if was || s.slotLive n then s.regroup (s.slot n).group else s

/-- Release an output: it is shown, it is a source of class 0x9, and its group is recomputed (R230, R239). -/
def State.releaseOut (s : State) (n : Nat) (o : Int) : State :=
  let s := s.setSlot n { s.slot n with out := some o }
  let s := (s.setfi F.SLOTn_OUT_VALUE n o).post (0x9000 + n) o
  s.regroup (s.slot n).group

/-- Entry to SAFE (R248, R251, R256): causes 1 LOSS, 2 OVERRUN, 3 OSC. -/
def State.slotToSafe (s : State) (n cause : Nat) : State :=
  let x := s.slot n
  let s := s.setSlot n { x with ready := x.ready && cause == 1, drops := 0, passes := 0, revalid := 0, dropNotch := false,
                                out := some x.safeVal }
  let s := (s.setf F.SLOTn_STATUS_CAUSE n cause).slotPut n 4
  let s := s.endRecovery n
  (s.releaseOut n x.safeVal).fault (0x4F + cause) n

/-- The enable action (R237, R259, R262). -/
def State.slotEnable (s : State) (n : Nat) : State :=
  let w := s.rd R.SLOTn_CTRL n
  let x := s.slot n
  let init := (s.rd R.SLOTn_INIT n).toInt
  let s := s.setSlot n {
    cfg := s.slotWords n, order := w.getLsbD 30, pol := w.getLsbD 29, group := Fin.ofNat 16 (getBits w 16 4),
    fb := s.f F.SLOTn_SRC_FB_SRC n, genStart := true, e := [0, 0, 0], y := [init, init, init], held := x.held,
    latClr := x.latClr }
  let s := s.setf F.SLOTn_STATUS_HALVED n 0
  let s := s.setfi F.SLOTn_YNOW_VALUE n init
  (s.slotPut n 1).serveRequests

/-- EN written 0 in a state other than OFF and STOPPING (R259). -/
def State.slotStop (s : State) (n : Nat) : State :=
  (s.setSlot n { s.slot n with ready := false }).slotPut n 5

/-! ### Load and latency (R227 to R230) -/

/-- The µs from a count to the slot's next sample instant, by the PERIOD and PHASE latched at that count (R223, R227). -/
def SlotSt.nextIn (x : SlotSt) (us : Nat) : Nat :=
  let d := (x.phase + x.period - us % x.period) % x.period
  if d = 0 then x.period else d

/-- Engine cycles of 2.5 ns since count 0. -/
def State.cycNow (s : State) : Nat := s.now.toNat * 2 / 5

/-- Bring the account of lane-cycles to the epoch of cycle `c`, and restart BUSY_MAX when that is due. -/
def State.busyRoll (s : State) (c : Nat) : State :=
  let e := c / 400
  let x := s.loop
  let s := if x.busyEpoch < e then
      { s with loop := { x with busyEpoch := e, used := if x.busyEpoch + 1 = e then x.carry else 0, carry := 0 } }
    else s
  let s := match x.busyClr with
    | some b => if b ≤ e then { (s.setf F.LOOP_LOAD_BUSY_MAX 0 0) with loop := { s.loop with busyClr := none } } else s
    | none => s
  s.setf F.LOOP_LOAD_BUSY_MAX 0 (max (s.f F.LOOP_LOAD_BUSY_MAX) s.loop.used)

/-- An evaluation of `n` cycles starts at cycle `c`. -/
def State.busyAdd (s : State) (c n : Nat) : State :=
  let s := s.busyRoll c
  let here := min n (400 - c % 400)
  let s := { s with loop := { s.loop with used := s.loop.used + here, carry := s.loop.carry + (n - here) } }
  s.setf F.LOOP_LOAD_BUSY_MAX 0 (max (s.f F.LOOP_LOAD_BUSY_MAX) s.loop.used)

/-- The status of LOOP_LATCLR when every restart has taken place. -/
def State.latDone (s : State) : State :=
  if s.f F.LOOP_LATCLR_STATUS = 1 ∧ s.loop.busyClr = none ∧ allSlots.all (fun n => !(s.slot n).latClr) then
    s.setf F.LOOP_LATCLR_STATUS 0 2
  else s

/-- LOAD of R229 in 1/16 lane-cycle per µs, over the enabled slots. -/
def State.loopLoad (s : State) : Nat :=
  let q := (allSlots.filter (fun n => s.slotLive n)).foldl (fun (q : Nat × Nat) n =>
    let x := s.slot n
    (q.1 * x.period + x.cycles * q.2, q.2 * x.period)) (0, 1)
  (divNearest ((16 * q.1 : Nat) : Int) q.2).toNat

/-- Latency of a release (R230). -/
def State.noteLatency (s : State) (n lat : Nat) : State :=
  let lat := min lat 65535
  let s := s.setf F.SLOTn_LAT_LAT_MAX n (max (s.f F.SLOTn_LAT_LAT_MAX n) lat)
  s.setf F.SLOTn_LAT_LAT_MIN n (min (s.f F.SLOTn_LAT_LAT_MIN n) lat)

end Sys2Proof.Machine
end

