-- ==== Sys2Proof/Machine/Loop.lean ====
section
/-! DEFINITION. The loop engine's commands (spec chapter 06): samples, evaluations, releases, HOLD and SAFE, enabling
and disabling slots, notches, the latency records, the rail need. -/
namespace Sys2Proof.Machine
open Sys2Proof

/-! ### Samples (R223, R224, R247 to R252) -/

/-- Latch the configuration, release captured coefficients where COEF_HOLD has gone to 0 (R200), and restart the latency
record where that is due (R262, LOOP_LATCLR). -/
def State.latchSlot (s : State) (n : Nat) : State :=
  let x := s.slot n
  let s := s.setSlot n { x with cfg := s.slotWords n, latClr := false, dropNotch := false,
                                held := if s.on F.SLOTn_CTRL_COEF_HOLD n then x.held else none }
  let s := if x.latClr then (s.clr R.SLOTn_LAT n).latDone else s
  if x.dropNotch then s.endRecovery n else s

/-- Latch the inputs, check the feedback and advance the reference (R224, R236, R237, R250). A target that has never
been received has no value: it is free (log entry 2). -/
def State.latchInputs (s : State) (n : Nat) : State :=
  let x := s.slot n
  let fb := ((s.source x.fb).map (·.1)).getD 0
  let bad := s.checkFb x fb
  let ok := !bad.1 && !bad.2.1 && !bad.2.2
  let t : State × Int :=
    if x.tgtSrc = 0 then (s, (x.w 4).toInt)
    else match s.source x.tgtSrc with
      | some v => (s, v.1)
      | none => (s.usedFree, (s.freeVal 32).toInt)
  let s := t.1
  let x := { x with fbVal := fb, tgtVal := t.2, ceilVal := s.ceiling x, checkOk := ok, hist := (fb :: x.hist).take 256 }
  let x := x.advance ok
  let s := s.setSlot n x
  let s := s.setfi F.SLOTn_REF_VALUE n x.ref
  let s := if bad.1 then s.setf F.SLOTn_STATUS_FRESH_FAIL n 1 else s
  let s := if bad.2.1 then s.setf F.SLOTn_STATUS_FREEZE_FAIL n 1 else s
  let s := if bad.2.2 then s.setf F.SLOTn_STATUS_RANGE_FAIL n 1 else s
  s.setb F.SLOTn_STATUS_SRC_STALE n (s.srcStale x.tgtSrc || s.srcStale x.ceilSrc)

/-- The previous evaluation still waits to start: it is dropped (R247). -/
def State.dropWaiting (s : State) (n : Nat) : State :=
  let x := s.slot n
  if x.ready then
    let s := s.setSlot n { x with ready := false, drops := x.drops + 1 }
    let s := s.hang (0x460 + n) 0x02 (min (x.drops + 1) 255)
    (s.incf F.SLOTn_COUNT_OVERRUNS n).incf F.LOOP_OVR_COUNT 0
  else s

/-- The slot's run of drops has reached OVR_K (R248). -/
def State.overrun (s : State) (n : Nat) : Bool :=
  let x := s.slot n
  decide (max 1 (getBits (x.w 24) 0 8) ≤ x.drops)

/-- A return from HOLD to the state it came from (R251). -/
def State.leaveHold (s : State) (n : Nat) : State :=
  let x := s.slot n
  let s := s.setSlot n (if x.from_ = 3 then { x with e := [0, 0, 0], passes := 0, k := 0, crossings := 0, quiet := 0 }
    else { x with e := [0, 0, 0], passes := 0 })
  s.slotPut n x.from_

/-- A return from SAFE with CAUSE LOSS (R252): the generator starts again at this sample. -/
def State.leaveSafe (s : State) (n : Nat) : State :=
  let x := s.slot n
  let v := x.safeVal
  let x := { x with e := [0, 0, 0], y := [v, v, v], revalid := 0, vset := 1024 * x.fbVal, v := 0, a := 0 }
  let s := s.setSlot n x
  let s := (s.setfi F.SLOTn_REF_VALUE n x.ref).setfi F.SLOTn_YNOW_VALUE n v
  s.slotPut n 1

/-- The outcome of the check in the slot's state (R251, R252, R259). -/
def State.judgeSample (s : State) (n : Nat) : State :=
  let x := s.slot n
  let st := s.slotSt n
  if st = 1 ∨ st = 3 then
    (if x.checkOk then s
    else
      let s := s.setSlot n { x with from_ := st, holdAt := s.now, passes := 0 }
      (s.incf F.SLOTn_COUNT_LOSSES n).slotPut n 2)
  else if st = 2 then
    (if !x.checkOk then s.setSlot n { x with passes := 0 }
    else if 2 ≤ x.passes + 1 then s.leaveHold n
    else s.setSlot n { x with passes := x.passes + 1 })
  else if st = 4 ∧ s.f F.SLOTn_STATUS_CAUSE n = 1 then
    (if !x.checkOk then s.setSlot n { x with revalid := 0 }
    else if max 1 (getBits (x.w 24) 8 8) ≤ x.revalid + 1 then s.leaveSafe n
    else s.setSlot n { x with revalid := x.revalid + 1 })
  else s

/-- The evaluation of the sample becomes ready, unless the state has none (R227, R228). -/
def State.makeReady (s : State) (n : Nat) : State :=
  let x := s.slot n
  if s.slotSt n = 4 ∧ s.f F.SLOTn_STATUS_CAUSE n ≠ 1 then s
  else
    let c := s.now.toNat / 1000 * 400
    s.setSlot n { x with ready := true, sampleAt := c, deadline := c + 400 * x.nextIn (s.time.count.toNat / 1000) }

/-- SLOT_SAMPLE: slot `n` reaches its sample instant (R223, R224): inputs, overrun, check, SAFE's release (R259, R260). -/
def execSlotSample (n : Nat) (s : State) : Host.Outcome State Fault Refusal :=
  let x := s.slot n
  .next (if s.vgov && decide (n < 128) && s.on F.LOOP_CTRL_EN && s.slotLive n
      && s.due 10 n (1000 * x.period) (1000 * x.phase) then
    let s := (s.serve 10 n).busyRoll s.cycNow
    let s := (s.latDone.latchSlot n).latchInputs n
    let s := s.dropWaiting n
    let s := if s.overrun n && decide (s.slotSt n ≠ 4 ∨ s.f F.SLOTn_STATUS_CAUSE n = 1) then s.slotToSafe n 2
      else
        let s := s.judgeSample n
        if s.slotSt n = 4 then s.releaseOut n (s.slot n).safeVal else s
    s.makeReady n
  else s)

/-! ### Evaluations (R227 to R234, R240, R243, R253 to R256) -/

/-- HI_EFF with the two flags of the status: ceiling, losing member, which limit and do not reset the loop (R46, R234, R240,
R241). -/
def State.hiEff (s : State) (n : Nat) : Int × Bool × Bool :=
  let x := s.slot n
  let lose : Option Int :=
    if s.on F.LOOPGg_STATUS_VALID x.group && decide (s.f F.LOOPGg_STATUS_WINNER x.group ≠ n) then
      some (satSigned 32 (s.fi F.LOOPGg_OUT_OUT x.group + s.fi F.LOOPGg_HEAD_HEADROOM x.group))
    else none
  let h := min (min x.hi (x.ceilVal.getD x.hi)) (lose.getD x.hi)
  (h, decide (h < x.hi) && x.ceilVal == some h, decide (h < x.hi) && lose == some h)

/-- The bound on y of a group-0 member while the clamp line or safe state is asserted (R243). -/
def State.capY (s : State) (n : Nat) : State :=
  let x := s.slot n
  if x.group = 0 ∧ s.outHeld then
    let c := s.f F.CRD_CLAMP_COUNT_COUNT
    (match x.yCap with
    | some (g, _) => if g = c then s else s.setSlot n { x with yCap := some (c, x.y.getD 0 0) }
    | none => s.setSlot n { x with yCap := some (c, x.y.getD 0 0) })
  else s.setSlot n { x with yCap := none }

/-- The law of one evaluation: the slot with its new stored values, the released output, and the tapped nodes. -/
def State.runLaw (s : State) (n : Nat) (e : Int) : State × Int × List Int :=
  let s := s.capY n
  let x := s.slot n
  let k := s.slotCoefs n
  let h := s.hiEff n
  let es := (e :: x.e).take 4
  let y := limitOut x.lo h.1 (lawRound (lawSum k.1 k.2 es x.y))
  let y := match x.yCap with
    | some (_, c) => min y c
    | none => y
  let ff := if x.ffEn ∧ x.group ≠ 0 then divNearest (s.lastSlot x.lastSel * x.ffk) 16 else 0
  let out := limitOut x.lo h.1 (satSigned 32 (y + ff))
  let s := s.setSlot n { x with e := es.take 3, y := (y :: x.y).take 3, ff := ff }
  let s := (s.setb F.SLOTn_STATUS_CEIL_ACT n h.2.1).setb F.SLOTn_STATUS_CLAMP_LOSE n h.2.2
  (s.setfi F.SLOTn_YNOW_VALUE n y, out, [x.fbVal, e, y, out, ff])

/-- A trip (R254 to R256). -/
def State.oscTrip (s : State) (n k nn : Nat) : State :=
  let s := s.incf F.SLOTn_COUNT_OSC_TRIPS n
  let s := s.hang (0x460 + n) 0x03 0
  if s.slotSt n = 1 ∧ !s.on F.SLOTn_STATUS_HALVED n then
    let f := min (nn * 65536 / (2 * k)) 29491
    let s := s.setf F.SLOTn_STATUS_HALVED n 1
    let s := s.setSlot n { s.slot n with quiet := 0 }
    let s := match s.notchOf n with
      | some j => (s.placeNotch j n f 2 false).log 0x3002 n f
      | none => match (List.range 8).find? (fun j => s.f F.LOOPNk_STATUS_USE j = 0) with
        | some j => (s.placeNotch j n f 2 true).log 0x3002 n f
        | none => s.setf F.SLOTn_STATUS_NO_NOTCH n 1
    s.slotPut n 3
  else s.slotToSafe n 3

/-- The detector takes one error (R253, R256). -/
def State.detect (s : State) (n : Nat) (e : Int) : State :=
  let x := s.slot n
  let band : Int := getBits (x.w 25) 0 16
  let nn := max 1 (getBits (x.w 25) 24 8)
  let side := if band < e then 1 else if e < -band then 2 else x.side
  let cross := decide (x.side ≠ 0) && decide (side ≠ x.side)
  let k := x.k + 1
  let c := x.crossings + (if cross then 1 else 0)
  if nn ≤ c then (s.setSlot n { x with side := side, k := 0, crossings := 0 }).oscTrip n k nn
  else if max 1 (getBits (x.w 25) 16 8) ≤ k then
    let q := x.quiet + 1
    let s := s.setSlot n { x with side := side, k := 0, crossings := 0, quiet := q }
    if s.slotSt n = 3 ∧ max 1 (s.f F.LOOP_CTRL_OSC_CLEAR) ≤ q then
      (s.setSlot n { s.slot n with quiet := 0, dropNotch := true }).slotPut n 1
    else s
  else s.setSlot n { x with side := side, k := k, crossings := c }

/-- A lane. -/
def State.lane (s : State) (k : Nat) : LaneSt := Tab.get {} s.loop.lanes k
def State.setLane (s : State) (k : Nat) (x : LaneSt) : State :=
  { s with loop := { s.loop with lanes := Tab.set {} s.loop.lanes k x } }

/-- The free lane that has been free longest. -/
def State.freeLane (s : State) : Option Nat :=
  ([0, 1, 2, 3].filter (fun k => !(s.lane k).busy)).foldl (fun b k => match b with
    | none => some k
    | some j => if (s.lane k).endAt < (s.lane j).endAt then some k else some j) none

/-- The ready evaluation with the earliest deadline, the lower slot on a tie (R227). -/
def State.readySlot (s : State) : Option Nat :=
  (allSlots.filter (fun n => (s.slot n).ready)).foldl (fun b n => match b with
    | none => some n
    | some j => if (s.slot n).deadline < (s.slot j).deadline then some n else some j) none

/-- The error of a sample before any notch (R231). -/
def SlotSt.error (x : SlotSt) : Int :=
  satSigned 32 (if x.pol then x.fbVal - x.ref else x.ref - x.fbVal)

/-- Start the law of slot `n` on lane `k` at cycle `c`. -/
def State.startLaw (s : State) (n k c : Nat) : State :=
  let x := s.slot n
  let e0 := x.error
  let q : State × Int × Nat := match s.notchOf n with
    | some j =>
      let r := (s.notch j).eval e0
      (s.setNotch j r.2, r.1, x.cycles + 6)
    | none => (s, e0, x.cycles)
  let r := q.1.runLaw n q.2.1
  let s := r.1.busyAdd c q.2.2
  let s := s.setLane k { busy := true, slot := Fin.ofNat 128 n, sampleAt := x.sampleAt, endAt := c + q.2.2, out := some r.2.1,
                         taps := r.2.2 }
  s.detect n e0

/-- SLOT_EVALUATE: a free lane starts the ready evaluation with the earliest deadline (R227). In HOLD and in SAFE with
CAUSE LOSS it checks inputs only (R228): its tapped nodes are the latched feedback and the values the slot keeps
(DESIGN CHOICE, log entry 128). -/
def execSlotEvaluate (s : State) : Host.Outcome State Fault Refusal :=
  .next (match s.freeLane, s.readySlot with
  | some k, some n =>
    if s.vgov && s.on F.LOOP_CTRL_EN then
      let x := s.slot n
      let c := max (s.lane k).endAt x.sampleAt
      let s := s.setSlot n { x with ready := false, busy := x.busy + 1 }
      if s.slotRuns n then s.startLaw n k c
      else (s.busyAdd c 4).setLane k { busy := true, slot := Fin.ofNat 128 n, sampleAt := x.sampleAt, endAt := c + 4,
                                       taps := [x.fbVal, x.e.getD 0 0, x.y.getD 0 0, x.out.getD 0, x.ff] }
    else s
  | _, _ => s)

/-- Deliver the tapped nodes to the trace system (R263). -/
def State.traceTaps (s : State) (n : Nat) (vals : List Int) : State :=
  let m := (s.slot n).tapMask
  let l := (List.range 5).filter (fun k => m.testBit (4 - k))
  if l = [] then s
  else s.traceMany 3 (l.map (fun k => (0, 512 * n + k, ofSigned 32 (vals.getD k 0), none)))

/-- The lane whose evaluation completes first, when it has (R228). -/
def State.doneLane (s : State) : Option Nat :=
  ([0, 1, 2, 3].filter (fun k => (s.lane k).busy && decide ((s.lane k).endAt ≤ s.cycNow))).foldl (fun b k => match b with
    | none => some k
    | some j => if (s.lane k).endAt < (s.lane j).endAt then some k else some j) none

/-- SLOT_RELEASE: the evaluation that ends first has completed: its output is released, unless the slot has left RUN and
RECOVER meanwhile (R230, R259). -/
def execSlotRelease (s : State) : Host.Outcome State Fault Refusal :=
  .next (match s.doneLane with
  | some k =>
    if s.vgov then
      let l := s.lane k
      let n := l.slot
      let s := s.setLane k { l with busy := false, out := none, taps := [] }
      let s := (s.setSlot n { s.slot n with busy := (s.slot n).busy - 1, drops := 0 }).traceTaps n l.taps
      (match l.out with
      | some o =>
        if s.slotRuns n then (s.noteLatency n (l.endAt - l.sampleAt)).releaseOut n o else s
      | none => s)
    else s
  | none => s)

/-- SLOT_HOLD_TIMEOUT: HOLD has lasted HOLD_US (R251); slot states are kept while LOOP_CTRL.EN is 0 (R226). -/
def execSlotHoldTimeout (n : Nat) (s : State) : Host.Outcome State Fault Refusal :=
  let x := s.slot n
  .next (if s.vgov && s.on F.LOOP_CTRL_EN && decide (n < 128) && s.slotSt n == 2
      && s.passed x.holdAt (1000 * max 1 (getBits (x.w 24) 16 16)) then s.slotToSafe n 1
  else s)

/-- CEILING_ARRIVAL: a value of slot `n`'s ceiling source lies below its released output, which is lowered (R241). -/
def execCeilingArrival (n : Nat) (s : State) : Host.Outcome State Fault Refusal :=
  let x := s.slot n
  let st := s.slotSt n
  .next (match s.ceiling x, x.out with
  | some c, some o =>
    if s.vgov && decide (n < 128) && s.on F.LOOP_CTRL_EN && decide (1 ≤ st ∧ st ≤ 3) && decide (c < o) then s.releaseOut n c else s
  | _, _ => s)

/-! ### Slot control (R235, R259, R261) -/

/-- COEF_HOLD from 0 to 1 captures the coefficients; its return to 0 acts at the next sample (R200, R235: latchSlot). -/
def State.slotCoefHold (s : State) (n : Nat) (b : Bool) : State :=
  if s.on F.SLOTn_CTRL_COEF_HOLD n = b then s
  else
    let s := s.setb F.SLOTn_CTRL_COEF_HOLD n b
    if b then s.setSlot n { s.slot n with held := some (s.slotCoefRegs n) } else s

/-- EN written (R259). -/
def State.slotEn (s : State) (n : Nat) (b : Bool) : State :=
  let st := s.slotSt n
  if b then
    (if st = 0 then s.slotEnable n else if st = 5 then s.setf F.SLOTn_STATUS_PENDING_ENABLE n 1 else s)
  else if st = 0 then s
  else if st = 5 then s.setf F.SLOTn_STATUS_PENDING_ENABLE n 0
  else s.slotStop n

/-- A write of SLOTn_CTRL. -/
def writeSlotCtrl (n : Nat) (by_ : Writer) (w : Word) (s : State) : State × Bool :=
  let s := s.slotCoefHold n (w.getLsbD 21)
  let q := writeReg s by_ R.SLOTn_CTRL n w
  (q.1.slotEn n (w.getLsbD 31), q.2)

/-- SLOT_ENABLE: a CFG write of SLOTn_CTRL (R259). -/
def execSlotEnable (priv : Bool) (n : Nat) (w : Word) (s : State) : Host.Outcome State Fault Refusal :=
  .next (s.cfgWrite priv R.SLOTn_CTRL n (writeSlotCtrl n .cfg w))

/-- SLOT_DISABLE: a CFG write of SLOTn_CTRL (R259). -/
def execSlotDisable (priv : Bool) (n : Nat) (w : Word) (s : State) : Host.Outcome State Fault Refusal :=
  .next (s.cfgWrite priv R.SLOTn_CTRL n (writeSlotCtrl n .cfg w))

/-- SLOT_QUIET_POINT: no evaluation of the slot is in progress or waiting (R259, R261). -/
def execSlotQuietPoint (n : Nat) (s : State) : Host.Outcome State Fault Refusal :=
  let x := s.slot n
  .next (if s.vgov && decide (n < 128) && s.slotSt n == 5 && x.busy == 0 && !x.ready then
    let s := match s.notchOf n with
      | some k => s.freeNotch k ((s.notch k).req || (s.f F.LOOPNk_STATUS_USE k == 2 && s.on F.LOOPNk_CFG_EN k))
      | none => s
    (if s.on F.SLOTn_STATUS_PENDING_ENABLE n then (s.setf F.SLOTn_STATUS_PENDING_ENABLE n 0).slotEnable n
    else s.slotPut n 0).serveRequests
  else s)

/-! ### Notches, latency, engine enable (R226, R230, R258) -/

/-- A write of LOOPNk_CFG (R258). -/
def writeNotchCfg (k : Nat) (by_ : Writer) (w : Word) (s : State) : State × Bool :=
  let q := writeReg s by_ R.LOOPNk_CFG k w
  let s := q.1
  let use := s.f F.LOOPNk_STATUS_USE k
  let x := s.notch k
  (if w.getLsbD 31 then
    (if use = 1 ∧ s.f F.LOOPNk_STATUS_SLOT_NOW k = s.f F.LOOPNk_CFG_SLOT k then s.setNotch k { x with req := false }
    else (s.setNotch k { x with req := true }).serveRequests)
  else if use = 1 then (s.freeNotch k false).serveRequests
  else s.setNotch k { x with req := false }, q.2)

/-- NOTCH_ASSIGN: a CFG write of LOOPNk_CFG (R258). -/
def execNotchAssign (priv : Bool) (k : Nat) (w : Word) (s : State) : Host.Outcome State Fault Refusal :=
  .next (s.cfgWrite priv R.LOOPNk_CFG k (writeNotchCfg k .cfg w))

/-- A write of LOOP_LATCLR (R230): BUSY_MAX restarts at the next epoch boundary, the records of enabled slots at their
next sample, the others at once. -/
def writeLatClr (w : Word) (s : State) : State × Bool :=
  let s := s.setf F.LOOP_LATCLR_CLR 0 (getBits w 0 1)
  (if w.getLsbD 0 then
    let s := { s with loop := { s.loop with busyClr := some (s.epoch + 1) } }
    let s := s.setf F.LOOP_LATCLR_STATUS 0 1
    allSlots.foldl (fun s n =>
      if s.slotLive n then s.setSlot n { s.slot n with latClr := true }
      else s.clr R.SLOTn_LAT n) s
  else s, false)

/-- LATENCY_CLEAR: a CFG write of 1 to LOOP_LATCLR (R230). -/
def execLatencyClear (priv : Bool) (s : State) : Host.Outcome State Fault Refusal :=
  .next (s.cfgWrite priv R.LOOP_LATCLR 0 (writeLatClr 1))

/-- A write of LOOP_CTRL: when EN becomes 1, each group that has a valid member sends its output again (R226, R239). -/
def writeLoopCtrl (by_ : Writer) (w : Word) (s : State) : State × Bool :=
  let was := s.on F.LOOP_CTRL_EN
  let q := writeReg s by_ R.LOOP_CTRL 0 w
  (if !was && q.1.on F.LOOP_CTRL_EN then
    (List.range 16).foldl (fun s g => (s.setGroup g { s.group g with had := false }).regroup g) q.1
  else q.1, q.2)

/-- A write of LOOPGg_CFG: DEST is RO in group 0; the output of a group with a valid member goes to the new destination
(R238). Nothing is sent while LOOP_CTRL.EN is 0 or before the group first has a valid member (R226, R239). -/
def writeGroupCfg (g : Nat) (by_ : Writer) (w : Word) (s : State) : State × Bool :=
  let fs : List WField := if g = 0 then [⟨26, 20, .rw⟩, ⟨17, 12, .rw⟩] else [⟨31, 28, .rw⟩, ⟨26, 20, .rw⟩, ⟨17, 12, .rw⟩]
  let old := s.groupDest g
  let q := writeFields s by_ R.LOOPGg_CFG g fs w
  let s := q.1
  (if s.on F.LOOP_CTRL_EN && (s.group g).had then
    let s := if old = 4 ∧ s.groupDest g ≠ 4 ∧ s.dieUp then s.setf F.DRP_NUDGE_NUDGE 0 0 else s
    if s.on F.LOOPGg_STATUS_VALID g then s.sendGroup g (s.fi F.LOOPGg_OUT_OUT g) else s
  else s, q.2)

/-- A write of LOOP_PCAP: the platform cap is a source that is always present (R225). -/
def writePcap (by_ : Writer) (w : Word) (s : State) : State × Bool := writeReg s by_ R.LOOP_PCAP 0 w

/-! ### Rail need and resends (R245, R246) -/

/-- RAIL_NEED_RECEIVE: the rail need on the seam reaches the engine, which passes it to Rail 0 (R246). -/
def execRailNeedReceive (s : State) : Host.Outcome State Fault Refusal :=
  .next (match s.welt.needSent with
  | some v =>
    if s.vgov then
      let s := { s with welt := { s.welt with needSent := none } }
      let s := { s with rails := { s.rails with need := v, needAt := some s.now, needLate := false } }
      (s.post 0x6000 v).recompose 0
    else s
  | none => s)

/-- RAIL_NEED_TIMEOUT: no rail need for 10 µs: the last value stays, and a fault event is reported (R246). -/
def execRailNeedTimeout (s : State) : Host.Outcome State Fault Refusal :=
  .next (if s.vgov && !s.rails.needLate && s.passed (s.rails.needAt.getD 0) 10000 then
    { s with rails := { s.rails with needLate := true } }.fault 0x46 0
  else s)

/-- GROUP_RESEND: every group that has sent an output sends its present one again (R239, R245). -/
def execGroupResend (s : State) : Host.Outcome State Fault Refusal :=
  .next (if s.vgov && s.dieUp && s.on F.LOOP_CTRL_EN then
    (List.range 16).foldl (fun s g =>
      if (s.group g).had then
        (if s.on F.LOOPGg_STATUS_VALID g then s.sendGroup g (s.fi F.LOOPGg_OUT_OUT g) else s.sendNone g)
      else s) s
  else s)

end Sys2Proof.Machine
end

