-- ==== Sys2Proof/Machine/Lasts.lean ====
section
/-! DEFINITION. The Lasts and the predictor (spec chapter 07): markers, locks, fades, templates, correlation; activity
windows, estimates, residual and shadow checks, resume, set hold and gain trim. -/
namespace Sys2Proof.Machine
open Sys2Proof

/-- `a / b` rounded to the nearest integer, ties away from zero (R272), for `b > 0`. -/
def divAway (a : Int) (b : Nat) : Int :=
  if 0 ≤ a then (2 * a + b) / (2 * b : Nat) else -((2 * -a + b) / (2 * b : Nat))

/-- Two periods agree within 2 % of the second. -/
def within2 (a b : Nat) : Bool := decide (((a : Int) - b).natAbs * 50 ≤ b)

/-! ### States of a Last (R267 to R270, R276) -/

/-- Show the bits of LAST_STATUS, and log the change. -/
def State.lastPut (s : State) (l st : Nat) : State :=
  let s := s.setf F.LASTl_STATUS_STATE l st
  let s := s.setBitf F.LAST_STATUS_LOCKED 0 l (st == 2)
  let s := s.setBitf F.LAST_STATUS_FADING 0 l (st == 3)
  s.log 0x3801 l st

/-- A period register in ns (10 to 200,000 µs). -/
def periodNs (w : Word) : Nat := 1000 * max 10 (min (getBits w 0 18) 200000)

/-- Set PLOCK, in ns. -/
def State.setPlock (s : State) (l p : Nat) : State :=
  (s.setLast l { s.last l with plock := p }).setf F.LASTl_PLOCK_PLOCK l (p / 1000)

/-- Entry to SEARCH: the configuration is latched (R265, R276). Block means of another source or block length go. -/
def State.lastSearch (s : State) (l : Nat) : State :=
  let w := s.rd R.LASTl_CFG l
  let x := s.last l
  let dest := getBits w 27 2
  let rail := getBits w 24 3
  let src := s.f F.LASTl_SRC_SRC l
  let mode := if getBits w 29 2 = 3 then 0 else getBits w 29 2
  let y : LastSt := { x with
    mode := mode, dest := dest, rail := rail, clFirst := getBits w 18 6, clCnt := getBits w 12 6,
    bins := max 1 (getBits w 0 12) + 1, src := src, pmin := periodNs (s.rd R.LASTl_PMIN l),
    pmax := periodNs (s.rd R.LASTl_PMAX l), lag := none }
  let y := if y.srcKey l = x.srcKey l ∧ y.blockLen = x.blockLen ∧ x.mode ≠ 0 then y
    else { y with blocks := [], blkAt := s.now.toNat / y.blockLen, blkSum := 0, blkNum := 0 }
  let s := s.setLast l y
  let s := if dest = 1 ∧ src ≠ 0x2000 + rail then s.setf F.LASTl_STATUS_CFG_ERR l 1 else s
  s.lastPut l 1

/-- Entry to FADE (R269, R270). -/
def State.lastFade (s : State) (l : Nat) : State :=
  let x := s.last l
  let g := s.lastG l 0
  let s := s.setLast l { x with gFrom := g, gAt := s.now, gLen := 4 * x.pEst, prevMark := none, intervals := [],
                                pendLock := none, lag := none }
  let s := (s.setf F.LASTl_STATUS_AUTO_LOCK l 0).incf F.LASTl_COUNT_FADES l
  s.lastPut l 3

/-- Sum and number of a Last's source since a mark; where nothing arrived the newest value stands, and where there is
none the value is free (R267, R272, log entries 2 and 21). -/
def State.srcMean (s : State) (l : Nat) (sum0 : Int) (num0 : Nat) : State × Int × Nat :=
  let key := (s.last l).srcKey l
  if constSrc key ∧ key < 0x10000 then (s, ((s.source key).map (·.1)).getD 0, 1)
  else match s.loop.src.find? (fun e => e.1 = key) with
    | none => (s.usedFree, (s.freeVal 32).toInt, 1)
    | some e => if num0 < e.2.n then (s, e.2.sum - sum0, e.2.n - num0) else (s, e.2.v, 1)

/-- The source's cumulative sum and number. -/
def State.srcSum (s : State) (l : Nat) : Int × Nat :=
  let v : SrcVal := Tab.get {} s.loop.src ((s.last l).srcKey l)
  (v.sum, v.n)

/-- A bin interval begins (R272). -/
def State.beginBin (s : State) (l : Nat) : State :=
  let x := s.last l
  let q := s.srcSum l
  let v : SrcVal := Tab.get {} s.loop.src (x.srcKey l)
  s.setLast l { x with bin := s.lastBin l 0, binSum := q.1, binNum := q.2, gap := s.since v.t,
                       gateGen := s.f F.CRD_CLAMP_COUNT_COUNT, binHeld := s.outHeld, srcBad := false }

/-- The source passed its freshness and lost-source checks throughout the interval (R272). -/
def State.binFresh (s : State) (l : Nat) : Bool :=
  let x := s.last l
  let key := x.srcKey l
  if key < 0x10000 then constSrc key || (s.srcFresh key (s.autoAge key) && decide (x.gap ≤ s.autoAge key))
  else
    let v : SrcVal := Tab.get {} s.loop.src key
    s.dieUp && decide (0 < v.n) && decide (s.since v.t ≤ 3000) && decide (x.gap ≤ 3000)

/-- The update of the bin whose interval has ended (R272). -/
def State.learnBin (s : State) (l : Nat) : State :=
  let x := s.last l
  if x.srcBad ∨ x.binHeld ∨ s.outHeld ∨ x.gateGen ≠ s.f F.CRD_CLAMP_COUNT_COUNT ∨ !s.binFresh l ∨ x.nEff ≤ x.bin then s
  else
    let q := s.srcMean l x.binSum x.binNum
    let s := q.1
    let v := divAway q.2.1 (q.2.2 * 2 ^ x.shift)
    let t := Tab.get 0 x.t x.bin
    let t := if x.fgt = 0 then t else t - divAway (t - s.fi F.LASTl_MEAN_M l) (2 ^ x.fgt)
    let t := satSigned 16 (t + divAway (v - t) (2 ^ x.lrn))
    let x := { x with t := Tab.set 0 x.t x.bin t }
    let m := divAway ((List.range x.nEff).map (fun b => Tab.get 0 x.t b)).sum x.nEff
    (s.setLast l x).setfi F.LASTl_MEAN_M l m

/-- A bin interval ends, at a bin boundary or at a phase restart: the bin learns in LOCKED, and LASTl_LEARN and LASTl_GAIN
take effect (R272, R276). -/
def State.endBin (s : State) (l : Nat) : State :=
  let s := if s.lastState l = 2 then s.learnBin l else s
  s.setLast l { s.last l with learn := s.rd R.LASTl_LEARN l, ffk := s.f F.LASTl_GAIN_FF_K l }

/-- A template with every bin at one value. -/
def flatTemplate (n : Nat) (v : Int) : Tab Int := if v = 0 then [] else (List.range n).map (fun b => (b, v))

/-- A lock takes effect: period, phase start, source mean as sum and number (R267, R271, R274). -/
def State.lastLock (s : State) (l p : Nat) (t : Word64) (mean : Int × Nat) (auto_ : Bool) : State :=
  let x := s.last l
  let learn := s.rd R.LASTl_LEARN l
  let x := { x with pEst := p, tm := t, learn := learn, ffk := s.f F.LASTl_GAIN_FF_K l, gFrom := 0, gAt := s.now,
                    lag := none, pendLock := none }
  let x := { x with gLen := x.warm * p }
  let s := s.setLast l x
  let pload := 1000 * s.f F.LASTl_PLOAD_PERIOD l
  let s := if within2 x.plock p then s
    else if s.on F.LASTl_STATUS_LOADED l ∧ within2 pload p then s.setPlock l pload
    else
      let v := satSigned 16 (divAway mean.1 (mean.2 * 2 ^ x.shift))
      let s := s.setLast l { s.last l with t := flatTemplate x.bins v }
      (s.setfi F.LASTl_MEAN_M l v).setPlock l p
  let s := (s.setf F.LASTl_STATUS_LOADED l 0).incf F.LASTl_COUNT_LOCKS l
  let s := (s.setb F.LASTl_STATUS_AUTO_LOCK l auto_).lastPut l 2
  s.beginBin l

/-- The four intervals of R267, and their mean. -/
def lockMean (pmin pmax : Nat) (l : List Nat) : Option Nat :=
  let sum := l.sum
  if l.length = 4 ∧ l.all (fun m => decide (pmin ≤ m) && decide (m ≤ pmax) && decide (((4 * m : Int) - sum).natAbs * 50 ≤ sum))
  then some (divNearest sum 4).toNat else none

/-- A marker in SEARCH or FADE (R267, R270). -/
def State.searchMarker (s : State) (l : Nat) (t : Word64) : State :=
  let x := s.last l
  let q := s.srcSum l
  match x.prevMark with
  | none => s.setLast l { x with prevMark := some t, intervals := [], markSum := q.1, markNum := q.2 }
  | some p =>
    let iv := ((t - p).toNat :: x.intervals).take 4
    match lockMean x.pmin x.pmax iv with
    | none => s.setLast l { x with prevMark := some t, intervals := iv, markSum := q.1, markNum := q.2 }
    | some m =>
      let r := s.srcMean l x.markSum x.markNum
      let s := r.1.setLast l { x with prevMark := some t, intervals := iv, markSum := q.1, markNum := q.2 }
      if s.lastState l = 1 then s.lastLock l m t r.2 false
      else s.setLast l { s.last l with pendLock := some (m, t, r.2.1, r.2.2) }

/-- P_est differs from PLOCK by more than 2 % (R269). -/
def State.drifted (s : State) (l : Nat) : Bool := !within2 (s.last l).pEst (s.last l).plock

/-- A marker in LOCKED (R268, R269). -/
def State.lockedMarker (s : State) (l : Nat) (t : Word64) : State :=
  let x := s.last l
  let m := (t - x.tm).toNat
  if m * 100 < 98 * x.pEst then s.lastFade l
  else if within2 m x.pEst then
    let s := s.endBin l
    let x := s.last l
    let p := (clampInt x.pmin x.pmax ((x.pEst : Int) + divNearest ((m : Int) - x.pEst) 8)).toNat
    let s := (s.setLast l { x with pEst := p, tm := t }).beginBin l
    if s.drifted l then s.lastFade l else s
  else (s.lastFade l).searchMarker l t

/-- LAST_MARKER: the oldest marker a Last has taken is processed (R266 to R269). -/
def execLastMarker (l : Nat) (s : State) : Host.Outcome State Fault Refusal :=
  .next (match (s.last l).marks with
  | [] => s
  | t :: r =>
    if s.vgov && decide (l < 16) then
      let s := s.setLast l { s.last l with marks := r }
      let st := s.lastState l
      if st = 0 ∨ (st = 2 ∧ s.on F.LASTl_STATUS_AUTO_LOCK l) then s
      else if st = 2 then s.lockedMarker l t
      else s.searchMarker l t
    else s)

/-- LAST_MARKER_TIMEOUT: no marker within 1.02 x P_est of the last one (R269). -/
def execLastMarkerTimeout (l : Nat) (s : State) : Host.Outcome State Fault Refusal :=
  let x := s.last l
  .next (if s.vgov && decide (l < 16) && s.lastState l == 2 && !s.on F.LASTl_STATUS_AUTO_LOCK l && x.marks.isEmpty
      && decide (102 * x.pEst < 100 * s.since x.tm) then s.lastFade l
  else s)

/-- LAST_FADE_END: 4 x P_est after the fade's start, g has reached 0: SEARCH, or the lock that completed during the fade (R270). -/
def execLastFadeEnd (l : Nat) (s : State) : Host.Outcome State Fault Refusal :=
  .next (if s.vgov && decide (l < 16) && s.lastState l == 3
      && s.passed (s.last l).gAt (s.last l).gLen then
    match (s.last l).pendLock with
    | some (p, t, sum, n) => (s.lastSearch l).lastLock l p t (sum, n) false
    | none => s.lastSearch l
  else s)

/-! ### Correlation (R271) -/

/-- Σ (x_n - x̄)(x_(n-L) - x̄) over the newest 2,048 means, with the means scaled by 2,048. -/
def autoCorr (xs : List Int) (lag : Nat) : Int :=
  let a := xs.take 2048
  let sum := a.sum
  (List.zipWith (fun p q => (2048 * p - sum) * (2048 * q - sum)) a ((xs.drop lag).take 2048)).sum

/-- The best lag with its sum, the lowest on a tie. -/
def bestLag (xs : List Int) (lo hi : Nat) : Option (Nat × Int) :=
  ((List.range (hi + 1 - lo)).map (fun i => lo + i)).foldl (fun b lag =>
    let v := autoCorr xs lag
    match b with
    | none => some (lag, v)
    | some (_, w) => if w < v then some (lag, v) else b) none

/-- The outcome of an evaluation for a Last in SEARCH. -/
def State.corrSearch (s : State) (l : Nat) (best : Option (Nat × Int)) (den : Int) : State :=
  let x := s.last l
  let thr : Int := s.f F.LAST_CTRL_AC_THR
  match best with
  | some (lag, num) =>
    if 0 < den ∧ thr * den ≤ 256 * num then
      (match x.lag with
      | some old =>
        if within2 old lag then
          let m := ((x.blocks.take lag).sum, 256 * lag)
          s.lastLock l (lag * x.blockLen) s.now m true
        else s.setLast l { x with lag := some lag }
      | none => s.setLast l { x with lag := some lag })
    else s.setLast l { x with lag := none }
  | none => s

/-- The check of a Last locked by correlation. -/
def State.corrCheck (s : State) (l : Nat) (best : Option (Nat × Int)) (den : Int) : State :=
  let x := s.last l
  let thr : Int := (s.f F.LAST_CTRL_AC_THR : Int) - 32
  match best with
  | some (lag, num) =>
    if within2 (lag * x.blockLen) x.pEst ∧ 0 < den ∧ thr * den ≤ 256 * num then s else s.lastFade l
  | none => s

/-- LAST_CORRELATION_EVAL: every 2 x PMAX (R271). Before 2,048 means and the longest lag are held there is none. -/
def execLastCorrelationEval (l : Nat) (s : State) : Host.Outcome State Fault Refusal :=
  let x := s.last l
  let auto_ := s.on F.LASTl_STATUS_AUTO_LOCK l
  .next (if s.vgov && decide (l < 16) && decide (x.mode ≠ 0)
      && (s.lastState l == 1 || (s.lastState l == 2 && auto_)) && s.due 11 l (2 * x.pmax) 0 then
    let s := s.serve 11 l
    let v : SrcVal := Tab.get {} s.loop.src (x.srcKey l)
    let x := x.closeBlocks s.now.toNat v.v
    let s := s.setLast l x
    let lo := divUp x.pmin x.blockLen
    let hi := x.pmax / x.blockLen
    if x.blocks.length < 2048 + hi then s
    else
      let best := bestLag x.blocks lo hi
      let den := autoCorr x.blocks 0
      if s.lastState l = 1 then s.corrSearch l best den else s.corrCheck l best den
  else s)

/-! ### Bins (R272, R273, R276, R277) -/

/-- A change of the lead bin is traced with the slot contribution (R273, R495). -/
def State.traceLead (s : State) (l : Nat) : State :=
  let b := s.leadBin l 0
  if b = (s.last l).leadWas then s
  else
    (s.setLast l { s.last l with leadWas := b }).trace 4 0 l (ofSigned 32 (satSigned 32 (s.lastSlot l)))

/-- LAST_BIN_UPDATE: a bin interval has ended: the bin learns in LOCKED, and LASTl_LEARN and LASTl_GAIN take effect
(R272, R276). The outputs of R273 are functions of the state and the time (LastOps). -/
def execLastBinUpdate (l : Nat) (s : State) : Host.Outcome State Fault Refusal :=
  .next (if s.vgov && decide (l < 16) && decide (2 ≤ s.lastState l) then
    let s := if s.lastBin l 0 = (s.last l).bin then s else (s.endBin l).beginBin l
    s.traceLead l
  else s)

/-- A write that changes BINS, SHIFT, SRC or DEST sets PLOCK to 0 (R276); P_est of a LOCKED Last then differs from it by
more than 2 %, and the Last fades (R269). -/
def State.plockIf (s : State) (l : Nat) (changed : Bool) : State :=
  if changed then
    let s := s.setPlock l 0
    if s.lastState l = 2 then s.lastFade l else s
  else s

/-- A write of LASTl_CFG (R276). -/
def writeLastCfg (l : Nat) (by_ : Writer) (w : Word) (s : State) : State × Bool :=
  let old := s.rd R.LASTl_CFG l
  let q := writeReg s by_ R.LASTl_CFG l w
  let s := q.1.plockIf l (decide (getBits old 0 12 ≠ getBits w 0 12) || decide (getBits old 27 2 ≠ getBits w 27 2))
  let st := s.lastState l
  (if w.getLsbD 31 then
    (if st = 0 then
      (s.setLast l { s.last l with marks := [], lastMark := none, prevMark := none, intervals := [] }).lastSearch l
    else s)
  else if st = 0 then s
  else
    let s := s.setLast l { s.last l with marks := [], pendLock := none }
    (s.setf F.LASTl_STATUS_AUTO_LOCK l 0).lastPut l 0, q.2)

/-- LAST_ENABLE_WRITE: a CFG write of LASTl_CFG (R276). -/
def execLastEnableWrite (priv : Bool) (l : Nat) (w : Word) (s : State) : Host.Outcome State Fault Refusal :=
  .next (s.cfgWrite priv R.LASTl_CFG l (writeLastCfg l .cfg w))

/-- A write of LASTl_SRC (R276). -/
def writeLastSrc (l : Nat) (by_ : Writer) (w : Word) (s : State) : State × Bool :=
  let old := s.f F.LASTl_SRC_SRC l
  let q := writeReg s by_ R.LASTl_SRC l w
  (q.1.plockIf l (decide (q.1.f F.LASTl_SRC_SRC l ≠ old)), q.2)

/-- A write of LASTl_LEARN (R276). -/
def writeLastLearn (l : Nat) (by_ : Writer) (w : Word) (s : State) : State × Bool :=
  let old := s.f F.LASTl_LEARN_SHIFT l
  let q := writeReg s by_ R.LASTl_LEARN l w
  (q.1.plockIf l (decide (q.1.f F.LASTl_LEARN_SHIFT l ≠ old)), q.2)

/-- A write of LAST_BINLOAD (R277). -/
def writeBinload (by_ : Writer) (w : Word) (s : State) : State × Bool :=
  let q := writeReg s by_ R.LAST_BINLOAD 0 w
  let s := q.1
  let l := s.f F.LAST_BINLOAD_L
  (if s.on F.LASTl_CFG_EN l then s.setf F.LAST_BINLOAD_STATUS 0 3
  else
    let x := s.last l
    let s := s.setLast l { x with t := Tab.set 0 x.t (s.f F.LAST_BINLOAD_BIN) (s.fi F.LAST_BINDATA_VALUE) }
    (s.setf F.LASTl_STATUS_LOADED l 1).setf F.LAST_BINLOAD_STATUS 0 2, q.2)

/-- LAST_BINLOAD: a CFG write of LAST_BINLOAD (R277). -/
def execLastBinload (priv : Bool) (w : Word) (s : State) : Host.Outcome State Fault Refusal :=
  .next (s.cfgWrite priv R.LAST_BINLOAD 0 (writeBinload .cfg w))

/-! ### The predictor's state -/

/-- Set the predictor. -/
def State.setPred (s : State) (x : PredSt) : State := { s with lasts := { s.lasts with pred := x } }

/-- The predictor's state of a core, of a cluster. -/
def State.predCore (s : State) (n : Nat) : PredCore := Tab.get {} s.lasts.pred.cores n
def State.setPredCore (s : State) (n : Nat) (x : PredCore) : State :=
  s.setPred { s.lasts.pred with cores := Tab.set {} s.lasts.pred.cores n x }
def State.predClu (s : State) (c : Nat) : PredClu := Tab.get {} s.lasts.pred.clus c
def State.setPredClu (s : State) (c : Nat) (x : PredClu) : State :=
  s.setPred { s.lasts.pred with clus := Tab.set {} s.lasts.pred.clus c x }

/-- The 250 ns boundary index (R284). -/
def State.predIdx (s : State) : Nat := s.now.toNat / 250

/-- ACTIVITY_WINDOW: core `n` delivers its counts for the window that ended at the last boundary; later than 50 ns after
it they are late (R281). -/
def execActivityWindow (n : Nat) (counts : List Nat) (s : State) : Host.Outcome State Fault Refusal :=
  let x := s.predCore n
  .next (if s.predOn && s.coreUp n && decide (s.now.toNat % 250 ≤ 50) && decide (x.got ≠ some s.predIdx) then
    s.setPredCore n { x with
      wins := (counts.map (fun c => min c 1023) :: x.wins).take 4, got := some s.predIdx }
  else s)

/-- A word of a weight set: the register's, or the captured one under SET_HOLD (R292). -/
def State.setWord (s : State) (r : Reg) (i : Nat) : Word :=
  match s.lasts.pred.held with
  | none => s.rd r i
  | some t => Tab.get (r.rst i) t (r.at i)

/-- x_i: the sum of counter `i` over the last four windows, saturated (R281). -/
def PredCore.x (k : PredCore) (i : Nat) : Nat := min ((k.wins.map (fun w => w.getD i 0)).sum) 4095

/-- The reading of a nibble (R283). -/
def nibbleWeight (mode v : Nat) : Int :=
  let w := toSigned 4 v
  match mode with
  | 1 => clampInt (-4) 3 w
  | 2 => if w < 0 then -1 else if 0 < w then 1 else 0
  | _ => w

/-- Narrow weight `t` of a set (R283). -/
def State.weight (s : State) (set_ t : Nat) : Int :=
  nibbleWeight (s.f F.PRED_CTRL_WMODE) (getBits (s.setWord (R.PREDSs_Wk (t / 8)) set_) (4 * (t % 8)) 4)

/-- Shadow weight `t` of a set (R288). -/
def State.shadowWeight (s : State) (set_ t : Nat) : Int :=
  toSigned 16 (getBits (s.setWord (R.PREDSs_SHk (t / 2)) set_) (16 * (t % 2)) 16)

/-- S of a group of weights (R283). -/
def State.scaleByte (s : State) (set_ j k : Nat) : Nat :=
  getBits (s.setWord (if j = 0 then R.PREDSs_SCALE0 else R.PREDSs_SCALE1) set_) (8 * k) 8

/-- The partial sum of a bank in 2^-128 (R284). -/
def State.bank (s : State) (set_ : Nat) (x : PredCore) (j k : Nat) : Int :=
  2 ^ s.scaleByte set_ j k * ((List.range 16).map (fun i => s.weight set_ (64 * j + 16 * k + i) * (x.x (16 * k + i) : Int))).sum

/-- The estimate's numerator over 2^29 from the two sums of partials in 2^-`e`: u with 8 fraction bits rounded down,
h, a, and (a + q) x gain (R284). -/
def State.narrowNum (s : State) (set_ q e : Nat) (sums : List Int) : Int :=
  let bias := s.setWord R.PREDSs_BIAS set_
  let out := s.setWord R.PREDSs_OUT set_
  let gain := s.setWord R.PREDSs_GAIN set_
  let h := fun (j : Nat) =>
    max 0 ((toSigned 16 (getBits bias (16 * j) 16) * 2 ^ e + sums.getD j 0) * 256 / 2 ^ e)
  let a := toSigned 16 (getBits out 16 16) * 16384 + toSigned 8 (getBits out 0 8) * h 0 + toSigned 8 (getBits out 8 8) * h 1
  (a + (8 * q * getBits gain 16 16 : Nat)) * (getBits gain 0 16 : Int)

/-- PMAX of a set. -/
def State.pmaxOf (s : State) (set_ : Nat) : Int := getBits (s.setWord R.PREDSs_LIM set_) 0 16

/-- The linear model's estimate (R289). -/
def State.linearEst (s : State) (set_ : Nat) (x : PredCore) : Nat :=
  let lsh := getBits (s.setWord R.PREDSs_LINCFG set_) 0 5
  let gain := s.setWord R.PREDSs_GAIN set_
  let lc := fun (n : Nat) => toSigned 16 (getBits (s.setWord (R.PREDSs_LINk (n / 2)) set_) (16 * (n % 2)) 16)
  let g := fun (n : Nat) => x.x (4 * n) + x.x (4 * n + 1) + x.x (4 * n + 2) + x.x (4 * n + 3)
  let l := toSigned 16 (getBits (s.setWord R.PREDSs_LB set_) 0 16) * 2 ^ lsh + ((List.range 16).map (fun n => lc n * (g n : Int))).sum
  let num := (l * 2048 + (x.q * getBits gain 16 16 * 2 ^ lsh : Nat)) * (getBits gain 0 16 : Int)
  (clampInt 0 (s.pmaxOf set_) (divNearest num (2 ^ (26 + lsh)))).toNat

/-! ### Evaluation (R282, R284, R285, R289) -/

/-- What a station contributes to its intent sum that the block does not hold: the core cycles still to run of the tile now
running, and the nominal core period in ps (R282). -/
def State.intentQ (s : State) (n remCycles period : Nat) : Nat :=
  let x := s.station n
  let per := period * 2 ^ (3 - Tab.get 3 s.loop.div (clusterOf n))
  let run : Nat × Nat := match x.running with
    | [] => (0, 0)
    | t :: _ =>
      let c := tokCycles t.raw
      let r := min remCycles c
      ((divNearest (t.cost * r : Nat) c).toNat, r)
  let posted := x.running.tail ++ x.queue
  (posted.foldl (fun (acc : Nat × Nat) t =>
    let dead := s.malformed n t.raw || s.staleTok n t.raw
    (acc.1 + (if acc.2 * per ≤ 2000000 ∧ !dead then t.cost else 0), acc.2 + tokCycles t.raw)) run).1

/-- The core uses the linear model (R289). -/
def State.linear (s : State) (n set_ : Nat) : Bool :=
  s.on F.PRED_CTRL_FORCE_LIN || decide (2 ≤ s.f F.PRED_STATUS_STATE) || s.on F.PREDCc_STATUS_FALLBACK (clusterOf n)
    || s.bitf F.PRED_STATUS_SET_LIN 0 set_

/-- The counts of the window that ended: late or missing ones repeat the last (R281). -/
def State.takeWindow (s : State) (n m : Nat) : State :=
  let x := s.predCore n
  if x.got = some m then s
  else (s.setPredCore n { x with wins := (x.wins.getD 0 [] :: x.wins).take 4, got := some m }).incf F.PRED_COUNT_LATE 0

/-- The estimate of one core at boundary `m` (R284, R289). -/
def State.estimate (s : State) (n m q : Nat) : State :=
  let s := s.takeWindow n m
  let set_ := s.f F.PREDn_CFG_SET n
  let x := s.predCore n
  let fresh := x.fresh || decide (x.set_ ≠ set_)
  let parts := (List.range 8).map (fun i =>
    if fresh ∨ i % 4 = m % 4 then s.bank set_ x (i / 4) (i % 4) else x.parts.getD i 0)
  let x := { x with q := q, set_ := set_, fresh := false, parts := parts }
  let s := s.setPredCore n x
  if s.linear n set_ then
    let s := s.setf F.PREDn_EST_LIN n 1
    if m % 2 = 0 then s.setf F.PREDn_EST_EST n (s.linearEst set_ x) else s
  else
    let num := s.narrowNum set_ q 128 [(parts.take 4).sum, (parts.drop 4).sum]
    (s.setf F.PREDn_EST_LIN n 0).setf F.PREDn_EST_EST n (clampInt 0 (s.pmaxOf set_) (divNearest num (2 ^ 29))).toNat

/-- A core whose domain is not ON is not evaluated: its estimate is 0, and its next evaluation is fresh (R284). -/
def State.estimateOff (s : State) (n : Nat) : State :=
  (s.setPredCore n { s.predCore n with fresh := true }).wr R.PREDn_EST n 0

/-- The core's domain is ON. -/
def State.coreOn (s : State) (n : Nat) : Bool := s.coreUp n && s.f F.PWRd_STATUS_STEP n == 0

/-- EST of a cluster; P_c of a cluster over the last 1 µs (R285), in units of which a
power code has 2,520 x 8,000: a mean of at most ten reports is exact. -/
def State.estOf (s : State) (c : Nat) : Nat := ((coresOf c).map (fun n => s.f F.PREDn_EST_EST n)).sum
def pcUnit : Nat := 2520 * 8000
def State.pcOf (s : State) (c : Nat) : Nat :=
  let l := ((s.predClu c).pw.take 10).map (·.1)
  if l = [] then 0 else l.sum * 2520 / l.length

/-- Source class 0xD and the rail term (R285, R290). Over a set-point of 0 the quotient has no value: it is free (log
entry 2). -/
def State.deliver (s : State) : State :=
  let tot := (allClusters.map (fun c => if s.withdrawn c then s.pcOf c else pcUnit * s.estOf c)).sum
  let chip := min (divNearest (tot + pcUnit * s.f F.PRED_UNCORE_UNCORE : Nat) pcUnit).toNat 65535
  let s := ((s.setf F.PRED_CHIP_EST 0 chip).telem 0x2A000000 chip).post 0xD000 chip
  let d : Int := (tot : Int) - (allClusters.map (fun c => s.pcOf c)).sum
  let v := s.f F.RAILr_SETPT_SETPT 0
  let i : State × Int :=
    if !s.welt.en then (s, 0)
    else if d = 0 then (s, 0)
    else if v = 0 then (s.usedFree, (s.freeVal 16).toInt)
    else (s, divNearest (d * 500 * s.f F.PRED_CTRL_PRED_FF_K) (pcUnit * v))
  i.1.setPred { i.1.lasts.pred with ipred := i.2 }

/-- Keep the sums of the estimates issued at a 1 µs boundary for the residual checks (R286). -/
def State.keepEst (s : State) (us : Nat) : State :=
  let s := allClusters.foldl (fun s c =>
    let k := s.predClu c
    s.setPredClu c { k with est := ((us, s.estOf c) :: k.est).take 4 }) s
  let p := s.lasts.pred
  s.setPred { p with est := ((us, (allClusters.map (fun c => s.estOf c)).sum) :: p.est).take 4 }

/-- The release of SET_HOLD takes effect (R292). -/
def State.releaseSets (s : State) : State :=
  let p := s.lasts.pred
  if p.releaseAt then s.setPred { p with held := none, releaseAt := false } else s

/-- The estimate and the counters of the traced core (R495). -/
def State.tracePred (s : State) (n : Nat) : State :=
  if s.coreOn n then
    let x := s.predCore n
    let w := x.wins.getD 0 []
    let s := s.trace 5 0 n (s.f F.PREDn_EST_EST n)
    s.traceMany 14 ((List.range 8).map (fun g =>
      (g, n, x.q, some ((List.range 8).map (fun i => w.getD (8 * g + i) 0 * 2 ^ (10 * i))).sum)))
  else s

/-- PREDICTOR_EVAL: the evaluation of a 250 ns boundary, up to 100 ns after it (R284). `intents` gives for each core the
cycles still to run of its running tile and the nominal core period in ps; an unlisted core has none and 500. -/
def execPredictorEval (intents : List (Nat × Nat × Nat)) (s : State) : Host.Outcome State Fault Refusal :=
  let m := s.predIdx
  .next (if s.predOn && s.started && decide (s.now.toNat % 250 ≤ 100)
      && decide (Tab.get 0 s.served (servedKey 12 0) ≠ m + 1) then
    let s := { s with served := Tab.set 0 s.served (servedKey 12 0) (m + 1) }
    let s := s.releaseSets
    let s := allCores.foldl (fun s n =>
      if s.coreOn n then
        let i := Tab.get (0, 500) intents n
        s.estimate n m (s.intentQ n i.1 i.2)
      else s.estimateOff n) s
    let s := s.tracePred (s.f F.TRC_SEL_CORE)
    let s := if m % 4 = 3 then allCores.foldl (fun s n =>
        s.setClick n { s.click n with forecast := 8 * s.f F.PREDn_EST_EST n })
          (s.setPred { s.lasts.pred with fcAt := some (m / 4) })
      else s
    let s := if m % 4 = 0 then s.keepEst (m / 4) else s
    s.deliver
  else s)

/-! ### Residual and shadow checks (R286 to R290) -/

/-- An entry to fallback or withdrawal is counted, logged with its cause and reported (R286, R290). -/
def State.predFall (s : State) (unit : Nat) : State :=
  let s := s.setPred { s.lasts.pred with retrim := none }
  ((s.incf F.PRED_COUNT_FALLBACKS 0).log 0x3901 unit 0).fault 0x53 unit

/-- RES_PERSIST: 0 acts as 1. -/
def State.resPersist (s : State) : Nat := max 1 (s.f F.PRED_RES_RES_PERSIST)

/-- The cluster was ON with the Welts enabled throughout the last 2 µs (R286). -/
def State.clusterChecked (s : State) (c : Nat) : Bool :=
  let k := s.predClu c
  s.clusterOn c && s.welt.en && k.pw.length == 20 && k.pw.all (·.2)

/-- The outcome of a cluster's check (R286, R290): sums of 20 E and 20 M. -/
def State.clusterRun (s : State) (c : Nat) (trip : Bool) : State :=
  let k := s.predClu c
  if !trip then s.setPredClu c { k with run := 0 }
  else
    let s := (s.setf F.PREDCc_STATUS_RES_TRIP c 1).incf F.PRED_COUNT_RES_TRIPS 0
    if k.run + 1 < s.resPersist then s.setPredClu c { k with run := k.run + 1 }
    else
      let s := s.setPredClu c { k with run := 0 }
      if !s.on F.PREDCc_STATUS_FALLBACK c then (s.setf F.PREDCc_STATUS_FALLBACK c 1).predFall c
      else if !s.on F.PREDCc_STATUS_WITHDRAWN c then (s.setf F.PREDCc_STATUS_WITHDRAWN c 1).predFall c
      else s

/-- The check of one cluster at the boundary `us` (R286): 20 E_c and 20 M_c in 1/8,000 of a power code. -/
def State.checkCluster (s : State) (us c : Nat) : State :=
  let k := s.predClu c
  match k.est.find? (fun e => e.1 + 2 = us) with
  | none => s
  | some e =>
    let m20 := (k.pw.map (·.1)).sum
    let d : Int := (160000 * e.2 : Int) - m20
    let s := s.setfiSat F.PREDCc_STATUS_RESIDUAL c (divNearest d 160000)
    let s := s.trace 5 1 c (ofSigned 32 (s.fi F.PREDCc_STATUS_RESIDUAL c))
    let s := s.setPredClu c { k with sumE := k.sumE + 160000 * e.2, sumM := k.sumM + m20 }
    s.clusterRun c (decide (max (s.f F.PRED_RES_RES_ABS * 163840000) (s.f F.PRED_RES_RES_THR * m20) < d.natAbs * 256))

/-- The outcome of the chip check (R286, R290). -/
def State.chipRun (s : State) (trip : Bool) : State :=
  let p := { s.lasts.pred with calm := if trip then none else some (s.lasts.pred.calm.getD s.now) }
  if !trip then s.setPred { p with run := 0 }
  else
    let s := s.incf F.PRED_COUNT_RES_TRIPS 0
    if p.run + 1 < s.resPersist then s.setPred { p with run := p.run + 1 }
    else
      let s := s.setPred { p with run := 0 }
      let st := s.f F.PRED_STATUS_STATE
      if st = 1 then (s.setf F.PRED_STATUS_STATE 0 2).predFall 0x7FFF
      else if st = 2 then (s.setf F.PRED_STATUS_STATE 0 3).predFall 0x7FFF
      else s

/-- The chip check at the boundary `us` over `n` checked clusters (R286). -/
def State.checkChip (s : State) (us n : Nat) : State :=
  let p := s.lasts.pred
  match p.est.find? (fun e => e.1 + 2 = us), p.chip.find? (fun e => e.1 + 2 = us), p.chip.find? (fun e => e.1 = us) with
  | some e, some a, some b =>
    let num := b.2.2 - a.2.2
    let v : SrcVal := Tab.get {} s.loop.src 0x4000
    let m : Int × Nat := if num = 0 then (v.v, 1) else (b.2.1 - a.2.1, num)
    let d : Int := ((e.2 + s.f F.PRED_UNCORE_UNCORE : Nat) : Int) * m.2 - m.1
    let s := s.setfiSat F.PRED_CHIP_RESIDUAL 0 (divNearest d m.2)
    s.chipRun (decide (max ((s.f F.PRED_RES_RES_ABS * 1024 * n * m.2 : Nat) : Int) (s.f F.PRED_RES_RES_THR * m.1)
      < d.natAbs * 256))
  | _, _, _ => s

/-- RESIDUAL_CHECK: the checks of a 1 µs boundary, none while the clamp or safe state is asserted and for 2 µs after
(R286, R287). -/
def execResidualCheck (s : State) : Host.Outcome State Fault Refusal :=
  .next (if s.predOn && s.due 13 0 1000 0 then
    let s := s.serve 13 0
    let us := s.now.toNat / 1000
    let p := s.lasts.pred
    let v : SrcVal := Tab.get {} s.loop.src 0x4000
    let s := s.setPred { p with chip := ((us, v.sum, v.n) :: p.chip).take 4 }
    let quiet := match p.heldAt with
      | none => true
      | some t => s.passed t 2000
    if s.outHeld || !quiet then s
    else
      let l := allClusters.filter (fun c => s.clusterChecked c)
      let s := l.foldl (fun s c => s.checkCluster us c) s
      s.checkChip us l.length
  else s)

/-- EST_n or EST_s of the shadow check, not held to PMAX (R288). -/
def State.shadowEst (s : State) (set_ : Nat) (x : PredCore) (shadow : Bool) : Int :=
  let shs := getBits (s.setWord R.PREDSs_LINCFG set_) 8 8
  let sums := fun (j : Nat) =>
    if shadow then
      2 ^ shs * ((List.range 64).map (fun i => s.shadowWeight set_ (64 * j + i) * (x.x i : Int))).sum
    else ((List.range 4).map (fun k => s.bank set_ x j k)).sum
  max 0 (divNearest (s.narrowNum set_ x.q (if shadow then 136 else 128) [sums 0, sums 1]) (2 ^ 29))

/-- A shadow failure of a set (R288). -/
def State.shadowFail (s : State) (n set_ : Nat) : State :=
  let p := s.lasts.pred
  let last := Tab.get 0 p.suspect set_
  let s := s.incf F.PRED_COUNT_SHD_FAILS 0
  let second := decide (last ≠ 0) && decide (s.epoch + 1 ≤ last + Config.coreCount)
  let s := s.setPred { s.lasts.pred with suspect := Tab.set 0 p.suspect set_ (s.epoch + 1) }
  let s := s.log 0x3901 (clusterOf n) 1
  if second then
    let s := if s.bitf F.PRED_STATUS_SET_LIN 0 set_ then s
      else (s.setPred { s.lasts.pred with retrim := none }).incf F.PRED_COUNT_FALLBACKS 0
    s.setBitf F.PRED_STATUS_SET_LIN 0 set_ true
  else s

/-- SHADOW_CHECK: the shadow unit checks the next core whose domain is ON (R288). -/
def execShadowCheck (s : State) : Host.Outcome State Fault Refusal :=
  .next (if s.predOn && s.due 14 0 1000 0 then
    let s := s.serve 14 0
    let first := s.lasts.pred.next
    match ((List.range Config.coreCount).map (fun i => (first + i) % Config.coreCount)).find? (fun n => s.coreOn n) with
    | none => s
    | some n =>
      let s := s.setPred { s.lasts.pred with next := (n + 1) % Config.coreCount }
      let set_ := s.f F.PREDn_CFG_SET n
      let x := s.predCore n
      let en := s.shadowEst set_ x false
      let es := s.shadowEst set_ x true
      let s := (s.setf F.PRED_SHADOW_CORE 0 n).setfiSat F.PRED_SHADOW_DEV 0 (es - en)
      if (s.f F.PRED_RES_SHD_THR : Int) * max es 16 < (es - en).natAbs * 256 then s.shadowFail n set_ else s
  else s)

/-! ### Control (R291, R292, R295) -/

/-- The resume of R291. -/
def State.predResume (s : State) : State :=
  let s := s.setf F.PRED_STATUS_SET_LIN 0 0
  let s := (List.range 64).foldl (fun s c =>
    (s.setf F.PREDCc_STATUS_FALLBACK c 0).setf F.PREDCc_STATUS_WITHDRAWN c 0) s
  let p := s.lasts.pred
  (s.setPred { p with run := 0, suspect := [], clus := p.clus.map (fun e => (e.1, { e.2 with run := 0 })) }).setf
    F.PRED_STATUS_STATE 0 1

/-- A write of PRED_RESUME (R291). -/
def writePredResume (w : Word) (s : State) : State × Bool :=
  let s := s.setf F.PRED_RESUME_GO 0 (getBits w 0 1)
  (if w.getLsbD 0 then
    (if s.on F.PRED_CTRL_FORCE_LIN || !s.on F.PRED_CTRL_EN then s.setf F.PRED_RESUME_STATUS 0 3
    else s.predResume.setf F.PRED_RESUME_STATUS 0 2)
  else s, false)

/-- PRED_RESUME_GO: a CFG write of 1 to PRED_RESUME (R291). -/
def execPredResumeGo (priv : Bool) (s : State) : Host.Outcome State Fault Refusal :=
  .next (s.cfgWrite priv R.PRED_RESUME 0 (writePredResume 1))

/-- The words of the weight sets that differ from reset, by offset. -/
def State.setContents (s : State) : Tab Word := s.regs.filter (fun e => decide (0x64000 ≤ e.1) && decide (e.1 < 0x66000))

/-- EN of the predictor changes (R284, R292). -/
def State.predEn (s : State) (en : Bool) : State :=
  let p := s.lasts.pred
  let p := { p with cores := p.cores.map (fun e => (e.1, { e.2 with fresh := true, wins := [], got := none })), est := [],
                    chip := [], run := 0, ipred := 0, calm := none, retrim := none, fcAt := none,
                    clus := p.clus.map (fun (e : Nat × PredClu) => (e.1, { e.2 with est := [], run := 0 })) }
  let s := (s.setPred p).clrAll R.PREDn_EST
  s.setf F.PRED_STATUS_STATE 0 (if en then 1 else 0)

/-- A write of PRED_CTRL (R292). -/
def writePredCtrl (by_ : Writer) (w : Word) (s : State) : State × Bool :=
  let en := s.on F.PRED_CTRL_EN
  let hold := s.on F.PRED_CTRL_SET_HOLD
  let q := writeReg s by_ R.PRED_CTRL 0 w
  let s := q.1
  let p := s.lasts.pred
  let s := if !hold ∧ s.on F.PRED_CTRL_SET_HOLD then s.setPred { p with held := some s.setContents, releaseAt := false }
    else if hold ∧ !s.on F.PRED_CTRL_SET_HOLD then s.setPred { p with releaseAt := true }
    else s
  (if s.on F.PRED_CTRL_EN = en then s else s.predEn (!en), q.2)

/-- PRED_SET_HOLD: a CFG write of PRED_CTRL (R292). -/
def execPredSetHold (priv : Bool) (w : Word) (s : State) : Host.Outcome State Fault Refusal :=
  .next (s.cfgWrite priv R.PRED_CTRL 0 (writePredCtrl .cfg w))

/-- A write of PREDSs_GAIN: the value is the calibrated one (R295). -/
def writePredGain (set_ : Nat) (by_ : Writer) (w : Word) (s : State) : State × Bool :=
  let q := writeReg s by_ R.PREDSs_GAIN set_ w
  let p := q.1.lasts.pred
  (q.1.setPred { p with cal := Tab.set 0x8000 p.cal set_ (q.1.f F.PREDSs_GAIN_GAIN set_) }, q.2)

/-- The clusters that have a core of the set. -/
def State.clustersOfSet (s : State) (set_ : Nat) : List Nat :=
  allClusters.filter (fun c => (coresOf c).any (fun n => s.f F.PREDn_CFG_SET n == set_))

/-- The trim of one set (R295). -/
def State.trimSet (s : State) (set_ : Nat) : State :=
  let cs := s.clustersOfSet set_
  let e := (cs.map (fun c => (s.predClu c).sumE)).sum
  let m := (cs.map (fun c => (s.predClu c).sumM)).sum
  let old : Int := s.f F.PREDSs_GAIN_GAIN set_
  let cal : Int := (Tab.get 0x8000 s.lasts.pred.cal set_ : Nat)
  if e = 0 then s
  else
    let want := divNearest (old * m) e
    let lo := max 0 (cal - 2048)
    let hi := min 65535 (cal + 2048)
    let new := clampInt lo hi (old + clampInt (-32) 32 (want - old))
    let s := s.setf F.PREDSs_GAIN_GAIN set_ new.toNat
    if new ≠ old ∧ (new = cal - 2048 ∨ new = cal + 2048) then s.log 0x3902 (cs.headD 0x7FFF) 0 else s

/-- The limits of a set's GAIN (R295). -/
def State.gainLimits (s : State) (set_ : Nat) : Nat × Nat :=
  let cal : Nat := Tab.get 0x8000 s.lasts.pred.cal set_
  (cal - 2048, min 65535 (cal + 2048))

/-- A set's GAIN stands at a trim limit (R295). -/
def State.atLimit (s : State) (set_ : Nat) : Bool :=
  let g := s.f F.PREDSs_GAIN_GAIN set_
  g == (s.gainLimits set_).1 || g == (s.gainLimits set_).2

/-- The sets that a fallback affects: those with SET_LIN, those of clusters in FALLBACK, and every set in use while STATE is
FALLBACK or WITHDRAWN (R288 to R291). -/
def State.affectedSets (s : State) : List Nat :=
  (List.range 16).filter (fun k => s.bitf F.PRED_STATUS_SET_LIN 0 k
    || (s.clustersOfSet k).any (fun c => s.on F.PREDCc_STATUS_FALLBACK c)
    || (decide (2 ≤ s.f F.PRED_STATUS_STATE) && !(s.clustersOfSet k).isEmpty))

/-- The conditions under which the firmware resumes the predictor: after the fallback every affected set trimmed within its
limits, and for the 100 ms after that the chip residual below its threshold (R291, R295). -/
def State.resumeReady (s : State) : Bool :=
  s.on F.PRED_CTRL_EN && !s.on F.PRED_CTRL_FORCE_LIN && s.affectedSets.all (fun k => !s.atLimit k)
  && (match s.lasts.pred.retrim, s.lasts.pred.calm with
    | some t, some u => s.passed t 100000000 && decide (s.since t ≤ s.since u)
    | _, _ => false)

/-- PRED_GAIN_TRIM: every 1 ms the firmware trims the GAIN of each set, and notes when every affected set stands within
its limits (R295). -/
def execPredGainTrim (s : State) : Host.Outcome State Fault Refusal :=
  .next (if s.predOn && s.eye.fw.running && s.due 15 0 1000000 0 then
    let s := s.serve 15 0
    let s := (List.range 16).foldl State.trimSet s
    let p := s.lasts.pred
    let within := s.affectedSets.all (fun k => !s.atLimit k)
    s.setPred { p with clus := p.clus.map (fun e => (e.1, { e.2 with sumE := 0, sumM := 0 })),
                       retrim := if within then some (p.retrim.getD s.now) else none }
  else s)

end Sys2Proof.Machine
end

