-- ==== Sys2Proof/Machine/LaceOps.lean ====
section
/-! DEFINITION. Messages and frames of the Lace ring (R409 to R415) and their sending. -/
namespace Sys2Proof.Machine
open Sys2Proof

/-- A port: 0 east, 1 west. -/
def State.port (s : State) (p : Nat) : PortSt := Tab.get {} s.lace.ports p
def State.setPort (s : State) (p : Nat) (x : PortSt) : State :=
  { s with lace := { s.lace with ports := Tab.set {} s.lace.ports p x } }

/-- STATE of a port: 0 DOWN, 1 TRAIN, 2 HELLO, 3 UP, 4 FENCED. -/
def State.portSt (s : State) (p : Nat) : Nat := s.f F.LACE_PORTp_STATUS_STATE p
def State.portUp (s : State) (p : Nat) : Bool := s.portSt p == 3

/-- The Lace island operates (R56, R436). -/
def State.laceOn (s : State) : Bool := Config.laceEnable && s.vgov && s.domRuns 0x462

/-- Own site; acting as head; own site in the latest MEMBERS. -/
def State.site (s : State) : Nat := s.f F.LACE_ID_SITE
def State.isHead (s : State) : Bool := s.on F.LACE_ID_IS_HEAD
def State.isMember (s : State) : Bool := s.on F.LACE_ID_MEMBER

/-- One bit of the frame CRC: polynomial 0x1021, most significant bit first (R410). -/
def crc16Bit (c : BitVec 16) : BitVec 16 := if c.getLsbD 15 then (c <<< 1) ^^^ 0x1021 else c <<< 1

/-- One byte of the frame CRC. -/
def crc16Byte (c : BitVec 16) (b : Byte) : BitVec 16 :=
  let x := c ^^^ (b.setWidth 16 <<< 8)
  crc16Bit (crc16Bit (crc16Bit (crc16Bit (crc16Bit (crc16Bit (crc16Bit (crc16Bit x)))))))

/-- The frame CRC (R410). -/
def crc16 (l : List Byte) : BitVec 16 := l.foldl crc16Byte 0xFFFF

/-- The five data bytes of a frame on lane 0 or 1 of its direction (R409). -/
def LaceFrame.laneBytes (f : LaceFrame) (lane : Nat) : List Byte :=
  (List.range 4).map (fun k => (f.payload >>> (16 * k + 8 * (lane % 2))).setWidth 8)
    ++ [(f.crc >>> (8 - 8 * (lane % 2))).setWidth 8]

/-- The payload of frame `k` of a message on a ring (R411). -/
def framePayload (m : LaceMsg) (ringW first : Bool) (body : Nat) : Word64 :=
  BitVec.ofNat 64 (m.typ % 16 * 2 ^ 60 + m.src % 64 * 2 ^ 54 + m.dst % 64 * 2 ^ 48 + m.hops % 64 * 2 ^ 42
    + (if m.bcast then 2 ^ 41 else 0) + (if ringW then 2 ^ 40 else 0) + (if first then 2 ^ 39 else 0)
    + m.mseq % 128 * 2 ^ 32 + body % 2 ^ 32)

/-- The frames of a message on port `p`, ring W or E (R409 to R412). -/
def laceFrames (m : LaceMsg) (p : Nat) (ringW : Bool) : List LaceFrame :=
  (m.body.zipIdx).map (fun e =>
    let w := framePayload m ringW (e.2 == 0) e.1
    { port := p, payload := w, crc := crc16 (leBytes 8 w.toNat) })

/-- The frames of one copy as received: payloads in order; none where they do not make one message (R411, R412). -/
def parseMsg (l : List Word64) : Option (LaceMsg × Bool) :=
  match l with
  | [] => none
  | w :: r =>
    let v := w.toNat
    let head := v / 2 ^ 32 % 2 ^ 7 + v / 2 ^ 41 * 2 ^ 7
    if w.getLsbD 39 && r.all (fun x => !x.getLsbD 39 && decide (x.toNat / 2 ^ 32 % 2 ^ 7 + x.toNat / 2 ^ 41 * 2 ^ 7 = head)) then
      some ({ typ := v / 2 ^ 60, src := v / 2 ^ 54 % 64, dst := v / 2 ^ 48 % 64, hops := v / 2 ^ 42 % 64,
              bcast := w.getLsbD 41, mseq := v / 2 ^ 32 % 128, body := l.map (fun x => x.toNat % 2 ^ 32) },
            w.getLsbD 40)
    else none

/-- The number of frames a type has (R414): none for a reserved type; RELAY messages carry their page words. -/
def msgLength (m : LaceMsg) : Option Nat :=
  match m.typ with
  | 1 | 2 | 3 | 7 | 8 | 9 => some 1
  | 4 | 5 => some 3
  | 6 | 10 => some 2
  | 11 | 12 => some (3 + divUp (m.body.getD 2 0) 4)
  | _ => none

/-- A message goes to the neighbour only (R414). -/
def neighbourOnly (t : Nat) : Bool := decide (1 ≤ t) && decide (t ≤ 3)

/-- Send an own message: one copy on each ring, ring E by the east port and ring W by the west port; a wrapped governor
sends both copies by the port that is UP (R412, R415). -/
def State.laceSend (s : State) (m : LaceMsg) : State :=
  let m := { m with src := s.site, hops := 0, mseq := s.lace.mseq }
  let via := fun (p : Nat) => if s.portUp p then some p else if s.portUp (1 - p) then some (1 - p) else none
  let copy := fun (p : Nat) (ringW : Bool) => match via p with
    | some q => laceFrames m q ringW
    | none => []
  let fs := copy 0 false ++ copy 1 true
  if fs = [] then s else { s with lace := { s.lace with mseq := (s.lace.mseq + 1) % 128, out := fs } }

/-- Send a further message in the same command: its frames follow those of the others. -/
def State.laceSendAlso (s : State) (m : LaceMsg) : State :=
  let before := s.lace.out
  let s := { s with lace := { s.lace with out := [] } }
  let s := s.laceSend m
  { s with lace := { s.lace with out := before ++ s.lace.out } }

/-- Post a PEER notice (R419). -/
def State.peer (s : State) (site code : Nat) : State := s.notice 9 site code

/-- ALIGNED clears (R425). -/
def State.clearAligned (s : State) : State :=
  let s := { s with lace := { s.lace with alignRun := 0 } }
  if s.on F.LACE_TIME_ALIGNED then (s.setf F.LACE_TIME_ALIGNED 0 0).peer s.site 0x07 else s

/-- Send a message to the neighbour of a port (R414). -/
def State.laceSendPort (s : State) (p : Nat) (m : LaceMsg) : State :=
  let m := { m with src := s.site, hops := 0, mseq := s.lace.mseq }
  { s with lace := { s.lace with mseq := (s.lace.mseq + 1) % 128, out := laceFrames m p (p == 1) } }

end Sys2Proof.Machine
end

