-- ==== Sys2Proof/Machine/Thermal.lean ====
section
/-! DEFINITION. Heat through the memory layers (spec chapter 08): sensors, zones, levels, rates, refresh doubling,
backstops, the column model and the collective window. Temperatures are in 1/16 °C (R4). -/
namespace Sys2Proof.Machine
open Sys2Proof

/-! ### Sensors (R296 to R305) -/

/-- A sensor address (R296). -/
def sensAddr (layer unit pos : Nat) : Nat := 8192 * layer + 8 * unit + pos

/-- Units of a layer, and sensors of a unit (R53, R296). -/
def layerUnits (layer : Nat) : List Nat := List.range (if layer = 2 then Config.edgeStacks else Config.coreCount)
def layerPos (layer : Nat) : Nat := if layer = 0 then Config.logicSpc else if layer = 1 then Config.memSpc else 8
def unitSensors (layer unit : Nat) : List Nat := (List.range (layerPos layer)).map (fun p => sensAddr layer unit p)

/-- A sensor address names a present sensor. -/
def sensPresent (a : Nat) : Bool :=
  let layer := a / 8192
  decide (layer < 3) && decide (a / 8 % 1024 < (layerUnits layer).length) && decide (a % 8 < layerPos layer)

/-- A sensor's neighbours: the others of its unit, and the same position in the adjacent cores of its cluster (R302). -/
def neighbours (a : Nat) : List Nat :=
  let layer := a / 8192
  let unit := a / 8 % 1024
  let pos := a % 8
  let own := (unitSensors layer unit).filter (fun b => decide (b ≠ a))
  if layer = 2 then own
  else
    own ++ (if unit % 16 ≠ 0 then [sensAddr layer (unit - 1) pos] else [])
      ++ (if unit % 16 ≠ 15 then [sensAddr layer (unit + 1) pos] else [])

/-- A sensor. -/
def State.sens (s : State) (a : Nat) : SensSt := Tab.get {} s.thm.sens a
def State.setSens (s : State) (a : Nat) (x : SensSt) : State :=
  { s with thm := { s.thm with sens := Tab.set {} s.thm.sens a x } }

/-- A zone: key 1,024 x layer + unit. -/
def State.zone (s : State) (layer unit : Nat) : ZoneSt := Tab.get {} s.thm.zones (1024 * layer + unit)
def State.setZone (s : State) (layer unit : Nat) (x : ZoneSt) : State :=
  { s with thm := { s.thm with zones := Tab.set {} s.thm.zones (1024 * layer + unit) x } }

/-- The sensors of a unit are sampled: logic only while the core's domain is ON (R299). -/
def State.unitSampled (s : State) (layer unit : Nat) : Bool := decide (layer ≠ 0) || s.coreOn unit

/-- The sensor is fenced: it is held broken (R441). -/
def State.sensFenced (s : State) (a : Nat) : Bool := Tab.get false s.flt.fencedSensors a

/-- A reading: address, temperature, sequence count (R298). -/
abbrev Reading := Nat × Int × Nat

/-- The reading of a sensor at this instant, unless it is missing: not delivered, or its count has not advanced
(R298). -/
def State.present (s : State) (l : List Reading) (a : Nat) : Option (Int × Nat) :=
  match l.find? (fun r => r.1 = a) with
  | none => none
  | some r => match (s.sens a).last with
    | none => some r.2
    | some o => if o.2 = r.2.2 then none else some r.2

/-- The sensor enters the sample healthy (R305). -/
def State.healthyBefore (s : State) (a : Nat) : Bool :=
  let x := s.sens a
  !s.sensFenced a && (!x.broken || x.unbreak)

/-- Twice the median of readings; an even number takes the mean of the middle two. -/
def median2 (l : List Int) : Int :=
  let m := l.mergeSort (fun a b => decide (a ≤ b))
  m.getD (m.length / 2) 0 + m.getD ((m.length - 1) / 2) 0

/-- The state of a sensor returned to healthy (R305). -/
def SensSt.mended (x : SensSt) : SensSt :=
  { x with broken := false, unbreak := false, cause := 0, same := 0, missing := 0, dev := 0, crit := 0 }

/-- The runs of a sensor's own readings after a sample: identical, missing (R302). -/
def SensSt.ownRuns (x : SensSt) (r : Option (Int × Nat)) : SensSt :=
  match r with
  | none => { x with missing := x.missing + 1 }
  | some v =>
    let same := match x.last with
      | some o => if o.1 = v.1 then x.same + 1 else 1
      | none => 1
    { x with last := some v, missing := 0, same := same }

/-- The condition of R302 that a sensor's own readings meet after their runs: 1 STUCK, 2 RANGE, 3 HEARTBEAT, 0 none. -/
def State.ownCause (s : State) (x : SensSt) (r : Option (Int × Nat)) : Nat :=
  match r with
  | some v =>
    if max 16 (s.f F.THM_BROKEN_STUCK_N) ≤ x.same then 1
    else if v.1 < -640 ∨ 2400 < v.1 then 2
    else 0
  | none => if 3 ≤ x.missing then 3 else 0

/-- The sensor is healthy at this sample: its own readings do not break it (R306). A sensor that breaks by its neighbours
at the sample still counts for theirs (log entry 130). -/
def State.healthyAt (s : State) (l : List Reading) (a : Nat) : Bool :=
  let x := s.sens a
  let x := if x.broken then x.mended else x
  let r := s.present l a
  s.healthyBefore a && s.ownCause (x.ownRuns r) r == 0

/-- The readings of a sensor's neighbours that are healthy at this sample: this instant's, else the last. -/
def State.neighbourValues (s : State) (l : List Reading) (a : Nat) : List Int :=
  ((neighbours a).filter (fun b => s.healthyAt l b && s.unitSampled (b / 8192) (b / 8 % 1024))).filterMap (fun b =>
    match s.present l b with
    | some r => some r.1
    | none => (s.sens b).last.map (·.1))

/-- The threshold that a broken sensor's replacement value stands 5 °C above (R303). -/
def State.thrOf (s : State) (layer : Nat) : Int :=
  16 * (if layer = 0 then s.f F.THM_LOGIC_LVL_THROTTLE else s.f F.THM_MEM_LVL_NORMAL)

/-- CRIT of a layer. -/
def State.critOf (s : State) (layer : Nat) : Int :=
  16 * (if layer = 0 then s.f F.THM_LOGIC_LVL_CRIT else s.f F.THM_MEM_LVL_CRIT)

/-- The condition of R302 that a healthy sensor meets, 0 none, from its runs. -/
def State.brokenCause (s : State) (x : SensSt) (r : Option (Int × Nat)) : Nat :=
  match s.ownCause x r with
  | 0 => if r.isSome && decide (3 ≤ x.dev) then 4 else 0
  | k => k

/-- The runs of a sensor after a sample (R302, R309). -/
def State.countRuns (s : State) (l : List Reading) (a : Nat) (x : SensSt) (r : Option (Int × Nat)) : SensSt :=
  match r with
  | none => x.ownRuns r
  | some v =>
    let nb := s.neighbourValues l a
    let far := decide (2 ≤ nb.length) && decide (2 * (16 * (s.f F.THM_BROKEN_DEV_C : Int)) < ((2 * v.1 - median2 nb).natAbs : Int))
    { x.ownRuns r with
             dev := if far then x.dev + 1 else 0,
             crit := if s.critOf (a / 8192) ≤ v.1 then x.crit + 1 else 0 }

/-- One sampled sensor is judged (R302, R305, R441). -/
def State.judge (s : State) (l : List Reading) (a : Nat) : SensSt :=
  let x := { s.sens a with sampled := true }
  let r := s.present l a
  if s.sensFenced a then { x with broken := true, unbreak := false, last := match r with
      | some v => some v
      | none => x.last }
  else
    let x := if x.broken ∧ x.unbreak then x.mended else x
    if x.broken then { x with last := match r with
        | some v => some v
        | none => x.last }
    else
      let x := s.countRuns l a x r
      let c := s.brokenCause x r
      if c = 0 then x else { x with broken := true, cause := c, crit := 0 }

/-- The replacement value of a broken sensor (R303, R304), from the sensors as judged. -/
def State.replacement (s : State) (a : Nat) : Int :=
  let d := s.thrOf (a / 8192) + 80
  if (s.sens a).subst then
    match ((neighbours a).filter (fun b => !(s.sens b).broken && (s.sens b).sampled)).filterMap
        (fun b => (s.sens b).last.map (·.1)) with
    | [] => d
    | v :: vs => vs.foldl max v + 16 * max 8 (s.f F.THM_BROKEN_PENALTY)
  else d

/-- Take the readings of a layer: every sampled sensor is judged, then the readings in use are formed (R300, R306). -/
def State.takeReadings (s : State) (layer : Nat) (l : List Reading) : State :=
  let units := layerUnits layer
  let all := units.flatMap (fun u => unitSensors layer u)
  let on := (units.filter (fun u => s.unitSampled layer u)).flatMap (fun u => unitSensors layer u)
  let judged := on.map (fun a => (a, s.judge l a))
  let newly := (judged.filter (fun e => e.2.broken && s.healthyBefore e.1)).map (·.1)
  let crit := (judged.filter (fun e => e.2.crit == 2 && !e.2.broken)).map (·.1)
  let s := all.foldl (fun s a => if (s.sens a).sampled then s.setSens a { s.sens a with sampled := false } else s) s
  let s := judged.foldl (fun s e => s.setSens e.1 e.2) s
  let s := on.foldl (fun s a =>
    let x := s.sens a
    s.setSens a { x with use := if x.broken then s.replacement a else (x.last.map (·.1)).getD 0 }) s
  let s := s.setf F.THM_NBROKEN_N_BROKEN 0 (s.thm.sens.filter (fun e => e.2.broken)).length
  let s := newly.foldl (fun s a => s.fault 0x60 a) s
  crit.foldl (fun s a => (s.setf F.THM_STATUS_CRIT_SEEN 0 1).fault 0x01 a) s

/-! ### Zones, levels and rates (R300, R307 to R311) -/

/-- The thresholds of a layer's levels, the last CRITICAL (R307). -/
def State.levels (s : State) (layer : Nat) : List Int :=
  if layer = 0 then
    [16 * (s.f F.THM_LOGIC_LVL_WARN : Int), 16 * (s.f F.THM_LOGIC_LVL_THROTTLE : Int), s.critOf 0]
  else
    [16 * (s.f F.THM_MEM_LVL_NORMAL : Int), 16 * (s.f F.THM_MEM_LVL_EXTENDED : Int),
     16 * ((s.f F.THM_MEM_LVL_HARD : Int) - s.f F.THM_HYST_HARD_GUARD), s.critOf layer]

/-- The highest level that is met, of the levels up to `n`; `hv` counts for the last level of the list. -/
def levelMet (thr : List Int) (n : Nat) (v : Int) (hv : Option Int) (hyst : Int) : Nat :=
  match n with
  | 0 => 0
  | k + 1 =>
    let t := thr.getD k 0 - hyst
    if (if k + 1 = thr.length then (match hv with
        | some h => decide (t ≤ h)
        | none => false) else decide (t ≤ v)) then k + 1
    else levelMet thr k v hv hyst

/-- The level after a sample (R307, R308). -/
def zoneLevel (thr : List Int) (cur : Nat) (v hv : Option Int) (hyst : Int) : Nat :=
  match v with
  | none => 0
  | some x => max (levelMet thr thr.length x hv 0) (levelMet thr cur x hv hyst)

/-- The rate in 1/4 °C/ms from the five latest values, newest first (R310). -/
def zoneRate (layer : Nat) (h : List (Option Int)) : Int :=
  match h with
  | [some t4, some t3, some _, some t1, some t0] =>
    let n := 2 * t4 + t3 - t1 - 2 * t0
    if layer = 0 then divTrunc (5 * n) 4 else divTrunc n 4
  | _ => 0

/-- The greatest of a list, none when empty. -/
def maxOf (l : List Int) : Option Int :=
  match l with
  | [] => none
  | v :: vs => some (vs.foldl max v)

/-- The zone value, and the value from healthy sensors only (R300, R310). A healthy sensor that has never delivered a
reading has none in use. -/
def State.zoneValues (s : State) (layer unit : Nat) : Option Int × Option Int :=
  let l := (unitSensors layer unit).map (fun a => s.sens a)
  let live := l.filter (fun x => x.sampled && (x.broken || x.last.isSome))
  (maxOf (live.map (·.use)), maxOf ((live.filter (fun x => !x.broken)).map (·.use)))

/-- The unit field of a zone's log entries (R514). -/
def zoneUnit (layer unit : Nat) : Nat :=
  if layer = 0 then unit else if layer = 1 then 0x4000 + unit else 0x7800 + unit

/-- A zone takes its value, level and rate at a sample (R307 to R311, R315). -/
def State.zoneSample (s : State) (layer unit : Nat) : State :=
  let z := s.zone layer unit
  let q := s.zoneValues layer unit
  let lvl := zoneLevel (s.levels layer) z.lvl q.1 q.2 (16 * (s.f F.THM_HYST_HYST : Int))
  let hist := (q.2 :: z.hist).take 5
  let rate := zoneRate layer hist
  let warnAt : Int := if layer = 0 then s.f F.THM_RATE_LOG_WARN else s.f F.THM_RATE_MEM_WARN
  let actAt : Int := if layer = 0 then s.f F.THM_RATE_LOG_ACT else s.f F.THM_RATE_MEM_ACT
  let warn := decide (warnAt ≤ rate)
  let near := match q.1 with
    | some v => decide (s.thrOf layer - 16 * s.f F.THM_BACKSTOP_RATE_BAND ≤ v)
    | none => false
  let act := decide (actAt ≤ rate) && near
  let thr := act || (if layer = 0 then decide (2 ≤ lvl) else decide (1 ≤ lvl))
  let now := some s.now
  let low := match q.1 with
    | some v => decide (v < s.thrOf layer - 16 * ((s.f F.THM_HYST_REF_MARGIN : Int) + s.f F.THM_HYST_REF_HYST))
    | none => false
  let z' : ZoneSt := {
    v := q.1, hist := hist, lvl := lvl, rate := rate, warn := warn,
    thrAt := if thr then now else z.thrAt,
    ovrAt := if decide (layer ≠ 0) && decide (2 ≤ lvl) then now else z.ovrAt,
    hardAt := if decide (layer ≠ 0) && decide (3 ≤ lvl) then now else z.hardAt,
    lowAt := if low then some (z.lowAt.getD s.now) else none }
  let s := s.setZone layer unit z'
  let s := if lvl = z.lvl then s else s.log 0x4001 (zoneUnit layer unit) lvl
  if warn ∧ !z.warn then s.log 0x4002 (zoneUnit layer unit) lvl else s

/-! ### Caps from zones and the window (R315, R322 to R324) -/

/-- The window is OPEN; OPEN or THROTTLED. -/
def State.winOpenNow (s : State) : Bool := s.f F.THM_WIN_STATUS_STATE == 1
def State.winLive (s : State) : Bool := s.f F.THM_WIN_STATUS_STATE == 1 || s.f F.THM_WIN_STATUS_STATE == 2

/-- The core is exempt (R323). -/
def State.exempt (s : State) (n : Nat) : Bool :=
  s.winOpenNow && s.winCrit n && (match (s.zone 1 n).v with
    | some v => decide (v < 16 * (s.f F.THM_MEM_LVL_EXTENDED : Int))
    | none => true)

/-- A sample that called for a backstop holds it now (R315). -/
def State.bsHeld (s : State) (t : Option Word64) : Bool :=
  match t with
  | none => false
  | some t => !s.passed t (10000 * max 1 (s.f F.THM_BACKSTOP_THR_HOLD))

/-- Set a core's exemption and backstops, and its caps (R315, R316, R323). -/
def State.coreCaps (s : State) (n : Nat) : State :=
  let zl := s.zone 0 n
  let zm := s.zone 1 n
  let ex := s.exempt n
  let thr := s.bsHeld zl.thrAt || s.bsHeld zm.ovrAt || (!ex && s.bsHeld zm.thrAt)
  let s := (s.setb F.THMn_STATUS_EXEMPT n ex).setb F.THMn_STATUS_CRIT n (s.winLive && s.winCrit n)
  (s.setb F.THMn_STATUS_BACKSTOP n thr).setb F.THMn_STATUS_HARD_BS n (s.bsHeld zm.hardAt)

/-- The clusters whose non-critical cores take WIN_SKIP (R324). -/
def State.windowClusters (s : State) : State :=
  let hot := fun (c : Nat) => s.winLive && (coresOf c).any (fun n => s.winCrit n && (match (s.zone 1 n).v with
    | some v => decide (16 * (s.f F.THM_MEM_LVL_NORMAL : Int) ≤ v)
    | none => false))
  { s with thm := { s.thm with winCl := allClusters.foldl (fun t c => Tab.set false t c (hot c)) s.thm.winCl } }

/-- Count the cores under a backstop. -/
def State.countBackstops (s : State) : State :=
  s.setf F.THM_STATUS_N_BACKSTOP 0
    (allCores.filter (fun n => s.on F.THMn_STATUS_BACKSTOP n || s.on F.THMn_STATUS_HARD_BS n)).length

/-- Apply every thermal cap (R315, R316, R323, R324). -/
def State.thermalCaps (s : State) : State :=
  ((allCores.foldl State.coreCaps s.windowClusters).countBackstops).applyAllCaps

/-! ### Thermal channels (R300, R301) -/

/-- A channel takes a value, or is marked lost; a value is traced for the channels of R495. -/
def State.channel (s : State) (i : Nat) (v : Option Int) : State :=
  let s := { s with loop := { s.loop with lost := Tab.set false s.loop.lost i v.isNone } }
  let s := if v.isNone then s.markLost else s
  match v with
  | none => s
  | some t =>
    let s := s.post (0x5000 + i) t
    let core := s.f F.TRC_SEL_CORE
    if (0x840 ≤ i ∧ i < 0x940) ∨ i = core ∨ i = 0x400 + core then s.trace 10 0 i (ofSigned 32 t) else s

/-- The greatest zone value of a layer over units. -/
def State.zoneMax (s : State) (layer : Nat) (units : List Nat) : Option Int :=
  maxOf (units.filterMap (fun u => (s.zone layer u).v))

/-- A temperature as 16 bits; a zone without a value shows 0. -/
def temp16 (v : Option Int) : Nat := ofSigned 16 (satSigned 16 (v.getD 0))

/-- Show a core's zone in its registers and channel. -/
def State.showCore (s : State) (layer n : Nat) : State :=
  let z := s.zone layer n
  let warn := (s.zone 0 n).warn || (s.zone 1 n).warn
  let s := s.setb F.THMn_STATUS_RATE_WARN n warn
  if layer = 0 then
    let s := (s.setf F.THMn_ZONE_T_LOGIC n (temp16 z.v)).setf F.THMn_STATUS_LLVL n z.lvl
    let s := (s.setb F.THMn_STATUS_LOST n z.v.isNone).setfiSat F.THMn_STATUS_LRATE n z.rate
    s.channel n z.v
  else
    let s := (s.setf F.THMn_ZONE_T_MEM n (temp16 z.v)).setf F.THMn_STATUS_MLVL n z.lvl
    (s.setfiSat F.THMn_STATUS_MRATE n z.rate).channel (0x400 + n) z.v

/-- Show a layer's maxima. -/
def State.showMax (s : State) (layer : Nat) : State :=
  let s := allClusters.foldl (fun s c =>
    let v := s.zoneMax layer (coresOf c)
    let s := s.setf (if layer = 0 then F.THMCc_MAX_LOGIC_MAX else F.THMCc_MAX_MEM_MAX) c (temp16 v)
    s.channel ((if layer = 0 then 0x840 else 0x880) + c) v) s
  let v := s.zoneMax layer allCores
  let s := s.setf (if layer = 0 then F.THM_CHIP_LOGIC_MAX else F.THM_CHIP_MEM_MAX) 0 (temp16 v)
  let s := s.telem (if layer = 0 then 0x29000001 else 0x29000000) (v.getD 0)
  s.channel (if layer = 0 then 0x8C0 else 0x8C1) v

/-! ### Refresh doubling (R312) -/

/-- The request of a memory or edge zone. -/
def State.refOn (s : State) (layer unit : Nat) : Bool :=
  if layer = 1 then s.on F.THMn_STATUS_REF unit else s.on F.THMEs_ZONE_REF unit
def State.setRef (s : State) (layer unit : Nat) (b : Bool) : State :=
  let s := if layer = 1 then s.setb F.THMn_STATUS_REF unit b else s.setb F.THMEs_ZONE_REF unit b
  s.setf F.THM_STATUS_N_REF 0 ((allCores.filter (fun n => s.on F.THMn_STATUS_REF n)).length
    + ((List.range Config.edgeStacks).filter (fun k => s.on F.THMEs_ZONE_REF k)).length)

/-- At a sample the request is asserted, or withdrawn while REF_EN is 0. -/
def State.refresh (s : State) (layer unit : Nat) : State :=
  if !s.on F.THM_CTRL_REF_EN then (if s.refOn layer unit then s.setRef layer unit false else s)
  else match (s.zone layer unit).v with
    | some v =>
      if s.thrOf layer - 16 * s.f F.THM_HYST_REF_MARGIN ≤ v ∧ !s.refOn layer unit then s.setRef layer unit true else s
    | none => s

/-- REFRESH_RELEASE: the zone has stayed low for REF_HOLD_MS (R312). -/
def execRefreshRelease (layer unit : Nat) (s : State) : Host.Outcome State Fault Refusal :=
  .next (match (s.zone layer unit).lowAt with
  | some t =>
    if s.vgov && (layer == 1 || layer == 2) && decide (unit ∈ layerUnits layer) && s.refOn layer unit
        && s.passed t (1000000 * max 1 (s.f F.THM_REF_REF_HOLD_MS)) then s.setRef layer unit false
    else s
  | none => s)

/-! ### The sample (R297, R319) -/

/-- A column's nodes. -/
def State.col? (s : State) (n : Nat) : Option ColSt := (s.thm.cols.find? (fun e => e.1 = n)).map (·.2)

/-- A node as its register shows it: rounded down (R317). -/
def nodeCode (v : Int) : Nat := ofSigned 16 (satSigned 16 (v / 16))

/-- Keep a column's nodes and show them. -/
def State.putColumn (s : State) (n : Nat) (x : ColSt) : State :=
  let s := { s with thm := { s.thm with cols := Tab.insert s.thm.cols n x } }
  let s := (s.setf F.THMn_MODEL_TM n (nodeCode x.tm)).setf F.THMn_MODEL_TL n (nodeCode x.tl)
  s.setf F.THMn_BOND_TB n (nodeCode x.tb)

/-- A column whose memory zone has a value starts with every node at its T_mem (R317). -/
def State.startColumn (s : State) (n : Nat) : State :=
  match s.col? n, (s.zone 1 n).v with
  | none, some t => s.putColumn n { tl := 16 * t, tb := 16 * t, tm := 16 * t }
  | _, _ => s

/-- A node moves toward its sensor zone (R319). -/
def State.correctColumn (s : State) (layer n : Nat) : State :=
  match s.col? n, (s.zone layer n).v with
  | some x, some t =>
    let set_ := s.f F.THMn_CFG_MSET n
    let k : Int := if layer = 0 then s.f F.THMMs_K_KL set_ else s.f F.THMMs_K_KM set_
    let x := if layer = 0 then { x with tl := x.tl + (16 * t - x.tl) * k / 256 }
      else { x with tm := x.tm + (16 * t - x.tm) * k / 256 }
    s.putColumn n x
  | _, _ => s

/-- THERMAL_SAMPLE: the sample instant of a layer, with the readings that arrive for it (R297, R306, R307). -/
def execThermalSample (layer : Nat) (readings : List (Nat × Int × Nat)) (s : State) : Host.Outcome State Fault Refusal :=
  .next (if s.vgov && decide (layer < 3) && s.due (16 + layer) 0 (if layer = 0 then 20000 else 100000) 0 then
    let s := s.serve (16 + layer) 0
    let s := s.takeReadings layer readings
    let s := (layerUnits layer).foldl (fun s u => s.zoneSample layer u) s
    let s := if layer = 0 then s else (layerUnits layer).foldl (fun s u => s.refresh layer u) s
    if layer = 2 then
      let s := (layerUnits 2).foldl (fun s k =>
        let z := s.zone 2 k
        ((s.setf F.THMEs_ZONE_LVL k z.lvl).setf F.THMEs_ZONE_T_EDGE k (temp16 z.v)).channel (0x800 + k) z.v) s
      s.channel 0x8C2 (s.zoneMax 2 (layerUnits 2))
    else
      let s := (allCores.foldl (fun s n => s.showCore layer n) s).showMax layer
      let s := if s.on F.THM_CTRL_MODEL_EN then
          allCores.foldl (fun s n => (if layer = 1 then s.startColumn n else s).correctColumn layer n) s
        else s
      s.thermalCaps
  else s)

/-- BACKSTOP_RELEASE: THR_HOLD x 10 µs have passed since the last calling sample (R315). -/
def execBackstopRelease (n : Nat) (s : State) : Host.Outcome State Fault Refusal :=
  .next (if s.vgov && decide (n < Config.coreCount) then (s.coreCaps n).countBackstops.applyCaps (clusterOf n) else s)

/-- A write of THM_SDATA acts on the sensor that THM_SEL selects (R304, R305). -/
def writeThmSdata (w : Word) (s : State) : State × Bool :=
  let a := s.f F.THM_SEL_ADDR
  let x := s.sens a
  (if sensPresent a then
    s.setSens a { x with subst := w.getLsbD 30 && !w.getLsbD 31, unbreak := x.unbreak || (w.getLsbD 31 && x.broken) }
  else s, false)

/-- SENSOR_UNBREAK: a CFG write of THM_SDATA (R305). -/
def execSensorUnbreak (priv : Bool) (w : Word) (s : State) : Host.Outcome State Fault Refusal :=
  .next (s.cfgWrite priv R.THM_SDATA 0 (writeThmSdata w))

/-- THM_SDATA as it reads. -/
def State.readSdata (s : State) : Word :=
  let a := s.f F.THM_SEL_ADDR
  let x := s.sens a
  if sensPresent a then
    BitVec.ofNat 32 ((if x.broken then 2 ^ 31 else 0) + (if x.subst then 2 ^ 30 else 0) + (if x.sampled then 2 ^ 29 else 0)
      + x.cause * 2 ^ 26 + ofSigned 16 (satSigned 16 x.use))
  else 0

/-! ### The collective window (R322 to R325) -/

/-- The window's state changes: it is logged, and the caps follow (R322, R514). -/
def State.winPut (s : State) (st : Nat) : State :=
  ((s.setf F.THM_WIN_STATUS_STATE 0 st).log 0x4101 0 (s.f F.THM_WIN_STATUS_WIN_ID)).thermalCaps

/-- Open the window, or replace its critical set and end time (R322): `crit` holds the bitmap words. -/
def State.winOpen (s : State) (id dur : Nat) (crit : List Nat) : State :=
  let fresh := decide (s.f F.THM_WIN_STATUS_STATE = 0)
  let s := (List.range 32).foldl (fun s k => s.setf F.THM_WIN_CRITk_CRIT k (crit.getD k 0)) s
  let s := if fresh then { s with thm := { s.thm with winAt := s.now } } else s
  let cap := s.thm.winAt.toNat + 1000000 * max 1 (s.f F.THM_WIN_CFG_WIN_MAX_MS)
  let s := s.setPair R.THM_WIN_END_LO R.THM_WIN_END_HI 0 (min (s.now.toNat + dur) cap)
  let s := s.setf F.THM_WIN_STATUS_WIN_ID 0 id
  if fresh then (s.setf F.THM_WIN_STATUS_SLOW_SENT 0 0).winPut 1
  else s.thermalCaps

/-- Close the window (R322). -/
def State.winClose (s : State) : State := if s.winLive then s.winPut 0 else s

/-- The SLOW notice (R325, R435): to host software, and on the Lace. -/
def State.slowNotice (s : State) : State :=
  let c := s.f F.THM_WIN_CFG_CRIT_SKIP
  let left := s.pair R.THM_WIN_END_LO R.THM_WIN_END_HI - s.now.toNat
  let d := min (divUp (left * c) ((16 - c) * 1000)) (2 ^ 32 - 1)
  let s := (s.setf F.THM_WIN_DELAY_DELAY_US 0 d).setf F.THM_WIN_STATUS_SLOW_SENT 0 1
  let id := s.f F.THM_WIN_STATUS_WIN_ID
  let s := s.notice 0x04 id d
  if s.laceOn then s.laceSend { typ := 0xA, bcast := true, body := [id * 65536, d] } else s

/-- WINDOW_EXPIRE: the window's end time is reached (R322). -/
def execWindowExpire (s : State) : Host.Outcome State Fault Refusal :=
  .next (if s.vgov && s.winLive && decide (s.pair R.THM_WIN_END_LO R.THM_WIN_END_HI ≤ s.now.toNat) then s.winClose else s)

/-! ### The column model (R317 to R320) -/

/-- P_L in 2^-8 W (R318). -/
def State.modelPl (s : State) (n : Nat) : Int :=
  let c := clusterOf n
  if !s.coreOn n then 0
  else if s.predOn ∧ !s.withdrawn c then 16 * s.f F.PREDn_EST_EST n
  else if s.on F.WELT_CTRL_EN then
    divNearest (((s.predClu c).pw.headD (0, false)).1 : Int) (500 * ((coresOf c).filter (fun k => s.coreOn k)).length)
  else
    divNearest (s.railPower 0 : Nat) (125 * (allCores.filter (fun k => s.coreOn k)).length)

/-- P_M in 2^-8 W (R318). -/
def State.modelPm (s : State) (n : Nat) : Int :=
  let mw := s.f F.THMMs_K_PMEM_MW (s.f F.THMn_CFG_MSET n) + (if s.on F.THMn_STATUS_REF n then s.f F.THM_REF_REF_MW else 0)
  divNearest (mw * 256 : Nat) 1000

/-- Time left in the window in ns, or 10 ms (R320). -/
def State.modelRem (s : State) : Int :=
  if s.winLive then ((s.pair R.THM_WIN_END_LO R.THM_WIN_END_HI : Nat) : Int) - s.now.toNat else 10000000

/-- One step of a column whose memory zone reads `t` (R317, R320). With GMS 0 the steady temperature has no value: it is
free (log entry 2). -/
def State.stepColumn (s : State) (n : Nat) (t : Int) : State :=
  let set_ := s.f F.THMn_CFG_MSET n
  let x : ColSt := (s.col? n).getD { tl := 16 * t, tb := 16 * t, tm := 16 * t }
  let ts : Int := 16 * s.fi F.THMCc_TSINK_TSINK (clusterOf n)
  let pl := s.modelPl n
  let pm := s.modelPm n
  let gms := s.f F.THMMs_G_GMS set_
  let qlb := (x.tl - x.tb) * s.f F.THMMs_A1_GLB set_ / 4096
  let qbm := (x.tb - x.tm) * s.f F.THMMs_G_GBM set_ / 4096
  let qms := (x.tm - ts) * gms / 4096
  let tl := x.tl + (pl - qlb) * s.f F.THMMs_A0_AL set_ / 65536
  let tb := x.tb + (qlb - qbm) * s.f F.THMMs_A0_AB set_ / 65536
  let tm := x.tm + (qbm + pm - qms) * s.f F.THMMs_A1_AM set_ / 65536
  let q : State × Int := if gms = 0 then (s.usedFree, (s.freeVal 24).toInt) else (s, ts + divNearest ((pl + pm) * 4096) gms)
  let s := q.1
  let proj := max tm (min q.2 (tm + (tm - x.tm) * s.modelRem / 20000))
  let x : ColSt := { tl := tl, tb := tb, tm := tm, inf := q.2, proj := proj }
  let code := fun (v : Int) => ofSigned 16 (satSigned 16 (divNearest v 16))
  ((s.putColumn n x).setf F.THMn_PROJ_TM_INF n (code x.inf)).setf F.THMn_PROJ_PROJ n (code proj)

/-- A modelled memory temperature in 1/16 °C, rounded down. -/
def State.modelT (s : State) (n : Nat) : Option Int := (s.col? n).map (fun x => x.tm / 16)

/-- COLUMN_MODEL_STEP: every 20 µs (R317); a critical column whose PROJ reaches HARD throttles the window (R322). -/
def execColumnModelStep (s : State) : Host.Outcome State Fault Refusal :=
  .next (if s.vgov && s.on F.THM_CTRL_MODEL_EN && s.due 19 0 20000 0 then
    let s := s.serve 19 0
    let s := allCores.foldl (fun s n => match (s.zone 1 n).v with
      | some t => s.stepColumn n t
      | none => { s with thm := { s.thm with cols := Tab.erase s.thm.cols n } }) s
    let s := allCores.foldl (fun s n => s.channel (0xC00 + n) (s.modelT n)) s
    let s := allClusters.foldl (fun s c =>
      let v := maxOf ((coresOf c).filterMap s.modelT)
      let p := maxOf ((coresOf c).filterMap (fun n => (s.col? n).map (fun x => divNearest x.proj 16)))
      let s := (s.setf F.THMCc_MODEL_MODEL_MAX c (temp16 v)).setf F.THMCc_MODEL_PROJ_MAX c (temp16 p)
      s.channel (0x900 + c) v) s
    let s := s.channel 0x8C3 (maxOf (allCores.filterMap s.modelT))
    let hard : Int := 256 * (s.f F.THM_MEM_LVL_HARD : Int)
    if s.winOpenNow && s.thm.cols.any (fun e => s.winCrit e.1 && decide (hard ≤ e.2.proj)) then (s.winPut 2).slowNotice else s
  else s)

/-- A write of THM_CTRL: when MODEL_EN becomes 1 every node starts at its column's T_mem (R317). -/
def writeThmCtrl (by_ : Writer) (w : Word) (s : State) : State × Bool :=
  let was := s.on F.THM_CTRL_MODEL_EN
  let q := writeReg s by_ R.THM_CTRL 0 w
  (if was = q.1.on F.THM_CTRL_MODEL_EN then q.1
  else
    let s := { q.1 with thm := { q.1.thm with cols := [] } }
    if was then s else allCores.foldl State.startColumn s, q.2)

end Sys2Proof.Machine
end

