-- ==== Sys2Proof/Machine/Domain.lean ====
section
/-! DEFINITION. Power domains (spec chapter 09): requests, refusals, routes and their steps, drain and save aborts,
wakes and parents. Targets are coded as REQ: 0 ON, 1 RET, 2 OFF, 3 none. A commit point is named by the step that
ended there: 0 ON, 1 QUIET, 2 SAVED, 3 CLAMPED, 6 RET, 7 OFF, 8 POWERED, 9 CLOCKED, 10 RESTORED. -/
namespace Sys2Proof.Machine
open Sys2Proof

/-- A domain's state. -/
def State.dom (s : State) (d : Nat) : DomSt := Tab.get {} s.pwr.dom d

/-- Set a domain's state. -/
def State.setDom (s : State) (d : Nat) (x : DomSt) : State :=
  { s with pwr := { s.pwr with dom := Tab.set {} s.pwr.dom d x } }

/-- The class of a domain (R326). -/
def domClass (d : Nat) : Nat :=
  if d < 0x400 then 0 else if d < 0x440 then 1 else if d < 0x450 then 2 else if d < 0x458 then 3
  else if d < 0x460 then 4 else if d < 0x462 then 5 else if d = 0x462 then 6 else if d = 0x463 then 7
  else if d = 0x464 then 8 else 9

def State.domStep (s : State) (d : Nat) : Nat := s.f F.PWRd_STATUS_STEP d
def State.domTarget (s : State) (d : Nat) : Nat := s.f F.PWRd_STATUS_TARGET d
def State.domPending (s : State) (d : Nat) : Nat := s.f F.PWRd_STATUS_PENDING d
def State.domFenced (s : State) (d : Nat) : Bool := s.on F.PWRd_STATUS_FENCED d

/-- The state a domain rests in, coded as a target; 3 while it is between states. -/
def State.domRest (s : State) (d : Nat) : Nat :=
  match s.domStep d with
  | 0 => 0 | 6 => 1 | 7 => 2 | _ => 3

/-- The power-control part of the base die operates, and the configuration has the domain (R2, R555). -/
def State.domUp (s : State) (d : Nat) : Bool := domainPresent d && s.vgov && !s.rst.warm

/-! ### Parents and children (R328) -/

/-- The chain of PARENT values from `d` comes back to `start` within `fuel` domains. -/
def State.parentCycle (s : State) (fuel start d : Nat) : Bool :=
  match fuel with
  | 0 => false
  | k + 1 =>
    let p := s.f F.PWRd_CTRL_PARENT d
    if !domainPresent p then false else if p = start then true else s.parentCycle k start p

/-- PARENT names an absent domain, the domain itself or a cycle. -/
def State.parentBad (s : State) (d : Nat) : Bool :=
  let p := s.f F.PWRd_CTRL_PARENT d
  p != 0x7FF && (!domainPresent p || s.parentCycle 0x470 d d)

/-- The domain's parent in effect. -/
def State.parentOf (s : State) (d : Nat) : Option Nat :=
  let p := s.f F.PWRd_CTRL_PARENT d
  if p = 0x7FF ∨ s.parentBad d then none else some p

/-- The lowest-numbered child that stands in the way of an entry: one that is ON for RET, one that is not OFF for OFF.
A child between states counts as ON. -/
def State.blockingChild (s : State) (d target : Nat) : Option Nat :=
  allDomains.find? (fun c => s.parentOf c == some d &&
    (if target = 1 then s.domStep c != 6 && s.domStep c != 7 else s.domStep c != 7))

/-! ### Refusals (R332, R344) -/

/-- The target is a state of the class (R326). -/
def State.classHas (s : State) (d target : Nat) : Bool :=
  match target with
  | 0 => true
  | 1 => decide (domClass d < 7)
  | 2 => !(d == 0x460 + s.f F.EYE_FW_ACTIVE)
  | _ => false

/-- Why a target is refused for a domain whose present commit point is `cp`: cause and refuser (R332). -/
def State.refusal (s : State) (d cp target : Nat) : Option (Nat × Nat) :=
  if target = 0 then (if s.domFenced d then some (6, 0x7F0) else none)
  else
    match s.blockingChild d target with
    | some c => some (1, c)
    | none =>
      if s.on F.PWRd_CTRL_NO_ENTRY d then some (2, d)
      else if s.sag || (domClass d == 9 && s.seqBusy) then some (3, 0x7F0)
      else if !s.classHas d target then some (4, d)
      else if cp = 7 ∧ target = 1 then some (5, d)
      else if s.parentBad d || (s.savePlan d).isNone then some (9, 0x7F1)
      else none

/-- The index of a domain in the counters of R344. -/
def acctIndex (d : Nat) : Option Nat :=
  if 0x450 ≤ d ∧ d < 0x460 then some (d - 0x450) else if 0x468 ≤ d then some (d - 0x468 + 16) else none

/-- Note the outcome of a command's request (R383): 0x3000 superseded, 0x4000 + value reached,
0x1000000 + [14:4] refuser, [3:0] cause refused or aborted. -/
def State.slotOutcome (s : State) (slot : Option Nat) (v : Nat) : State :=
  match slot with
  | none => s
  | some k => s.setFw { s.eye.fw with outcome := Tab.set 0 s.eye.fw.outcome k v }

/-- Show the outcome of a request, unless a newer one waits for the unit's wait intent (R331). -/
def State.showReq (s : State) (d v : Nat) : State :=
  if (s.dom d).wait.isSome then s else s.setf F.PWRd_CTRL_REQ_STATUS d v

/-- Record a refusal or an abort (R332, R344). -/
def State.recordRefusal (s : State) (d cause refuser : Nat) (abort : Bool) (slot : Option Nat) : State :=
  let s := s.showReq d 3
  let s := s.slotOutcome slot (0x1000000 + refuser * 16 + cause)
  match acctIndex d with
  | none => s
  | some i =>
    let s := if abort then s.incf F.PWRAi_COUNT_ABORTED i else s.incf F.PWRAi_COUNT_REFUSED i
    ((s.setb F.PWRAi_LAST_WAS_ABORT i abort).setf F.PWRAi_LAST_CAUSE i cause).setf F.PWRAi_LAST_REFUSER i refuser

/-! ### Routes (R333 to R338) -/

/-- The step after a commit point on the way to a target; none where the target is reached (R335). -/
def routeStep (cp target : Nat) : Option Nat :=
  match cp, target with
  | 0, 0 => none | 0, _ => some 1
  | 1, 0 => some 11 | 1, _ => some 2
  | 2, 0 => some 10 | 2, _ => some 3
  | 3, 0 => some 9 | 3, 1 => some 4 | 3, _ => some 5
  | 6, 0 => some 8 | 6, 1 => none | 6, _ => some 5
  | 7, 0 => some 8 | 7, _ => none
  | 8, 0 => some 9 | 8, 1 => some 4 | 8, _ => some 5
  | 9, 0 => some 10 | 9, _ => some 3
  | 10, 0 => some 11 | 10, _ => some 2
  | _, _ => none

/-- The commit point at which a step ends. -/
def commitOf (step : Nat) : Nat :=
  match step with
  | 4 => 6 | 5 => 7 | 11 => 0 | n => n

/-- The delay of a step in ns (R334); DRAIN has none. -/
def State.stepDelay (s : State) (d step : Nat) : Nat :=
  let k := domClass d
  let u := match step with
    | 2 => s.f F.PWRCLk_DLY2_SAVE k
    | 4 => s.f F.PWRCLk_DLY3_RETAIN k
    | 5 => s.f F.PWRCLk_DLY3_GATE k
    | 8 => if (s.dom d).rampR then s.f F.PWRCLk_DLY0_RAMP_R k else s.f F.PWRCLk_DLY0_RAMP k
    | 9 => s.f F.PWRCLk_DLY1_CLOCK k
    | 10 => s.f F.PWRCLk_DLY1_RESTORE k
    | 11 => s.f F.PWRCLk_DLY2_RELEASE k
    | _ => 0
  10 * u

/-- Put a domain on a route or off it. -/
def State.putTarget (s : State) (d t : Nat) : State :=
  let old := s.domTarget d
  let n := s.f F.PWR_STATUS_N_ROUTE
  let s := if old = 3 ∧ t ≠ 3 then s.setf F.PWR_STATUS_N_ROUTE 0 (n + 1)
    else if old ≠ 3 ∧ t = 3 then s.setf F.PWR_STATUS_N_ROUTE 0 (n - 1) else s
  s.setf F.PWRd_STATUS_TARGET d t

/-- Fill or empty the pending slot. -/
def State.putPending (s : State) (d t : Nat) : State :=
  (s.setf F.PWRd_STATUS_PENDING d t).setb F.PWRd_STATUS_PENDING_ENABLE d (t == 0)

/-- WAKE_HELD: a wake is held while safe state is active (R341). -/
def State.showWakeHeld (s : State) : State :=
  s.setb F.PWR_STATUS_WAKE_HELD 0 (s.safe && allDomains.any (fun d => s.domPending d == 0))

/-- The island that held them lost the head's outstanding relayed commands with its member set: each ends as one of a dropped
site (R432, R433). -/
def State.dropRelays (s : State) : State :=
  let l := s.lace.relays
  l.foldl (fun s r => s.slotOutcome (some r.slot) 0x2000000) { s with lace := { s.lace with relays := [] } }

/-- Registers of a range return to reset, those of the cold domain apart. -/
def State.clrIsland (s : State) (lo hi : Nat) : State :=
  { s with regs := s.regs.filter (fun e => !(decide (lo ≤ e.1) && decide (e.1 < hi) &&
      (match findReg e.1 with
       | some (r, _) => decide (r.dom ≠ .cold)
       | none => false))) }

/-- The Lace, trace and predictor islands lose their registers and working state (R327). -/
def State.islandLost (s : State) (d : Nat) : State :=
  match d with
  | 0x462 => { s.dropRelays.clrIsland 0x7C000 0x7E000 with lace := { headSite := s.lace.headSite } }
  | 0x463 =>
    let s := (s.clrIsland 0x78000 0x78F00).clrIsland 0x78F08 0x7A000
    { s with trc := { s.trc with
        srcs := [], stream := false, unsent := [], frameSeq := 0, lastFrame := [], lastFrameHdr := [], buf := [] } }
  | 0x464 => { s.clrIsland 0x60000 0x70000 with lasts := { s.lasts with pred := {} } }
  | _ => s

/-- The protected regions are released and their metadata tiles freed (R503, R509). -/
def State.dropRegions (s : State) : State :=
  let s := s.freeTiles 0x50 (fun n => s.trc.regions.any (fun (r : Region) => r.number == n))
  ({ s with trc := { s.trc with regions := [] } }).showRegions

/-- The island that lies in a domain, with its instance: a domain's own seams lead into it (R22, R326). The ramp
allowances of a cluster's stations have a seam of their own (log entry 106). -/
def seamEnd (d : Nat) : Option (Nat × Nat) :=
  if d < 0x440 then some (2, d)
  else if d = 0x460 ∨ d = 0x461 then some (5, d - 0x460)
  else if d = 0x462 then some (6, 0) else if d = 0x463 then some (7, 0) else if d = 0x464 then some (8, 0)
  else none

/-- The seams into the domain's island are flushed before it is clamped for OFF, and before its supply is switched off;
the source learns how many words (R31). -/
def State.flushSeams (s : State) (d : Nat) : State :=
  match seamEnd d with
  | none => s
  | some (dst, unit) =>
    let s := (List.range 8).foldl (fun s src =>
      let x := s.seam (seamKey src dst unit)
      let n := x.held.length + (match s.inFlight src dst unit with
        | some l => l.length
        | none => if x.retry.isSome then 1 else 0)
      if n = 0 then s
      else s.setSeam (seamKey src dst unit) { x with held := [], retry := none, flushed := x.flushed + n }) s
    if d < 0x400 then s.flushStation d
    else if d < 0x440 then s.setCluster (d - 0x400) { s.cluster (d - 0x400) with words := [] }
    else s

/-- What starting a step does (R333, R334). A rail domain has no link: its GATE and RAMP write its ON, and no other step of
it has an action. -/
def State.stepAction (s : State) (d step : Nat) : State :=
  let x := s.dom d
  if domClass d = 9 then
    if step = 5 then s.writeOn (d - 0x468) false else if step = 8 then s.writeOn (d - 0x468) true else s
  else match step with
  | 1 =>
    let s := if d < 0x400 then s.drainStation d else s
    if d = 0x463 then s.dropRegions else s
  | 3 =>
    let s := if s.domTarget d = 2 then s.flushSeams d else s
    let s := if d < 0x400 then s.settleStation d else s
    s.setDom d { x with iso := true, clk := false }
  | 4 => s.setDom d { x with psw := 1 }
  | 5 =>
    (s.flushSeams d).setDom d { x with psw := 0 }
  | 8 =>
    s.setDom d { x with psw := 2 }
  | 9 => s.setDom d { x with clk := true }
  | 11 => s.setDom d { x with iso := false }
  | _ => s

/-- Show a STEP; a core's hang ring notes it (R512), and a cluster's storm account the epochs in which it is ON (R137). -/
def State.putStep (s : State) (d step : Nat) : State :=
  if 0x400 ≤ d ∧ d < 0x440 then
    ((s.rollEpoch (d - 0x400)).setf F.PWRd_STATUS_STEP d step).noteOn (d - 0x400)
  else
    let s := s.setf F.PWRd_STATUS_STEP d step
    if d < 0x400 then s.hang d 0x08 step else s

/-- Begin a step. -/
def State.beginStep (s : State) (d step : Nat) : State :=
  let x := s.dom d
  let s := s.setDom d { x with stepAt := s.now, held := false, drains := 0,
                               rampR := if step = 8 then s.domStep d == 6 || s.domStep d == 4 else x.rampR }
  (s.putStep d step).stepAction d step

/-- The state a route has reached: ON, RET or OFF. -/
def State.reach (s : State) (d cp : Nat) : State :=
  let x := s.dom d
  let s := (s.putTarget d 3).putStep d cp
  let s := if x.abort then s else s.showReq d 2
  let s := s.slotOutcome x.slot (0x4000 + 4 * s.f F.PWRd_STATUS_WAKE_SRC d + s.f F.PWRd_STATUS_REST d)
  let s := s.setDom d { x with slot := none, abort := false, fromOff := if cp = 0 then false else x.fromOff }
  if cp = 0 then
    let s := if d < 0x400 then s.wakeStation d else s
    let s := if 0x400 ≤ d ∧ d < 0x440 then s.weltWake (d - 0x400) else s
    let s := if d = 0x462 then { s with lace := { s.lace with startAt := s.now } } else s
    if d = 0x463 then { s with trc := { s.trc with buf := [] } } else s
  else s

/-- The supply has fallen to the retention level or is off: what the domain's island loses (R327). A domain that leaves OFF
is on a route that began there (R337). -/
def State.powerLost (s : State) (d cp : Nat) : State :=
  let s := s.islandLost d
  if cp = 7 then
    let s := s.setDom d { s.dom d with fromOff := true }
    if d < 0x400 then s.setStation d { s.station d with queue := [] } else s
  else s

/-- Record WAKE_SRC; rail domains do not (R342). -/
def State.wakeSrc (s : State) (d src : Nat) : State :=
  if domClass d = 9 then s else s.setf F.PWRd_STATUS_WAKE_SRC d src

/-- A wake route begins. -/
def State.startWake (s : State) (d : Nat) (slot : Option Nat) : State :=
  ((s.setDom d { s.dom d with slot := slot, fromOff := s.domStep d == 7 }).putTarget d 0).beginStep d 8

/-- A wake from RET or OFF begins: the parent is woken first, and safe state and the sag save hold it (R328, R341,
R342). `fuel` bounds the chain of parents. -/
def State.beginWake (s : State) (fuel d src : Nat) (slot : Option Nat) : State :=
  let s := s.wakeSrc d src
  if s.safe || s.sag then
    let x := s.dom d
    ((s.setDom d { x with pendSrc := src, pendSlot := slot }).putPending d 0).showWakeHeld
  else
    match fuel, s.parentOf d with
    | k + 1, some p =>
      if s.domStep p = 0 then s.startWake d slot
      else
        let s := (s.setDom d { s.dom d with slot := slot }).setf F.PWRd_STATUS_WAIT_PARENT d 1
        if s.domRest p = 3 then
          (s.setDom p { s.dom p with pendSrc := 7 }).putPending p 0
        else if s.on F.PWRd_STATUS_WAIT_PARENT p || s.domFenced p then s
        else s.beginWake k p 7 none
    | _, _ => s.startWake d slot

/-- Begin an entry from ON or RET, or refuse it (R332). -/
def State.beginEntry (s : State) (d target src : Nat) (slot : Option Nat) : State :=
  let cp := s.domStep d
  match s.refusal d cp target with
  | some (c, r) =>
    let s := if c = 9 ∧ !s.dirAbsent ∧ (s.dirEntry d).isNone then s.setf F.PWR_STATUS_DIR_BAD 0 1 else s
    s.recordRefusal d c r false slot
  | none =>
    let s := s.setf F.PWRd_STATUS_WAIT_PARENT d 0
    let x := s.dom d
    let s := (s.setDom d { x with slot := slot, pendSrc := src }).putTarget d target
    match routeStep cp target with
    | some st => s.beginStep d st
    | none => s.reach d cp

/-- A request (R329): it begins its route, fills the pending slot of a route in flight (R336), waits for the unit's wait
intent (`hold`, R331), or is refused. -/
def State.domRequest (s : State) (d target src : Nat) (slot : Option Nat) (hold : Bool) : State :=
  let s := s.setf F.PWRd_CTRL_REQ_STATUS d 1
  let x := s.dom d
  let s := s.slotOutcome x.waitSlot 0x3000
  let s := s.setDom d { x with wait := none, waitSlot := none }
  let x := s.dom d
  if s.domRest d = 3 then
    let s := s.slotOutcome x.pendSlot 0x3000
    ((s.setDom d { x with pendSrc := src, pendSlot := slot }).putPending d target).showWakeHeld
  else if hold && decide (target ≠ 0) && s.domRest d != target then
    s.setDom d { x with wait := some (target, src), waitSlot := slot }
  else
    let s := s.slotOutcome x.pendSlot 0x3000
    let s := if s.domPending d ≠ 3 then ((s.setDom d { x with pendSlot := none }).putPending d 3).showWakeHeld else s
    let s := if s.on F.PWRd_STATUS_WAIT_PARENT d then s.slotOutcome (s.dom d).slot 0x3000 else s
    if target = 0 ∧ s.domFenced d then s.recordRefusal d 6 0x7F0 false slot
    else if s.domRest d = target then
      ((s.setf F.PWRd_CTRL_REQ_STATUS d 2).setf F.PWRd_STATUS_WAIT_PARENT d 0).slotOutcome slot
        (0x4000 + 4 * s.f F.PWRd_STATUS_WAKE_SRC d + s.f F.PWRd_STATUS_REST d)
    else if target = 0 then s.beginWake 0x470 d src slot
    else s.beginEntry d target src slot

/-- An entry by another path than the unit or a fence waits for the wait intent of a core or host core (R331). -/
def waitsForUnit (d : Nat) : Bool := domClass d == 0 || domClass d == 4

/-- The fault collector fences a domain: OFF is requested (R329, R441). -/
def State.fenceDomain (s : State) (d : Nat) : State :=
  (s.setf F.PWRd_STATUS_FENCED d 1).domRequest d 2 9 none false

/-- Domains whose parent has reached ON begin their routes (R328). -/
def State.wakeChildren (s : State) (p : Nat) : State :=
  (allDomains.filter (fun d => s.on F.PWRd_STATUS_WAIT_PARENT d && s.parentOf d == some p)).foldl (fun s d =>
    (s.setf F.PWRd_STATUS_WAIT_PARENT d 0).beginWake 0 d (s.f F.PWRd_STATUS_WAKE_SRC d) (s.dom d).slot) s

/-- The pending target is taken at a commit point, where `old` was the target in force, unless it is refused or is a wake
that safe state holds (R336 to R338, R341). Where it is the target in force the slot only empties. On a route that began
in OFF, RET is taken as OFF. A core or host core that has reached ON waits for the wait intent before it begins an entry
(R331). -/
def State.takePending (s : State) (d cp old : Nat) : State :=
  let x := s.dom d
  let q := s.domPending d
  let p := if q = 1 ∧ x.fromOff ∧ cp ≠ 0 then 2 else q
  if q = 3 ∨ (p = 0 ∧ p ≠ old ∧ s.safe) then s
  else
    let s := (s.putPending d 3).showWakeHeld
    if p = old then
      if cp = 0 then
        ((s.setDom d { x with pendSlot := none }).showReq d 2).slotOutcome x.pendSlot
          (0x4000 + 4 * s.f F.PWRd_STATUS_WAKE_SRC d + s.f F.PWRd_STATUS_REST d)
      else
        let s := s.slotOutcome x.slot 0x3000
        s.setDom d { x with slot := x.pendSlot, pendSlot := none }
    else if cp = 0 ∧ waitsForUnit d ∧ x.pendSrc ≠ 1 ∧ x.pendSrc ≠ 9 then
      (s.setDom d { x with wait := some (p, x.pendSrc), waitSlot := x.pendSlot, pendSlot := none }).setf
        F.PWRd_CTRL_REQ_STATUS d 1
    else match s.refusal d cp p with
    | some (c, r) => (s.setDom d { x with pendSlot := none }).recordRefusal d c r false x.pendSlot
    | none =>
      let s := s.slotOutcome x.slot 0x3000
      let s := (s.setDom d { x with slot := x.pendSlot, pendSlot := none }).putTarget d p
      if p = 0 then
        let code := (s.freeVal 8).toNat
        ((s.usedFree).wakeSrc d 8).log (0x5000 + code) d x.pendSrc
      else s

/-- The domain goes on from a commit point (R335, R337, R341). Where it has reached ON, its children that wait for it begin
their routes before it takes what is pending (R328). -/
def State.proceed (s : State) (d cp : Nat) : State :=
  let s := if cp = 6 ∨ cp = 7 then s.powerLost d cp else s
  if s.sag then (s.setDom d { s.dom d with held := true }).setf F.PWR_STATUS_HELD 0 1
  else if (s.dom d).abort ∧ cp ≠ 0 then s.beginStep d 11
  else
    let old := s.domTarget d
    let s := if cp = 0 then (s.reach d 0).wakeChildren d else s
    let s := s.takePending d cp old
    let t := s.domTarget d
    if t = 3 then s else match routeStep cp t with
      | some st => s.beginStep d st
      | none => s.reach d cp

/-- The route aborts (R339, R340): RELEASE is next. -/
def State.abortRoute (s : State) (d cause refuser : Nat) : State :=
  let x := s.dom d
  let s := s.setDom d { x with abort := true, slot := none }
  let s := (s.setf F.PWRd_STATUS_ABORTED d 1).recordRefusal d cause refuser true x.slot
  s.putTarget d 0

/-- The registers a restore writes (R354): over the link, or in the governor window. -/
def State.applyRestore (s : State) (d : Nat) (r : Restored) : State :=
  match r with
  | .none => s.setf F.PWRd_STATUS_REST d 0
  | .data l two =>
    let s := if govIsland d then l.foldl (fun s (e : Nat × Nat) => s.restoreReg (4 * e.1) e.2) s
      else s.setDom d { s.dom d with restored := l.map (·.2) }
    let s := s.setf F.PWRd_STATUS_REST d (if two then 2 else 1)
    if two then s.incf F.PWR_COUNT_SECOND 0 else s
  | .lost =>
    let s := (s.setDom d { s.dom d with restored := [] }).islandLost d
    let s := (s.setf F.PWRd_STATUS_REST d 3).setf F.PWRd_STATUS_RETENTION_LOST d 1
    ((s.incf F.PWR_COUNT_LOST 0).fault 0x10 d).notice 3 d 0

/-- The condition that ends the present step (R333, R334), with the time a walk has taken. -/
def State.stepEnds (s : State) (d walk : Nat) (quiet : Bool) : Bool :=
  let x := s.dom d
  let r := d - 0x468
  match s.domStep d with
  | 1 => if domClass d = 9 then true else quiet && (decide (0x400 ≤ d) || (s.station d).running.isEmpty)
  | 2 | 10 => s.passed x.stepAt (max walk (s.stepDelay d (s.domStep d)))
  | 5 => s.passed x.stepAt (s.stepDelay d 5) && (domClass d != 9 || s.railSt r == 0)
  | 8 => s.passed x.stepAt (s.stepDelay d 8)
      && (domClass d != 9 || (s.railSt r == 2 && s.on F.RAILr_STATUS_PG r))
  | 0 | 6 | 7 => false
  | st => s.passed x.stepAt (s.stepDelay d st)

/-- A step's walk or supply has ended: what the end itself does. -/
def State.endStep (s : State) (d walk : Nat) (words : List Nat) (bad : BadTiles) : State :=
  let st := s.domStep d
  let s := if (st = 2 ∨ st = 10) ∧ s.stepDelay d st < walk then s.log 0x5001 d st else s
  match st with
  | 2 =>
    if domClass d = 9 then s
    else
      let r := s.saveWalk d words bad
      if r.2 then
        (match r.1.savePlan d with
         | some (some _) => r.1.incf F.PWRd_STATUS_SAVE_GEN d
         | _ => r.1)
      else (r.1.abortRoute d 8 0x7F1).fault 0x0F d
  | 10 =>
    if domClass d = 9 then s
    else
      let r := s.restoreWalk d bad
      r.1.applyRestore d r.2
  | _ => s

/-- DOMAIN_COMMIT: the present step of domain `d` ends at its commit point (R333 to R338). `quiet` is the link's QUIET,
`words` what a save walk reads over the link, `walk` how long the walk takes in ns, `bad` the tile places that fail. -/
def execDomainCommit (d : Nat) (quiet : Bool) (words : List Nat) (walk : Nat) (bad : List (Nat × Nat)) (s : State) :
    Host.Outcome State Fault Refusal :=
  .next (if s.domUp d && !(s.dom d).held && s.stepEnds d walk quiet then
    let cp := commitOf (s.domStep d)
    let s := (s.endStep d walk words bad).proceed d cp
    s.trace 12 0 d (s.domStep d * 2 ^ 28 + s.domTarget d * 2 ^ 26)
  else s)

/-- WAIT_INTENT: a core or host core signals a wait intent with its mode bits (R329 to R331). -/
def execWaitIntent (d mode : Nat) (s : State) : Host.Outcome State Fault Refusal :=
  .next (if s.domUp d && waitsForUnit d && s.domRuns d then
    let x := s.dom d
    if mode = 1 ∨ mode = 2 then s.domRequest d mode 1 none false
    else match x.wait with
    | none => s
    | some (t, src) =>
      let slot := x.waitSlot
      (s.setDom d { x with wait := none, waitSlot := none }).domRequest d t src slot false
  else s)

/-- A write of PWRd_CTRL: its fields, and the request of a REQ other than 0b11 (R329). -/
def writePwrCtrl (d : Nat) (by_ : Writer) (w : Word) (s : State) : State × Bool :=
  let r := writeReg s by_ R.PWRd_CTRL d w
  let t := getBits w 28 2
  (if t = 3 then r.1 else r.1.domRequest d t 5 none (waitsForUnit d), r.2)

/-- DOMAIN_REQ_WRITE: a CFG write of PWRd_CTRL (R329). -/
def execDomainReqWrite (priv : Bool) (d : Nat) (w : Word) (s : State) : Host.Outcome State Fault Refusal :=
  .next (s.cfgWrite priv R.PWRd_CTRL d (writePwrCtrl d .cfg w))

/-- DRAIN_TIMEOUT: DRAIN has lasted DRAIN_MAX; a fenced domain reports and stays, another aborts (R339). -/
def execDrainTimeout (d : Nat) (s : State) : Host.Outcome State Fault Refusal :=
  let x := s.dom d
  let lim := max 1 (s.f F.PWRCLk_DLY4_DRAIN_MAX (domClass d)) * 1000
  .next (if s.domUp d && s.domStep d == 1 && !x.held && s.passed x.stepAt (lim * (x.drains + 1)) then
    if s.domFenced d then (s.setDom d { x with drains := x.drains + 1 }).fault 0x0E d
    else ((s.abortRoute d 7 d).fault 0x0E d).proceed d 1
  else s)

/-- The wake sources of a class (R326). -/
def wakeAllowed (k src : Nat) : Bool :=
  match k with
  | 0 => [1, 5, 6, 9].contains src
  | 1 => [7, 5, 6].contains src
  | 2 => [2, 1, 5, 6].contains src
  | 3 | 4 => [1, 5, 6].contains src
  | 5 => [4, 5, 9].contains src
  | 6 => [3, 5, 6].contains src
  | 7 | 8 => [5, 6].contains src
  | _ => [7, 5, 6].contains src

/-- WAKE_EVENT: a wake event of source `src` for domain `d` (R342, R343): link activity counts only while LINK_WAKE
is 1; in a route the wake fills the pending slot; a domain that is ON has nothing to wake. -/
def execWakeEvent (d src : Nat) (s : State) : Host.Outcome State Fault Refusal :=
  .next (if s.domUp d && wakeAllowed (domClass d) src
      && (decide (3 < src) || s.on F.PWRd_CTRL_LINK_WAKE d)
      && s.domRest d != 0 then s.domRequest d 0 src none false
  else s)

/-- TOKEN_POST: queue the token and fill in its cost, while fewer than 8 are held (R61, R67). A token posted while the core's
domain is not ON is activity on its link, which wakes the domain (R339, R342, R343). -/
def execTokenPost (n : Nat) (tok : Word64) (s : State) : Host.Outcome State Fault Refusal :=
  let x := s.station n
  .next (if s.coreUp n && decide (x.queue.length < 8) then
    let s := s.setStation n { x with queue := x.queue ++ [{ raw := tok, cost := s.costOf n tok }] }
    if s.domStep n ≠ 0 ∧ s.vgov ∧ !s.rst.warm ∧ s.on F.PWRd_CTRL_LINK_WAKE n then s.domRequest n 0 1 none false else s
  else s)

/-- SAVE_ACCESS_TIMEOUT: a save-space access of the walk in progress was not answered within 1 µs (R554): the walk
aborts (R340). -/
def execSaveAccessTimeout (d : Nat) (s : State) : Host.Outcome State Fault Refusal :=
  let st := s.domStep d
  .next (if s.domUp d && !(s.dom d).held && !govIsland d && (st == 2 || st == 10) && s.passed (s.dom d).stepAt 1000 then
    ((s.abortRoute d 8 0x7F1).fault 0x0F d).proceed d st
  else s)

/-- What R341 held goes on: the domains at their commit points, and the wakes in their pending slots. -/
def State.resumeHeld (s : State) : State :=
  if s.sag then s
  else
    let s := (allDomains.filter (fun d => (s.dom d).held)).foldl (fun s d =>
      (s.setDom d { s.dom d with held := false }).proceed d (commitOf (s.domStep d))) s
    let s := s.setf F.PWR_STATUS_HELD 0 0
    if s.safe then s.showWakeHeld
    else
      ((allDomains.filter (fun d => s.domPending d == 0 && (s.domRest d == 1 || s.domRest d == 2))).foldl (fun s d =>
        let x := s.dom d
        ((s.setDom d { x with pendSlot := none }).putPending d 3).beginWake 0x470 d x.pendSrc x.pendSlot) s).showWakeHeld

end Sys2Proof.Machine
end

