-- ==== Sys2Proof/Machine/Time.lean ====
section
/-! DEFINITION. Seams, islands and the time base (spec chapter 01): seam errors and resends, islands that stop and
restart, the tick generator, TIME_TRIM and TIME_STEP, and the loss of REFCLK. Islands are numbered in the order of
R22: 0 Shank, 1 Clicker, 2 unit station, 3 phase and rail, 4 loop engine, 5 Cobbler, 6 Lace, 7 trace; a seam is named
by its source, its destination and an instance: the core where either end is a unit station, 0x400 + c for the ramp
allowances of cluster c, the pair for the Cobbler, else 0. Number 8 stands for the predictor's island. -/
namespace Sys2Proof.Machine
open Sys2Proof

/-! ### Seams (R26 to R31) -/

/-- An island, and its unit, exist. -/
def islandOk (i unit : Nat) : Bool :=
  decide (i < 8) && (if i = 2 then decide (unit < Config.coreCount) else unit == 0)

/-- A seam exists: its instance names a core, a cluster's allowances or a Cobbler pair where an end has instances. -/
def seamOk (src dst unit : Nat) : Bool :=
  decide (src < 8) && decide (dst < 9) &&
    (if src = 2 ∨ dst = 2 then decide (unit < Config.coreCount)
        || (src == 1 && decide (0x400 ≤ unit) && decide (unit < 0x400 + Config.clusterCount))
     else if dst = 5 then decide (unit < 2) else unit == 0)

/-- `w` can be the word that completes next on the seam: its oldest word in flight, or the second word of a report. -/
def State.onSeam (s : State) (src dst unit : Nat) (w : Word64) : Bool :=
  match s.inFlight src dst unit with
  | some l => if src = 2 then l.contains w else l.head? == some w
  | none => true

def State.setIsland (s : State) (i unit : Nat) (x : IslandSt) : State :=
  { s with islands := Tab.set {} s.islands (islandKey i unit) x }

/-- SEAM_CODE_ERROR: the destination discards the word, signals the error and reports it (R26). The word waits for its
resend at the front of its seam, and the destination takes no word of the seam before it (R27, R28). -/
def execSeamCodeError (src dst unit : Nat) (w : Word64) (s : State) : Host.Outcome State Fault Refusal :=
  let k := seamKey src dst unit
  .next (if !s.rst.cold && seamOk src dst unit && (s.seam k).retry.isNone && s.onSeam src dst unit w then
    let awl := s.awlFires 3 dst
    let s := if awl then s.awlUsed else s
    (s.setSeam k { s.seam k with retry := some w }).faultA 0x06 dst awl
  else s)

/-- A word discarded on its seam is lost to its destination; the Clicker takes back a grant (R27, R83). A report one of
whose two words is lost is no report (log entry 106). -/
def State.wordLost (s : State) (src dst unit : Nat) (w : Word64) : State :=
  if src = 1 ∧ dst = 2 then
    if unit < 0x400 then
      let x := s.station unit
      (s.setStation unit { x with grants := x.grants.tail }).addDrained (grantOf w)
    else
      let k := s.cluster (unit - 0x400)
      s.setCluster (unit - 0x400) { k with words := k.words.tail }
  else if src = 2 ∧ dst = 1 then s.setStation unit { s.station unit with report := none }
  else if src = 5 ∧ dst = 2 then s.dropUnitCmd unit w.toNat
  else if src = 4 ∧ dst = 1 then { s with crd := { s.crd with pre := { s.crd.pre with wait := none } } }
  else s

/-- Pre-allocations that waited for a resend reach the Clicker, after the boundary they were sent for (R280). -/
def State.preArrive (s : State) : State :=
  let p := s.crd.pre
  match p.wait with
  | some v => { s with crd := { s.crd with pre := { p with late := some v, wait := none } } }
  | none => s

/-- The power domain of an island, where it has one of its own (R22, R326). -/
def islandDomain (i unit : Nat) : Option Nat :=
  match i with
  | 2 => some unit
  | 5 => some (0x460 + unit)
  | 6 => some 0x462
  | 7 => some 0x463
  | 8 => some 0x464
  | _ => none

/-- SEAM_RESEND: the source sends the word once more; a second failure discards it and is reported (R27). A word whose
layout the spec gives stays in flight until its destination takes it. Another word is delivered, held while its
island is stopped, and flushed where the island's domain is off (R30, R31). -/
def execSeamResend (src dst unit : Nat) (ok : Bool) (s : State) : Host.Outcome State Fault Refusal :=
  let k := seamKey src dst unit
  let x := s.seam k
  .next (match x.retry with
  | none => s
  | some w =>
    let s := s.setSeam k { x with retry := none }
    let x := s.seam k
    if ok then
      if (s.inFlight src dst unit).isSome then s
      else if (match islandDomain dst unit with
        | some d => s.f F.PWRd_STATUS_STEP d == 7
        | none => false) then s.setSeam k { x with flushed := x.flushed + 1 }
      else if (s.island dst unit).stopped then s.setSeam k { x with held := x.held ++ [w] }
      else
        let s := s.setSeam k { x with delivered := [w] }
        if src = 4 ∧ dst = 1 then s.preArrive else s
    else (s.wordLost src dst unit w).fault 0x07 dst)

/-! ### Islands that stop and restart (R40) -/

/-- The hang ring of an island (R510): a station's own ring for island 2. -/
def islandRing (i unit : Nat) : Nat := if i = 2 then unit else 0x4F0 + i

/-- ISLAND_STOP: the Shank notes the island's last clock edge (R40). -/
def execIslandStop (isl unit : Nat) (s : State) : Host.Outcome State Fault Refusal :=
  .next (if !s.rst.cold && islandOk isl unit && isl != 0 && !(s.island isl unit).stopped then
    (s.setIsland isl unit { stopped := true, stopAt := s.now }).hang (islandRing isl unit) 0xFE 0
  else s)

/-- The seams into an island deliver the words they hold, the last one newest (R30). -/
def State.deliverHeld (s : State) (i unit : Nat) : State :=
  (List.range 8).foldl (fun s src =>
    let k := seamKey src i unit
    let x := s.seam k
    if x.held = [] then s else s.setSeam k { x with held := [], delivered := x.held.reverse }) s

/-- ISLAND_RESTART: the island writes its gap record before any other, and the held words arrive (R30, R40, R496). -/
def execIslandRestart (isl unit : Nat) (s : State) : Host.Outcome State Fault Refusal :=
  let x := s.island isl unit
  .next (if !s.rst.cold && islandOk isl unit && x.stopped then
    let s := s.setIsland isl unit {}
    let s := s.hang (islandRing isl unit) 0xFF 0
    let s := s.sysRec 3 (if isl = 2 then 0x100 + unit else isl) 0 (some x.stopAt.toNat)
    s.deliverHeld isl unit
  else s)

/-! ### The time base (R33 to R36, R574, R575) -/

/-- The phase after this tick and the accumulator: at a REFCLK edge the trim is added; a carry out upwards inserts a
tick, one downwards omits a tick (R34). Phase 10 is the inserted tick. -/
def State.nextPhase (s : State) : Nat × Word :=
  let p := s.time.phase
  if s.on F.TIME_STATUS_ON_OSC then ((p + 1) % 20, s.time.acc)
  else if p = 10 then (0, s.time.acc)
  else if 9 ≤ p then
    let trim := (s.rd R.TIME_TRIM).toInt
    let sum := (s.time.acc.toNat : Int) + trim
    let acc := BitVec.ofInt 32 sum
    if 2 ^ 32 ≤ sum then (10, acc) else if sum < 0 then (1, acc) else (0, acc)
  else (p + 1, s.time.acc)

/-- A step of the count has jumped over boundaries: the epoch's refill is not made where its boundary was jumped over,
what waits for a boundary waits for the next, and windows and epochs in progress go on to their first boundary
(R574). -/
def State.stepOver (s : State) (old new : Nat) : State :=
  let s := { s with tele := s.tele.map (fun e => (e.1, (e.2.upto old).jump new)) }
  if old / 1000 = new / 1000 then s
  else
    let s := s.jumpStorms (if new % 1000 = 0 then new / 1000 - 1 else new / 1000)
    if new % 1000 = 0 then s
    else { s with crd := { s.crd with
      refilled := new / 1000 + 1,
      drainedAt := if s.crd.drainedAt = old / 1000 then new / 1000 else s.crd.drainedAt,
      jobClear := s.crd.jobClear.map (fun e => (e.1, if e.2 = old / 1000 + 1 then new / 1000 + 1 else e.2)) } }

/-- At the count that opens an epoch the pre-allocations sent for it have arrived, unless their seam waits for a resend
(R280, log entry 65). -/
def State.openEpoch (s : State) : State :=
  if s.started && s.now.toNat % 1000 == 0 && s.vgov && s.dieUp then s.sendPre (s.seam (seamKey 4 1 0)).retry.isSome else s

/-- One tick of the tick generator: the count, or the boot count before the start, advances by 1, or by STEP_NS + 1 where
a step is pending (R33, R36, R574). -/
def State.tick (s : State) : State :=
  if s.rst.cold then s
  else
    let stepping := s.f F.TIME_STEP_STATUS == 1
    let d := if stepping then s.f F.TIME_STEP_STEP_NS + 1 else 1
    let ph := s.nextPhase
    let t := s.time
    let s := if stepping && s.started && decide (1 < d) then s.stepOver t.count.toNat (t.count.toNat + d) else s
    let s := { s with time :=
      if s.started then { t with count := t.count + BitVec.ofNat 64 d, phase := ph.1, acc := ph.2 }
      else { t with boot := t.boot + BitVec.ofNat 64 d, phase := ph.1, acc := ph.2 } }
    (if stepping then (s.setf F.TIME_STEP_STATUS 0 2).log 0x0003 0 (d - 1) else s).openEpoch

/-- TIME_STEP_APPLY: the tick at which a pending step is applied (R574). -/
def execTimeStepApply (s : State) : Host.Outcome State Fault Refusal :=
  .next (if s.f F.TIME_STEP_STATUS = 1 then s.tick else s)

/-- Set TIME_TRIM, clamped to 200 ppm (R34). -/
def State.setTrim (s : State) (v : Int) : State :=
  let lim : Int := 8589935
  if v < -lim ∨ lim < v then
    ((s.wr R.TIME_TRIM 0 (BitVec.ofInt 32 (clampInt (-lim) lim v))).setf F.TIME_STATUS_TRIM_CLAMPED 0 1).log 0x0004 0
      (BitVec.ofInt 32 v).toNat
  else s.wr R.TIME_TRIM 0 (BitVec.ofInt 32 v)

/-- A write of TIME_TRIM (R34). -/
def writeTimeTrim (w : Word) (s : State) : State × Bool := (s.setTrim w.toInt, false)

/-- TIME_TRIM_WRITE: a CFG write of TIME_TRIM (R34). -/
def execTimeTrimWrite (priv : Bool) (w : Word) (s : State) : Host.Outcome State Fault Refusal :=
  .next (s.cfgWrite priv R.TIME_TRIM 0 (writeTimeTrim w))

/-- A write of TIME_STEP (R575): an error while a step is pending, refused while ON_OSC is set. -/
def writeTimeStep (w : Word) (s : State) : State × Bool :=
  if s.f F.TIME_STEP_STATUS = 1 then (s, true)
  else
    let s := s.setf F.TIME_STEP_STEP_NS 0 (getBits w 0 30)
    (s.setf F.TIME_STEP_STATUS 0 (if s.on F.TIME_STATUS_ON_OSC then 3 else 1), false)

/-- TIME_STEP_WRITE: a CFG write of TIME_STEP (R574, R575). -/
def execTimeStepWrite (priv : Bool) (w : Word) (s : State) : Host.Outcome State Fault Refusal :=
  .next (s.cfgWrite priv R.TIME_STEP 0 (writeTimeStep w))

/-- The phases that the line still gives after the last REFCLK edge: it completes the ten of the period (R35). -/
def State.phasesLeft (s : State) : Nat := 9 - s.time.phase

/-- `n` ticks. -/
def State.ticks (s : State) (n : Nat) : State :=
  match n with
  | 0 => s
  | k + 1 => s.tick.ticks k

/-- REFCLK_LOST: no edge has come for 100 ns, so the line has completed the ten phases of its last REFCLK period, the
count has stood still since, and the tick generator moves to the Shank oscillator (R24, R35); a Lace member is no
longer aligned (R425). The oscillator's phases start from the first, and the trim accumulator keeps its value (log
entry 25). -/
def execRefclkLost (s : State) : Host.Outcome State Fault Refusal :=
  .next (if !s.rst.cold && !s.on F.TIME_STATUS_ON_OSC then
    let s := s.ticks s.phasesLeft
    let s := (s.setf F.TIME_STATUS_ON_OSC 0 1).setf F.TIME_STATUS_REFCLK_LOST 0 1
    let s := s.setf F.GOV_BOOT_REFCLK_OK 0 0
    let s := { s with time := { s.time with phase := 0 } }
    (s.clearAligned.log 0x0001 0 0).fault 0x0A 0
  else s)

/-- REFCLK_RESTORED: REFCLK edges have resumed for 1 µs; the line returns at a phase boundary without a step in the
count (R35). The phases of REFCLK start from the first, and the trim accumulator keeps its value (log entry 25). -/
def execRefclkRestored (s : State) : Host.Outcome State Fault Refusal :=
  .next (if !s.rst.cold && s.on F.TIME_STATUS_ON_OSC then
    let s := (s.setf F.TIME_STATUS_ON_OSC 0 0).setf F.GOV_BOOT_REFCLK_OK 0 1
    let s := { s with time := { s.time with phase := 0 } }
    s.log 0x0002 0 0
  else s)

end Sys2Proof.Machine
end

