-- ==== Sys2Proof/Machine/Lace.lean ====
section
/-! DEFINITION. Lace (spec chapter 11): ports, HELLO and link delays, forwarding and wraps, time alignment, membership,
the module budget and SLOW. A received message comes as the payloads of one copy's frames; `early` is how long before
the command its first symbol stood at the port, in 1/16 ns (R421). Commands relayed to members are in Relay.lean. -/
namespace Sys2Proof.Machine
open Sys2Proof

/-! ### Ports (R407, R408, R415) -/

/-- The ports operate: the island is ON and EN is 1. -/
def State.portsOn (s : State) : Bool := s.laceOn && s.on F.LACE_CTRL_EN

/-- A port number with its port operating. -/
def State.portOk (s : State) (p : Nat) : Bool := s.portsOn && decide (p < 2)

/-- WRAP of both ports: exactly one port is UP (R415); a change is reported to the host (R419). -/
def State.showWrap (s : State) : State :=
  let was := s.on F.LACE_PORTp_STATUS_WRAP 0 || s.on F.LACE_PORTp_STATUS_WRAP 1
  let s := s.setb F.LACE_PORTp_STATUS_WRAP 0 (!s.portUp 0 && s.portUp 1)
  let s := s.setb F.LACE_PORTp_STATUS_WRAP 1 (!s.portUp 1 && s.portUp 0)
  let is_ := s.on F.LACE_PORTp_STATUS_WRAP 0 || s.on F.LACE_PORTp_STATUS_WRAP 1
  if is_ && !was then s.peer s.site 0x04 else if was && !is_ then s.peer s.site 0x05 else s

/-- Put a port into a state, with the time of entry. -/
def State.portPut (s : State) (p st : Nat) : State :=
  let up := s.portUp p
  let s := s.setf F.LACE_PORTp_STATUS_STATE p st
  let s := s.setPort p { s.port p with at_ := s.now }
  let s := if up && st == 0 then s.incf F.LACE_PORTp_COUNT_DOWNS p else s
  s.showWrap

/-- LACE_SYMBOL_LOCK: DOWN to TRAIN (R407). -/
def execLaceSymbolLock (p : Nat) (s : State) : Host.Outcome State Fault Refusal :=
  .next (if s.portOk p && s.portSt p == 0 then s.portPut p 1 else s)

/-- LACE_LANES_ALIGNED: TRAIN to HELLO within 10 µs (R407). -/
def execLaceLanesAligned (p : Nat) (s : State) : Host.Outcome State Fault Refusal :=
  .next (if s.portOk p && s.portSt p == 1 && decide (s.since (s.port p).at_ ≤ 10000) then
    (s.portPut p 2).setPort p { at_ := s.now }
  else s)

/-- LACE_TRAIN_TIMEOUT: 10 µs without alignment (R407). -/
def execLaceTrainTimeout (p : Nat) (s : State) : Host.Outcome State Fault Refusal :=
  .next (if s.portOk p && s.portSt p == 1 && s.passed (s.port p).at_ 10000 then s.portPut p 0 else s)

/-- CRC errors of the last 100 µs (R407). -/
def State.crcRecent (s : State) (p : Nat) : Nat := ((s.port p).crc.filter (fun t => decide (s.since t ≤ 100000))).length

/-- LACE_PORT_DOWN: no HELLO for 300 µs, loss of symbol lock, or 16 CRC errors within 100 µs (R407). -/
def execLacePortDown (p : Nat) (lockLost : Bool) (s : State) : Host.Outcome State Fault Refusal :=
  .next (if s.portOk p && s.portUp p
      && (lockLost || s.passed (s.port p).at_ 300000 || decide (16 ≤ s.crcRecent p)) then
    let s := s.portPut p 0
    s.fault 0x70 (s.f F.LACE_PORTp_STATUS_NEIGHBOUR p)
  else s)

/-- LACE_WAKE_PATTERN_SEND: once every 1 ms on a DOWN port (R408). -/
def execLaceWakePatternSend (p : Nat) (s : State) : Host.Outcome State Fault Refusal :=
  .next (if s.portOk p && s.portSt p == 0 && s.on F.LACE_CTRL_WAKE_PEER && s.due 20 p 1000000 0 then
    let s := s.serve 20 p
    { s with lace := { s.lace with wakes := Tab.set 0 s.lace.wakes p (Tab.get 0 s.lace.wakes p + 1) } }
  else s)

/-- LACE_FRAME_CRC_FAIL: the frame and the rest of its message are discarded, and counted (R410). -/
def execLaceFrameCrcFail (p : Nat) (s : State) : Host.Outcome State Fault Refusal :=
  .next (if s.portOk p && decide (1 ≤ s.portSt p) && decide (s.portSt p ≤ 3) then
    let x := s.port p
    (s.incf F.LACE_PORTp_COUNT_CRC_ERR p).setPort p { x with crc := (s.now :: x.crc).take 16 }
  else s)

/-- LACE_RESERVED_TYPE: a frame of reserved TYPE is discarded and counted (R414). -/
def execLaceReservedType (p : Nat) (s : State) : Host.Outcome State Fault Refusal :=
  .next (if s.portOk p && (s.portSt p == 2 || s.portSt p == 3) then s.incf F.LACE_PORTp_COUNT_DROPPED p else s)

/-- A write of LACE_CTRL: while EN is 0 both ports are DOWN. -/
def writeLaceCtrl (by_ : Writer) (w : Word) (s : State) : State × Bool :=
  let r := writeReg s by_ R.LACE_CTRL 0 w
  let s := r.1
  (if s.on F.LACE_CTRL_EN then s
   else [0, 1].foldl (fun s p => if s.portSt p = 0 ∨ s.portSt p = 4 then s else s.portPut p 0) s, r.2)

/-! ### Receiving (R412) -/

/-- The time of a symbol in 1/16 ns. -/
def State.stamp16 (s : State) (early : Nat) : Int := (s.now.toNat : Int) * 16 - early

/-- A copy of a message of type `typ` that arrives on port `p` and is taken: its length fits, it is addressed to this
governor, no copy has been taken before, and a site in conflict takes no unicast message (R412, R414, R417). -/
def State.laceRx (s : State) (p : Nat) (l : List Word64) (typ : Nat) : Option LaceMsg :=
  match parseMsg l with
  | none => none
  | some (m, _) =>
    let st := s.portSt p
    let lenOk := msgLength m == some l.length
    let dup := (Tab.get [] s.lace.seen m.src).contains m.mseq
    let mine := m.bcast || (m.dst == s.site && !s.on F.LACE_ID_SITE_CONFLICT)
    if s.portOk p && m.typ == typ && lenOk && !dup &&
        (if neighbourOnly typ then st == 2 || st == 3 else st == 3 && mine && m.src != s.site) then some m else none

/-- A message has been taken: later copies of it are discarded (R412). -/
def State.noteSeen (s : State) (m : LaceMsg) : State :=
  { s with lace := { s.lace with seen := Tab.set [] s.lace.seen m.src ((m.mseq :: Tab.get [] s.lace.seen m.src).take 64) } }

/-- Take a message, and do with it what its type says. -/
def State.laceTake (s : State) (p : Nat) (l : List Word64) (typ : Nat) (act : LaceMsg → State → State) : State :=
  match s.laceRx p l typ with
  | none => s
  | some m => act m (s.noteSeen m)

/-- A body word. -/
def LaceMsg.w (m : LaceMsg) (k : Nat) : Nat := m.body.getD k 0

/-! ### HELLO and link delay (R407, R416, R421) -/

/-- A port in HELLO comes UP once both its counts are complete (R407). -/
def State.tryUp (s : State) (p : Nat) : State :=
  let x := s.port p
  if s.portSt p = 2 ∧ 3 ≤ x.hellos ∧ 16 ≤ x.delays.length then
    let s := s.setf F.LACE_PORTp_STATUS_NEIGHBOUR p x.helloSite
    s.portPut p 3
  else s

/-- Another governor with HEAD_EN: the lower site stays head (R416). -/
def State.headCheck (s : State) (site : Nat) (headEn : Bool) : State :=
  if headEn && s.on F.LACE_ID_HEAD_EN && s.isHead && decide (site < s.site) then
    let s := (s.setf F.LACE_ID_IS_HEAD 0 0).setf F.LACE_ID_HEAD_CONFLICT 0 1
    (s.fault 0x71 s.site).peer s.site 0x09
  else s

/-- LACE_HELLO: a HELLO message arrives (R407, R416). -/
def execLaceHello (p : Nat) (frames : List Word64) (s : State) : Host.Outcome State Fault Refusal :=
  .next (s.laceTake p frames 1 (fun m s =>
    let site := m.w 0 / 2 ^ 26
    let x := s.port p
    let s :=
      if s.portSt p = 3 then s.setPort p { x with at_ := s.now }
      else
        (s.setPort p { x with hellos := if x.helloSite = site then x.hellos + 1 else 1, helloSite := site }).tryUp p
    s.headCheck site ((m.w 0).testBit 25)))

/-- LACE_HELLO_SEND: every 100 µs on each port in HELLO or UP (R407, R414). -/
def execLaceHelloSend (p : Nat) (s : State) : Host.Outcome State Fault Refusal :=
  .next (if s.portOk p && (s.portSt p == 2 || s.portSt p == 3) && s.due 21 p 100000 0 then
    (s.serve 21 p).laceSendPort p {
      typ := 1,
      body := [s.site * 2 ^ 26 + (if s.on F.LACE_ID_HEAD_EN then 2 ^ 25 else 0) + (if s.isMember then 2 ^ 24 else 0)] }
  else s)

/-- LACE_DELAY_REQ_SEND: every 10 µs; the departure is stamped (R421). -/
def execLaceDelayReqSend (p : Nat) (early : Nat) (s : State) : Host.Outcome State Fault Refusal :=
  .next (if s.portOk p && (s.portSt p == 2 || s.portSt p == 3) && s.due 22 p 10000 0 then
    let s := (s.serve 22 p).laceSendPort p { typ := 2, body := [0] }
    s.setPort p { s.port p with t1 := some (s.stamp16 early).toNat }
  else s)

/-- LACE_DELAY_REQ: the neighbour's request is answered with the residence in 1/16 ns (R421). -/
def execLaceDelayReq (p : Nat) (frames : List Word64) (residence : Nat) (s : State) : Host.Outcome State Fault Refusal :=
  .next (s.laceTake p frames 2 (fun _ s => s.laceSendPort p { typ := 3, body := [residence] }))

/-- LACE_DELAY_RSP: the link delay is measured, and DELAY is the mean of the last 16 (R421). Twice the delay is kept, so
that the mean is rounded once. -/
def execLaceDelayRsp (p : Nat) (frames : List Word64) (early : Nat) (s : State) : Host.Outcome State Fault Refusal :=
  .next (s.laceTake p frames 3 (fun m s =>
    let x := s.port p
    match x.t1 with
    | none => s
    | some t1 =>
      let d := (s.stamp16 early - t1) - m.w 0
      let ds := (d :: x.delays).take 16
      let s := s.setPort p { x with t1 := none, delays := ds }
      let mean := divNearest ds.sum (2 * ds.length)
      (s.setf F.LACE_PORTp_STATUS_DELAY p (clampInt 0 65535 mean).toNat).tryUp p))

/-! ### Forwarding (R413, R415, R422) -/

/-- LACE_MESSAGE_FORWARD: a copy not addressed to this governor alone goes on, out of the opposite port or, wrapped, back
out of the same one; `residence` is its stay in 1/16 ns (R413, R415, R422). -/
def execLaceMessageForward (p : Nat) (frames : List Word64) (residence : Nat) (s : State) :
    Host.Outcome State Fault Refusal :=
  .next (match parseMsg frames with
  | none => s
  | some (m, ringW) =>
    let own := m.src == s.site
    let mine := !m.bcast && m.dst == s.site
    if s.portOk p && s.portUp p && msgLength m == some frames.length && !neighbourOnly m.typ && !mine then
      let h := m.hops + 1
      if own || decide (63 ≤ h) then { s with lace := { s.lace with out := [] } }
      else
        let corr := m.w 2 + s.f F.LACE_PORTp_STATUS_DELAY p + residence
        let body := if m.typ = 4 then [m.w 0, m.w 1, corr % 2 ^ 32] else m.body
        let q := if s.portUp (1 - p) then 1 - p else p
        { s with lace := { s.lace with out := laceFrames { m with hops := h, body := body } q ringW } }
    else s)

/-! ### Time alignment (R422 to R425) -/

/-- LACE_TIME_SEND: every 10 µs the head broadcasts its time (R414, R422, R424). -/
def execLaceTimeSend (s : State) : Host.Outcome State Fault Refusal :=
  .next (if s.portsOn && s.isHead && s.lace.timeOn && s.due 23 0 10000 0 then
    let t := s.now.toNat
    (s.serve 23 0).laceSend { typ := 4, bcast := true, body := [t / 2 ^ 32, t % 2 ^ 32, 0] }
  else s)

/-- The member corrects its count from an offset in 1/16 ns (R41, R423). -/
def State.correctTime (s : State) (o : Int) : State :=
  if o ≤ -16000 then
    let s := { s with lace := { s.lace with integ := 0 } }
    (writeTimeStep (BitVec.ofNat 32 (min ((-o) / 16).toNat 1073741823)) s).1
  else
    let i := clampInt (-8192000) 8192000 (s.lace.integ + o)
    let s := { s with lace := { s.lace with integ := i } }
    s.setTrim (divNearest (-(16 * o + i) * 2 ^ 20) 1000)

/-- ALIGNED after an offset in 1/16 ns (R425). -/
def State.judgeOffset (s : State) (o : Int) : State :=
  let lim := max 1 (s.f F.LACE_ALIGN_ALIGN)
  let run := if o.natAbs ≤ lim then s.lace.alignRun + 1 else 0
  let s := { s with lace := { s.lace with alignRun := min run 16 } }
  if 4 * lim < o.natAbs ∨ s.on F.TIME_STATUS_ON_OSC then s.clearAligned
  else if 16 ≤ run ∧ !s.on F.LACE_TIME_ALIGNED then (s.setf F.LACE_TIME_ALIGNED 0 1).peer s.site 0x06
  else s

/-- LACE_TIME: a governor that is not the head computes its offset and corrects its count (R422, R423, R425). -/
def execLaceTime (p : Nat) (frames : List Word64) (early : Nat) (s : State) : Host.Outcome State Fault Refusal :=
  .next (if s.isHead then s else s.laceTake p frames 4 (fun m s =>
    let s := { s with lace := { s.lace with headSite := some m.src, timeAt := s.now } }
    let s := s.setf F.LACE_TIME_NO_TIME 0 0
    if s.f F.TIME_STEP_STATUS = 1 then s
    else
      let t := m.w 0 * 2 ^ 32 + m.w 1
      let o := (BitVec.ofNat 64 s.now.toNat - BitVec.ofNat 64 t).toInt * 16 - early - m.w 2
      let s := { s with lace := { s.lace with measured := true } }
      let s := (s.setfiSat F.LACE_TIME_OFFS 0 o).setf F.LACE_TIME_HOPS 0 m.hops
      let s := s.trace 13 0 s.site (ofSigned 32 (satSigned 32 o))
      (s.correctTime o).judgeOffset o))

/-- LACE_TIME_TIMEOUT: no TIME for 1 ms (R425). -/
def execLaceTimeTimeout (s : State) : Host.Outcome State Fault Refusal :=
  .next (if s.laceOn && !s.isHead && !s.on F.LACE_TIME_NO_TIME && s.passed s.lace.timeAt 1000000 then
    (s.setf F.LACE_TIME_NO_TIME 0 1).clearAligned
  else s)

/-- LACE_HEAD_START_HOLD_END: the head begins to send TIME 1 ms after its island started (R424). -/
def execLaceHeadStartHoldEnd (s : State) : Host.Outcome State Fault Refusal :=
  .next (if s.laceOn && s.isHead && !s.lace.timeOn && s.passed s.lace.startAt 1000000 then
    { s with lace := { s.lace with timeOn := true } }
  else s)

/-! ### Membership (R416 to R420) -/

/-- The member bitmap of LACE_MEMBERS. -/
def State.memberMap (s : State) : Nat := s.pair R.LACE_MEMBERS_LO R.LACE_MEMBERS_HI

/-- The head's members, itself included. -/
def State.headMembers (s : State) : List Nat :=
  (List.range 64).filter (fun k => k == s.site || s.lace.members.testBit k)

/-- LACE_JOIN_SEND: every 100 µs while not a member, with a port UP and one offset measured (R417). -/
def execLaceJoinSend (s : State) : Host.Outcome State Fault Refusal :=
  .next (if s.portsOn && !s.isHead && !s.isMember && (s.portUp 0 || s.portUp 1) && s.lace.measured
      && s.due 24 0 100000 0 then
    let s := s.serve 24 0
    let t := s.now.toNat
    let s := s.laceSend { typ := 5, dst := s.lace.headSite.getD 0, body := [s.site, t / 2 ^ 32, t % 2 ^ 32] }
    match s.lace.joinAt with
    | some _ => s
    | none => { s with lace := { s.lace with joinAt := some s.now } }
  else s)

/-- LACE_JOIN: the head admits the site at the next MEMBERS, and during its start-up hold steps its own count to 1 µs past
the greatest time received (R417, R424). -/
def execLaceJoin (p : Nat) (frames : List Word64) (s : State) : Host.Outcome State Fault Refusal :=
  .next (if !s.isHead then s else s.laceTake p frames 5 (fun m s =>
    let site := m.w 0 % 64
    let t := m.w 1 * 2 ^ 32 + m.w 2
    let fenced := Tab.get false s.flt.fencedPeers site
    let s := if fenced || s.lace.members.testBit site then s
      else { s with lace := { s.lace with joins := setBit s.lace.joins site true } }
    let s := { s with lace := { s.lace with joinTime := max s.lace.joinTime t } }
    if !s.lace.timeOn ∧ s.now.toNat < s.lace.joinTime ∧ s.f F.TIME_STEP_STATUS ≠ 1 then
      (writeTimeStep (BitVec.ofNat 32 (min (s.lace.joinTime + 1000 - s.now.toNat) 1073741823)) s).1
    else s))

/-- Show a member bitmap, and whether the own site is in it. -/
def State.showMembers (s : State) (m : Nat) : State :=
  (s.setPair R.LACE_MEMBERS_LO R.LACE_MEMBERS_HI 0 m).setb F.LACE_ID_MEMBER 0 (m.testBit s.site)

/-- The head admits a site, which has the time of a REPORT from then on (R417 to R419). -/
def State.admitSite (s : State) (site : Nat) : State :=
  let s := { s with lace := { s.lace with
    members := setBit s.lace.members site true, reportAt := Tab.set 0 s.lace.reportAt site s.now } }
  s.peer site 0x01

/-- LACE_MEMBERS_SEND: every 100 µs the head admits the sites that have sent JOIN, reports them, and broadcasts the member
bitmap (R414, R417, R419). -/
def execLaceMembersSend (s : State) : Host.Outcome State Fault Refusal :=
  .next (if s.portsOn && s.isHead && s.due 25 0 100000 0 then
    let s := s.serve 25 0
    let s := ((List.range 64).filter (fun k => s.lace.joins.testBit k && k != s.site)).foldl State.admitSite s
    let s := { s with lace := { s.lace with joins := 0 } }
    let m := setBit s.lace.members s.site true
    (s.showMembers m).laceSend { typ := 6, bcast := true, body := [m % 2 ^ 32, m / 2 ^ 32] }
  else s)

/-- LACE_MEMBERS: a governor receives the bitmap: it is a member, or returns to JOIN (R417, R418). -/
def execLaceMembers (p : Nat) (frames : List Word64) (s : State) : Host.Outcome State Fault Refusal :=
  .next (if s.isHead then s else s.laceTake p frames 6 (fun m s =>
    let map := m.w 1 * 2 ^ 32 + m.w 0
    let s := { s with lace := { s.lace with headSite := some m.src, membersAt := s.now, headLost := false } }
    let s := s.showMembers map
    if s.isMember then { s with lace := { s.lace with joinAt := none } } else s))

/-- Relayed commands of a dropped site end with LOST_PEER (R433): their outcome is 0x2000000. -/
def State.lostPeer (s : State) (site : Nat) : State :=
  let s := (s.lace.relays.filter (fun (r : RelayEnt) => r.site == site)).foldl
    (fun s r => s.slotOutcome (some r.slot) 0x2000000) s
  let s := { s with lace := { s.lace with relays := s.lace.relays.filter (fun (r : RelayEnt) => !(r.site == site)) } }
  s.setf F.LACE_RELAY_OUTSTANDING 0 s.lace.relays.length

/-- The head drops a member (R418, R419). -/
def State.dropMember (s : State) (site code : Nat) : State :=
  let s := { s with lace := { s.lace with
    members := setBit s.lace.members site false, joins := setBit s.lace.joins site false } }
  (s.peer site code).lostPeer site

/-- LACE_MEMBER_TIMEOUT: no REPORT from a member for 300 µs (R418, R433). -/
def execLaceMemberTimeout (site : Nat) (s : State) : Host.Outcome State Fault Refusal :=
  .next (if s.laceOn && s.isHead && site != s.site && s.lace.members.testBit site
      && s.passed (Tab.get 0 s.lace.reportAt site) 300000 then s.dropMember site 0x02
  else s)

/-- LACE_HEAD_LOST: a member receives no MEMBERS for 1 ms (R420). -/
def execLaceHeadLost (s : State) : Host.Outcome State Fault Refusal :=
  .next (if s.laceOn && !s.isHead && s.isMember && s.passed s.lace.membersAt 1000000 then
    let s := { s with lace := { s.lace with headLost := true } }
    (s.setf F.LACE_SHARE_NO_SHARE 0 1).setf F.LACE_ID_MEMBER 0 0
  else s)

/-- LACE_SITE_CONFLICT: JOIN sent for 1 ms without admission while a port is UP (R417). -/
def execLaceSiteConflict (s : State) : Host.Outcome State Fault Refusal :=
  .next (match s.lace.joinAt with
  | none => s
  | some t =>
    if s.laceOn && !s.isMember && (s.portUp 0 || s.portUp 1) && !s.on F.LACE_ID_SITE_CONFLICT && s.passed t 1000000 then
      ((s.setf F.LACE_ID_SITE_CONFLICT 0 1).fault 0x71 s.site).peer s.site 0x0A
    else s)

/-- The collector fences a Lace peer: the facing port is FENCED, and the head drops the site (R407, R418, R441). -/
def State.fencePeer (s : State) (site : Nat) : State :=
  let s := { s with flt := { s.flt with fencedPeers := Tab.set false s.flt.fencedPeers site true } }
  let s := [0, 1].foldl (fun s p =>
    if s.f F.LACE_PORTp_STATUS_NEIGHBOUR p = site ∧ s.portSt p ≠ 4 then s.portPut p 4 else s) s
  let s := { s with lace := { s.lace with joins := setBit s.lace.joins site false } }
  if s.isHead && s.lace.members.testBit site then s.dropMember site 0x03 else s

/-- UNFENCE of a Lace peer (R407). -/
def State.unfencePeer (s : State) (site : Nat) : State :=
  let s := { s with flt := { s.flt with fencedPeers := Tab.set false s.flt.fencedPeers site false } }
  [0, 1].foldl (fun s p =>
    if s.f F.LACE_PORTp_STATUS_NEIGHBOUR p = site ∧ s.portSt p = 4 then s.portPut p 0 else s) s

/-! ### The module budget (R426 to R429) -/

/-- USED: the mean of class 0x4 since the last report; the newest value where none has arrived (R426). -/
def State.laceUsed (s : State) : Nat :=
  let v : SrcVal := Tab.get {} s.loop.src 0x4000
  let n := v.n - s.lace.usedNum
  (clampInt 0 65535 (if n = 0 then v.v else divNearest (v.sum - s.lace.usedSum) n)).toNat

/-- S of R426 as a power code: the mean STALLED per epoch, 2 codes to the ec. -/
def State.laceStall (s : State) : Nat := (divNearest s.lace.stallSum (8 * max 1 s.lace.stallNum)).toNat

/-- DEBT of R427. -/
def State.laceDebt (s : State) : Nat :=
  match s.source 0x58C3 with
  | none => 0
  | some v => if s.srcLost 0x58C3 then 0 else (clampInt 0 32767 (v.1 - 16 * (s.f F.THM_MEM_LVL_NORMAL : Nat))).toNat

/-- The head records a site's DEBT (R427). -/
def State.noteDebt (s : State) (site d : Nat) : State :=
  let s := { s with lace := { s.lace with debts := Tab.set 0 s.lace.debts site d } }
  s.setb F.LACE_SITEs_SHR_DEBT_FLAG site (decide (0 < d))

/-- LACE_REPORT_SEND: at each multiple of 100 µs (R426, R427); the head records its own values (R428); a member that has
lost its head goes on with DEBT (R420). -/
def execLaceReportSend (s : State) : Host.Outcome State Fault Refusal :=
  .next (if s.laceOn && (s.isHead || s.isMember || s.lace.headLost) && s.due 26 0 100000 0 then
    let s := s.serve 26 0
    let used := s.laceUsed
    let want := min (s.f F.LACE_LIMIT_MAXW) (used + s.laceStall)
    let debt := s.laceDebt
    let v : SrcVal := Tab.get {} s.loop.src 0x4000
    let s := { s with lace := { s.lace with
      usedSum := v.sum, usedNum := v.n, stallSum := 0, stallNum := 0, out := [] } }
    let s := s.setf F.LACE_DEBT_DEBT 0 debt
    let s :=
      if s.isHead then
        ((s.setf F.LACE_SITEs_RPT_WANT s.site want).setf F.LACE_SITEs_RPT_USED s.site used).noteDebt s.site debt
      else s
    let s :=
      if s.isHead || s.isMember then (s.setf F.LACE_REPORT_WANT 0 want).setf F.LACE_REPORT_USED 0 used else s
    let s :=
      if !s.isHead && s.isMember then
        s.laceSendAlso { typ := 7, dst := s.lace.headSite.getD 0, body := [want * 2 ^ 16 + used] }
      else s
    s.laceSendAlso { typ := 9, bcast := true, body := [debt] }
  else s)

/-- LACE_REPORT: the head records a member's REPORT (R418, R428). -/
def execLaceReport (p : Nat) (frames : List Word64) (s : State) : Host.Outcome State Fault Refusal :=
  .next (if !s.isHead then s else s.laceTake p frames 7 (fun m s =>
    let s := { s with lace := { s.lace with reportAt := Tab.set 0 s.lace.reportAt m.src s.now } }
    (s.setf F.LACE_SITEs_RPT_WANT m.src (m.w 0 / 65536)).setf F.LACE_SITEs_RPT_USED m.src (m.w 0 % 65536)))

/-- LACE_DEBT: the head records a member's DEBT (R427). -/
def execLaceDebt (p : Nat) (frames : List Word64) (s : State) : Host.Outcome State Fault Refusal :=
  .next (if !s.isHead then s else s.laceTake p frames 9 (fun m s => s.noteDebt m.src (m.w 0 % 65536)))

/-- A share is delivered as class 0xA (R429). -/
def State.takeShare (s : State) (v : Nat) : State :=
  let s := { s with lace := { s.lace with shareAt := s.now } }
  let s := ((s.setf F.LACE_SHARE_SHARE 0 v).setf F.LACE_SHARE_NO_SHARE 0 0).post 0xA000 v
  s.trace 13 1 s.site v

/-- A member's want in the share computation (R428). -/
def shareWant (floor wantRpt used debt : Nat) : Nat :=
  let w := wantRpt - floor
  if 0 < debt then min w (used - floor) else w

/-- The level and the spare of R428 for the wants and the budget above the floors. -/
def shareLevel (wants : List Nat) (b : Nat) : Nat × Nat :=
  let sum := fun (l : Nat) => (wants.map (fun w => min w l)).sum
  let l := largest 17 (fun l => decide (sum l ≤ b))
  (l, b - sum l)

/-- LACE_SHARE_COMPUTE: 50 µs after each multiple of 100 µs (R428). -/
def execLaceShareCompute (s : State) : Host.Outcome State Fault Refusal :=
  .next (if s.laceOn && s.isHead && s.due 27 0 100000 50000 then
    let s := { (s.serve 27 0) with lace := { s.lace with out := [] } }
    let budget := (s.rd R.LACE_BUDGET).toNat
    if budget = 0 then s
    else
      let ms := s.headMembers
      let floor := s.f F.LACE_FLOOR_FLOOR_W
      let want := fun (k : Nat) => shareWant floor (s.f F.LACE_SITEs_RPT_WANT k) (s.f F.LACE_SITEs_RPT_USED k)
        (Tab.get 0 s.lace.debts k)
      let b : Int := (budget : Int) - ms.length * floor
      let q := if b < 0 then (0, 0) else shareLevel (ms.map want) b.toNat
      ms.foldl (fun s k =>
        let v := min (min (floor + min (want k) q.1 + q.2 / ms.length) (s.f F.LACE_LIMIT_MAXW)) 0xFFFF
        let s := s.setf F.LACE_SITEs_SHR_SHARE k v
        if k = s.site then s.takeShare v else s.laceSendAlso { typ := 8, dst := k, body := [v] }) s
  else s)

/-- LACE_SHARE: a member receives its share (R429). -/
def execLaceShare (p : Nat) (frames : List Word64) (s : State) : Host.Outcome State Fault Refusal :=
  .next (if s.isHead then s else s.laceTake p frames 8 (fun m s => s.takeShare (m.w 0 % 65536)))

/-- LACE_SHARE_TIMEOUT: no SHARE for 300 µs: the fallback share is delivered (R429). -/
def execLaceShareTimeout (s : State) : Host.Outcome State Fault Refusal :=
  .next (if s.laceOn && s.passed s.lace.shareAt 300000 then
    let v := s.f F.LACE_LIMIT_FALLBACK_W
    ((s.setf F.LACE_SHARE_SHARE 0 v).setf F.LACE_SHARE_NO_SHARE 0 1).post 0xA000 v
  else s)

/-- LACE_SLOW: a peer's SLOW is recorded and posted (R435). -/
def execLaceSlow (p : Nat) (frames : List Word64) (s : State) : Host.Outcome State Fault Refusal :=
  .next (s.laceTake p frames 10 (fun m s =>
    let s := (s.setf F.LACE_SLOW_SRC_SITE 0 m.src).setf F.LACE_SLOW_SRC_WIN_ID 0 (m.w 0 / 65536)
    (s.setf F.LACE_SLOW_DELAY_DELAY_US 0 (m.w 1)).peer m.src 0x08))

end Sys2Proof.Machine
end

