-- ==== Sys2Proof/Machine/Fault.lean ====
section
/-! DEFINITION. The fault collector (spec chapter 12): acceptance and counting, reactions and fences, clearing, the
pins ERR_N and SAFE_N, safe state, and injection with the Awl. -/
namespace Sys2Proof.Machine
open Sys2Proof

/-! ### Pins and levels (R443, R445) -/

/-- ERR_N and SAFE_N follow their conditions unless both are held low since power-on (R445). -/
def State.showPins (s : State) : State :=
  { s with flt := { s.flt with
    errN := !s.flt.pinHold && s.f F.FLT_STATUS_N_UNCLEARED == 0,
    safeN := !s.flt.pinHold && !s.safe } }

/-- The level of a level row is asserted. -/
def State.faultLevel (s : State) (row : Nat) : Bool :=
  match row with
  | 0x00 => s.on F.FLT_STATUS_SELF_FAULT
  | 0x01 => s.thm.sens.any (fun (e : Nat × SensSt) => decide (2 ≤ e.2.crit) && !e.2.broken)
  | 0x0A => s.on F.TIME_STATUS_ON_OSC
  | 0x12 => s.on F.FLT_CTRL_FORCE_SAFE
  | 0x71 => s.on F.LACE_ID_HEAD_CONFLICT || s.on F.LACE_ID_SITE_CONFLICT
  | _ => false

/-- A row is uncleared. -/
def State.uncleared (s : State) (row : Nat) : Bool := s.on F.FLTRr_STATUS_UNCLEARED row

/-- Put a row's UNCLEARED at a level: its register, the bitmap, the count and the pins. -/
def State.putUncleared (s : State) (row : Nat) (b : Bool) : State :=
  if s.uncleared row = b then s
  else
    let n := s.f F.FLT_STATUS_N_UNCLEARED
    let s := (s.setb F.FLTRr_STATUS_UNCLEARED row b).setBitf F.FLT_UNCLEAREDk_ROWS (row / 32) (row % 32) b
    (s.setf F.FLT_STATUS_N_UNCLEARED 0 (if b then n + 1 else n - 1)).showPins

/-! ### Safe state (R446 to R448) -/

/-- Enter safe state for a row, or only log where it is active (R446, R447). -/
def State.safeEnter (s : State) (row : Nat) : State :=
  if s.safe then s.log 0x0201 0 (s.f F.FLT_STATUS_SAFE_CAUSE)
  else
    let s := (s.setf F.FLT_STATUS_SAFE 0 1).setf F.FLT_STATUS_SAFE_CAUSE 0 row
    let s := ({ s with flt := { s.flt with safeLine := true } }).showPins
    let s := (s.log 0x0201 0 row).trigger 0x04 3 row
    let s := s.clampSet 4 0 true
    let s := s.railsSafe
    let s := (s.winClose).setf F.CRD_CTRL_FROZEN 0 1
    s.showWakeHeld

/-- Safe state ends (R448). -/
def State.safeLeave (s : State) : State :=
  let s := s.setf F.FLT_STATUS_SAFE 0 0
  let s := ({ s with flt := { s.flt with safeLine := false } }).showPins
  let s := s.log 0x0202 0 (s.f F.FLT_STATUS_SAFE_CAUSE)
  let s := s.clampSet 4 0 false
  let s := s.railsSafe
  let s := s.setf F.CRD_CTRL_FROZEN 0 0
  s.resumeHeld

/-- The reaction of a row: 0 LOG, 1 FENCE, 2 SAFE; 3 acts as SAFE (R441). -/
def State.reaction (s : State) (row : Nat) : Nat := min (s.f F.FLTRr_CFG_REACTION row) 2

/-- Why SAFE_EXIT is refused: the lowest uncleared SAFE row, or 0x100 (R448). -/
def State.safeExitRefused (s : State) : Option Nat :=
  match (List.range 256).find? (fun r => s.uncleared r && s.reaction r == 2) with
  | some r => some r
  | none => if s.on F.FLT_CTRL_FORCE_SAFE || s.sag then some 0x100 else none

/-! ### Fences (R441) -/

/-- The kinds of unit that can be fenced. -/
inductive UnitKind where
  | core | phase | sensor | peer | pair | bank | domain | other
  deriving DecidableEq, Repr

/-- The unit kind of a row (R442). -/
def rowKind (row : Nat) : UnitKind :=
  match row with
  | 0x40 | 0x41 | 0x42 | 0x43 | 0x47 => .core
  | 0x20 | 0x21 | 0x22 | 0x23 | 0x24 | 0x25 | 0x26 | 0x2E => .phase
  | 0x01 | 0x60 => .sensor
  | 0x70 => .peer
  | 0x02 | 0x03 | 0x04 => .pair
  | 0x08 | 0x09 | 0x11 => .bank
  | 0x0E | 0x0F | 0x10 => .domain
  | _ => .other

/-- A Cobbler pair is fenced. -/
def State.pairFenced (s : State) (p : Nat) : Bool :=
  if p = 0 then s.on F.EYE_FW_FENCED_A else s.on F.EYE_FW_FENCED_B

/-- Set or clear a pair's fence. -/
def State.putPairFenced (s : State) (p : Nat) (b : Bool) : State :=
  if p = 0 then s.setb F.EYE_FW_FENCED_A 0 b else s.setb F.EYE_FW_FENCED_B 0 b

/-- The active pair. -/
def State.activePair (s : State) : Nat := s.f F.EYE_FW_ACTIVE

/-- Fence a Cobbler pair: the standby takes over from the active one, and is woken where it sleeps; without a standby no
firmware runs (R394, R396). -/
def State.fencePair (s : State) (p : Nat) : State :=
  let ready := s.on F.EYE_FW_STANDBY_READY
  let active := s.activePair
  let s := (s.putPairFenced p true).setf F.EYE_FW_STANDBY_READY 0 0
  if p ≠ active then s
  else if ready && !s.pairFenced (1 - p) then
    let s := s.setf F.EYE_FW_ACTIVE 0 (1 - p)
    let s := s.setFw { s.eye.fw with takeover := true, resuming := true, running := false }
    let s := s.fwChanged
    if s.domRest (0x460 + (1 - p)) = 0 then s else s.domRequest (0x460 + (1 - p)) 0 9 none false
  else s.setFw { s.eye.fw with running := false }

/-- Fence a core: its station leaves the entrants, its balance is drained, and OFF is requested of its domain (R85,
R441). -/
def State.fenceCore (s : State) (n : Nat) : State :=
  ((s.setf F.CRDSn_STATUS_FENCED n 1).drainStation n).fenceDomain n

/-- The unit is fenced already. -/
def State.isFenced (s : State) (k : UnitKind) (u : Nat) : Bool :=
  match k with
  | .core => s.on F.CRDSn_STATUS_FENCED u
  | .phase => s.phSt u == PH_FAILED
  | .sensor => Tab.get false s.flt.fencedSensors u
  | .peer => Tab.get false s.flt.fencedPeers u
  | .pair => s.pairFenced u
  | .bank => s.bankFenced u
  | .domain =>
    if u < 0x400 then s.on F.CRDSn_STATUS_FENCED u
    else if u = 0x460 ∨ u = 0x461 then s.pairFenced (u - 0x460) else s.domFenced u
  | .other => false

/-- The unit exists. -/
def unitExists (k : UnitKind) (u : Nat) : Bool :=
  match k with
  | .core => decide (u < Config.coreCount)
  | .phase => decide (u < Config.phaseCount)
  | .sensor => sensPresent u
  | .peer => decide (u < 64)
  | .pair => decide (u < 2)
  | .bank => decide (u < 8)
  | .domain => domainPresent u
  | .other => false

/-- Fence a unit (R441). -/
def State.fenceUnit (s : State) (k : UnitKind) (u : Nat) : State :=
  if s.isFenced k u || !unitExists k u then s
  else match k with
  | .core => s.fenceCore u
  | .phase => s.phFence u
  | .sensor => { s with flt := { s.flt with fencedSensors := Tab.set false s.flt.fencedSensors u true } }
  | .peer => s.fencePeer u
  | .pair => s.fencePair u
  | .bank => s.fenceBank u 0
  | .domain =>
    if u < 0x400 then s.fenceCore u
    else if u = 0x460 ∨ u = 0x461 then s.fencePair (u - 0x460) else s.fenceDomain u
  | .other => s

/-! ### Acceptance and counting (R438 to R440) -/

/-- A tracker entry of a row. -/
def State.trk (s : State) (row k : Nat) : TrkEnt := Tab.get {} s.flt.trk (8 * row + k)
def State.setTrk (s : State) (row k : Nat) (x : TrkEnt) : State :=
  let s := { s with flt := { s.flt with trk := Tab.set {} s.flt.trk (8 * row + k) x } }
  s.setf F.FLTRr_STATUS_TRK_USED row ((List.range 8).filter (fun j => (s.trk row j).used)).length

/-- The window of an entry that started at `start` has expired at `t` (R439). -/
def State.winExpired (s : State) (row : Nat) (start t : Word64) : Bool :=
  let w := s.f F.FLTRr_CFG_WIN_MS row
  decide (w ≠ 0) && decide (w * 1000000 ≤ (t - start).toNat)

/-- The entry with the lowest count, ties to the oldest window start. -/
def State.leastEntry (s : State) (row : Nat) : Nat :=
  (List.range 8).foldl (fun best k =>
    let b := s.trk row best
    let e := s.trk row k
    if e.count < b.count ∨ (e.count = b.count ∧ e.start.toNat < b.start.toNat) then k else best) 0

/-- The tracker entry an event selects, and whether it has just been set to the unit (R439). -/
def State.selectEntry (s : State) (row unit : Nat) (t : Word64) : Nat × Bool :=
  match (List.range 8).find? (fun k => (s.trk row k).used && (s.trk row k).unit == unit) with
  | some k => (k, false)
  | none =>
    match (List.range 8).find? (fun k => !(s.trk row k).used) with
    | some k => (k, true)
    | none =>
      match (List.range 8).find? (fun k => s.winExpired row (s.trk row k).start t) with
      | some k => (k, true)
      | none => (s.leastEntry row, true)

/-- The reaction of a row acts on a unit, with its trigger; FENCE on a row whose unit kind has no fence acts as LOG (R441,
R500). -/
def State.react (s : State) (row unit : Nat) : State :=
  match s.reaction row with
  | 0 => s
  | 1 => if rowKind row = .other then s else (s.trigger 0x02 1 row).fenceUnit (rowKind row) unit
  | _ => (s.trigger 0x02 1 row).safeEnter row

/-- Count a severe event of a row (R440, R459). -/
def State.countSevere (s : State) (row : Nat) : State :=
  let s := s.incf F.FLTRr_STATUS_SEVERE row
  { s with flt := { s.flt with severe := Tab.set 0 s.flt.severe row (Tab.get 0 s.flt.severe row + 1) } }

/-- An event is severe (R440). -/
def State.severeEvent (s : State) (e : FaultEv) (count : Nat) : State :=
  (((s.countSevere e.row).putUncleared e.row true).react e.row e.unit).notice 5 e.row count

/-- Count an accepted event (R439). -/
def State.countEvent (s : State) (e : FaultEv) : State :=
  let s := s.setf F.FLTRr_TOTAL_EVENTS e.row (s.f F.FLTRr_TOTAL_EVENTS e.row + e.mult)
  let s := ((s.setb F.FLTRr_LAST_AWL e.row e.awl).setf F.FLTRr_LAST_UNIT e.row e.unit).setf F.FLTRr_LAST_ARG e.row e.arg.toNat
  let q := s.selectEntry e.row e.unit e.t
  let x := s.trk e.row q.1
  let x := if q.2 || s.winExpired e.row x.start e.t then { used := true, unit := e.unit, count := 0, start := e.t } else x
  let count := x.count + e.mult
  if max 1 (s.f F.FLTRr_CFG_N e.row) ≤ count then (s.setTrk e.row q.1 {}).severeEvent e count
  else s.setTrk e.row q.1 { x with count := count }

/-- The event the collector takes: ascending row, then ascending unit (R438). -/
def nextEvent (l : List FaultEv) : Option FaultEv :=
  l.foldl (fun best (e : FaultEv) => match best with
    | none => some e
    | some b => if e.row < b.row ∨ (e.row = b.row ∧ e.unit < b.unit) then some e else some b) none

/-- FAULT_EVENT_ACCEPT: the collector accepts one held event (R438 to R441). -/
def execFaultEventAccept (s : State) : Host.Outcome State Fault Refusal :=
  .next (match nextEvent s.flt.pend with
  | none => s
  | some e =>
    if s.rst.cold then s
    else ({ s with flt := { s.flt with pend := s.flt.pend.filter (fun x => !(decide (x = e))) } }).countEvent e)

/-! ### Clearing (R443) -/

/-- Clear a row; false where its level is asserted (R443). -/
def State.clearRow (s : State) (row : Nat) : State × Bool :=
  if s.faultLevel row then (s, false)
  else
    let s := s.putUncleared row false
    if faultRowLevel row then (s, true)
    else ((List.range 8).foldl (fun s k => s.setTrk row k {}) s, true)

/-- A write of FLTRr_STATUS (R443). -/
def writeFltStatus (row : Nat) (w : Word) (s : State) : State × Bool :=
  if w.getLsbD 31 then ((s.clearRow row).1, false) else (s, false)

/-- UNCLEARED_WRITE: a CFG write of FLTRr_STATUS (R443). -/
def execUnclearedWrite (priv : Bool) (row : Nat) (w : Word) (s : State) : Host.Outcome State Fault Refusal :=
  .next (s.cfgWrite priv R.FLTRr_STATUS row (writeFltStatus row w))

/-- A write of FLT_CTRL: a rising FORCE_SAFE is an event of row 0x12 (R442). -/
def writeFltCtrl (by_ : Writer) (w : Word) (s : State) : State × Bool :=
  let was := s.on F.FLT_CTRL_FORCE_SAFE
  let r := writeReg s by_ R.FLT_CTRL 0 w
  (if !was && r.1.on F.FLT_CTRL_FORCE_SAFE then r.1.fault 0x12 0 else r.1, r.2)

/-- FORCE_SAFE_WRITE: a CFG write of FLT_CTRL (R442). -/
def execForceSafeWrite (priv : Bool) (w : Word) (s : State) : Host.Outcome State Fault Refusal :=
  .next (s.cfgWrite priv R.FLT_CTRL 0 (writeFltCtrl .cfg w))

/-- A write of FLTRr_CFG: REACTION is RO in the fixed rows; a reserved row's registers read 0 (R442). -/
def writeFltCfg (row : Nat) (by_ : Writer) (w : Word) (s : State) : State × Bool :=
  if !faultRowUsed row then (s, false)
  else if row = 0x00 ∨ row = 0x01 ∨ row = 0x02 ∨ row = 0x12 then
    writeFields s by_ R.FLTRr_CFG row [⟨23, 16, .rw⟩, ⟨15, 0, .rw⟩] w
  else writeReg s by_ R.FLTRr_CFG row w

/-- FLT_TRK_DATA: the selected entry (R439). -/
def State.trkData (s : State) : Word :=
  let x := s.trk (s.f F.FLT_TRK_SEL_ROW) (s.f F.FLT_TRK_SEL_ENTRY)
  if x.used then
    BitVec.ofNat 32 (2 ^ 31 + x.unit % 2 ^ 15 * 2 ^ 16 + min x.count 255 * 256 + min (s.since x.start / 1000000) 255)
  else 0

/-! ### The Awl (R449, R450) -/

/-- The Awl's debug scope is granted: bit 2 of SCOPE (R532). -/
def State.scopeAwl (s : State) : Bool := s.bitf F.GOV_SEC_SCOPE 0 2

/-- A register-parity failure of a block: row 0x00 for the collector's own block 0x03, row 0x05 otherwise (R442). -/
def State.parityFault (s : State) (block : Nat) (awl : Bool) : State :=
  if block = 3 then (s.setf F.FLT_STATUS_SELF_FAULT 0 1).faultA 0x00 0 awl else s.faultA 0x05 block awl

/-- Arm a checker: 0 armed, 1 refused for want of the scope, 2 refused for its argument (R449). Register parity is checked
throughout, so that check comes at once (log entry 30). -/
def State.awlArm (s : State) (checker : Nat) (repeat_ : Bool) : State × Nat :=
  if !s.scopeAwl then (s.setf F.FLT_AWL_STATUS 0 3, 1)
  else if 3 < checker / 4096 then (s.setf F.FLT_AWL_STATUS 0 3, 2)
  else
    let s := (s.setf F.FLT_AWL_CHECKER 0 checker).setb F.FLT_AWL_REPEAT 0 repeat_
    let s := (s.setf F.FLT_AWL_DISARM 0 0).setf F.FLT_AWL_STATUS 0 1
    if checker / 4096 = 1 then (s.awlUsed.parityFault (checker % 256) true, 0) else (s, 0)

/-- Disarm (R450). -/
def State.awlDisarm (s : State) : State :=
  if s.f F.FLT_AWL_STATUS = 1 then s.setf F.FLT_AWL_STATUS 0 2 else s

/-- A write of FLT_AWL: nothing without the debug scope; else the fields take the written values, and DISARM at 1 disarms,
or the checker is armed (R15, R449, R450). -/
def writeFltAwl (w : Word) (s : State) : State × Bool :=
  if !s.scopeAwl then (s.setf F.FLT_AWL_STATUS 0 3, true)
  else
    let s := ((s.setf F.FLT_AWL_CHECKER 0 (getBits w 0 16)).setb F.FLT_AWL_REPEAT 0 (w.getLsbD 16)).setb F.FLT_AWL_DISARM 0
      (w.getLsbD 17)
    if w.getLsbD 17 then (s.awlDisarm, false)
    else
      let r := s.awlArm (getBits w 0 16) (w.getLsbD 16)
      (r.1, r.2 != 0)

/-- AWL_ARM: a CFG write of FLT_AWL (R449). -/
def execAwlArm (priv : Bool) (w : Word) (s : State) : Host.Outcome State Fault Refusal :=
  .next (s.cfgWrite priv R.FLT_AWL 0 (writeFltAwl w))

/-- AWL_DISARM: a CFG write of FLT_AWL with DISARM at 1 (R450). -/
def execAwlDisarm (priv : Bool) (w : Word) (s : State) : Host.Outcome State Fault Refusal :=
  .next (s.cfgWrite priv R.FLT_AWL 0 (writeFltAwl (w ||| 0x20000)))

/-! ### Lockstep and heartbeat (R394, R396, R442) -/

/-- LOCKSTEP_MISMATCH: row 0x02 for the active pair without a standby, else row 0x03 (R394, R396, R442). -/
def execLockstepMismatch (p : Nat) (s : State) : Host.Outcome State Fault Refusal :=
  .next (if s.vgov && !s.rst.cold && decide (p < 2) && !s.pairFenced p then
    let awl := s.awlFires 2 p
    let s := if awl then s.awlUsed else s
    if p = s.activePair ∧ !(s.on F.EYE_FW_STANDBY_READY && !s.pairFenced (1 - p)) then s.faultA 0x02 p awl
    else s.faultA 0x03 p awl
  else s)

/-- FIRMWARE_HEARTBEAT_TIMEOUT: no heartbeat of a pair for 1 ms (R442). -/
def execFirmwareHeartbeatTimeout (p : Nat) (s : State) : Host.Outcome State Fault Refusal :=
  .next (if s.vgov && !s.rst.cold && decide (p < 2) && !s.pairFenced p then s.fault 0x04 p else s)

end Sys2Proof.Machine
end

