-- ==== Sys2Proof/Machine/Tread.lean ====
section
/-! DEFINITION. The Tread monitors (spec chapter 13): measurements, prediction, guardbands, the decoupling sweep, and the
keeping of the wear history. -/
namespace Sys2Proof.Machine
open Sys2Proof

/-! ### Real functions in fixed point, 2^-128 (log entry 32) -/

/-- The unit. -/
def fx : Nat := 2 ^ 128

/-- Taylor sum of exp for a small argument. -/
def expSmall (fuel k : Nat) (x term : Nat) : Nat :=
  match fuel with
  | 0 => 0
  | n + 1 => term + expSmall n (k + 1) x (term * x / fx / k)

/-- Square `n` times. -/
def squares (n v : Nat) : Nat :=
  match n with
  | 0 => v
  | k + 1 => squares k (v * v / fx)

/-- exp of a non-negative number, at most exp(256). -/
def expPos (x : Nat) : Nat := squares 16 (expSmall 24 1 (min x (256 * fx) / 65536) fx)

/-- exp. -/
def expFx (x : Int) : Nat := if 0 ≤ x then expPos x.toNat else fx * fx / expPos (-x).toNat

/-- Twice the sum of z^(2k+1) / (2k+1). -/
def atanhSum (fuel k z zz term : Nat) : Nat :=
  match fuel with
  | 0 => 0
  | n + 1 => 2 * (term / k) + atanhSum n (k + 2) z zz (term * zz / fx)

/-- ln of a number between 1 and 2. -/
def lnSmall (m : Nat) : Nat :=
  let z := (m - fx) * fx / (m + fx)
  atanhSum 42 1 z (z * z / fx) z

/-- ln 2. -/
def ln2 : Nat := lnSmall (2 * fx)

/-- ln of a positive natural number over 2^`b`. -/
def lnFx (v b : Nat) : Int :=
  let e := Nat.log2 v
  (lnSmall (v * fx / 2 ^ e) : Int) + ((e : Int) - b) * ln2

/-- (a / b)^(n / 16). -/
def powFx (a b n : Nat) : Nat := largest 400 (fun v => decide (v ^ 16 * b ^ n ≤ a ^ n * fx ^ 16))

/-- A product of two fixed-point numbers. -/
def mulFx (a b : Int) : Int := a * b / fx

/-! ### The calendar (R464) -/

/-- Calendar seconds now, or 0. -/
def State.calNow (s : State) : Nat :=
  if s.on F.TRD_STATUS_CAL_VALID then s.trd.calSec + (s.service - s.trd.calAt) / 1000000000 else 0

/-- A write of TRD_CAL_LO takes both words with the present service time (R464, R571). -/
def writeTrdCalLo (w : Word) (s : State) : State × Bool :=
  let s := s.wr R.TRD_CAL_LO 0 w
  let s := { s with trd := { s.trd with calSec := s.pair R.TRD_CAL_LO R.TRD_CAL_HI, calAt := s.service } }
  (s.setf F.TRD_STATUS_CAL_VALID 0 1, false)

/-- TRD_CAL_WRITE: a CFG write of TRD_CAL_LO (R464). -/
def execTrdCalWrite (priv : Bool) (w : Word) (s : State) : Host.Outcome State Fault Refusal :=
  .next (s.cfgWrite priv R.TRD_CAL_LO 0 (writeTrdCalLo w))

/-! ### Guardbands (R480 to R486) -/

/-- The guard field of class `k`: 0 W, 1 M, 2 N. -/
def guardFld (k : Nat) : Fld :=
  match k with
  | 0 => F.WELTc_GUARD_GUARD_W
  | 1 => F.WELTc_GUARD_GUARD_M
  | _ => F.WELTc_GUARD_GUARD_N

/-- The guard of class `k` in cluster `c`: the firmware's own while a die reset holds the register (log entry 36). -/
def State.guard (s : State) (c k : Nat) : Nat :=
  if s.rst.die ∧ s.trd.guards.length = 192 then (s.trd.guards.getD (3 * c + k) 0).toNat else s.f (guardFld k) c

/-- Set a guard. -/
def State.setGuard (s : State) (c k v : Nat) : State :=
  if s.rst.die ∧ s.trd.guards.length = 192 then
    { s with trd := { s.trd with guards := s.trd.guards.set (3 * c + k) (BitVec.ofNat 8 v) } }
  else s.setf (guardFld k) c v

/-- FLOOR of class `k` in cluster `c` (R480). -/
def State.floorOf (s : State) (c k : Nat) : Nat := (s.trd.floor.getD (3 * c + k) 0).toNat

/-- The required guard in mV (R480), at most the field's 255 mV. -/
def State.guardReq (s : State) (c k : Nat) : Nat :=
  min (s.floorOf c k + divUp (s.fi F.TRDCc_TVT_DRIFT c).toNat 4 + s.f F.TRD_MARGIN_AGE_ADD) 255

/-- Write a changed guard: its notice, its count and the due section write (R479, R485, R487). -/
def State.putGuard (s : State) (c k v code : Nat) : State :=
  let s := (s.setGuard c k v).incf F.TRD_MARGIN_VER_CHANGES 0
  let s := { s with trd := { s.trd with changed := true } }
  s.treadNotice code c (k * 65536 + v)

/-- Raise the guards of a cluster to what is required (R481); with the number of fields changed. -/
def State.raiseCluster (q : State × Nat) (c : Nat) : State × Nat :=
  (List.range 3).foldl (fun (q : State × Nat) k =>
    let need := q.1.guardReq c k
    if q.1.guard c k < need then (q.1.putGuard c k need 0x03, q.2 + 1) else q) q

/-- Raise every cluster's guards (R481). -/
def State.raiseGuards (s : State) : State × Nat := (List.range Config.clusterCount).foldl State.raiseCluster (s, 0)

/-- Lower a cluster's guards by 1 mV where they exceed what is required and stay at the floor (R482). -/
def State.lowerCluster (q : State × Nat) (c : Nat) : State × Nat :=
  (List.range 3).foldl (fun (q : State × Nat) k =>
    let g := q.1.guard c k
    if q.1.guardReq c k < g ∧ q.1.floorOf c k + 1 ≤ g then (q.1.putGuard c k (g - 1) 0x04, q.2 + 1) else q) q

/-- A lowering round (R482), with the number of fields changed. -/
def State.lowerRound (s : State) : State × Nat :=
  if s.safe || decide (s.today < s.f F.TRD_MARGIN_LAST_LOWER + 7) then (s, 0)
  else
    let q := (List.range Config.clusterCount).foldl State.lowerCluster (s, 0)
    if q.2 = 0 then q else (q.1.setf F.TRD_MARGIN_LAST_LOWER 0 s.today, q.2)

/-- Why REPLAN_MARGINS is refused: its DETAIL (R483). -/
def State.replanRefused (s : State) (lower : Bool) : Option Nat :=
  if !s.on F.TRD_CTRL_EN then some 1
  else if lower && (List.range Config.clusterCount).any (fun c => s.clusterOn c
      && (let m := Tab.get 0 s.trd.meas c
          m == 0 || decide (m - 1 + 7200000000000 < s.service))) then some 2
  else if lower && s.safe then some 3
  else none

/-- REPLAN_MARGINS: raise every cluster, then a round where LOWER is 1 (R483). -/
def State.replan (s : State) (lower : Bool) : State × Nat :=
  let a := s.raiseGuards
  if lower then
    let b := a.1.lowerRound
    (b.1, a.2 + b.2)
  else a

/-! ### Drift (R466) -/

/-- One cluster's clock: its nominal period in 0.01 ps. -/
def driftOne (s : State) (e : Nat × Nat) : State :=
  let c := e.1
  if s.counted c && decide (c < Config.clusterCount) then
    let key := 0x5840 + c
    let lost : Bool := Tab.get false s.loop.lost (0x840 + c) || (Tab.get {} s.loop.src key : SrcVal).n == 0
    let t : Int := if lost then (s.freeVal 16).toInt else (Tab.get {} s.loop.src key : SrcVal).v
    let s := if lost then s.usedFree else s
    let sens := max 1 (s.f F.WELT_SENS_SENS_W)
    let d : Int := (e.2 : Int) * 256 - s.fi F.WELTc_SLACK_SLACK_W c * 25600
      + (sens : Int) * (((s.weltC c).vout : Int) - 12000) * 100 - s.fi F.TRD_TVT_KT * (t - 1360) * 100
    let s := s.setfiSat F.TRDCc_TVT_DRIFT c (divNearest (d - 25600 * (s.f F.TRDCc_TVT_D0 c : Int)) (400 * sens))
    let s := { s with trd := { s.trd with meas := Tab.set 0 s.trd.meas c (s.service + 1) } }
    s.checkWorn c
  else s

/-- DRIFT_MEASURE: every hour of service the firmware measures each counted cluster and raises guards (R466, R481).
`clocks` gives the clusters' nominal clock periods in 0.01 ps. -/
def execDriftMeasure (clocks : List (Nat × Nat)) (s : State) : Host.Outcome State Fault Refusal :=
  let h := s.service / 3600000000000
  .next (if s.treadOn && decide (s.trd.hour ≤ h) then
    let s := { s with trd := { s.trd with hour := h + 1 } }
    (clocks.foldl driftOne s).raiseGuards.1
  else s)

/-! ### Electromigration (R467) -/

/-- The temperature of a rail's TSRC in 1/16 °C; 110 °C while the channel is lost. -/
def State.emTemp (s : State) (r : Nat) : Int :=
  let i := s.f F.TRDRr_TSRC_TSRC r
  let v : SrcVal := Tab.get {} s.loop.src (0x5000 + i)
  if Tab.get false s.loop.lost i || v.n == 0 then 1760 else v.v

/-- The increment for a mean current of `a` / `b` of the reference, at temperature `t` (1/16 °C), in µs (R467). -/
def emStep (a b emN ea tRef : Nat) (t : Int) : Nat :=
  let ra : Int := 1600 * (tRef : Int) + 437040
  let rb : Int := max 1 (100 * t + 437040)
  let x : Int := (ea : Int) * 160000000 * (rb - ra) * fx / (8617 * ra * rb)
  (divNearest (((1000 * powFx a b emN * expFx x : Nat)) : Int) (fx * fx)).toNat

/-- EM_ACCUMULATE: at each multiple of 1 ms the firmware adds each rail's increment (R467). -/
def execEmAccumulate (s : State) : Host.Outcome State Fault Refusal :=
  .next (if s.treadOn && s.due 28 0 1000000 0 then
    (List.range Config.railCount).foldl (fun s r =>
      let x := s.teleNow (0x23000000 + r)
      let add := emStep x.last.toNat (max 1 x.lastLen * max 1 (s.f F.TRDRr_CFG_I_REF r)) (s.f F.TRD_EM_EM_N) (s.f F.TRD_EM_EA)
        (s.f F.TRDRr_CFG_T_REF r) (s.emTemp r)
      (s.setPair R.TRDRr_ACC_LO R.TRDRr_ACC_HI r (s.pair R.TRDRr_ACC_LO R.TRDRr_ACC_HI r + add)).checkWorn (64 + r))
      (s.serve 28 0)
  else s)

/-! ### The hold-up capacitor (R469, R470) -/

/-- The measurement is abandoned: the diode is released and the previous values stay (R469). -/
def State.abortHold (s : State) : State :=
  if s.trd.measuring then
    ({ s with trd := { s.trd with measuring := false } }).setf F.TRD_STATUS_MEAS_ABORT 0 1
  else s

/-- HOLDUP_MEASUREMENT: the step of HOLD 100 ns after the 500 mA sink starts, in µV, and the two timed steps in ns
(R469, R470). -/
def execHoldupMeasurement (stepUv td tc : Nat) (s : State) : Host.Outcome State Fault Refusal :=
  .next (if s.trd.measuring && !s.rst.cold then
    if 50000000 < td ∨ 50000000 < tc then s.abortHold
    else
      let c := min (divNearest ((td + tc : Nat) : Int) 100).toNat 65535
      let esr := min (divNearest (stepUv : Int) 5).toNat 65535
      let s := { s with trd := { s.trd with measuring := false } }
      let s := (s.setf F.TRD_HOLD_C 0 c).setf F.TRD_HOLD_ESR 0 esr
      let bad := decide (c < 100 * s.f F.TRD_HOLD_LIM_C_MIN) || decide (100 * s.f F.TRD_HOLD_LIM_ESR_MAX < esr)
      let s := s.setb F.TRD_STATUS_HOLD_DEGRADED 0 bad
      let s := if bad then s.treadNotice 0x02 168 c else s
      s.checkWorn 168
  else s)

/-! ### Retention (R474) -/

/-- RETENTION_REPORT: a memory controller's report for core `n`, in ms (R474). -/
def execRetentionReport (n ms : Nat) (s : State) : Host.Outcome State Fault Refusal :=
  .next (if s.treadOn && decide (n < Config.coreCount) && s.dieUp then
    let s := { s with trd := { s.trd with ret := Tab.set 0 s.trd.ret n (ms + 1) } }
    let c := clusterOf n
    let reps := ((List.range 16).map (fun i => Tab.get 0 s.trd.ret (16 * c + i))).filter (· ≠ 0)
    (s.setfSat F.TRDCc_RET_RET c (reps.foldl min (ms + 1) - 1)).checkWorn (170 + c)
  else s)

/-! ### The decoupling sweep and the margin windows (R471, R472, R484) -/

/-- A sweep is due (R471). -/
def State.sweepDue (s : State) : Bool :=
  s.on F.TRD_CTRL_SWEEP_EN
    && decide (s.f F.TRD_PDN_MEAS_LAST_SWEEP + max 1 (s.f F.TRD_PDN_SWEEP_DAYS) ≤ s.today)

/-- The sweep is skipped (R471). -/
def State.sweepSkip (s : State) : State :=
  (({ s with trd := { s.trd with sweep := none, dummy := false } }).setf F.TRD_STATUS_SWEEP_SKIPPED 0 1).treadNotice 0x06 169 0

/-- Start the point of frequency `k`: the request is asserted (R472). -/
def State.sweepPoint (s : State) (k z : Nat) (again : Bool) : State :=
  { s with trd := { s.trd with
    dummy := true,
    sweep := some {
      k := k, half := 0, at_ := s.now, z := z,
      clamps := s.f F.CRD_CLAMP_COUNT_COUNT, clamped := s.clamped, again := again } } }

/-- MARGIN_WINDOW: a scheduled window opens; a due sweep runs first, then the lowering round (R471, R484). -/
def execMarginWindow (s : State) : Host.Outcome State Fault Refusal :=
  .next (match s.trd.sched with
  | none => s
  | some (t0, p, n) =>
    if s.treadOn && decide (t0 + (n + 1) * p * 3600000000000 ≤ s.service) then
      let s := { s with trd := { s.trd with sched := some (t0, p, (s.service - t0) / (p * 3600000000000)) } }
      if s.sweepDue && s.trd.sweep.isNone then
        if s.dieUp && allCores.all (fun n => s.f F.CRDSn_ROLE_ACTIVE_ROLE n == 0) then s.sweepPoint 0 0 false
        else s.sweepSkip.lowerRound.1
      else if s.trd.sweep.isNone then s.lowerRound.1
      else s
    else s)

/-- The sweep's twelve points are measured (R472); the window's round follows (R484). -/
def State.sweepDone (s : State) (z : Nat) : State :=
  let s := { s with trd := { s.trd with sweep := none, dummy := false } }
  let s := (s.setfSat F.TRD_PDN_MEAS_Z_PEAK 0 z).setf F.TRD_PDN_MEAS_LAST_SWEEP 0 s.today
  ((s.checkWorn 169).lowerRound).1

/-- The time of half-period `j` of frequency `k` after the point's start, in ns: j / (2 f_k), f_k = 50 kHz x 1.5^k. -/
def halfPeriods (k j : Nat) : Nat := j * 10000 * 2 ^ k / 3 ^ k

/-- DUMMY_LOAD_REQUEST_TOGGLE: at each half-period the request changes; after 256 periods the point ends with the measured
Z, in 0.01 µΩ, and the next frequency follows (R471, R472). -/
def execDummyLoadRequestToggle (z : Nat) (s : State) : Host.Outcome State Fault Refusal :=
  .next (match s.trd.sweep with
  | none => s
  | some w =>
    if s.passed w.at_ (halfPeriods w.k (w.half + 1)) then
      if w.half + 1 < 512 then
        { s with trd := { s.trd with sweep := some { w with half := w.half + 1 }, dummy := !s.trd.dummy } }
      else if w.clamped || s.clamped || s.f F.CRD_CLAMP_COUNT_COUNT != w.clamps then
        if w.again then s.sweepSkip.lowerRound.1 else s.sweepPoint w.k w.z true
      else if w.k < 11 then s.sweepPoint (w.k + 1) (max w.z z) false
      else s.sweepDone (max w.z z)
    else s)

/-! ### History and prediction (R475 to R478) -/

/-- Add the point of a day that is due (R475). -/
def HistSt.add (h : HistSt) (day w : Nat) : HistSt :=
  if day % h.step ≠ 0 ∨ (h.pts.getLast?.map (·.1)) = some day then h
  else if h.pts.length < 14 then { h with pts := h.pts ++ [(day, w)] }
  else
    let kept := (h.pts.zipIdx.filter (fun e => e.2 % 2 == 0)).map (·.1)
    let step := 2 * h.step
    { step := step, pts := if day % step = 0 then kept ++ [(day, w)] else kept }

/-- Mean of a list in fixed point. -/
def meanFx (l : List Int) : Int := l.sum / (l.length : Int)

/-- exp(v) as service days in 2^-16, at most 2^48. -/
def expDays (v : Int) : Nat := min (expFx v / 2 ^ 112) (2 ^ 48)

/-- A service day in 2^-16 rounded to a whole day. -/
def roundDay (t : Nat) : Nat := (divNearest (t : Int) 65536).toNat

/-- The least-squares fit of the points (day, W) (R476). -/
def fitPoints (pts : List (Nat × Nat)) : FitSt :=
  let use := pts.filter (fun p => decide (1 ≤ p.1) && decide (1 ≤ p.2))
  let m := use.length
  if m < 4 then {}
  else
    let xs := use.map (fun p => lnFx p.1 0)
    let ys := use.map (fun p => lnFx p.2 12)
    let mx := meanFx xs
    let my := meanFx ys
    let sxx := (xs.map (fun x => mulFx (x - mx) (x - mx))).sum
    let sxy := ((xs.zip ys).map (fun e => mulFx (e.1 - mx) (e.2 - my))).sum
    if sxy ≤ 0 ∨ sxx ≤ 0 then {}
    else
      let n := clampInt (fx / 10) (2 * fx) (sxy * fx / sxx)
      let b := my - mulFx n mx
      let ss := ((xs.zip ys).map (fun e =>
        let r := e.2 - b - mulFx n e.1
        mulFx r r)).sum
      let sd : Int := (largest 140 (fun v => decide (v * v ≤ ss.toNat / (m - 2) * fx)) : Nat)
      let k := sd * 12816 / 10000
      { valid := true, lo := expDays ((-b - k) * fx / n), med := expDays (-b * fx / n), hi := expDays ((-b + k) * fx / n) }

/-- The history block of an instance (R491). -/
def histBlock (h : HistSt) : List Byte :=
  let body := leBytes 2 h.step ++ leBytes 1 h.pts.length ++ leBytes 1 0
    ++ bytesAt (h.pts.flatMap (fun p => leBytes 2 p.2 ++ leBytes 2 p.1)) 0 56
  body ++ leBytes 4 (crc32c body).toNat

/-- Write both copies of an instance's history block (R491). -/
def State.writeHist (s : State) (i : Nat) (h : HistSt) : State :=
  let l := histBlock h
  { s with flt := { s.flt with mram := memWrite (memWrite s.flt.mram (0x6000 + 64 * i) l) (0xA000 + 64 * i) l } }

/-- One instance at a service day: its point, its fit and its flags (R475, R476, R478). -/
def State.fitOne (s : State) (i : Nat) : State :=
  if !instPresent i then s
  else match s.wear i with
  | none => { s with trd := { s.trd with fit := Tab.set {} s.trd.fit i {} } }
  | some w =>
    let day := s.today
    let old : HistSt := Tab.get {} s.trd.hist i
    let h := old.add day (wearCode w)
    let s := if h = old then s
      else ({ s with trd := { s.trd with hist := Tab.set {} s.trd.hist i h } }).writeHist i h
    let pts := if h.pts.getLast?.map (·.1) = some day then h.pts else h.pts ++ [(day, wearCode w)]
    let f := fitPoints pts
    let s := { s with trd := { s.trd with fit := Tab.set {} s.trd.fit i f } }
    let s := s.checkWorn i
    if f.valid && decide (f.lo ≤ (day + s.f F.TRD_CTRL_WARN_DAYS) * 65536) && !Tab.get false s.trd.warn i then
      (({ s with trd := { s.trd with warn := Tab.set false s.trd.warn i true } }).showWear).treadNotice 0x01 i
        (roundDay f.med - day)
    else s

/-- TREAD_FIT: at each service day the firmware adds the due points and fits every instance (R475 to R478). -/
def execTreadFit (s : State) : Host.Outcome State Fault Refusal :=
  .next (if s.treadOn && !s.sag && decide (s.trd.day ≤ s.today) then
    (List.range 234).foldl State.fitOne { s with trd := { s.trd with day := s.today + 1 } }
  else s)

/-- The fit of an instance; none while it has no W (R465, R476). -/
def State.fitOf (s : State) (i : Nat) : FitSt := if (s.wear i).isNone then {} else Tab.get {} s.trd.fit i

/-- An end-of-life field (R477). -/
def State.eolField (s : State) (i : Nat) (pick : FitSt → Nat) : Nat :=
  let f := s.fitOf i
  if !f.valid then 0xFFFF
  else if s.on F.TRD_STATUS_CAL_VALID then
    let nsNow : Int := (s.trd.calSec : Int) * 1000000000 + ((s.service : Int) - s.trd.calAt)
    min ((nsNow + ((pick f * dayNs / 65536 : Nat) : Int) - s.service) / dayNs).toNat 0xFFFE
  else min (roundDay (pick f) - s.today) 0xFFFE

/-- The flags of an instance: EOL_VALID, DATE, WARN, WORN (R493). -/
def State.instFlags (s : State) (i : Nat) : Nat :=
  let f := s.fitOf i
  (if f.valid then 1 else 0) + (if f.valid && s.on F.TRD_STATUS_CAL_VALID then 2 else 0)
    + (if Tab.get false s.trd.warn i then 4 else 0) + (if Tab.get false s.trd.worn i then 8 else 0)

/-- History points of an instance. -/
def State.instPoints (s : State) (i : Nat) : Nat := (Tab.get {} s.trd.hist i : HistSt).pts.length

/-- TRD_VIEWk of the selected instance. -/
def State.trdView (s : State) (k : Nat) : Word :=
  let i := min (s.f F.TRD_SEL_INST) 233
  if !instPresent i then (if k = 0 then 0xFFFF else if k = 1 then 0xFFFFFFFF else 0)
  else match k with
  | 0 => BitVec.ofNat 32 (s.wearOf i * 65536 + s.eolField i FitSt.med)
  | 1 => BitVec.ofNat 32 (s.eolField i FitSt.lo * 65536 + s.eolField i FitSt.hi)
  | _ => BitVec.ofNat 32 (s.instPoints i * 256 + s.instFlags i)

/-- The measured quantity of an instance in its register's units (R493). -/
def State.instQuantity (s : State) (i : Nat) : Nat :=
  if i < 64 then s.f F.TRDCc_TVT_DRIFT i
  else if i < 72 then s.pair R.TRDRr_ACC_LO R.TRDRr_ACC_HI (i - 64) % 2 ^ 32
  else if i < 168 then s.f F.TRDPp_CYC_EQ (i - 72)
  else if i = 168 then (s.rd R.TRD_HOLD).toNat
  else if i = 169 then s.f F.TRD_PDN_MEAS_Z_PEAK
  else s.f F.TRDCc_RET_RET (i - 170)

/-- Present instances. -/
def instCount : Nat := ((List.range 234).filter instPresent).length

/-- The page of TREAD_REPORT (R493). -/
def State.treadReport (s : State) : List Byte :=
  let head := leBytes 8 s.service ++ leBytes 8 s.calNow ++ leBytes 4 (s.rd R.TRD_MARGIN_VER).toNat ++ leBytes 2 instCount
    ++ leBytes 1 ((if s.on F.TRD_STATUS_CAL_VALID then 1 else 0) + (if s.on F.TRD_STATUS_HOLD_DEGRADED then 2 else 0))
    ++ leBytes 9 0
  head ++ (List.range 234).flatMap (fun i =>
    if !instPresent i then leBytes 2 i ++ leBytes 14 0
    else leBytes 2 i ++ leBytes 2 (s.wearOf i) ++ leBytes 2 (s.eolField i FitSt.lo) ++ leBytes 2 (s.eolField i FitSt.med)
      ++ leBytes 2 (s.eolField i FitSt.hi) ++ leBytes 1 (s.instPoints i) ++ leBytes 1 (s.instFlags i)
      ++ leBytes 4 (s.instQuantity i))

/-! ### Keeping the wear history (R487 to R492) -/

/-- The guards of every cluster, W, M, N: the restored table until the plan is loaded. -/
def State.guardBytes (s : State) : List Byte :=
  if s.trd.guards ≠ [] then bytesAt s.trd.guards 0 192
  else (List.range 64).flatMap (fun c => (List.range 3).flatMap (fun k => leBytes 1 (s.f (guardFld k) c)))

/-- The TREAD section, 1,024 bytes (R488). -/
def State.treadSection (s : State) : List Byte :=
  leBytes 8 s.service ++ leBytes 8 s.trd.calSec ++ leBytes 8 s.trd.calAt ++ leBytes 4 (s.rd R.TRD_MARGIN_VER).toNat
    ++ leBytes 2 (s.f F.TRD_MARGIN_LAST_LOWER) ++ leBytes 2 (s.f F.TRD_PDN_MEAS_LAST_SWEEP)
    ++ leBytes 1 ((if s.on F.TRD_STATUS_CAL_VALID then 1 else 0) + (if s.on F.TRD_STATUS_HOLD_DEGRADED then 2 else 0))
    ++ leBytes 1 0 ++ leBytes 2 (s.f F.TRD_HOLD_C) ++ leBytes 2 (s.f F.TRD_HOLD_ESR) ++ leBytes 2 (s.f F.TRD_PDN_MEAS_Z_PEAK)
    ++ (List.range 8).flatMap (fun r => leBytes 8 (s.pair R.TRDRr_ACC_LO R.TRDRr_ACC_HI r))
    ++ (List.range 96).flatMap (fun p => leBytes 4 (s.f F.TRDPp_CYC_EQ p))
    ++ (List.range 64).flatMap (fun c => leBytes 2 (s.f F.TRDCc_TVT_DRIFT c))
    ++ (List.range 64).flatMap (fun c => leBytes 2 (s.f F.TRDCc_RET_RET c))
    ++ s.guardBytes ++ leBytes 88 0

/-- Take a TREAD section at a cold start (R492); CAL_VALID starts clear (R464). -/
def State.takeSection (s : State) (l : List Byte) : State :=
  let base := leAt l 0 8
  let s := { s with trd := { s.trd with
    base := base, calSec := leAt l 8 8, calAt := leAt l 16 8, guards := bytesAt l 744 192,
    hour := base / 3600000000000 + 1, day := base / dayNs, sec := base / 1000000000 + 1, ckptAt := base } }
  let s := s.wr R.TRD_MARGIN_VER 0 (BitVec.ofNat 32 (leAt l 24 4))
  let s := (s.setf F.TRD_MARGIN_LAST_LOWER 0 (leAt l 28 2)).setf F.TRD_PDN_MEAS_LAST_SWEEP 0 (leAt l 30 2)
  let s := s.setb F.TRD_STATUS_HOLD_DEGRADED 0 ((leAt l 32 1).testBit 1)
  let s := ((s.setf F.TRD_HOLD_C 0 (leAt l 34 2)).setf F.TRD_HOLD_ESR 0 (leAt l 36 2)).setf F.TRD_PDN_MEAS_Z_PEAK 0 (leAt l 38 2)
  let s := (List.range Config.railCount).foldl (fun s r => s.setPair R.TRDRr_ACC_LO R.TRDRr_ACC_HI r (leAt l (40 + 8 * r) 8)) s
  let s := (List.range Config.phaseCount).foldl (fun s p => s.setf F.TRDPp_CYC_EQ p (leAt l (104 + 4 * p) 4)) s
  let s := (List.range Config.clusterCount).foldl (fun s c => s.setf F.TRDCc_TVT_DRIFT c (leAt l (488 + 2 * c) 2)) s
  (List.range Config.clusterCount).foldl (fun s c => s.setf F.TRDCc_RET_RET c (leAt l (616 + 2 * c) 2)) s

/-- Tile `i` of the section, copy `c`; the fifth is the object's last (R345, R487). -/
def sectionTile (l : List Byte) (i c : Nat) : List Byte :=
  buildTile 0x60 (c + (if i = 4 then 2 else 0)) 0x7FF i 0 (bytesAt l (236 * i) (if i = 4 then 80 else 236))

/-- Places for a copy's five tiles: those it has while their bank is in use, else free tiles outside bank `avoid`. -/
def State.sectionPlaces (s : State) (old : List Nat) (avoid : List Nat) : List Nat :=
  if old.length = 5 ∧ old.all (fun t => !s.bankFenced (bankOf t) && !avoid.contains (bankOf t)) then old
  else
    match (List.range 8).find? (fun b => !avoid.contains b && !s.bankFenced b
        && decide (5 ≤ ((List.range 256).filter (fun t => s.tileFree (256 * b + t))).length)) with
    | none => []
    | some b => (((List.range 256).filter (fun t => s.tileFree (256 * b + t))).take 5).map (fun t => 256 * b + t)

/-- Write one copy of the section. -/
def State.putSection (s : State) (l : List Byte) (c : Nat) (places : List Nat) (bad : BadTiles) : State :=
  places.zipIdx.foldl (fun s e => (s.writeTile 6 (badCount bad e.1) e.1 (sectionTile l e.2 c)).1) s

/-- TREAD_INSOLE_SAVE: every second of service, and at each guard change, the section is written in two copies (R487). -/
def execTreadInsoleSave (bad : List (Nat × Nat)) (s : State) : Host.Outcome State Fault Refusal :=
  let n := s.service / 1000000000
  .next (if s.started && s.vgov && (s.trd.changed || decide (s.trd.sec ≤ n)) then
    let l := s.treadSection
    let a := s.sectionPlaces (s.trd.tiles.take 5) []
    let s := s.putSection l 0 a bad
    let b := s.sectionPlaces (s.trd.tiles.drop 5) ((a.map bankOf).take 1)
    let s := s.putSection l 1 b bad
    { s with trd := { s.trd with tiles := a ++ b, sec := n + 1, changed := false } }
  else s)

/-- The checkpoint interval in ns (R490). -/
def State.ckptEvery (s : State) : Nat :=
  if s.on F.TRD_STATUS_HOLD_DEGRADED then 1000000000 else max 1 (s.f F.TRD_CTRL_CKPT_MIN) * 60000000000

/-- A checkpoint's address. -/
def ckptAddr (slot : Bool) : Nat := if slot then 0x5000 else 0x4000

/-- The 4,096 bytes of a checkpoint (R489). -/
def State.ckptImage (s : State) (seq : Nat) : List Byte :=
  let body := bytesAt (leBytes 2 0x5443 ++ leBytes 2 1 ++ leBytes 4 seq ++ leBytes 8 s.now.toNat ++ s.treadSection) 0 4092
  body ++ leBytes 4 (crc32c body).toNat

/-- An image whose write did not complete: its CRC is not that of its bytes (log entry 33). -/
def brokenImage (l : List Byte) : List Byte :=
  let n := l.length - 4
  l.take n ++ (l.drop n).map (fun b => ~~~b)

/-- TREAD_CHECKPOINT: the section goes to the slot without the newest valid checkpoint; `ok1` and `ok2` are its first and
second read-back (R489, R490). No rule gives the notice of code 0x05 an instance: it is a free value (log entry 2). -/
def execTreadCheckpoint (ok1 ok2 : Bool) (s : State) : Host.Outcome State Fault Refusal :=
  .next (if s.started && s.vgov && !s.sag && decide (s.trd.ckptAt + s.ckptEvery ≤ s.service) then
    let slot : Bool := match s.trd.ckpt with
      | some (b, _) => !b
      | none => false
    let seq := ((s.trd.ckpt.map (·.2)).getD 0 + 1) % 2 ^ 32
    let l := s.ckptImage seq
    let ok := ok1 || ok2
    let s := { s with
      flt := { s.flt with mram := memWrite s.flt.mram (ckptAddr slot) (if ok then l else brokenImage l) },
      trd := { s.trd with ckptAt := s.service, ckpt := if ok then some (slot, seq) else s.trd.ckpt } }
    if ok then s
    else (s.setf F.TRD_STATUS_CKPT_FAIL 0 1).usedFree.treadNotice 0x05 (s.freeVal 16).toNat 0
  else s)

/-- A checkpoint slot is valid (R489). -/
def State.ckptValid (s : State) (slot : Bool) : Bool :=
  let l := memBytes s.flt.mram (ckptAddr slot) 4096
  leAt l 0 2 == 0x5443 && leAt l 2 2 == 1 && (crc32c (l.take 4092)).toNat == leAt l 4092 4

/-- SEQNUM `a` is newer than `b` (R460). -/
def seqNewer (a b : Nat) : Bool := decide (0 < (a + 2 ^ 32 - b) % 2 ^ 32) && decide ((a + 2 ^ 32 - b) % 2 ^ 32 < 2 ^ 31)

/-- The newest valid checkpoint, read from the MRAM (R489, R490). -/
def State.findCkpt (s : State) : Option (Bool × Nat) :=
  let seq := fun (b : Bool) => leNat (memBytes s.flt.mram (ckptAddr b + 4) 4)
  match s.ckptValid false, s.ckptValid true with
  | false, false => none
  | true, false => some (false, seq false)
  | false, true => some (true, seq true)
  | true, true => if seqNewer (seq true) (seq false) then some (true, seq true) else some (false, seq false)

/-- A history block read from the MRAM; none where its CRC or its form is wrong (R491). -/
def State.readHist (s : State) (base i : Nat) : Option HistSt :=
  let l := memBytes s.flt.mram (base + 64 * i) 64
  if (crc32c (l.take 60)).toNat = leAt l 60 4 ∧ 1 ≤ leAt l 0 2 ∧ leAt l 2 1 ≤ 14 then
    some { step := leAt l 0 2, pts := (List.range (leAt l 2 1)).map (fun j => (leAt l (6 + 4 * j) 2, leAt l (4 + 4 * j) 2)) }
  else none

/-- The history an instance takes at a cold start: the valid copy whose newest point is later (R492). -/
def State.takeHist (s : State) (i : Nat) : HistSt :=
  let day := fun (h : HistSt) => (h.pts.getLast?.map (·.1)).getD 0
  match s.readHist 0x6000 i, s.readHist 0xA000 i with
  | none, none => {}
  | some a, none => a
  | none, some b => b
  | some a, some b => if day a < day b then b else a

/-- The monitors' start at a cold start, given the Heel record's section where one was loaded (R469, R492). -/
def State.treadStart (s : State) (heel : Option (List Byte)) : State :=
  let ck := s.findCkpt
  let ckSec := ck.map (fun e => memBytes s.flt.mram (ckptAddr e.1 + 16) 1024)
  let sec := match heel, ckSec with
    | none, x => x
    | x, none => x
    | some a, some b => if leAt a 0 8 < leAt b 0 8 then some b else some a
  let s := { s with trd := { s.trd with
    ckpt := ck, from_ := s.time.count, measuring := true,
    hist := (List.range 234).foldl (fun t i => Tab.set {} t i (s.takeHist i)) [] } }
  match sec with
  | none => s
  | some l => s.takeSection l

end Sys2Proof.Machine
end

