-- ==== Sys2Proof/Machine/Heel.lean ====
section
/-! DEFINITION. The Heel record and the supply-sag save (R451 to R460). -/
namespace Sys2Proof.Machine
open Sys2Proof

/-! ### Journal entries and the Heel record (R390, R459) -/

/-- The MARKS byte of a journal entry (R390). -/
def JEnt.marks (e : JEnt) : Nat :=
  1 + (if e.accPosted then 2 else 0) + (if e.finPosted then 4 else 0) + (if e.taken then 8 else 0)
    + (if e.effect then 16 else 0) + (if e.partialDone then 32 else 0)

/-- The 16 bytes of a journal entry (R390). -/
def JEnt.bytes (e : JEnt) : List Byte :=
  leBytes 2 e.seq ++ leBytes 1 (e.ch % 16 + 16 * e.status) ++ leBytes 1 e.op ++ leBytes 1 e.flags ++ leBytes 1 e.marks
    ++ leBytes 1 e.step ++ leBytes 1 0 ++ leBytes 4 e.arg.toNat ++ leBytes 4 e.result.toNat

/-- A journal entry read from its 16 bytes; none where USED is 0 (R390). -/
def JEnt.ofBytes (l : List Byte) (slot : Nat) : Option JEnt :=
  let m := leAt l 5 1
  if m.testBit 0 then
    some {
      seq := leAt l 0 2, ch := leAt l 2 1 % 16, status := leAt l 2 1 / 16, op := leAt l 3 1, flags := leAt l 4 1,
      accPosted := m.testBit 1, finPosted := m.testBit 2, taken := m.testBit 3, effect := m.testBit 4,
      partialDone := m.testBit 5, step := leAt l 6 1, arg := BitVec.ofNat 32 (leAt l 8 4),
      result := BitVec.ofNat 32 (leAt l 12 4), final := m.testBit 2, slot := slot }
  else none

/-- The open entries of a channel, in the order of acceptance, which is that of SEQ (R49, R392). -/
def State.openOf (s : State) (ch : Nat) : List JEnt := s.eye.journal.filter (fun e => e.ch == ch && !e.taken)

/-- The open entries ordered by channel and then by SEQ. -/
def State.openAll (s : State) : List JEnt := (List.range 9).flatMap s.openOf

/-- A log entry in the record: its age in 1,024 ns, code and the low half of its argument (R459). -/
def logBytes (t : Word64) (e : LogEnt) : List Byte :=
  leBytes 4 (min ((t - e.t).toNat / 1024) (2 ^ 32 - 1)) ++ leBytes 2 e.code ++ leBytes 2 (e.arg.toNat % 65536)

/-- Bytes 0 to 59 of a record. -/
def State.heelHead (s : State) (seq cause : Nat) (t : Word64) : List Byte :=
  let flags := (if s.safe then 1 else 0) + (if s.on F.EYE_FW_FENCED_A then 2 else 0)
    + (if s.on F.EYE_FW_FENCED_B then 4 else 0) + 8 * s.activePair + (if s.on F.TIME_STATUS_ON_OSC then 16 else 0)
  leBytes 2 0x4C48 ++ leBytes 2 1 ++ leBytes 4 seq ++ leBytes 8 t.toNat ++ leBytes 4 (leAt s.eye.fw.planHdr 0 4)
    ++ leBytes 4 (s.rd R.TRD_MARGIN_VER).toNat ++ leBytes 1 cause ++ leBytes 1 flags
    ++ leBytes 1 (if s.safe then s.f F.FLT_STATUS_SAFE_CAUSE else 0) ++ leBytes 1 0
    ++ leBytes 2 (min s.openAll.length 256) ++ leBytes 2 (min s.trc.log.length 256) ++ leBytes 4 (s.rd R.EYE_FW).toNat
    ++ leBytes 24 0

/-- Bytes 64 to 8,191 of a record. -/
def State.heelBody (s : State) (t : Word64) : List Byte :=
  (List.range 9).flatMap (fun c => leBytes 2 (s.f F.EYEc_STATUS_EXP_SEQ c) ++ leBytes 1 (s.openOf c).length ++ leBytes 1 0)
    ++ leBytes 28 0
    ++ (List.range 256).flatMap (fun r =>
        leBytes 2 ((if s.uncleared r then 32768 else 0) + min (Tab.get 0 s.flt.severe r) 32767))
    ++ s.treadSection
    ++ bytesAt ((s.trc.log.take 256).flatMap (logBytes t)) 0 2048
    ++ leBytes 384 0
    ++ bytesAt ((s.openAll.take 256).flatMap JEnt.bytes) 0 4096

/-- The 8,192 bytes of a record (R459). -/
def State.heelImage (s : State) (seq cause : Nat) (t : Word64) : List Byte :=
  let h := s.heelHead seq cause t
  let b := s.heelBody t
  h ++ leBytes 4 (crc32c (h ++ b)).toNat ++ b

/-- A slot's MRAM address (R458). -/
def heelAddr (slot : Bool) : Nat := if slot then 0x2000 else 0

/-- SEQNUM of a slot. -/
def State.heelSeq (s : State) (slot : Bool) : Nat := leNat (memBytes s.flt.mram (heelAddr slot + 4) 4)

/-- A slot holds a correct MAGIC. -/
def State.heelMagic (s : State) (slot : Bool) : Bool := leNat (memBytes s.flt.mram (heelAddr slot) 2) == 0x4C48

/-- A slot is valid (R460). -/
def State.heelValid (s : State) (slot : Bool) : Bool :=
  let l := memBytes s.flt.mram (heelAddr slot) 8192
  s.heelMagic slot && leAt l 2 2 == 1 && (crc32c (l.take 60 ++ l.drop 64)).toNat == leAt l 60 4

/-- The slot of the newest valid record (R460). -/
def State.heelNewest (s : State) : Option Bool :=
  match s.heelValid false, s.heelValid true with
  | false, false => none
  | true, false => some false
  | false, true => some true
  | true, true => some (seqNewer (s.heelSeq true) (s.heelSeq false))

/-- A record was expected: a correct MAGIC while neither slot is valid (R460). -/
def State.heelExpected (s : State) : Bool := s.heelNewest.isNone && (s.heelMagic false || s.heelMagic true)

/-- The slot and SEQNUM of the next record (R455). -/
def State.heelNext (s : State) : Bool × Nat :=
  match s.flt.newest with
  | none => (false, 1)
  | some b => (!b, (s.heelSeq b + 1) % 2 ^ 32)

/-- Put an image into a slot. -/
def State.putHeel (s : State) (slot : Bool) (l : List Byte) : State :=
  { s with flt := { s.flt with mram := memWrite s.flt.mram (heelAddr slot) l } }

/-- A record is written and read back: it is the newest (R455). -/
def State.heelWritten (s : State) (slot : Bool) (l : List Byte) : State :=
  let s := s.putHeel slot l
  let s := { s with flt := { s.flt with newest := some slot } }
  (s.setf F.FLT_HEEL_SEQ_SEQNUM 0 (leAt l 4 4)).setb F.FLT_SAG_SLOT 0 slot

/-! ### The supply-sag save (R452 to R456) -/

/-- Sampled supply readings (FLT_HOLD), in mV. -/
def State.putHold (s : State) (vshk hold : Nat) : State := (s.setf F.FLT_HOLD_VSHK 0 vshk).setf F.FLT_HOLD_HOLD 0 hold

/-- SAG_SAVE_START: VSHK_IN has stayed below its threshold for 2 µs and the engine is armed (R452, R453, R455); a hold-up
measurement ends (R469). Safe state may be active too (R47). -/
def execSagSaveStart (vshk hold : Nat) (s : State) : Host.Outcome State Fault Refusal :=
  .next (if s.flt.armed && !s.sag && !s.rst.cold then
    let s := s.putHold vshk hold
    let s := (s.clampSet 3 0 true).setf F.FLT_STATUS_SAG_ACTIVE 0 1
    let s := (s.setf F.FLT_SAG_STATE 0 1).fault 0x0B 0
    let s := s.log 0x0203 0 (s.f F.FLT_STATUS_SAFE_CAUSE)
    let s := (s.trigger 0x05 4 0).abortHold
    let n := s.heelNext
    { s with flt := { s.flt with
      sagAt := s.now, slot := n.1, attempt := 1, image := s.heelImage n.2 1 s.now } }
  else s)

/-- The duration of the save so far in 0.1 µs, to the nearest (R8). -/
def State.sagTime (s : State) : Nat := min (divNearest (s.since s.flt.sagAt : Int) 100).toNat 65535

/-- The engine stops: the slot it was writing fails its CRC (R456). -/
def State.sagStop (s : State) : State :=
  let s := s.putHeel s.flt.slot (brokenImage s.flt.image)
  let s := ((s.setf F.FLT_SAG_STATE 0 3).setf F.FLT_SAG_HEEL_FAIL 0 1).setb F.FLT_SAG_SLOT 0 s.flt.slot
  let s := (s.setf F.FLT_SAG_LAST_TIME 0 s.sagTime).fault 0x0C 0
  { s with flt := { s.flt with image := [], sagEnd := s.now } }

/-- HEEL_WRITE_COMPLETE: the write and its read-back end; a first failure is retried while HOLD is at or above 2.60 V
(R455, R456). -/
def execHeelWriteComplete (ok : Bool) (vshk hold : Nat) (s : State) : Host.Outcome State Fault Refusal :=
  .next (if s.sag && s.f F.FLT_SAG_STATE == 1 then
    let s := s.putHold vshk hold
    if ok then
      let s := s.heelWritten s.flt.slot s.flt.image
      let s := (s.setf F.FLT_SAG_STATE 0 2).setf F.FLT_SAG_LAST_TIME 0 s.sagTime
      let s := { s with flt := { s.flt with image := [], sagEnd := s.now } }
      s.log 0x0204 0 s.sagTime
    else if s.flt.attempt = 1 ∧ 2600 ≤ hold then
      ({ s with flt := { s.flt with attempt := 2 } }).setf F.FLT_SAG_RETRY 0 1
    else s.sagStop
  else s)

/-- SAG_SAVE_STOP: HOLD falls below 2.25 V before the save completes (R456). -/
def execSagSaveStop (vshk hold : Nat) (s : State) : Host.Outcome State Fault Refusal :=
  .next (if s.sag && s.f F.FLT_SAG_STATE == 1 && decide (hold < 2250) then (s.putHold vshk hold).sagStop else s)

end Sys2Proof.Machine
end

