-- ==== Sys2Proof/Machine/Trace.lean ====
section
/-! DEFINITION. Trace (spec chapter 14): the buffer, triggers and regions by command, DROP reports, the start of
recording, the trace port, and what the reading windows show. -/
namespace Sys2Proof.Machine
open Sys2Proof

/-! ### The buffer (R498) -/

/-- The time-stamp of a record. -/
def recTime (r : TraceRec) : Nat :=
  match r with
  | [] => 0
  | v :: _ => v.toNat % 2 ^ 64

/-- The source whose head record is the next to arrive: the earliest stamp, the system source first among equals. -/
def State.nextSrc (s : State) : Option Nat :=
  (15 :: List.range 15).foldl (fun (best : Option Nat) k =>
    match (s.src k).queue with
    | [] => best
    | r :: _ => match best with
      | none => some k
      | some b => if recTime r < recTime ((s.src b).queue.headD []) then some k else best) none

/-- The record is the MARKER of a HOST trigger. -/
def isHostMarker (r : TraceRec) : Bool :=
  match r with
  | [] => false
  | v :: _ => v.toNat / 2 ^ 64 % 256 == 0xF1 && v.toNat / 2 ^ 120 == 1

/-- TRACE_RECORD_ACCEPT: the buffer accepts the next record that waits (R498); in STREAM mode only into free positions. -/
def execTraceRecordAccept (s : State) : Host.Outcome State Fault Refusal :=
  .next (match s.nextSrc with
  | none => s
  | some k =>
    if s.answers 0x78000 R.TRC_CTRL 0 && s.f F.PWRd_STATUS_STEP 0x463 == 0 then
      let x := s.src k
      let r := x.queue.headD []
      match (s.setSrc k { x with queue := x.queue.tail }).putRec r with
      | none => s
      | some s => if isHostMarker r && s.f F.TRC_TRIG_STATUS == 1 then s.setf F.TRC_TRIG_STATUS 0 2 else s
    else s)

/-! ### Triggers and regions by the host (R500 to R503) -/

/-- A HOST trigger; the code TRC_TRIG.STATUS takes: refused while RUN is 0, pending until its marker is written. -/
def State.hostTrigger (s : State) (tag : Nat) : State × Nat :=
  if !s.tracing then (s, 3)
  else
    let n := (s.src 15).queue.length
    let t := s.trigger 0x01 0 tag
    (t, if !s.bitf F.TRC_CTRL_TRIG_EN 0 0 then 0 else if n < (t.src 15).queue.length then 1 else 2)

/-- A write of TRC_TRIG (R500). -/
def writeTrcTrig (w : Word) (s : State) : State × Bool :=
  let s := s.setf F.TRC_TRIG_TAG 0 (getBits w 0 8)
  let r := s.hostTrigger (getBits w 0 8)
  (r.1.setf F.TRC_TRIG_STATUS 0 r.2, false)

/-- TRC_TRIG_WRITE: a CFG write of TRC_TRIG (R500). -/
def execTrcTrigWrite (priv : Bool) (w : Word) (s : State) : Host.Outcome State Fault Refusal :=
  .next (s.cfgWrite priv R.TRC_TRIG 0 (writeTrcTrig w))

/-- TRACE_REGION_COMPLETE: an active region whose post part is written stops being active (R501). -/
def execTraceRegionComplete (s : State) : Host.Outcome State Fault Refusal :=
  .next (if s.trc.regions.any (fun (r : Region) => r.active && r.left == 0) then s.completeRegions else s)

/-- Release a region; false where no region has the number or it is active (R503, R509). -/
def State.releaseRegion (s : State) (n : Nat) : State × Bool :=
  let s := s.completeRegions
  match s.trc.regions.find? (fun (r : Region) => r.number == n && !r.active) with
  | none => (s, false)
  | some r =>
    let s := { s with trc := { s.trc with regions := s.trc.regions.filter (fun (q : Region) => !(q.k == r.k)) } }
    let s := s.freeTiles 0x50 (fun i => i == n && !s.trc.regions.any (fun (q : Region) => q.number == n))
    (s.showRegions.trcPressure, true)

/-- A write of TRC_RELEASE (R503). -/
def writeTrcRelease (w : Word) (s : State) : State × Bool :=
  let s := s.setf F.TRC_RELEASE_NUMBER 0 (getBits w 0 16)
  let r := s.releaseRegion (getBits w 0 16)
  (r.1.setf F.TRC_RELEASE_STATUS 0 (if r.2 then 2 else 3), false)

/-- TRC_RELEASE_WRITE: a CFG write of TRC_RELEASE (R503). -/
def execTrcReleaseWrite (priv : Bool) (w : Word) (s : State) : Host.Outcome State Fault Refusal :=
  .next (s.cfgWrite priv R.TRC_RELEASE 0 (writeTrcRelease w))

/-! ### Drops (R505) -/

/-- TRACE_DROP_REPORT: the DROP record of source `k`, when its condition has ended or 100 µs after the last one (R505). -/
def execTraceDropReport (k : Nat) (s : State) : Host.Outcome State Fault Refusal :=
  let x := s.src k
  .next (match x.firstDrop with
  | none => s
  | some t =>
    if s.tracing && decide (k < 15) && (!x.dropping || s.passed x.lastReport 100000) then
      (s.setSrc k { x with dropped := 0, thinned := 0, firstDrop := none, lastReport := s.now }).sysRec 2 k
        (min x.dropped (2 ^ 32 - 1)) (some (t.toNat + min x.thinned (2 ^ 32 - 1) * 2 ^ 64))
    else s)

/-! ### The start of recording (R496, R500, R509) -/

/-- DEC of sources 0 to 14, one nibble each. -/
def State.decNibbles (s : State) : Nat :=
  (List.range 15).foldl (fun a k => a + s.f F.TRC_SRCs_CFG_DEC k * 16 ^ k) 0

/-- Write a CONFIG record (R496). -/
def State.configRec (s : State) : State :=
  s.sysRec 5 0 (s.rd R.TRC_SRC).toNat (some ((s.rd R.TRC_SEL).toNat + s.decNibbles * 2 ^ 32))

/-- The decode table's payload: the CONFIG record's bytes 8 to 31, SITE, and the parameters (R509). -/
def State.decodeTable (s : State) : List Byte :=
  leBytes 1 0xF5 ++ leBytes 1 0x87 ++ leBytes 2 0 ++ leBytes 4 (s.rd R.TRC_SRC).toNat ++ leBytes 4 (s.rd R.TRC_SEL).toNat
    ++ leBytes 8 s.decNibbles ++ leBytes 4 0 ++ leBytes 1 (s.f F.LACE_ID_SITE)
    ++ leBytes 4 (s.rd R.GOV_PARAM0).toNat ++ leBytes 4 (s.rd R.GOV_PARAM1).toNat

/-- RUN is set: numbering and decimation restart, the CONFIG record and the decode table are written (R496, R497, R500,
R509). -/
def State.startTrace (s : State) : State :=
  let s := (s.setf F.TRC_CTRL_RUN 0 1).setf F.TRC_COUNT_TRIGGERS 0 0
  let s := { s with trc := { s.trc with
    stream := s.on F.TRC_CTRL_MODE,
    srcs := s.trc.srcs.map (fun (e : Nat × SrcSt) => (e.1, { e.2 with instants := 0, lastAt := none })) } }
  let s := s.trcPressure.configRec
  (s.freeTiles 0x51 (fun _ => true)).placeTile (buildTile 0x51 2 0x7FF 0 0 s.decodeTable)

/-- A write of TRC_CTRL: RUN rising starts recording. -/
def writeTrcCtrl (by_ : Writer) (w : Word) (s : State) : State × Bool :=
  let was := s.on F.TRC_CTRL_RUN
  let r := writeReg s by_ R.TRC_CTRL 0 w
  if !was && r.1.on F.TRC_CTRL_RUN then (r.1.startTrace, r.2) else r

/-- TRACE_RUN_START: a CFG write of TRC_CTRL with RUN at 1 (R509). -/
def execTraceRunStart (priv : Bool) (w : Word) (s : State) : Host.Outcome State Fault Refusal :=
  .next (s.cfgWrite priv R.TRC_CTRL 0 (writeTrcCtrl .cfg (w ||| 1)))

/-- A write of TRC_SRC, TRC_SEL or TRC_SRCs_CFG: a change while RUN is 1 writes a CONFIG record (R496). -/
def writeTrcConfig (by_ : Writer) (r : Reg) (i : Nat) (w : Word) (s : State) : State × Bool :=
  let old := (s.rd R.TRC_SRC, s.rd R.TRC_SEL, s.decNibbles)
  let q := writeReg s by_ r i w
  if (q.1.rd R.TRC_SRC, q.1.rd R.TRC_SEL, q.1.decNibbles) = old then q else (q.1.configRec, q.2)

/-! ### The trace port (R506, R507) -/

/-- Positions of a frame of at most `n`: a long record is not split. -/
def framePositions (s : State) (n : Nat) (l : List Nat) : List Nat :=
  match n, l with
  | 0, _ => []
  | _, [] => []
  | m + 1, p :: r =>
    if (Tab.get 0 s.trc.buf p).getLsbD 79 then
      (match m, r with
      | k + 1, q :: t => p :: q :: framePositions s k t
      | _, _ => [])
    else p :: framePositions s m r

/-- The 16 bytes of a position. -/
def posBytes (v : BitVec 128) : List Byte := leBytes 16 v.toNat

/-- TRACE_FRAME_SEND: the port sends a frame of at most `n` positions, 1 to 64 (R506, R507): its header holds SITE, the
flags, the sequence, the count and the CRC. -/
def execTraceFrameSend (n : Nat) (s : State) : Host.Outcome State Fault Refusal :=
  let ps := framePositions s (min n 64) s.trc.unsent
  .next (if s.trc.stream && s.on F.TRC_CTRL_PORT_EN && s.vgov && s.f F.PWRd_STATUS_STEP 0x463 == 0 && decide (ps ≠ []) then
    let vs := ps.map (fun p => Tab.get 0 s.trc.buf p)
    let flags := (if s.on F.LACE_TIME_ALIGNED then 1 else 0) + (if s.on F.LACE_ID_IS_HEAD then 2 else 0)
    let crc := (crc32c (vs.flatMap posBytes)).toNat
    let s := { s with trc := { s.trc with
      unsent := s.trc.unsent.drop ps.length, frameSeq := (s.trc.frameSeq + 1) % 65536, lastFrame := vs,
      lastFrameHdr := [s.f F.LACE_ID_SITE, flags, s.trc.frameSeq, ps.length, crc] } }
    (s.incf F.TRC_PORT_FRAMES 0).trcPressure
  else s)

/-- The blocks of the last frame on the port, in order: a control block with its type and bytes 1 to 7, or a data block
with its 8 bytes (R507). -/
def TrcSt.frameBlocks (t : TrcSt) : List (Option Nat × List Byte) :=
  match t.lastFrameHdr with
  | [site, flags, seq, n, crc] =>
    (some 0x78, leBytes 1 site ++ leBytes 1 flags ++ leBytes 2 seq ++ leBytes 1 n ++ [0, 0])
      :: t.lastFrame.flatMap (fun v => [(none, (posBytes v).take 8), (none, (posBytes v).drop 8)])
      ++ [(none, leBytes 8 crc), (some 0x87, leBytes 7 0)]
  | _ => []

/-! ### What the windows show (R508, R511, R513) -/

/-- TRC_WINw. -/
def State.trcWin (s : State) (w : Nat) : Word :=
  let p := s.f F.TRC_RD_BASE * 256 + w / 4
  BitVec.ofNat 32 ((Tab.get 0 s.trc.buf p).toNat / 2 ^ (32 * (w % 4)))

/-- A log entry as 16 bytes (R513). -/
def LogEnt.num (e : LogEnt) : Nat :=
  e.t.toNat + e.code % 65536 * 2 ^ 64 + e.unit % 32768 * 2 ^ 80 + (if e.restored then 2 ^ 95 else 0) + e.arg.toNat * 2 ^ 96

/-- The log entry at a place of the ring: the newest stands at (COUNT - 1) mod 8,192. -/
def State.logPlace (s : State) (k : Nat) : Nat :=
  let newest := (s.pair R.LOG_COUNT_LO R.LOG_COUNT_HI + 8191) % 8192
  match s.trc.log[(newest + 8192 - k) % 8192]? with
  | some e => e.num
  | none => 0

/-- A hang-ring entry as 8 bytes (R511). -/
def HangEnt.num (e : HangEnt) : Nat := e.t.toNat % 2 ^ 48 + e.code % 256 * 2 ^ 48 + e.arg % 256 * 2 ^ 56

/-- The newest place of a hang ring. -/
def State.hangNewest (s : State) (ring : Nat) : Nat := (Tab.get 0 s.trc.hangN ring + 31) % 32

/-- The hang-ring entry at a place. -/
def State.hangPlace (s : State) (ring k : Nat) : Nat :=
  match (Tab.get [] s.trc.hang ring)[(s.hangNewest ring + 32 - k) % 32]? with
  | some e => e.num
  | none => 0

/-- LOG_WINw. -/
def State.logWin (s : State) (w : Nat) : Word :=
  if s.on F.LOG_SEL_RING then
    (if w < 64 then BitVec.ofNat 32 (s.hangPlace (s.f F.LOG_SEL_RING_ID) (w / 2) / 2 ^ (32 * (w % 2))) else 0)
  else BitVec.ofNat 32 (s.logPlace (s.f F.LOG_SEL_BASE * 256 + w / 4) / 2 ^ (32 * (w % 4)))

end Sys2Proof.Machine
end

