-- ==== Sys2Proof/Machine/EyeOps.lean ====
section
/-! DEFINITION. Eyelet words, pages, reply queues and the journal (R360 to R376, R390 to R392): posting a command word,
posting a reply, taking a reply, and entries of the journal. -/
namespace Sys2Proof.Machine
open Sys2Proof

/-! ### Command and reply words (R373, R374) -/

/-- Fields of a command word. -/
def wOp (w : Word64) : Nat := w.toNat / 2 ^ 56
def wSeq (w : Word64) : Nat := w.toNat / 2 ^ 40 % 65536
def wRsv (w : Word64) : Nat := w.toNat / 2 ^ 34 % 64
def wReplay (w : Word64) : Bool := w.getLsbD 33
def wPage (w : Word64) : Bool := w.getLsbD 32
def wArg (w : Word64) : Word := w.setWidth 32

/-- STATUS of a reply word. -/
def wStatus (w : Word64) : Nat := w.toNat / 2 ^ 36 % 16
def wRepost (w : Word64) : Bool := w.getLsbD 35

/-- A reply word (R374). -/
def replyWord (op seq status : Nat) (repost loss part : Bool) (result : Nat) : Word64 :=
  BitVec.ofNat 64 (op % 256 * 2 ^ 56 + seq % 65536 * 2 ^ 40 + status % 16 * 2 ^ 36 + (if repost then 2 ^ 35 else 0)
    + (if loss then 2 ^ 34 else 0) + (if part then 2 ^ 33 else 0) + result % 2 ^ 32)

/-- STATUS codes (R374). -/
def ST_ACCEPTED : Nat := 0
def ST_DONE : Nat := 1
def ST_REFUSED : Nat := 2
def ST_SUPERSEDED : Nat := 3
def ST_INTERRUPTED : Nat := 4
def ST_STALE_ROLE : Nat := 5
def ST_BUSY : Nat := 6

/-- RESULT of a refusal: DETAIL and REASON (R374). -/
def refusedResult (reason detail : Nat) : Nat := detail % 65536 * 65536 + reason % 256

/-! ### Pages (R369 to R371) -/

/-- A byte of a channel's page. -/
def State.pageByte (s : State) (c i : Nat) : Byte := memByte s.eye.pages (4096 * c + i)

/-- `n` bytes of a channel's page from offset `i`. -/
def State.pageBytes (s : State) (c i n : Nat) : List Byte := memBytes s.eye.pages (4096 * c + i) n

/-- Write bytes of a channel's page. -/
def State.putPage (s : State) (c i : Nat) (l : List Byte) : State :=
  { s with eye := { s.eye with pages := memWrite s.eye.pages (4096 * c + i) l } }

/-- Write page output: the bytes, and zeros to the end of the page (R401 says so of the census; log entry 34). -/
def State.pageOut (s : State) (c : Nat) (l : List Byte) : State := s.putPage c 0 (bytesAt l 0 4096)

/-- Opcodes for which the command tables list page output (R386). -/
def opPageOut (op : Nat) : Bool := [0x03, 0x04, 0x27, 0x42, 0x60, 0x72, 0x80, 0x81, 0xA0].contains op

/-- A command uses its channel's page (R371). -/
def usesPage (op : Nat) (page : Bool) : Bool := page || opPageOut op

/-- The page of a channel is busy (R371). -/
def State.pageBusy (s : State) (c : Nat) : Bool := s.on F.EYEc_STATUS_PAGE_BUSY c

/-- Mark the page of a channel as used by the command of a journal slot, or free. -/
def State.putPageUser (s : State) (c : Nat) (u : Option Nat) : State :=
  (s.setChan c { s.chan c with pageUser := u }).setb F.EYEc_STATUS_PAGE_BUSY c u.isSome

/-! ### The journal (R390 to R392) -/

/-- Entries that are open. -/
def State.openEntries (s : State) : List JEnt := s.eye.journal.filter (fun e => !e.taken)

/-- Show OPEN of EYE_JOURNAL. -/
def State.showJournal (s : State) : State := s.setfSat F.EYE_JOURNAL_OPEN 0 s.openEntries.length

/-- The slot of a new entry: the lowest that no entry has used, else that of the closed entry that closed earliest
(R392). -/
def State.freeSlot (s : State) : Nat :=
  match (List.range 1024).find? (fun k => (s.jent? k).isNone) with
  | some k => k
  | none =>
    match s.eye.journal.foldl (fun (best : Option JEnt) (e : JEnt) =>
        if !e.taken then best
        else match best with
          | none => some e
          | some b => if e.closedAt < b.closedAt then some e else best) none with
    | some e => e.slot
    | none => 0

/-- Write a new entry (R378, R390). -/
def State.newEntry (s : State) (ch seq op flags : Nat) (arg : Word) : State × Nat :=
  let k := s.freeSlot
  let e : JEnt := { seq := seq, ch := ch, op := op, flags := flags, arg := arg, slot := k }
  let s := { s with eye := { s.eye with journal := s.eye.journal.filter (fun (x : JEnt) => !(x.slot == k)) ++ [e] } }
  let s := s.setFw { s.eye.fw with
    outcome := Tab.set 0 s.eye.fw.outcome k 0, effAt := Tab.set 0 s.eye.fw.effAt k 0 }
  ((s.setfSat F.EYE_JOURNAL_USED 0 (min (s.f F.EYE_JOURNAL_USED + 1) 1024)).showJournal, k)

/-- Close an entry: TAKEN is set, and its page is free (R371, R391, R392). -/
def State.closeEntry (s : State) (slot : Nat) : State :=
  match s.jent? slot with
  | none => s
  | some e =>
    if e.taken then s
    else
      let n := s.eye.closes + 1
      let s := { s with eye := { s.eye with closes := n } }
      let s := s.jmod slot (fun e => { e with taken := true, closedAt := n })
      let s := if (s.chan e.ch).pageUser = some slot then s.putPageUser e.ch none else s
      s.showJournal.fwChanged

/-! ### Replies (R366, R375, R380) -/

/-- Queue a reply that belongs to no entry. -/
def State.reply (s : State) (c : Nat) (w : Word64) : State := s.enqueue c { word := w }

/-- Queue a reply of the entry in a slot. -/
def State.replyOf (s : State) (e : JEnt) (status : Nat) (repost loss part fin : Bool) (result : Nat) : State :=
  s.enqueue e.ch {
    word := replyWord e.op e.seq status repost loss part result, jslot := some e.slot, fin := fin }

/-- A command takes effect: EFFECT and its result, in one operation with its action (R391). -/
def State.effect (s : State) (slot result : Nat) : State :=
  (s.jmod slot (fun e => { e with effect := true, result := BitVec.ofNat 32 result })).fwChanged

/-- Produce the final reply of an entry; an entry has only one (R380). -/
def State.finish (s : State) (slot status result : Nat) (part : Bool := false) : State :=
  match s.jent? slot with
  | none => s
  | some e =>
    if e.final then s
    else
      let s := s.jmod slot (fun e => { e with
        final := true, partialDone := part, result := BitVec.ofNat 32 result })
      let s := s.setFw { s.eye.fw with outcome := Tab.set 0 s.eye.fw.outcome slot 0 }
      (s.replyOf e status false false part true result).fwChanged

/-- An at-once command takes effect and is DONE. -/
def State.doneNow (s : State) (slot result : Nat) : State := (s.effect slot result).finish slot ST_DONE result

/-- A command is refused at execution. -/
def State.refuseNow (s : State) (slot reason detail : Nat) : State :=
  s.finish slot ST_REFUSED (refusedResult reason detail)

/-! ### Posting a command word (R361 to R363, R368) -/

/-- A channel that the CFG port may not command: channel 8 (R368), and the relay's channel (R431). -/
def State.chanClosed (s : State) (c : Nat) : Bool := decide (8 ≤ c) || s.relayOwns c

/-- The hang ring of an Eyelet channel (R510). -/
def eyeRing (c : Nat) : Nat := 0x4E0 + c

/-- The word in a channel's command registers. -/
def State.cmdWord (s : State) (c : Nat) : Word64 := BitVec.ofNat 64 (s.pair R.EYEc_CMD_LO R.EYEc_CMD_HI c)

/-- A write that CMD_FULL refuses (R362). -/
def State.refuseWrite (s : State) (c : Nat) : State := (s.setf F.EYEc_STATUS_WR_REFUSED c 1).hang (eyeRing c) 0x04 0

/-- A posted word: CMD_FULL is set, and the active pair wakes from RET, or from its route there (R336, R361, R363). -/
def State.postWord (s : State) (c : Nat) (w : Word64) : State :=
  let s := (s.setPair R.EYEc_CMD_LO R.EYEc_CMD_HI c w.toNat).setf F.EYEc_STATUS_CMD_FULL c 1
  let s := s.hang (eyeRing c) 0x01 (wOp w)
  let d := 0x460 + s.activePair
  if s.vgov && !s.rst.warm && s.domRest d != 0 then s.domRequest d 0 4 none false else s

/-- A CFG write of EYEc_CMD_LO alone (R361, R362, R368). -/
def writeCmdLo (c : Nat) (w : Word) (s : State) : State × Bool :=
  if s.chanClosed c then (s, true)
  else if s.on F.EYEc_STATUS_CMD_FULL c then (s.refuseWrite c, true)
  else (s.wr R.EYEc_CMD_LO c w, false)

/-- A CFG write that posts: of EYEc_CMD_HI, or of both halves at once (R361, R362, R368). -/
def writeCmd (c : Nat) (wide : Bool) (w : Word64) (s : State) : State × Bool :=
  if s.chanClosed c then (s, true)
  else if s.on F.EYEc_STATUS_CMD_FULL c then (s.refuseWrite c, true)
  else
    let w := if wide then w else BitVec.ofNat 64 (w.toNat % 2 ^ 32 * 2 ^ 32 + (s.rd R.EYEc_CMD_LO c).toNat)
    (s.postWord c w, false)

/-! ### Posting and taking replies (R366, R391) -/

/-- Show RSP_QUEUED. -/
def State.showQueued (s : State) (c : Nat) : State :=
  s.setf F.EYEc_STATUS_RSP_QUEUED c (min (s.chan c).queue.length 31)

/-- What the post of a reply records in its entry (R391). -/
def State.notePost (s : State) (q : QWord) : State :=
  match q.jslot with
  | none => s
  | some k =>
    if wRepost q.word then s
    else if q.fin then s.jmod k (fun e => { e with finPosted := true, status := wStatus q.word })
    else s.jmod k (fun e => { e with accPosted := true })

/-- Post the next word of a channel's queue (R366): RSP_FULL and REPLY are set. -/
def State.postReply (s : State) (c : Nat) : State :=
  match (s.chan c).queue with
  | [] => s
  | q :: r =>
    let x := s.chan c
    let s := (s.setChan c { x with queue := r, posted := some q }).showQueued c
    let s := s.setPair R.EYEc_RSP_LO R.EYEc_RSP_HI c q.word.toNat
    let s := (s.setf F.EYEc_STATUS_RSP_FULL c 1).setBitf F.EYE_IRQ_REPLY 0 c true
    let s := s.notePost q
    if q.notice then
      let s := s.setf F.EYE_NOTICE_QUEUED 0 (s.f F.EYE_NOTICE_QUEUED - 1)
      s.trace 11 0 (2 ^ 15 + c) 0 (some q.word.toNat)
    else
      let s := if s.on F.EYEc_STATUS_CMD_HELD c && wSeq x.held == wSeq q.word then s.setf F.EYEc_STATUS_CMD_HELD c 0 else s
      let s := s.hang (eyeRing c) 0x03 (wStatus q.word * 16 + q.word.toNat / 2 ^ 33 % 8 * 2)
      s.trace 11 0 (2 ^ 15 + c) 0 (some q.word.toNat)

/-- The posted reply is taken: RSP_FULL clears, and a final reply closes its entry (R366, R391). -/
def State.takeReply (s : State) (c : Nat) : State :=
  match (s.chan c).posted with
  | none => s
  | some q =>
    let s := (s.setChan c { s.chan c with posted := none }).setf F.EYEc_STATUS_RSP_FULL c 0
    match q.jslot with
    | none => s
    | some k =>
      if q.fin && (s.eye.journal.any (fun e => e.slot == k && e.ch == c && e.seq == wSeq q.word && e.op == wOp q.word)) then
        s.closeEntry k
      else s

/-- The host takes the posted reply; the take of a final reply is a journal operation, held while the save is active
(R391, R453, R454). -/
def State.hostTake (s : State) (c : Nat) : State :=
  match (s.chan c).posted with
  | none => s
  | some q =>
    if s.sag && q.fin then
      (if s.flt.heldOps.contains (.take c) then s
      else { s with flt := { s.flt with heldOps := s.flt.heldOps ++ [.take c] } })
    else s.takeReply c

/-- A write of EYEc_STATUS: the sticky bits clear where 1 is written, and a 1 in RSP_FULL takes the reply (R366). -/
def writeEyeStatus (c : Nat) (w : Word) (s : State) : State × Bool :=
  let s := if w.getLsbD 29 then s.setf F.EYEc_STATUS_WR_REFUSED c 0 else s
  let s := if w.getLsbD 27 then s.setf F.EYEc_STATUS_PAGE_WR_REFUSED c 0 else s
  (if w.getLsbD 30 then s.hostTake c else s, false)

/-! ### The page window (R370, R371) -/

/-- The channel and the first page byte that window word `w` shows. -/
def State.winPlace (s : State) (w : Nat) : Nat × Nat :=
  (min (s.f F.EYE_WIN_SEL_CH) 8, 2048 * s.f F.EYE_WIN_SEL_HALF + 4 * w)

/-- Read a window word. -/
def State.eyeWin (s : State) (w : Nat) : Word :=
  let p := s.winPlace w
  BitVec.ofNat 32 (leNat (s.pageBytes p.1 p.2 4))

/-- A CFG write of a window word (R368, R370, R371, R431). -/
def writeEyeWin (w : Nat) (data : Word) (s : State) : State × Bool :=
  let p := s.winPlace w
  if s.chanClosed p.1 then (s, true)
  else if s.pageBusy p.1 then (s.setf F.EYEc_STATUS_PAGE_WR_REFUSED p.1 1, true)
  else (s.putPage p.1 p.2 (leBytes 4 data.toNat), false)

end Sys2Proof.Machine
end

