-- ==== Sys2Proof/Machine/ResetOps.lean ====
section
/-! DEFINITION. Resets (R19, R109, R358, R561 to R566): what a warm reset and a die reset return to reset, when a
warm-reset cause takes effect, ADOPT, and the ride-through of a supply sag (R457). -/
namespace Sys2Proof.Machine
open Sys2Proof

/-! ### The warm reset (R358, R561, R562, R564) -/

/-- A warm reset returns the register at an offset to reset: it belongs to the warm or the die domain, and to no block
that R564 keeps operating. -/
def warmClears (off : Nat) : Bool :=
  match findReg off with
  | some (r, _) => decide (r.dom ≠ Dom.cold) && !heldBlock off
  | none => false

/-- Keep what no reset of the governor takes from a domain: its state and the generation of its save data (R358). -/
def State.keepDomains (s old : State) : State :=
  allDomains.foldl (fun s d =>
    (s.setf F.PWRd_STATUS_STEP d (old.domStep d)).setf F.PWRd_STATUS_SAVE_GEN d (old.f F.PWRd_STATUS_SAVE_GEN d)) s

/-- The groups as the destinations hold them: each keeps its latest input (R238, R564). -/
def keptGroups (l : Tab GroupSt) : Tab GroupSt :=
  l.filterMap (fun (e : Nat × GroupSt) => if e.2.cap.isSome then some (e.1, { had := false, last := none, cap := e.2.cap }) else none)

/-- The read shadows after a reset of the domains that `gone` names: those of other pairs stay (R18). -/
def keptShadows (gone : Dom → Bool) (l : Tab Word) : Tab Word :=
  l.filter (fun (e : Nat × Word) => match findReg e.1 with
    | some (r, _) => !gone r.dom
    | none => false)

/-- The values that readers without privilege see follow the registers that a reset returns to 0 (R531). -/
def State.teleZero (s : State) (gone : Nat → Bool) : State :=
  (s.tele.map (·.1)).foldl (fun (s : State) k => if gone k then s.telem k 0 else s) s

/-- A warm reset begins: registers and blocks return to reset, and the firmware stops (R109, R503, R508, R535, R561 to
R564). -/
def State.warmReset (s : State) (cause : Nat) : State :=
  let old := s
  let s := (s.dropRegions.islandLost 0x463).dropRelays
  let s := { s with
    regs := s.regs.filter (fun (e : Nat × Word) => !warmClears e.1),
    shadow := keptShadows (fun d => decide (d ≠ Dom.cold)) s.shadow }
  let s := (s.keepDomains old).teleZero (fun k => decide (k = 0x2A000000))
  let s := { s with
    loop := { groups := keptGroups s.loop.groups, div := s.loop.div },
    lasts := {},
    lace := {},
    trc := { s.trc with pmb := {} },
    sec := { s.sec with challenge := none },
    trd := { s.trd with sweep := none, dummy := false },
    pwr := { s.pwr with dom := s.pwr.dom.map (fun (e : Nat × DomSt) =>
      (e.1, { iso := e.2.iso, clk := e.2.clk, psw := e.2.psw, fromOff := e.2.fromOff })) },
    rst := { s.rst with warm := true, warmCause := cause, warmAt := s.now, warmPending := none } }
  let s := s.setFw { s.eye.fw with
    running := false, takeover := false, resuming := true, planLoading := false, fwBusy := false }
  let s := s.setf F.EYE_FW_STANDBY_READY 0 0
  let s := (s.setf F.GOV_RESET_LAST_CAUSE 0 cause).incf F.GOV_RESET_COUNT 0
  if cause = 2 then s.setf F.GOV_RESET_STATUS 0 2 else s

/-- A warm-reset cause arises: 1 GOV_RST_N, 2 WARM written, 3 FW_ACTIVATE, 4 the supplies. It waits while SAG_ACTIVE is 1,
and extends a warm reset in progress (R562). -/
def State.warmArises (s : State) (cause : Nat) : State :=
  if s.rst.cold then s
  else if s.sag then
    let s := if cause = 2 then s.setf F.GOV_RESET_STATUS 0 1 else s
    { s with rst := { s.rst with warmPending := some (s.rst.warmPending.getD cause) } }
  else if s.rst.warm then
    let s := if cause = 2 then s.setf F.GOV_RESET_STATUS 0 2 else s
    { s with rst := { s.rst with warmAt := s.now } }
  else s.warmReset cause

/-- WARM_RESET: GOV_RST_N goes low (R561, R562). -/
def execWarmReset (s : State) : Host.Outcome State Fault Refusal := .next (s.warmArises 1)

/-- A write of GOV_RESET: 1 in WARM requests a warm reset (R561). -/
def writeGovReset (w : Word) (s : State) : State × Bool :=
  let s := s.setb F.GOV_RESET_WARM 0 (w.getLsbD 0)
  (if w.getLsbD 0 then s.warmArises 2 else s, false)

/-- GOV_RESET_WRITE: a CFG write of GOV_RESET (R561). -/
def execGovResetWrite (priv : Bool) (w : Word) (s : State) : Host.Outcome State Fault Refusal :=
  .next (s.cfgWrite priv R.GOV_RESET 0 (writeGovReset w))

/-! ### ADOPT and GOV_LOCK (R526, R564) -/

/-- A write of GOV_ADOPT: 1 loads the held blocks' registers from their operating values. The model keeps those values
in the registers themselves, and the hold is the view of them (R564). -/
def writeGovAdopt (w : Word) (s : State) : State × Bool :=
  let s := s.setb F.GOV_ADOPT_ADOPT 0 (w.getLsbD 0)
  (if w.getLsbD 0 then s.setf F.GOV_ADOPT_STATUS 0 2 else s, false)

/-- ADOPT: a CFG write of GOV_ADOPT (R564). -/
def execAdopt (priv : Bool) (w : Word) (s : State) : Host.Outcome State Fault Refusal :=
  .next (s.cfgWrite priv R.GOV_ADOPT 0 (writeGovAdopt w))

/-- GOV_LOCK_WRITE: a CFG write of GOV_LOCK: a lock bit can be set, and then stays set (R526). -/
def execGovLockWrite (priv : Bool) (w : Word) (s : State) : Host.Outcome State Fault Refusal :=
  .next (s.cfgWrite priv R.GOV_LOCK 0 (writeReg · .cfg R.GOV_LOCK 0 w))

/-! ### The die reset (R109, R561, R565) -/

/-- The clamp line as the sources outside the compute die hold it. -/
def State.rebuildClamp (s : State) (reqs : Tab Bool) : State :=
  let keep := reqs.filter (fun (e : Nat × Bool) => e.1 / 4096 != 2 && e.1 / 4096 != 5)
  let bits := (List.range 6).foldl (fun a b => if keep.any (fun e => e.1 / 4096 == b) then a + 2 ^ b else a) 0
  let s := { s with crd := { s.crd with clampReq := keep } }
  if keep = [] then s
  else (s.setf ⟨R.CRD_CLAMP_STATUS, 0, 6⟩ 0 bits).setf F.CRD_CLAMP_STATUS_ACTIVE 0 1

/-- The compute-die parts return to reset, fields and operation: the Clicker, the stations, the Welts, the droop
detectors and the predictor; the caps sent to them are gone (R19, R565). The job meters stay (R109). Firmware that has
booted holds the guardbands in its TREAD section (R487), from which DIE_RESET_END writes them back (log entry 36). -/
def State.dieReset (s : State) : State :=
  let reqs := s.crd.clampReq
  let s := if 9 ≤ s.f F.GOV_BOOT_STAGE then { s with trd := { s.trd with guards := s.guardBytes } } else s
  let s := { s with
    regs := s.regs.filter (fun (e : Nat × Word) => match findReg e.1 with
    | some (r, _) => decide (r.dom ≠ Dom.die)
    | none => true),
    shadow := keptShadows (fun d => decide (d = Dom.die)) s.shadow }
  let s := s.teleZero (fun k => k == 0x10040 || k == 0x2A000000 || k / 2 ^ 24 == 0x20 || k / 2 ^ 24 == 0x21 || k / 2 ^ 24 == 0x22)
  let s := { s with
    crd := { jobClear := s.crd.jobClear, gateGen := s.crd.gateGen + 1 },
    welt := {},
    lasts := { s.lasts with pred := {} },
    loop := { s.loop with div := [], groups := s.loop.groups.map (fun (e : Nat × GroupSt) => (e.1, { e.2 with cap := none })) },
    rst := { s.rst with die := true } }
  ((s.rebuildClamp reqs).applyAllCaps).markLost

/-- DIE_RESET: DIE_RST_N is low. While a warm reset is in progress the compute-die parts keep operating (R564, R565). -/
def execDieReset (s : State) : Host.Outcome State Fault Refusal :=
  .next (if s.rst.cold || s.rst.warm || s.rst.die then s else s.dieReset)

/-! ### Ride-through (R457) -/

/-- A journal operation that the save held is performed (R454). -/
def State.heldOp (s : State) (h : HeldOp) : State :=
  match h with
  | .take c => s.takeReply c
  | .unitMsg n msg => if s.coreUp n then s.unitMessage n (BitVec.ofNat 64 msg) else s

/-- SAG_RIDE_THROUGH: VSHK_IN has been at or above 3.05 V for 100 µs after the save ended (R454, R457, R562). -/
def execSagRideThrough (vshk hold : Nat) (s : State) : Host.Outcome State Fault Refusal :=
  .next (if s.sag && decide (2 ≤ s.f F.FLT_SAG_STATE) && s.passed s.flt.sagEnd 100000 && decide (3050 ≤ vshk) then
    let s := s.putHold vshk hold
    let s := s.clampSet 3 0 false
    let ops := s.flt.heldOps
    let s := { s with flt := { s.flt with heldOps := [] } }
    let s := (s.setf F.FLT_STATUS_SAG_ACTIVE 0 0).setf F.FLT_SAG_STATE 0 0
    let s := (s.setf F.FLT_SAG_RIDE 0 1).log 0x0205 0 (s.f F.FLT_SAG_LAST_TIME)
    let s := ops.foldl State.heldOp s
    let s := s.resumeHeld
    match s.rst.warmPending with
    | some c => s.warmReset c
    | none => s
  else s)

end Sys2Proof.Machine
end

