-- ==== Sys2Proof/Machine/FwTiles.lean ====
section
/-! DEFINITION. Boot records (R523, R525), the census state (R401, R402), and the tiles of TYPE 0x40 to 0x42 that the
firmware keeps in the Insole: the journal, the pages and the census state (R346, R369, R390). -/
namespace Sys2Proof.Machine
open Sys2Proof

/-! ### Boot records (R523, R525) -/

/-- The address of a boot record: false the first, true the second. -/
def bootAddr (b : Bool) : Nat := if b then 0x90100 else 0x90000

/-- The 64 bytes of a boot record. -/
def bootRecord (seq counter slot : Nat) : List Byte :=
  let body := bytesAt (leBytes 2 0x5242 ++ leBytes 4 seq ++ leBytes 2 counter ++ leBytes 1 slot) 0 60
  body ++ leBytes 4 (crc32c body).toNat

/-- A boot record in the MRAM; none where it is not valid: SEQNUM, COUNTER, SLOT. -/
def State.bootAt (s : State) (b : Bool) : Option (Nat × Nat × Nat) :=
  let l := memBytes s.flt.mram (bootAddr b) 64
  if leAt l 0 2 = 0x5242 ∧ (crc32c (l.take 60)).toNat = leAt l 60 4 then
    some (leAt l 2 4, leAt l 6 2, leAt l 8 1) else none

/-- The newest valid boot record and its place (R460, R523). -/
def State.bootNewest (s : State) : Option (Bool × Nat × Nat × Nat) :=
  match s.bootAt false, s.bootAt true with
  | none, none => none
  | some a, none => some (false, a)
  | none, some b => some (true, b)
  | some a, some b => if seqNewer b.1 a.1 then some (true, b) else some (false, a)

/-- COUNTER and SLOT in force; 0 where neither record is valid (R523). -/
def State.bootCounter (s : State) : Nat := (s.bootNewest.map (fun e => e.2.2.1)).getD 0
def State.bootSlot (s : State) : Nat := (s.bootNewest.map (fun e => e.2.2.2 % 2)).getD 0

/-- Write a boot record: to the place without the newest valid one, with SEQNUM one greater (R525). -/
def State.putBoot (s : State) (counter slot : Nat) : State :=
  let b := (s.bootNewest.map (fun e => !e.1)).getD false
  let seq := ((s.bootNewest.map (fun e => e.2.1)).getD 0 + 1) % 2 ^ 32
  let s := { s with flt := { s.flt with mram := memWrite s.flt.mram (bootAddr b) (bootRecord seq counter slot) } }
  s.setf F.GOV_ARB_COUNTER 0 counter

/-! ### The census snapshot (R401, R402; the layout of each section's body is log entry 38) -/

/-- A section: its header and body. -/
def section_ (id : Nat) (body : List Byte) : List Byte := leBytes 1 id ++ leBytes 1 0 ++ leBytes 2 body.length ++ body

/-- The plan version that a header holds. -/
def planVersion (hdr : List Byte) : Nat := leAt hdr 0 4

/-- VERSION of firmware 4.1 and block 2.0 (R386). -/
def fwVersion : Nat := 0x04010200

/-- CHANNELS: EXP_SEQ, open entries, queued replies, PAGE_BUSY of a channel. -/
def State.censusChan (s : State) (c : Nat) : List Byte :=
  leBytes 2 (s.f F.EYEc_STATUS_EXP_SEQ c) ++ leBytes 2 (s.openOf c).length ++ leBytes 2 (s.chan c).queue.length
    ++ leBytes 2 (if s.pageBusy c then 1 else 0)

/-- WINDOW: STATE, WIN_ID, end time, critical bitmap. -/
def State.censusWindow (s : State) : List Byte :=
  leBytes 2 (s.f F.THM_WIN_STATUS_STATE) ++ leBytes 2 (s.f F.THM_WIN_STATUS_WIN_ID)
    ++ leBytes 8 (s.pair R.THM_WIN_END_LO R.THM_WIN_END_HI)
    ++ (List.range 32).flatMap (fun k => leBytes 4 (s.f F.THM_WIN_CRITk_CRIT k))

/-- AUTH: granted scope, whether a challenge is outstanding, its ID, the lock bits. -/
def State.censusAuth (s : State) : List Byte :=
  leBytes 1 (s.f F.GOV_SEC_SCOPE) ++ leBytes 1 (if s.sec.challenge.isSome then 1 else 0)
    ++ leBytes 2 ((s.sec.challenge.map (·.1)).getD 0)
    ++ leBytes 4 ((s.rd R.GOV_LOCK).toNat % 8 + 8 * s.f F.GOV_LOCK_DIE_VOLT)

/-- FW_UPDATE: bytes received, committed version, anti-rollback counter. -/
def State.censusFw (s : State) : List Byte :=
  leBytes 4 s.eye.fw.img.length ++ leBytes 4 ((s.eye.fw.committed.map (·.1)).getD 0) ++ leBytes 4 s.bootCounter

/-- MODULE: site, head flag, member bitmap, module budget. -/
def State.censusModule (s : State) : List Byte :=
  leBytes 2 s.site ++ leBytes 2 (if s.isHead then 1 else 0) ++ leBytes 8 s.memberMap ++ leBytes 4 (s.f F.LACE_BUDGET_BUDGET)

/-- MARGIN: schedule period in hours and the service time of the next window, 0 for none. -/
def State.censusMargin (s : State) : List Byte :=
  match s.trd.sched with
  | some (t0, p, n) => leBytes 4 p ++ leBytes 8 (t0 + (n + 1) * p * 3600000000000)
  | none => leBytes 12 0

/-- The snapshot of the whole firmware state. -/
def State.census (s : State) : List Byte :=
  let fw := s.eye.fw
  section_ 0x01 (leBytes 4 fwVersion ++ leBytes 4 (s.rd R.EYE_FW).toNat ++ leBytes 8 s.now.toNat)
  ++ section_ 0x02 ((List.range 9).flatMap s.censusChan)
  ++ section_ 0x03 (s.openEntries.flatMap JEnt.bytes)
  ++ section_ 0x04 (leBytes 4 (planVersion fw.planHdr) ++ leBytes 4 (s.rd R.TRD_MARGIN_VER).toNat
      ++ leBytes 2 fw.staged.length ++ leBytes 2 fw.refusedWrites)
  ++ section_ 0x05 s.censusWindow ++ section_ 0x06 s.censusAuth
  ++ section_ 0x07 (leBytes 2 (s.f F.TRC_SRC_MASK) ++ leBytes 2 (s.f F.TRC_COUNT_TRIGGERS))
  ++ section_ 0x08 s.censusFw ++ section_ 0x09 s.censusModule ++ section_ 0x0A s.censusMargin
  ++ section_ 0x0B ((List.range 16).flatMap (fun k =>
      leBytes 2 (ofSigned 16 ((s.f F.PREDSs_GAIN_GAIN k : Int) - (Tab.get 0x8000 s.lasts.pred.cal k : Nat)))))
  ++ section_ 0x0C (leBytes 2 (s.f F.EYE_NOTICE_QUEUED) ++ leBytes 2 (s.f F.EYE_NOTICE_LOST))
  ++ section_ 0xFF []

/-! ### The firmware's tiles (R346, R369, R390) -/

/-- Bytes of a tile of the journal: 14 entries of 16 B, 0 where no command has used the entry (R390). -/
def State.journalTile (s : State) (i : Nat) : List Byte :=
  (List.range (if i = 73 then 2 else 14)).flatMap (fun j =>
    match s.eye.journal.find? (fun e => e.slot == 14 * i + j) with
    | some e => e.bytes
    | none => List.replicate 16 0)

/-- The tile that stands at place `i` of copy `c` of an object of the firmware; the census state takes as many tiles as it
fills (log entry 46). -/
def State.fwTile (s : State) (o c i : Nat) : Option (List Byte) :=
  if o = 0 then some (buildTile 0x40 (c + (if i = 73 then 2 else 0)) 0x7FF i 0 (s.journalTile i))
  else if o = 1 then
    let l := s.census
    if 236 * i < l.length then
      some (buildTile 0x42 (c + (if l.length ≤ 236 * (i + 1) then 2 else 0)) 0x7FF i 0 ((l.drop (236 * i)).take 236))
    else none
  else
    let ch := o - 2
    some (buildTile 0x41 (c + (if i = 17 then 2 else 0)) 0x7FF (256 * ch + i) 0 (s.pageBytes ch (236 * i) (if i = 17 then 84 else 236)))

/-- The 256 bytes of the tile at an address as the window shows them (R359). -/
def State.shownTile (s : State) (t : Nat) : List Byte :=
  ((s.fwObjAt t).bind (fun e => s.fwTile e.1 e.2.1 e.2.2)).getD (insTile s.pwr.insole t)

end Sys2Proof.Machine
end

