-- ==== Sys2Proof/Machine/Cfg.lean ====
section
/-! DEFINITION. The CFG port as a whole (R11 to R18, R359, R530, R531, R537, R548 to R551, R569 to R571): what every
register reads as, what every register does when it is written, 32-bit and 64-bit accesses, and the Insole window. -/
namespace Sys2Proof.Machine
open Sys2Proof

/-! ### What a register reads as (R14) -/

/-- A word with one field replaced by a value that the block computes at the read. -/
def State.shown (s : State) (x : Fld) (i v : Nat) : Word := putBits (s.rd x.reg i) x.lo x.len v

/-- The value of a register for a reader with privilege, without the hold of R564. Registers whose value the block forms
at the read stand here by their offset; every other register reads the word it holds. -/
def State.regNow (s : State) (r : Reg) (i : Nat) : Word :=
  match r.off with
  | 0x01800 => s.eyeWin i
  | 0x02000 => BitVec.ofNat 32 (if s.started then s.time.count.toNat else 0)
  | 0x02004 => BitVec.ofNat 32 (if s.started then s.time.count.toNat / 2 ^ 32 else 0)
  | 0x03064 => s.trkData
  | 0x03404 => s.shown F.FLTRr_STATUS_LEVEL i (if s.faultLevel i then 1 else 0)
  | 0x0A00C => BitVec.ofNat 32 (s.fswNow)
  | 0x0D100 => (s.rollEpoch i).rd R.DRPCc_STATUS i
  | 0x10034 => s.costEntry s.costIndex
  | 0x1100C => s.shown F.CRDSn_STATUS_CLAMPED i (if s.clamped then 1 else 0)
  | 0x20008 => (s.busyRoll s.cycNow).shown F.LOOP_LOAD_LOAD 0 s.loopLoad
  | 0x28118 =>
    let w := s.shown F.LASTl_STATUS_G i (s.lastG i 0)
    putBits w 0 18 ((s.last i).pEst / 1000)
  | 0x2811C => BitVec.ofNat 32 (s.lastBin i 0 * 65536 + ofSigned 16 (s.lastDev i 0))
  | 0x30000 =>
    let x := s.last (i / 2048)
    let k := i % 2048
    BitVec.ofNat 32 (ofSigned 16 (x.bin? (2 * k + 1)) * 65536 + ofSigned 16 (x.bin? (2 * k)))
  | 0x50034 => s.readSdata
  | 0x70008 => BitVec.ofNat 32 s.service
  | 0x7000C => BitVec.ofNat 32 (s.service / 2 ^ 32)
  | 0x70804 => s.trdView 0
  | 0x70808 => s.trdView 1
  | 0x7080C => s.trdView 2
  | 0x79000 => s.trcWin i
  | 0x7E004 => s.shown F.LOG_HEAD_RING_NEWEST 0 (s.hangNewest (s.f F.LOG_SEL_RING_ID))
  | 0x7F000 => s.logWin i
  | _ => s.rd r i

/-- The value under the hold of R564: the held blocks read their reset values. -/
def State.regView (s : State) (r : Reg) (i : Nat) : Word :=
  if heldBlock (r.at i) && s.holding then r.rst i else s.regNow r i

/-! ### Telemetry for readers without privilege (R530, R531) -/

/-- The mean over the last completed 1 ms window, rounded down to a multiple of `unit`. -/
def State.meanDown (s : State) (key unit : Nat) : Int :=
  let x := s.teleNow key
  x.last / (max 1 x.lastLen * unit : Nat) * unit

/-- An energy count at the end of the last completed window, down to a multiple of 8,000 ec; counts are in 1/16 ec. -/
def State.energyDown (s : State) (key : Nat) : Nat := (s.teleNow key).atEnd.toNat / 128000 * 128000

/-- What a reader without privilege sees of a register: the three identity registers and the table of R531. -/
def State.regCoarse (s : State) (r : Reg) (i : Nat) : Word :=
  match r.off with
  | 0x00000 | 0x00004 | 0x00008 => s.rd r i
  | 0x0C010 => BitVec.ofNat 32 (s.meanDown 0x22000000 16).toNat
  | 0x0C118 => BitVec.ofNat 32 ((s.meanDown (0x21000000 + i) 16).toNat * 65536 + (s.meanDown (0x20000000 + i) 8).toNat)
  | 0x60014 => BitVec.ofNat 32 (s.meanDown 0x2A000000 16).toNat
  | 0x0902C => BitVec.ofNat 32 ((s.meanDown (0x23000000 + i) 8).toNat * 65536 + (s.meanDown (0x24000000 + i) 1).toNat)
  | 0x0B00C => BitVec.ofNat 32 (ofSigned 16 (s.meanDown (0x26000000 + i) 1) * 65536 + (s.meanDown (0x25000000 + i) 8).toNat)
  | 0x10040 => BitVec.ofNat 32 (s.energyDown 0x10040)
  | 0x10044 => BitVec.ofNat 32 (s.energyDown 0x10040 / 2 ^ 32)
  | 0x1A008 => BitVec.ofNat 32 (s.energyDown (0x1A008 + 16 * i))
  | 0x1A00C => BitVec.ofNat 32 (s.energyDown (0x1A008 + 16 * i) / 2 ^ 32)
  | _ => 0

/-- What a reader sees of a register. -/
def State.regSeen (s : State) (priv : Bool) (r : Reg) (i : Nat) : Word :=
  if priv then s.regView r i
  else if heldBlock (r.at i) && s.holding then 0
  else s.regCoarse r i

/-- A reader without privilege sees something of this register (R530). -/
def coarseSeen (off : Nat) : Bool :=
  [0x00000, 0x00004, 0x00008, 0x0C010, 0x0C118, 0x60014, 0x0902C, 0x0B00C, 0x10040, 0x10044, 0x1A008, 0x1A00C].contains off

/-! ### 64-bit pairs (R18, R570) -/

/-- Low words of the 64-bit pairs: the registers named _LO whose next register is named _HI (R18, R570). -/
def pairLows : List Nat :=
  [0x01100, 0x01108, 0x02000, 0x0C018, 0x0D018, 0x10040, 0x10048, 0x10050, 0x10058, 0x10060, 0x10068, 0x1A008,
   0x50048, 0x70008, 0x70010, 0x70108, 0x78018, 0x7C030, 0x7E008]

/-- A register is the low word of a pair. -/
def isPairLo (r : Reg) : Bool := pairLows.contains r.off

/-- A register is the high word of a pair. -/
def isPairHi (r : Reg) : Bool := decide (4 ≤ r.off) && pairLows.contains (r.off - 4)

/-! ### Reads (R14, R18, R359, R530, R548, R551, R569) -/

/-- The offset that the 18 address bits name (R548). -/
def cfgOff (addr : BitVec 18) : Nat := 4 * addr.toNat

/-- A word of the Insole window: the stored bytes, 0 in a fenced bank (R356, R359). -/
def State.insoleWord (s : State) (off : Nat) : Word :=
  let a := off - 0x80000
  if s.bankFenced (a / 65536) then 0
  else BitVec.ofNat 32 (leAt (s.shownTile (a / 256)) (a % 256) 4)

/-- One word as a read returns it, and whether it draws an error response. -/
def State.readWord (s : State) (priv : Bool) (off : Nat) : Word × Bool :=
  if s.rst.cold then (0, true)
  else if 0x80000 ≤ off then (if priv then s.insoleWord off else 0, false)
  else match findReg off with
    | none => (0, false)
    | some (r, i) =>
      if !presentIdx r.pres i then (0, false)
      else if !s.answers off r i then (0, true)
      else (s.regSeen priv r i, false)

/-- A 32-bit read: the low word of a pair latches the high word into the shadow, and the high word returns the shadow
(R18). A reader that R530 shows nothing of a pair leaves its shadow. -/
def State.read32 (s : State) (priv : Bool) (off : Nat) : State :=
  let q := s.readWord priv off
  match findReg off with
  | some (r, i) =>
    let seen := priv || coarseSeen r.off
    if q.2 || !presentIdx r.pres i || !seen then s.respond q.2 (q.1.setWidth 64)
    else if isPairLo r then
      let hi := (s.readWord priv (off + 4)).1
      ({ s with shadow := Tab.set 0 s.shadow off hi }).respond false (q.1.setWidth 64)
    else if isPairHi r then s.respond false ((Tab.get 0 s.shadow (off - 4)).setWidth 64)
    else s.respond false (q.1.setWidth 64)
  | none => s.respond q.2 (q.1.setWidth 64)

/-- A 64-bit read: both words of the same instant, the shadow unchanged (R18, R548). -/
def State.read64 (s : State) (priv : Bool) (off : Nat) : State :=
  if off % 8 = 4 then s.respond true
  else
    let lo := s.readWord priv off
    let hi := s.readWord priv (off + 4)
    s.respond (lo.2 || hi.2) (hi.1 ++ lo.1)

/-- READ_SHADOW_LATCH: a CFG read (R18); of a pair's low word it latches the shadow. -/
def execReadShadowLatch (priv wide : Bool) (addr : BitVec 18) (s : State) : Host.Outcome State Fault Refusal :=
  .next (if wide then s.read64 priv (cfgOff addr) else s.read32 priv (cfgOff addr))

/-! ### Writes (R13, R16, R17, R528, R529) -/

/-- A write that a setting of the throttles follows at once: the caps of every cluster are formed again (R238, R315). -/
def writeCaps (by_ : Writer) (r : Reg) (w : Word) (s : State) : State × Bool :=
  let q := writeReg s by_ r 0 w
  (q.1.applyAllCaps, q.2)

/-- Registers of the base-die control islands whose write is an action; the rest take the plain write. -/
def State.actGov (s : State) (by_ : Writer) (r : Reg) (i : Nat) (w : Word) : Option (State × Bool) :=
  match r.off with
  | 0x00020 => some (writeGovReset w s)
  | 0x00024 => some (writeGovAdopt w s)
  | 0x01100 => some (writeCmdLo i w s)
  | 0x01104 => some (writeCmd i false (w.setWidth 64) s)
  | 0x01110 => some (writeEyeStatus i w s)
  | 0x01800 => some (writeEyeWin i w s)
  | 0x02008 => some (writeTimeTrim w s)
  | 0x0200C => some (writeTimeStep w s)
  | 0x03000 => some (writeFltCtrl by_ w s)
  | 0x03050 => some (writeFltAwl w s)
  | 0x03400 => some (writeFltCfg i by_ w s)
  | 0x03404 => some (writeFltStatus i w s)
  | 0x05800 => some (writePwrCtrl i by_ w s)
  | 0x08000 => some (writeSeqCtrl w s)
  | 0x09000 => some (writeRailCtrl i by_ w s)
  | 0x09004 => some (writeRailTarget i w s)
  | 0x09008 => some (writeRailInput R.RAILr_LIMIT i by_ w s)
  | 0x0900C => some (writeRailInput R.RAILr_SAFE i by_ w s)
  | 0x09018 => some (writeRailTrack i by_ w s)
  | 0x0901C => some (writeRailInput R.RAILr_PROT i by_ w s)
  | 0x0A000 => some (writePhTimebase by_ w s)
  | 0x0B000 => some (writePhCfg i by_ w s)
  | 0x0B008 => some (writePhStatus i by_ w s)
  | _ => none

/-- Registers of the compute die, the loop engine, the Lasts, the thermal block, Tread, trace and Lace whose write is an
action. -/
def State.actDie (s : State) (by_ : Writer) (r : Reg) (i : Nat) (w : Word) : Option (State × Bool) :=
  match r.off with
  | 0x0C100 => some (writeWeltCfg i by_ w s)
  | 0x0D004 => some (writeDrpStorm by_ w s)
  | 0x10000 => some (writeCrdCtrl by_ w s)
  | 0x10020 => some (writeCrdClamp by_ w s)
  | 0x10034 => some (writeCostData w s)
  | 0x11004 => some (writeCrdsRole i by_ w none s)
  | 0x1100C => some (writeCrdsStatus i w s)
  | 0x1A004 => some (writeJobCtrl i by_ w s)
  | 0x20000 => some (writeLoopCtrl by_ w s)
  | 0x20004 => some (writeLatClr w s)
  | 0x20010 => some (writePcap by_ w s)
  | 0x20100 => some (writeGroupCfg i by_ w s)
  | 0x20200 => some (writeNotchCfg i by_ w s)
  | 0x24000 => some (writeSlotCtrl i by_ w s)
  | 0x28008 => some (writeBinload by_ w s)
  | 0x28100 => some (writeLastCfg i by_ w s)
  | 0x28104 => some (writeLastSrc i by_ w s)
  | 0x28110 => some (writeLastLearn i by_ w s)
  | 0x50000 => some (writeThmCtrl by_ w s)
  | 0x50014 => some (writeCaps by_ R.THM_BACKSTOP w s)
  | 0x50034 => some (writeThmSdata w s)
  | 0x50040 => some (writeCaps by_ R.THM_WIN_CFG w s)
  | 0x60000 => some (writePredCtrl by_ w s)
  | 0x60004 => some (writePredResume w s)
  | 0x64050 => some (writePredGain i by_ w s)
  | 0x70010 => some (writeTrdCalLo w s)
  | 0x78000 => some (writeTrcCtrl by_ w s)
  | 0x78004 => some (writeTrcConfig by_ R.TRC_SRC i w s)
  | 0x7800C => some (writeTrcTrig w s)
  | 0x78020 => some (writeTrcConfig by_ R.TRC_SEL i w s)
  | 0x78024 => some (writeTrcRelease w s)
  | 0x78100 => some (writeTrcConfig by_ R.TRC_SRCs_CFG i w s)
  | 0x7C000 => some (writeLaceCtrl by_ w s)
  | _ => none

/-- What a write of any register does, and whether it draws an error response. -/
def State.regWrite (s : State) (by_ : Writer) (r : Reg) (i : Nat) (w : Word) : State × Bool :=
  match s.actGov by_ r i w with
  | some q => q
  | none => match s.actDie by_ r i w with
    | some q => q
    | none => writeReg s by_ r i w

/-- A CFG write of a word of the Insole window (R356, R359, R537). A write of a tile that the firmware keeps changes nothing:
the tile follows what it holds (log entry 46). -/
def State.writeInsole (s : State) (priv : Bool) (off : Nat) (w : Word) : State :=
  let a := off - 0x80000
  if s.rst.cold || !priv || !s.bitf F.GOV_SEC_SCOPE 0 1 then s.respond true
  else if s.bankFenced (a / 65536) || (s.fwObjAt (a / 256)).isSome then s.respond false
  else ({ s with pwr := { s.pwr with insole := insWrite s.pwr.insole a (leBytes 4 w.toNat) } }).respond false

/-- A 32-bit CFG write of any offset (R530, R537, R569). -/
def State.write32 (s : State) (priv : Bool) (off : Nat) (w : Word) : State :=
  if 0x80000 ≤ off then s.writeInsole priv off w
  else match findReg off with
    | none => s.respond (s.rst.cold || !priv)
    | some (r, i) => s.cfgWrite priv r i (fun s => s.regWrite .cfg r i w)

/-- A 64-bit CFG write: the lower word and then the higher word, each by its register's rules (R548, R550), but one
command word at EYEc_CMD_LO (R361) and one calendar value at TRD_CAL_LO (R571). -/
def State.write64 (s : State) (priv : Bool) (off : Nat) (w : Word64) : State :=
  if off % 8 = 4 then s.respond true
  else
    let lo : Word := w.setWidth 32
    let hi : Word := BitVec.ofNat 32 (w.toNat / 2 ^ 32)
    match findReg off with
    | some (r, i) =>
      if r.off = 0x01100 then s.cfgWrite priv r i (writeCmd i true w)
      else if r.off = 0x70010 then s.cfgWrite priv r i (fun s => writeTrdCalLo lo (s.wr R.TRD_CAL_HI 0 hi))
      else
        let a := s.write32 priv off lo
        let b := a.write32 priv (off + 4) hi
        b.respond (a.rsp.err || b.rsp.err)
    | none =>
      let a := s.write32 priv off lo
      let b := a.write32 priv (off + 4) hi
      b.respond (a.rsp.err || b.rsp.err)

/-- REGISTER_WRITE: a 32-bit CFG write (R13, R16, R17). -/
def execRegisterWrite (priv : Bool) (addr : BitVec 18) (w : Word) (s : State) : Host.Outcome State Fault Refusal :=
  .next (s.write32 priv (cfgOff addr) w)

/-- CFG_64BIT_WRITE: a 64-bit CFG write (R548, R550). -/
def execCfg64bitWrite (priv : Bool) (addr : BitVec 18) (w : Word64) (s : State) : Host.Outcome State Fault Refusal :=
  .next (s.write64 priv (cfgOff addr) w)

/-- INSOLE_WINDOW_WRITE: a CFG write of word `word` of tile `tile` of bank `bank` through the window (R359, R537). -/
def execInsoleWindowWrite (priv : Bool) (bank : BitVec 3) (tile : BitVec 8) (word : BitVec 6) (w : Word) (s : State) :
    Host.Outcome State Fault Refusal :=
  .next (s.writeInsole priv (0x80000 + 65536 * bank.toNat + 256 * tile.toNat + 4 * word.toNat) w)

end Sys2Proof.Machine
end

