-- ==== Sys2Proof/Machine/Plan.lean ====
section
/-! DEFINITION. Plans (R293, R294, R388, R389, R485, R486, R560): which tiles make a plan, its checks, the order in which its
tiles are applied, and what each of them does. -/
namespace Sys2Proof.Machine
open Sys2Proof

/-! ### Firmware writes -/

/-- Action registers whose bits [31:30] read 0b11 when their action is refused. -/
def refusingRegs : List Nat := [0x05800, 0x09004, 0x28008, 0x60004, 0x7800C, 0x78024]

/-- A register write by the firmware, and whether the register's own rules refuse it in whole or in part (R389). A register
that is absent, or whose island does not answer, takes nothing. -/
def State.fwWrite (s : State) (off : Nat) (w : Word) : State × Bool :=
  match findReg off with
  | none => (s, false)
  | some (r, i) =>
    if !presentIdx r.pres i || !s.answers off r i then (s, false)
    else
      let q := s.regWrite .firmware r i w
      (q.1, q.2 || (refusingRegs.contains r.off && getBits (q.1.rd r i) 30 2 == 3))

/-! ### The tiles of a plan (R346, R388) -/

/-- A TYPE that a plan may hold: save lists, the directory, plan tiles and calibration (R346, R388). -/
def planType (t : Nat) : Bool := [0x01, 0x04, 0x08, 0x09, 0x0A, 0x0B, 0x30, 0x31, 0x32, 0x33].contains t

/-- A plan tile passes verification (R345, R346). -/
def planSound (t : List Byte) : Bool := tileSound t && planType (tileType t) && decide (tileLen t ≤ 236)

/-- A tile of the plan range of the MRAM (R559). -/
def State.mramTile (s : State) (k : Nat) : List Byte := memBytes s.flt.mram (0x100000 + 256 * k) 256

/-- The plan's tiles: the staged ones, or those in MRAM that tile 0's header counts (R389, R559, R560). -/
def State.planTiles (s : State) (staged : Bool) : List (List Byte) :=
  if staged then s.eye.fw.staged
  else
    let h := s.mramTile 0
    if planSound h && tileType h == 8 then (List.range (min (max 1 (tilePay h 10 2)) 4096)).map s.mramTile else []

/-- The checks of R389: none where the plan passes, else the failing tile's INDEX and TYPE. -/
def State.planBad (s : State) (tiles : List (List Byte)) : Option (Nat × Nat) :=
  match tiles.filter (fun t => tileType t == 8) with
  | [] => some (0, 8)
  | [h] =>
    if !planSound h || tilePay h 10 2 != tiles.length || tilePay h 12 4 != (s.rd R.GOV_PARAM0).toNat
        || tilePay h 16 4 != (s.rd R.GOV_PARAM1).toNat then some (tileIndex h, 8)
    else (tiles.find? (fun t => !planSound t)).map (fun t => (tileIndex t, tileType t))
  | _ :: h :: _ => some (tileIndex h, 8)

/-- Insert a tile by INDEX, after those of equal INDEX. -/
def insertTile (t : List Byte) (l : List (List Byte)) : List (List Byte) :=
  match l with
  | [] => [t]
  | x :: r => if tileIndex t < tileIndex x then t :: x :: r else x :: insertTile t r

/-- The tiles of a type, in INDEX order. -/
def tilesOf (tiles : List (List Byte)) (typ : Nat) : List (List Byte) :=
  (tiles.filter (fun t => tileType t == typ)).foldl (fun l t => insertTile t l) []

/-- The order in which the tiles are applied (R389): the header, the registers, the margins and their floor, the
calibration, the save lists and the directory. -/
def planOrder (tiles : List (List Byte)) : List (List Byte) :=
  [0x08, 0x09, 0x0A, 0x0B, 0x30, 0x31, 0x32, 0x33, 0x01, 0x04].flatMap (tilesOf tiles)

/-- The payload of the header, 28 bytes. -/
def planHeader (tiles : List (List Byte)) : List Byte :=
  match tiles.find? (fun t => tileType t == 8) with
  | some t => bytesAt t 16 28
  | none => []

/-! ### Registers (R388, R389) -/

/-- The register writes of a PLAN_REGS tile. -/
def planWrites (t : List Byte) : List (Nat × Word) :=
  (List.range (min (tilePay t 0 2) 29)).map (fun j => (tilePay t (4 + 8 * j) 4, BitVec.ofNat 32 (tilePay t (8 + 8 * j) 4)))

/-- A plan error of a tile: an event of row 0x0D and a PLAN_ERROR notice (R375, R442; log entry 131). -/
def State.planError (s : State) (index type : Nat) : State := (s.fault 0x0D index).notice 7 index type

/-- One write of a PLAN_REGS tile: a refused one is counted and reported (R389). -/
def State.planReg (s : State) (index : Nat) (e : Nat × Word) : State :=
  let q := s.fwWrite e.1 e.2
  if q.2 then
    (q.1.setFw { q.1.eye.fw with refusedWrites := q.1.eye.fw.refusedWrites + 1 }).planError index 9
  else q.1

/-- The phases whose EN the plan leaves at 1 (R186). -/
def plannedOf (tiles : List (List Byte)) : Nat :=
  ((tilesOf tiles 9).flatMap planWrites).foldl (fun b e =>
    if 0xB000 ≤ e.1 ∧ e.1 < 0xBC00 ∧ (e.1 - 0xB000) % 32 = 0 then setBit b ((e.1 - 0xB000) / 32) (e.2.getLsbD 31) else b) 0

/-! ### Margins (R388, R389, R485, R486) -/

/-- Write a table of guards, W, M, N of each cluster, into the guard fields. -/
def State.writeGuards (s : State) (l : List Byte) : State :=
  (List.range Config.clusterCount).foldl (fun s c =>
    (List.range 3).foldl (fun (s : State) k => s.setf (guardFld k) c (l.getD (3 * c + k) 0).toNat) s) s

/-- The restored guard table is taken: where its BASE is the new plan's, the table with its CHANGES, else the plan's guards
raised to what the restored drifts require (R486). -/
def State.takeGuards (s : State) (old : Word) : State :=
  let table := s.trd.guards
  if table = [] then s
  else
    let s := { s with trd := { s.trd with guards := [] } }
    if getBits old 16 16 = s.f F.TRD_MARGIN_VER_BASE then
      (s.writeGuards table).setf F.TRD_MARGIN_VER_CHANGES 0 (getBits old 0 16)
    else s.raiseGuards.1

/-! ### Calibration (R292 to R294) -/

/-- Write PRED_CTRL with one field changed. -/
def State.predCtrlField (s : State) (lo len v : Nat) : State :=
  (s.fwWrite 0x60000 (putBits (s.rd R.PRED_CTRL) lo len v)).1

/-- Word `k` of a tile's payload from byte `a`. -/
def payWord (t : List Byte) (a k : Nat) : Word := BitVec.ofNat 32 (tilePay t (a + 4 * k) 4)

/-- Write consecutive words of a set from register offset `off`. -/
def State.writeSetWords (s : State) (set_ off : Nat) (ws : List Word) : State :=
  ((List.range ws.length).zip ws).foldl (fun s e => (s.fwWrite (0x64000 + 0x200 * (set_ % 16) + off + 4 * e.1) e.2).1) s

/-- A PRED_SET tile (R293): weights, scales, biases, output layer, gains, linear model, limit. -/
def State.applyPredSet (s : State) (t : List Byte) : State :=
  let k := tilePay t 0 1
  let s := s.predCtrlField 30 1 1
  let s := s.writeSetWords k 0x00 ((List.range 16).map (payWord t 4))
  let s := s.writeSetWords k 0x40 [payWord t 68 0, payWord t 68 1, payWord t 76 0, payWord t 80 0, payWord t 84 0]
  let s := s.writeSetWords k 0x54 [BitVec.ofNat 32 (tilePay t 124 2),
    BitVec.ofNat 32 (tilePay t 123 1 * 256 + tilePay t 122 1), BitVec.ofNat 32 (tilePay t 120 2)]
  s.writeSetWords k 0x60 ((List.range 8).map (payWord t 88))

/-- A PRED_SHADOW tile (R293): the shadow weights of one unit. -/
def State.applyShadow (s : State) (t : List Byte) : State :=
  let s := s.predCtrlField 30 1 1
  s.writeSetWords (tilePay t 0 1) (0x100 + 128 * (tilePay t 1 1 % 2)) ((List.range 32).map (payWord t 4))

/-- The sets that a PRED_MAP tile gives to its cores, in order (R293). -/
def mapSets (t : List Byte) : List Nat :=
  (List.range (min (tilePay t 2 2) 376)).map (fun i => tilePay t (4 + i / 2) 1 / (if i % 2 = 0 then 1 else 16) % 16)

/-- A PRED_MAP tile: the SET of successive cores. -/
def State.applyMap (s : State) (t : List Byte) : State :=
  let first := tilePay t 0 2
  ((List.range (mapSets t).length).zip (mapSets t)).foldl (fun s e =>
    if first + e.1 < 1024 then (s.fwWrite (0x61000 + 8 * (first + e.1)) (BitVec.ofNat 32 e.2)).1 else s) s

/-- SET_HOLD is released once the sets are written (R294). -/
def State.endHold (s : State) : State := if s.on F.PRED_CTRL_SET_HOLD then s.predCtrlField 30 1 0 else s

/-- A PRED_MAP tile that names a set which lacks its PRED_SET tile or a PRED_SHADOW tile (R294). -/
def badMap (tiles : List (List Byte)) : Option (List Byte) :=
  let has := fun (k : Nat) => tiles.any (fun t => tileType t == 0x31 && tilePay t 0 1 == k)
    && [0, 1].all (fun j => tiles.any (fun t => tileType t == 0x32 && tilePay t 0 1 == k && tilePay t 1 1 == j))
  tiles.find? (fun t => tileType t == 0x33 && (mapSets t).any (fun k => !has k))

/-- A calibration tile. -/
def State.applyCal (s : State) (t : List Byte) : State :=
  match tileType t with
  | 0x30 => s.predCtrlField 26 2 (tilePay t 14 1)
  | 0x31 => s.applyPredSet t
  | 0x32 => s.applyShadow t
  | _ => s.endHold.applyMap t

/-! ### Save lists and the directory (R348, R349; log entry 35) -/

/-- The first tile addresses of the save lists of copy `c`, in the order of the domains that first name them. -/
def listHeads (tiles : List (List Byte)) (c : Nat) : List Nat :=
  ((tilesOf tiles 4).filter (fun t => tileFlags t % 2 == 0)).foldl (fun l t =>
    (List.range 29).foldl (fun l j =>
      let p := tilePay t (8 * j + 2 * c) 2
      if 29 * tileIndex t + j < 0x470 ∧ p < 2048 ∧ !l.contains p then l ++ [p] else l) l) []

/-- The places of the save-list tiles of copy `c`: an object's first tile at the next list address, each later one where
NEXT of the tile before names. -/
def listPlaces (tiles : List (List Byte)) (c : Nat) : List (Nat × List Byte) :=
  ((tiles.filter (fun t => tileType t == 1 && tileFlags t % 2 == c)).foldl
    (fun (q : List (Nat × List Byte) × List Nat × Nat) t =>
      if tileIndex t = 0 then
        match q.2.1 with
        | a :: r => (q.1 ++ [(a, t)], r, tilePay t 4 2)
        | [] => (q.1, [], 0xFFFF)
      else if q.2.2 < 2048 then (q.1 ++ [(q.2.2, t)], q.2.1, tilePay t 4 2)
      else q) ([], listHeads tiles c, 0xFFFF)).1

/-- Put a tile at its address; a canary's place, a fenced bank and the firmware's own tiles take nothing (R347, R356, log
entry 46). -/
def State.putPlanTile (s : State) (a : Nat) (t : List Byte) : State :=
  if a < 2048 ∧ !isCanary a ∧ !s.bankFenced (bankOf a) ∧ s.fwObjAt a = none then s.putTile a t else s

/-- A save-list or directory tile takes its place in the Insole. -/
def State.applyList (s : State) (tiles : List (List Byte)) (t : List Byte) : State :=
  let s := s.endHold
  if tileType t = 4 then
    let b := s.dirBase (tileFlags t % 2)
    if b = 0x7FF then s else s.putPlanTile (b + tileIndex t) t
  else
    match (listPlaces tiles (tileFlags t % 2)).find? (fun e => e.2 == t) with
    | some e => s.putPlanTile e.1 t
    | none => s

/-! ### Applying a plan (R389) -/

/-- Apply one tile of a plan. -/
def State.applyTile (s : State) (tiles : List (List Byte)) (t : List Byte) : State :=
  match tileType t with
  | 0x08 => s.setFw { s.eye.fw with refusedWrites := 0 }
  | 0x09 => (planWrites t).foldl (fun s e => s.planReg (tileIndex t) e) s
  | 0x0A => s.writeGuards (bytesAt t 20 192)
  | 0x0B => { s with trd := { s.trd with floor := bytesAt t 20 192 } }
  | 0x01 | 0x04 => s.applyList tiles t
  | _ => s.applyCal t

/-- What ends a plan load: FORCE_LIN where a set is incomplete (R294), the margin version and the restored guards (R485,
R486), and the firmware's account of the plan. -/
def State.planEnd (s : State) (tiles : List (List Byte)) : State :=
  let s := s.endHold
  let s := match badMap tiles with
    | some t => (s.predCtrlField 29 1 1).planError (tileIndex t) 0x33
    | none => s
  let old := s.rd R.TRD_MARGIN_VER
  let hdr := planHeader tiles
  let s := (s.setf F.TRD_MARGIN_VER_BASE 0 (leAt hdr 4 4)).setf F.TRD_MARGIN_VER_CHANGES 0 0
  let s := s.takeGuards old
  (s.setFw { s.eye.fw with planHdr := hdr, plan := tiles, plannedPhases := plannedOf tiles, planLoading := false }).fwChanged

/-- Apply a whole plan at boot (R560). -/
def State.applyPlan (s : State) (tiles : List (List Byte)) : State :=
  ((planOrder tiles).foldl (fun s t => s.applyTile tiles t) s).planEnd tiles

/-- A PRED_SET or PRED_SHADOW tile of a plan fails verification (R294). -/
def badCal (tiles : List (List Byte)) : Option (List Byte) :=
  tiles.find? (fun t => !planSound t && (tileType t == 0x31 || tileType t == 0x32))

/-- The load of a plan is refused: where a calibration tile of it fails its CRC the firmware sets FORCE_LIN and reports a
plan error (R294, log entry 129). -/
def State.calRefused (s : State) (tiles : List (List Byte)) : State :=
  match badCal tiles with
  | some t => (s.predCtrlField 29 1 1).planError (tileIndex t) (tileType t)
  | none => s

/-- The boot's plan load: PLAN_LOAD from MRAM, or a PLAN_ERROR notice, with FORCE_LIN for a calibration tile that fails its
CRC (R294, R389, R560). -/
def State.bootPlan (s : State) : State :=
  let tiles := s.planTiles false
  match s.planBad tiles with
  | some e => (if (badCal tiles).isSome then s.predCtrlField 29 1 1 else s).planError e.1 e.2
  | none => s.applyPlan tiles

/-- After a die reset the firmware restores the die-domain registers from the plan, and the guards that it holds (R528,
R567). -/
def State.restoreDie (s : State) : State :=
  let tiles := s.eye.fw.plan
  let guards := s.guardBytes
  let dieWrite := fun (e : Nat × Word) => match findReg e.1 with
    | some (r, _) => decide (r.dom = Dom.die)
    | none => false
  let s := ((planOrder tiles).filter (fun t => tileType t == 9)).foldl (fun s t =>
    ((planWrites t).filter dieWrite).foldl (fun (s : State) e => (s.fwWrite e.1 e.2).1) s) s
  let s := ((planOrder tiles).filter (fun t => decide (0x30 ≤ tileType t))).foldl State.applyCal s
  let s := s.endHold
  let s := if (badMap tiles).isSome then s.predCtrlField 29 1 1 else s
  { s.writeGuards guards with trd := { s.trd with guards := [] } }

end Sys2Proof.Machine
end

