-- ==== Sys2Proof/Machine/CmdCheck.lean ====
section
/-! DEFINITION. How the firmware decides a taken word before acceptance (R368, R371 to R373, R378, R384 to R386, R432): the
opcodes, their argument fields, BUSY and every refusal. -/
namespace Sys2Proof.Machine
open Sys2Proof

/-! ### Reasons (R385) -/

def RS_OPCODE : Nat := 0x01
def RS_FLAGS : Nat := 0x02
def RS_SEQ : Nat := 0x03
def RS_SEQ_OLD : Nat := 0x04
def RS_ARG : Nat := 0x05
def RS_ABSENT : Nat := 0x06
def RS_PAGE : Nat := 0x07
def RS_AUTH : Nat := 0x08
def RS_STATE : Nat := 0x09
def RS_SAFE : Nat := 0x0A
def RS_CHANNEL : Nat := 0x0B
def RS_SPACE : Nat := 0x0C
def RS_SIGNATURE : Nat := 0x0D
def RS_ROLLBACK : Nat := 0x0E
def RS_CONDITION : Nat := 0x0F
def RS_DOMAIN : Nat := 0x10

/-- A refusal: REASON and DETAIL. -/
abbrev Refused := Option (Nat × Nat)

/-- The argument bits that a command names; none for an opcode that firmware 4.1 does not have (R386). -/
def argMask (op : Nat) : Option Nat :=
  match op with
  | 0x01 => some 0 | 0x02 => some 0xFFFFFFFF | 0x03 => some 0xFF | 0x04 => some 0
  | 0x10 => some 0x07000FFF | 0x11 => some 0x07000001 | 0x12 => some 1 | 0x13 => some 0xFFFF | 0x14 => some 0x07000000
  | 0x15 => some 0x17F | 0x16 => some 1
  | 0x20 => some 0xFFC00003 | 0x21 => some 0xFFFFC03F | 0x22 => some 0xFFFFCFFF | 0x23 => some 0xFFFFC03F
  | 0x24 => some 0xFFFFC001 | 0x25 => some 0xFFFFC000 | 0x26 => some 0x73F | 0x27 => some 0x3F | 0x28 => some 0x37FF
  | 0x30 => some 0xFFFF | 0x31 => some 0xFFFF | 0x32 => some 0
  | 0x40 => some 1 | 0x41 => some 0 | 0x42 => some 0 | 0x43 => some 0 | 0x44 => some 0
  | 0x50 => some 0xFFFF | 0x51 => some 0 | 0x52 => some 0xFF | 0x53 => some 0
  | 0x60 => some 0 | 0x61 => some 0x1FF | 0x62 => some 0 | 0x63 => some 0xF0007FFF | 0x64 => some 0x1FFFF
  | 0x70 => some 1 | 0x71 => some 0xFFFF | 0x72 => some 0 | 0x73 => some 0 | 0x74 => some 0
  | 0x80 => some 0x3F | 0x81 => some 0 | 0x82 => some 0xFFFFFFFF
  | 0xA0 => some 0xFF | 0xA1 => some 0xFFFF | 0xA2 => some 0
  | 0xF0 => some 0xFFFFFFFF | 0xF1 => some 0xFFFF1FFF | 0xF2 => some 0 | 0xF3 => some 0
  | _ => none

/-- The opcodes of channel 8 (R368). -/
def channel8 (op : Nat) : Bool := [0x01, 0x02, 0x03, 0x04, 0x13, 0x14, 0x60, 0x61, 0x73].contains op

/-- The command's argument continues in the page: it needs the PAGE flag (R386). -/
def needsPage (op arg : Nat) : Bool :=
  [0x30, 0x41, 0x80, 0xA1, 0xF1].contains op || (op == 0x26 && arg.testBit 10)

/-! ### Arguments -/

/-- The rail, the core and the meter or phase that an argument names. -/
def argRail (arg : Nat) : Nat := arg / 2 ^ 24 % 8
def argCore (arg : Nat) : Nat := arg / 2 ^ 22 % 1024
def argEpoch (arg : Nat) : Nat := arg / 2 ^ 14 % 256
def argValue (arg : Nat) : Nat := arg % 2 ^ 14

/-- The parts of the held snapshot (R401). -/
def State.censusParts (s : State) : Nat := divUp s.eye.fw.snapshot.length 4096

/-- The critical set of WINDOW_OPEN as bitmap words, from page bytes 0 to 127 (R386). -/
def State.pageCrit (s : State) (ch : Nat) : List Nat := (List.range 32).map (fun k => leNat (s.pageBytes ch (4 * k) 4))

/-- The kind and unit of UNFENCE: the domain of a core is that core, the domain of a Cobbler pair that pair (R441, R444). -/
def unfenceUnit (arg : Nat) : Option (UnitKind × Nat) :=
  let u := arg % 2 ^ 15
  match arg / 2 ^ 28 % 16 with
  | 0 => some (.core, u)
  | 1 => some (.phase, u)
  | 2 => some (.sensor, u)
  | 3 => some (.peer, u)
  | 4 => some (.pair, u)
  | 5 => some (.bank, u)
  | 6 => if u < 0x400 then some (.core, u) else if u = 0x460 ∨ u = 0x461 then some (.pair, u - 0x460) else some (.domain, u)
  | _ => none

/-- The rows that FAULT_CLEAR names: one used row, or all of them; none for a row out of range (R386, R442). -/
def clearRows (arg : Nat) : Option (List Nat) :=
  let row := arg % 512
  if row = 0x100 then some ((List.range 256).filter faultRowUsed)
  else if row < 0x100 ∧ faultRowUsed row then some [row]
  else none

/-- The condition of a row persists (R443): row 0x00's ends with the scrub that its clear runs, which fails only while the
Awl injects into the collector's own parity check. -/
def State.persists (s : State) (row : Nat) : Bool :=
  if row = 0 then s.faultLevel 0 && s.awlFires 1 3 else s.faultLevel row

/-- The bytes of the image being received, in the order of their chunks; its announced size. -/
def State.imgDone (s : State) : Bool := s.eye.fw.imgSize == some s.eye.fw.img.length

/-! ### Refusals of the command tables (R386) -/

/-- Rails, caps and phases. -/
def State.refuseRails (s : State) (op arg : Nat) : Refused :=
  let r := argRail arg
  match op with
  | 0x10 =>
    if Config.railCount ≤ r then some (RS_ABSENT, r)
    else if arg % 4096 < 400 ∨ 3600 < arg % 4096 then some (RS_ARG, 0)
    else if s.trackMode r = 1 then some (RS_STATE, 1)
    else none
  | 0x11 =>
    if Config.railCount ≤ r then some (RS_ABSENT, r)
    else if s.seqBusy then some (RS_STATE, 2)
    else if s.domRest (0x468 + r) = 3 then some (RS_STATE, 3)
    else none
  | 0x14 => if Config.railCount ≤ r then some (RS_ABSENT, r) else none
  | 0x15 => if Config.phaseCount ≤ arg % 128 then some (RS_ABSENT, arg % 128) else none
  | _ => none

/-- Units, domains and the collective window. -/
def State.refuseUnits (s : State) (ch op arg : Nat) : Refused :=
  match op with
  | 0x20 | 0x21 | 0x22 | 0x23 | 0x24 | 0x25 =>
    if Config.coreCount ≤ argCore arg then some (RS_ABSENT, argCore arg) else none
  | 0x28 =>
    if !domainPresent (arg % 2048) then some (RS_ABSENT, arg % 2048)
    else if arg / 4096 % 4 = 3 then some (RS_ARG, 0)
    else none
  | 0x30 =>
    let set_ := (List.range 1024).filter (fun n => ((s.pageCrit ch).getD (n / 32) 0).testBit (n % 32))
    if arg % 65536 = 0 ∨ set_ = [] ∨ set_.any (fun n => decide (Config.coreCount ≤ n)) then some (RS_ARG, 0)
    else if s.safe then some (RS_SAFE, 0)
    else none
  | 0x31 =>
    if !s.winLive then some (RS_STATE, 1)
    else if arg % 65536 ≠ 0xFFFF ∧ arg % 65536 ≠ s.f F.THM_WIN_STATUS_WIN_ID then some (RS_STATE, 2)
    else none
  | _ => none

/-- Plans, the census, trace, faults and margins. -/
def State.refuseSystem (s : State) (ch op arg : Nat) : Refused :=
  match op with
  | 0x03 => if arg % 256 ≠ 0 ∧ s.censusParts ≤ arg % 256 then some (RS_ARG, 0) else none
  | 0x40 =>
    if s.safe then some (RS_SAFE, 0)
    else (s.planBad (s.planTiles (arg.testBit 0))).map (fun e => (RS_CONDITION, e.1))
  | 0x41 =>
    if !planSound (s.pageBytes ch 0 256) then some (RS_CONDITION, 1)
    else if 4096 ≤ s.eye.fw.staged.length then some (RS_SPACE, 0)
    else none
  | 0x43 => if s.eye.fw.staged = [] then some (RS_STATE, 1) else none
  | 0x50 => if s.domStep 0x463 ≠ 0 then some (RS_STATE, 1) else none
  | 0x52 => if !s.tracing then some (RS_STATE, 1) else none
  | 0x61 =>
    match clearRows arg with
    | none => some (RS_ARG, 0)
    | some [row] => if s.persists row then some (RS_CONDITION, row) else none
    | some l => (l.find? (fun r => s.uncleared r && s.persists r)).map (fun r => (RS_CONDITION, r))
  | 0x62 =>
    if !s.safe then some (RS_STATE, 1)
    else s.safeExitRefused.map (fun d => (RS_CONDITION, d))
  | 0x63 =>
    match unfenceUnit arg with
    | none => some (RS_ARG, 0)
    | some (k, u) =>
      if !unitExists k u then some (RS_ARG, 0)
      else if !s.isFenced k u then some (RS_STATE, 1)
      else none
  | 0x64 => if !s.scopeAwl then some (RS_AUTH, 0) else if 3 < arg % 65536 / 4096 then some (RS_ARG, 0) else none
  | 0x70 => (s.replanRefused (arg.testBit 0)).map (fun d => (RS_CONDITION, d))
  | 0x74 => if s.resumeReady then none else some (RS_CONDITION, 0)
  | _ => none

/-- Remote commands, debug authorisation and firmware images. `authOk`: both signatures of AUTH_RESPONSE verify (R534). -/
def State.refuseAuth (s : State) (op arg : Nat) (authOk : Bool) : Refused :=
  match op with
  | 0x80 =>
    if !Config.laceEnable || !s.isHead then some (RS_STATE, 1)
    else if !(s.memberMap.testBit (arg % 64)) then some (RS_ABSENT, arg % 64)
    else none
  | 0x82 => if Config.laceEnable && !s.isHead then some (RS_STATE, 1) else none
  | 0xA1 =>
    let late := match s.sec.lastFail with
      | some t => s.passed t 1000000000
      | none => true
    let live := match s.sec.challenge with
      | some (id, _, t, _) => id == arg % 65536 && !s.passed t 10000000000
      | none => false
    if late && live && authOk then none else some (RS_AUTH, 0)
  | 0xF0 => if 229376 < arg then some (RS_ARG, 0) else none
  | 0xF1 =>
    let n := arg % 8192
    match s.eye.fw.imgSize with
    | none => some (RS_STATE, 1)
    | some size =>
      if arg / 65536 ≠ s.eye.fw.nextChunk ∨ n = 0 ∨ 4096 < n ∨ size < s.eye.fw.img.length + n then some (RS_ARG, 0) else none
  | 0xF2 => if s.imgDone then none else some (RS_ARG, 0)
  | 0xF3 => if s.eye.fw.committed.isNone then some (RS_STATE, 1) else if s.safe then some (RS_SAFE, 0) else none
  | _ => none

/-- Case 4 of R378: why a word is refused, in the order of the checks here (log entry 37). `unread`: a page tile that the
command reads fails verification in both copies (R372). -/
def State.refuses (s : State) (ch : Nat) (w : Word64) (unread authOk : Bool) : Refused :=
  let op := wOp w
  let arg := (wArg w).toNat
  if wRsv w ≠ 0 then some (RS_FLAGS, 0)
  else if usesPage op (wPage w) && s.pageBusy ch then some (RS_PAGE, 1)
  else match argMask op with
    | none => some (RS_OPCODE, 0)
    | some mask =>
      if ch = 8 ∧ !channel8 op then some (RS_CHANNEL, 0)
      else if arg &&& mask ≠ arg then some (RS_ARG, 0)
      else if needsPage op arg ∧ !wPage w then some (RS_PAGE, 3)
      else if needsPage op arg ∧ unread then some (RS_PAGE, 2)
      else (s.refuseRails op arg).orElse fun _ => (s.refuseUnits ch op arg).orElse fun _ =>
        (s.refuseSystem ch op arg).orElse fun _ => s.refuseAuth op arg authOk

/-! ### BUSY (R384) -/

/-- Case 3 of R378: the lowest cause of BUSY that holds; 0 for none. -/
def State.busyCause (s : State) (op : Nat) : Nat :=
  let fw := s.eye.fw
  if 256 ≤ s.openEntries.length then 1
  else if fw.resuming then 2
  else if s.sag then 3
  else if fw.planLoading && !([0x01, 0x02, 0x03].contains op) then 4
  else if fw.fwBusy then 5
  else if op = 0x80 ∧ 16 ≤ s.lace.relays.length then 6
  else 0

/-! ### A repeated word (R378, R380) -/

/-- Case 1 of R378: the journal's entry of this channel, SEQ and OPCODE, the latest accepted if there are several. -/
def State.repeated (s : State) (ch : Nat) (w : Word64) : Option JEnt :=
  if wReplay w then
    s.eye.journal.reverse.find? (fun e => e.ch == ch && e.seq == wSeq w && e.op == wOp w)
  else none

/-- The repost of an entry's latest status: a final status closes an open entry when it is taken (R378, R391). -/
def State.repost (s : State) (e : JEnt) (loss : Bool) : State :=
  let fin := e.finPosted
  let w := replyWord e.op e.seq e.status true loss (fin && e.partialDone) (if fin then e.result.toNat else 0)
  s.enqueue e.ch { word := w, jslot := if fin && !e.taken then some e.slot else none, fin := fin && !e.taken }

end Sys2Proof.Machine
end

