-- ==== Sys2Proof/Machine/Eyelet.lean ====
section
/-! DEFINITION. Eyelets (R360 to R385, R391 to R397, R444, R532 to R534): posting, taking and deciding a command word,
posting and taking replies, completion of accepted commands, and the resumption of the journal after a takeover. -/
namespace Sys2Proof.Machine
open Sys2Proof

/-! ### The firmware -/

/-- The firmware of the active pair runs: it is in service, supplied, out of reset, and its pair is ON (R365, R394). -/
def State.fwUp (s : State) : Bool :=
  s.eye.fw.running && s.vgov && !s.rst.warm && !s.rst.cold && s.domStep (0x460 + s.activePair) == 0

/-- The boot ROM's loader runs: BOOT_SRC is 1 and no image has been started (R547). -/
def State.loaderUp (s : State) : Bool :=
  s.rst.bootSrc && s.vgov && !s.rst.warm && !s.rst.cold && s.f F.GOV_BOOT_STAGE == 6

/-- Replies are posted: the firmware runs, or boots, or the loader runs (R399, R547, R567). -/
def State.postsReplies (s : State) : Bool :=
  s.fwUp || s.loaderUp || (s.vgov && !s.rst.warm && !s.rst.cold && (s.f F.GOV_BOOT_STAGE == 8 || s.f F.GOV_BOOT_STAGE == 9))

/-- The time since a command took effect, where the firmware watches it (R444). -/
def State.effSince (s : State) (slot : Nat) : Nat :=
  s.since (BitVec.ofNat 64 (Tab.get 0 s.eye.fw.effAt slot - 1))

/-- Watch a command from now. -/
def State.watch (s : State) (slot : Nat) : State :=
  s.setFw { s.eye.fw with effAt := Tab.set 0 s.eye.fw.effAt slot (s.now.toNat + 1) }

/-- Open entries that are not final. -/
def State.unfinished (s : State) : List JEnt := s.eye.journal.filter (fun e => !e.taken && !e.final)

/-- The journal is resumed once every open entry is final, has taken effect, or has its unit message on its way. -/
def State.resumeDone (s : State) : State :=
  if s.eye.fw.resuming && s.eye.fw.running && s.unfinished.all (fun e => e.effect || s.eye.fw.unitCmds.any (fun u => u.slot == e.slot)) then
    s.setFw { s.eye.fw with resuming := false }
  else s

/-! ### EYELET_POST -/

/-- EYELET_POST: a CFG write of EYEc_CMD_HI, or with `wide` a 64-bit write of EYEc_CMD_LO (R361 to R363, R368). -/
def execEyeletPost (priv : Bool) (ch : Nat) (wide : Bool) (w : Word64) (s : State) : Host.Outcome State Fault Refusal :=
  .next (s.cfgWrite priv (if wide then R.EYEc_CMD_LO else R.EYEc_CMD_HI) ch (writeCmd ch wide w))

/-! ### COMMAND_TAKE (R364, R365, R378, R379) -/

/-- Words of the channel's reply queue, the posted one among them (R365). -/
def State.replyRoom (s : State) (ch : Nat) : Bool :=
  decide ((s.chan ch).queue.length + s.f F.EYEc_STATUS_RSP_FULL ch < 32)

/-- The channel's held word is to be taken again: no reply to it waits or has been posted (R364). -/
def State.undecided (s : State) (ch : Nat) : Bool :=
  s.on F.EYEc_STATUS_CMD_HELD ch
    && !(s.chan ch).queue.any (fun q => !q.notice && wSeq q.word == wSeq (s.chan ch).held)

/-- The firmware can take the channel's posted word, once no held word is to be taken again (R364, R365, R395). -/
def State.canTake (s : State) (ch : Nat) : Bool :=
  s.fwUp && !s.eye.fw.resuming && decide (ch < 9) && s.on F.EYEc_STATUS_CMD_FULL ch && s.replyRoom ch
    && !(List.range 9).any s.undecided

/-- The firmware takes the channel's held word again (R364, R395). -/
def State.canRetake (s : State) (ch : Nat) : Bool :=
  s.fwUp && !s.eye.fw.resuming && decide (ch < 9) && s.undecided ch && s.replyRoom ch

/-- The word is taken: CMD_FULL clears, EMPTY sets, and the hardware keeps a copy (R364). -/
def State.holdWord (s : State) (ch : Nat) (w : Word64) : State :=
  let s := s.setChan ch { s.chan ch with held := w }
  let s := (s.setf F.EYEc_STATUS_CMD_FULL ch 0).setf F.EYEc_STATUS_CMD_HELD ch 1
  let s := (s.setBitf F.EYE_IRQ_EMPTY 0 ch true).hang (eyeRing ch) 0x02 (wOp w)
  s.trace 11 0 ch 0 (some w.toNat)

/-- A word answered with REFUSED or BUSY before acceptance: no entry, and no sequence number is used (R379). -/
def State.notAccepted (s : State) (ch : Nat) (w : Word64) (status result : Nat) : State :=
  (s.incf F.EYEc_COUNT_NOT_ACCEPTED ch).reply ch (replyWord (wOp w) (wSeq w) status false false false result)

/-- A response that arrives ends the challenge it names; a refused one starts the second in which every response is
refused, unless it fell in such a second itself (R532, R534). -/
def State.responseArrives (s : State) (arg : Nat) (failed : Bool) : State :=
  let live := match s.sec.challenge with
    | some (id, _, _, _) => id == arg % 65536
    | none => false
  let late := match s.sec.lastFail with
    | some t => s.passed t 1000000000
    | none => true
  let s := if live then { s with sec := { s.sec with challenge := none } } else s
  if failed && late then { s with sec := { s.sec with lastFail := some s.now } } else s

/-- The scope that an authenticated response is granted: the requested one AND what its certificate permits (R534). -/
def State.grantOf (s : State) (ch : Nat) : Nat :=
  match s.sec.challenge with
  | some (_, scope, _, _) => (scope &&& (s.pageByte ch 96).toNat) % 16
  | none => 0

/-- Acceptance: a journal entry, EXP_SEQ, the page, and ACCEPTED (R371, R378). -/
def State.accept (s : State) (ch : Nat) (w : Word64) : State :=
  let op := wOp w
  let grant := s.grantOf ch
  let q := s.newEntry ch (wSeq w) op ((if wPage w then 1 else 0) + (if wReplay w then 2 else 0)) (wArg w)
  let slot := q.2
  let s := (q.1.setf F.EYEc_STATUS_EXP_SEQ ch (wSeq w + 1)).incf F.EYEc_COUNT_ACCEPTED ch
  let s := (s.setf F.EYEc_LAST_SEQ ch (wSeq w)).setf F.EYEc_LAST_OPCODE ch op
  let s := if usesPage op (wPage w) then s.putPageUser ch (some slot) else s
  let s := if op = 0xA1 then
      (s.responseArrives (wArg w).toNat false).jmod slot (fun e => { e with result := BitVec.ofNat 32 grant })
    else s
  match s.jent? slot with
  | some e => (s.replyOf e ST_ACCEPTED false false false false 0).fwChanged
  | none => s

/-- Decide a taken word by the first case of R378 that applies. -/
def State.decideWord (s : State) (ch : Nat) (w : Word64) (unread authOk : Bool) : State :=
  let exp := s.f F.EYEc_STATUS_EXP_SEQ ch
  match s.repeated ch w with
  | some e => s.repost e false
  | none =>
    if wSeq w ≠ exp then
      let age := (exp + 65536 - wSeq w) % 65536
      let old := wReplay w && decide (1 ≤ age) && decide (age ≤ 1024)
      s.notAccepted ch w ST_REFUSED (refusedResult (if old then RS_SEQ_OLD else RS_SEQ) exp)
    else if s.busyCause (wOp w) ≠ 0 then s.notAccepted ch w ST_BUSY (s.busyCause (wOp w))
    else match s.refuses ch w unread authOk with
    | some (reason, detail) =>
      let s := if wOp w = 0xA1 ∧ reason = RS_AUTH then s.responseArrives (wArg w).toNat true else s
      let s := if wOp w = 0x40 ∧ reason = RS_CONDITION then s.calRefused (s.planTiles ((wArg w).getLsbD 0)) else s
      s.notAccepted ch w ST_REFUSED (refusedResult reason detail)
    | none => s.accept ch w

/-- COMMAND_TAKE: the firmware takes the channel's posted word, or its held word again, and decides it (R364, R365, R378). `unread`: a page tile
that the command reads fails in both copies (R372); `authOk`: the signatures of an AUTH_RESPONSE verify (R534). -/
def execCommandTake (ch : Nat) (unread authOk : Bool) (s : State) : Host.Outcome State Fault Refusal :=
  .next (if s.canTake ch then (s.holdWord ch (s.cmdWord ch)).decideWord ch (s.cmdWord ch) unread authOk
  else if s.canRetake ch then s.decideWord ch (s.chan ch).held unread authOk
  else s)

/-! ### Replies and the page window -/

/-- The post of a word is a journal operation, which the supply-sag save holds: the first reply of an entry and its final
one (R391, R453). -/
def State.postHeld (s : State) (ch : Nat) : Bool :=
  s.sag && (match (s.chan ch).queue with
    | q :: _ => q.jslot.isSome && !wRepost q.word
    | [] => false)

/-- REPLY_POST: the next word of the channel's queue is posted, once the one before has been taken (R366). -/
def execReplyPost (ch : Nat) (s : State) : Host.Outcome State Fault Refusal :=
  .next (if s.postsReplies && decide (ch < 9) && !s.on F.EYEc_STATUS_RSP_FULL ch && !s.postHeld ch then s.postReply ch else s)

/-- REPLY_TAKE: a CFG write of EYEc_STATUS (R366, R391). -/
def execReplyTake (priv : Bool) (ch : Nat) (w : Word) (s : State) : Host.Outcome State Fault Refusal :=
  .next (s.cfgWrite priv R.EYEc_STATUS ch (writeEyeStatus ch w))

/-- EYE_WIN_WRITE: a CFG write of EYE_WINw (R370, R371). -/
def execEyeWinWrite (priv : Bool) (w : Nat) (data : Word) (s : State) : Host.Outcome State Fault Refusal :=
  .next (s.cfgWrite priv R.EYE_WINw w (writeEyeWin w data))

/-- NOTICE_OVERFLOW: the notice queue has room again after drops (R376). -/
def execNoticeOverflow (s : State) : Host.Outcome State Fault Refusal :=
  let lost := s.eye.fw.lostPending
  .next (if s.fwUp && decide (0 < lost) && decide (s.f F.EYE_NOTICE_QUEUED < 256) then
    (s.setFw { s.eye.fw with lostPending := 0 }).notice 0x0B 0 lost
  else s)

/-! ### COMMAND_FINAL_REPLY (R106, R380, R382, R383, R444) -/

/-- STATUS and RESULT of a final reply. -/
abbrev Final := Nat × Nat

/-- What an outcome code that hardware left for a command means (R106, R332, R383, R386, R433): the last two are a peer lost
and a remote final reply. -/
def finalOf (op o : Nat) : Option Final :=
  if o < 0x1000 then none
  else if o < 0x2000 then some (ST_DONE, if op = 0x25 then o % 256 else 0)
  else if o < 0x3000 then some (ST_STALE_ROLE, o % 256)
  else if o < 0x4000 then some (ST_SUPERSEDED, 0)
  else if o < 0x1000000 then some (ST_DONE, o - 0x4000)
  else if o < 0x2000000 then some (ST_REFUSED, refusedResult RS_DOMAIN (o % 65536))
  else some (ST_DONE, 0)

/-- The marker of trigger `n` waits to be written (R500). -/
def State.markerWaits (s : State) (n : Nat) : Bool :=
  (s.src 15).queue.any (fun r => isHostMarker r && ((r.headD 0).toNat / 2 ^ 80 % 65536 == n % 65536))

/-- The rail has entered ON, OFF, HICCUP or FAULT since the command wrote its ON bit (R386). -/
def State.railEntered (s : State) (r slot : Nat) : Bool :=
  let st := s.railSt r
  st == 0 || st == 2 || st == 5
    || (st == 4 && (Tab.get 0 s.eye.fw.effAt slot == 0 || decide (Tab.get 0 s.eye.fw.effAt slot ≤ (s.rail r).since.toNat)))

/-- A domain rests in the target of a command whose request no route or slot of the domain holds any more: a warm reset
ended the route there (R358). -/
def State.restsFor (s : State) (d target slot : Nat) : Bool :=
  let x := s.dom d
  s.domRest d == target && x.slot != some slot && x.pendSlot != some slot && x.waitSlot != some slot

/-- Whether a unit that UNFENCE re-admitted meets its condition: none while that is open (R444). `ready`: the pair has
booted and follows the journal (R396). -/
def State.readmitted (s : State) (k : UnitKind) (u slot : Nat) (ready : Bool) : Option Bool :=
  match k with
  | .core | .domain =>
    let o := Tab.get 0 s.eye.fw.outcome slot
    if o = 0 then (if s.restsFor u 0 slot then some true else none) else some (decide (0x4000 ≤ o) && decide (o < 0x1000000))
  | .phase =>
    if s.phSt u = PH_PROBE then none
    else some (s.phSt u == PH_READY || s.phSt u == PH_SOFT || s.phSt u == PH_ACTIVE || s.phSt u == PH_SHED)
  | .sensor => if (s.sens u).unbreak then none else some (!(s.sens u).broken)
  | .peer =>
    if [0, 1].any (fun p => s.f F.LACE_PORTp_STATUS_NEIGHBOUR p == u && s.portUp p) then some true
    else if 10000000 ≤ s.effSince slot then some false else none
  | .pair =>
    if s.pairFenced u then some false
    else if ready && decide (s.effSince slot ≤ 10000000) then some true
    else if 10000000 ≤ s.effSince slot then some false else none
  | _ => none

/-- The pair that UNFENCE re-admitted follows the journal (R396). -/
def State.standbyReady (s : State) (k : UnitKind) (u : Nat) : State :=
  if k = .pair ∧ u ≠ s.activePair then s.setf F.EYE_FW_STANDBY_READY 0 1 else s

/-- The final reply that a command's present condition gives; none while it is incomplete (R386). -/
def State.completion (s : State) (e : JEnt) : Option Final :=
  let arg := e.arg.toNat
  let o := Tab.get 0 s.eye.fw.outcome e.slot
  match finalOf e.op o with
  | some x => some (if o = 0x2000001 then (ST_DONE, e.result.toNat) else x)
  | none =>
    if !e.effect then none
    else match e.op with
    | 0x11 => if s.railEntered (argRail arg) e.slot then some (ST_DONE, s.railSt (argRail arg)) else none
    | 0x15 =>
      let p := arg % 128
      if s.on F.PHp_STATUS_DISABLE_HELD p ∧ (s.phase p).heldSlots.contains e.slot then none else some (ST_DONE, s.phSt p)
    | 0x20 =>
      let n := argCore arg
      if (s.station n).pendSlot = some e.slot then none else some (ST_DONE, e.result.toNat + s.roleEpoch n)
    | 0x26 =>
      let m := arg % 64
      if Tab.get 0 s.crd.jobClear m ≠ 0 then none else some (ST_DONE, s.f F.JOBm_CTRL_STATUS m)
    | 0x28 =>
      let d := arg % 2048
      if s.restsFor d (arg / 4096 % 4) e.slot then
        some (ST_DONE, 4 * s.f F.PWRd_STATUS_WAKE_SRC d + s.f F.PWRd_STATUS_REST d)
      else none
    | 0x52 => if s.markerWaits e.result.toNat then none else some (ST_DONE, e.result.toNat)
    | _ => none

/-- Complete an accepted command where its completing event has occurred. -/
def State.complete (s : State) (e : JEnt) (ready : Bool) : State :=
  if e.op = 0x63 then
    if !e.effect then s
    else match unfenceUnit e.arg.toNat with
    | none => s
    | some (k, u) =>
      match s.readmitted k u e.slot ready with
      | none => s
      | some true => (s.standbyReady k u).finish e.slot ST_DONE 0
      | some false => (s.fenceUnit k u).refuseNow e.slot RS_CONDITION 0
  else match s.completion e with
  | none => s
  | some (status, result) =>
    (if Tab.get 0 s.eye.fw.outcome e.slot = 0x2000000 then s.pageOut e.ch (leBytes 8 0 ++ [1]) else s).finish e.slot status result

/-- COMMAND_FINAL_REPLY: the completing event of the command in a journal slot has occurred (R380, R382). -/
def execCommandFinalReply (slot : Nat) (ready : Bool) (s : State) : Host.Outcome State Fault Refusal :=
  .next (match s.jent? slot with
  | some e => if s.fwUp && !s.sag && !e.final && !e.taken then (s.complete e ready).resumeDone else s
  | none => s)

/-! ### AUTH_CHALLENGE_EXPIRE -/

/-- AUTH_CHALLENGE_EXPIRE: 10 s after its issue (R532). -/
def execAuthChallengeExpire (s : State) : Host.Outcome State Fault Refusal :=
  .next (match s.sec.challenge with
  | some (_, _, t, _) => if s.passed t 10000000000 then { s with sec := { s.sec with challenge := none } } else s
  | none => s)

/-! ### TAKEOVER_RESUME (R394, R395) -/

/-- The ACCEPTED reply of an entry waits in its channel's queue. -/
def State.accQueued (s : State) (e : JEnt) : Bool :=
  (s.chan e.ch).queue.any (fun q => q.jslot == some e.slot && !q.fin)

/-- The firmware that stopped had not posted its first reply to the channel's held word, and no entry records that it
accepted it: the decision is lost with it (R364). -/
def State.dropDecision (s : State) (ch : Nat) : State :=
  if s.on F.EYEc_STATUS_CMD_HELD ch then
    let x := s.chan ch
    (s.setChan ch { x with queue := x.queue.filter (fun q => q.notice || q.jslot.isSome || wSeq q.word != wSeq x.held)
      }).showQueued ch
  else s

/-- The firmware that now runs reads the open entries: it posts the notice, and ACCEPTED where it is missing; a unit
message without acknowledgement is sent again, since its entry has no EFFECT (R395). -/
def State.resumeJournal (s : State) (kind subject : Nat) : State :=
  let todo := s.unfinished
  let s := (List.range 9).foldl State.dropDecision s
  let s := s.setFw { s.eye.fw with
    running := true, takeover := false, resuming := !(todo.all (fun e => e.effect)), unitCmds := [] }
  let s := s.notice kind subject todo.length
  (todo.filter (fun e => !e.accPosted && !s.accQueued e)).foldl (fun s e =>
    s.replyOf e ST_ACCEPTED false false false false 0) s

/-- TAKEOVER_RESUME: the new active pair is ON and reads the journal (R394, R395). -/
def execTakeoverResume (s : State) : Host.Outcome State Fault Refusal :=
  .next (if s.eye.fw.takeover && s.vgov && !s.rst.warm && !s.rst.cold && s.domStep (0x460 + s.activePair) == 0
      && !s.pairFenced s.activePair then s.resumeJournal 2 s.activePair
  else s)

end Sys2Proof.Machine
end

