-- ==== Sys2Proof/Machine/CmdExec.lean ====
section
/-! DEFINITION. How an accepted command comes to run (R49, R381, R391), the self-test of an Insole bank (R357), firmware
images (R521), and the freezing of the firmware's snapshot (R401). -/
namespace Sys2Proof.Machine
open Sys2Proof

/-! ### The next command (R49, R381) -/

/-- The command that runs next: the entry accepted earliest that has neither taken effect nor ended. -/
def State.nextCommand (s : State) : Option JEnt := s.eye.journal.find? (fun e => !e.effect && !e.final && !e.taken)

/-- The next command is of opcode `op` and can run: the firmware runs, no save holds its journal operations (R453), and no
unit message of the command is on its way. -/
def State.commandDue (s : State) (op : Nat) : Option JEnt :=
  match s.nextCommand with
  | none => none
  | some e => if s.fwUp && !s.sag && e.op == op && !s.eye.fw.unitCmds.any (fun u => u.slot == e.slot) then some e else none

/-- Run the next command where it is of opcode `op`. -/
def State.command (s : State) (op : Nat) (act : JEnt → State → State) : State :=
  match s.commandDue op with
  | none => s
  | some e => (act e s).resumeDone

/-- A register write of a command; a register that does not answer takes nothing. -/
def State.put (s : State) (r : Reg) (i : Nat) (w : Word) : State := (s.fwWrite (r.at i) w).1

/-- A register write of a command that changes one field. -/
def State.putField (s : State) (x : Fld) (i v : Nat) : State := s.put x.reg i (putBits (s.rd x.reg i) x.lo x.len v)

/-- A register answers a firmware write. -/
def State.takes (s : State) (r : Reg) (i : Nat) : Bool := presentIdx r.pres i && s.answers (r.at i) r i

/-! ### The test of a bank (R357) -/

/-- Write a bank's two canaries (R347). -/
def State.putCanaries (s : State) (b : Nat) : State := (s.putTile (256 * b) canaryTile).putTile (256 * b + 255) canaryTile

/-- Test every tile and spare of a bank. `bad` lists what fails: logical tiles by address, spare k of bank b as
2048 + 4b + k. A failing spare is BAD, a failing tile is remapped, and every tile but the canaries is free; false where a
tile finds no spare. -/
def State.testBank (s : State) (b : Nat) (bad : List Nat) : State × Bool :=
  let s := (s.clr R.PWRBb_MAP0 b).clr R.PWRBb_MAP1 b
  let s := { s with pwr := { s.pwr with insole := s.pwr.insole.filter (fun (e : Host.Cell) => !(e.1 / 65536 == b)) } }
  let s := (List.range 4).foldl (fun (s : State) k =>
    if bad.contains (2048 + 4 * b + k) then s.setb (spareFlds k).2.1 b true else s) s
  let q := ((List.range 256).filter (fun t => bad.contains (256 * b + t))).foldl (fun (q : State × Bool) t =>
    let r := q.1.remapTile (256 * b + t)
    (r.1, q.2 && r.2)) (s.showSpares b, true)
  (q.1.putCanaries b, q.2)

/-! ### Firmware images (R521, R522) -/

/-- The address of an image slot. -/
def imgAddr (slot : Nat) : Nat := if slot % 2 = 0 then 0x10000 else 0x50000

/-- Fields of an image's header. -/
def imgVersion (l : List Byte) : Nat := leAt l 4 4
def imgSvn (l : List Byte) : Nat := leAt l 8 2

/-- What R522 asks of an image beside its signature and its SVN: MAGIC and size. -/
def imgSound (l : List Byte) : Bool := leAt l 0 4 == 0x4C4B4657 && decide (256 + leAt l 12 4 ≤ 229376)

/-- The header of the image in an MRAM slot. -/
def State.imgHead (s : State) (slot : Nat) : List Byte := memBytes s.flt.mram (imgAddr slot) 256

/-! ### The census snapshot (R401) -/

/-- Freeze a snapshot (R401). -/
def State.freeze (s : State) : State :=
  let l := s.census
  let s := s.setFw { s.eye.fw with snapshot := l, snapGen := s.f F.EYE_CENSUS_GEN }
  s.setf F.EYE_CENSUS_PARTS 0 s.censusParts

end Sys2Proof.Machine
end

