-- ==== Sys2Proof/Machine/CmdPlan.lean ====
section
/-! DEFINITION. Plan, trace, fault and margin commands of firmware 4.1 (R386, opcodes 0x40 to 0x74). -/
namespace Sys2Proof.Machine
open Sys2Proof

/-! ### Plans -/

/-- A PLAN_LOAD that has taken effect and is not complete. -/
def State.planInProgress (s : State) : Option JEnt :=
  s.eye.journal.find? (fun e => e.op == 0x40 && e.effect && !e.final && !e.taken)

/-- Apply the next `n` tiles of a plan; each is one step (R389, R391). -/
def State.planSteps (s : State) (e : JEnt) (n : Nat) : State :=
  let tiles := s.planTiles (e.arg.getLsbD 0)
  let order := planOrder tiles
  let s := ((order.drop e.step).take n).foldl (fun s t => s.applyTile tiles t) s
  let step := min (e.step + n) order.length
  let s := s.jmod e.slot (fun e => { e with step := step, partialDone := decide (step < order.length) })
  if order.length ≤ step then
    let s := s.planEnd tiles
    s.finish e.slot ST_DONE (planVersion s.eye.fw.planHdr)
  else (s.setFw { s.eye.fw with planLoading := true }).fwChanged

/-- PLAN_LOAD (0x40): its effect, its first step and those up to `n`; a later occurrence goes on from STEP. -/
def State.planLoadCmd (s : State) (n : Nat) : State :=
  match s.planInProgress with
  | some e => if s.fwUp && !s.sag then s.planSteps e (max 1 n) else s
  | none => s.command 0x40 fun e s => (s.effect e.slot 0).planSteps e (max 1 n)

def execPlanLoad (n : Nat) (s : State) : Host.Outcome State Fault Refusal := .next (s.planLoadCmd n)

/-- PLAN_TILE (0x41): the tile in page bytes 0 to 255 is staged. -/
def State.planTileCmd (s : State) (e : JEnt) : State :=
  let s := s.setFw { s.eye.fw with staged := s.eye.fw.staged ++ [s.pageBytes e.ch 0 256] }
  s.doneNow e.slot s.eye.fw.staged.length

def execPlanTile (s : State) : Host.Outcome State Fault Refusal :=
  .next (s.command 0x41 fun e s => s.planTileCmd e)

/-- PLAN_STATUS (0x42): the header of the applied plan, the staged tiles, the refused writes. -/
def State.planStatusCmd (s : State) (e : JEnt) : State :=
  let fw := s.eye.fw
  let s := s.pageOut e.ch (bytesAt fw.planHdr 0 28 ++ leBytes 2 fw.staged.length ++ leBytes 2 fw.refusedWrites)
  s.doneNow e.slot (planVersion fw.planHdr)

def execPlanStatus (s : State) : Host.Outcome State Fault Refusal :=
  .next (s.command 0x42 fun e s => s.planStatusCmd e)

/-- Write the staged tiles to the plan range of the MRAM (R559). -/
def State.storePlan (s : State) (ok : Bool) : State :=
  let l := s.eye.fw.staged.flatMap (fun t => if ok then t else brokenImage t)
  { s with flt := { s.flt with mram := memWrite s.flt.mram 0x100000 l } }

/-- PLAN_STORE (0x43): `ok`, the read-back agrees (R560). -/
def State.planStoreCmd (s : State) (e : JEnt) (ok : Bool) : State :=
  let n := s.eye.fw.staged.length
  if ok then (s.storePlan true).doneNow e.slot n
  else ((s.storePlan false).effect e.slot 0).refuseNow e.slot RS_CONDITION 0

def execPlanStore (ok : Bool) (s : State) : Host.Outcome State Fault Refusal :=
  .next (s.command 0x43 fun e s => s.planStoreCmd e ok)

/-- PLAN_DISCARD (0x44). -/
def State.planDiscardCmd (s : State) (e : JEnt) : State :=
  (s.setFw { s.eye.fw with staged := [] }).doneNow e.slot s.eye.fw.staged.length

def execPlanDiscard (s : State) : Host.Outcome State Fault Refusal :=
  .next (s.command 0x44 fun e s => s.planDiscardCmd e)

/-! ### Trace (R508, R509) -/

/-- TRACE_START (0x50): the source mask, then RUN; the previous mask. -/
def State.traceStartCmd (s : State) (e : JEnt) : State :=
  let old := s.f F.TRC_SRC_MASK
  ((s.put R.TRC_SRC 0 (BitVec.ofNat 32 (e.arg.toNat % 32768))).putField F.TRC_CTRL_RUN 0 1).doneNow e.slot old

def execTraceStart (s : State) : Host.Outcome State Fault Refusal :=
  .next (s.command 0x50 fun e s => s.traceStartCmd e)

/-- Positions written since the clear, at most 131,072. -/
def State.recordsHeld (s : State) : Nat := if s.on F.TRC_WRPTR_WRAPPED then 131072 else s.f F.TRC_WRPTR_NEXT

/-- TRACE_STOP (0x51): RUN is cleared; the records held. -/
def State.traceStopCmd (s : State) (e : JEnt) : State :=
  let s := s.putField F.TRC_CTRL_RUN 0 0
  s.doneNow e.slot s.recordsHeld

def execTraceStop (s : State) : Host.Outcome State Fault Refusal :=
  .next (s.command 0x51 fun e s => s.traceStopCmd e)

/-- TRACE_TRIGGER (0x52): a HOST trigger; complete when its marker is written (R500). -/
def State.traceTriggerCmd (s : State) (e : JEnt) : State :=
  let q := s.hostTrigger (e.arg.toNat % 256)
  let n := q.1.f F.TRC_COUNT_TRIGGERS
  if q.2 = 1 then q.1.effect e.slot n else q.1.doneNow e.slot n

def execTraceTrigger (s : State) : Host.Outcome State Fault Refusal :=
  .next (s.command 0x52 fun e s => s.traceTriggerCmd e)

/-- TRACE_STATUS (0x53): gap records, and the fill of the buffer in 1/65,536. -/
def State.traceStatusCmd (s : State) (e : JEnt) : State :=
  s.doneNow e.slot (s.f F.TRC_COUNT_GAPS * 2 ^ 16 + min ((131072 - s.trcFree) * 65536 / 131072) 65535)

def execTraceStatus (s : State) : Host.Outcome State Fault Refusal :=
  .next (s.command 0x53 fun e s => s.traceStatusCmd e)

/-! ### Faults (R443, R448, R449) -/

/-- The uncleared rows, ascending. -/
def State.unclearedRows (s : State) : List Nat := (List.range 256).filter s.uncleared

/-- The record of a row: its four registers (log entry 39). -/
def State.faultRecord (s : State) (row : Nat) : List Byte :=
  [R.FLTRr_CFG, R.FLTRr_STATUS, R.FLTRr_TOTAL, R.FLTRr_LAST].flatMap (fun r => leBytes 4 (s.regNow r row).toNat)

/-- FAULT_LIST (0x60). -/
def State.faultListCmd (s : State) (e : JEnt) : State :=
  let rows := s.unclearedRows
  (s.pageOut e.ch (rows.flatMap s.faultRecord)).doneNow e.slot rows.length

def execFaultList (s : State) : Host.Outcome State Fault Refusal :=
  .next (s.command 0x60 fun e s => s.faultListCmd e)

/-- The firmware writes the collector's configuration again from the plan, and the collector scrubs its registers (R443). -/
def State.scrub (s : State) : State :=
  let writes := (((planOrder s.eye.fw.plan).filter (fun t => tileType t == 9)).flatMap planWrites).filter
    (fun e => decide (0x3000 ≤ e.1) && decide (e.1 < 0x4400))
  let s := writes.foldl (fun (s : State) e => (s.fwWrite e.1 e.2).1) s
  if s.awlFires 1 3 then s.awlUsed else s.setf F.FLT_STATUS_SELF_FAULT 0 0

/-- Clear a row by command: row 0x00 after the rewrite and the scrub (R443). -/
def State.clearByCmd (s : State) (row : Nat) : State × Bool :=
  let s := if row = 0 ∧ s.faultLevel 0 then s.scrub else s
  let was := s.uncleared row
  let q := s.clearRow row
  (q.1, q.2 && was)

/-- FAULT_CLEAR (0x61): the rows cleared. -/
def State.faultClearCmd (s : State) (e : JEnt) : State :=
  let q := ((clearRows e.arg.toNat).getD []).foldl (fun (q : State × Nat) row =>
    let r := q.1.clearByCmd row
    (r.1, q.2 + if r.2 then 1 else 0)) (s, 0)
  q.1.doneNow e.slot q.2

def execFaultClear (s : State) : Host.Outcome State Fault Refusal :=
  .next (s.command 0x61 fun e s => s.faultClearCmd e)

/-- SAFE_EXIT (0x62). -/
def State.safeExitCmd (s : State) (e : JEnt) : State :=
  (if s.safe && s.safeExitRefused.isNone then s.safeLeave else s).doneNow e.slot 0

def execSafeExit (s : State) : Host.Outcome State Fault Refusal :=
  .next (s.command 0x62 fun e s => s.safeExitCmd e)

/-- Re-admit a unit (R444); a domain's request is that of the command in `slot`. -/
def State.readmitUnit (s : State) (k : UnitKind) (u slot : Nat) : State :=
  match k with
  | .core => (((s.setf F.CRDSn_STATUS_FENCED u 0).setf F.PWRd_STATUS_FENCED u 0).domRequest u 0 6 (some slot) false)
  | .domain => (s.setf F.PWRd_STATUS_FENCED u 0).domRequest u 0 6 (some slot) false
  | .phase => s.phProbe u
  | .sensor =>
    let s := { s with flt := { s.flt with fencedSensors := Tab.set false s.flt.fencedSensors u false } }
    s.setSens u { s.sens u with broken := true, unbreak := true }
  | .peer => s.unfencePeer u
  | .pair => s.putPairFenced u false
  | _ => s

/-- Re-admit an Insole bank: its test, at once; `bad` as for `testBank` (R357, R444). -/
def State.readmitBank (s : State) (b slot : Nat) (bad : List Nat) : State :=
  let s := s.effect slot 0
  let s := (s.setf F.PWRBb_STATUS_FENCED b 0).setBitf F.PWR_INSOLE_FENCED 0 b false
  let q := s.testBank b bad
  if q.2 && decide (0 < q.1.f F.PWRBb_STATUS_SPARES_FREE b) then q.1.finish slot ST_DONE 0
  else (q.1.fenceBank b 0).refuseNow slot RS_CONDITION 0

/-- UNFENCE (0x63): the unit is re-admitted; the command completes when the unit meets its condition (R444). -/
def State.unfenceCmd (s : State) (e : JEnt) (bad : List Nat) : State :=
  match unfenceUnit e.arg.toNat with
  | some (.bank, b) => s.readmitBank b e.slot bad
  | some (k, u) => ((s.effect e.slot 0).watch e.slot).readmitUnit k u e.slot
  | none => s.doneNow e.slot 0

def execUnfence (bad : List Nat) (s : State) : Host.Outcome State Fault Refusal :=
  .next (s.command 0x63 fun e s => s.unfenceCmd e bad)

/-- AWL_INJECT (0x64): as a write of FLT_AWL; the injections armed. -/
def State.awlInjectCmd (s : State) (e : JEnt) : State :=
  let q := s.awlArm (e.arg.toNat % 65536) (e.arg.getLsbD 16)
  q.1.doneNow e.slot (if q.2 = 0 then 1 else 0)

def execAwlInject (s : State) : Host.Outcome State Fault Refusal :=
  .next (s.command 0x64 fun e s => s.awlInjectCmd e)

/-! ### Margins and the predictor (R295, R483, R484, R493) -/

/-- REPLAN_MARGINS (0x70). -/
def State.replanCmd (s : State) (e : JEnt) : State :=
  let q := s.replan (e.arg.getLsbD 0)
  q.1.doneNow e.slot q.2

def execReplanMargins (s : State) : Host.Outcome State Fault Refusal :=
  .next (s.command 0x70 fun e s => s.replanCmd e)

/-- MARGIN_SCHEDULE (0x71): the windows count from the command; the previous period. -/
def State.marginScheduleCmd (s : State) (e : JEnt) : State :=
  let old := (s.trd.sched.map (fun q => q.2.1)).getD 0
  let p := e.arg.toNat % 65536
  ({ s with trd := { s.trd with sched := if p = 0 then none else some (s.service, p, 0) } }).doneNow e.slot old

def execMarginSchedule (s : State) : Host.Outcome State Fault Refusal :=
  .next (s.command 0x71 fun e s => s.marginScheduleCmd e)

/-- TREAD_REPORT (0x72). -/
def execTreadReport (s : State) : Host.Outcome State Fault Refusal :=
  .next (s.command 0x72 fun e s => (s.pageOut e.ch s.treadReport).doneNow e.slot instCount)

/-- PRED_STATUS (0x73): STATE, the number of sets at the trim limit, SET_LIN. -/
def State.predStatusCmd (s : State) (e : JEnt) : State :=
  let n := ((List.range 16).filter s.atLimit).length
  s.doneNow e.slot (s.f F.PRED_STATUS_STATE * 2 ^ 30 + n * 2 ^ 16 + s.f F.PRED_STATUS_SET_LIN)

def execPredStatus (s : State) : Host.Outcome State Fault Refusal :=
  .next (s.command 0x73 fun e s => s.predStatusCmd e)

/-- PRED_RESUME (0x74): the firmware writes PRED_RESUME, and reports the sets re-trimmed (R291, R295). -/
def State.predResumeCmd (s : State) (e : JEnt) : State :=
  let n := s.affectedSets.length
  ((s.put R.PRED_RESUME 0 1).notice 0x08 n 0).doneNow e.slot n

def execPredResume (s : State) : Host.Outcome State Fault Refusal :=
  .next (s.command 0x74 fun e s => s.predResumeCmd e)

end Sys2Proof.Machine
end

