-- ==== Sys2Proof/Machine/CmdRails.lean ====
section
/-! DEFINITION. Identity, rail and cap commands of firmware 4.1 (R386, opcodes 0x01 to 0x16). -/
namespace Sys2Proof.Machine
open Sys2Proof

/-! ### Identity, ping and census -/

/-- VERSION (0x01). -/
def execVersion (s : State) : Host.Outcome State Fault Refusal :=
  .next (s.command 0x01 fun e s => s.doneNow e.slot fwVersion)

/-- PING (0x02). -/
def execPing (s : State) : Host.Outcome State Fault Refusal :=
  .next (s.command 0x02 fun e s => s.doneNow e.slot e.arg.toNat)

/-- STATE_CENSUS (0x03): PART 0 freezes a snapshot; the page gets the part, and zeros beyond the end (R401). -/
def State.censusCmd (s : State) (e : JEnt) : State :=
  let part := e.arg.toNat % 256
  let s := if part = 0 then s.freeze else s
  let s := s.pageOut e.ch (bytesAt s.eye.fw.snapshot (4096 * part) 4096)
  s.doneNow e.slot (s.eye.fw.snapGen * 256 + s.censusParts)

def execStateCensus (s : State) : Host.Outcome State Fault Refusal :=
  .next (s.command 0x03 fun e s => s.censusCmd e)

/-- The phases that the governor has discovered, one bit per phase (R186). -/
def State.discovered (s : State) : Nat := (List.range 3).foldl (fun a k => a + s.f F.PH_DISCk_PRESENT k * 2 ^ (32 * k)) 0

/-- The phases that differ between the plan and the discovery (R186). -/
def State.phasesDiffer (s : State) : Nat := s.eye.fw.plannedPhases ^^^ s.discovered

/-- Bits of a number that are 1. -/
def bitCount (n len : Nat) : Nat := ((List.range len).filter (fun k => n.testBit k)).length

/-- PHASE_MAP (0x04). -/
def State.phaseMapCmd (s : State) (e : JEnt) : State :=
  let s := s.pageOut e.ch (leBytes 12 s.eye.fw.plannedPhases ++ leBytes 12 s.discovered ++ leBytes 12 s.phasesDiffer)
  s.doneNow e.slot (bitCount s.phasesDiffer 96)

def execPhaseMap (s : State) : Host.Outcome State Fault Refusal :=
  .next (s.command 0x04 fun e s => s.phaseMapCmd e)

/-! ### Rails and caps -/

/-- RAIL_TARGET (0x10): the host target; at once with DEFERRED where the rail is not in STARTING or ON (R193, R203). -/
def State.railTargetCmd (s : State) (e : JEnt) : State :=
  let r := argRail e.arg.toNat
  let code := e.arg.toNat % 4096
  if s.railOn r ∧ s.trackMode r ≠ 1 then (s.effect e.slot 0).targetWrite r code (some e.slot)
  else
    let s := s.targetWrite r code none
    s.doneNow e.slot (2 ^ 31 + s.f F.RAILr_EFF_CODE r)

def execRailTarget (s : State) : Host.Outcome State Fault Refusal :=
  .next (s.command 0x10 fun e s => s.railTargetCmd e)

/-- RAIL_ON (0x11): RAILr_CTRL.ON is written. A rail in HICCUP that is to be on is watched for its next entry. While the
sequencer is in UP or DOWN the command waits. -/
def State.railOnCmd (s : State) (e : JEnt) : State :=
  let r := argRail e.arg.toNat
  let on := e.arg.getLsbD 0
  if s.seqBusy then s
  else
    let s := if s.railSt r = 4 ∧ on then s.watch e.slot else s
    let s := s.effect e.slot 0
    let w := putBits (s.rd R.RAILr_CTRL r) F.RAILr_CTRL_ON.lo 1 (if on then 1 else 0)
    (writeRailCtrl r .firmware w s).1

def execRailOn (s : State) : Host.Outcome State Fault Refusal :=
  .next (s.command 0x11 fun e s => s.railOnCmd e)

/-- SEQUENCE (0x12): a request to the sequencer (R219). -/
def State.sequenceCmd (s : State) (e : JEnt) : State :=
  let up := e.arg.getLsbD 0
  ((s.effect e.slot 0).setb F.SEQ_CTRL_UP 0 up).seqRequest up (some e.slot)

def execSequence (s : State) : Host.Outcome State Fault Refusal :=
  .next (s.command 0x12 fun e s => s.sequenceCmd e)

/-- PLATFORM_CAP (0x13): LOOP_PCAP, and its previous value. -/
def State.platformCapCmd (s : State) (e : JEnt) : State :=
  (s.putField F.LOOP_PCAP_PCAP 0 (e.arg.toNat % 65536)).doneNow e.slot (s.f F.LOOP_PCAP_PCAP)

def execPlatformCap (s : State) : Host.Outcome State Fault Refusal :=
  .next (s.command 0x13 fun e s => s.platformCapCmd e)

/-- RAIL_READ (0x14): RAILr_MEAS.IOUT and VOUT. -/
def State.railReadCmd (s : State) (e : JEnt) : State :=
  let r := argRail e.arg.toNat
  s.doneNow e.slot (s.f F.RAILr_MEAS_IOUT r * 2 ^ 16 + s.f F.RAILr_MEAS_VOUT r)

def execRailRead (s : State) : Host.Outcome State Fault Refusal :=
  .next (s.command 0x14 fun e s => s.railReadCmd e)

/-- PHASE_EN (0x15): EN of the phase (R188, R189). -/
def State.phaseEnCmd (s : State) (e : JEnt) : State :=
  (s.effect e.slot 0).phEnWrite (e.arg.toNat % 128) (e.arg.getLsbD 8) (some e.slot)

def execPhaseEn (s : State) : Host.Outcome State Fault Refusal :=
  .next (s.command 0x15 fun e s => s.phaseEnCmd e)

/-- CLAMP_FORCE (0x16): CRD_CLAMP.FORCE, and its previous value (R97). -/
def State.clampForceCmd (s : State) (e : JEnt) : State :=
  (s.putField F.CRD_CLAMP_FORCE 0 (e.arg.toNat % 2)).doneNow e.slot (s.f F.CRD_CLAMP_FORCE)

def execClampForce (s : State) : Host.Outcome State Fault Refusal :=
  .next (s.command 0x16 fun e s => s.clampForceCmd e)

end Sys2Proof.Machine
end

