-- ==== Sys2Proof/Machine/Pmbus.lean ====
section
/-! DEFINITION. The PMBus target (R515 to R520, R531): its status words, its number formats, and every command it supports. -/
namespace Sys2Proof.Machine
open Sys2Proof

/-! ### The target -/

/-- The target answers: from stage 0x6 on, while VGOV is in range and no reset is held (R567). -/
def State.pmbUp (s : State) : Bool := s.vgov && !s.rst.cold && !s.rst.warm && decide (6 ≤ s.f F.GOV_BOOT_STAGE)

/-- Change the target. -/
def State.setPmb (s : State) (x : PmbSt) : State := { s with trc := { s.trc with pmb := x } }

/-- The latches of a page. -/
def State.pmbPage (s : State) (p : Nat) : PmbPage := Tab.get {} s.trc.pmb.pages p

/-- A transaction sets a bit of STATUS_CML (R519). -/
def State.cml (s : State) (bit : Nat) (nack : Bool) : State :=
  let s := s.setPmb { s.trc.pmb with cml := setBit s.trc.pmb.cml bit true, nack := nack, reply := [] }
  s.incf F.TRC_PMB_STATUS_CML_ERR 0

/-- The target answers a read with bytes. -/
def State.pmbReply (s : State) (l : List Nat) : State := s.setPmb { s.trc.pmb with reply := l, nack := false }

/-- The target takes a write or a send byte. -/
def State.pmbTake (s : State) : State := s.pmbReply []

/-- A write whose PEC fails is discarded (R515). -/
def State.pecFails (s : State) : State := (s.incf F.TRC_PMB_STATUS_PEC_ERR 0).cml 5 false

/-- PMB_ALERT_N is low: a latched bit of any page is set (R519). -/
def State.pmbAlert (s : State) : Bool :=
  s.trc.pmb.cml != 0 || s.trc.pmb.pages.any (fun (e : Nat × PmbPage) => e.2.vout != 0 || e.2.iout != 0 || e.2.temp != 0)

/-- A transaction on a read-only command: a read answers; a write is NACKed at its first data byte (R517). -/
def State.pmbRead (s : State) (write : Bool) (l : State → List Nat) : Host.Outcome State Fault Refusal :=
  .next (if !s.pmbUp then s else if write then s.cml 6 true else s.pmbReply (l s))

/-- A send byte or a write: discarded where its PEC fails (R515). -/
def State.pmbSend (s : State) (pecBad : Bool) (act : State → State) : Host.Outcome State Fault Refusal :=
  .next (if !s.pmbUp then s else if pecBad then s.pecFails else act s.pmbTake)

/-- A 16-bit word, low byte first. -/
def pmbWord (n : Nat) : List Nat := [n % 256, n / 256 % 256]

/-- A block of bytes, after its count. -/
def pmbBlock (l : List Nat) : List Nat := l.length :: l

/-- The bytes of a string. -/
def asciiBytes (t : String) : List Nat := t.toList.map Char.toNat

/-! ### Number formats (R518) -/

/-- LINEAR16 with N = -12 of a voltage code: 0.25 mV above 300 mV. -/
def linear16 (code : Nat) : Nat := (divNearest (((1200 + code) * 4096 : Nat) : Int) 4000).toNat % 65536

/-- The mantissa of `num / den` at exponent `n`. -/
def mantissa (num : Int) (den : Nat) (n : Int) : Int :=
  if 0 ≤ n then divNearest num (den * 2 ^ n.toNat) else divNearest (num * 2 ^ (-n).toNat) den

/-- LINEAR11 of `num / den`: the least exponent from `n` on whose mantissa lies within 1,023; at most 15. -/
def linear11 (fuel : Nat) (num : Int) (den : Nat) (n : Int) : Nat :=
  match fuel with
  | 0 => ofSigned 5 n * 2048 + ofSigned 11 (mantissa num den n)
  | k + 1 =>
    if (mantissa num den n).natAbs ≤ 1023 then ofSigned 5 n * 2048 + ofSigned 11 (mantissa num den n)
    else linear11 k num den (n + 1)

/-! ### Values (R517, R531) -/

/-- PMBus readers are privileged only while the TELEMETRY scope is granted (R530, R532). -/
def State.pmbPriv (s : State) : Bool := s.bitf F.GOV_SEC_SCOPE 0 3

/-- A telemetry value as the reader sees it: the present one, or the mean of the last 1 ms window down to a multiple of
`unit` (R531). -/
def State.pmbValue (s : State) (key unit : Nat) : Int := if s.pmbPriv then (s.teleNow key).cur else s.meanDown key unit

/-- The selected page: its rail. -/
def State.pmbRail (s : State) : Nat := s.trc.pmb.page

/-- READ_VOUT. -/
def State.readVout (s : State) : List Nat := pmbWord (linear16 (s.pmbValue (0x24000000 + s.pmbRail) 1).toNat)

/-- READ_IOUT: 1/8 A, to a whole A for a reader without privilege. -/
def State.readIout (s : State) : List Nat := pmbWord (linear11 18 (s.pmbValue (0x23000000 + s.pmbRail) 8) 8 (-3))

/-- READ_POUT: 1/32,000 W. -/
def State.readPout (s : State) : List Nat := pmbWord (linear11 19 (s.pmbValue (0x27000000 + s.pmbRail) 32000) 32000 (-4))

/-- A temperature, in 1/16 °C. -/
def State.readTemp (s : State) (key : Nat) : List Nat := pmbWord (linear11 19 (s.pmbValue key 1) 16 (-4))

/-- STATUS_WORD (R519). -/
def State.statusWord (s : State) : Nat :=
  let x := s.pmbPage s.pmbRail
  let r := s.pmbRail
  let bit := fun (b : Bool) (k : Nat) => if b then 2 ^ k else 0
  let err := decide (s.f F.FLT_STATUS_N_UNCLEARED ≠ 0)
  let noPg := !s.on F.RAILr_STATUS_PG r
  bit (x.vout != 0) 15 + bit (x.iout != 0) 14 + bit err 12 + bit noPg 11 + bit (s.railSt r != 2) 6
    + bit (x.vout.testBit 7) 5 + bit (x.iout.testBit 7) 4 + bit (x.temp != 0) 2 + bit (s.trc.pmb.cml != 0) 1
    + bit (err || noPg) 0

/-! ### The commands (R516, R517) -/

/-- PAGE (0x00): a read, or a write of `w` (R516). -/
def execPage (write : Bool) (w : BitVec 8) (pecBad : Bool) (s : State) : Host.Outcome State Fault Refusal :=
  if write then
    s.pmbSend pecBad fun s => if w.toNat < Config.railCount then s.setPmb { s.trc.pmb with page := w.toNat } else s.cml 6 false
  else s.pmbRead false fun s => [s.trc.pmb.page]

/-- CLEAR_FAULTS (0x03): every latch of every page clears. -/
def execClearFaults (pecBad : Bool) (s : State) : Host.Outcome State Fault Refusal :=
  s.pmbSend pecBad fun s => s.setPmb { s.trc.pmb with pages := [], cml := 0 }

/-- CAPABILITY (0x19): PEC, 1 MHz, SMBALERT#. -/
def execCapability (write : Bool) (s : State) : Host.Outcome State Fault Refusal := s.pmbRead write fun _ => [0xD0]

/-- VOUT_MODE (0x20): LINEAR16 with N = -12. -/
def execVoutMode (write : Bool) (s : State) : Host.Outcome State Fault Refusal := s.pmbRead write fun _ => [0x14]

/-- VOUT_COMMAND (0x21): the effective target. -/
def execVoutCommand (write : Bool) (s : State) : Host.Outcome State Fault Refusal :=
  s.pmbRead write fun s => pmbWord (linear16 (s.f F.RAILr_EFF_CODE s.pmbRail))

/-- STATUS_BYTE (0x78): the low byte of STATUS_WORD. -/
def execStatusByte (write : Bool) (s : State) : Host.Outcome State Fault Refusal :=
  s.pmbRead write fun s => [s.statusWord % 256]

/-- STATUS_WORD (0x79). -/
def execStatusWord (write : Bool) (s : State) : Host.Outcome State Fault Refusal :=
  s.pmbRead write fun s => pmbWord s.statusWord

/-- STATUS_VOUT (0x7A). -/
def execStatusVout (write : Bool) (s : State) : Host.Outcome State Fault Refusal :=
  s.pmbRead write fun s => [(s.pmbPage s.pmbRail).vout]

/-- STATUS_IOUT (0x7B). -/
def execStatusIout (write : Bool) (s : State) : Host.Outcome State Fault Refusal :=
  s.pmbRead write fun s => [(s.pmbPage s.pmbRail).iout]

/-- STATUS_TEMPERATURE (0x7D). -/
def execStatusTemperature (write : Bool) (s : State) : Host.Outcome State Fault Refusal :=
  s.pmbRead write fun s => [(s.pmbPage s.pmbRail).temp]

/-- STATUS_CML (0x7E). -/
def execStatusCml (write : Bool) (s : State) : Host.Outcome State Fault Refusal :=
  s.pmbRead write fun s => [s.trc.pmb.cml]

/-- READ_VOUT (0x8B). -/
def execReadVout (write : Bool) (s : State) : Host.Outcome State Fault Refusal := s.pmbRead write State.readVout

/-- READ_IOUT (0x8C). -/
def execReadIout (write : Bool) (s : State) : Host.Outcome State Fault Refusal := s.pmbRead write State.readIout

/-- READ_TEMPERATURE_1 (0x8D): the hottest stage of the rail. -/
def execReadTemperature1 (write : Bool) (s : State) : Host.Outcome State Fault Refusal :=
  s.pmbRead write fun s => s.readTemp (0x28000000 + s.pmbRail)

/-- READ_TEMPERATURE_2 (0x8E): the hottest memory zone. -/
def execReadTemperature2 (write : Bool) (s : State) : Host.Outcome State Fault Refusal :=
  s.pmbRead write fun s => s.readTemp 0x29000000

/-- READ_TEMPERATURE_3 (0x8F): the hottest logic zone. -/
def execReadTemperature3 (write : Bool) (s : State) : Host.Outcome State Fault Refusal :=
  s.pmbRead write fun s => s.readTemp 0x29000001

/-- READ_POUT (0x96). -/
def execReadPout (write : Bool) (s : State) : Host.Outcome State Fault Refusal := s.pmbRead write State.readPout

/-- PMBUS_REVISION (0x98). -/
def execPmbusRevision (write : Bool) (s : State) : Host.Outcome State Fault Refusal := s.pmbRead write fun _ => [0x33]

/-- MFR_ID (0x99). -/
def execMfrId (write : Bool) (s : State) : Host.Outcome State Fault Refusal :=
  s.pmbRead write fun _ => pmbBlock (asciiBytes "EHRAC")

/-- MFR_MODEL (0x9A). -/
def execMfrModel (write : Bool) (s : State) : Host.Outcome State Fault Refusal :=
  s.pmbRead write fun _ => pmbBlock (asciiBytes "LKX-64")

/-- MFR_REVISION (0x9B). -/
def execMfrRevision (write : Bool) (s : State) : Host.Outcome State Fault Refusal :=
  s.pmbRead write fun _ => pmbBlock (asciiBytes "2.0")

/-! ### The Eyelet path (R360, R361, R520) -/

/-- MFR_EYE_CMD (0xD0): a block write of `bytes` posts the command word on channel 8. -/
def execMfrEyeCmd (bytes : List Nat) (pecBad : Bool) (s : State) : Host.Outcome State Fault Refusal :=
  s.pmbSend pecBad fun s =>
    if bytes.length ≠ 8 then s.cml 6 false
    else if s.on F.EYEc_STATUS_CMD_FULL 8 then (s.refuseWrite 8).cml 1 false
    else s.postWord 8 (BitVec.ofNat 64 (leNat (bytes.map (fun b => BitVec.ofNat 8 b))))

/-- MFR_EYE_RSP (0xD1): EYE8_RSP. -/
def execMfrEyeRsp (write : Bool) (s : State) : Host.Outcome State Fault Refusal :=
  s.pmbRead write fun s => pmbBlock ((leBytes 8 (s.pair R.EYEc_RSP_LO R.EYEc_RSP_HI 8)).map BitVec.toNat)

/-- MFR_EYE_STATUS (0xD2). -/
def execMfrEyeStatus (write : Bool) (s : State) : Host.Outcome State Fault Refusal :=
  s.pmbRead write fun s => [s.f F.EYEc_STATUS_CMD_FULL 8 * 128 + s.f F.EYEc_STATUS_RSP_FULL 8 * 64
    + s.f F.EYEc_STATUS_WR_REFUSED 8 * 32 + s.f F.EYEc_STATUS_RSP_QUEUED 8]

/-- MFR_EYE_TAKE (0xD3): as a write of 1 to RSP_FULL. -/
def execMfrEyeTake (pecBad : Bool) (s : State) : Host.Outcome State Fault Refusal := s.pmbSend pecBad fun s => s.hostTake 8

/-- MFR_EYE_CLEAR (0xD4). -/
def execMfrEyeClear (pecBad : Bool) (s : State) : Host.Outcome State Fault Refusal :=
  s.pmbSend pecBad fun s => s.setf F.EYEc_STATUS_WR_REFUSED 8 0

/-- MFR_PAGE_PTR (0xD5): a read, or a write of `w`; bits [4:0] are ignored. -/
def execMfrPagePtr (write : Bool) (w : BitVec 16) (pecBad : Bool) (s : State) : Host.Outcome State Fault Refusal :=
  if write then s.pmbSend pecBad fun s => s.setPmb { s.trc.pmb with ptr := w.toNat / 32 * 32 }
  else s.pmbRead false fun s => pmbWord s.trc.pmb.ptr

/-- MFR_PAGE_DATA (0xD6): 32 page bytes; an offset past the page's end wraps within its 4,096 bytes (log entry 41). -/
def execMfrPageData (write : Bool) (s : State) : Host.Outcome State Fault Refusal :=
  s.pmbRead write fun s => pmbBlock ((s.pageBytes 8 (s.trc.pmb.ptr % 4096) 32).map BitVec.toNat)

/-! ### Other codes and the alert (R515, R517, R519) -/

/-- The codes of R517. -/
def pmbCode (c : Nat) : Bool :=
  [0x00, 0x03, 0x19, 0x20, 0x21, 0x78, 0x79, 0x7A, 0x7B, 0x7D, 0x7E, 0x8B, 0x8C, 0x8D, 0x8E, 0x8F, 0x96, 0x98, 0x99, 0x9A,
   0x9B, 0xD0, 0xD1, 0xD2, 0xD3, 0xD4, 0xD5, 0xD6].contains c

/-- PMBUS_INVALID_COMMAND: a code that the target does not support is NACKed (R517). -/
def execPmbusInvalidCommand (code : BitVec 8) (s : State) : Host.Outcome State Fault Refusal :=
  .next (if s.pmbUp && !pmbCode code.toNat then s.cml 7 true else s)

/-- ALERT_RESPONSE: the target answers with its address while PMB_ALERT_N is low; the answer does not release it (R515,
R519). -/
def execAlertResponse (s : State) : Host.Outcome State Fault Refusal :=
  .next (if !s.pmbUp then s
    else if s.pmbAlert then s.pmbReply [2 * s.f F.TRC_PMB_CFG_ADDR]
    else s.setPmb { s.trc.pmb with nack := true, reply := [] })

end Sys2Proof.Machine
end

