-- ==== Sys2Proof/Machine/CmdAuth.lean ====
section
/-! DEFINITION. Remote, debug-authorisation and firmware-image commands of firmware 4.1 (R386, opcodes 0x80 to 0xF3), and
the sending of a relayed command (R430, R432). -/
namespace Sys2Proof.Machine
open Sys2Proof

/-! ### Relayed commands (R430, R432) -/

/-- The 32-bit words of a byte list, little-endian. -/
def wordsOf (l : List Byte) : List Nat := (List.range (divUp l.length 4)).map (fun i => leAt l (4 * i) 4)

/-- The body of a RELAY_CMD or a RELAY_RSP (R414): the word, the number of page bytes, the page. -/
def relayBody (w : Word64) (page : List Byte) : List Nat :=
  [w.toNat / 2 ^ 32, w.toNat % 2 ^ 32, 4 * divUp page.length 4] ++ wordsOf page

/-- Send the RELAY_CMD of an outstanding command; a retry has REPLAY set (R430, R432). -/
def State.sendRelay (s : State) (r : RelayEnt) (again : Bool) : State :=
  let w := if again then r.word ||| 2 ^ 33 else r.word
  s.laceSend { typ := 0xB, dst := r.site, body := relayBody w r.page }

/-- The relays of the head, and their number (R432). -/
def State.setRelays (s : State) (l : List RelayEnt) : State :=
  ({ s with lace := { s.lace with relays := l } }).setf F.LACE_RELAY_OUTSTANDING 0 l.length

/-- REMOTE (0x80): the word in page bytes 0 to 7 goes to the site, with the page from byte 8 where its PAGE flag is set
(R430; log entry 40). A site that is no member is a peer lost before its reply (R433). -/
def State.remoteCmd (s : State) (e : JEnt) : State :=
  let w := BitVec.ofNat 64 (leNat (s.pageBytes e.ch 0 8))
  let site := e.arg.toNat % 64
  if 16 ≤ s.lace.relays.length then s
  else if !s.memberMap.testBit site then (s.effect e.slot 0).slotOutcome (some e.slot) 0x2000000
  else
    let r : RelayEnt := {
      slot := e.slot, site := site, word := w, page := if wPage w then s.pageBytes e.ch 8 4088 else [], sentAt := s.now }
    ((s.effect e.slot 0).setRelays (s.lace.relays ++ [r])).sendRelay r false

def execRemote (s : State) : Host.Outcome State Fault Refusal :=
  .next (s.command 0x80 fun e s => s.remoteCmd e)

/-- MODULE_STATUS (0x81): the members; the membership bitmap to the page. -/
def State.moduleStatusCmd (s : State) (e : JEnt) : State :=
  (s.pageOut e.ch (leBytes 8 s.memberMap)).doneNow e.slot ((List.range 64).filter (fun k => s.memberMap.testBit k)).length

def execModuleStatus (s : State) : Host.Outcome State Fault Refusal :=
  .next (s.command 0x81 fun e s => s.moduleStatusCmd e)

/-- MODULE_BUDGET (0x82): LACE_BUDGET, and its previous value. -/
def State.moduleBudgetCmd (s : State) (e : JEnt) : State :=
  (s.put R.LACE_BUDGET 0 e.arg).doneNow e.slot (s.rd R.LACE_BUDGET).toNat

def execModuleBudget (s : State) : Host.Outcome State Fault Refusal :=
  .next (s.command 0x82 fun e s => s.moduleBudgetCmd e)

/-! ### Debug authorisation (R532 to R535) -/

/-- AUTH_CHALLENGE (0xA0): a nonce and an ID, both free values (R532; log entry 2). -/
def State.authChallengeCmd (s : State) (e : JEnt) : State :=
  let nonce := leBytes 48 (s.freeVal 384).toNat
  let s := s.usedFree
  let id := (s.freeVal 16).toNat
  let s := s.usedFree
  let s := { s with sec := { s.sec with challenge := some (id, e.arg.toNat % 256, s.now, nonce) } }
  (s.pageOut e.ch nonce).doneNow e.slot id

def execAuthChallenge (s : State) : Host.Outcome State Fault Refusal :=
  .next (s.command 0xA0 fun e s => s.authChallengeCmd e)

/-- The granted scope changes: without the AWL scope an armed injection ends (R450). -/
def State.putScope (s : State) (scope : Nat) : State :=
  let s := s.setf F.GOV_SEC_SCOPE 0 scope
  if scope.testBit 2 then s else s.awlDisarm

/-- AUTH_RESPONSE (0xA1): the scope found at its acceptance replaces the granted one (R534, R535). -/
def State.authResponseCmd (s : State) (e : JEnt) : State :=
  (s.putScope (e.result.toNat % 16)).doneNow e.slot (e.result.toNat % 16)

def execAuthResponse (s : State) : Host.Outcome State Fault Refusal :=
  .next (s.command 0xA1 fun e s => s.authResponseCmd e)

/-- AUTH_DROP (0xA2). -/
def execAuthDrop (s : State) : Host.Outcome State Fault Refusal :=
  .next (s.command 0xA2 fun e s => (s.putScope 0).doneNow e.slot 0)

/-! ### Firmware images (R387, R522, R525) -/

/-- FW_BEGIN (0xF0). -/
def State.fwBegin (s : State) (size : Nat) : State :=
  s.setFw { s.eye.fw with imgSize := some size, img := [], nextChunk := 0 }

def execFwBegin (s : State) : Host.Outcome State Fault Refusal :=
  .next (s.command 0xF0 fun e s => (s.fwBegin e.arg.toNat).doneNow e.slot 0)

/-- One chunk, from a channel's page. -/
def State.fwChunk (s : State) (ch len : Nat) : State :=
  let fw := s.eye.fw
  s.setFw { fw with img := fw.img ++ s.pageBytes ch 0 len, nextChunk := fw.nextChunk + 1 }

/-- FW_CHUNK (0xF1): the bytes received so far. -/
def State.fwChunkCmd (s : State) (e : JEnt) : State :=
  let s := s.fwChunk e.ch (e.arg.toNat % 8192)
  s.doneNow e.slot s.eye.fw.img.length

def execFwChunk (s : State) : Host.Outcome State Fault Refusal :=
  .next (s.command 0xF1 fun e s => s.fwChunkCmd e)

/-- FW_COMMIT (0xF2): R522 on the image, and its copy to the slot that is not running (R525). `sigOk`: ROOT_KEY's digest is
ROOT_KEY_HASH, and SIGNATURE verifies under it. -/
def State.fwCommitCmd (s : State) (e : JEnt) (sigOk : Bool) : State :=
  let l := s.eye.fw.img
  if !(sigOk && imgSound l) then s.refuseNow e.slot RS_SIGNATURE 0
  else if imgSvn l < s.bootCounter then s.refuseNow e.slot RS_ROLLBACK 0
  else
    let slot := 1 - s.f F.GOV_SEC_SLOT
    let s := { s with flt := { s.flt with mram := memWrite s.flt.mram (imgAddr slot) l } }
    (s.setFw { s.eye.fw with committed := some (imgVersion l, slot) }).doneNow e.slot (imgVersion l)

def execFwCommit (sigOk : Bool) (s : State) : Host.Outcome State Fault Refusal :=
  .next (s.command 0xF2 fun e s => s.fwCommitCmd e sigOk)

/-- FW_ACTIVATE (0xF3): a boot record that names the committed slot, then a warm reset (R387, R525). -/
def State.fwActivateCmd (s : State) (e : JEnt) : State :=
  let slot := (s.eye.fw.committed.map (·.2)).getD 0
  let s := s.effect e.slot 0
  let s := s.putBoot s.bootCounter slot
  (s.setFw { s.eye.fw with activating := some slot, fwBusy := true }).warmArises 3

def execFwActivate (s : State) : Host.Outcome State Fault Refusal :=
  .next (s.command 0xF3 fun e s => s.fwActivateCmd e)

end Sys2Proof.Machine
end

