-- ==== Sys2Proof/Machine/Relay.lean ====
section
/-! DEFINITION. Relayed commands on the Lace (R430 to R434): a member posts a relayed word and forwards its replies, and the
head completes or repeats its REMOTE commands. -/
namespace Sys2Proof.Machine
open Sys2Proof

/-- The relay's channel: values of RELAY_CH above 7 act as 7. -/
def State.relayCh (s : State) : Nat := min (s.f F.LACE_CTRL_RELAY_CH) 7

/-- The page bytes of a RELAY message. -/
def LaceMsg.page (m : LaceMsg) : List Byte :=
  ((m.body.drop 3).flatMap (fun w => leBytes 4 w)).take (m.w 2)

/-- The 64-bit word of a RELAY message. -/
def LaceMsg.word (m : LaceMsg) : Word64 := BitVec.ofNat 64 (m.w 0 * 2 ^ 32 + m.w 1)

/-- A member writes the page data, and posts the word under R361: a busy page and a full channel take nothing (R362, R371,
R430). -/
def State.relayPost (s : State) (m : LaceMsg) : State :=
  let c := s.relayCh
  let s := if s.pageBusy c then s else s.putPage c 0 (m.page.take 4096)
  if s.on F.EYEc_STATUS_CMD_FULL c then s.refuseWrite c else s.postWord c m.word

/-- LACE_RELAY_CMD: a member receives RELAY_CMD (R430). -/
def execLaceRelayCmd (p : Nat) (frames : List Word64) (s : State) : Host.Outcome State Fault Refusal :=
  .next (if s.laceOn && s.relayOwns s.relayCh then s.laceTake p frames 0xB fun m s => s.relayPost m else s)

/-- The reply ends the relayed command: every status but ACCEPTED does (R433). -/
def relayFinal (w : Word64) : Bool := wStatus w != ST_ACCEPTED

/-- The head takes a RELAY_RSP: a final reply goes to the command's page and completes it (R433). -/
def State.relayAnswer (s : State) (m : LaceMsg) : State :=
  match s.lace.relays.find? (fun r => r.site == m.src && wSeq r.word == wSeq m.word && wOp r.word == wOp m.word) with
  | none => s
  | some r =>
    if relayFinal m.word then
      let s := s.setRelays (s.lace.relays.filter (fun x => !(x.slot == r.slot)))
      match s.jent? r.slot with
      | none => s
      | some e =>
        let s := s.pageOut e.ch (leBytes 8 m.word.toNat ++ m.page)
        let s := s.jmod r.slot (fun e => { e with result := m.word.setWidth 32 })
        let s := s.slotOutcome (some r.slot) 0x2000001
        match s.jent? r.slot with
        | some e => if s.fwUp && !s.sag && !e.final then s.complete e false else s
        | none => s
    else s.setRelays (s.lace.relays.map (fun x => if x.slot == r.slot then { x with answered := true } else x))

/-- LACE_RELAY_RSP: the head receives RELAY_RSP (R433). -/
def execLaceRelayRsp (p : Nat) (frames : List Word64) (s : State) : Host.Outcome State Fault Refusal :=
  .next (if s.laceOn && s.isHead then s.laceTake p frames 0xC fun m s => s.relayAnswer m else s)

/-- LACE_RELAY_REPLY_FORWARD: the member's Lace island takes the reply on RELAY_CH and sends it to the head, with the page
output where the command has any (R431). The take of a final reply waits for the end of a supply-sag save (R391). -/
def execLaceRelayReplyForward (s : State) : Host.Outcome State Fault Refusal :=
  let c := s.relayCh
  .next (match s.lace.headSite, (s.chan c).posted with
  | some head, some q =>
    if s.laceOn && s.relayOwns c && !(s.sag && q.fin) then
      let page := if opPageOut (wOp q.word) && wStatus q.word == ST_DONE then s.pageBytes c 0 4096 else []
      (s.takeReply c).laceSend { typ := 0xC, dst := head, body := relayBody q.word page }
    else s
  | _, _ => s)

/-- LACE_RELAY_RETRY: no RELAY_RSP for the command in a journal slot within 100 µs of its sending (R432). -/
def execLaceRelayRetry (slot : Nat) (s : State) : Host.Outcome State Fault Refusal :=
  .next (match s.lace.relays.find? (fun r => r.slot == slot) with
  | none => s
  | some r =>
    if s.laceOn && s.isHead && !r.answered && s.passed r.sentAt 100000 && s.lace.members.testBit r.site then
      let s := s.setRelays (s.lace.relays.map (fun x => if x.slot == slot then { x with sentAt := s.now } else x))
      (s.incf F.LACE_RELAY_RETRIES 0).sendRelay r true
    else s)

end Sys2Proof.Machine
end

