-- ==== Sys2Proof/Machine/Boot.lean ====
section
/-! DEFINITION. Cold reset and boot (R357, R399, R400, R461, R462, R524 to R526, R541, R546, R547, R561, R567), the end of
the other resets (R109, R358, R397, R528), and the TAP's instruction (R536). -/
namespace Sys2Proof.Machine
open Sys2Proof

/-! ### Cold reset (R561, R567) -/

/-- Put STAGE of GOV_BOOT. -/
def State.putStage (s : State) (n : Nat) : State := s.setf F.GOV_BOOT_STAGE 0 n

/-- STAGE of GOV_BOOT. -/
def State.stage (s : State) : Nat := s.f F.GOV_BOOT_STAGE

/-- Everything but the MRAM returns to reset (R561). The queue and the free-value counter are the model's own. -/
def State.coldReset (s : State) : State :=
  { State.reset with pending := s.pending, free := s.free, flt := { State.reset.flt with mram := s.flt.mram } }

/-- COLD_RESET: the Shank supply falls below 2.10 V. -/
def execColdReset (s : State) : Host.Outcome State Fault Refusal := .next s.coldReset

/-- COLD_RESET_END: the straps are sampled; without a Lace, SITE_ID and HEAD_EN name nothing, and the governor is a module
of its own (R56). The straps are sampled and the collector tests itself; `selfOk`: it passes (R416, R445, R546). -/
def execColdResetEnd (site : BitVec 6) (headEn bootSrc selfOk : Bool) (s : State) : Host.Outcome State Fault Refusal :=
  .next (if s.rst.cold then
    let s := ({ s with rst := { s.rst with cold := false, bootSrc := bootSrc } }).putStage 1
    let s := if Config.laceEnable then
        ((s.setf F.LACE_ID_SITE 0 site.toNat).setb F.LACE_ID_HEAD_EN 0 headEn).setb F.LACE_ID_IS_HEAD 0 headEn
      else s
    let s := s.setf F.GOV_BOOT_REFCLK_OK 0 1
    if selfOk then s else (s.setf F.FLT_STATUS_SELF_FAULT 0 1).fault 0x00 0
  else s)

/-- Test one bank at power-on, and fence it where a tile finds no spare. -/
def State.bootBank (s : State) (bad : List Nat) (b : Nat) : State :=
  let q := s.testBank b bad
  if q.2 then q.1 else q.1.fenceBank b 0

/-- INSOLE_TEST: `bad` lists the tiles and spares that fail, as testBank numbers them (R357). -/
def execInsoleTest (bad : List Nat) (s : State) : Host.Outcome State Fault Refusal :=
  .next (if !s.rst.cold && s.stage == 1 then
    ((List.range 8).foldl (fun (s : State) b => s.bootBank bad b) s).putStage 3
  else s)

/-! ### The Heel load (R36, R460, R461, R492) -/

/-- The count starts at B plus the boot count, and the stamps of the boot interval are moved by B (R36). -/
def State.startCount (s : State) (b : Word64) (resumed : Bool) : State :=
  let s := { s with time := { s.time with count := b + s.time.boot } }
  let s := (s.setf F.TIME_STATUS_STARTED 0 1).setb F.TIME_STATUS_RESUMED 0 resumed
  let trc := s.trc
  let trc := { trc with
    log := trc.log.map (fun (e : LogEnt) => { e with t := e.t + b }),
    hang := trc.hang.map (fun (e : Nat × List HangEnt) => (e.1, e.2.map (fun (x : HangEnt) => { x with t := x.t + b }))) }
  let flt := s.flt
  let flt := { flt with
    pend := flt.pend.map (fun (e : FaultEv) => { e with t := e.t + b }),
    trk := flt.trk.map (fun (e : Nat × TrkEnt) => (e.1, { e.2 with start := e.2.start + b })) }
  { s with trc := trc, flt := flt }

/-- A row's UNCLEARED and severe count (R461). -/
def State.restoreRow (s : State) (l : List Byte) (r : Nat) : State :=
  let w := leAt l (128 + 2 * r) 2
  if !faultRowUsed r then s
  else
    let s := if w.testBit 15 then s.putUncleared r true else s
    let n := w % 32768
    let s := { s with flt := { s.flt with severe := Tab.set 0 s.flt.severe r (Tab.get 0 s.flt.severe r + n) } }
    s.incf F.FLTRr_STATUS_SEVERE r n

/-- The saved log entries become the oldest entries of the event log (R461). -/
def State.restoreLog (s : State) (l : List Byte) : State :=
  let n := min (leAt l 30 2) 256
  let t := leAt l 8 8
  let old := (List.range n).map (fun k => ({
    t := BitVec.ofNat 64 (t + 2 ^ 64 - leAt l (1664 + 8 * k) 4 * 1024 % 2 ^ 64), code := leAt l (1668 + 8 * k) 2,
    restored := true, unit := 0, arg := BitVec.ofNat 32 (leAt l (1670 + 8 * k) 2) } : LogEnt))
  let c := s.pair R.LOG_COUNT_LO R.LOG_COUNT_HI + n
  let s := s.setPair R.LOG_COUNT_LO R.LOG_COUNT_HI 0 c
  let s := s.setf F.LOG_HEAD_NEWEST 0 (c + 8191)
  { s with trc := { s.trc with log := (s.trc.log ++ old).take 8192 } }

/-- The open entries of the record, and each channel's EXP_SEQ (R398, R399; log entry 42). -/
def State.restoreJournal (s : State) (l : List Byte) : State :=
  let j := (List.range (min (leAt l 28 2) 256)).filterMap (fun k => JEnt.ofBytes (bytesAt l (4096 + 16 * k) 16) k)
  let s := { s with eye := { s.eye with journal := j } }
  let s := (s.setf F.EYE_JOURNAL_USED 0 j.length).showJournal
  (List.range 9).foldl (fun (s : State) c => s.setf F.EYEc_STATUS_EXP_SEQ c (leAt l (64 + 4 * c) 2)) s

/-- The pairs' fences, and the active pair: the other one where it is fenced (R461). -/
def State.restorePairs (s : State) (flags : Nat) : State :=
  let s := (s.putPairFenced 0 (flags.testBit 1)).putPairFenced 1 (flags.testBit 2)
  let a := if flags.testBit 3 then 1 else 0
  s.setf F.EYE_FW_ACTIVE 0 (if s.pairFenced a && !s.pairFenced (1 - a) then 1 - a else a)

/-- Steps 2 and 3 of R461 for a record. -/
def State.loadRecord (s : State) (slot : Bool) (l : List Byte) : State :=
  let s := (List.range 256).foldl (fun (s : State) r => s.restoreRow l r) s
  let s := (s.restorePairs (leAt l 25 1)).restoreLog l
  let s := s.restoreJournal l
  let s := (s.setf F.FLT_BOOT_LOADED 0 1).setb F.FLT_BOOT_SLOT 0 slot
  let s := (s.setf F.FLT_BOOT_CAUSE 0 (leAt l 24 1)).setf F.FLT_HEEL_SEQ_SEQNUM 0 (leAt l 4 4)
  if (leAt l 25 1).testBit 0 then (s.setf F.FLT_BOOT_FROM_SAFE 0 1).safeEnter (leAt l 26 1) else s

/-- The load, the start of the count, and the arming of the save engine (R461). -/
def State.heelLoad (s : State) : State :=
  let s := { s with rst := { s.rst with mramReset := true } }
  let newest := s.heelNewest
  let s := match newest with
    | some b =>
      let l := memBytes s.flt.mram (heelAddr b) 8192
      ((s.startCount (BitVec.ofNat 64 (leAt l 8 8 + 1)) true).loadRecord b l).treadStart (some (bytesAt l 640 1024))
    | none => ((s.startCount 0 false).setb F.FLT_BOOT_EXPECTED_BAD 0 s.heelExpected).treadStart none
  let s := { s with flt := { s.flt with newest := newest, armed := true, pinHold := false } }
  s.showPins.putStage 5

/-- HEEL_LOAD: HOLD is charged under R539; `vshk` and `hold` are the supplies in mV. -/
def execHeelLoad (vshk hold : Nat) (s : State) : Host.Outcome State Fault Refusal :=
  .next (if !s.rst.cold && s.stage == 3 && decide (3135 ≤ vshk) && decide (vshk ≤ 3465) && decide (vshk ≤ hold + 60) then
    ((s.putHold vshk hold).setf F.GOV_BOOT_HOLD_OK 0 1).heelLoad
  else s)

/-! ### The boot ROM (R522 to R524) -/

/-- An image slot authenticates; `sig`: the digest of its ROOT_KEY and its SIGNATURE verify (R522). -/
def State.imgBoots (s : State) (slot : Nat) (sig : Bool) : Bool :=
  sig && imgSound (s.imgHead slot) && decide (s.bootCounter ≤ imgSvn (s.imgHead slot))

/-- Run the image of a slot. -/
def State.runSlot (s : State) (slot boot : Nat) : State :=
  let s := (s.setf F.GOV_SEC_BOOT 0 boot).setf F.GOV_SEC_SLOT 0 slot
  let s := (s.setf F.GOV_SEC_SVN 0 (imgSvn (s.imgHead slot))).setf F.GOV_SEC_HOST_IMG 0 0
  s.putStage 8

/-- The boot ROM of the active pair: the loader with BOOT_SRC 1, else the slots (R524, R547). -/
def State.bootRom (s : State) (sig0 sig1 : Bool) : State :=
  let s := s.setf F.GOV_ARB_COUNTER 0 s.bootCounter
  let a := s.bootSlot
  let sig := fun (k : Nat) => if k = 0 then sig0 else sig1
  if s.rst.bootSrc then s.putStage 6
  else if s.imgBoots a (sig a) then s.runSlot a 1
  else if s.imgBoots (1 - a) (sig (1 - a)) then s.runSlot (1 - a) 2
  else (s.setf F.GOV_SEC_BOOT 0 3).putStage 7

/-- BOOT_ROM_START: the base-die clocks have locked. At a cold start VGOV and VGOV_IO are in range from then on. -/
def execBootRomStart (sig0 sig1 : Bool) (s : State) : Host.Outcome State Fault Refusal :=
  .next (if !s.rst.cold && !s.rst.warm && !s.pairFenced s.activePair then
    if s.stage = 5 ∧ s.on F.GOV_BOOT_REFCLK_OK then
      let s := s.setf F.GOV_BOOT_VGOV_OK 0 1
      ({ s with lace := { s.lace with startAt := s.now } }).bootRom sig0 sig1
    else if s.stage = 6 ∧ s.vgov ∧ !s.eye.fw.running then s.bootRom sig0 sig1
    else s
  else s)

/-! ### The loader (R547) -/

/-- Why the loader refuses a word: reserved flags, another opcode, then as the firmware (log entry 43). -/
def State.loaderRefuses (s : State) (w : Word64) (unread : Bool) : Refused :=
  if wRsv w ≠ 0 then some (RS_FLAGS, 0)
  else if !([0xF0, 0xF1, 0xF3].contains (wOp w)) then some (RS_OPCODE, 0)
  else if wOp w = 0xF3 then (if wArg w = 0 then none else some (RS_ARG, 0))
  else s.refuses 0 w unread true

/-- DONE: EXP_SEQ advances (R547). -/
def State.loaderDone (s : State) (w : Word64) (result : Nat) : State :=
  (s.setf F.EYEc_STATUS_EXP_SEQ 0 (wSeq w + 1)).reply 0 (replyWord (wOp w) (wSeq w) ST_DONE false false false result)

/-- FW_ACTIVATE of the loader: R522 on the image received (R547). -/
def State.loaderRun (s : State) (w : Word64) (sigOk : Bool) : State :=
  let l := s.eye.fw.img
  if !(sigOk && s.imgDone && imgSound l) then s.notAccepted 0 w ST_REFUSED (refusedResult RS_SIGNATURE 0)
  else if imgSvn l < s.bootCounter then s.notAccepted 0 w ST_REFUSED (refusedResult RS_ROLLBACK 0)
  else
    let s := s.loaderDone w (imgVersion l)
    let s := (s.setf F.GOV_SEC_BOOT 0 1).setf F.GOV_SEC_HOST_IMG 0 1
    (s.setf F.GOV_SEC_SVN 0 (imgSvn l)).putStage 8

/-- The loader answers a word. -/
def State.loaderWord (s : State) (w : Word64) (unread sigOk : Bool) : State :=
  let exp := s.f F.EYEc_STATUS_EXP_SEQ 0
  if wSeq w ≠ exp then s.notAccepted 0 w ST_REFUSED (refusedResult RS_SEQ exp)
  else match s.loaderRefuses w unread with
  | some (reason, detail) => s.notAccepted 0 w ST_REFUSED (refusedResult reason detail)
  | none =>
    let arg := (wArg w).toNat
    if wOp w = 0xF0 then (s.fwBegin arg).loaderDone w 0
    else if wOp w = 0xF1 then
      let s := s.fwChunk 0 (arg % 8192)
      s.loaderDone w s.eye.fw.img.length
    else s.loaderRun w sigOk

/-- BOOT_LOADER_WORD: the loader takes channel 0's word and answers it at once. `unread`: the page is unreadable (R372);
`sigOk`: the digest of ROOT_KEY and SIGNATURE of the received image verify (R522). -/
def execBootLoaderWord (unread sigOk : Bool) (s : State) : Host.Outcome State Fault Refusal :=
  .next (if s.loaderUp && s.on F.EYEc_STATUS_CMD_FULL 0 && s.replyRoom 0 then
    (s.holdWord 0 (s.cmdWord 0)).loaderWord (s.cmdWord 0) unread sigOk
  else s)

/-! ### FIRMWARE_BOOT (R399, R400, R462, R560, R566) -/

/-- The report of an open entry after a supply loss (R399). The entry is final from then on (log entry 44). A load whose STEP
leaves tiles over carries the mark PARTIAL (planSteps). -/
def State.reportLoss (s : State) (e : JEnt) : State :=
  if e.finPosted then s.repost e true
  else
    let part := e.effect && e.partialDone
    let status := if e.effect then ST_DONE else ST_INTERRUPTED
    let result := if e.effect then e.result.toNat else 0
    let s := s.jmod e.slot (fun e => { e with
      final := true, finPosted := true, accPosted := true, status := status, partialDone := part })
    s.replyOf e status false true part true result

/-- Write a boot record; a failed read-back is retried once (R455, R462). -/
def State.bootRecordWrite (s : State) (ok1 ok2 : Bool) : State :=
  let n := s.heelNext
  let l := s.heelImage n.2 2 s.now
  let s := if ok1 then s else s.setf F.FLT_SAG_RETRY 0 1
  if ok1 || ok2 then s.heelWritten n.1 l
  else (((s.putHeel n.1 (brokenImage l)).setf F.FLT_SAG_HEEL_FAIL 0 1).setb F.FLT_SAG_SLOT 0 n.1).fault 0x0C 0

/-- What only a cold start does: the firmware's tiles of the Insole, the reports and the boot record. -/
def State.coldStartReports (s : State) (ok1 ok2 : Bool) : State :=
  let todo := s.openAll
  let s := s.takeFwTiles
  let s := todo.foldl State.reportLoss s
  let kind := if s.on F.FLT_BOOT_LOADED then 2 else if s.on F.FLT_BOOT_EXPECTED_BAD then 4 else 0
  let s := s.bootRecordWrite ok1 ok2
  s.setFw { s.eye.fw with booted := true, resuming := false, restartKind := kind, reported := todo.length }

/-- FIRMWARE_BOOT: ADOPT, then at a cold start the reports and the boot record, then the plan. `ok1`, `ok2`: the read-backs
of the boot record agree. -/
def execFirmwareBoot (ok1 ok2 : Bool) (s : State) : Host.Outcome State Fault Refusal :=
  .next (if s.stage == 8 && s.vgov && !s.rst.warm && !s.rst.cold then
    let s := (writeGovAdopt 1 s).1
    let s := if s.eye.fw.booted then s else s.coldStartReports ok1 ok2
    s.bootPlan.putStage 9
  else s)

/-! ### FIRMWARE_READY (R387, R525, R526) -/

/-- The answer to FW_ACTIVATE by the image that booted (R387). -/
def State.answerActivate (s : State) : State :=
  match s.eye.fw.activating with
  | none => s
  | some slot =>
    let s := s.setFw { s.eye.fw with activating := none, fwBusy := false }
    match s.eye.journal.find? (fun e => e.op == 0xF3 && e.effect && !e.final && !e.taken) with
    | none => s
    | some e =>
      if s.f F.GOV_SEC_SLOT = slot ∧ !s.on F.GOV_SEC_HOST_IMG then s.finish e.slot ST_DONE (imgVersion (s.imgHead slot))
      else s.refuseNow e.slot RS_SIGNATURE 0

/-- The anti-rollback counter follows the running image (R525). -/
def State.raiseCounter (s : State) : State :=
  if s.bootCounter < s.f F.GOV_SEC_SVN then s.putBoot (s.f F.GOV_SEC_SVN) s.bootSlot else s

/-- The locks, and the registers that the firmware writes at each boot (R526, R528). -/
def State.bootLocks (s : State) : State :=
  let s := s.wr R.GOV_LOCK 0 7
  let s := if s.dieUp then s.setf F.GOV_LOCK_DIE_VOLT 0 1 else s
  let s := (s.setf F.EYE_FW_FW_MAJOR 0 4).setf F.EYE_FW_FW_MINOR 0 1
  s.setb F.EYE_FW_STANDBY_READY 0 (!s.pairFenced (1 - s.activePair))

/-- The RESTART notice, and after a warm reset the journal (R397, R399, R400). -/
def State.restart (s : State) : State :=
  let fw := s.eye.fw
  if fw.resuming then s.resumeJournal 1 1
  else (s.setFw { fw with running := true, unitCmds := [] }).notice 1 fw.restartKind fw.reported

/-- A PHASE_MAP notice where the discovered phases are not the planned ones. -/
def State.bootPhases (s : State) : State :=
  let n := bitCount s.phasesDiffer 96
  if n = 0 then s else s.notice 6 n 0

/-- FIRMWARE_READY: the plan is applied. -/
def execFirmwareReady (s : State) : Host.Outcome State Fault Refusal :=
  .next (if s.stage == 9 && s.vgov && !s.rst.warm && !s.rst.cold then
    let s := s.bootLocks.restart
    let s := s.answerActivate.raiseCounter
    (s.bootPhases.putStage 10).resumeDone
  else s)

/-! ### The base-die supplies (R541) -/

/-- Every phase output is forced to 0 (R52, R541). -/
def State.forcePhases (s : State) : State :=
  { s with ph := { s.ph with ph := s.ph.ph.map (fun (e : Nat × PhaseSt) =>
    (e.1, if e.2.en then { e.2 with en := false, pwm := false, lowAt := s.now } else { e.2 with pwm := false })) } }

/-- GOV_SUPPLY_LOSS: VGOV or VGOV_IO has been out of range for 1 µs. -/
def execGovSupplyLoss (s : State) : Host.Outcome State Fault Refusal :=
  .next (if !s.rst.cold && s.vgov then (s.forcePhases.setf F.GOV_BOOT_VGOV_OK 0 0).warmArises 4 else s)

/-! ### The end of a warm reset (R358, R397, R561) -/

/-- A domain found between states goes to OFF through CLAMP and GATE (R358). -/
def State.settleDomain (s : State) (d : Nat) : State :=
  if domainPresent d && s.domRest d == 3 then (s.putTarget d 2).beginStep d 3 else s

/-- WARM_RESET_END: 10 µs after the last cause, or 100 µs after both supplies are in range. -/
def execWarmResetEnd (s : State) : Host.Outcome State Fault Refusal :=
  .next (if s.rst.warm && !s.rst.cold && s.passed s.rst.warmAt (if s.vgov then 10000 else 100000) then
    let s := { s with rst := { s.rst with warm := false }, lace := { s.lace with startAt := s.now } }
    let s := s.setf F.GOV_BOOT_VGOV_OK 0 1
    let s := allDomains.foldl State.settleDomain s
    let a := s.activePair
    let s := if s.pairFenced a && !s.pairFenced (1 - a) then s.setf F.EYE_FW_ACTIVE 0 (1 - a) else s
    s.putStage 6
  else s)

/-! ### The end of a die reset (R109, R528, R567) -/

/-- The firmware holds the plan and can write registers: it runs, or is about to post its RESTART notice. -/
def State.fwHoldsPlan (s : State) : Bool :=
  s.vgov && (s.stage == 9 || (s.stage == 10 && (s.eye.fw.running || s.eye.fw.takeover)))

/-- DIE_RESET_END: DIE_RST_N is high. FROZEN follows safe state (R84), the storm accounts start (R137), and the firmware
restores the die-domain fields, the guards that it holds among them, and sets GOV_LOCK_DIE (log entry 36). -/
def execDieResetEnd (s : State) : Host.Outcome State Fault Refusal :=
  .next (if s.rst.die && !s.rst.warm && !s.rst.cold then
    let s := { s with rst := { s.rst with die := false } }
    let s := (s.setb F.CRD_CTRL_FROZEN 0 s.safe).stormsFrom s.epoch
    if s.fwHoldsPlan then s.restoreDie.setf F.GOV_LOCK_DIE_VOLT 0 1 else s
  else s)

/-! ### The TAP (R536) -/

/-- Every rail is OFF. -/
def State.allRailsOff (s : State) : Bool := allRails.all (fun r => s.railSt r == 0)

/-- JTAG_INSTRUCTION: 0 BYPASS, 1 IDCODE, 2 SAMPLE/PRELOAD, 3 EXTEST, 4 INTEST, any other none of these. -/
def execJtagInstruction (instr : Nat) (s : State) : Host.Outcome State Fault Refusal :=
  .next (
    let free := instr ≤ 2
    let test := (instr = 3 ∨ instr = 4) ∧ s.bitf F.GOV_SEC_SCOPE 0 0 ∧ s.allRailsOff
    { s with sec := { s.sec with tap := if free ∨ test then instr else 0 } })

end Sys2Proof.Machine
end

