-- ==== Sys2Proof/Machine/CmdUnits.lean ====
section
/-! DEFINITION. Role, unit-message, job-meter, domain and window commands of firmware 4.1 (R386, opcodes 0x20 to 0x32). -/
namespace Sys2Proof.Machine
open Sys2Proof

/-! ### Roles and unit messages -/

/-- SET_ROLE (0x20): the role write of the station (R104); [8] of the result: it became pending. -/
def State.setRoleCmd (s : State) (e : JEnt) : State :=
  let n := argCore e.arg.toNat
  if s.takes R.CRDSn_ROLE n then
    let s := s.roleWrite n (e.arg.toNat % 4) (some e.slot)
    s.effect e.slot (if s.on F.CRDSn_ROLE_PENDING n then 256 else 0)
  else s.effect e.slot 0

def execSetRole (s : State) : Host.Outcome State Fault Refusal :=
  .next (s.command 0x20 fun e s => s.setRoleCmd e)

/-- A unit message (R105). -/
def unitWord (epoch code arg : Nat) : Nat := 2 ^ 63 + epoch % 256 * 2 ^ 54 + code % 64 * 2 ^ 48 + arg % 2 ^ 48

/-- Send the unit message of a command; its acknowledgement is the command's effect (R105, R391). -/
def State.sendUnit (s : State) (e : JEnt) (code arg : Nat) : State :=
  let u : UnitCmd := {
    core := argCore e.arg.toNat, slot := e.slot, word := unitWord (argEpoch e.arg.toNat) code arg }
  (s.setFw { s.eye.fw with unitCmds := s.eye.fw.unitCmds ++ [u] }).fwChanged

/-- SET_PRIORITY (0x21): weight and class, laid out as CRDSn_CFG [7:2]. -/
def execSetPriority (s : State) : Host.Outcome State Fault Refusal :=
  .next (s.command 0x21 fun e s => s.sendUnit e 0x01 (argValue e.arg.toNat % 64 * 4))

/-- SET_CAP (0x22): the cap, laid out as CRDSn_CFG [31:20]. -/
def execSetCap (s : State) : Host.Outcome State Fault Refusal :=
  .next (s.command 0x22 fun e s => s.sendUnit e 0x03 (argValue e.arg.toNat % 4096 * 2 ^ 20))

/-- SET_JOB (0x23): the meter, laid out as CRDSn_ROLE [21:16]. -/
def execSetJob (s : State) : Host.Outcome State Fault Refusal :=
  .next (s.command 0x23 fun e s => s.sendUnit e 0x02 (argValue e.arg.toNat % 64 * 2 ^ 16))

/-- READMIT_PART (0x24): the partition. -/
def execReadmitPart (s : State) : Host.Outcome State Fault Refusal :=
  .next (s.command 0x24 fun e s => s.sendUnit e 0x04 (argValue e.arg.toNat % 2))

/-- UNIT_PING (0x25). -/
def execUnitPing (s : State) : Host.Outcome State Fault Refusal :=
  .next (s.command 0x25 fun e s => s.sendUnit e 0x05 0)

/-! ### Job meters -/

/-- JOB_METER (0x26): the tag from page bytes 0 to 3, EN, and a clear request (R108). -/
def State.jobMeterCmd (s : State) (e : JEnt) : State :=
  let m := e.arg.toNat % 64
  let s := if e.arg.getLsbD 10 then s.put R.JOBm_TAG m (BitVec.ofNat 32 (leNat (s.pageBytes e.ch 0 4))) else s
  let clear := e.arg.getLsbD 9
  let s := s.put R.JOBm_CTRL m (BitVec.ofNat 32 ((if clear then 2 else 0) + if e.arg.getLsbD 8 then 1 else 0))
  if clear then s.effect e.slot 0 else s.doneNow e.slot (s.f F.JOBm_CTRL_STATUS m)

def execJobMeter (s : State) : Host.Outcome State Fault Refusal :=
  .next (s.command 0x26 fun e s => s.jobMeterCmd e)

/-- JOB_READ (0x27): EC, TAG and EN to the page. -/
def State.jobReadCmd (s : State) (e : JEnt) : State :=
  let m := e.arg.toNat % 64
  let ec := s.pair R.JOBm_EC_LO R.JOBm_EC_HI m
  let s := s.pageOut e.ch (leBytes 8 ec ++ leBytes 4 (s.f F.JOBm_TAG_TAG m) ++ leBytes 1 (s.f F.JOBm_CTRL_EN m))
  s.doneNow e.slot ec

def execJobRead (s : State) : Host.Outcome State Fault Refusal :=
  .next (s.command 0x27 fun e s => s.jobReadCmd e)

/-! ### Domains -/

/-- DOMAIN_REQ (0x28): a request with source CMD (R329, R331). -/
def State.domainReqCmd (s : State) (e : JEnt) : State :=
  let d := e.arg.toNat % 2048
  (s.effect e.slot 0).domRequest d (e.arg.toNat / 4096 % 4) 6 (some e.slot) (waitsForUnit d)

def execDomainReq (s : State) : Host.Outcome State Fault Refusal :=
  .next (s.command 0x28 fun e s => s.domainReqCmd e)

/-! ### The collective window -/

/-- The time from now to the window's end, in ns. -/
def State.winLeft (s : State) : Nat := s.pair R.THM_WIN_END_LO R.THM_WIN_END_HI - s.now.toNat

/-- WINDOW_OPEN (0x30): the window opens or is replaced, under an ID equal to SEQ (R322). -/
def State.windowOpenCmd (s : State) (e : JEnt) : State :=
  let s := s.winOpen e.seq (e.arg.toNat % 65536 * 10000) (s.pageCrit e.ch)
  s.doneNow e.slot (s.winLeft / 10000 * 2 ^ 16 + e.seq % 65536)

def execWindowOpen (s : State) : Host.Outcome State Fault Refusal :=
  .next (s.command 0x30 fun e s => s.windowOpenCmd e)

/-- WINDOW_CLOSE (0x31). -/
def State.windowCloseCmd (s : State) (e : JEnt) : State :=
  let left := if s.winLive then s.winLeft / 1000 else 0
  s.winClose.doneNow e.slot left

def execWindowClose (s : State) : Host.Outcome State Fault Refusal :=
  .next (s.command 0x31 fun e s => s.windowCloseCmd e)

/-- WINDOW_STATUS (0x32). -/
def State.windowStatusCmd (s : State) (e : JEnt) : State :=
  s.doneNow e.slot (s.f F.THM_WIN_STATUS_WIN_ID * 2 ^ 16 + s.f F.THM_WIN_STATUS_SLOW_SENT * 4 + s.f F.THM_WIN_STATUS_STATE)

def execWindowStatus (s : State) : Host.Outcome State Fault Refusal :=
  .next (s.command 0x32 fun e s => s.windowStatusCmd e)

end Sys2Proof.Machine
end

