-- ==== Sys2Proof/Machine/Dispatch.lean ====
section
/-! DEFINITION. One arm per command: its meaning, on everything but the queue. -/
namespace Sys2Proof.Machine

/-- What a command does to the state (everything but the queue). -/
def exec (i : Instr) (s : State) : Host.Outcome State Fault Refusal :=
  match i with
  | .registerWrite priv addr w => Sys2Proof.Machine.execRegisterWrite priv addr w s
  | .cfg64bitWrite priv addr w => Sys2Proof.Machine.execCfg64bitWrite priv addr w s
  | .seamCodeError src dst unit w => Sys2Proof.Machine.execSeamCodeError src dst unit w s
  | .seamResend src dst unit ok => Sys2Proof.Machine.execSeamResend src dst unit ok s
  | .islandStop isl unit => Sys2Proof.Machine.execIslandStop isl unit s
  | .islandRestart isl unit => Sys2Proof.Machine.execIslandRestart isl unit s
  | .timeTrimWrite priv w => Sys2Proof.Machine.execTimeTrimWrite priv w s
  | .timeStepWrite priv w => Sys2Proof.Machine.execTimeStepWrite priv w s
  | .timeStepApply => Sys2Proof.Machine.execTimeStepApply s
  | .refclkLost => Sys2Proof.Machine.execRefclkLost s
  | .refclkRestored => Sys2Proof.Machine.execRefclkRestored s
  | .tokenPost n tok => Sys2Proof.Machine.execTokenPost n tok s
  | .tokenReject n => Sys2Proof.Machine.execTokenReject n s
  | .tokenStaleReject n => Sys2Proof.Machine.execTokenStaleReject n s
  | .tileAdmit x => Sys2Proof.Machine.execTileAdmit x s
  | .tileDone n => Sys2Proof.Machine.execTileDone n s
  | .epochBoundaryReport n => Sys2Proof.Machine.execEpochBoundaryReport n s
  | .demandReport n => Sys2Proof.Machine.execDemandReport n s
  | .clickerRefill => Sys2Proof.Machine.execClickerRefill s
  | .grantReceive n => Sys2Proof.Machine.execGrantReceive n s
  | .rampAllowanceCompute c => Sys2Proof.Machine.execRampAllowanceCompute c s
  | .rampAllowanceReceive c => Sys2Proof.Machine.execRampAllowanceReceive c s
  | .rampWindowStart c => Sys2Proof.Machine.execRampWindowStart c s
  | .phaseCapacityReport => Sys2Proof.Machine.execPhaseCapacityReport s
  | .clampSourceAssert bit unit => Sys2Proof.Machine.execClampSourceAssert bit unit s
  | .clampRelease => Sys2Proof.Machine.execClampRelease s
  | .clampForceWrite priv w => Sys2Proof.Machine.execClampForceWrite priv w s
  | .partitionFault n p => Sys2Proof.Machine.execPartitionFault n p s
  | .partitionReadmit priv n pfault w => Sys2Proof.Machine.execPartitionReadmit priv n pfault w s
  | .roleWrite priv n w => Sys2Proof.Machine.execRoleWrite priv n w s
  | .unitMessage x w => Sys2Proof.Machine.execUnitMessage x w s
  | .jobClearWrite priv m w => Sys2Proof.Machine.execJobClearWrite priv m w s
  | .costDataWrite priv w => Sys2Proof.Machine.execCostDataWrite priv w s
  | .weltHeadroomReport c vrail vout iout dropout => Sys2Proof.Machine.execWeltHeadroomReport c vrail vout iout dropout s
  | .needUpdate l => Sys2Proof.Machine.execNeedUpdate l s
  | .classUpRequest n => Sys2Proof.Machine.execClassUpRequest n s
  | .classReady c vout => Sys2Proof.Machine.execClassReady c vout s
  | .classExpire c => Sys2Proof.Machine.execClassExpire c s
  | .ceilHoldExpire c => Sys2Proof.Machine.execCeilHoldExpire c s
  | .droopTrip n d => Sys2Proof.Machine.execDroopTrip n d s
  | .stretchEnd e => Sys2Proof.Machine.execStretchEnd e s
  | .kickExpire c => Sys2Proof.Machine.execKickExpire c s
  | .stormExit c => Sys2Proof.Machine.execStormExit c s
  | .stormClampTimeout c => Sys2Proof.Machine.execStormClampTimeout c s
  | .stormFracUpdate => Sys2Proof.Machine.execStormFracUpdate s
  | .detectorStuck n d => Sys2Proof.Machine.execDetectorStuck n d s
  | .detectorUnmask priv n w => Sys2Proof.Machine.execDetectorUnmask priv n w s
  | .weltIlimStart c iout => Sys2Proof.Machine.execWeltIlimStart c iout s
  | .weltIlimTimeout c => Sys2Proof.Machine.execWeltIlimTimeout c s
  | .weltIlimRelease c => Sys2Proof.Machine.execWeltIlimRelease c s
  | .weltOv c v => Sys2Proof.Machine.execWeltOv c v s
  | .tfSample p mv => Sys2Proof.Machine.execTfSample p mv s
  | .phaseCycle p wave cs => Sys2Proof.Machine.execPhaseCycle p wave cs s
  | .softstartComplete p => Sys2Proof.Machine.execSoftstartComplete p s
  | .phaseHiccupExpire p vcs tf => Sys2Proof.Machine.execPhaseHiccupExpire p vcs tf s
  | .senseLineOpen p ns => Sys2Proof.Machine.execSenseLineOpen p ns s
  | .senseImplausibleCheck r => Sys2Proof.Machine.execSenseImplausibleCheck r s
  | .railSample r v sig coarse cs => Sys2Proof.Machine.execRailSample r v sig coarse cs s
  | .phaseShed r => Sys2Proof.Machine.execPhaseShed r s
  | .capabilityUpdate r => Sys2Proof.Machine.execCapabilityUpdate r s
  | .railOcHiccup r => Sys2Proof.Machine.execRailOcHiccup r s
  | .railHiccupExpire r => Sys2Proof.Machine.execRailHiccupExpire r s
  | .brakeStart r v => Sys2Proof.Machine.execBrakeStart r v s
  | .brakeEnd r v => Sys2Proof.Machine.execBrakeEnd r v s
  | .brakeTimeout r => Sys2Proof.Machine.execBrakeTimeout r s
  | .syncEdge ps => Sys2Proof.Machine.execSyncEdge ps s
  | .syncLock off => Sys2Proof.Machine.execSyncLock off s
  | .syncLoss => Sys2Proof.Machine.execSyncLoss s
  | .phaseEnableWrite priv p w => Sys2Proof.Machine.execPhaseEnableWrite priv p w s
  | .phaseDisableWrite priv p w => Sys2Proof.Machine.execPhaseDisableWrite priv p w s
  | .disableHeldApply p => Sys2Proof.Machine.execDisableHeldApply p s
  | .phaseQuietPoint p vcs => Sys2Proof.Machine.execPhaseQuietPoint p vcs s
  | .phaseFailedReprobe priv p w => Sys2Proof.Machine.execPhaseFailedReprobe priv p w s
  | .probeComplete p vcs tf => Sys2Proof.Machine.execProbeComplete p vcs tf s
  | .absentProbe p vcs tf => Sys2Proof.Machine.execAbsentProbe p vcs tf s
  | .railTargetWrite priv r w => Sys2Proof.Machine.execRailTargetWrite priv r w s
  | .railOnWrite priv r w => Sys2Proof.Machine.execRailOnWrite priv r w s
  | .railOffWrite priv r w => Sys2Proof.Machine.execRailOffWrite priv r w s
  | .railCoefHold priv r w => Sys2Proof.Machine.execRailCoefHold priv r w s
  | .profileStep r => Sys2Proof.Machine.execProfileStep r s
  | .railEnterOn r => Sys2Proof.Machine.execRailEnterOn r s
  | .railStartTimeout r => Sys2Proof.Machine.execRailStartTimeout r s
  | .railQuietPoint r cs => Sys2Proof.Machine.execRailQuietPoint r cs s
  | .rsLoss r step => Sys2Proof.Machine.execRsLoss r step s
  | .rsRestore r n => Sys2Proof.Machine.execRsRestore r n s
  | .senseBothLost r coarse ns => Sys2Proof.Machine.execSenseBothLost r coarse ns s
  | .railOvervoltage r coarse ns => Sys2Proof.Machine.execRailOvervoltage r coarse ns s
  | .sequenceUpRequest priv => Sys2Proof.Machine.execSequenceUpRequest priv s
  | .sequenceDownRequest priv => Sys2Proof.Machine.execSequenceDownRequest priv s
  | .seqStepBegin => Sys2Proof.Machine.execSeqStepBegin s
  | .seqCheckWaitTimeout => Sys2Proof.Machine.execSeqCheckWaitTimeout s
  | .seqPendingUpStart => Sys2Proof.Machine.execSeqPendingUpStart s
  | .slotSample n => Sys2Proof.Machine.execSlotSample n s
  | .slotEvaluate => Sys2Proof.Machine.execSlotEvaluate s
  | .slotRelease => Sys2Proof.Machine.execSlotRelease s
  | .slotHoldTimeout n => Sys2Proof.Machine.execSlotHoldTimeout n s
  | .ceilingArrival n => Sys2Proof.Machine.execCeilingArrival n s
  | .slotEnable priv n w => Sys2Proof.Machine.execSlotEnable priv n w s
  | .slotDisable priv n w => Sys2Proof.Machine.execSlotDisable priv n w s
  | .slotQuietPoint n => Sys2Proof.Machine.execSlotQuietPoint n s
  | .notchAssign priv k w => Sys2Proof.Machine.execNotchAssign priv k w s
  | .latencyClear priv => Sys2Proof.Machine.execLatencyClear priv s
  | .railNeedReceive => Sys2Proof.Machine.execRailNeedReceive s
  | .railNeedTimeout => Sys2Proof.Machine.execRailNeedTimeout s
  | .groupResend => Sys2Proof.Machine.execGroupResend s
  | .lastMarker l => Sys2Proof.Machine.execLastMarker l s
  | .lastMarkerTimeout l => Sys2Proof.Machine.execLastMarkerTimeout l s
  | .lastFadeEnd l => Sys2Proof.Machine.execLastFadeEnd l s
  | .lastCorrelationEval l => Sys2Proof.Machine.execLastCorrelationEval l s
  | .lastBinUpdate l => Sys2Proof.Machine.execLastBinUpdate l s
  | .lastEnableWrite priv l w => Sys2Proof.Machine.execLastEnableWrite priv l w s
  | .lastBinload priv w => Sys2Proof.Machine.execLastBinload priv w s
  | .activityWindow n counts => Sys2Proof.Machine.execActivityWindow n counts s
  | .predictorEval intents => Sys2Proof.Machine.execPredictorEval intents s
  | .residualCheck => Sys2Proof.Machine.execResidualCheck s
  | .shadowCheck => Sys2Proof.Machine.execShadowCheck s
  | .predResumeGo priv => Sys2Proof.Machine.execPredResumeGo priv s
  | .predSetHold priv w => Sys2Proof.Machine.execPredSetHold priv w s
  | .predGainTrim => Sys2Proof.Machine.execPredGainTrim s
  | .thermalSample layer readings => Sys2Proof.Machine.execThermalSample layer readings s
  | .refreshRelease layer unit => Sys2Proof.Machine.execRefreshRelease layer unit s
  | .backstopRelease n => Sys2Proof.Machine.execBackstopRelease n s
  | .sensorUnbreak priv w => Sys2Proof.Machine.execSensorUnbreak priv w s
  | .columnModelStep => Sys2Proof.Machine.execColumnModelStep s
  | .windowExpire => Sys2Proof.Machine.execWindowExpire s
  | .waitIntent d mode => Sys2Proof.Machine.execWaitIntent d mode s
  | .domainReqWrite priv d w => Sys2Proof.Machine.execDomainReqWrite priv d w s
  | .domainCommit d quiet words walk bad => Sys2Proof.Machine.execDomainCommit d quiet words walk bad s
  | .drainTimeout d => Sys2Proof.Machine.execDrainTimeout d s
  | .wakeEvent d src => Sys2Proof.Machine.execWakeEvent d src s
  | .saveAccessTimeout d => Sys2Proof.Machine.execSaveAccessTimeout d s
  | .eyeletPost priv ch wide w => Sys2Proof.Machine.execEyeletPost priv ch wide w s
  | .commandTake ch unread authOk => Sys2Proof.Machine.execCommandTake ch unread authOk s
  | .replyPost ch => Sys2Proof.Machine.execReplyPost ch s
  | .replyTake priv ch w => Sys2Proof.Machine.execReplyTake priv ch w s
  | .eyeWinWrite priv w data => Sys2Proof.Machine.execEyeWinWrite priv w data s
  | .noticeOverflow => Sys2Proof.Machine.execNoticeOverflow s
  | .commandFinalReply slot ready => Sys2Proof.Machine.execCommandFinalReply slot ready s
  | .version => Sys2Proof.Machine.execVersion s
  | .ping => Sys2Proof.Machine.execPing s
  | .stateCensus => Sys2Proof.Machine.execStateCensus s
  | .phaseMap => Sys2Proof.Machine.execPhaseMap s
  | .railTarget => Sys2Proof.Machine.execRailTarget s
  | .railOn => Sys2Proof.Machine.execRailOn s
  | .sequence => Sys2Proof.Machine.execSequence s
  | .platformCap => Sys2Proof.Machine.execPlatformCap s
  | .railRead => Sys2Proof.Machine.execRailRead s
  | .phaseEn => Sys2Proof.Machine.execPhaseEn s
  | .clampForce => Sys2Proof.Machine.execClampForce s
  | .setRole => Sys2Proof.Machine.execSetRole s
  | .setPriority => Sys2Proof.Machine.execSetPriority s
  | .setCap => Sys2Proof.Machine.execSetCap s
  | .setJob => Sys2Proof.Machine.execSetJob s
  | .readmitPart => Sys2Proof.Machine.execReadmitPart s
  | .unitPing => Sys2Proof.Machine.execUnitPing s
  | .jobMeter => Sys2Proof.Machine.execJobMeter s
  | .jobRead => Sys2Proof.Machine.execJobRead s
  | .domainReq => Sys2Proof.Machine.execDomainReq s
  | .windowOpen => Sys2Proof.Machine.execWindowOpen s
  | .windowClose => Sys2Proof.Machine.execWindowClose s
  | .windowStatus => Sys2Proof.Machine.execWindowStatus s
  | .planLoad n => Sys2Proof.Machine.execPlanLoad n s
  | .planTile => Sys2Proof.Machine.execPlanTile s
  | .planStatus => Sys2Proof.Machine.execPlanStatus s
  | .planStore ok => Sys2Proof.Machine.execPlanStore ok s
  | .planDiscard => Sys2Proof.Machine.execPlanDiscard s
  | .traceStart => Sys2Proof.Machine.execTraceStart s
  | .traceStop => Sys2Proof.Machine.execTraceStop s
  | .traceTrigger => Sys2Proof.Machine.execTraceTrigger s
  | .traceStatus => Sys2Proof.Machine.execTraceStatus s
  | .faultList => Sys2Proof.Machine.execFaultList s
  | .faultClear => Sys2Proof.Machine.execFaultClear s
  | .safeExit => Sys2Proof.Machine.execSafeExit s
  | .unfence bad => Sys2Proof.Machine.execUnfence bad s
  | .awlInject => Sys2Proof.Machine.execAwlInject s
  | .replanMargins => Sys2Proof.Machine.execReplanMargins s
  | .marginSchedule => Sys2Proof.Machine.execMarginSchedule s
  | .treadReport => Sys2Proof.Machine.execTreadReport s
  | .predStatus => Sys2Proof.Machine.execPredStatus s
  | .predResume => Sys2Proof.Machine.execPredResume s
  | .remote => Sys2Proof.Machine.execRemote s
  | .moduleStatus => Sys2Proof.Machine.execModuleStatus s
  | .moduleBudget => Sys2Proof.Machine.execModuleBudget s
  | .authChallenge => Sys2Proof.Machine.execAuthChallenge s
  | .authResponse => Sys2Proof.Machine.execAuthResponse s
  | .authDrop => Sys2Proof.Machine.execAuthDrop s
  | .authChallengeExpire => Sys2Proof.Machine.execAuthChallengeExpire s
  | .fwBegin => Sys2Proof.Machine.execFwBegin s
  | .fwChunk => Sys2Proof.Machine.execFwChunk s
  | .fwCommit sigOk => Sys2Proof.Machine.execFwCommit sigOk s
  | .fwActivate => Sys2Proof.Machine.execFwActivate s
  | .lockstepMismatch p => Sys2Proof.Machine.execLockstepMismatch p s
  | .takeoverResume => Sys2Proof.Machine.execTakeoverResume s
  | .firmwareHeartbeatTimeout p => Sys2Proof.Machine.execFirmwareHeartbeatTimeout p s
  | .laceSymbolLock p => Sys2Proof.Machine.execLaceSymbolLock p s
  | .laceLanesAligned p => Sys2Proof.Machine.execLaceLanesAligned p s
  | .laceTrainTimeout p => Sys2Proof.Machine.execLaceTrainTimeout p s
  | .lacePortDown p lockLost => Sys2Proof.Machine.execLacePortDown p lockLost s
  | .laceWakePatternSend p => Sys2Proof.Machine.execLaceWakePatternSend p s
  | .laceFrameCrcFail p => Sys2Proof.Machine.execLaceFrameCrcFail p s
  | .laceReservedType p => Sys2Proof.Machine.execLaceReservedType p s
  | .laceHello p frames => Sys2Proof.Machine.execLaceHello p frames s
  | .laceHelloSend p => Sys2Proof.Machine.execLaceHelloSend p s
  | .laceDelayReqSend p early => Sys2Proof.Machine.execLaceDelayReqSend p early s
  | .laceDelayReq p frames residence => Sys2Proof.Machine.execLaceDelayReq p frames residence s
  | .laceDelayRsp p frames early => Sys2Proof.Machine.execLaceDelayRsp p frames early s
  | .laceTimeSend => Sys2Proof.Machine.execLaceTimeSend s
  | .laceTime p frames early => Sys2Proof.Machine.execLaceTime p frames early s
  | .laceJoinSend => Sys2Proof.Machine.execLaceJoinSend s
  | .laceJoin p frames => Sys2Proof.Machine.execLaceJoin p frames s
  | .laceMembersSend => Sys2Proof.Machine.execLaceMembersSend s
  | .laceMembers p frames => Sys2Proof.Machine.execLaceMembers p frames s
  | .laceReportSend => Sys2Proof.Machine.execLaceReportSend s
  | .laceReport p frames => Sys2Proof.Machine.execLaceReport p frames s
  | .laceDebt p frames => Sys2Proof.Machine.execLaceDebt p frames s
  | .laceShareCompute => Sys2Proof.Machine.execLaceShareCompute s
  | .laceShare p frames => Sys2Proof.Machine.execLaceShare p frames s
  | .laceShareTimeout => Sys2Proof.Machine.execLaceShareTimeout s
  | .laceMemberTimeout site => Sys2Proof.Machine.execLaceMemberTimeout site s
  | .laceHeadLost => Sys2Proof.Machine.execLaceHeadLost s
  | .laceSiteConflict => Sys2Proof.Machine.execLaceSiteConflict s
  | .laceTimeTimeout => Sys2Proof.Machine.execLaceTimeTimeout s
  | .laceHeadStartHoldEnd => Sys2Proof.Machine.execLaceHeadStartHoldEnd s
  | .laceSlow p frames => Sys2Proof.Machine.execLaceSlow p frames s
  | .laceRelayCmd p frames => Sys2Proof.Machine.execLaceRelayCmd p frames s
  | .laceRelayRsp p frames => Sys2Proof.Machine.execLaceRelayRsp p frames s
  | .laceRelayReplyForward => Sys2Proof.Machine.execLaceRelayReplyForward s
  | .laceRelayRetry slot => Sys2Proof.Machine.execLaceRelayRetry slot s
  | .faultEventAccept => Sys2Proof.Machine.execFaultEventAccept s
  | .unclearedWrite priv row w => Sys2Proof.Machine.execUnclearedWrite priv row w s
  | .forceSafeWrite priv w => Sys2Proof.Machine.execForceSafeWrite priv w s
  | .awlArm priv w => Sys2Proof.Machine.execAwlArm priv w s
  | .awlDisarm priv w => Sys2Proof.Machine.execAwlDisarm priv w s
  | .sagSaveStart vshk hold => Sys2Proof.Machine.execSagSaveStart vshk hold s
  | .heelWriteComplete ok vshk hold => Sys2Proof.Machine.execHeelWriteComplete ok vshk hold s
  | .sagSaveStop vshk hold => Sys2Proof.Machine.execSagSaveStop vshk hold s
  | .sagRideThrough vshk hold => Sys2Proof.Machine.execSagRideThrough vshk hold s
  | .trdCalWrite priv w => Sys2Proof.Machine.execTrdCalWrite priv w s
  | .driftMeasure clocks => Sys2Proof.Machine.execDriftMeasure clocks s
  | .emAccumulate => Sys2Proof.Machine.execEmAccumulate s
  | .holdupMeasurement stepUv td tc => Sys2Proof.Machine.execHoldupMeasurement stepUv td tc s
  | .marginWindow => Sys2Proof.Machine.execMarginWindow s
  | .retentionReport n ms => Sys2Proof.Machine.execRetentionReport n ms s
  | .treadFit => Sys2Proof.Machine.execTreadFit s
  | .treadInsoleSave bad => Sys2Proof.Machine.execTreadInsoleSave bad s
  | .treadCheckpoint ok1 ok2 => Sys2Proof.Machine.execTreadCheckpoint ok1 ok2 s
  | .traceRecordAccept => Sys2Proof.Machine.execTraceRecordAccept s
  | .trcTrigWrite priv w => Sys2Proof.Machine.execTrcTrigWrite priv w s
  | .traceRegionComplete => Sys2Proof.Machine.execTraceRegionComplete s
  | .trcReleaseWrite priv w => Sys2Proof.Machine.execTrcReleaseWrite priv w s
  | .traceDropReport k => Sys2Proof.Machine.execTraceDropReport k s
  | .traceRunStart priv w => Sys2Proof.Machine.execTraceRunStart priv w s
  | .traceFrameSend n => Sys2Proof.Machine.execTraceFrameSend n s
  | .page write w pecBad => Sys2Proof.Machine.execPage write w pecBad s
  | .clearFaults pecBad => Sys2Proof.Machine.execClearFaults pecBad s
  | .capability write => Sys2Proof.Machine.execCapability write s
  | .voutMode write => Sys2Proof.Machine.execVoutMode write s
  | .voutCommand write => Sys2Proof.Machine.execVoutCommand write s
  | .statusByte write => Sys2Proof.Machine.execStatusByte write s
  | .statusWord write => Sys2Proof.Machine.execStatusWord write s
  | .statusVout write => Sys2Proof.Machine.execStatusVout write s
  | .statusIout write => Sys2Proof.Machine.execStatusIout write s
  | .statusTemperature write => Sys2Proof.Machine.execStatusTemperature write s
  | .statusCml write => Sys2Proof.Machine.execStatusCml write s
  | .readVout write => Sys2Proof.Machine.execReadVout write s
  | .readIout write => Sys2Proof.Machine.execReadIout write s
  | .readTemperature1 write => Sys2Proof.Machine.execReadTemperature1 write s
  | .readTemperature2 write => Sys2Proof.Machine.execReadTemperature2 write s
  | .readTemperature3 write => Sys2Proof.Machine.execReadTemperature3 write s
  | .readPout write => Sys2Proof.Machine.execReadPout write s
  | .pmbusRevision write => Sys2Proof.Machine.execPmbusRevision write s
  | .mfrId write => Sys2Proof.Machine.execMfrId write s
  | .mfrModel write => Sys2Proof.Machine.execMfrModel write s
  | .mfrRevision write => Sys2Proof.Machine.execMfrRevision write s
  | .mfrEyeCmd bytes pecBad => Sys2Proof.Machine.execMfrEyeCmd bytes pecBad s
  | .mfrEyeRsp write => Sys2Proof.Machine.execMfrEyeRsp write s
  | .mfrEyeStatus write => Sys2Proof.Machine.execMfrEyeStatus write s
  | .mfrEyeTake pecBad => Sys2Proof.Machine.execMfrEyeTake pecBad s
  | .mfrEyeClear pecBad => Sys2Proof.Machine.execMfrEyeClear pecBad s
  | .mfrPagePtr write w pecBad => Sys2Proof.Machine.execMfrPagePtr write w pecBad s
  | .mfrPageData write => Sys2Proof.Machine.execMfrPageData write s
  | .pmbusInvalidCommand code => Sys2Proof.Machine.execPmbusInvalidCommand code s
  | .alertResponse => Sys2Proof.Machine.execAlertResponse s
  | .govLockWrite priv w => Sys2Proof.Machine.execGovLockWrite priv w s
  | .jtagInstruction instr => Sys2Proof.Machine.execJtagInstruction instr s
  | .insoleWindowWrite priv bank tile word w => Sys2Proof.Machine.execInsoleWindowWrite priv bank tile word w s
  | .govSupplyLoss => Sys2Proof.Machine.execGovSupplyLoss s
  | .coldReset => Sys2Proof.Machine.execColdReset s
  | .coldResetEnd site headEn bootSrc selfOk => Sys2Proof.Machine.execColdResetEnd site headEn bootSrc selfOk s
  | .insoleTest bad => Sys2Proof.Machine.execInsoleTest bad s
  | .heelLoad vshk hold => Sys2Proof.Machine.execHeelLoad vshk hold s
  | .bootRomStart sig0 sig1 => Sys2Proof.Machine.execBootRomStart sig0 sig1 s
  | .bootLoaderWord unread sigOk => Sys2Proof.Machine.execBootLoaderWord unread sigOk s
  | .firmwareBoot ok1 ok2 => Sys2Proof.Machine.execFirmwareBoot ok1 ok2 s
  | .firmwareReady => Sys2Proof.Machine.execFirmwareReady s
  | .warmReset => Sys2Proof.Machine.execWarmReset s
  | .govResetWrite priv w => Sys2Proof.Machine.execGovResetWrite priv w s
  | .warmResetEnd => Sys2Proof.Machine.execWarmResetEnd s
  | .adopt priv w => Sys2Proof.Machine.execAdopt priv w s
  | .dieReset => Sys2Proof.Machine.execDieReset s
  | .dieResetEnd => Sys2Proof.Machine.execDieResetEnd s
  | .readShadowLatch priv wide addr => Sys2Proof.Machine.execReadShadowLatch priv wide addr s
  | .stallCycle c => Sys2Proof.Machine.execStallCycle c s
  | .laceMessageForward p frames residence => Sys2Proof.Machine.execLaceMessageForward p frames residence s
  | .dummyLoadRequestToggle z => Sys2Proof.Machine.execDummyLoadRequestToggle z s

end Sys2Proof.Machine
end

