-- ==== Sys2Proof/Safety.lean ====
section
/-! DEFINITION. What every state of a run keeps: the byte memories (MRAM, Eyelet pages, Insole) in their one canonical
form. -/
namespace Sys2Proof.Machine
open Sys2Proof

/-- The canonical form of a byte memory whose unlisted bytes read 0: the MRAM and the pages. -/
def Memory.wf (m : List Host.Cell) : Bool := Tab.wf (0 : Byte) m

/-- The canonical form of the Insole: addresses strictly rising, and no byte equal to that of a free tile. -/
def Insole.wf (m : List Host.Cell) : Bool := Tab.rising m && m.all (fun e => decide (e.2 ≠ freeByte (e.1 % 256)))

/-- The three byte memories are in canonical form. -/
def State.Inv (s : State) : Prop :=
  Memory.wf s.flt.mram = true ∧ Memory.wf s.eye.pages = true ∧ Insole.wf s.pwr.insole = true

/-- The command answers a next state that meets `P`. -/
def Completes (i : Instr) (s : State) (P : State → Prop) : Prop := ∃ t, exec i s = .next t ∧ P t

/-- The CFG port carries a write with privilege to register `r`, instance `i`: the instance is present (R2), its island
answers (R551), the hold of R564 does not refuse it and no warm reset holds the register (R19). -/
def State.portTakes (s : State) (r : Reg) (i : Nat) : Bool :=
  presentIdx r.pres i && decide (i < r.count) && s.answers (r.at i) r i && !(heldBlock (r.at i) && s.holding)
    && !(s.rst.warm && decide (r.dom ≠ .cold))

/-- A fault event of the row, for the unit, is held for the collector (R437, R438). -/
def State.reported (s : State) (row unit : Nat) : Prop := ∃ e ∈ s.flt.pend, e.row = row ∧ e.unit = unit % 2 ^ 15

/-- The newest entry of a hang ring (R511). -/
def State.hangTop (s : State) (ring : Nat) : Option HangEnt := (Tab.get [] s.trc.hang ring).head?

/-- The command of the entry runs next, and the entry is the one in its slot (R49, R381, R390). -/
def State.runs (s : State) (op : Nat) (e : JEnt) : Prop := s.commandDue op = some e ∧ s.jent? e.slot = some e

/-- A final reply of the entry with this status and result is in its channel's queue (R366, R380). -/
def State.answered (s : State) (e : JEnt) (status result : Nat) : Prop :=
  ∃ q ∈ (s.chan e.ch).queue, q.word = replyWord e.op e.seq status false false false result ∧ q.jslot = some e.slot ∧ q.fin = true

/-- The entry has taken effect; `final`, that its final reply is produced (R391). -/
def State.hasEffect (s : State) (e : JEnt) (final : Bool) : Prop :=
  ∃ x, s.jent? e.slot = some x ∧ x.effect = true ∧ x.final = final ∧ x.op = e.op ∧ x.seq = e.seq

/-- The command took effect and is answered DONE with this result. -/
def State.done (s : State) (e : JEnt) (result : Nat) : Prop := s.answered e ST_DONE result ∧ s.hasEffect e true

/-- A notice of the kind and subject is queued on the notice channel (R375). -/
def State.noticed (s : State) (kind subject : Nat) : Prop :=
  ∃ q ∈ (s.chan s.noticeCh).queue, q.notice = true ∧ q.word.toNat / 2 ^ 32 = kind % 256 * 65536 + subject % 65536

end Sys2Proof.Machine
end

