-- ==== Sys2Proof/Certificates/Slice0/Obligations.lean ====
section
/-! DEFINITION. The statements for the provers: what the commands of each chapter do, which requests are refused, what stays
unchanged, and the invariant every step keeps. -/
section
open Sys2Proof Sys2Proof.Machine

/-- For every command and state: with the command at the front of the queue, a step is exec of it on the state with the
rest of the queue. (The queue is the model's own, log entry 4.) (95_what_each_step_holds) -/
def Obligations.StepRunsFrontCommand : Prop :=
  ∀ (c : Instr) (rest : List Instr) (s : State), s.pending = c :: rest → step s = exec c { s with pending := rest }

/-- The model's choice (log entry 4): on an empty queue a step is a tick. A tick advances the count by exactly 1 once it
has started (R33), the boot count by 1 before (R36), by STEP_NS + 1 where a step is pending (R574), and changes
nothing while a cold reset is held. Beside the time base an ordinary tick changes the pre-allocations that the Clicker
holds alone, and those only at the opening of an epoch (R280, log entry 65). (R33, R36, R574) -/
def Obligations.IdleStepIsOneTick : Prop :=
  (∀ s : State, s.pending = [] → step s = .next s.tick) ∧
  (∀ s : State, s.rst.cold = true → s.tick = s) ∧
  (∀ s : State, s.rst.cold = false → s.f F.TIME_STEP_STATUS ≠ 1 → s.started = true →
    s.tick.time.count = s.time.count + 1 ∧ s.tick.time.boot = s.time.boot ∧ { s.tick with time := s.time, crd := s.crd } = s ∧
    { s.tick.crd with pre := s.crd.pre } = s.crd ∧ ((s.now.toNat + 1) % 1000 ≠ 0 → s.now.toNat + 1 < 2 ^ 64 → s.tick.crd = s.crd)) ∧
  (∀ s : State, s.rst.cold = false → s.f F.TIME_STEP_STATUS ≠ 1 → s.started = false →
    s.tick.time.boot = s.time.boot + 1 ∧ s.tick.time.count = s.time.count ∧ { s.tick with time := s.time } = s) ∧
  (∀ s : State, s.rst.cold = false → s.f F.TIME_STEP_STATUS = 1 → s.started = true →
    s.tick.time.count = s.time.count + BitVec.ofNat 64 (s.f F.TIME_STEP_STEP_NS + 1) ∧ s.tick.f F.TIME_STEP_STATUS = 2)

/-- For every command, with every operand, and every state: exec answers a next state, and the queue of waiting commands
is as before. The statements on each family say what the next state is. (95_what_each_step_holds) -/
def Obligations.EveryCommandAnswersNext : Prop :=
  ∀ (i : Instr) (s : State), Completes i s fun t => t.pending = s.pending

/-- For every state in which the MRAM, the Eyelet pages and the Insole are in canonical form (addresses strictly rising,
no entry equal to what an unlisted byte reads as) and whatever command stands at the front of the queue: if a step
answers a next state, the three memories are in canonical form there too. (R9, R347, R369, R557) -/
def Obligations.MemoriesStayCanonical : Prop :=
  ∀ s t : State, s.Inv → step s = .next t → t.Inv

/-- After reset: the memories are canonical; every register reads its reset value; a cold reset is held, the count has not
started, both pins are low, no command waits, and every queue, journal, log and memory is empty. (R561, R19) -/
def Obligations.ResetIsCanonical : Prop :=
  State.reset.Inv ∧ (∀ (r : Reg) (i : Nat), State.reset.rd r i = r.rst i) ∧ State.reset.rst.cold = true ∧
  State.reset.rst.die = true ∧ State.reset.started = false ∧ State.reset.now = 0 ∧ State.reset.flt.errN = false ∧
  State.reset.flt.safeN = false ∧ State.reset.pending = [] ∧ State.reset.eye.journal = [] ∧ State.reset.trc.log = [] ∧
  State.reset.flt.mram = [] ∧ State.reset.eye.pages = [] ∧ State.reset.pwr.insole = []

/-- For every register whose write is no action of its block, reached by a 32-bit write with privilege: every bit of a RW
field takes the written bit, a W1C bit clears where 1 is written, an RWL field takes the written value unless its lock
is set, reserved and RO bits keep their value; the response is an error exactly when a locked field would change, and
the other fields are written nonetheless; no other register and nothing else of the block changes. (R17) -/
def Obligations.RegisterWriteBits : Prop :=
  ∀ (s : State) (addr : BitVec 18) (w : Word) (r : Reg) (i : Nat), cfgOff addr < 0x80000 → findReg (cfgOff addr) = some (r, i) →
  s.portTakes r i = true → s.actGov .cfg r i w = none → s.actDie .cfg r i w = none →
  Completes (.registerWrite true addr w) s fun t =>
    (∀ x ∈ r.wf, ∀ k, x.lo ≤ k → k ≤ x.hi → (t.rd r i).getLsbD k = (match x.acc with
      | .rw => w.getLsbD k
      | .w1c => (s.rd r i).getLsbD k && !w.getLsbD k
      | .rwl l => if s.locked .cfg l x.lo (s.rd r i) then (s.rd r i).getLsbD k else w.getLsbD k)) ∧
    (∀ k, (∀ x ∈ r.wf, k < x.lo ∨ x.hi < k) → (t.rd r i).getLsbD k = (s.rd r i).getLsbD k) ∧
    t.rsp.err = r.wf.any (fun x => match x.acc with
      | .rwl l => s.locked .cfg l x.lo (s.rd r i)
          && decide (getBits w x.lo (x.hi + 1 - x.lo) ≠ getBits (s.rd r i) x.lo (x.hi + 1 - x.lo))
      | _ => false) ∧
    (∀ q j, q.at j ≠ r.at i → t.rd q j = s.rd q j) ∧ { t with regs := s.regs, rsp := s.rsp } = s

/-- A write without privilege, a misaligned 64-bit access, a write to a stopped island, to a held block or while a cold
reset is held completes with RSP_ERR and changes nothing but the response; a write to an absent instance, and one to a
register that a warm reset holds, changes nothing and draws no error; a write with privilege to a reserved offset is
ignored. (R2, R530, R548, R551, R564, R569) -/
def Obligations.RefusedCfgRequests : Prop :=
  (∀ s addr w, exec (.registerWrite false addr w) s = .next (s.respond true)) ∧
  (∀ s priv addr w, cfgOff addr % 8 = 4 → exec (.cfg64bitWrite priv addr w) s = .next (s.respond true)) ∧
  (∀ s priv addr, cfgOff addr % 8 = 4 → exec (.readShadowLatch priv true addr) s = .next (s.respond true)) ∧
  (∀ s addr w r i, cfgOff addr < 0x80000 → findReg (cfgOff addr) = some (r, i) → s.rst.cold = false →
    presentIdx r.pres i = false → exec (.registerWrite true addr w) s = .next (s.respond false)) ∧
  (∀ s addr w r i, cfgOff addr < 0x80000 → findReg (cfgOff addr) = some (r, i) → presentIdx r.pres i = true →
    s.answers (r.at i) r i = false ∨ (heldBlock (r.at i) = true ∧ s.holding = true) →
    exec (.registerWrite true addr w) s = .next (s.respond true)) ∧
  (∀ s addr w r i, cfgOff addr < 0x80000 → findReg (cfgOff addr) = some (r, i) → presentIdx r.pres i = true →
    s.answers (r.at i) r i = true → (heldBlock (r.at i) && s.holding) = false → s.rst.warm = true → r.dom ≠ .cold →
    exec (.registerWrite true addr w) s = .next (s.respond false)) ∧
  (∀ s addr w, cfgOff addr < 0x80000 → findReg (cfgOff addr) = none → s.rst.cold = false →
    exec (.registerWrite true addr w) s = .next (s.respond false))

/-- A 32-bit read with privilege of the low word of a pair whose island answers returns the low word and latches the high
word; a read of the high word returns the latched word; a 64-bit read returns both words and leaves the shadow; no
read changes anything but the shadow and the response. A 64-bit write is the lower word's write, then the higher
word's, and is refused when either is. (R14, R18, R548, R550) -/
def Obligations.ReadShadowsOfPairs : Prop :=
  (∀ s addr r i, findReg (cfgOff addr) = some (r, i) → presentIdx r.pres i = true → isPairLo r = true →
    (s.readWord true (cfgOff addr)).2 = false → Completes (.readShadowLatch true false addr) s fun t =>
      t.rsp = { err := false, data := (s.readWord true (cfgOff addr)).1.setWidth 64 } ∧
      Tab.get 0 t.shadow (cfgOff addr) = (s.readWord true (cfgOff addr + 4)).1 ∧
      { t with shadow := s.shadow, rsp := s.rsp } = s) ∧
  (∀ s addr r i, findReg (cfgOff addr) = some (r, i) → presentIdx r.pres i = true → isPairLo r = false → isPairHi r = true →
    (s.readWord true (cfgOff addr)).2 = false → Completes (.readShadowLatch true false addr) s fun t =>
      t.rsp = { err := false, data := (Tab.get 0 s.shadow (cfgOff addr - 4)).setWidth 64 } ∧ { t with rsp := s.rsp } = s) ∧
  (∀ s priv addr, cfgOff addr % 8 = 0 → Completes (.readShadowLatch priv true addr) s fun t =>
      t.rsp.data = (s.readWord priv (cfgOff addr + 4)).1 ++ (s.readWord priv (cfgOff addr)).1 ∧ { t with rsp := s.rsp } = s) ∧
  (∀ s priv addr (w : Word64), cfgOff addr % 8 = 0 → cfgOff addr < 0x80000 → (∀ r i, findReg (cfgOff addr) = some (r, i) →
      r.off ≠ 0x01100 ∧ r.off ≠ 0x70010) → Completes (.cfg64bitWrite priv addr w) s fun t =>
      { t with rsp := s.rsp } = { (s.write32 priv (cfgOff addr) (w.setWidth 32)).write32 priv (cfgOff addr + 4)
          ((w >>> 32).setWidth 32) with rsp := s.rsp } ∧
      t.rsp.err = ((s.write32 priv (cfgOff addr) (w.setWidth 32)).rsp.err ||
        ((s.write32 priv (cfgOff addr) (w.setWidth 32)).write32 priv (cfgOff addr + 4) ((w >>> 32).setWidth 32)).rsp.err))

/-- A seam code error is reported as row 0x06, the word waits for its one resend, and no word of the seam is taken
meanwhile. A word of a seam whose layout the spec gives (a grant, an allowance, a report, a unit message) is in flight
again after a good resend; another is delivered, held while the island is stopped, or flushed where its domain is off.
A second failure is reported as row 0x07 and the word is lost. Stopping an island stamps its hang ring; a restart
writes the gap, clears the stop, and the seams into it hold nothing. (Which words are in flight as data: log entry
106.) (R26, R27, R28, R30, R31, R40, R510, R511) -/
def Obligations.SeamsAndIslands : Prop :=
  (∀ s src dst unit w, s.rst.cold = false → seamOk src dst unit = true → (s.seam (seamKey src dst unit)).retry = none →
    s.onSeam src dst unit w = true → Completes (.seamCodeError src dst unit w) s fun t =>
      (t.seam (seamKey src dst unit)).retry = some w ∧ t.reported 0x06 dst ∧ ∀ a b u, t.inFlight a b u = s.inFlight a b u) ∧
  (∀ s n, s.seamFree 1 2 n = false → exec (.grantReceive n) s = .next s) ∧
  (∀ s c, s.seamFree 1 2 (0x400 + c) = false → exec (.rampAllowanceReceive c) s = .next s) ∧
  (∀ s n, s.seamFree 2 1 n = false → exec (.demandReport n) s = .next s) ∧
  (∀ s n w pf, s.seamFree 5 2 n = false → exec (.unitMessage ⟨n, pf⟩ w) s = .next s) ∧
  (∀ s src dst unit w, (s.seam (seamKey src dst unit)).retry = some w → (s.inFlight src dst unit).isSome = true →
    exec (.seamResend src dst unit true) s =
      .next (s.setSeam (seamKey src dst unit) { s.seam (seamKey src dst unit) with retry := none })) ∧
  (∀ s src dst unit w, (s.seam (seamKey src dst unit)).retry = some w → s.inFlight src dst unit = none →
    (∀ d, islandDomain dst unit = some d → s.f F.PWRd_STATUS_STEP d ≠ 7) → (s.island dst unit).stopped = false →
    Completes (.seamResend src dst unit true) s fun t => (t.seam (seamKey src dst unit)).retry = none ∧
      (t.seam (seamKey src dst unit)).delivered = [w] ∧ { t with seams := s.seams, crd := s.crd } = s) ∧
  (∀ s src dst unit w, (s.seam (seamKey src dst unit)).retry = some w → s.inFlight src dst unit = none →
    (∀ d, islandDomain dst unit = some d → s.f F.PWRd_STATUS_STEP d ≠ 7) → (s.island dst unit).stopped = true →
    Completes (.seamResend src dst unit true) s fun t => (t.seam (seamKey src dst unit)).retry = none ∧
      (t.seam (seamKey src dst unit)).held = (s.seam (seamKey src dst unit)).held ++ [w] ∧ { t with seams := s.seams } = s) ∧
  (∀ s src dst unit w d, (s.seam (seamKey src dst unit)).retry = some w → s.inFlight src dst unit = none →
    islandDomain dst unit = some d → s.f F.PWRd_STATUS_STEP d = 7 →
    Completes (.seamResend src dst unit true) s fun t => (t.seam (seamKey src dst unit)).retry = none ∧
      (t.seam (seamKey src dst unit)).flushed = (s.seam (seamKey src dst unit)).flushed + 1 ∧ { t with seams := s.seams } = s) ∧
  (∀ s src dst unit w, (s.seam (seamKey src dst unit)).retry = some w →
    Completes (.seamResend src dst unit false) s fun t => (t.seam (seamKey src dst unit)).retry = none ∧ t.reported 0x07 dst ∧
      (src = 1 → dst = 2 → t.inFlight 1 2 unit = (s.inFlight 1 2 unit).map List.tail) ∧
      (src = 2 → dst = 1 → (t.station unit).report = none)) ∧
  (∀ s isl unit, s.rst.cold = false → islandOk isl unit = true → isl ≠ 0 → (s.island isl unit).stopped = false →
    Completes (.islandStop isl unit) s fun t => (t.island isl unit).stopped = true ∧ (t.island isl unit).stopAt = s.now ∧
      t.hangTop (islandRing isl unit) = some { t := s.now, code := 0xFE, arg := 0 } ∧
      { t with islands := s.islands, trc := s.trc } = s) ∧
  (∀ s isl unit, s.rst.cold = false → islandOk isl unit = true → (s.island isl unit).stopped = true →
    Completes (.islandRestart isl unit) s fun t => (t.island isl unit).stopped = false ∧
      t.hangTop (islandRing isl unit) = some { t := s.now, code := 0xFF, arg := 0 } ∧
      ∀ src < 8, (t.seam (seamKey src isl unit)).held = [])

/-- A trim beyond 8,589,935 units is clamped and TRIM_CLAMPED set. A step is pending after its write (refused while
ON_OSC); a write while one is pending draws an error and changes nothing; the step is applied at one tick. When REFCLK
is lost the line completes the ten phases of its last period; the loss sets ON_OSC and REFCLK_LOST, clears REFCLK_OK
and is reported as row 0x0A. Its return clears ON_OSC and moves no count. (The phases start from the first after each:
the model's choice, log entry 25.) (R33, R34, R35, R574, R575) -/
def Obligations.TimeBaseCommands : Prop :=
  (∀ s w, s.portTakes R.TIME_TRIM 0 = true → Completes (.timeTrimWrite true w) s fun t =>
      t.rd R.TIME_TRIM = BitVec.ofInt 32 (clampInt (-8589935) 8589935 w.toInt) ∧ t.rsp.err = false ∧ t.time = s.time ∧
      (w.toInt < -8589935 ∨ 8589935 < w.toInt → t.on F.TIME_STATUS_TRIM_CLAMPED = true) ∧
      (-8589935 ≤ w.toInt ∧ w.toInt ≤ 8589935 → t.on F.TIME_STATUS_TRIM_CLAMPED = s.on F.TIME_STATUS_TRIM_CLAMPED)) ∧
  (∀ s w, s.portTakes R.TIME_STEP 0 = true → s.f F.TIME_STEP_STATUS = 1 →
    exec (.timeStepWrite true w) s = .next (s.respond true)) ∧
  (∀ s w, s.portTakes R.TIME_STEP 0 = true → s.f F.TIME_STEP_STATUS ≠ 1 → Completes (.timeStepWrite true w) s fun t =>
      t.f F.TIME_STEP_STATUS = (if s.on F.TIME_STATUS_ON_OSC then 3 else 1) ∧ t.f F.TIME_STEP_STEP_NS = w.toNat % 2 ^ 30 ∧
      t.rsp.err = false ∧ { t with regs := s.regs, rsp := s.rsp } = s) ∧
  (∀ s, s.rst.cold = false → s.started = true → s.f F.TIME_STEP_STATUS = 1 → Completes .timeStepApply s fun t =>
      t.time.count = s.time.count + BitVec.ofNat 64 (s.f F.TIME_STEP_STEP_NS + 1) ∧ t.f F.TIME_STEP_STATUS = 2) ∧
  (∀ s, s.rst.cold = false → s.on F.TIME_STATUS_ON_OSC = false → Completes .refclkLost s fun t =>
      t.on F.TIME_STATUS_ON_OSC = true ∧ t.on F.TIME_STATUS_REFCLK_LOST = true ∧ t.on F.GOV_BOOT_REFCLK_OK = false ∧
      t.reported 0x0A 0 ∧ t.time.count = (s.ticks (9 - s.time.phase)).time.count ∧
      t.time.boot = (s.ticks (9 - s.time.phase)).time.boot ∧ t.time.phase = 0) ∧
  (∀ s, s.rst.cold = false → s.on F.TIME_STATUS_ON_OSC = true → Completes .refclkRestored s fun t =>
      t.on F.TIME_STATUS_ON_OSC = false ∧ t.on F.GOV_BOOT_REFCLK_OK = true ∧ t.time.count = s.time.count ∧
      t.on F.TIME_STATUS_REFCLK_LOST = s.on F.TIME_STATUS_REFCLK_LOST)

/-- A posted token joins the queue with its cost while fewer than 8 are held, and a full queue takes none; posted while
the core's domain is on its way between states, with LINK_WAKE on, it also asks for the domain's wake (R339, R342: the
ON target joins the pending slot). A malformed head is dropped, answered REJECT and reported as row 0x40; a stale head
is dropped, answered REJ_STALE and counted, with no fault event. A completion ends the oldest running tile. (R61, R65,
R66, R67, R339, R342, R553) -/
def Obligations.StationTokens : Prop :=
  (∀ s n tok, s.coreUp n = true → (s.station n).queue.length < 8 →
    (s.domStep n = 0 ∨ s.on F.PWRd_CTRL_LINK_WAKE n = false) → Completes (.tokenPost n tok) s fun t =>
      (t.station n).queue = (s.station n).queue ++ [{ raw := tok, cost := s.costOf n tok }] ∧
      (∀ m, m ≠ n → t.station m = s.station m) ∧ { t with crd := s.crd } = s) ∧
  (∀ s n tok, 8 ≤ (s.station n).queue.length → exec (.tokenPost n tok) s = .next s) ∧
  (∀ s n tk, s.head n = some tk → s.coreUp n = true → s.malformed n tk.raw = true → Completes (.tokenReject n) s fun t =>
      (t.station n).queue = (s.station n).queue.tail ∧ (t.station n).answer = 2 ∧ t.reported 0x40 n ∧
      t.bucket n 0 = s.bucket n 0 ∧ t.bucket n 1 = s.bucket n 1) ∧
  (∀ s n tk, s.head n = some tk → s.coreUp n = true → s.malformed n tk.raw = false → s.staleTok n tk.raw = true →
    Completes (.tokenStaleReject n) s fun t => (t.station n).queue = (s.station n).queue.tail ∧ (t.station n).answer = 3 ∧
      t.f F.CRDSn_STATUS_STALE_CNT n = (s.f F.CRDSn_STATUS_STALE_CNT n + 1) % 256 ∧
      { t with regs := s.regs, crd := s.crd, trc := s.trc } = s) ∧
  (∀ s n, s.coreUp n = true → Completes (.tileDone n) s fun t => (t.station n).running = (s.station n).running.tail ∧
      (∀ m, m ≠ n → t.station m = s.station m) ∧ { t with crd := s.crd } = s) ∧
  (∀ s n tok, s.coreUp n = true → (s.station n).queue.length < 8 → s.domStep n ≠ 0 → s.vgov = true → s.rst.warm = false →
    s.on F.PWRd_CTRL_LINK_WAKE n = true → Completes (.tokenPost n tok) s fun t =>
      (t.station n).queue = (s.station n).queue ++ [{ raw := tok, cost := s.costOf n tok }] ∧ t.domPending n = 0 ∧
      t.f F.PWRd_CTRL_REQ_STATUS n = 1 ∧ t.domStep n = s.domStep n ∧ (∀ m, m ≠ n → t.station m = s.station m) ∧
      { t with regs := s.regs, crd := s.crd, pwr := s.pwr, eye := s.eye } = s)

/-- When every condition of R70 holds for the head token: the tile runs, the station answers ADMIT, the window spend grows
by its cost, and, with EN at 1, the cluster's pool gives its ramp tokens. With EN at 1 and outside the dummy class,
the bucket pays the cost, or is emptied with the shortfall noted where the cost exceeds the cap. (R70, R71, R72, R88,
R473) -/
def Obligations.TileAdmission : Prop :=
  ∀ s n idle rivals tk, s.head n = some tk → s.coreUp n = true → s.f F.PWRd_STATUS_STEP n = 0 →
  (s.coreCycles n idle).whyStall n tk rivals = .none →
  Completes (.tileAdmit ⟨n, idle, rivals⟩) s fun t => (∀ m, m ≠ n → t.station m = s.station m) ∧ (t.station n).queue = (s.station n).queue.tail ∧
    (t.station n).running = (s.station n).running ++ [tk] ∧ (t.station n).answer = 1 ∧
    (t.station n).x = (s.station n).x + tk.cost ∧ t.on F.CRDSn_STATUS_STALLED n = false ∧
    (s.on F.CRD_CTRL_EN = true → (t.cluster (clusterOf n)).pool = (s.cluster (clusterOf n)).pool - rampNeed (s.station n) tk.cost) ∧
    (s.on F.CRD_CTRL_EN = true → isDummy tk = false → tk.cost ≤ s.capOf n →
      t.bucket n (tokPart tk.raw) = s.bucket n (tokPart tk.raw) - tk.cost ∧ (t.station n).shortfall = (s.station n).shortfall) ∧
    (s.on F.CRD_CTRL_EN = true → isDummy tk = false → s.capOf n < tk.cost → t.bucket n (tokPart tk.raw) = 0 ∧
      (t.station n).shortfall = min ((s.station n).shortfall + (tk.cost - s.capOf n)) 65535) ∧
    (s.on F.CRD_CTRL_EN = false ∨ isDummy tk = true → t.bucket n 0 = s.bucket n 0 ∧ t.bucket n 1 = s.bucket n 1)

/-- For a head token that fails the clamp gate, the class, the ramp or the credit condition first, the station's counter
of that reason and the chip's LOST counter grow by 1, STALLED reads 1, and the counters of the other reasons and the
queue are as before. (R73) -/
def Obligations.StallCyclesCountOneReason : Prop :=
  ∀ s n idle rivals tk (r lo hi : Reg), s.head n = some tk → s.coreUp n = true →
  ((s.coreCycles n idle).whyStall n tk rivals = .clamp ∧ r = R.CRDSn_STALL_CLAMP ∧ lo = R.CRD_LOST_CLAMP_LO ∧ hi = R.CRD_LOST_CLAMP_HI) ∨
  ((s.coreCycles n idle).whyStall n tk rivals = .other ∧ r = R.CRDSn_STALL_OTHER ∧ lo = R.CRD_LOST_OTHER_LO ∧ hi = R.CRD_LOST_OTHER_HI) ∨
  ((s.coreCycles n idle).whyStall n tk rivals = .ramp ∧ r = R.CRDSn_STALL_RAMP ∧ lo = R.CRD_LOST_RAMP_LO ∧ hi = R.CRD_LOST_RAMP_HI) ∨
  ((s.coreCycles n idle).whyStall n tk rivals = .credit ∧ r = R.CRDSn_STALL_CREDIT ∧ lo = R.CRD_LOST_CREDIT_LO ∧ hi = R.CRD_LOST_CREDIT_HI) →
  Completes (.stallCycle ⟨n, idle, rivals⟩) s fun t => t.rd r n = s.rd r n + 1 ∧ t.pair lo hi = (s.pair lo hi + 1) % 2 ^ 64 ∧
    t.on F.CRDSn_STATUS_STALLED n = true ∧ (t.station n).queue = (s.station n).queue ∧
    (∀ q ∈ [R.CRDSn_STALL_CLAMP, R.CRDSn_STALL_OTHER, R.CRDSn_STALL_RAMP, R.CRDSn_STALL_CREDIT], q.off ≠ r.off →
      t.rd q n = s.rd q n) ∧ { t with regs := s.regs, crd := s.crd } = s

/-- At its boundary an awake station sends the two-word report of what it spent and lacked, with the tag of the epoch, and
starts the epoch with nothing spent; a station whose clock stands still sends none, and its JOB and SPLIT are in force
all the same. (EPOCH_TAG is that of the epoch that begins: the model's choice, log entry 109.) The Clicker takes the
report, adds its shortfall to the debt, and charges the spend to an enabled meter, or to CRD_UNMETERED. (R75, R76,
R80, R107) -/
def Obligations.DemandReports : Prop :=
  (∀ s n, s.coreUp n = true → s.f F.PWRd_STATUS_STEP n = 0 → s.due 1 n 1000 0 = true → Completes (.epochBoundaryReport n) s fun t =>
      (t.station n).report.map Prod.fst = some (reportA (t.bucket n 0) (t.bucket n 1) (s.station n).stalled (t.roleEpoch n)
        (s.epoch % 64) (t.station n).split (s.station n).stale) ∧
      (∃ ret, ret ≤ 65535 ∧ (t.station n).report.map Prod.snd = some (reportB ret (min (s.station n).spent 65535) (s.station n).job
        (min (s.station n).stretches 255) (s.station n).shortfall)) ∧
      (t.station n).spent = 0 ∧ (t.station n).stalled = 0 ∧ (t.station n).shortfall = 0 ∧ (t.station n).reported = true ∧
      (t.station n).job = s.f F.CRDSn_ROLE_JOB n) ∧
  (∀ s n, n < Config.coreCount → s.dieUp = true → s.coreUp n = false → s.due 1 n 1000 0 = true →
    Completes (.epochBoundaryReport n) s fun t => (t.station n).report = (s.station n).report ∧
      (t.station n).job = s.f F.CRDSn_ROLE_JOB n ∧ (t.station n).split = s.on F.CRDSn_CFG_SPLIT n ∧
      t.on F.CRDSn_ROLE_PENDING n = false) ∧
  (∀ s n r, (s.station n).report = some r → n < Config.coreCount → s.dieUp = true → s.seamFree 2 1 n = true → Tab.get 0 s.crd.jobClear (repJob r) = 0 →
    Completes (.demandReport n) s fun t => (t.station n).report = none ∧ (t.click n).report = some r ∧
      t.f F.CRDSn_STATUS_DEBT n = min (s.f F.CRDSn_STATUS_DEBT n + repDebt r) 65535 ∧
      (s.on F.JOBm_CTRL_EN (repJob r) = true → t.pair R.JOBm_EC_LO R.JOBm_EC_HI (repJob r) =
        (s.pair R.JOBm_EC_LO R.JOBm_EC_HI (repJob r) + repSpent r) % 2 ^ 64) ∧
      (s.on F.JOBm_CTRL_EN (repJob r) = false → t.pair R.CRD_UNMETERED_LO R.CRD_UNMETERED_HI =
        (s.pair R.CRD_UNMETERED_LO R.CRD_UNMETERED_HI + repSpent r) % 2 ^ 64))

/-- For every list of entrants whose grants stand at 0 where they want credit, and every pool: after the four classes are
filled, the grants added and what is left of the pool make up the pool; no entrant is granted more than it wants; and
an entrant of a class receives its whole want whenever any entrant of a lower class receives anything. (R80) -/
def Obligations.RefillCreatesNoCredit : Prop :=
  ∀ (l : List Entrant) (pool : Nat), (∀ e ∈ l, e.cls < 4 ∧ (0 < e.want → e.grant = 0)) →
  ((fillClasses l 4 pool).1.map (·.grant)).sum + (fillClasses l 4 pool).2 = pool + (l.map (·.grant)).sum ∧
  (fillClasses l 4 pool).1.length = l.length ∧
  (∀ e ∈ (fillClasses l 4 pool).1, 0 < e.want → e.grant ≤ e.want) ∧
  (∀ e ∈ (fillClasses l 4 pool).1, ∀ e' ∈ (fillClasses l 4 pool).1, e'.cls < e.cls → 0 < e'.want → 0 < e'.grant →
    0 < e.want → e.grant = e.want)

/-- Once per epoch, with the count started. With EN at 1 outside safe state: the pool is the budget less the reserves,
plus float and reclaimed credit, less the deficit; the four classes are filled from it; every entrant pays its debt
from its grant and the rest, divided by R82, is the grant word sent to it, and no other station is sent one; what is
left is the float, up to FLOAT_MAX. In safe state every entrant is sent its floor grant, float and deficit are 0 and
FROZEN is 1. With EN at 0 no grant is sent. During a die reset the refresh reserve alone is updated. No bucket
changes. A second refill in the same epoch changes nothing. (R63, R74, R77, R78, R80, R82, R84, R314) -/
def Obligations.ClickerRefill : Prop :=
  (∀ s, s.dieUp = true → s.started = true → s.crd.refilled < s.epoch + 1 → s.on F.CRD_CTRL_EN = true → s.safe = false →
    Completes .clickerRefill s fun t =>
      ∃ (pool held : Nat) (q : List Entrant × Nat),
        pool = ((s.crd.budget * 8 : Nat) - (s.f F.CRD_RESERVE_RESERVE + t.f F.THM_REF_RSV_RSV) * 16 + s.crd.float - s.crd.deficit
          + s.reclaimed : Int).toNat ∧
        held = (s.entrants.map (fun e => e.held.getD 0)).sum ∧ q = fillClasses s.entrants 4 (pool - held) ∧
        t.crd.float = min q.2 (s.f F.CRD_FLOAT_FLOAT_MAX * 16) ∧ t.crd.deficit = held - pool ∧
        (∀ e ∈ q.1, t.f F.CRDSn_STATUS_DEBT e.n = s.f F.CRDSn_STATUS_DEBT e.n - min e.grant (s.f F.CRDSn_STATUS_DEBT e.n) ∧
          (t.station e.n).grants = (s.station e.n).grants ++ [grantWord (repRole e.r) (s.epoch % 64) (repSplit e.r) false
            (s.divideGrant e (e.grant - min e.grant (s.f F.CRDSn_STATUS_DEBT e.n))).1
            (s.divideGrant e (e.grant - min e.grant (s.f F.CRDSn_STATUS_DEBT e.n))).2]) ∧
        q.1.map (·.n) = allCores.filter (fun n => s.entrant n) ∧
        (∀ n, s.entrant n = false ∨ Config.coreCount ≤ n → (t.station n).grants = (s.station n).grants) ∧
        (∀ n, (t.click n).report = none) ∧ (∀ n p, t.bucket n p = s.bucket n p) ∧
        t.crd.refilled = s.epoch + 1 ∧ t.on F.CRD_CTRL_FROZEN = false) ∧
  (∀ s, s.dieUp = true → s.started = true → s.crd.refilled < s.epoch + 1 → s.on F.CRD_CTRL_EN = true → s.safe = true →
    Completes .clickerRefill s fun t =>
      (∀ e ∈ s.entrants, ∃ g, g = min (s.f F.CRD_FLOOR_FLOOR) (s.entrantCap e.n e.r - (repU0 e.r + repU1 e.r)) ∧
        (t.station e.n).grants = (s.station e.n).grants ++ [grantWord (repRole e.r) (s.epoch % 64) (repSplit e.r) true
          (s.divideGrant e g).1 (s.divideGrant e g).2]) ∧
      (∀ n, s.entrant n = false ∨ Config.coreCount ≤ n → (t.station n).grants = (s.station n).grants) ∧
      t.crd.float = 0 ∧ t.crd.deficit = 0 ∧ (∀ n, (t.click n).report = none) ∧ (∀ n p, t.bucket n p = s.bucket n p) ∧
      t.crd.refilled = s.epoch + 1 ∧ t.on F.CRD_CTRL_FROZEN = true) ∧
  (∀ s, s.dieUp = true → s.started = true → s.crd.refilled < s.epoch + 1 → s.on F.CRD_CTRL_EN = false →
    Completes .clickerRefill s fun t => t.crd.refilled = s.epoch + 1 ∧ t.on F.CRD_CTRL_FROZEN = s.safe ∧
      (∀ n, t.station n = s.station n) ∧ (∀ n, (t.click n).report = none) ∧ (∀ n p, t.bucket n p = s.bucket n p)) ∧
  (∀ s, s.dieUp = false → s.started = true → s.crd.refilled < s.epoch + 1 → Completes .clickerRefill s fun t =>
    t.crd.refilled = s.epoch + 1 ∧ (∀ n, t.station n = s.station n ∧ t.click n = s.click n) ∧
      (∀ q j, q.at j ≠ R.THM_REF_RSV.at 0 → t.rd q j = s.rd q j)) ∧
  (∀ s, s.crd.refilled = s.epoch + 1 → exec .clickerRefill s = .next s)

/-- The oldest grant word in flight to a running station: with the current role epoch and epoch tag it adds to the bucket,
or its two parts to the sub-buckets, each held at its cap, the excess returning at the next boundary; otherwise it is
counted, the buckets keep their balance, and the amount returns marked stale. Either way the word is gone and the
later ones stay in flight, and no other station changes. (R28, R82, R83) -/
def Obligations.GrantsReachStations : Prop :=
  ∀ s n w rest, (s.station n).grants = w :: rest → s.coreUp n = true → s.seamFree 1 2 n = true →
  (w.toNat / 2 ^ 54 % 256 = s.roleEpoch n → w.toNat / 2 ^ 48 % 64 = s.epoch % 64 → (s.station n).reported = true →
    (s.station n).split = false → 0 < w.toNat % 65536 + w.toNat / 65536 % 65536 → Completes (.grantReceive n) s fun t =>
      (t.station n).grants = rest ∧ (∀ m, m ≠ n → t.station m = s.station m) ∧
      t.bucket n 0 = min (s.bucket n 0 + (w.toNat % 65536 + w.toNat / 65536 % 65536)) (s.cap n) ∧
      (t.station n).toReturn = (s.station n).toReturn +
        (s.bucket n 0 + (w.toNat % 65536 + w.toNat / 65536 % 65536) - s.cap n)) ∧
  (w.toNat / 2 ^ 54 % 256 = s.roleEpoch n → w.toNat / 2 ^ 48 % 64 = s.epoch % 64 → (s.station n).reported = true →
    (s.station n).split = true → 0 < w.toNat % 65536 → 0 < w.toNat / 65536 % 65536 → Completes (.grantReceive n) s fun t =>
      (t.station n).grants = rest ∧ t.bucket n 0 = min (s.bucket n 0 + w.toNat % 65536) (s.cap n / 2) ∧
      t.bucket n 1 = min (s.bucket n 1 + w.toNat / 65536 % 65536) (s.cap n / 2) ∧
      (t.station n).toReturn = (s.station n).toReturn + (s.bucket n 0 + w.toNat % 65536 - s.cap n / 2)
        + (s.bucket n 1 + w.toNat / 65536 % 65536 - s.cap n / 2)) ∧
  (w.toNat / 2 ^ 54 % 256 = s.roleEpoch n → w.toNat / 2 ^ 48 % 64 = s.epoch % 64 → (s.station n).reported = true →
    w.toNat % 65536 = 0 → w.toNat / 65536 % 65536 = 0 → Completes (.grantReceive n) s fun t =>
      (t.station n).grants = rest ∧ t.bucket n 0 = s.bucket n 0 ∧ t.bucket n 1 = s.bucket n 1 ∧
      (t.station n).toReturn = (s.station n).toReturn) ∧
  (w.toNat / 2 ^ 54 % 256 ≠ s.roleEpoch n ∨ w.toNat / 2 ^ 48 % 64 ≠ s.epoch % 64 ∨ (s.station n).reported = false →
    Completes (.grantReceive n) s fun t => (t.station n).grants = rest ∧ t.bucket n 0 = s.bucket n 0 ∧
      t.bucket n 1 = s.bucket n 1 ∧ (t.station n).stale = true ∧ (∀ m, m ≠ n → t.station m = s.station m) ∧
      (t.station n).toReturn = (s.station n).toReturn + (w.toNat % 65536 + w.toNat / 65536 % 65536) ∧
      t.f F.CRD_STALE_COUNT_GRANT = (s.f F.CRD_STALE_COUNT_GRANT + 1) % 65536)

/-- The allowance and pacing of the next window are sent once. The oldest word in flight leaves it: tagged with the
present window it sets the pool and what CRDCc_STATUS shows, tagged with the next one it waits for it, any other is
dropped. At the start of a window the pool is the allowance that waits for it, or empty where none arrived, and each
station of the cluster starts with nothing spent and its base from its last two windows. No other cluster and, but for
the window start, no station changes. (R28, R86, R87, R88, R90, R92) -/
def Obligations.RampTokens : Prop :=
  (∀ s c, c < Config.clusterCount → s.dieUp = true → s.started = true → (s.cluster c).forWindow < s.window + 2 →
    Completes (.rampAllowanceCompute c) s fun t =>
      (t.cluster c).words = (s.cluster c).words ++ [rampWord ((s.window + 1) % 256) (s.paceAfter c (s.allowance c)).1 (s.allowance c)] ∧
      (t.cluster c).pace = (s.paceAfter c (s.allowance c)).1 ∧ (t.cluster c).paceRun = (s.paceAfter c (s.allowance c)).2 ∧
      (t.cluster c).forWindow = s.window + 2 ∧ (t.cluster c).pool = (s.cluster c).pool ∧
      (∀ d, d ≠ c → t.cluster d = s.cluster d) ∧ ∀ n, t.station n = s.station n) ∧
  (∀ s c, s.window + 2 ≤ (s.cluster c).forWindow → exec (.rampAllowanceCompute c) s = .next s) ∧
  (∀ s c w rest, (s.cluster c).words = w :: rest → c < Config.clusterCount → s.dieUp = true → s.seamFree 1 2 (0x400 + c) = true →
    Completes (.rampAllowanceReceive c) s fun t =>
      (t.cluster c).words = rest ∧
      (w.toNat / 2 ^ 48 % 256 = s.window % 256 → (t.cluster c).pool = w.toNat % 65536 ∧
        t.f F.CRDCc_STATUS_ALLOW c = w.toNat % 65536 ∧ t.f F.CRDCc_STATUS_PACE_EFF c = w.toNat / 2 ^ 18 % 4 ∧
        (t.cluster c).next = (s.cluster c).next) ∧
      (w.toNat / 2 ^ 48 % 256 ≠ s.window % 256 → (t.cluster c).pool = (s.cluster c).pool ∧ t.regs = s.regs ∧
        (t.cluster c).next = (if w.toNat / 2 ^ 48 % 256 = (s.window + 1) % 256 then
          some (w.toNat / 2 ^ 48 % 256, w.toNat % 65536, w.toNat / 2 ^ 18 % 4) else (s.cluster c).next)) ∧
      (∀ d, d ≠ c → t.cluster d = s.cluster d) ∧ ∀ n, t.station n = s.station n) ∧
  (∀ s c, c < Config.clusterCount → s.dieUp = true → s.due 2 c 100 0 = true → Completes (.rampWindowStart c) s fun t =>
      (∀ n, clusterOf n = c → t.station n = (s.station n).newWindow (s.f F.CRD_RAMP_RAMP_FREE)) ∧
      (∀ n, clusterOf n ≠ c → t.station n = s.station n) ∧ (t.cluster c).next = none ∧
      (t.cluster c).words = (s.cluster c).words ∧ (∀ d, d ≠ c → t.cluster d = s.cluster d) ∧
      ∀ a p, (a, p) = (match (s.cluster c).next with
        | some (tag, a, p) => if tag = s.window % 256 then (a, p) else (0, s.f F.CRDCc_STATUS_PACE_EFF c)
        | none => (0, s.f F.CRDCc_STATUS_PACE_EFF c)) →
      (t.cluster c).pool = a ∧ t.f F.CRDCc_STATUS_ALLOW c = a % 65536 ∧ t.f F.CRDCc_STATUS_PACE_EFF c = p % 4) ∧
  (∀ s c, s.due 2 c 100 0 = false → exec (.rampWindowStart c) s = .next s)

/-- A source that has its cause asserts and raises the line and its sticky bit, and restarts the hold; the line is
released when no source is asserted and HOLD_US has passed, and not before; FORCE of CRD_CLAMP is a source. (R94, R96,
R97) -/
def Obligations.ToeCapClamp : Prop :=
  (∀ s bit unit, s.clampCause bit unit = true → Completes (.clampSourceAssert bit unit) s fun t => t.clamped = true ∧
      t.clampSrc bit unit = true ∧ t.crd.clampOff = none ∧ t.bitf ⟨R.CRD_CLAMP_STATUS, 0, 6⟩ 0 bit = true ∧
      (s.clamped = false → t.rd R.CRD_CLAMP_COUNT = s.rd R.CRD_CLAMP_COUNT + 1)) ∧
  (∀ s bit unit, s.clampCause bit unit = false → exec (.clampSourceAssert bit unit) s = .next s) ∧
  (∀ s u, s.crd.clampOff = some u → s.clamped = true → s.clampAny = false → s.passed u (s.f F.CRD_CLAMP_HOLD_US * 1000) = true →
    Completes .clampRelease s fun t => t.clamped = false ∧ t.crd.clampOff = none) ∧
  (∀ s, s.clampAny = true ∨ s.crd.clampOff = none ∨
      (∃ u, s.crd.clampOff = some u ∧ s.passed u (s.f F.CRD_CLAMP_HOLD_US * 1000) = false) → exec .clampRelease s = .next s) ∧
  (∀ s w, s.portTakes R.CRD_CLAMP 0 = true → w.getLsbD 31 = true → Completes (.clampForceWrite true w) s fun t =>
      t.clampSrc 5 0 = true ∧ (s.clampSrc 5 0 = false → t.clamped = true) ∧ t.rsp.err = false) ∧
  (∀ s w, s.portTakes R.CRD_CLAMP 0 = true → w.getLsbD 31 = false → Completes (.clampForceWrite true w) s fun t =>
      t.clampSrc 5 0 = false ∧ t.clamped = s.clamped ∧ t.rsp.err = false)

/-- A partition fault freezes the partition and is reported as row 0x41, and changes no balance. A 1 written to
PARTp_FROZEN re-admits it with an empty bucket, its balance to be returned, unless the core still signals the fault.
The first new role of an epoch takes effect and counts the role epoch; a further one waits. (R100, R102, R103, R104) -/
def Obligations.PartitionsAndRoles : Prop :=
  (∀ s n p, s.coreUp n = true → p < 2 → Completes (.partitionFault n p) s fun t => t.frozen n p = true ∧ t.reported 0x41 n ∧
      t.bucket n 0 = s.bucket n 0 ∧ t.bucket n 1 = s.bucket n 1 ∧ t.frozen n (1 - p) = s.frozen n (1 - p)) ∧
  (∀ s n pf w, s.portTakes R.CRDSn_STATUS n = true → w.getLsbD 4 = true → w.getLsbD 5 = false → pf % 2 = 0 →
    s.frozen n 0 = true → Completes (.partitionReadmit true n pf w) s fun t => t.frozen n 0 = false ∧ t.bucket n 0 = 0 ∧
      (t.station n).toReturn = (s.station n).toReturn + s.bucket n 0 ∧ t.frozen n 1 = s.frozen n 1 ∧
      t.bucket n 1 = s.bucket n 1 ∧ t.rsp.err = false) ∧
  (∀ s n pf w, s.portTakes R.CRDSn_STATUS n = true → w.getLsbD 4 = true → w.getLsbD 5 = false → pf % 2 = 1 →
    Completes (.partitionReadmit true n pf w) s fun t => t.frozen n 0 = s.frozen n 0 ∧ t.bucket n 0 = s.bucket n 0) ∧
  (∀ s n w, s.portTakes R.CRDSn_ROLE n = true → s.on F.CRDSn_ROLE_PENDING n = false →
    getBits w 8 2 ≠ s.f F.CRDSn_ROLE_ACTIVE_ROLE n → (s.station n).roleChanged = false → Completes (.roleWrite true n w) s fun t =>
      t.f F.CRDSn_ROLE_ACTIVE_ROLE n = getBits w 8 2 ∧ t.roleEpoch n = (s.roleEpoch n + 1) % 256 ∧
      (t.station n).roleChanged = true ∧ t.f F.CRDSn_ROLE_JOB n = getBits w 16 6) ∧
  (∀ s n w, s.portTakes R.CRDSn_ROLE n = true → s.on F.CRDSn_ROLE_PENDING n = false →
    getBits w 8 2 ≠ s.f F.CRDSn_ROLE_ACTIVE_ROLE n → (s.station n).roleChanged = true → Completes (.roleWrite true n w) s fun t =>
      t.f F.CRDSn_ROLE_ACTIVE_ROLE n = s.f F.CRDSn_ROLE_ACTIVE_ROLE n ∧ t.roleEpoch n = s.roleEpoch n ∧
      t.on F.CRDSn_ROLE_PENDING n = true ∧ (t.station n).pendRole = getBits w 8 2)

/-- A unit message of another role epoch changes no setting, is counted stale and answered by a stale notice; a cap,
priority or job message of the present one sets its field, a re-admission frees a frozen partition whose fault is
over; a reserved CODE or TYPE is reported as row 0x47. A 1 in CLEAR of a meter marks the clear as pending and EN takes
the written bit. A cost write sets the addressed entry and, with AUTOINC, moves on. (R69, R105, R106, R108) -/
def Obligations.UnitMessagesMetersAndCosts : Prop :=
  (∀ s n w pf, s.coreUp n = true → s.seamFree 5 2 n = true → s.sag = false → w.toNat / 2 ^ 62 = 2 →
    w.toNat / 2 ^ 54 % 256 ≠ s.roleEpoch n →
    Completes (.unitMessage ⟨n, pf⟩ w) s fun t => t.rd R.CRDSn_CFG n = s.rd R.CRDSn_CFG n ∧ t.rd R.CRDSn_ROLE n = s.rd R.CRDSn_ROLE n ∧
      (t.station n).staleNote = some (w.toNat / 2 ^ 48 % 64, s.roleEpoch n) ∧
      (∀ p, t.bucket n p = s.bucket n p) ∧ (∀ p, t.frozen n p = s.frozen n p) ∧
      t.f F.CRD_STALE_COUNT_MSG = (s.f F.CRD_STALE_COUNT_MSG + 1) % 65536) ∧
  (∀ s n w pf, s.coreUp n = true → s.seamFree 5 2 n = true → s.sag = false → w.toNat / 2 ^ 62 = 2 →
    w.toNat / 2 ^ 54 % 256 = s.roleEpoch n → Completes (.unitMessage ⟨n, pf⟩ w) s fun t =>
      (w.toNat / 2 ^ 48 % 64 = 1 → t.f F.CRDSn_CFG_PRIO n = w.toNat / 4 % 4 ∧ t.f F.CRDSn_CFG_WEIGHT n = w.toNat / 16 % 16) ∧
      (w.toNat / 2 ^ 48 % 64 = 2 → t.f F.CRDSn_ROLE_JOB n = w.toNat / 65536 % 64) ∧
      (w.toNat / 2 ^ 48 % 64 = 3 → t.f F.CRDSn_CFG_CAP n = w.toNat / 2 ^ 20 % 4096) ∧
      (w.toNat / 2 ^ 48 % 64 = 4 → s.frozen n (w.toNat % 2) = true → pf.testBit (w.toNat % 2) = false →
        t.frozen n (w.toNat % 2) = false ∧ t.bucket n (w.toNat % 2) = 0 ∧
        (t.station n).toReturn = (s.station n).toReturn + s.bucket n (w.toNat % 2)) ∧
      (w.toNat / 2 ^ 48 % 64 ≠ 4 → (∀ p, t.bucket n p = s.bucket n p) ∧ ∀ p, t.frozen n p = s.frozen n p) ∧
      t.f F.CRD_STALE_COUNT_MSG = s.f F.CRD_STALE_COUNT_MSG) ∧
  (∀ s n w pf, s.coreUp n = true → s.seamFree 5 2 n = true → s.sag = false → w.toNat / 2 ^ 62 = 2 →
    5 < w.toNat / 2 ^ 48 % 64 ∨ w.toNat / 2 ^ 48 % 64 = 0 → Completes (.unitMessage ⟨n, pf⟩ w) s fun t => t.reported 0x47 n ∧
      t.rd R.CRDSn_CFG n = s.rd R.CRDSn_CFG n ∧ t.rd R.CRDSn_ROLE n = s.rd R.CRDSn_ROLE n) ∧
  (∀ s n w pf, s.coreUp n = true → s.seamFree 5 2 n = true → s.sag = false → w.toNat / 2 ^ 62 = 3 →
    Completes (.unitMessage ⟨n, pf⟩ w) s fun t => t.reported 0x47 n ∧ t.rd R.CRDSn_CFG n = s.rd R.CRDSn_CFG n ∧
      t.rd R.CRDSn_ROLE n = s.rd R.CRDSn_ROLE n ∧ ∀ p, t.bucket n p = s.bucket n p) ∧
  (∀ s n w pf, s.coreUp n = true → s.seamFree 5 2 n = true → s.sag = true →
    s.eye.fw.unitCmds.any (fun u => u.core = n ∧ u.word = w.toNat) = true → Completes (.unitMessage ⟨n, pf⟩ w) s fun t =>
      t.flt.heldOps = s.flt.heldOps ++ [.unitMsg n w.toNat] ∧ t.regs = s.regs) ∧
  (∀ s m w, s.portTakes R.JOBm_CTRL m = true → w.getLsbD 1 = true → Completes (.jobClearWrite true m w) s fun t =>
      t.f F.JOBm_CTRL_STATUS m = 1 ∧ Tab.get 0 t.crd.jobClear m = s.epoch + 1 ∧ t.on F.JOBm_CTRL_EN m = w.getLsbD 0 ∧
      t.pair R.JOBm_EC_LO R.JOBm_EC_HI m = s.pair R.JOBm_EC_LO R.JOBm_EC_HI m) ∧
  (∀ s w, s.portTakes R.CRD_COST_DATA 0 = true → Completes (.costDataWrite true w) s fun t =>
      t.costEntry s.costIndex = w ∧ (∀ k, k ≠ s.costIndex → t.costEntry k = s.costEntry k) ∧
      t.costIndex = (if s.on F.CRD_COST_ADDR_AUTOINC then (s.costIndex + 1) % 2048 else s.costIndex))

/-- At its boundary a cluster's controller reports H (0 while the Welts are off, held at 255) and its current, and EN
takes effect. At 1 µs each sampled cluster has valid needs, a need falls by at most 1 mV, the rail need is that of the
counted cluster whose ceiling need is greatest, plus headroom and nudge, or empty, and every cluster shows its
dissipation. (The first need falls from the set-point in whole mV, and an unlisted cluster dissipates what it last
reported: the model's choices, log entries 118 and 119.) (R113, R114, R115, R117, R118, R119, R126) -/
def Obligations.ClusterVoltageReports : Prop :=
  (∀ s c vrail vout iout drop, s.clusterUp c = true → s.due 3 c 100 0 = true → Completes (.weltHeadroomReport c vrail vout iout drop) s fun t =>
      t.welt.en = s.on F.WELT_CTRL_EN ∧ (t.cluster c).iout = min iout 65535 ∧
      (t.cluster c).h = (if s.on F.WELT_CTRL_EN then min ((vrail - vout - drop) / 16) 255 else 0) ∧
      t.f F.WELTc_STATUS_HEADROOM c = (t.cluster c).h ∧ t.f F.WELTc_POWER_IOUT c = min iout 65535) ∧
  (∀ s l, s.dieUp = true → s.due 4 0 1000 0 = true → Completes (.needUpdate l) s fun t =>
      (∀ i ∈ l, i.c < Config.clusterCount → t.on F.WELTc_STATUS_NEED_VALID i.c = true) ∧
      t.welt.needSent = some (match t.needSetter with
        | none => 0
        | some c => min (t.ceilNeed c + 4 * (t.f F.WELT_CTRL_HEADROOM_MV + t.f F.DRP_NUDGE_NUDGE)) 4095) ∧
      some (t.f F.WELT_RAIL_NEED_NEED) = t.welt.needSent ∧
      ∀ c < Config.clusterCount, t.f F.WELTc_POWER_DISS c = s.dissOf l c) ∧
  (∀ s i, s.dieUp = true → s.due 4 0 1000 0 = true → i.c < Config.clusterCount → s.on F.WELTc_STATUS_NEED_VALID i.c = true →
    Completes (.needUpdate [i]) s fun t => t.needCode i.c 2 = fallNeed (s.needCode i.c 2) (mvCode (needMv i.voutSum
        (s.f F.WELT_CLASS_SLACK_TGT) i.slackW (s.f F.WELT_SENS_SENS_W) (s.f F.WELTc_GUARD_GUARD_W i.c))) ∧
      s.needCode i.c 2 ≤ t.needCode i.c 2 + 4) ∧
  (∀ s i, s.dieUp = true → s.due 4 0 1000 0 = true → i.c < Config.clusterCount → s.on F.WELTc_STATUS_NEED_VALID i.c = false →
    Completes (.needUpdate [i]) s fun t => t.needCode i.c 2 = fallNeed (mvCode (divUp (s.f F.RAILr_SETPT_SETPT) 16)) (mvCode
      (needMv i.voutSum (s.f F.WELT_CLASS_SLACK_TGT) i.slackW (s.f F.WELT_SENS_SENS_W) (s.f F.WELTc_GUARD_GUARD_W i.c))))

/-- A head token wider than the cluster's class and its request makes its class the present one, widening the ceiling at
once, and waits until class-ready is signalled; class-ready is signalled when the output reaches the need less 4 mV,
and not before, or for every class while EN is 0, and then the trip level follows the target; with no request the
class narrows to that of the recent and running tiles; the ceiling narrows to what R125 gives. (R114, R120, R121,
R122, R124, R125, R128) -/
def Obligations.WidthClasses : Prop :=
  (∀ s n tk, s.head n = some tk → s.coreUp n = true →
    max (s.clsNow (clusterOf n)) ((s.weltC (clusterOf n)).reqClass.getD 0) < tk.cls → Completes (.classUpRequest n) s fun t =>
      t.clsNow (clusterOf n) = tk.cls ∧ tk.cls ≤ t.f F.WELTc_STATUS_CEIL_EFF (clusterOf n) ∧ t.station n = s.station n ∧
      (t.classReady (clusterOf n) tk.cls = false → (t.weltC (clusterOf n)).reqClass = some tk.cls ∧
        t.on F.CRDSn_STATUS_CLASS_WAIT n = true ∧ t.on F.WELTc_STATUS_RISING (clusterOf n) = true ∧
        (t.weltC (clusterOf n)).tripClass = (s.weltC (clusterOf n)).tripClass) ∧
      (t.classReady (clusterOf n) tk.cls = true → (t.weltC (clusterOf n)).reqClass = none ∧
        t.on F.CRDSn_STATUS_CLASS_WAIT n = false ∧ t.on F.WELTc_STATUS_RISING (clusterOf n) = false ∧
        (t.weltC (clusterOf n)).tripClass = tk.cls)) ∧
  (∀ s c vout k, s.clusterUp c = true → (s.weltC c).reqClass = some k →
    s.welt.en = false ∨ (k ≤ s.clsNow c ∧ s.need16 c k ≤ vout + 64) →
    Completes (.classReady c vout) s fun t => (t.weltC c).vout = vout ∧ (t.weltC c).reqClass = none ∧
      (t.weltC c).tripClass = k ∧ t.on F.WELTc_STATUS_RISING c = false) ∧
  (∀ s c vout n tk, s.clusterUp c = true → clusterOf n = c → s.head n = some tk →
    Completes (.classReady c vout) s fun t => t.classReady c tk.cls = true → t.on F.CRDSn_STATUS_CLASS_WAIT n = false) ∧
  (∀ s c vout k, s.welt.en = true → (s.weltC c).reqClass = some k → vout + 64 < s.need16 c k →
    Completes (.classReady c vout) s fun t => (t.weltC c).reqClass = some k ∧ (t.weltC c).tripClass = (s.weltC c).tripClass ∧
      t.on F.WELTc_STATUS_RISING c = s.on F.WELTc_STATUS_RISING c) ∧
  (∀ s c, s.clusterUp c = true → (s.weltC c).reqClass = none → s.classOf c < s.clsNow c → Completes (.classExpire c) s fun t =>
      t.clsNow c = s.classOf c ∧ (t.weltC c).tripClass = s.classOf c) ∧
  (∀ s c k, (s.weltC c).reqClass = some k → exec (.classExpire c) s = .next s) ∧
  (∀ s c, s.clusterUp c = true → s.ceilOf c < s.f F.WELTc_STATUS_CEIL_EFF c → Completes (.ceilHoldExpire c) s fun t =>
      t.f F.WELTc_STATUS_CEIL_EFF c = s.ceilOf c ∧ t.f F.WELTc_STATUS_CLASS c = s.f F.WELTc_STATUS_CLASS c ∧
      { t with regs := s.regs } = s)

/-- An unmasked detector's trip restarts the stretch of STRETCH_CYC + 1 cycles, starts a kick and counts; the trip that
exceeds STORM_TRIPS in its epoch puts the cluster in a storm. A stretch loses the generator cycles that have ended
(the operand of STRETCH_END: log entry 122), and a kick ends; a storm ends after STORM_QUIET + 1 quiet epochs; a long
storm raises the clamp; the storm fraction restarts every 100 µs. (R129, R131, R132, R134, R136, R137) -/
def Obligations.DroopTripsAndStorms : Prop :=
  (∀ s n d, s.coreUp n = true → d < 4 → s.bitf F.DRPn_STATUS_STUCK n d = false → s.epoch ≤ (s.weltC (clusterOf n)).tripsEpoch →
    Completes (.droopTrip n d) s fun t => (t.station n).stretchLeft = s.f F.DRP_CTRL_STRETCH_CYC + 1 ∧
      t.f F.DRPn_STATUS_TRIPS n = (s.f F.DRPn_STATUS_TRIPS n + 1) % 65536 ∧
      (t.weltC (clusterOf n)).trips = (s.weltC (clusterOf n)).trips + 1 ∧
      (t.weltC (clusterOf n)).kickUntil = some (s.now + BitVec.ofNat 64 (s.f F.WELT_CTRL_KICK_T * 20)) ∧
      t.pair R.DRP_TRIPS_LO R.DRP_TRIPS_HI = (s.pair R.DRP_TRIPS_LO R.DRP_TRIPS_HI + 1) % 2 ^ 64 ∧
      (s.f F.DRP_STORM_STORM_TRIPS < (s.weltC (clusterOf n)).trips + 1 → t.on F.DRPCc_STATUS_STORM (clusterOf n) = true) ∧
      ((s.weltC (clusterOf n)).trips + 1 ≤ s.f F.DRP_STORM_STORM_TRIPS →
        t.on F.DRPCc_STATUS_STORM (clusterOf n) = s.on F.DRPCc_STATUS_STORM (clusterOf n))) ∧
  (∀ s n cyc, s.coreUp n = true → Completes (.stretchEnd ⟨n, cyc⟩) s fun t =>
      (t.station n).stretchLeft = (s.station n).stretchLeft - cyc ∧ (∀ m, m ≠ n → t.station m = s.station m) ∧ { t with crd := s.crd } = s) ∧
  (∀ s c u, (s.weltC c).kickUntil = some u → s.clusterUp c = true → u.toNat ≤ s.now.toNat → Completes (.kickExpire c) s fun t =>
      (t.weltC c).kickUntil = none ∧ { t with welt := s.welt } = s) ∧
  (∀ s c, s.clusterUp c = true → s.epoch ≤ (s.weltC c).tripsEpoch → s.on F.DRPCc_STATUS_STORM c = true →
    s.f F.DRP_STORM_STORM_QUIET + 1 ≤ (s.weltC c).quiet → Completes (.stormExit c) s fun t =>
      t.on F.DRPCc_STATUS_STORM c = false ∧ (t.weltC c).stormAt = none) ∧
  (∀ s c u, (s.weltC c).stormAt = some u → s.clusterUp c = true →
    max (s.f F.DRP_STORM_STORM_CLAMP_US) 1 * 1000 < s.since u → Completes (.stormClampTimeout c) s fun t =>
      (t.weltC c).stormLong = true ∧ t.on F.DRP_STATUS_CLAMP_REQ = true ∧ t.clampSrc 2 0 = true) ∧
  (∀ s, s.dieUp = true → s.due 5 0 100000 0 = true → Completes .stormFracUpdate s fun t => t.welt.epochs = 0 ∧ t.welt.storms = 0)

/-- A detector that has tripped in every core cycle for 1 µs, its siblings silent, is masked and reported as row 0x42, and
the fourth of a core as row 0x43; writing 1 unmasks it. A current above ILIM_A sets ILIM; after more than 1 µs of it
the cluster's ramp allowance is zeroed and row 0x44 reported; 1 µs below 90 % gives it back. An over-voltage sets OV
and is row 0x45. (R138, R139, R140, R141) -/
def Obligations.DetectorsAndLimits : Prop :=
  (∀ s n d, s.coreUp n = true → d < 4 → s.bitf F.DRPn_STATUS_STUCK n d = false → s.stuckRun n d = true → Completes (.detectorStuck n d) s fun t =>
      t.bitf F.DRPn_STATUS_STUCK n d = true ∧ t.reported 0x42 n ∧ (t.f F.DRPn_STATUS_STUCK n = 15 → t.reported 0x43 n) ∧
      (∀ e, e < 4 → e ≠ d → t.bitf F.DRPn_STATUS_STUCK n e = s.bitf F.DRPn_STATUS_STUCK n e)) ∧
  (∀ s n d, s.stuckRun n d = false → exec (.detectorStuck n d) s = .next s) ∧
  (∀ s n w, s.portTakes R.DRPn_STATUS n = true → Completes (.detectorUnmask true n w) s fun t =>
      (∀ d, d < 4 → t.bitf F.DRPn_STATUS_STUCK n d = (s.bitf F.DRPn_STATUS_STUCK n d && !w.getLsbD (16 + d))) ∧
      t.f F.DRPn_STATUS_TRIPS n = s.f F.DRPn_STATUS_TRIPS n ∧ { t with regs := s.regs, rsp := s.rsp } = s) ∧
  (∀ s c iout, s.clusterUp c = true → s.ilim < iout → s.on F.WELTc_STATUS_ILIM c = false → Completes (.weltIlimStart c iout) s fun t =>
      t.on F.WELTc_STATUS_ILIM c = true ∧ (t.weltC c).ilimAt = some s.now ∧ (t.weltC c).zeroAllow = (s.weltC c).zeroAllow) ∧
  (∀ s c u, (s.weltC c).ilimAt = some u → s.clusterUp c = true → s.on F.WELTc_STATUS_ILIM c = true → 1000 < s.since u →
    (s.weltC c).ilimTold = false → Completes (.weltIlimTimeout c) s fun t => (t.weltC c).zeroAllow = true ∧ t.reported 0x44 c ∧
      t.allowance c = 0) ∧
  (∀ s c u, (s.weltC c).below90 = some u → s.clusterUp c = true → (s.weltC c).zeroAllow = true → s.passed u 1000 = true →
    Completes (.weltIlimRelease c) s fun t => (t.weltC c).zeroAllow = false ∧ t.on F.WELTc_STATUS_ILIM c = false) ∧
  (∀ s c v, s.clusterUp c = true → s.welt.en = true → s.clusterTarget c + 400 < v → Completes (.weltOv c v) s fun t =>
      t.on F.WELTc_STATUS_OV c = true ∧ t.reported 0x45 c)

/-- At its 10 µs sample a phase that is neither OFF nor PROBE: at 2.4 V or above a capable or ready phase goes to HICCUP,
reported as row 0x23; an invalid voltage sets TF_BAD, and the first of a run is reported as row 0x25; a valid one
enters the mean of at most four samples that TEMP shows, and at T_SHUT a capable phase goes to HOT, reported as row
0x24. (R145, R146, R170, R175, R176) -/
def Obligations.PhaseTemperatureSamples : Prop :=
  ∀ s p mv, s.phaseUp p = true → s.due 6 p 10000 0 = true → s.phSt p ≠ PH_OFF → s.phSt p ≠ PH_PROBE →
  (2400 ≤ mv → (s.capable p = true ∨ s.phSt p = PH_READY) → Completes (.tfSample p mv) s fun t =>
      t.phSt p = PH_HICCUP ∧ t.reported 0x23 p ∧ t.f F.PHp_MEAS_TEMP p = s.f F.PHp_MEAS_TEMP p) ∧
  (mv < 2400 → tfInvalid mv = true → Completes (.tfSample p mv) s fun t => t.on F.PHp_STATUS_TF_BAD p = true ∧
      ((s.phase p).tfInvalid = false → t.reported 0x25 p)) ∧
  (mv < 2400 → tfInvalid mv = false → Completes (.tfSample p mv) s fun t =>
      t.fi F.PHp_MEAS_TEMP p = satSigned 16 (meanTemp ((tfTemp mv :: (s.phase p).temps).take 4)) ∧
      (s.capable p = true → s.tShut * 16 ≤ meanTemp ((tfTemp mv :: (s.phase p).temps).take 4) →
        t.phSt p = PH_HOT ∧ t.reported 0x24 p))

/-- A cycle of a SOFTSTART or ACTIVE phase: IAVG is the mean of the currents of its samples of V_CS, each less the CS_OFFS
now in force, and stands without one. Where the rail does not brake, the on-time is at least 10 ns and at most the
longer of that and TON_MAX, and the ramp advances; a second cycle without current rise is a FAILED phase, reported as
row 0x20. A braking rail's phase has no on-time, keeps PH_EN and PH_PWM at 0, and counts for no check. The ramp ends
in ACTIVE. A phase in another state has no cycle. (R149, R152, R166, R168, R181, R191) -/
def Obligations.SwitchedCycles : Prop :=
  (∀ s p wave cs, s.phaseUp p = true → (s.phSt p = PH_SOFT ∨ s.phSt p = PH_ACTIVE) → Completes (.phaseCycle p wave cs) s fun t =>
      (cs ≠ [] → t.f F.PHp_MEAS_IAVG p = (clampInt 0 65535 (divNearest (cs.map (fun v => senseI v (s.fi F.PHp_LIM_CS_OFFS p))).sum
        (10 * cs.length))).toNat) ∧
      (cs = [] → t.f F.PHp_MEAS_IAVG p = s.f F.PHp_MEAS_IAVG p) ∧ (t.phase p).offs = s.fi F.PHp_LIM_CS_OFFS p) ∧
  (∀ s p wave cs, s.phaseUp p = true → (s.phSt p = PH_SOFT ∨ s.phSt p = PH_ACTIVE) →
    s.on F.PHRAILr_STATUS_BRAKING (s.phase p).rail = false → Completes (.phaseCycle p wave cs) s fun t =>
      400 ≤ t.f F.PHp_ONTIME_TON p ∧ t.f F.PHp_ONTIME_TON p ≤ max 400 s.tonMax ∧
      (t.phase p).rampDone = min ((s.phase p).rampDone + 1) (s.phase p).rampLen) ∧
  (∀ s p cs, s.phaseUp p = true → (s.phSt p = PH_SOFT ∨ s.phSt p = PH_ACTIVE) →
    s.on F.PHRAILr_STATUS_BRAKING (s.phase p).rail = false → 1 ≤ (s.phase p).openRun → 0 < s.f F.PH_PROT_OPEN_RISE →
    Completes (.phaseCycle p [] cs) s fun t => t.phSt p = PH_FAILED ∧ t.reported 0x20 p) ∧
  (∀ s p wave cs, s.phaseUp p = true → (s.phSt p = PH_SOFT ∨ s.phSt p = PH_ACTIVE) →
    s.on F.PHRAILr_STATUS_BRAKING (s.phase p).rail = true → Completes (.phaseCycle p wave cs) s fun t =>
      t.phSt p = s.phSt p ∧ (t.phase p).en = false ∧ (t.phase p).pwm = false ∧ t.rd R.PHp_ONTIME p = s.rd R.PHp_ONTIME p ∧
      (t.phase p).rampDone = (s.phase p).rampDone ∧ (t.phase p).openRun = (s.phase p).openRun ∧ t.flt = s.flt) ∧
  (∀ s p wave cs, s.phSt p ≠ PH_SOFT → s.phSt p ≠ PH_ACTIVE → exec (.phaseCycle p wave cs) s = .next s) ∧
  (∀ s p, s.phaseUp p = true → s.phSt p = PH_SOFT → (s.phase p).rampLen ≤ (s.phase p).rampDone →
    Completes (.softstartComplete p) s fun t => t.phSt p = PH_ACTIVE)

/-- After HICCUP_MS a hiccup ends in ABSENT (row 0x21) when the sense line is not biased, in another hiccup while PH_TF
signals a fault, else in SOFTSTART or READY as the rail is on or off. A line open for 1 µs makes the phase ABSENT. The
50 µs comparison restarts the means and judges no rail of fewer than three measured phases. (R151, R169, R170, R182,
R184) -/
def Obligations.PhaseFaultsAndHiccups : Prop :=
  (∀ s p vcs tf, s.phaseUp p = true → s.phSt p = PH_HICCUP → s.passed (s.phase p).since s.hiccupNs = true →
    (80 < vcs → Completes (.phaseHiccupExpire p vcs tf) s fun t => t.phSt p = PH_ABSENT ∧ t.reported 0x21 p) ∧
    (vcs ≤ 80 → 2400 ≤ tf → Completes (.phaseHiccupExpire p vcs tf) s fun t => t.phSt p = PH_HICCUP ∧ t.reported 0x23 p) ∧
    (vcs ≤ 80 → tf < 2400 → Completes (.phaseHiccupExpire p vcs tf) s fun t =>
      t.phSt p = (if s.railOn (s.phase p).rail then PH_SOFT else PH_READY))) ∧
  (∀ s p ns, s.phaseUp p = true → 1000 ≤ ns → s.phSt p ≠ PH_OFF → s.phSt p ≠ PH_PROBE → Completes (.senseLineOpen p ns) s fun t =>
      t.phSt p = PH_ABSENT ∧ t.f F.PHp_STATUS_CAUSE p = 2 ∧ t.reported 0x21 p) ∧
  (∀ s p ns, ns < 1000 → exec (.senseLineOpen p ns) s = .next s) ∧
  (∀ s r, s.railUp r = true → s.due 7 r 50000 0 = true → Completes (.senseImplausibleCheck r) s fun t =>
      (∀ p ∈ s.phasesOf r, (t.phase p).sumI = 0 ∧ (t.phase p).numI = 0) ∧
      ((s.measured r).length < 3 → ∀ p, t.phSt p = s.phSt p))

/-- After SHED_DWELL the hottest active phase of a rail with capacity goes to SHED, unless it is still in SOFTSTART. A
changed C_r reaches the loop engine as the rail's limit. Each window the Clicker receives the capacity of Rail 0 over
its planned one. An overshoot above the threshold of a rail with braking starts braking and holds PH_EN and PH_PWM of
every phase at 0, in whatever state the rail is; it ends below the hysteresis or at the timeout, which blocks it.
(R165, R173, R179, R180, R188) -/
def Obligations.SheddingAndCapability : Prop :=
  (∀ s r p u, s.railUp r = true → s.shedCond r = true → (s.rail r).shedAt = some u → s.hottest (s.active r) = some p → s.phSt p = PH_ACTIVE →
    s.passed u (max 1 (s.f F.PH_LIGHT_SHED_DWELL) * 1000) = true → s.capLow r (s.capOfRail r) = false →
    Completes (.phaseShed r) s fun t => t.phSt p = PH_SHED ∧ (t.rail r).shedAt = some s.now) ∧
  (∀ s r p, s.hottest (s.active r) = some p → s.phSt p ≠ PH_ACTIVE → exec (.phaseShed r) s = .next s) ∧
  (∀ s r, s.railUp r = true → (s.rail r).limitDue = true → Completes (.capabilityUpdate r) s fun t =>
      (t.rail r).limit = s.f F.PHRAILr_STATUS_CAP r ∧ (t.rail r).limitDue = false ∧
      (Tab.get {} t.loop.src (0x3000 + r)).v = s.f F.PHRAILr_STATUS_CAP r ∧ t.regs = s.regs) ∧
  (∀ s, s.vgov = true → s.due 8 0 100 0 = true → Completes .phaseCapacityReport s fun t =>
      t.crd.fracDen = 256 * ((s.enabledOf 0).map (fun p => (s.phase p).irate)).sum ∧
      (t.crd.fracDen ≠ 0 → t.crd.fracNum = s.capOfRail 0) ∧ { t with crd := s.crd, served := s.served } = s) ∧
  (∀ s r v, s.railUp r = true → s.on F.PHRAILr_BRAKE_BRAKE_EN r = true → s.on F.PHRAILr_STATUS_BRAKING r = false →
    (s.rail r).brakeBlock = false → s.f F.RAILr_SETPT_SETPT r + s.brakeMv r < v →
    Completes (.brakeStart r v) s fun t => t.on F.PHRAILr_STATUS_BRAKING r = true ∧ (t.rail r).brakeAt = some s.now ∧
      ∀ p ∈ s.phasesOf r, (t.phase p).en = false ∧ (t.phase p).pwm = false ∧ t.phSt p = s.phSt p) ∧
  (∀ s r v, s.railUp r = true → s.brakeOver r v = true → Completes (.brakeEnd r v) s fun t =>
      t.on F.PHRAILr_STATUS_BRAKING r = false ∧ (t.rail r).brakeAt = none ∧ (t.rail r).brakeBlock = false ∧
      ∀ p ∈ s.phasesOf r, s.phSt p = PH_PROBE → (t.phase p).pwm = true) ∧
  (∀ s r u, (s.rail r).brakeAt = some u → s.railUp r = true →
    s.passed u (max 1 (s.f F.PHRAILr_BRAKE_BRAKE_MAX_US r) * 1000) = true → Completes (.brakeTimeout r) s fun t =>
      t.on F.PHRAILr_STATUS_BRAKING r = false ∧ (t.rail r).brakeAt = none ∧ (t.rail r).brakeBlock = true)

/-- A valid SYNC_IN period is kept as the last edge, eight that agree begin the acquisition, and from then on the timebase
edge is compared with it; an invalid one sets SYNC_BAD and restarts the agreement. Within 2 ns lock sets LOCKED and
clears ON_INT. Two missing periods set SYNC_LOST and ON_INT, clear LOCKED, send the timebase back to FSW_KHZ and are
reported as row 0x27. (R157, R158, R159, R160) -/
def Obligations.PhaseTimebase : Prop :=
  (∀ s ps, s.vgov = true → 0 < ps → s.syncValid ps = true → Completes (.syncEdge ps) s fun t =>
      t.ph.tb.lastEdge = some (s.now, ps) ∧ t.ph.tb.periods = (ps :: s.ph.tb.periods).take 8 ∧
      t.on F.PH_SYNC_STATUS_SYNC_BAD = s.on F.PH_SYNC_STATUS_SYNC_BAD ∧
      t.ph.tb.acq = (!s.on F.PH_SYNC_STATUS_LOCKED && (s.ph.tb.acq || periodsAgree ((ps :: s.ph.tb.periods).take 8))) ∧
      (t.ph.tb.acq = true → s.ph.tb.acq = true → s.fswNow = s.ph.tb.target → t.ph.tb.off.isSome = true) ∧
      (s.ph.tb.acq = false → t.ph.tb.off = none ∧ t.ph.tb.nco = s.tbPhase)) ∧
  (∀ s ps, s.vgov = true → 0 < ps → s.syncValid ps = false → Completes (.syncEdge ps) s fun t =>
      t.on F.PH_SYNC_STATUS_SYNC_BAD = true ∧ t.ph.tb.periods = [] ∧ t.ph.tb.lastEdge = s.ph.tb.lastEdge) ∧
  (∀ s d jit, s.vgov = true → s.ph.tb.acq = true → s.ph.tb.off = some d → d + jit ≤ 2000 → Completes (.syncLock jit) s fun t =>
      t.on F.PH_SYNC_STATUS_LOCKED = true ∧ t.on F.PH_SYNC_STATUS_ON_INT = false ∧ t.ph.tb.acq = false) ∧
  (∀ s u ps, s.ph.tb.lastEdge = some (u, ps) → s.vgov = true → 2 * ps ≤ s.since u * 1000 → Completes .syncLoss s fun t =>
      t.on F.PH_SYNC_STATUS_LOCKED = false ∧ t.on F.PH_SYNC_STATUS_SYNC_LOST = true ∧ t.on F.PH_SYNC_STATUS_ON_INT = true ∧
      t.ph.tb.target = s.fswKhz * 32 ∧ t.reported 0x27 0)

/-- Writing EN to 1 starts the probe of an OFF phase, and waits on a STOPPING one; writing 0 stops a phase that its rail
can spare and holds the disable otherwise, until it can be applied; the quiet point ends in OFF or a new probe. A
probe of 20 µs ends in ABSENT, MISMATCH (row 0x26), or in SOFTSTART or READY; an absent phase counts matching probes
and is re-admitted after two, but not a third time within 1 s. (R185, R187, R188, R189, R190) -/
def Obligations.PhaseLifecycle : Prop :=
  (∀ s p w, s.portTakes R.PHp_CFG p = true → w.getLsbD 31 = true → s.phSt p = PH_OFF → Completes (.phaseEnableWrite true p w) s fun t =>
      t.phSt p = PH_PROBE ∧ t.on F.PHp_CFG_EN p = true ∧ ((t.phase p).rail : Nat) = getBits w 24 3 ∧ t.rsp.err = false) ∧
  (∀ s p w, s.portTakes R.PHp_CFG p = true → w.getLsbD 31 = true → s.phSt p = PH_STOPPING → Completes (.phaseEnableWrite true p w) s fun t =>
      t.phSt p = PH_STOPPING ∧ t.on F.PHp_STATUS_PENDING_ENABLE p = true ∧ t.on F.PHp_CFG_EN p = true) ∧
  (∀ s p w, s.portTakes R.PHp_CFG p = true → w.getLsbD 31 = false → s.phSt p ≠ PH_OFF → s.phSt p ≠ PH_STOPPING →
    s.on F.PHp_STATUS_DISABLE_HELD p = false → Completes (.phaseDisableWrite true p w) s fun t => t.on F.PHp_CFG_EN p = false ∧
      (s.canDisable p = true → t.phSt p = PH_STOPPING) ∧
      (s.canDisable p = false → t.phSt p = s.phSt p ∧ t.on F.PHp_STATUS_DISABLE_HELD p = true)) ∧
  (∀ s p, s.phaseUp p = true → s.on F.PHp_STATUS_DISABLE_HELD p = true → s.canDisable p = true → Completes (.disableHeldApply p) s fun t =>
      t.phSt p = PH_STOPPING ∧ t.on F.PHp_STATUS_DISABLE_HELD p = false ∧ t.on F.PHp_CFG_EN p = false) ∧
  (∀ s p vcs, s.phaseUp p = true → s.phSt p = PH_STOPPING → s.phQuiet p vcs = true → Completes (.phaseQuietPoint p vcs) s fun t =>
      t.phSt p = (if s.on F.PHp_STATUS_PENDING_ENABLE p then PH_PROBE else PH_OFF) ∧ t.on F.PHp_STATUS_PENDING_ENABLE p = false) ∧
  (∀ s p w, s.portTakes R.PHp_STATUS p = true → w.getLsbD 23 = true → s.phSt p = PH_FAILED → Completes (.phaseFailedReprobe true p w) s fun t =>
      t.phSt p = PH_PROBE ∧ t.on F.PHp_STATUS_FAILED p = false ∧ t.rsp.err = false) ∧
  (∀ s p vcs tf, s.phaseUp p = true → s.phSt p = PH_PROBE → s.passed (s.phase p).since 20000 = true →
    (80 < vcs ∨ tfId tf = some 0 → Completes (.probeComplete p vcs tf) s fun t => t.phSt p = PH_ABSENT) ∧
    (vcs ≤ 80 → tfId tf ≠ some 0 → tfId tf = some (s.phase p).idExp → Completes (.probeComplete p vcs tf) s fun t =>
      t.phSt p = (if s.railOn (s.phase p).rail then PH_SOFT else PH_READY)) ∧
    (vcs ≤ 80 → tfId tf ≠ some 0 → tfId tf ≠ some (s.phase p).idExp → Completes (.probeComplete p vcs tf) s fun t =>
      t.phSt p = PH_MISMATCH ∧ t.reported 0x26 p)) ∧
  (∀ s p vcs tf, s.phaseUp p = true → s.phSt p = PH_ABSENT → s.passed (s.phase p).since 10000000 = true →
    (80 < vcs ∨ (tfId tf).getD 0 ≠ (s.phase p).idExp → Completes (.absentProbe p vcs tf) s fun t =>
      t.phSt p = PH_ABSENT ∧ (t.phase p).matches_ = 0 ∧ (t.phase p).since = s.now) ∧
    (vcs ≤ 80 → (tfId tf).getD 0 = (s.phase p).idExp → (s.phase p).matches_ = 0 →
      Completes (.absentProbe p vcs tf) s fun t => t.phSt p = PH_ABSENT ∧ (t.phase p).matches_ = 1) ∧
    (vcs ≤ 80 → (tfId tf).getD 0 = (s.phase p).idExp → (s.phase p).matches_ = 1 →
      s.on F.PHp_CFG_AUTO_READMIT p = true → (s.phase p).readmits = [] → Completes (.absentProbe p vcs tf) s fun t =>
        t.phSt p = (if s.railOn (s.phase p).rail then PH_SOFT else PH_READY)) ∧
    (vcs ≤ 80 → (tfId tf).getD 0 = (s.phase p).idExp → (s.phase p).matches_ = 1 →
      s.on F.PHp_CFG_AUTO_READMIT p = true → (∃ a b, (s.phase p).readmits = [a, b] ∧ s.since a < 1000000000 ∧
        s.since b < 1000000000) → Completes (.absentProbe p vcs tf) s fun t => t.phSt p = PH_FAILED ∧ t.reported 0x26 p))

/-- A target from 400 to 3600 of a rail that is no ratiometric follower is taken and pending or done; any other is refused
with STATUS 0b11. ON written 1 starts an OFF rail with an enabled phase, and reports row 0x2A without one; ON written
0 stops a running one, and turns off a tripped one at its quiet point (log entry 125). While the sequencer runs, a
change of ON draws an error. COEF_HOLD captures the coefficients. (R193, R200, R203, R214, R220, R576) -/
def Obligations.RailTargetsAndControl : Prop :=
  (∀ s r w, s.portTakes R.RAILr_TARGET r = true → 400 ≤ getBits w 0 12 → getBits w 0 12 ≤ 3600 → s.trackMode r ≠ 1 →
    Completes (.railTargetWrite true r w) s fun t => t.f F.RAILr_TARGET_CODE r = getBits w 0 12 ∧ t.rsp.err = false ∧
      (t.f F.RAILr_TARGET_STATUS r = 1 ∨ t.f F.RAILr_TARGET_STATUS r = 2) ∧
      (s.railOn r = true → (t.rail r).target = (if (s.rail r).toZero then 0 else codeU (t.f F.RAILr_EFF_CODE r)))) ∧
  (∀ s r w, s.portTakes R.RAILr_TARGET r = true → getBits w 0 12 < 400 ∨ 3600 < getBits w 0 12 ∨ s.trackMode r = 1 →
    Completes (.railTargetWrite true r w) s fun t => t.f F.RAILr_TARGET_CODE r = s.f F.RAILr_TARGET_CODE r ∧
      t.f F.RAILr_TARGET_STATUS r = 3 ∧ t.rsp.err = false ∧ { t with regs := s.regs, rsp := s.rsp } = s) ∧
  (∀ s r w, s.portTakes R.RAILr_CTRL r = true → w.getLsbD 31 = true → s.on F.RAILr_CTRL_ON r = false → s.seqBusy = false →
    s.safeHolds r = false → s.railSt r = 0 →
    (s.enabledOf r ≠ [] → Completes (.railOnWrite true r w) s fun t => t.railSt r = 1 ∧ t.on F.RAILr_CTRL_ON r = true ∧ t.rsp.err = false) ∧
    (s.enabledOf r = [] → Completes (.railOnWrite true r w) s fun t => t.railSt r = 0 ∧ t.on F.RAILr_CTRL_ON r = false ∧
      t.reported 0x2A r)) ∧
  (∀ s r w, s.portTakes R.RAILr_CTRL r = true → w.getLsbD 31 = false → s.on F.RAILr_CTRL_ON r = true → s.seqBusy = false →
    (s.railOn r = true → Completes (.railOffWrite true r w) s fun t => t.railSt r = 3 ∧ t.on F.RAILr_CTRL_ON r = false ∧ t.rsp.err = false) ∧
    (s.railSt r = 4 ∨ s.railSt r = 5 → Completes (.railOffWrite true r w) s fun t => t.on F.RAILr_CTRL_ON r = false ∧
      t.railSt r = (if (s.phasesOf r).all (fun p => s.phLow p) then 0 else s.railSt r) ∧
      ((s.phasesOf r).all (fun p => s.phLow p) = false → (t.rail r).offWait = true))) ∧
  (∀ s r w, s.portTakes R.RAILr_CTRL r = true → w.getLsbD 31 ≠ s.on F.RAILr_CTRL_ON r → s.seqBusy = true →
    (Completes (.railOnWrite true r w) s fun t => t.rsp.err = true ∧ t.on F.RAILr_CTRL_ON r = s.on F.RAILr_CTRL_ON r ∧ t.railSt r = s.railSt r) ∧
    (Completes (.railOffWrite true r w) s fun t => t.rsp.err = true ∧ t.on F.RAILr_CTRL_ON r = s.on F.RAILr_CTRL_ON r ∧ t.railSt r = s.railSt r)) ∧
  (∀ s r w, s.portTakes R.RAILr_CTRL r = true → w.getLsbD 31 = s.on F.RAILr_CTRL_ON r → w.getLsbD 29 ≠ s.on F.RAILr_CTRL_COEF_HOLD r →
    Completes (.railCoefHold true r w) s fun t => t.on F.RAILr_CTRL_COEF_HOLD r = w.getLsbD 29 ∧ t.railSt r = s.railSt r ∧
      (t.rail r).held = (if w.getLsbD 29 then some (s.coefRegs r) else none) ∧ t.coefRegs r = s.coefRegs r ∧ t.rsp.err = false)

/-- A sample of a rail that does not brake stores the saturated fine error and the compensator's new output; a braking
rail holds both; the command stays within its range. A sample outside the window takes PG from an ON rail, sets
PG_LOST and is reported as row 0x2B. A profile step gives a rail on its own generator the set-point of one update.
(R196, R197, R201, R208) -/
def Obligations.RailSamplesAndProfiles : Prop :=
  (∀ s r v sig coarse cs, s.railUp r = true → Completes (.railSample r v sig coarse cs) s fun t =>
      (s.on F.PHRAILr_STATUS_BRAKING r = false →
        (t.rail r).e = (clampInt (-512) 511 (s.fineError r (if s.on F.RAILr_STATUS_RS_LOST r then v - sig else v)) :: (s.rail r).e).take 4 ∧
        (t.rail r).y = (compensate (s.coefs r) (t.rail r).e (s.rail r).y :: (s.rail r).y).take 3) ∧
      (s.on F.PHRAILr_STATUS_BRAKING r = true → (t.rail r).e = (s.rail r).e ∧ (t.rail r).y = (s.rail r).y) ∧
      t.f F.RAILr_CMD_ICMD r ≤ 20480) ∧
  (∀ s r v sig coarse cs, s.railUp r = true → s.railSt r = 2 → s.on F.RAILr_STATUS_PG r = true → s.on F.RAILr_STATUS_RS_LOST r = false →
    ¬(-(8 * min (s.f F.RAILr_PROT_PG_MV r) 64 : Int) ≤ clampInt (-512) 511 (s.fineError r v) ∧
      clampInt (-512) 511 (s.fineError r v) ≤ 8 * min (s.f F.RAILr_PROT_PG_MV r) 64) →
    Completes (.railSample r v sig coarse cs) s fun t => t.on F.RAILr_STATUS_PG r = false ∧
      t.on F.RAILr_STATUS_PG_LOST r = true ∧ t.reported 0x2B r ∧ t.railSt r = 2) ∧
  (∀ s r, s.railUp r = true → s.genRuns r = true → Completes (.profileStep r) s fun t =>
      (t.rail r).vset = (genStep ((s.recompose r).rail r) (s.velMax r) (max 1 (s.f F.RAILr_PROFILE_ACC r))
        (max 1 (s.f F.RAILr_PROFILE_JERK r))).vset ∧
      t.on F.RAILr_STATUS_SLEWING r = !(t.rail r).arrived ∧ t.railSt r = s.railSt r)

/-- Over-current that persists under the clamp is a rail hiccup (row 0x28), which restarts after OC_HICCUP_MS. Loss and
return of remote sense set and clear RS_LOST (row 0x2C). A sense fault and an over-voltage are FAULT (row 0x29), a
start time-out too (row 0x2A). 10 µs of good error since the arrival is ON with PG; a quiet stopping rail is OFF, or
starts again. (R172, R205, R206, R207, R209, R214, R215) -/
def Obligations.RailTripsAndRestarts : Prop :=
  (∀ s r u, (s.rail r).ocAt = some u → s.railUp r = true → s.railOn r = true → s.clamped = true →
    s.passed u (max 1 (s.f F.PHRAILr_OC_OC_PERSIST_US r) * 1000) = true → Completes (.railOcHiccup r) s fun t =>
      t.railSt r = 4 ∧ t.reported 0x28 r ∧ t.on F.PHRAILr_STATUS_OC_HICCUP r = true) ∧
  (∀ s r, s.railUp r = true → s.railSt r = 4 → (s.rail r).withLeader = false → (s.rail r).offWait = false →
    s.passed (s.rail r).since (max 1 (s.f F.PHRAILr_OC_OC_HICCUP_MS r) * 1000000) = true →
    (s.enabledOf r ≠ [] → Completes (.railHiccupExpire r) s fun t => t.railSt r = 1) ∧
    (s.enabledOf r = [] → Completes (.railHiccupExpire r) s fun t => t.reported 0x2A r ∧ t.on F.RAILr_CTRL_ON r = false ∧
      t.railSt r = (if (s.phasesOf r).all (fun p => s.phLow p) then 0 else 4))) ∧
  (∀ s r step, s.railUp r = true → s.railSt r ≠ 0 → 20 ≤ step → s.on F.RAILr_STATUS_RS_LOST r = false → Completes (.rsLoss r step) s fun t =>
      t.on F.RAILr_STATUS_RS_LOST r = true ∧ t.on F.RAILr_STATUS_RS_EVENT r = true ∧ t.reported 0x2C r ∧ t.railSt r = s.railSt r) ∧
  (∀ s r n, s.railUp r = true → s.on F.RAILr_STATUS_RS_LOST r = true → 1000 ≤ n → Completes (.rsRestore r n) s fun t =>
      t.on F.RAILr_STATUS_RS_LOST r = false ∧ t.on F.RAILr_STATUS_RS_EVENT r = s.on F.RAILr_STATUS_RS_EVENT r) ∧
  (∀ s r coarse ns, s.railUp r = true → 1 ≤ s.railSt r → s.railSt r ≤ 3 → 10000 ≤ ns → 496 ≤ coarse ∨ (coarse = 0 ∧ 204800 < (s.rail r).vset) →
    Completes (.senseBothLost r coarse ns) s fun t => t.railSt r = 5 ∧ t.on F.RAILr_STATUS_SENSE_FAULT r = true ∧ t.reported 0x29 r) ∧
  (∀ s r (coarse : Nat) ns, s.railUp r = true → 1 ≤ s.railSt r → s.railSt r ≤ 3 → 2000 ≤ ns →
    (s.rail r).vset + 1024 * max (s.f F.RAILr_PROT_OV_MV r) 65 < 3200 * (coarse : Int) → Completes (.railOvervoltage r coarse ns) s fun t =>
      t.railSt r = 5 ∧ t.on F.RAILr_STATUS_OV r = true ∧ t.reported 0x29 r) ∧
  (∀ s r, s.railUp r = true → s.railSt r = 1 → s.passed (s.rail r).since (max 1 (s.f F.RAILr_START_START_TO r) * 1000000) = true →
    Completes (.railStartTimeout r) s fun t => t.railSt r = 5 ∧ t.on F.RAILr_STATUS_START_TIMEOUT r = true ∧ t.reported 0x2A r) ∧
  (∀ s r u g, s.railUp r = true → s.railSt r = 1 → (s.rail r).arrivedAt = some u → (s.rail r).goodAt = some g →
    s.passed u 10000 = true → s.passed g 10000 = true → Completes (.railEnterOn r) s fun t =>
      t.railSt r = 2 ∧ t.on F.RAILr_STATUS_PG r = true) ∧
  (∀ s r cs, s.railUp r = true → s.railSt r = 3 → s.railQuiet r cs = true →
    (s.on F.RAILr_STATUS_PENDING_ENABLE r = false → Completes (.railQuietPoint r cs) s fun t => t.railSt r = 0) ∧
    (s.on F.RAILr_STATUS_PENDING_ENABLE r = true → s.enabledOf r ≠ [] → s.safeHolds r = false →
      Completes (.railQuietPoint r cs) s fun t => t.railSt r = 1 ∧ t.on F.RAILr_STATUS_PENDING_ENABLE r = false) ∧
    (s.on F.RAILr_STATUS_PENDING_ENABLE r = true → s.enabledOf r = [] → Completes (.railQuietPoint r cs) s fun t =>
      t.railSt r = 0 ∧ t.on F.RAILr_CTRL_ON r = false ∧ t.reported 0x2A r)) ∧
  (∀ s r cs, s.railUp r = true → (s.railSt r = 4 ∨ s.railSt r = 5) → (s.rail r).offWait = true → s.railQuiet r cs = true →
    s.on F.RAILr_CTRL_ON r = false → Completes (.railQuietPoint r cs) s fun t => t.railSt r = 0 ∧ (t.rail r).offWait = false) ∧
  (∀ s r cs, s.railQuiet r cs = false → exec (.railQuietPoint r cs) s = .next s)

/-- A request on an idle sequencer latches its table and runs it, or ends at once on an empty one; a table with a tracking
fault sets CONFIG_ERR and runs nothing; a power-up during a power-down waits with its table; a power-down during a
power-up sends the rails in STARTING to 0 mV. A step whose delay is over and whose check passes advances; a failed
power-up check aborts (row 0x2D) naming the rail, a failed power-down check waits, at most 10 ms. (R213, R216, R217,
R218, R219) -/
def Obligations.SequencerRuns : Prop :=
  (∀ s, s.portTakes R.SEQ_CTRL 0 = true → s.seqConfigErr true (s.seqTable true) = true → Completes (.sequenceUpRequest true) s fun t =>
      t.on F.SEQ_STATUS_CONFIG_ERR = true ∧ t.f F.SEQ_STATUS_STATE = s.f F.SEQ_STATUS_STATE ∧ t.rails = s.rails) ∧
  (∀ s, s.portTakes R.SEQ_CTRL 0 = true → s.seqConfigErr true (s.seqTable true) = false → s.seqBusy = false →
    Completes (.sequenceUpRequest true) s fun t => t.f F.SEQ_STATUS_STATE = (if s.seqTable true = [] then 2 else 1) ∧
      t.rails.seq.table = s.seqTable true ∧ t.rails.seq.next = 0 ∧ t.rails.seq.skip = 0 ∧ t.rsp.err = false) ∧
  (∀ s, s.portTakes R.SEQ_CTRL 0 = true → s.seqConfigErr true (s.seqTable true) = false → s.f F.SEQ_STATUS_STATE = 3 →
    Completes (.sequenceUpRequest true) s fun t => t.on F.SEQ_STATUS_PENDING_UP = true ∧ t.f F.SEQ_STATUS_STATE = 3 ∧
      t.rails.seq.pendTable = s.seqTable true ∧ t.rails.seq.table = s.rails.seq.table ∧ t.rails.seq.next = s.rails.seq.next) ∧
  (∀ s, s.portTakes R.SEQ_CTRL 0 = true → s.seqConfigErr false (s.seqTable false) = false → s.seqBusy = false →
    s.on F.SEQ_STATUS_PENDING_UP = false → Completes (.sequenceDownRequest true) s fun t =>
      t.f F.SEQ_STATUS_STATE = (if s.seqTable false = [] then 0 else 3) ∧ t.rails.seq.table = s.seqTable false ∧
      t.rails.seq.next = 0 ∧ t.rsp.err = false) ∧
  (∀ s, s.portTakes R.SEQ_CTRL 0 = true → s.seqConfigErr false (s.seqTable false) = false → s.f F.SEQ_STATUS_STATE = 1 →
    Completes (.sequenceDownRequest true) s fun t => t.rails.seq.table = s.seqTable false ∧ t.rails.seq.skip = s.offMask ∧
      ∀ r < Config.railCount, s.railSt r = 1 → s.trackMode r ≠ 1 → (t.rail r).toZero = true ∧ (t.rail r).target = 0 ∧
        t.railSt r = 1) ∧
  (∀ s w, s.rails.seq.table[s.rails.seq.next]? = some w → s.vgov = true → s.seqBusy = true →
    s.passed s.rails.seq.at_ (seqDelay w * 1000) = true →
    (seqCheck w = false ∨ s.seqFails (decide (s.f F.SEQ_STATUS_STATE = 1)) s.rails.seq.earlier = none → Completes .seqStepBegin s fun t =>
      t.rails.seq.next = s.rails.seq.next + 1 ∧ t.rails.seq.earlier = s.rails.seq.earlier ||| seqRails w) ∧
    (∀ r, seqCheck w = true → s.seqFails (decide (s.f F.SEQ_STATUS_STATE = 1)) s.rails.seq.earlier = some r →
      s.f F.SEQ_STATUS_STATE = 1 → Completes .seqStepBegin s fun t => t.on F.SEQ_STATUS_ABORTED = true ∧
        t.f F.SEQ_STATUS_FAIL_RAIL = r ∧ t.reported 0x2D 0 ∧ t.rails.seq.aborting = decide (t.f F.SEQ_STATUS_STATE = 3)) ∧
    (∀ r, seqCheck w = true → s.seqFails false s.rails.seq.earlier = some r → s.f F.SEQ_STATUS_STATE = 3 →
      Completes .seqStepBegin s fun t => t.rails.seq.waitAt = some (s.rails.seq.waitAt.getD s.now) ∧
        t.rails.seq.next = s.rails.seq.next ∧ t.regs = s.regs)) ∧
  (∀ s u w, s.rails.seq.waitAt = some u → s.rails.seq.table[s.rails.seq.next]? = some w → s.vgov = true →
    s.f F.SEQ_STATUS_STATE = 3 → s.passed u 10000000 = true → Completes .seqCheckWaitTimeout s fun t =>
      t.on F.SEQ_STATUS_WAITED = true ∧ t.reported 0x2D 0 ∧ t.rails.seq.next = s.rails.seq.next + 1) ∧
  (∀ s, s.vgov = true → s.f F.SEQ_STATUS_STATE = 3 → s.on F.SEQ_STATUS_PENDING_UP = true →
    s.rails.seq.table.length ≤ s.rails.seq.next → (∀ r ∈ railsIn s.rails.seq.earlier, s.railSt r = 0) →
    Completes .seqPendingUpStart s fun t => t.on F.SEQ_STATUS_PENDING_UP = false ∧
      (s.seqConfigErr true s.rails.seq.pendTable = false → t.rails.seq.table = s.rails.seq.pendTable ∧
        t.f F.SEQ_STATUS_STATE = (if s.rails.seq.pendTable = [] then 2 else 1)) ∧
      (s.seqConfigErr true s.rails.seq.pendTable = true → t.on F.SEQ_STATUS_CONFIG_ERR = true ∧ t.f F.SEQ_STATUS_STATE = 0))

/-- At its instant a live slot of an enabled engine latches its configuration words and the newest feedback; an evaluation
still waiting is dropped and counted; the new one is ready with its deadline at the next sample instant of the period
and phase now in force, except in SAFE for a cause other than LOSS; a slot in RUN without drops stays in RUN when the
check passes and goes to HOLD when it fails. (R223, R224, R247, R250, R251, R262) -/
def Obligations.SlotSamples : Prop :=
  ∀ s n, s.vgov = true → n < 128 → s.on F.LOOP_CTRL_EN = true → s.slotLive n = true →
  s.due 10 n (1000 * (s.slot n).period) (1000 * (s.slot n).phase) = true → Completes (.slotSample n) s fun t =>
    (t.slot n).cfg = s.slotWords n ∧ (t.slot n).fbVal = ((s.source (s.slot n).fb).map (·.1)).getD 0 ∧
    ((s.slot n).ready = true → t.f F.SLOTn_COUNT_OVERRUNS n = (s.f F.SLOTn_COUNT_OVERRUNS n + 1) % 2 ^ F.SLOTn_COUNT_OVERRUNS.len) ∧
    (t.slotSt n ≠ 4 ∨ t.f F.SLOTn_STATUS_CAUSE n = 1 → (t.slot n).ready = true ∧
      (t.slot n).sampleAt = s.now.toNat / 1000 * 400 ∧ (t.slot n).deadline = (t.slot n).sampleAt + 400 * (t.slot n).nextIn (s.time.count.toNat / 1000)) ∧
    (s.slotSt n = 1 → (s.slot n).ready = false → (s.slot n).drops = 0 →
      t.slotSt n = (if (t.slot n).checkOk then 1 else 2))

/-- The ready slot with the earliest deadline starts on the lane longest free, with an output to release only in RUN or
RECOVER. A completed evaluation frees its lane; in RUN or RECOVER its output is released and the group's winner is its
least member. HOLD that lasts HOLD_US is SAFE with the safe value (row 0x50), not while the engine is disabled (R226).
A ceiling below the output lowers it. (R226, R227, R228, R230, R239, R241, R251, R259) -/
def Obligations.SlotEvaluations : Prop :=
  (∀ s k n, s.freeLane = some k → s.readySlot = some n → s.vgov = true → s.on F.LOOP_CTRL_EN = true → Completes .slotEvaluate s fun t =>
      (t.lane k).busy = true ∧ ((t.lane k).slot : Nat) = n ∧ (t.lane k).sampleAt = (s.slot n).sampleAt ∧
      (t.lane k).out.isSome = s.slotRuns n ∧ (t.slot n).ready = false ∧ (t.slot n).busy = (s.slot n).busy + 1 ∧
      (∀ j, j ≠ k → t.lane j = s.lane j)) ∧
  (∀ s k, s.doneLane = some k → s.vgov = true → Completes .slotRelease s fun t => (t.lane k).busy = false ∧
      (t.slot (s.lane k).slot).busy = (s.slot (s.lane k).slot).busy - 1 ∧ (t.slot (s.lane k).slot).drops = 0 ∧
      (∀ o, (s.lane k).out = some o → s.slotRuns (s.lane k).slot = true → (t.slot (s.lane k).slot).out = some o ∧
        t.on F.LOOPGg_STATUS_VALID (s.slot (s.lane k).slot).group = true ∧
        (leastMember (t.validMembers (s.slot (s.lane k).slot).group)).map Prod.fst =
          some (t.f F.LOOPGg_STATUS_WINNER (s.slot (s.lane k).slot).group)) ∧
      ((s.lane k).out = none ∨ s.slotRuns (s.lane k).slot = false → (t.slot (s.lane k).slot).out = (s.slot (s.lane k).slot).out)) ∧
  (∀ s n, s.on F.LOOP_CTRL_EN = false → exec (.slotHoldTimeout n) s = .next s) ∧
  (∀ s n, s.vgov = true → s.on F.LOOP_CTRL_EN = true → n < 128 → s.slotSt n = 2 → s.passed (s.slot n).holdAt (1000 * max 1 (getBits ((s.slot n).w 24) 16 16)) = true →
    Completes (.slotHoldTimeout n) s fun t => t.slotSt n = 4 ∧ t.f F.SLOTn_STATUS_CAUSE n = 1 ∧
      (t.slot n).out = some (s.slot n).safeVal ∧ t.reported 0x50 n) ∧
  (∀ s n c o, s.ceiling (s.slot n) = some c → (s.slot n).out = some o → s.vgov = true → n < 128 → s.on F.LOOP_CTRL_EN = true →
    1 ≤ s.slotSt n → s.slotSt n ≤ 3 → c < o → Completes (.ceilingArrival n) s fun t => (t.slot n).out = some c ∧ t.slotSt n = s.slotSt n)

/-- EN written 1 starts an OFF slot in RUN from its INIT, without an output, and waits on a STOPPING one; written 0 stops
a live slot; the quiet point ends in OFF or a new start. A notch request is served or held; withdrawing it frees a
section in manual use. A latency clear restarts BUSY_MAX at the next epoch, live records at their next sample, the
others at once. (R230, R258, R259, R261) -/
def Obligations.SlotControl : Prop :=
  (∀ s n w, s.portTakes R.SLOTn_CTRL n = true → w.getLsbD 31 = true → s.slotSt n = 0 → Completes (.slotEnable true n w) s fun t =>
      t.slotSt n = 1 ∧ (t.slot n).out = none ∧ (t.slot n).cfg = t.slotWords n ∧ ((t.slot n).group : Nat) = getBits w 16 4 ∧
      (t.slot n).y = [(s.rd R.SLOTn_INIT n).toInt, (s.rd R.SLOTn_INIT n).toInt, (s.rd R.SLOTn_INIT n).toInt] ∧ t.rsp.err = false) ∧
  (∀ s n w, s.portTakes R.SLOTn_CTRL n = true → w.getLsbD 31 = true → s.slotSt n = 5 → Completes (.slotEnable true n w) s fun t =>
      t.slotSt n = 5 ∧ t.on F.SLOTn_STATUS_PENDING_ENABLE n = true) ∧
  (∀ s n w, s.portTakes R.SLOTn_CTRL n = true → w.getLsbD 31 = false → s.slotLive n = true → Completes (.slotDisable true n w) s fun t =>
      t.slotSt n = 5 ∧ (t.slot n).ready = false ∧ t.on F.SLOTn_CTRL_EN n = false ∧ t.rsp.err = false) ∧
  (∀ s n w, s.portTakes R.SLOTn_CTRL n = true → w.getLsbD 31 = false → s.slotSt n = 5 → Completes (.slotDisable true n w) s fun t =>
      t.slotSt n = 5 ∧ t.on F.SLOTn_STATUS_PENDING_ENABLE n = false) ∧
  (∀ s n, s.vgov = true → n < 128 → s.slotSt n = 5 → (s.slot n).busy = 0 → (s.slot n).ready = false →
    Completes (.slotQuietPoint n) s fun t => t.slotSt n = (if s.on F.SLOTn_STATUS_PENDING_ENABLE n then 1 else 0) ∧
      t.on F.SLOTn_STATUS_PENDING_ENABLE n = false) ∧
  (∀ s k w, s.portTakes R.LOOPNk_CFG k = true → w.getLsbD 31 = true → Completes (.notchAssign true k w) s fun t =>
      ((t.notch k).req = true ∨ (t.f F.LOOPNk_STATUS_USE k = 1 ∧ t.f F.LOOPNk_STATUS_SLOT_NOW k = getBits w 24 7)) ∧ t.rsp.err = false) ∧
  (∀ s k w, s.portTakes R.LOOPNk_CFG k = true → w.getLsbD 31 = false → Completes (.notchAssign true k w) s fun t =>
      (t.notch k).req = false ∧ t.f F.LOOPNk_STATUS_USE k ≠ 1 ∧
      (s.f F.LOOPNk_STATUS_USE k = 2 → t.f F.LOOPNk_STATUS_USE k = 2)) ∧
  (∀ s n, (s.slot n).busy ≠ 0 ∨ (s.slot n).ready = true → exec (.slotQuietPoint n) s = .next s) ∧
  (∀ s, s.portTakes R.LOOP_LATCLR 0 = true → Completes (.latencyClear true) s fun t => t.f F.LOOP_LATCLR_STATUS = 1 ∧
      t.loop.busyClr = some (s.epoch + 1) ∧ (∀ n, n < 128 → s.slotLive n = true → (t.slot n).latClr = true) ∧
      (∀ n, n < 128 → s.slotLive n = false → t.rd R.SLOTn_LAT n = R.SLOTn_LAT.rst n))

/-- A rail need on the seam becomes Rail 0's need and a source; after 10 µs without one the last value stays and row 0x46
is reported once. A resend gives the Clicker the budget of group 0 again, held to a power code. (R238, R245, R246) -/
def Obligations.RailNeedAndResends : Prop :=
  (∀ s v, s.welt.needSent = some v → s.vgov = true → Completes .railNeedReceive s fun t => t.rails.need = v ∧
      t.rails.needAt = some s.now ∧ t.rails.needLate = false ∧ t.welt.needSent = none ∧ (Tab.get {} t.loop.src 0x6000).v = v) ∧
  (∀ s, s.vgov = true → s.rails.needLate = false → s.passed (s.rails.needAt.getD 0) 10000 = true → Completes .railNeedTimeout s fun t =>
      t.rails.needLate = true ∧ t.reported 0x46 0 ∧ t.rails.need = s.rails.need ∧ exec .railNeedTimeout t = .next t) ∧
  (∀ s, s.vgov = true → s.dieUp = true → s.on F.LOOP_CTRL_EN = true → (s.group 0).had = true → s.on F.LOOPGg_STATUS_VALID 0 = true →
    Completes .groupResend s fun t => t.crd.budget = (clampInt 0 65535 (s.fi F.LOOPGg_OUT_OUT 0)).toNat)

/-- In SEARCH the first marker starts the intervals, and the marker that completes four agreeing ones locks the Last at
their mean. In LOCKED a marker within 2 % moves P_est by an eighth of the difference and ends the bin interval in
progress, an early, late or missing one fades. A fade ends after 4 x P_est, in SEARCH or the lock it holds. A
correlation evaluation needs its block means; two agreeing lags above the threshold lock, a best lag off the period
fades. A new bin makes the old one learn. (R267, R268, R269, R270, R271, R272) -/
def Obligations.LastsFollowTheLoad : Prop :=
  (∀ s l m r, (s.last l).marks = m :: r → s.vgov = true → l < 16 → s.lastState l = 1 →
    ((s.last l).prevMark = none → Completes (.lastMarker l) s fun t => t.lastState l = 1 ∧ (t.last l).prevMark = some m ∧
      (t.last l).intervals = [] ∧ (t.last l).marks = r ∧ { t with lasts := s.lasts } = s) ∧
    (∀ p q, (s.last l).prevMark = some p →
      lockMean (s.last l).pmin (s.last l).pmax (((m - p).toNat :: (s.last l).intervals).take 4) = some q →
      Completes (.lastMarker l) s fun t => t.lastState l = 2 ∧ (t.last l).pEst = q ∧ (t.last l).tm = m ∧ (t.last l).marks = r ∧
        t.on F.LASTl_STATUS_AUTO_LOCK l = false ∧ t.f F.LASTl_COUNT_LOCKS l = (s.f F.LASTl_COUNT_LOCKS l + 1) % 65536 ∧
        (within2 (s.last l).plock q = true → (t.last l).t = (s.last l).t ∧ (t.last l).plock = (s.last l).plock))) ∧
  (∀ s l m r, (s.last l).marks = m :: r → s.vgov = true → l < 16 → s.lastState l = 2 → s.on F.LASTl_STATUS_AUTO_LOCK l = false →
    (∀ p, p = (clampInt (s.last l).pmin (s.last l).pmax
        ((s.last l).pEst + divNearest (((m - (s.last l).tm).toNat : Int) - (s.last l).pEst) 8)).toNat →
      98 * (s.last l).pEst ≤ (m - (s.last l).tm).toNat * 100 → within2 (m - (s.last l).tm).toNat (s.last l).pEst = true →
      within2 p (s.last l).plock = true → Completes (.lastMarker l) s fun t => t.lastState l = 2 ∧ (t.last l).pEst = p ∧
        (t.last l).tm = m ∧ (∀ k, k ≠ l → t.last k = s.last k) ∧ (t.last l).learn = s.rd R.LASTl_LEARN l ∧
        (∀ q j, q.at j ≠ R.LASTl_MEAN.at l → t.rd q j = s.rd q j) ∧
        ((s.last l).srcBad = true ∨ (s.last l).binHeld = true ∨ s.outHeld = true → (t.last l).t = (s.last l).t)) ∧
    (98 * (s.last l).pEst ≤ (m - (s.last l).tm).toNat * 100 → within2 (m - (s.last l).tm).toNat (s.last l).pEst = false →
      Completes (.lastMarker l) s fun t => t.lastState l = 3 ∧ (t.last l).prevMark = some m) ∧
    ((m - (s.last l).tm).toNat * 100 < 98 * (s.last l).pEst → Completes (.lastMarker l) s fun t => t.lastState l = 3)) ∧
  (∀ s l, s.vgov = true → l < 16 → s.lastState l = 2 → s.on F.LASTl_STATUS_AUTO_LOCK l = false → (s.last l).marks = [] →
    102 * (s.last l).pEst < 100 * s.since (s.last l).tm → Completes (.lastMarkerTimeout l) s fun t => t.lastState l = 3 ∧
      (t.last l).gLen = 4 * (s.last l).pEst ∧ (t.last l).gFrom = s.lastG l 0 ∧ (t.last l).gAt = s.now ∧
      t.f F.LASTl_COUNT_FADES l = (s.f F.LASTl_COUNT_FADES l + 1) % 65536) ∧
  (∀ s l, s.vgov = true → l < 16 → s.lastState l = 3 → s.passed (s.last l).gAt (s.last l).gLen = true →
    ((s.last l).pendLock = none → Completes (.lastFadeEnd l) s fun t => t.lastState l = 1) ∧
    (∀ p m v n, (s.last l).pendLock = some (p, m, v, n) → Completes (.lastFadeEnd l) s fun t => t.lastState l = 2 ∧
      (t.last l).pEst = p ∧ (t.last l).tm = m ∧ (t.last l).pendLock = none)) ∧
  (∀ s l, s.passed (s.last l).gAt (s.last l).gLen = false → exec (.lastFadeEnd l) s = .next s) ∧
  (∀ s l x, x = (s.last l).closeBlocks s.now.toNat (Tab.get {} s.loop.src ((s.last l).srcKey l)).v → s.vgov = true → l < 16 →
    (s.last l).mode ≠ 0 → s.due 11 l (2 * (s.last l).pmax) 0 = true →
    (s.lastState l = 1 → x.blocks.length < 2048 + x.pmax / x.blockLen → Completes (.lastCorrelationEval l) s fun t =>
      t.last l = x ∧ { t with lasts := s.lasts, served := s.served } = s) ∧
    (∀ lag num old, s.lastState l = 1 → 2048 + x.pmax / x.blockLen ≤ x.blocks.length →
      bestLag x.blocks (divUp x.pmin x.blockLen) (x.pmax / x.blockLen) = some (lag, num) → 0 < autoCorr x.blocks 0 →
      s.f F.LAST_CTRL_AC_THR * autoCorr x.blocks 0 ≤ 256 * num → x.lag = some old → within2 old lag = true →
      Completes (.lastCorrelationEval l) s fun t => t.lastState l = 2 ∧ t.on F.LASTl_STATUS_AUTO_LOCK l = true ∧
        (t.last l).pEst = lag * x.blockLen ∧ (t.last l).tm = s.now) ∧
    (∀ lag num, s.lastState l = 2 → s.on F.LASTl_STATUS_AUTO_LOCK l = true → 2048 + x.pmax / x.blockLen ≤ x.blocks.length →
      bestLag x.blocks (divUp x.pmin x.blockLen) (x.pmax / x.blockLen) = some (lag, num) →
      within2 (lag * x.blockLen) (s.last l).pEst = false → Completes (.lastCorrelationEval l) s fun t => t.lastState l = 3)) ∧
  (∀ s l, s.vgov = true → l < 16 → 2 ≤ s.lastState l → s.lastBin l 0 = (s.last l).bin → Completes (.lastBinUpdate l) s fun t =>
      (t.last l).t = (s.last l).t ∧ t.last l = { s.last l with leadWas := (t.last l).leadWas }) ∧
  (∀ s l, s.vgov = true → l < 16 → s.lastState l = 2 → s.lastBin l 0 ≠ (s.last l).bin → Completes (.lastBinUpdate l) s fun t =>
      (t.last l).bin = s.lastBin l 0 ∧ (t.last l).learn = s.rd R.LASTl_LEARN l ∧ (t.last l).ffk = s.f F.LASTl_GAIN_FF_K l ∧
      ((s.last l).srcBad = true ∨ (s.last l).binHeld = true ∨ s.outHeld = true → (t.last l).t = (s.last l).t) ∧
      (∀ v, v = divAway (s.srcMean l (s.last l).binSum (s.last l).binNum).2.1
          ((s.srcMean l (s.last l).binSum (s.last l).binNum).2.2 * 2 ^ (s.last l).shift) →
        (s.last l).srcBad = false → (s.last l).binHeld = false → s.outHeld = false → (s.last l).gateGen = s.f F.CRD_CLAMP_COUNT_COUNT → s.binFresh l = true →
        (s.last l).bin < (s.last l).nEff → (s.last l).fgt = 0 → Tab.get 0 (t.last l).t (s.last l).bin =
          satSigned 16 (Tab.get 0 (s.last l).t (s.last l).bin
            + divAway (v - Tab.get 0 (s.last l).t (s.last l).bin) (2 ^ (s.last l).lrn))))

/-- EN 1 takes an OFF Last to SEARCH with its configuration latched; EN 0 takes it to OFF with its template and mean kept.
A bin loads only while EN is 0. A core's counts enter its four windows, held to 1,023. A resume clears every fallback,
and is refused under FORCE_LIN or EN 0. SET_HOLD captures the sets when it rises and releases them at the next
boundary. A trim keeps GAIN within ±2,048 of the calibrated value, and notes since when every affected set stands
within its limits. (R276, R277, R281, R291, R292, R295) -/
def Obligations.LastAndPredictorCommands : Prop :=
  (∀ s l w, s.portTakes R.LASTl_CFG l = true → w.getLsbD 31 = true → s.lastState l = 0 → Completes (.lastEnableWrite true l w) s fun t =>
      t.lastState l = 1 ∧ t.on F.LASTl_CFG_EN l = true ∧ (t.last l).bins = max 1 (getBits w 0 12) + 1 ∧ (t.last l).marks = [] ∧
      (t.last l).t = (s.last l).t ∧ t.rsp.err = false) ∧
  (∀ s l w, s.portTakes R.LASTl_CFG l = true → w.getLsbD 31 = false → s.lastState l ≠ 0 → Completes (.lastEnableWrite true l w) s fun t =>
      t.lastState l = 0 ∧ t.on F.LASTl_CFG_EN l = false ∧ t.lastG l 0 = 0 ∧ (t.last l).t = (s.last l).t ∧
      t.rd R.LASTl_MEAN l = s.rd R.LASTl_MEAN l ∧ t.rsp.err = false) ∧
  (∀ s w, s.portTakes R.LAST_BINLOAD 0 = true →
    (s.on F.LASTl_CFG_EN (getBits w 16 4) = false → Completes (.lastBinload true w) s fun t => t.f F.LAST_BINLOAD_STATUS = 2 ∧
      Tab.get 0 (t.last (getBits w 16 4)).t (getBits w 0 12) = s.fi F.LAST_BINDATA_VALUE ∧
      t.on F.LASTl_STATUS_LOADED (getBits w 16 4) = true ∧ t.rsp.err = false) ∧
    (s.on F.LASTl_CFG_EN (getBits w 16 4) = true → Completes (.lastBinload true w) s fun t => t.f F.LAST_BINLOAD_STATUS = 3 ∧
      { t with regs := s.regs, rsp := s.rsp } = s)) ∧
  (∀ s n counts, s.predOn = true → s.coreUp n = true → s.now.toNat % 250 ≤ 50 → (s.predCore n).got ≠ some s.predIdx →
    Completes (.activityWindow n counts) s fun t => (t.predCore n).got = some s.predIdx ∧
      (t.predCore n).wins = (counts.map (fun c => min c 1023) :: (s.predCore n).wins).take 4 ∧
      (∀ m, m ≠ n → t.predCore m = s.predCore m) ∧ { t with lasts := s.lasts } = s) ∧
  (∀ s, s.portTakes R.PRED_RESUME 0 = true →
    (s.on F.PRED_CTRL_FORCE_LIN = true ∨ s.on F.PRED_CTRL_EN = false → Completes (.predResumeGo true) s fun t =>
      t.f F.PRED_RESUME_STATUS = 3 ∧ t.f F.PRED_STATUS_STATE = s.f F.PRED_STATUS_STATE ∧ t.lasts = s.lasts) ∧
    (s.on F.PRED_CTRL_FORCE_LIN = false → s.on F.PRED_CTRL_EN = true → Completes (.predResumeGo true) s fun t =>
      t.f F.PRED_RESUME_STATUS = 2 ∧ t.f F.PRED_STATUS_STATE = 1 ∧ t.f F.PRED_STATUS_SET_LIN = 0 ∧ t.lasts.pred.suspect = [] ∧
      t.lasts.pred.run = 0 ∧ ∀ c, c < 64 → t.on F.PREDCc_STATUS_FALLBACK c = false ∧ t.on F.PREDCc_STATUS_WITHDRAWN c = false)) ∧
  (∀ s w, s.portTakes R.PRED_CTRL 0 = true → w.getLsbD 31 = s.on F.PRED_CTRL_EN → Completes (.predSetHold true w) s fun t =>
      t.rsp.err = false ∧ t.on F.PRED_CTRL_SET_HOLD = w.getLsbD 30 ∧
      (s.on F.PRED_CTRL_SET_HOLD = false → w.getLsbD 30 = true → t.lasts.pred.held = some t.setContents ∧
        t.lasts.pred.releaseAt = false) ∧
      (s.on F.PRED_CTRL_SET_HOLD = true → w.getLsbD 30 = false → t.lasts.pred.releaseAt = true ∧
        t.lasts.pred.held = s.lasts.pred.held) ∧
      (s.on F.PRED_CTRL_SET_HOLD = w.getLsbD 30 → t.lasts = s.lasts)) ∧
  (∀ s, s.predOn = true → s.eye.fw.running = true → s.due 15 0 1000000 0 = true → Completes .predGainTrim s fun t =>
      (∀ c, (t.predClu c).sumE = 0 ∧ (t.predClu c).sumM = 0) ∧
      ∀ k, k < 16 → Tab.get 0x8000 s.lasts.pred.cal k ≤ 65535 →
        (((s.clustersOfSet k).map (fun c => (s.predClu c).sumE)).sum ≠ 0 →
          (s.gainLimits k).1 ≤ t.f F.PREDSs_GAIN_GAIN k ∧ t.f F.PREDSs_GAIN_GAIN k ≤ (s.gainLimits k).2) ∧
        (((s.clustersOfSet k).map (fun c => (s.predClu c).sumE)).sum = 0 →
          t.f F.PREDSs_GAIN_GAIN k = s.f F.PREDSs_GAIN_GAIN k)) ∧
  (∀ s, s.predOn = true → s.eye.fw.running = true → s.due 15 0 1000000 0 = true → Completes .predGainTrim s fun t =>
      t.lasts.pred.retrim = (if t.affectedSets.all (fun k => !t.atLimit k) then some (s.lasts.pred.retrim.getD s.now) else none))

/-- At a boundary a core that is not ON has the estimate 0, a core on the narrow network one of at most PMAX, and the
forecasts are taken at the last of four. Under the clamp or safe state no run moves. A cluster whose residual exceeds
its threshold trips, and a full run is a fallback, reported as row 0x53, and a second one a withdrawal. The shadow
check shows its core and deviation and counts a failure. (R284, R286, R287, R288, R290) -/
def Obligations.PredictorChecks : Prop :=
  (∀ s, s.predOn = true → s.started = true → s.now.toNat % 250 ≤ 100 → Tab.get 0 s.served (servedKey 12 0) ≠ s.predIdx + 1 →
    ∀ intents, Completes (.predictorEval intents) s fun t => ∀ n, n < Config.coreCount →
      (s.coreOn n = false → t.rd R.PREDn_EST n = 0 ∧ (t.predCore n).fresh = true) ∧
      (s.coreOn n = true → s.lasts.pred.releaseAt = false → s.linear n (s.f F.PREDn_CFG_SET n) = false →
        t.on F.PREDn_EST_LIN n = false ∧ (t.f F.PREDn_EST_EST n : Int) ≤ s.pmaxOf (s.f F.PREDn_CFG_SET n)) ∧
      (s.predIdx % 4 = 3 → (t.click n).forecast = 8 * t.f F.PREDn_EST_EST n ∧ t.lasts.pred.fcAt = some (s.predIdx / 4))) ∧
  (∀ s, s.predOn = true → s.due 13 0 1000 0 = true → s.outHeld = true → Completes .residualCheck s fun t =>
      (∀ c, t.predClu c = s.predClu c) ∧ t.lasts.pred.run = s.lasts.pred.run ∧ t.regs = s.regs) ∧
  (∀ s c (e : Nat × Nat), s.predOn = true → s.due 13 0 1000 0 = true → s.outHeld = false → s.lasts.pred.heldAt = none →
    c < Config.clusterCount → s.clusterChecked c = true → (s.predClu c).est.find? (fun e => e.1 + 2 = s.now.toNat / 1000) = some e →
    max (s.f F.PRED_RES_RES_ABS * 163840000) (s.f F.PRED_RES_RES_THR * ((s.predClu c).pw.map (·.1)).sum) <
      ((160000 * e.2 : Int) - ((s.predClu c).pw.map (·.1)).sum).natAbs * 256 → Completes .residualCheck s fun t =>
      t.on F.PREDCc_STATUS_RES_TRIP c = true ∧
      ((s.predClu c).run + 1 < s.resPersist → (t.predClu c).run = (s.predClu c).run + 1 ∧
        t.on F.PREDCc_STATUS_FALLBACK c = s.on F.PREDCc_STATUS_FALLBACK c) ∧
      (s.resPersist ≤ (s.predClu c).run + 1 → (t.predClu c).run = 0 ∧ t.on F.PREDCc_STATUS_FALLBACK c = true ∧
        (s.on F.PREDCc_STATUS_FALLBACK c = false → t.reported 0x53 c) ∧
        (s.on F.PREDCc_STATUS_FALLBACK c = true → t.on F.PREDCc_STATUS_WITHDRAWN c = true))) ∧
  (∀ s n, s.predOn = true → s.due 14 0 1000 0 = true →
    ((List.range Config.coreCount).map (fun i => (s.lasts.pred.next + i) % Config.coreCount)).find? (fun n => s.coreOn n) = some n →
    Completes .shadowCheck s fun t => t.lasts.pred.next = (n + 1) % Config.coreCount ∧ t.f F.PRED_SHADOW_CORE = n ∧
      ∀ en es, en = s.shadowEst (s.f F.PREDn_CFG_SET n) (s.predCore n) false →
        es = s.shadowEst (s.f F.PREDn_CFG_SET n) (s.predCore n) true → t.fi F.PRED_SHADOW_DEV = satSigned 16 (es - en) ∧
        t.f F.PRED_COUNT_SHD_FAILS = (if (s.f F.PRED_RES_SHD_THR : Int) * max es 16 < (es - en).natAbs * 256
          then (s.f F.PRED_COUNT_SHD_FAILS + 1) % 256 else s.f F.PRED_COUNT_SHD_FAILS))

/-- At its instant a layer's sampled sensors are judged, one that becomes broken is reported as row 0x60, a healthy one is
used as it reads, and each zone takes its value; unsampled sensors are not used. A refresh request ends REF_HOLD_MS
after the zone fell below its release threshold. Backstops stand exactly while a calling sample is held. A write of 1
to BROKEN marks the sensor for its next sample and clears SUBST, a write of 0 sets SUBST to the written bit. A column
whose zone has a value starts there and steps; one without a value has none. At its end time the window closes, and no
core is exempt. (R299, R300, R302, R305, R312, R315, R317, R319, R320, R322) -/
def Obligations.HeatThroughTheLayers : Prop :=
  (∀ s layer readings, s.vgov = true → layer < 3 → s.due (16 + layer) 0 (if layer = 0 then 20000 else 100000) 0 = true →
    Completes (.thermalSample layer readings) s fun t => ∀ u ∈ layerUnits layer,
      (s.unitSampled layer u = true → ∀ a ∈ unitSensors layer u, (t.sens a).sampled = true ∧
        (t.sens a).broken = (s.judge readings a).broken ∧ (t.sens a).last = (s.judge readings a).last ∧
        ((t.sens a).broken = false → (t.sens a).use = ((t.sens a).last.map (·.1)).getD 0) ∧
        (s.healthyBefore a = true → (t.sens a).broken = true → t.reported 0x60 a)) ∧
      (s.unitSampled layer u = false → ∀ a ∈ unitSensors layer u, (t.sens a).sampled = false) ∧
      (t.zone layer u).v = (t.zoneValues layer u).1) ∧
  (∀ s layer unit u, (s.zone layer unit).lowAt = some u → s.vgov = true → layer = 1 ∨ layer = 2 → unit ∈ layerUnits layer →
    s.refOn layer unit = true →
    (s.passed u (1000000 * max 1 (s.f F.THM_REF_REF_HOLD_MS)) = true → Completes (.refreshRelease layer unit) s fun t =>
      t.refOn layer unit = false ∧ { t with regs := s.regs } = s) ∧
    (s.passed u (1000000 * max 1 (s.f F.THM_REF_REF_HOLD_MS)) = false → exec (.refreshRelease layer unit) s = .next s)) ∧
  (∀ s n, s.vgov = true → n < Config.coreCount → Completes (.backstopRelease n) s fun t =>
      (s.bsHeld (s.zone 0 n).thrAt = true ∨ s.bsHeld (s.zone 1 n).ovrAt = true → t.on F.THMn_STATUS_BACKSTOP n = true) ∧
      (s.bsHeld (s.zone 0 n).thrAt = false → s.bsHeld (s.zone 1 n).ovrAt = false → s.bsHeld (s.zone 1 n).thrAt = false →
        t.on F.THMn_STATUS_BACKSTOP n = false) ∧ t.on F.THMn_STATUS_HARD_BS n = s.bsHeld (s.zone 1 n).hardAt) ∧
  (∀ s w, s.portTakes R.THM_SDATA 0 = true → Completes (.sensorUnbreak true w) s fun t => t.rsp.err = false ∧
      (sensPresent (s.f F.THM_SEL_ADDR) = true → t.sens (s.f F.THM_SEL_ADDR) = { s.sens (s.f F.THM_SEL_ADDR) with
        subst := w.getLsbD 30 && !w.getLsbD 31, unbreak := (s.sens (s.f F.THM_SEL_ADDR)).unbreak ||
          (w.getLsbD 31 && (s.sens (s.f F.THM_SEL_ADDR)).broken) }) ∧
      (∀ a, a ≠ s.f F.THM_SEL_ADDR → t.sens a = s.sens a) ∧ { t with thm := s.thm, rsp := s.rsp } = s) ∧
  (∀ s n, s.vgov = true → s.on F.THM_CTRL_MODEL_EN = true → s.due 19 0 20000 0 = true → n < Config.coreCount →
    Completes .columnModelStep s fun t => ((s.zone 1 n).v = none → t.modelT n = none) ∧
      ∀ m : Int, (s.zone 1 n).v = some m → s.thm.cols.find? (fun e => e.1 = n) = none →
        t.modelT n = some ((16 * m + (s.modelPm n - (16 * m - 16 * s.fi F.THMCc_TSINK_TSINK (clusterOf n)) *
          s.f F.THMMs_G_GMS (s.f F.THMn_CFG_MSET n) / 4096) * s.f F.THMMs_A1_AM (s.f F.THMn_CFG_MSET n) / 65536) / 16)) ∧
  (∀ s, s.vgov = true → s.winLive = true → s.pair R.THM_WIN_END_LO R.THM_WIN_END_HI ≤ s.now.toNat → Completes .windowExpire s fun t =>
      t.f F.THM_WIN_STATUS_STATE = 0 ∧ ∀ n, n < Config.coreCount → t.on F.THMn_STATUS_EXEMPT n = false ∧
        t.on F.THMn_STATUS_CRIT n = false)

/-- A wait intent with a mode starts the drain of a resting ON unit, or is refused with REQ_STATUS 0b11. A CFG entry
request of a core or host core waits for that intent; one to ON starts the wake of an OFF domain without a parent; REQ
0b11 is none. A wake starts the ramp from RET or OFF, and is held in the pending slot in safe state or the sag save. A
word of the Insole window is written only with the PLAN_WRITE scope, and not in a fenced bank or a tile that the
firmware keeps (log entry 46, DESIGN CHOICE). (R329, R330, R331, R332, R341, R342, R343, R537) -/
def Obligations.DomainRequests : Prop :=
  (∀ s d mode, s.domUp d = true → waitsForUnit d = true → s.domStep d = 0 → s.domPending d = 3 → mode = 1 ∨ mode = 2 →
    (s.refusal d 0 mode = none → Completes (.waitIntent d mode) s fun t => t.domStep d = 1 ∧ t.domTarget d = mode ∧
      (t.dom d).stepAt = s.now ∧ t.f F.PWRd_CTRL_REQ_STATUS d = 1) ∧
    (∀ c r, s.refusal d 0 mode = some (c, r) → Completes (.waitIntent d mode) s fun t => t.domStep d = 0 ∧
      t.domTarget d = s.domTarget d ∧ t.f F.PWRd_CTRL_REQ_STATUS d = 3)) ∧
  (∀ s d mode, mode ≠ 1 → mode ≠ 2 → (s.dom d).wait = none → exec (.waitIntent d mode) s = .next s) ∧
  (∀ s d w, s.portTakes R.PWRd_CTRL d = true →
    (getBits w 28 2 = 3 → Completes (.domainReqWrite true d w) s fun t => t.rd R.PWRd_STATUS d = s.rd R.PWRd_STATUS d ∧
      t.f F.PWRd_CTRL_PARENT d = getBits w 0 11 ∧ { t with regs := s.regs, rsp := s.rsp } = s) ∧
    (getBits w 28 2 = 1 ∨ getBits w 28 2 = 2 → waitsForUnit d = true → s.domStep d = 0 → Completes (.domainReqWrite true d w) s fun t =>
      (t.dom d).wait = some (getBits w 28 2, 5) ∧ t.f F.PWRd_CTRL_REQ_STATUS d = 1 ∧ t.domStep d = 0) ∧
    (getBits w 28 2 = 0 → getBits w 0 11 = 0x7FF → s.domStep d = 7 → s.domPending d = 3 → s.domFenced d = false → s.safe = false →
      s.sag = false → Completes (.domainReqWrite true d w) s fun t => t.domStep d = 8 ∧ t.domTarget d = 0 ∧
        (domClass d ≠ 9 → t.f F.PWRd_STATUS_WAKE_SRC d = 5))) ∧
  (∀ s d src, s.domUp d = true → wakeAllowed (domClass d) src = true → 3 < src ∨ s.on F.PWRd_CTRL_LINK_WAKE d = true →
    s.domStep d = 6 ∨ s.domStep d = 7 → s.domPending d = 3 → s.domFenced d = false →
    (s.safe = false → s.sag = false → s.parentOf d = none → Completes (.wakeEvent d src) s fun t => t.domStep d = 8 ∧
      t.domTarget d = 0 ∧ (domClass d ≠ 9 → t.f F.PWRd_STATUS_WAKE_SRC d = src)) ∧
    (s.safe = true ∨ s.sag = true → Completes (.wakeEvent d src) s fun t => t.domStep d = s.domStep d ∧ t.domPending d = 0 ∧
      t.on F.PWRd_STATUS_PENDING_ENABLE d = true)) ∧
  (∀ s d src, src ≤ 3 → s.on F.PWRd_CTRL_LINK_WAKE d = false → exec (.wakeEvent d src) s = .next s) ∧
  (∀ s (bank : BitVec 3) (tile : BitVec 8) (word : BitVec 6) w, s.rst.cold = false →
    (s.bitf F.GOV_SEC_SCOPE 0 1 = true → s.bankFenced bank.toNat = false → s.fwObjAt (256 * bank.toNat + tile.toNat) = none → Completes (.insoleWindowWrite true bank tile word w) s fun t =>
      t.rsp.err = false ∧ (∀ i, i < 4 → insByte t.pwr.insole (65536 * bank.toNat + 256 * tile.toNat + 4 * word.toNat + i) =
        BitVec.ofNat 8 (w.toNat / 256 ^ i)) ∧
      (∀ a, a < 65536 * bank.toNat + 256 * tile.toNat + 4 * word.toNat ∨ 65536 * bank.toNat + 256 * tile.toNat + 4 * word.toNat + 4 ≤ a →
        insByte t.pwr.insole a = insByte s.pwr.insole a) ∧ { t with pwr := s.pwr, rsp := s.rsp } = s) ∧
    (s.bitf F.GOV_SEC_SCOPE 0 1 = true → s.bankFenced bank.toNat = true ∨ (s.fwObjAt (256 * bank.toNat + tile.toNat)).isSome = true →
      Completes (.insoleWindowWrite true bank tile word w) s fun t => t.rsp.err = false ∧ { t with rsp := s.rsp } = s) ∧
    (s.bitf F.GOV_SEC_SCOPE 0 1 = false → Completes (.insoleWindowWrite true bank tile word w) s fun t =>
      t.rsp.err = true ∧ { t with rsp := s.rsp } = s))

/-- A step that needs no walk goes on at its end to the step the route table gives for the commit point and the target, or
rests in the target. RELEASE ends in ON. A DRAIN that lasts DRAIN_MAX aborts into RELEASE, reported as row 0x0E, but
only reports for a fenced domain. A newer entry that waits for its wait intent keeps REQ_STATUS. A save-space access
without an answer aborts the walk, reported as row 0x0F. (R333, R334, R335, R337, R339, R340, R554) -/
def Obligations.DomainRoutes : Prop :=
  (∀ s d quiet words walk bad, s.domUp d = true → (s.dom d).held = false → s.sag = false → s.stepEnds d walk quiet = true →
    (s.domStep d = 1 ∨ s.domStep d = 3 ∨ s.domStep d = 4 ∨ s.domStep d = 5 ∨ s.domStep d = 8 ∨ s.domStep d = 9 →
      (s.dom d).abort = false → (s.dom d).fromOff = false → s.domPending d = 3 → domClass d ≠ 9 →
      (∀ n, s.domTarget d < 3 → routeStep (commitOf (s.domStep d)) (s.domTarget d) = some n →
        Completes (.domainCommit d quiet words walk bad) s fun t => t.domStep d = n ∧ t.domTarget d = s.domTarget d ∧
          (t.dom d).stepAt = s.now) ∧
      (s.domTarget d < 3 → routeStep (commitOf (s.domStep d)) (s.domTarget d) = none →
        Completes (.domainCommit d quiet words walk bad) s fun t => t.domStep d = commitOf (s.domStep d) ∧ t.domTarget d = 3)) ∧
    (s.domStep d = 11 → s.domPending d = 3 → Completes (.domainCommit d quiet words walk bad) s fun t => t.domStep d = 0 ∧
      t.domTarget d = 3 ∧ ((s.dom d).abort = false → (s.dom d).wait = none → t.f F.PWRd_CTRL_REQ_STATUS d = 2))) ∧
  (∀ s d quiet words walk bad, s.stepEnds d walk quiet = false → exec (.domainCommit d quiet words walk bad) s = .next s) ∧
  (∀ s d, s.domUp d = true → s.domStep d = 1 → (s.dom d).held = false →
    s.passed (s.dom d).stepAt (max 1 (s.f F.PWRCLk_DLY4_DRAIN_MAX (domClass d)) * 1000 * ((s.dom d).drains + 1)) = true →
    (s.domFenced d = true → Completes (.drainTimeout d) s fun t => t.domStep d = 1 ∧ (t.dom d).drains = (s.dom d).drains + 1 ∧
      t.reported 0x0E d) ∧
    (s.domFenced d = false → s.sag = false → Completes (.drainTimeout d) s fun t => t.domStep d = 11 ∧ t.domTarget d = 0 ∧
      t.on F.PWRd_STATUS_ABORTED d = true ∧ ((s.dom d).wait = none → t.f F.PWRd_CTRL_REQ_STATUS d = 3) ∧ t.reported 0x0E d)) ∧
  (∀ s d, s.domUp d = true → (s.dom d).held = false → govIsland d = false → s.domStep d = 2 ∨ s.domStep d = 10 → s.sag = false →
    s.passed (s.dom d).stepAt 1000 = true → Completes (.saveAccessTimeout d) s fun t => t.domStep d = 11 ∧ t.domTarget d = 0 ∧
      t.on F.PWRd_STATUS_ABORTED d = true ∧ ((s.dom d).wait = none → t.f F.PWRd_CTRL_REQ_STATUS d = 3) ∧ t.reported 0x0F d)

/-- On an Eyelet channel from 0 to 7 that no relay owns: a write of CMD_HI posts the written value with the last CMD_LO, a
64-bit write posts both halves, a 32-bit write of CMD_LO posts nothing; posting sets CMD_FULL. While CMD_FULL is 1
each of the three leaves the posted word and CMD_FULL as they were, draws an error response and sets WR_REFUSED.
(R361, R362) -/
def Obligations.WordsArePosted : Prop :=
  ∀ s ch, ch < 8 → s.relayOwns ch = false →
  (s.on F.EYEc_STATUS_CMD_FULL ch = false →
    (∀ w : Word64, s.portTakes R.EYEc_CMD_HI ch = true → Completes (.eyeletPost true ch false w) s fun t =>
      t.rd R.EYEc_CMD_HI ch = w.setWidth 32 ∧ t.rd R.EYEc_CMD_LO ch = s.rd R.EYEc_CMD_LO ch ∧
      t.on F.EYEc_STATUS_CMD_FULL ch = true ∧ t.rsp.err = false) ∧
    (∀ w : Word64, s.portTakes R.EYEc_CMD_LO ch = true → Completes (.eyeletPost true ch true w) s fun t =>
      t.cmdWord ch = w ∧ t.on F.EYEc_STATUS_CMD_FULL ch = true ∧ t.rsp.err = false) ∧
    (∀ addr w, findReg (cfgOff addr) = some (R.EYEc_CMD_LO, ch) → s.portTakes R.EYEc_CMD_LO ch = true →
      Completes (.registerWrite true addr w) s fun t => t.rd R.EYEc_CMD_LO ch = w ∧
        t.on F.EYEc_STATUS_CMD_FULL ch = false ∧ t.rsp.err = false ∧ { t with regs := s.regs, rsp := s.rsp } = s)) ∧
  (s.on F.EYEc_STATUS_CMD_FULL ch = true →
    (∀ i, (s.portTakes R.EYEc_CMD_HI ch = true ∧ ∃ w, i = .eyeletPost true ch false w) ∨
        (s.portTakes R.EYEc_CMD_LO ch = true ∧ ((∃ w, i = .eyeletPost true ch true w) ∨
          ∃ addr w, findReg (cfgOff addr) = some (R.EYEc_CMD_LO, ch) ∧ i = .registerWrite true addr w)) →
      Completes i s fun t => t.cmdWord ch = s.cmdWord ch ∧ t.on F.EYEc_STATUS_CMD_FULL ch = true ∧ t.rsp.err = true ∧
        t.on F.EYEc_STATUS_WR_REFUSED ch = true ∧ { t with regs := s.regs, rsp := s.rsp, trc := s.trc } = s))

/-- The firmware takes a posted word, whose CMD_FULL clears, or a held word again; h is the state with the word held. A
word that is no repeat and is out of sequence, busy or refused adds no journal entry and leaves EXP_SEQ, so the same
SEQ may be sent again; it is counted. One in sequence, not busy and not refused is entered in the journal and moves
EXP_SEQ on. A repeated word is answered from its entry. (R379) -/
def Obligations.TakenWordsAreDecided : Prop :=
  ∀ s ch unread ok h w full, (s.canTake ch = true ∧ w = s.cmdWord ch ∧ h = s.holdWord ch w ∧ full = false) ∨
    (s.canTake ch = false ∧ s.canRetake ch = true ∧ w = (s.chan ch).held ∧ h = s ∧ full = s.on F.EYEc_STATUS_CMD_FULL ch) →
  (h.repeated ch w = none → wSeq w ≠ h.f F.EYEc_STATUS_EXP_SEQ ch ∨ h.busyCause (wOp w) ≠ 0 ∨ (h.refuses ch w unread ok).isSome = true →
    Completes (.commandTake ch unread ok) s fun t => t.eye.journal = s.eye.journal ∧
      t.f F.EYEc_STATUS_EXP_SEQ ch = s.f F.EYEc_STATUS_EXP_SEQ ch ∧ t.on F.EYEc_STATUS_CMD_FULL ch = full ∧
      t.f F.EYEc_COUNT_NOT_ACCEPTED ch = (s.f F.EYEc_COUNT_NOT_ACCEPTED ch + 1) % 65536 ∧
      (s.chan ch).queue.length < (t.chan ch).queue.length ∧
      (wOp w ≠ 0x40 ∨ ch ≠ s.noticeCh → (t.chan ch).queue.length = (s.chan ch).queue.length + 1)) ∧
  (h.repeated ch w = none → wSeq w = h.f F.EYEc_STATUS_EXP_SEQ ch → h.busyCause (wOp w) = 0 → h.refuses ch w unread ok = none →
    Completes (.commandTake ch unread ok) s fun t => t.f F.EYEc_STATUS_EXP_SEQ ch = (wSeq w + 1) % 65536 ∧
      t.on F.EYEc_STATUS_CMD_FULL ch = full ∧ ∃ e ∈ t.eye.journal, e.ch = ch ∧ e.seq = wSeq w ∧ e.op = wOp w ∧ e.arg = wArg w ∧
        e.effect = false ∧ e.final = false ∧ e.taken = false) ∧
  (∀ e, h.repeated ch w = some e → Completes (.commandTake ch unread ok) s fun t => t.eye.journal = s.eye.journal ∧
      t.f F.EYEc_STATUS_EXP_SEQ ch = s.f F.EYEc_STATUS_EXP_SEQ ch ∧ t.on F.EYEc_STATUS_CMD_FULL ch = full)

/-- The oldest word of a channel's queue is posted with RSP_FULL and REPLY set; a 1 in RSP_FULL takes it, and the take of
a final reply closes its entry. A window word is written unless the page is busy. OVERFLOW is posted when there is
room. An entry whose completion holds gets its final reply. A challenge expires. A new active pair resumes with a
TAKEOVER notice. A mismatch is row 0x02 or 0x03, a lost heartbeat row 0x04. (R366, R370, R371, R376, R380, R391, R394,
R395, R396, R442, R532) -/
def Obligations.RepliesAndTakeover : Prop :=
  (∀ s ch q r, s.postsReplies = true → ch < 9 → s.on F.EYEc_STATUS_RSP_FULL ch = false → s.postHeld ch = false → (s.chan ch).queue = q :: r →
    Completes (.replyPost ch) s fun t => (t.chan ch).queue = r ∧ (t.chan ch).posted = some q ∧ t.on F.EYEc_STATUS_RSP_FULL ch = true ∧
      t.pair R.EYEc_RSP_LO R.EYEc_RSP_HI ch = q.word.toNat ∧ t.bitf F.EYE_IRQ_REPLY 0 ch = true) ∧
  (∀ s ch w q, s.portTakes R.EYEc_STATUS ch = true → w.getLsbD 30 = true → (s.chan ch).posted = some q → s.sag = false →
    Completes (.replyTake true ch w) s fun t => (t.chan ch).posted = none ∧ t.on F.EYEc_STATUS_RSP_FULL ch = false ∧
      (t.chan ch).queue = (s.chan ch).queue ∧ t.rsp.err = false ∧
      ∀ k e, q.jslot = some k → q.fin = true → s.jent? k = some e → e.ch = ch → e.seq = wSeq q.word → e.op = wOp q.word →
        ∃ x, t.jent? k = some x ∧ x.taken = true) ∧
  (∀ s ch w, s.portTakes R.EYEc_STATUS ch = true → w.getLsbD 30 = false → Completes (.replyTake true ch w) s fun t =>
      t.eye = s.eye ∧ t.rsp.err = false) ∧
  (∀ s i w, s.portTakes R.EYE_WINw i = true → s.chanClosed (s.winPlace i).1 = false →
    (s.pageBusy (s.winPlace i).1 = false → Completes (.eyeWinWrite true i w) s fun t =>
      t.pageBytes (s.winPlace i).1 (s.winPlace i).2 4 = leBytes 4 w.toNat ∧ t.rsp.err = false ∧
      (∀ a, a < 4096 * (s.winPlace i).1 + (s.winPlace i).2 ∨ 4096 * (s.winPlace i).1 + (s.winPlace i).2 + 4 ≤ a →
        memByte t.eye.pages a = memByte s.eye.pages a) ∧ { t with eye := s.eye, rsp := s.rsp } = s) ∧
    (s.pageBusy (s.winPlace i).1 = true → Completes (.eyeWinWrite true i w) s fun t => t.rsp.err = true ∧
      t.on F.EYEc_STATUS_PAGE_WR_REFUSED (s.winPlace i).1 = true ∧ t.eye = s.eye)) ∧
  (∀ s, s.fwUp = true → 0 < s.eye.fw.lostPending → s.f F.EYE_NOTICE_QUEUED < 256 → s.relayOwns s.noticeCh = false →
    Completes .noticeOverflow s fun t => t.noticed 0x0B 0 ∧ t.eye.fw.lostPending = 0) ∧
  (∀ s slot ready e st v, s.jent? slot = some e → s.fwUp = true → s.sag = false → e.final = false → e.taken = false → e.op ≠ 0x63 →
    s.completion e = some (st, v) → e.slot = slot → Completes (.commandFinalReply slot ready) s fun t => t.answered e st v) ∧
  (∀ s id sc u n, s.sec.challenge = some (id, sc, u, n) →
    (s.passed u 10000000000 = true → Completes .authChallengeExpire s fun t => t.sec.challenge = none ∧ { t with sec := s.sec } = s) ∧
    (s.passed u 10000000000 = false → exec .authChallengeExpire s = .next s)) ∧
  (∀ s, s.eye.fw.takeover = true → s.vgov = true → s.rst.warm = false → s.rst.cold = false →
    s.domStep (0x460 + s.activePair) = 0 → s.pairFenced s.activePair = false → Completes .takeoverResume s fun t =>
      t.eye.fw.running = true ∧ t.eye.fw.takeover = false ∧ t.eye.fw.unitCmds = [] ∧
      (s.relayOwns s.noticeCh = false → s.f F.EYE_NOTICE_QUEUED < 256 → t.noticed 2 s.activePair)) ∧
  (∀ s p, s.vgov = true → s.rst.cold = false → p < 2 → s.pairFenced p = false → s.awlFires 2 p = false →
    (p = s.activePair → s.on F.EYE_FW_STANDBY_READY = false → Completes (.lockstepMismatch p) s fun t => t.reported 0x02 p) ∧
    (p ≠ s.activePair ∨ (s.on F.EYE_FW_STANDBY_READY = true ∧ s.pairFenced (1 - p) = false) →
      Completes (.lockstepMismatch p) s fun t => t.reported 0x03 p)) ∧
  (∀ s p, s.vgov = true → s.rst.cold = false → p < 2 → s.pairFenced p = false →
    Completes (.firmwareHeartbeatTimeout p) s fun t => t.reported 0x04 p)

/-- For the accepted command that runs next, of each opcode listed with its result: the command takes effect, its entry is
final, and the reply DONE with that result is in its channel's queue. (R380, R386, R391) -/
def Obligations.AtOnceCommandsAreAnswered : Prop :=
  ∀ s e, ∀ p ∈ ([(.version, 0x01, fwVersion), (.ping, 0x02, e.arg.toNat), (.phaseMap, 0x04, bitCount s.phasesDiffer 96),
    (.platformCap, 0x13, s.f F.LOOP_PCAP_PCAP),
    (.railRead, 0x14, s.f F.RAILr_MEAS_IOUT (argRail e.arg.toNat) * 2 ^ 16 + s.f F.RAILr_MEAS_VOUT (argRail e.arg.toNat)),
    (.jobRead, 0x27, s.pair R.JOBm_EC_LO R.JOBm_EC_HI (e.arg.toNat % 64)),
    (.windowStatus, 0x32, s.f F.THM_WIN_STATUS_WIN_ID * 2 ^ 16 + s.f F.THM_WIN_STATUS_SLOW_SENT * 4 + s.f F.THM_WIN_STATUS_STATE),
    (.planTile, 0x41, s.eye.fw.staged.length + 1), (.planStatus, 0x42, planVersion s.eye.fw.planHdr),
    (.planDiscard, 0x44, s.eye.fw.staged.length), (.planStore true, 0x43, s.eye.fw.staged.length),
    (.traceStatus, 0x53, s.f F.TRC_COUNT_GAPS * 2 ^ 16 + min ((131072 - s.trcFree) * 65536 / 131072) 65535),
    (.faultList, 0x60, s.unclearedRows.length), (.marginSchedule, 0x71, (s.trd.sched.map (fun q => q.2.1)).getD 0),
    (.treadReport, 0x72, instCount),
    (.predStatus, 0x73, s.f F.PRED_STATUS_STATE * 2 ^ 30 + ((List.range 16).filter s.atLimit).length * 2 ^ 16 + s.f F.PRED_STATUS_SET_LIN),
    (.moduleStatus, 0x81, ((List.range 64).filter (fun k => s.memberMap.testBit k)).length),
    (.moduleBudget, 0x82, (s.rd R.LACE_BUDGET).toNat), (.authResponse, 0xA1, e.result.toNat % 16), (.authDrop, 0xA2, 0),
    (.fwBegin, 0xF0, 0), (.fwChunk, 0xF1, s.eye.fw.img.length + e.arg.toNat % 8192)] : List (Instr × Nat × Nat)),
  s.runs p.2.1 e → Completes p.1 s fun t => t.done e p.2.2

/-- PLATFORM_CAP and CLAMP_FORCE write their fields, JOB_METER the enable; plan tiles are staged, discarded or stored; the
census freezes the snapshot at part 0; traces stop; a row clears; an armed checker is shown; a margin schedule counts
from now; scopes are granted and dropped, a challenge issued; an image is begun, received and committed or refused for
its signature or its version; predictions resume. (R97, R295, R386, R387, R401, R443, R449, R525, R532, R534, R535,
R560) -/
def Obligations.CommandsTakeEffect : Prop :=
  (∀ (s : State) (e : JEnt), s.runs 0x13 e → s.takes R.LOOP_PCAP 0 = true → Completes .platformCap s fun t => t.f F.LOOP_PCAP_PCAP = e.arg.toNat % 65536) ∧
  (∀ (s : State) (e : JEnt), s.runs 0x16 e → s.takes R.CRD_CLAMP 0 = true → Completes .clampForce s fun t =>
      t.on F.CRD_CLAMP_FORCE = e.arg.getLsbD 0 ∧ t.done e (s.f F.CRD_CLAMP_FORCE)) ∧
  (∀ (s : State) (e : JEnt), s.runs 0x26 e → s.takes R.JOBm_CTRL (e.arg.toNat % 64) = true →
    (e.arg.getLsbD 9 = false → Completes .jobMeter s fun t => t.on F.JOBm_CTRL_EN (e.arg.toNat % 64) = e.arg.getLsbD 8 ∧
      t.done e (s.f F.JOBm_CTRL_STATUS (e.arg.toNat % 64))) ∧
    (e.arg.getLsbD 9 = true → Completes .jobMeter s fun t => t.on F.JOBm_CTRL_EN (e.arg.toNat % 64) = e.arg.getLsbD 8 ∧
      t.f F.JOBm_CTRL_STATUS (e.arg.toNat % 64) = 1 ∧ Tab.get 0 t.crd.jobClear (e.arg.toNat % 64) = s.epoch + 1 ∧ t.hasEffect e false)) ∧
  (∀ (s : State) (e : JEnt), s.runs 0x41 e → Completes .planTile s fun t => t.eye.fw.staged = s.eye.fw.staged ++ [s.pageBytes e.ch 0 256]) ∧
  (∀ (s : State) (e : JEnt), s.runs 0x44 e → Completes .planDiscard s fun t => t.eye.fw.staged = []) ∧
  (∀ (s : State) (e : JEnt), s.runs 0x43 e → (Completes (.planStore true) s fun t => t.flt.mram = memWrite s.flt.mram 0x100000 s.eye.fw.staged.flatten) ∧
    (Completes (.planStore false) s fun t => t.answered e ST_REFUSED (refusedResult RS_CONDITION 0) ∧ t.hasEffect e true)) ∧
  (∀ (s : State) (e : JEnt), s.runs 0x03 e → Completes .stateCensus s fun t => (∃ n, t.done e n) ∧
      (e.arg.toNat % 256 = 0 → t.eye.fw.snapshot = s.census ∧ t.eye.fw.snapGen = s.f F.EYE_CENSUS_GEN) ∧
      (e.arg.toNat % 256 ≠ 0 → t.eye.fw.snapshot = s.eye.fw.snapshot)) ∧
  (∀ (s : State) (e : JEnt), s.runs 0x51 e → s.takes R.TRC_CTRL 0 = true → Completes .traceStop s fun t => t.on F.TRC_CTRL_RUN = false ∧ ∃ n, t.done e n) ∧
  (∀ (s : State) (e : JEnt), s.runs 0x50 e → s.takes R.TRC_CTRL 0 = true → s.takes R.TRC_SRC 0 = true → Completes .traceStart s fun t =>
      t.on F.TRC_CTRL_RUN = true ∧ t.f F.TRC_SRC_MASK = e.arg.toNat % 32768 ∧ t.done e (s.f F.TRC_SRC_MASK)) ∧
  (∀ (s : State) (e : JEnt) row, s.runs 0x61 e → e.arg.toNat % 512 = row → row ≠ 0 → row < 256 → faultRowUsed row = true → s.faultLevel row = false →
    Completes .faultClear s fun t => t.uncleared row = false ∧ t.done e (if s.uncleared row then 1 else 0)) ∧
  (∀ (s : State) (e : JEnt), s.runs 0x64 e → s.scopeAwl = true → e.arg.toNat % 65536 / 4096 ≤ 3 → e.arg.toNat % 65536 / 4096 ≠ 1 → Completes .awlInject s fun t =>
      t.f F.FLT_AWL_STATUS = 1 ∧ t.f F.FLT_AWL_CHECKER = e.arg.toNat % 65536 ∧ t.on F.FLT_AWL_REPEAT = e.arg.getLsbD 16 ∧ t.done e 1) ∧
  (∀ (s : State) (e : JEnt), s.runs 0x70 e → Completes .replanMargins s fun t => ∃ n, t.done e n) ∧
  (∀ (s : State) (e : JEnt), s.runs 0x71 e → Completes .marginSchedule s fun t => t.trd.sched =
      (if e.arg.toNat % 65536 = 0 then none else some (s.service, e.arg.toNat % 65536, 0))) ∧
  (∀ (s : State) (e : JEnt), s.runs 0x74 e → s.takes R.PRED_RESUME 0 = true → s.on F.PRED_CTRL_EN = true → s.on F.PRED_CTRL_FORCE_LIN = false →
    Completes .predResume s fun t => t.f F.PRED_STATUS_STATE = 1 ∧ t.done e s.affectedSets.length) ∧
  (∀ (s : State) (e : JEnt), s.runs 0xA0 e → Completes .authChallenge s fun t => ∃ id n, t.sec.challenge = some (id, e.arg.toNat % 256, s.now, n) ∧
      n.length = 48 ∧ t.done e id) ∧
  (∀ (s : State) (e : JEnt), s.runs 0xA1 e → Completes .authResponse s fun t => t.f F.GOV_SEC_SCOPE = e.result.toNat % 16) ∧
  (∀ (s : State) (e : JEnt), s.runs 0xA2 e → Completes .authDrop s fun t => t.f F.GOV_SEC_SCOPE = 0 ∧ t.f F.FLT_AWL_STATUS ≠ 1) ∧
  (∀ (s : State) (e : JEnt), s.runs 0xF0 e → Completes .fwBegin s fun t => t.eye.fw.imgSize = some e.arg.toNat ∧ t.eye.fw.img = [] ∧ t.eye.fw.nextChunk = 0) ∧
  (∀ (s : State) (e : JEnt), s.runs 0xF1 e → Completes .fwChunk s fun t => t.eye.fw.nextChunk = s.eye.fw.nextChunk + 1 ∧
      t.eye.fw.img = s.eye.fw.img ++ s.pageBytes e.ch 0 (e.arg.toNat % 8192)) ∧
  (∀ (s : State) (e : JEnt) ok, s.runs 0xF2 e →
    (ok = false ∨ imgSound s.eye.fw.img = false → Completes (.fwCommit ok) s fun t =>
      t.answered e ST_REFUSED (refusedResult RS_SIGNATURE 0) ∧ t.flt.mram = s.flt.mram) ∧
    (ok = true → imgSound s.eye.fw.img = true → imgSvn s.eye.fw.img < s.bootCounter → Completes (.fwCommit ok) s fun t =>
      t.answered e ST_REFUSED (refusedResult RS_ROLLBACK 0) ∧ t.flt.mram = s.flt.mram) ∧
    (ok = true → imgSound s.eye.fw.img = true → s.bootCounter ≤ imgSvn s.eye.fw.img → Completes (.fwCommit ok) s fun t =>
      t.done e (imgVersion s.eye.fw.img) ∧ t.eye.fw.committed = some (imgVersion s.eye.fw.img, 1 - s.f F.GOV_SEC_SLOT) ∧
      t.flt.mram = memWrite s.flt.mram (imgAddr (1 - s.f F.GOV_SEC_SLOT)) s.eye.fw.img))

/-- RAIL_TARGET sets the host target; RAIL_ON writes ON; SEQUENCE and PHASE_EN reach the sequencer and the phase; SET_ROLE
writes the role; each unit message goes out with its code; DOMAIN_REQ starts a wake; a window opens under the
command's SEQ or closes; SAFE_EXIT ends safe state; a trigger is counted; UNFENCE re-admits a sensor; REMOTE is
outstanding; FW_ACTIVATE names the slot and begins a warm reset; PLAN_LOAD of a bare header completes. (R104, R105,
R188, R193, R220, R322, R329, R386, R387, R430, R444, R448) -/
def Obligations.DeferredCommandsTakeEffect : Prop :=
  (∀ (s : State) (e : JEnt), s.runs 0x10 e → 400 ≤ e.arg.toNat % 4096 → e.arg.toNat % 4096 ≤ 3600 → s.trackMode (argRail e.arg.toNat) ≠ 1 →
    Completes .railTarget s fun t => t.f F.RAILr_TARGET_CODE (argRail e.arg.toNat) = e.arg.toNat % 4096 ∧
      (s.railOn (argRail e.arg.toNat) = true → t.hasEffect e false) ∧ (s.railOn (argRail e.arg.toNat) = false → t.hasEffect e true)) ∧
  (∀ (s : State) (e : JEnt), s.runs 0x11 e → s.seqBusy = false → e.arg.getLsbD 0 = s.on F.RAILr_CTRL_ON (argRail e.arg.toNat) → Completes .railOn s fun t =>
      t.on F.RAILr_CTRL_ON (argRail e.arg.toNat) = e.arg.getLsbD 0 ∧ t.hasEffect e false) ∧
  (∀ (s : State) (e : JEnt), s.runs 0x11 e → s.seqBusy = false → e.arg.getLsbD 0 = false → s.railOn (argRail e.arg.toNat) = true →
    s.on F.RAILr_CTRL_ON (argRail e.arg.toNat) = true → Completes .railOn s fun t => t.railSt (argRail e.arg.toNat) = 3 ∧
      t.on F.RAILr_CTRL_ON (argRail e.arg.toNat) = false ∧ t.hasEffect e false) ∧
  (∀ (s : State) (e : JEnt), s.runs 0x11 e → s.seqBusy = true → Completes .railOn s fun t => t.regs = s.regs ∧ t.eye.journal = s.eye.journal) ∧
  (∀ (s : State) (e : JEnt), s.runs 0x12 e → Completes .sequence s fun t => t.on F.SEQ_CTRL_UP = e.arg.getLsbD 0 ∧ t.hasEffect e false) ∧
  (∀ (s : State) (e : JEnt), s.runs 0x15 e → e.arg.getLsbD 8 = true → s.phSt (e.arg.toNat % 128) = PH_OFF → e.arg.toNat % 128 < Config.phaseCount →
    Completes .phaseEn s fun t => t.phSt (e.arg.toNat % 128) = PH_PROBE ∧ t.hasEffect e false) ∧
  (∀ (s : State) (e : JEnt), s.runs 0x20 e → s.takes R.CRDSn_ROLE (argCore e.arg.toNat) = true → Completes .setRole s fun t =>
      t.f F.CRDSn_ROLE_ROLE (argCore e.arg.toNat) = e.arg.toNat % 4 ∧ t.hasEffect e false) ∧
  (∀ (s : State) (e : JEnt), ∀ p ∈ ([(.setPriority, 0x21, 1, argValue e.arg.toNat % 64 * 4), (.setCap, 0x22, 3, argValue e.arg.toNat % 4096 * 2 ^ 20),
      (.setJob, 0x23, 2, argValue e.arg.toNat % 64 * 2 ^ 16), (.readmitPart, 0x24, 4, argValue e.arg.toNat % 2), (.unitPing, 0x25, 5, 0)]
        : List (Instr × Nat × Nat × Nat)), s.runs p.2.1 e → Completes p.1 s fun t =>
      t.eye.fw.unitCmds = s.eye.fw.unitCmds ++ [{
        core := argCore e.arg.toNat, slot := e.slot, word := unitWord (argEpoch e.arg.toNat) p.2.2.1 p.2.2.2 }] ∧ t.eye.journal = s.eye.journal) ∧
  (∀ (s : State) (e : JEnt) d, s.runs 0x28 e → d = e.arg.toNat % 2048 → e.arg.toNat / 4096 % 4 = 0 → domainPresent d = true → s.domStep d = 7 →
    s.domPending d = 3 → s.domFenced d = false → s.safe = false → s.parentOf d = none → Completes .domainReq s fun t => t.domStep d = 8 ∧ t.domTarget d = 0 ∧ t.hasEffect e false) ∧
  (∀ (s : State) (e : JEnt), s.runs 0x30 e → s.f F.THM_WIN_STATUS_STATE = 0 → Completes .windowOpen s fun t => t.f F.THM_WIN_STATUS_STATE = 1 ∧
      t.f F.THM_WIN_STATUS_WIN_ID = e.seq % 65536 ∧ ∃ n, t.done e n) ∧
  (∀ (s : State) (e : JEnt), s.runs 0x31 e → s.winLive = true → Completes .windowClose s fun t => t.f F.THM_WIN_STATUS_STATE = 0 ∧
      t.done e (s.winLeft / 1000)) ∧
  (∀ (s : State) (e : JEnt), s.runs 0x62 e → s.safe = true → s.safeExitRefused = none → Completes .safeExit s fun t => t.safe = false ∧ t.done e 0) ∧
  (∀ (s : State) (e : JEnt), s.runs 0x52 e → s.tracing = true → s.bitf F.TRC_CTRL_TRIG_EN 0 0 = true → Completes .traceTrigger s fun t =>
      t.f F.TRC_COUNT_TRIGGERS = (s.f F.TRC_COUNT_TRIGGERS + 1) % 65536 ∧ (t.hasEffect e false ∨ t.hasEffect e true)) ∧
  (∀ (s : State) (e : JEnt) u bad, s.runs 0x63 e → unfenceUnit e.arg.toNat = some (.sensor, u) → Completes (.unfence bad) s fun t =>
      Tab.get false t.flt.fencedSensors u = false ∧ (t.sens u).broken = true ∧ (t.sens u).unbreak = true ∧ t.hasEffect e false) ∧
  (∀ (s : State) (e : JEnt), s.runs 0x80 e → s.lace.relays.length < 16 → s.memberMap.testBit (e.arg.toNat % 64) = true → Completes .remote s fun t =>
      (∃ r, t.lace.relays = s.lace.relays ++ [r] ∧ r.slot = e.slot ∧ r.site = e.arg.toNat % 64 ∧
        r.word = BitVec.ofNat 64 (leNat (s.pageBytes e.ch 0 8))) ∧ t.hasEffect e false) ∧
  (∀ (s : State) (e : JEnt) v slot, s.runs 0xF3 e → s.eye.fw.committed = some (v, slot) → Completes .fwActivate s fun t => t.rst.warm = true ∧
      t.rst.warmCause = 3 ∧ t.eye.fw.activating = some slot ∧ t.eye.fw.running = false ∧ t.hasEffect e false) ∧
  (∀ (s : State) (e : JEnt) n h, s.runs 0x40 e → s.planInProgress = none → planOrder (s.planTiles (e.arg.getLsbD 0)) = [h] → tileType h = 8 → e.step = 0 →
    Completes (.planLoad n) s fun t => t.eye.fw.planHdr = planHeader (s.planTiles (e.arg.getLsbD 0)) ∧ t.hasEffect e true)

/-- Symbol lock, alignment, its timeout and a loss move a port as its state table says, a loss of an UP port being row
0x70. Failed and reserved frames are counted. HELLO and DELAY_REQ go out when due, a DELAY_REQ is answered. Three
HELLOs of one site and sixteen delays bring the port UP. A message not for this governor alone goes on by the other
port, or back where wrapped, with HOPS raised, and ends at its source or at 63. (R407, R408, R410, R413, R414, R415,
R421, R422) -/
def Obligations.LacePortsAndMessages : Prop :=
  (∀ s p, s.portOk p = true →
    (s.portSt p = 0 → Completes (.laceSymbolLock p) s fun t => t.portSt p = 1 ∧ (t.port p).at_ = s.now) ∧
    (s.portSt p = 1 → s.since (s.port p).at_ ≤ 10000 → Completes (.laceLanesAligned p) s fun t => t.portSt p = 2 ∧
      (t.port p).at_ = s.now ∧ (t.port p).hellos = 0 ∧ (t.port p).delays = []) ∧
    (s.portSt p = 1 → s.passed (s.port p).at_ 10000 = true → Completes (.laceTrainTimeout p) s fun t => t.portSt p = 0) ∧
    (∀ lost, s.portUp p = true → lost = true ∨ s.passed (s.port p).at_ 300000 = true ∨ 16 ≤ s.crcRecent p →
      Completes (.lacePortDown p lost) s fun t => t.portSt p = 0 ∧ t.reported 0x70 (s.f F.LACE_PORTp_STATUS_NEIGHBOUR p)) ∧
    (s.portSt p = 0 → s.on F.LACE_CTRL_WAKE_PEER = true → s.due 20 p 1000000 0 = true → Completes (.laceWakePatternSend p) s fun t =>
      Tab.get 0 t.lace.wakes p = Tab.get 0 s.lace.wakes p + 1 ∧ { t with lace := s.lace, served := s.served } = s) ∧
    (1 ≤ s.portSt p → s.portSt p ≤ 3 → Completes (.laceFrameCrcFail p) s fun t =>
      t.f F.LACE_PORTp_COUNT_CRC_ERR p = (s.f F.LACE_PORTp_COUNT_CRC_ERR p + 1) % 2 ^ F.LACE_PORTp_COUNT_CRC_ERR.len ∧
      (t.port p).crc = (s.now :: (s.port p).crc).take 16 ∧ { t with regs := s.regs, lace := s.lace } = s) ∧
    (s.portSt p = 2 ∨ s.portSt p = 3 →
      (Completes (.laceReservedType p) s fun t =>
        t.f F.LACE_PORTp_COUNT_DROPPED p = (s.f F.LACE_PORTp_COUNT_DROPPED p + 1) % 2 ^ F.LACE_PORTp_COUNT_DROPPED.len ∧
        { t with regs := s.regs } = s) ∧
      (s.due 21 p 100000 0 = true → Completes (.laceHelloSend p) s fun t => t.lace.out = laceFrames {
          typ := 1, src := s.site, mseq := s.lace.mseq,
          body := [s.site * 2 ^ 26 + (if s.on F.LACE_ID_HEAD_EN then 2 ^ 25 else 0) + (if s.isMember then 2 ^ 24 else 0)] } p (p == 1) ∧
        { t with lace := s.lace, served := s.served } = s) ∧
      (∀ early, s.due 22 p 10000 0 = true → Completes (.laceDelayReqSend p early) s fun t =>
        (t.port p).t1 = some (s.stamp16 early).toNat ∧ t.lace.out.length = 1 ∧ { t with lace := s.lace, served := s.served } = s))) ∧
  (∀ s p frames m n, s.laceRx p frames 1 = some m → n = (if (s.port p).helloSite = m.w 0 / 2 ^ 26 then (s.port p).hellos + 1 else 1) →
    (s.portSt p = 2 → n < 3 ∨ (s.port p).delays.length < 16 → Completes (.laceHello p frames) s fun t => t.portSt p = 2 ∧
      (t.port p).hellos = n ∧ (t.port p).helloSite = m.w 0 / 2 ^ 26) ∧
    (s.portSt p = 2 → 3 ≤ n → 16 ≤ (s.port p).delays.length → Completes (.laceHello p frames) s fun t => t.portSt p = 3 ∧
      t.f F.LACE_PORTp_STATUS_NEIGHBOUR p = m.w 0 / 2 ^ 26 % 64) ∧
    (s.portSt p = 3 → Completes (.laceHello p frames) s fun t => t.portSt p = 3 ∧ (t.port p).at_ = s.now)) ∧
  (∀ s p frames m res, s.laceRx p frames 2 = some m → Completes (.laceDelayReq p frames res) s fun t => t.lace.out = laceFrames {
      typ := 3, src := s.site, mseq := s.lace.mseq, body := [res] } p (p == 1) ∧ { t with lace := s.lace } = s) ∧
  (∀ s p frames early m u, s.laceRx p frames 3 = some m → (s.port p).t1 = some u → Completes (.laceDelayRsp p frames early) s fun t =>
      (t.port p).t1 = none ∧ (t.port p).delays = (((s.stamp16 early - u) - m.w 0) :: (s.port p).delays).take 16) ∧
  (∀ s p frames m ringW res, parseMsg frames = some (m, ringW) → s.portOk p = true → s.portUp p = true →
    msgLength m = some frames.length → neighbourOnly m.typ = false → m.bcast = true ∨ m.dst ≠ s.site →
    (m.src = s.site ∨ 63 ≤ m.hops + 1 → Completes (.laceMessageForward p frames res) s fun t => t.lace.out = [] ∧
      { t with lace := s.lace } = s) ∧
    (m.src ≠ s.site → m.hops + 1 < 63 → m.typ ≠ 4 → Completes (.laceMessageForward p frames res) s fun t =>
      t.lace.out = laceFrames { m with hops := m.hops + 1 } (if s.portUp (1 - p) then 1 - p else p) ringW ∧
      { t with lace := s.lace } = s) ∧
    (m.src ≠ s.site → m.hops + 1 < 63 → m.typ = 4 → Completes (.laceMessageForward p frames res) s fun t =>
      t.lace.out = laceFrames { m with hops := m.hops + 1, body := [m.w 0, m.w 1,
        (m.w 2 + s.f F.LACE_PORTp_STATUS_DELAY p + res) % 2 ^ 32] } (if s.portUp (1 - p) then 1 - p else p) ringW ∧
      { t with lace := s.lace } = s))

/-- The head sends TIME when due and ends its start-up hold after 1 ms. A member takes the offset of a TIME message, steps
where it is 1 µs behind, and loses ALIGNED beyond four times ALIGN or without TIME for 1 ms. JOIN is sent; the head
records it unless the site is fenced, and admits the site at its next MEMBERS; MEMBERS makes the receiver a member or
not; a silent member is dropped; a lost head clears MEMBER; a site never admitted is in conflict, row 0x71. (R417,
R418, R420, R422, R423, R424, R425) -/
def Obligations.LaceTimeAndMembership : Prop :=
  (∀ s, s.portsOn = true → s.isHead = true → s.lace.timeOn = true → s.due 23 0 10000 0 = true → s.portUp 0 = true ∨ s.portUp 1 = true →
    Completes .laceTimeSend s fun t => t.lace.out.length = 6 ∧ t.lace.mseq = (s.lace.mseq + 1) % 128 ∧
      { t with lace := s.lace, served := s.served } = s) ∧
  (∀ s p frames (early : Nat) m (o : Int), s.isHead = false → s.laceRx p frames 4 = some m →
    o = (BitVec.ofNat 64 s.now.toNat - BitVec.ofNat 64 (m.w 0 * 2 ^ 32 + m.w 1)).toInt * 16 - early - m.w 2 →
    (s.f F.TIME_STEP_STATUS ≠ 1 → Completes (.laceTime p frames early) s fun t => t.fi F.LACE_TIME_OFFS = satSigned F.LACE_TIME_OFFS.len o ∧
      t.lace.headSite = some m.src ∧ t.lace.timeAt = s.now ∧ t.on F.LACE_TIME_NO_TIME = false ∧
      (o ≤ -16000 → t.f F.TIME_STEP_STATUS = (if s.on F.TIME_STATUS_ON_OSC then 3 else 1)) ∧
      (4 * max 1 (s.f F.LACE_ALIGN_ALIGN) < o.natAbs → t.on F.LACE_TIME_ALIGNED = false)) ∧
    (s.f F.TIME_STEP_STATUS = 1 → Completes (.laceTime p frames early) s fun t => t.f F.LACE_TIME_OFFS = s.f F.LACE_TIME_OFFS ∧
      t.lace.timeAt = s.now ∧ t.on F.LACE_TIME_NO_TIME = false ∧ t.rd R.TIME_TRIM = s.rd R.TIME_TRIM)) ∧
  (∀ s, s.laceOn = true → s.isHead = false → s.on F.LACE_TIME_NO_TIME = false → s.passed s.lace.timeAt 1000000 = true →
    Completes .laceTimeTimeout s fun t => t.on F.LACE_TIME_NO_TIME = true ∧ t.on F.LACE_TIME_ALIGNED = false ∧ t.lace.alignRun = 0) ∧
  (∀ s, s.laceOn = true → s.isHead = true → s.lace.timeOn = false → s.passed s.lace.startAt 1000000 = true →
    Completes .laceHeadStartHoldEnd s fun t => t.lace.timeOn = true ∧ { t with lace := s.lace } = s) ∧
  (∀ s, s.portsOn = true → s.isHead = false → s.isMember = false → s.portUp 0 = true ∨ s.portUp 1 = true → s.lace.measured = true →
    s.due 24 0 100000 0 = true → Completes .laceJoinSend s fun t => t.lace.joinAt = some (s.lace.joinAt.getD s.now) ∧
      t.lace.out.length = 6 ∧ { t with lace := s.lace, served := s.served } = s) ∧
  (∀ s p frames m, s.isHead = true → s.laceRx p frames 5 = some m → Completes (.laceJoin p frames) s fun t =>
      t.lace.joinTime = max s.lace.joinTime (m.w 1 * 2 ^ 32 + m.w 2) ∧
      t.lace.members = s.lace.members ∧
      (Tab.get false s.flt.fencedPeers (m.w 0 % 64) = false → s.lace.members.testBit (m.w 0 % 64) = false →
        t.lace.joins.testBit (m.w 0 % 64) = true) ∧
      (Tab.get false s.flt.fencedPeers (m.w 0 % 64) = true → t.lace.joins = s.lace.joins)) ∧
  (∀ s, s.portsOn = true → s.isHead = true → s.due 25 0 100000 0 = true → Completes .laceMembersSend s fun t =>
      t.memberMap = setBit t.lace.members s.site true % 2 ^ 64 ∧ t.isMember = true ∧ t.lace.joins = 0 ∧
      ∀ k, k < 64 → t.lace.members.testBit k = (s.lace.members.testBit k || (s.lace.joins.testBit k && k != s.site))) ∧
  (∀ s p frames m, s.isHead = false → s.laceRx p frames 6 = some m → Completes (.laceMembers p frames) s fun t =>
      t.isMember = (m.w 1 * 2 ^ 32 + m.w 0).testBit s.site ∧ t.lace.membersAt = s.now ∧ t.lace.headLost = false ∧
      t.lace.headSite = some m.src ∧ (t.isMember = true → t.lace.joinAt = none)) ∧
  (∀ s site, s.laceOn = true → s.isHead = true → site ≠ s.site → s.lace.members.testBit site = true →
    s.passed (Tab.get 0 s.lace.reportAt site) 300000 = true → Completes (.laceMemberTimeout site) s fun t =>
      t.lace.members.testBit site = false ∧ t.lace.relays = s.lace.relays.filter (fun r => !(r.site == site))) ∧
  (∀ s, s.laceOn = true → s.isHead = false → s.isMember = true → s.passed s.lace.membersAt 1000000 = true →
    Completes .laceHeadLost s fun t => t.lace.headLost = true ∧ t.on F.LACE_SHARE_NO_SHARE = true ∧ t.isMember = false ∧
      { t with regs := s.regs, lace := s.lace } = s) ∧
  (∀ s u, s.lace.joinAt = some u → s.laceOn = true → s.isMember = false → s.portUp 0 = true ∨ s.portUp 1 = true →
    s.on F.LACE_ID_SITE_CONFLICT = false → s.passed u 1000000 = true → Completes .laceSiteConflict s fun t =>
      t.on F.LACE_ID_SITE_CONFLICT = true ∧ t.reported 0x71 s.site)

/-- A report carries the mean use, the want and the debt; the head keeps each member's REPORT and DEBT and gives each
member the share of the water level; a share, or the fallback after 300 µs, is class 0xA. SLOW is recorded. A member
writes a relayed page and posts the word, and sends its replies on. The head completes REMOTE with the reply, and
repeats a command that stays unanswered for 100 µs. (R426, R427, R428, R429, R430, R431, R432, R433, R435) -/
def Obligations.LaceBudgetAndRelays : Prop :=
  (∀ s, s.laceOn = true → s.isHead = true ∨ s.isMember = true → s.due 26 0 100000 0 = true → Completes .laceReportSend s fun t =>
      t.f F.LACE_DEBT_DEBT = s.laceDebt ∧ t.f F.LACE_REPORT_USED = s.laceUsed ∧
      t.f F.LACE_REPORT_WANT = min (s.f F.LACE_LIMIT_MAXW) (s.laceUsed + s.laceStall) ∧ t.lace.stallSum = 0 ∧ t.lace.stallNum = 0) ∧
  (∀ s p frames m, s.isHead = true → s.laceRx p frames 7 = some m → Completes (.laceReport p frames) s fun t =>
      t.f F.LACE_SITEs_RPT_WANT m.src = m.w 0 / 65536 % 65536 ∧ t.f F.LACE_SITEs_RPT_USED m.src = m.w 0 % 65536 ∧
      Tab.get 0 t.lace.reportAt m.src = s.now ∧ { t with regs := s.regs, lace := s.lace } = s) ∧
  (∀ s p frames m, s.isHead = true → s.laceRx p frames 9 = some m → Completes (.laceDebt p frames) s fun t =>
      Tab.get 0 t.lace.debts m.src = m.w 0 % 65536 ∧ t.on F.LACE_SITEs_SHR_DEBT_FLAG m.src = decide (0 < m.w 0 % 65536) ∧
      { t with regs := s.regs, lace := s.lace } = s) ∧
  (∀ (s : State) (floor : Nat) (want : Nat → Nat) (q : Nat × Nat), s.laceOn = true → s.isHead = true → s.due 27 0 100000 50000 = true →
    (s.rd R.LACE_BUDGET).toNat ≠ 0 → floor = s.f F.LACE_FLOOR_FLOOR_W →
    (∀ k, want k = shareWant floor (s.f F.LACE_SITEs_RPT_WANT k) (s.f F.LACE_SITEs_RPT_USED k) (Tab.get 0 s.lace.debts k)) →
    s.headMembers.length * floor ≤ (s.rd R.LACE_BUDGET).toNat →
    q = shareLevel (s.headMembers.map want) ((s.rd R.LACE_BUDGET).toNat - s.headMembers.length * floor) →
    Completes .laceShareCompute s fun t => ∀ k ∈ s.headMembers, t.f F.LACE_SITEs_SHR_SHARE k =
      min (min (floor + min (want k) q.1 + q.2 / s.headMembers.length) (s.f F.LACE_LIMIT_MAXW)) 0xFFFF) ∧
  (∀ s p frames m, s.isHead = false → s.laceRx p frames 8 = some m → Completes (.laceShare p frames) s fun t =>
      t.f F.LACE_SHARE_SHARE = m.w 0 % 65536 ∧ t.on F.LACE_SHARE_NO_SHARE = false ∧ t.lace.shareAt = s.now ∧
      (Tab.get {} t.loop.src 0xA000).v = (m.w 0 % 65536 : Nat)) ∧
  (∀ s, s.laceOn = true → s.passed s.lace.shareAt 300000 = true → Completes .laceShareTimeout s fun t =>
      t.f F.LACE_SHARE_SHARE = s.f F.LACE_LIMIT_FALLBACK_W ∧ t.on F.LACE_SHARE_NO_SHARE = true ∧
      (Tab.get {} t.loop.src 0xA000).v = s.f F.LACE_LIMIT_FALLBACK_W ∧ (Tab.get {} t.loop.src 0xA000).t = s.now) ∧
  (∀ s p frames m, s.laceRx p frames 10 = some m → Completes (.laceSlow p frames) s fun t =>
      t.f F.LACE_SLOW_SRC_SITE = m.src % 64 ∧ t.f F.LACE_SLOW_SRC_WIN_ID = m.w 0 / 65536 % 65536 ∧
      t.f F.LACE_SLOW_DELAY_DELAY_US = m.w 1 % 2 ^ 32) ∧
  (∀ s p frames m, s.laceOn = true → s.relayOwns s.relayCh = true → s.laceRx p frames 0xB = some m →
    (s.on F.EYEc_STATUS_CMD_FULL s.relayCh = false → Completes (.laceRelayCmd p frames) s fun t => t.cmdWord s.relayCh = m.word ∧
      t.on F.EYEc_STATUS_CMD_FULL s.relayCh = true ∧ (s.pageBusy s.relayCh = false → ∀ i, i < 4096 → i < m.page.length →
        t.pageByte s.relayCh i = m.page.getD i 0)) ∧
    (s.on F.EYEc_STATUS_CMD_FULL s.relayCh = true → Completes (.laceRelayCmd p frames) s fun t => t.cmdWord s.relayCh = s.cmdWord s.relayCh ∧
      t.on F.EYEc_STATUS_WR_REFUSED s.relayCh = true)) ∧
  (∀ s p frames m r e, s.laceOn = true → s.isHead = true → s.laceRx p frames 0xC = some m →
    s.lace.relays.find? (fun r => r.site == m.src && wSeq r.word == wSeq m.word && wOp r.word == wOp m.word) = some r →
    s.jent? r.slot = some e → e.slot = r.slot →
    (relayFinal m.word = true → s.fwUp = true → s.sag = false → e.final = false → e.op = 0x80 → Completes (.laceRelayRsp p frames) s fun t =>
      t.lace.relays = s.lace.relays.filter (fun x => !(x.slot == r.slot)) ∧ t.answered e ST_DONE (m.word.setWidth 32).toNat) ∧
    (relayFinal m.word = false → Completes (.laceRelayRsp p frames) s fun t => t.eye = s.eye ∧
      t.lace.relays = s.lace.relays.map (fun x => if x.slot == r.slot then { x with answered := true } else x))) ∧
  (∀ s head q, s.lace.headSite = some head → (s.chan s.relayCh).posted = some q → s.laceOn = true → s.relayOwns s.relayCh = true →
    s.sag = false ∨ q.fin = false → Completes .laceRelayReplyForward s fun t => (t.chan s.relayCh).posted = none ∧
      t.on F.EYEc_STATUS_RSP_FULL s.relayCh = false) ∧
  (∀ s k r, s.lace.relays.find? (fun r => r.slot == k) = some r → s.laceOn = true → s.isHead = true → r.answered = false →
    s.passed r.sentAt 100000 = true → s.lace.members.testBit r.site = true → Completes (.laceRelayRetry k) s fun t =>
      t.f F.LACE_RELAY_RETRIES = (s.f F.LACE_RELAY_RETRIES + 1) % 2 ^ F.LACE_RELAY_RETRIES.len ∧
      t.lace.relays = s.lace.relays.map (fun x => if x.slot == k then { x with sentAt := s.now } else x))

/-- The held event of the lowest row and unit is counted: TOTAL by its multiplicity, LAST, and its tracker entry. Reaching
N is severe: the entry is freed, SEVERE counts, the row is uncleared, a fenced core and safe state follow from the
reaction. An UNCLEARED write clears a row whose level is not asserted. A rising FORCE_SAFE is row 0x12. Arming needs
the scope. (R438, R439, R440, R441, R442, R443, R446, R449, R450) -/
def Obligations.FaultEventsAndTheirReactions : Prop :=
  (∀ s, nextEvent s.flt.pend = none → Completes .faultEventAccept s fun t => t = s) ∧
  (∀ (s : State) (e : FaultEv) (k : Nat) (new : Bool) (x : TrkEnt), nextEvent s.flt.pend = some e → s.rst.cold = false → e.row < 256 →
    (∀ j ∈ s.eye.journal, j.ch < 9) → s.selectEntry e.row e.unit e.t = (k, new) →
    x = (if new || s.winExpired e.row (s.trk e.row k).start e.t then
      { used := true, unit := e.unit, count := 0, start := e.t } else s.trk e.row k) →
    Completes .faultEventAccept s fun t =>
      t.f F.FLTRr_TOTAL_EVENTS e.row = (s.f F.FLTRr_TOTAL_EVENTS e.row + e.mult) % 2 ^ F.FLTRr_TOTAL_EVENTS.len ∧
      t.on F.FLTRr_LAST_AWL e.row = e.awl ∧ t.f F.FLTRr_LAST_UNIT e.row = e.unit % 2 ^ F.FLTRr_LAST_UNIT.len ∧
      t.f F.FLTRr_LAST_ARG e.row = e.arg.toNat % 2 ^ F.FLTRr_LAST_ARG.len ∧
      (x.count + e.mult < max 1 (s.f F.FLTRr_CFG_N e.row) → t.trk e.row k = { x with count := x.count + e.mult } ∧
        t.flt.pend = s.flt.pend.filter (fun y => !(decide (y = e))) ∧ t.uncleared e.row = s.uncleared e.row ∧
        { t with regs := s.regs, flt := s.flt } = s) ∧
      (max 1 (s.f F.FLTRr_CFG_N e.row) ≤ x.count + e.mult → t.trk e.row k = {} ∧ t.uncleared e.row = true ∧
        t.f F.FLTRr_STATUS_SEVERE e.row = (s.f F.FLTRr_STATUS_SEVERE e.row + 1) % 2 ^ F.FLTRr_STATUS_SEVERE.len ∧
        (s.reaction e.row = 2 → t.safe = true ∧
          t.f F.FLT_STATUS_SAFE_CAUSE = (if s.safe then s.f F.FLT_STATUS_SAFE_CAUSE else e.row)) ∧
        (s.reaction e.row = 1 → rowKind e.row = .core → e.unit < Config.coreCount → t.on F.CRDSn_STATUS_FENCED e.unit = true))) ∧
  (∀ s row w, s.portTakes R.FLTRr_STATUS row = true →
    (w.getLsbD 31 = true → s.faultLevel row = false → Completes (.unclearedWrite true row w) s fun t =>
      t.uncleared row = false ∧ t.rsp.err = false ∧ (faultRowLevel row = false → ∀ k, k < 8 → t.trk row k = {})) ∧
    (w.getLsbD 31 = false ∨ s.faultLevel row = true → Completes (.unclearedWrite true row w) s fun t =>
      t.rsp.err = false ∧ { t with rsp := s.rsp } = s)) ∧
  (∀ s w, s.portTakes R.FLT_CTRL 0 = true → s.on F.FLT_CTRL_FORCE_SAFE = false →
    Completes (.forceSafeWrite true w) s fun t => t.on F.FLT_CTRL_FORCE_SAFE = w.getLsbD F.FLT_CTRL_FORCE_SAFE.lo ∧
      (w.getLsbD F.FLT_CTRL_FORCE_SAFE.lo = true → t.reported 0x12 0) ∧
      (w.getLsbD F.FLT_CTRL_FORCE_SAFE.lo = false → t.flt = s.flt)) ∧
  (∀ s w, s.portTakes R.FLT_AWL 0 = true → w.getLsbD 17 = false →
    (s.scopeAwl = false ∨ 0x4000 ≤ getBits w 0 16 → Completes (.awlArm true w) s fun t =>
      t.f F.FLT_AWL_STATUS = 3 ∧ t.rsp.err = true ∧ (s.scopeAwl = true → t.f F.FLT_AWL_CHECKER = getBits w 0 16) ∧
      { t with regs := s.regs, rsp := s.rsp } = s) ∧
    (s.scopeAwl = true → getBits w 0 16 < 0x4000 → getBits w 0 16 / 4096 ≠ 1 → Completes (.awlArm true w) s fun t =>
      t.f F.FLT_AWL_STATUS = 1 ∧ t.f F.FLT_AWL_CHECKER = getBits w 0 16 ∧ t.on F.FLT_AWL_REPEAT = w.getLsbD 16 ∧
      t.rsp.err = false ∧ { t with regs := s.regs, rsp := s.rsp } = s)) ∧
  (∀ s w, s.portTakes R.FLT_AWL 0 = true →
    (s.scopeAwl = true → Completes (.awlDisarm true w) s fun t =>
      t.f F.FLT_AWL_STATUS = (if s.f F.FLT_AWL_STATUS = 1 then 2 else s.f F.FLT_AWL_STATUS) ∧ t.rsp.err = false ∧
      t.f F.FLT_AWL_CHECKER = getBits w 0 16 ∧ t.on F.FLT_AWL_REPEAT = w.getLsbD 16 ∧ t.on F.FLT_AWL_DISARM = true ∧
      { t with regs := s.regs, rsp := s.rsp } = s) ∧
    (s.scopeAwl = false → Completes (.awlDisarm true w) s fun t => t.f F.FLT_AWL_STATUS = 3 ∧ t.rsp.err = true ∧
      { t with regs := s.regs, rsp := s.rsp } = s))

/-- An armed engine starts: SAG_ACTIVE, STATE saving, row 0x0B, the record of the next slot and SEQNUM. A good read-back
makes the record the newest; a bad first one is retried at 2.60 V and above; otherwise, and below 2.25 V, the save
stops with row 0x0C and HEEL_FAIL. 100 µs after its end at 3.05 V the supply has ridden through. (Premise of the last:
held takes and journal entries name channels that exist.) (R452, R453, R454, R455, R456, R457) -/
def Obligations.SupplySagSave : Prop :=
  (∀ (s : State) (vshk hold : Nat), s.flt.armed = true → s.sag = false → s.rst.cold = false →
    Completes (.sagSaveStart vshk hold) s fun t => t.sag = true ∧ t.f F.FLT_SAG_STATE = 1 ∧ t.reported 0x0B 0 ∧
      t.f F.FLT_HOLD_VSHK = vshk % 2 ^ F.FLT_HOLD_VSHK.len ∧ t.f F.FLT_HOLD_HOLD = hold % 2 ^ F.FLT_HOLD_HOLD.len ∧
      t.flt.sagAt = s.now ∧ t.flt.slot = s.heelNext.1 ∧ t.flt.attempt = 1 ∧ t.flt.mram = s.flt.mram ∧
      (t.flt.image.drop 4).take 4 = leBytes 4 s.heelNext.2 ∧ (t.flt.image.drop 8).take 8 = leBytes 8 s.now.toNat) ∧
  (∀ (s : State) (vshk hold : Nat), s.flt.armed = false ∨ s.sag = true ∨ s.rst.cold = true →
    Completes (.sagSaveStart vshk hold) s fun t => t = s) ∧
  (∀ (s : State) (vshk hold : Nat), s.sag = true → s.f F.FLT_SAG_STATE = 1 →
    (Completes (.heelWriteComplete true vshk hold) s fun t => t.f F.FLT_SAG_STATE = 2 ∧ t.flt.newest = some s.flt.slot ∧
      t.sag = true ∧ t.flt.sagEnd = s.now ∧ t.f F.FLT_HEEL_SEQ_SEQNUM = leAt s.flt.image 4 4 % 2 ^ F.FLT_HEEL_SEQ_SEQNUM.len ∧
      memBytes t.flt.mram (heelAddr s.flt.slot) s.flt.image.length = s.flt.image ∧
      ∀ a, a < heelAddr s.flt.slot ∨ heelAddr s.flt.slot + s.flt.image.length ≤ a → memByte t.flt.mram a = memByte s.flt.mram a) ∧
    (s.flt.attempt = 1 → 2600 ≤ hold → Completes (.heelWriteComplete false vshk hold) s fun t => t.flt.attempt = 2 ∧
      t.on F.FLT_SAG_RETRY = true ∧ t.f F.FLT_SAG_STATE = 1 ∧ t.flt.mram = s.flt.mram ∧ { t with regs := s.regs, flt := s.flt } = s) ∧
    (s.flt.attempt ≠ 1 ∨ hold < 2600 → Completes (.heelWriteComplete false vshk hold) s fun t => t.f F.FLT_SAG_STATE = 3 ∧
      t.on F.FLT_SAG_HEEL_FAIL = true ∧ t.reported 0x0C 0 ∧ t.sag = true ∧ t.flt.newest = s.flt.newest) ∧
    (hold < 2250 → Completes (.sagSaveStop vshk hold) s fun t => t.f F.FLT_SAG_STATE = 3 ∧
      t.on F.FLT_SAG_HEEL_FAIL = true ∧ t.reported 0x0C 0 ∧ t.sag = true ∧ t.flt.sagEnd = s.now)) ∧
  (∀ (s : State) (vshk hold : Nat), s.sag = true → 2 ≤ s.f F.FLT_SAG_STATE → s.passed s.flt.sagEnd 100000 = true → 3050 ≤ vshk →
    (∀ c, HeldOp.take c ∈ s.flt.heldOps → c < 9) → (∀ e ∈ s.eye.journal, e.ch < 9) → s.rst.warmPending = none →
    Completes (.sagRideThrough vshk hold) s fun t => t.sag = false ∧ t.f F.FLT_SAG_STATE = 0 ∧ t.on F.FLT_SAG_RIDE = true ∧
      t.flt.heldOps = [] ∧ t.rst.warm = s.rst.warm)

/-- A calibration write takes both words with the service time. The hourly measurement sets DRIFT and raises every guard
to what is required. Each ms every rail adds its increment. The hold-up measurement gives C and ESR or is abandoned;
RET is the least report of the cluster. A window starts a due sweep or lowers; a sweep's request toggles, goes to its
next point and ends in Z_PEAK. The daily fit adds due points; section and checkpoint are written. (R464, R466, R467,
R469, R471, R472, R474, R475, R481, R482, R487, R490) -/
def Obligations.TreadMonitorsAndKeeping : Prop :=
  (∀ s w, s.portTakes R.TRD_CAL_LO 0 = true → Completes (.trdCalWrite true w) s fun t =>
    t.trd.calSec = (s.rd R.TRD_CAL_HI).toNat * 2 ^ 32 + w.toNat ∧ t.trd.calAt = s.service ∧ t.on F.TRD_STATUS_CAL_VALID = true ∧
    t.rsp.err = false ∧ { t with regs := s.regs, trd := s.trd, rsp := s.rsp } = s) ∧
  (∀ s clocks, s.treadOn = true → s.trd.hour ≤ s.service / 3600000000000 →
    Completes (.driftMeasure clocks) s fun t => t.trd.hour = s.service / 3600000000000 + 1 ∧
      ∀ c k, c < Config.clusterCount → k < 3 → t.guard c k = max (s.guard c k) (t.guardReq c k)) ∧
  (∀ (s : State) (c p : Nat) (v : SrcVal) (sens : Nat), s.treadOn = true → s.trd.hour ≤ s.service / 3600000000000 →
    c < Config.clusterCount → s.counted c = true → v = Tab.get {} s.loop.src (0x5840 + c) → v.n ≠ 0 →
    Tab.get false s.loop.lost (0x840 + c) = false → sens = max 1 (s.f F.WELT_SENS_SENS_W) →
    Completes (.driftMeasure [(c, p)]) s fun t => t.fi F.TRDCc_TVT_DRIFT c = satSigned F.TRDCc_TVT_DRIFT.len
      (divNearest ((p : Int) * 256 - s.fi F.WELTc_SLACK_SLACK_W c * 25600 + (sens : Int) * (((s.weltC c).vout : Int) - 12000) * 100
        - s.fi F.TRD_TVT_KT * (v.v - 1360) * 100 - 25600 * (s.f F.TRDCc_TVT_D0 c : Int)) (400 * sens))) ∧
  (∀ (s : State) (r : Nat), s.treadOn = true → s.due 28 0 1000000 0 = true → r < Config.railCount →
    Completes .emAccumulate s fun t => t.pair R.TRDRr_ACC_LO R.TRDRr_ACC_HI r = (s.pair R.TRDRr_ACC_LO R.TRDRr_ACC_HI r +
      emStep (s.teleNow (0x23000000 + r)).last.toNat (max 1 (s.teleNow (0x23000000 + r)).lastLen * max 1 (s.f F.TRDRr_CFG_I_REF r)) (s.f F.TRD_EM_EM_N)
        (s.f F.TRD_EM_EA) (s.f F.TRDRr_CFG_T_REF r) (s.emTemp r)) % 2 ^ 64) ∧
  (∀ (s : State) (step td tc : Nat), s.trd.measuring = true → s.rst.cold = false →
    (td ≤ 50000000 → tc ≤ 50000000 → Completes (.holdupMeasurement step td tc) s fun t => t.trd.measuring = false ∧
      t.f F.TRD_HOLD_C = min (divNearest ((td + tc : Nat) : Int) 100).toNat 65535 ∧
      t.f F.TRD_HOLD_ESR = min (divNearest (step : Int) 5).toNat 65535 ∧
      t.on F.TRD_STATUS_HOLD_DEGRADED = (decide (t.f F.TRD_HOLD_C < 100 * s.f F.TRD_HOLD_LIM_C_MIN)
        || decide (100 * s.f F.TRD_HOLD_LIM_ESR_MAX < t.f F.TRD_HOLD_ESR))) ∧
    (50000000 < td ∨ 50000000 < tc → Completes (.holdupMeasurement step td tc) s fun t => t.trd.measuring = false ∧
      t.on F.TRD_STATUS_MEAS_ABORT = true ∧ t.rd R.TRD_HOLD = s.rd R.TRD_HOLD ∧ { t with regs := s.regs, trd := s.trd } = s)) ∧
  (∀ (s : State) (n ms : Nat), s.treadOn = true → s.dieUp = true → n < Config.coreCount →
    Completes (.retentionReport n ms) s fun t => Tab.get 0 t.trd.ret n = ms + 1 ∧
      (∀ i, i < 16 → Tab.get 0 t.trd.ret (16 * clusterOf n + i) ≠ 0 →
        t.f F.TRDCc_RET_RET (clusterOf n) ≤ Tab.get 0 t.trd.ret (16 * clusterOf n + i) - 1) ∧
      ∃ i, i < 16 ∧ Tab.get 0 t.trd.ret (16 * clusterOf n + i) ≠ 0 ∧ t.f F.TRDCc_RET_RET (clusterOf n) =
        min (Tab.get 0 t.trd.ret (16 * clusterOf n + i) - 1) (2 ^ F.TRDCc_RET_RET.len - 1)) ∧
  (∀ (s : State) (t0 p n : Nat), s.trd.sched = some (t0, p, n) → s.treadOn = true → t0 + (n + 1) * p * 3600000000000 ≤ s.service →
    s.trd.sweep = none →
    (s.sweepDue = true → s.dieUp = true → (∀ m ∈ allCores, s.f F.CRDSn_ROLE_ACTIVE_ROLE m = 0) → Completes .marginWindow s fun t =>
      t.trd.dummy = true ∧ t.trd.sweep.map (fun w => (w.k, w.half, w.at_)) = some (0, 0, s.now) ∧ { t with trd := s.trd } = s) ∧
    (s.sweepDue = true → s.dieUp = false → Completes .marginWindow s fun t => t.on F.TRD_STATUS_SWEEP_SKIPPED = true ∧
      t.trd.sweep = none) ∧
    (s.sweepDue = false → Completes .marginWindow s fun t => t.trd.sched = some (t0, p, (s.service - t0) / (p * 3600000000000)) ∧
      ∀ c k, c < Config.clusterCount → k < 3 → t.guard c k = (if s.safe = false ∧
        s.f F.TRD_MARGIN_LAST_LOWER + 7 ≤ s.today ∧ s.guardReq c k < s.guard c k ∧ s.floorOf c k < s.guard c k
        then s.guard c k - 1 else s.guard c k))) ∧
  (∀ s w z, s.trd.sweep = some w → s.passed w.at_ (halfPeriods w.k (w.half + 1)) = true →
    (w.half + 1 < 512 → Completes (.dummyLoadRequestToggle z) s fun t => t.trd.sweep = some { w with half := w.half + 1 } ∧
      t.trd.dummy = !s.trd.dummy ∧ { t with trd := s.trd } = s) ∧
    (512 ≤ w.half + 1 → w.clamped = false → s.clamped = false → s.f F.CRD_CLAMP_COUNT_COUNT = w.clamps →
      (w.k < 11 → Completes (.dummyLoadRequestToggle z) s fun t => t.trd.sweep.map (fun x => (x.k, x.half, x.at_, x.z)) =
        some (w.k + 1, 0, s.now, max w.z z) ∧ t.trd.dummy = true ∧ { t with trd := s.trd } = s) ∧
      (11 ≤ w.k → Completes (.dummyLoadRequestToggle z) s fun t => t.trd.sweep = none ∧ t.trd.dummy = false ∧
        t.f F.TRD_PDN_MEAS_Z_PEAK = min (max w.z z) (2 ^ F.TRD_PDN_MEAS_Z_PEAK.len - 1)))) ∧
  (∀ (s : State) (i : Nat) (w : Nat × Nat), s.treadOn = true → s.sag = false → s.trd.day ≤ s.today → i < 234 → instPresent i = true →
    s.wear i = some w → Completes .treadFit s fun t => t.trd.day = s.today + 1 ∧
      Tab.get {} t.trd.hist i = HistSt.add (Tab.get {} s.trd.hist i) s.today (wearCode w)) ∧
  (∀ s bad, s.started = true → s.vgov = true → s.trd.changed = true ∨ s.trd.sec ≤ s.service / 1000000000 →
    Completes (.treadInsoleSave bad) s fun t => t.trd.changed = false ∧ t.trd.sec = s.service / 1000000000 + 1 ∧
      t.trd.tiles.take (s.sectionPlaces (s.trd.tiles.take 5) []).length = s.sectionPlaces (s.trd.tiles.take 5) []) ∧
  (∀ (s : State) (slot : Bool) (seq : Nat), s.started = true → s.vgov = true → s.sag = false → s.trd.ckptAt + s.ckptEvery ≤ s.service →
    (slot, seq) = (match s.trd.ckpt with | some (b, n) => (!b, (n + 1) % 2 ^ 32) | none => (false, 1)) →
    (∀ ok1 ok2, ok1 = true ∨ ok2 = true → Completes (.treadCheckpoint ok1 ok2) s fun t => t.trd.ckpt = some (slot, seq) ∧
      t.trd.ckptAt = s.service ∧ t.flt.mram = memWrite s.flt.mram (ckptAddr slot) (s.ckptImage seq) ∧
      { t with flt := s.flt, trd := s.trd } = s) ∧
    (Completes (.treadCheckpoint false false) s fun t => t.trd.ckpt = s.trd.ckpt ∧ t.on F.TRD_STATUS_CKPT_FAIL = true))

/-- The next record of the queues goes to the writer's position, one or two of them, with PROT on its first position in a
region; in STREAM mode not over an unsent one. TRC_TRIG is refused while RUN is 0, and otherwise counts and, where no
region exists, makes one. A region whose post part is written completes; TRC_RELEASE frees a complete one. DROP closes
a source's account. RUN restarts numbering and decimation and takes MODE. A frame takes its positions from the unsent
ones. (R494, R496, R498, R499, R500, R501, R503, R505, R506, R507, R509) -/
def Obligations.TraceBufferRegionsAndPort : Prop :=
  (∀ s k, s.nextSrc = some k → s.answers 0x78000 R.TRC_CTRL 0 = true → s.f F.PWRd_STATUS_STEP 0x463 = 0 →
    (∀ v rest, (s.src k).queue = [v] :: rest → s.trcAt = s.f F.TRC_WRPTR_NEXT → s.trcCan (s.f F.TRC_WRPTR_NEXT) = true →
      Completes .traceRecordAccept s fun t => (t.src k).queue = rest ∧
        Tab.get 0 t.trc.buf (s.f F.TRC_WRPTR_NEXT) = (if s.trc.regions.any (fun r => r.active && decide (0 < r.left))
          then v ||| (1#128 <<< 78) else v) ∧
        t.f F.TRC_WRPTR_NEXT = (s.f F.TRC_WRPTR_NEXT + 1) % trcSize ∧
        (∀ p, p ≠ s.f F.TRC_WRPTR_NEXT → Tab.get 0 t.trc.buf p = Tab.get 0 s.trc.buf p) ∧
        { t with regs := s.regs, trc := s.trc } = s) ∧
    (∀ v, (s.src k).queue.head? = some [v] → s.trc.stream = true → s.trc.unsent.contains s.trcAt = true →
      Completes .traceRecordAccept s fun t => t = s)) ∧
  (∀ s w, s.portTakes R.TRC_TRIG 0 = true →
    (s.tracing = false → Completes (.trcTrigWrite true w) s fun t => t.f F.TRC_TRIG_STATUS = 3 ∧
      t.f F.TRC_TRIG_TAG = getBits w 0 8 ∧ t.rsp.err = false ∧ { t with regs := s.regs, rsp := s.rsp } = s) ∧
    (s.tracing = true → s.bitf F.TRC_CTRL_TRIG_EN 0 0 = true → Completes (.trcTrigWrite true w) s fun t =>
      t.f F.TRC_COUNT_TRIGGERS = (s.f F.TRC_COUNT_TRIGGERS + 1) % 2 ^ F.TRC_COUNT_TRIGGERS.len ∧
      (t.f F.TRC_TRIG_STATUS = 1 ∨ t.f F.TRC_TRIG_STATUS = 2) ∧ t.rsp.err = false ∧
      (s.trc.regions = [] → ∃ r, t.trc.regions = [r] ∧ r.active = true ∧ r.k = 0 ∧ r.cause = 1 ∧ r.tag = getBits w 0 8 ∧
        r.t = s.now ∧ r.number = t.f F.TRC_COUNT_TRIGGERS ∧ r.len = s.preLen (s.f F.TRC_WRPTR_NEXT) + s.trcPost ∧
        r.start = (s.f F.TRC_WRPTR_NEXT + trcSize - s.preLen (s.f F.TRC_WRPTR_NEXT)) % trcSize))) ∧
  (∀ s, Completes .traceRegionComplete s fun t => t.trc.regions =
    s.trc.regions.map (fun r => if r.active ∧ r.left = 0 then { r with active := false } else r)) ∧
  (∀ s w, s.portTakes R.TRC_RELEASE 0 = true →
    (∀ r, s.completeRegions.trc.regions.find? (fun q => q.number == getBits w 0 16 && !q.active) = some r →
      Completes (.trcReleaseWrite true w) s fun t => t.f F.TRC_RELEASE_STATUS = 2 ∧ t.rsp.err = false ∧
        t.trc.regions = s.completeRegions.trc.regions.filter (fun q => !(q.k == r.k))) ∧
    (s.completeRegions.trc.regions.find? (fun q => q.number == getBits w 0 16 && !q.active) = none →
      Completes (.trcReleaseWrite true w) s fun t => t.f F.TRC_RELEASE_STATUS = 3 ∧ t.rsp.err = false ∧
        t.trc.regions = s.completeRegions.trc.regions)) ∧
  (∀ (s : State) (k : Nat) (u : Word64), (s.src k).firstDrop = some u → s.tracing = true → k < 15 →
    (s.src k).dropping = false ∨ s.passed (s.src k).lastReport 100000 = true →
    Completes (.traceDropReport k) s fun t =>
      t.src k = { s.src k with dropped := 0, thinned := 0, firstDrop := none, lastReport := s.now } ∧
      (t.src 15).queue = (s.src 15).queue ++ [mkRec s.now 15 2 7 k (min (s.src k).dropped (2 ^ 32 - 1))
        (some (u.toNat + min (s.src k).thinned (2 ^ 32 - 1) * 2 ^ 64))] ∧
      t.f F.TRC_COUNT_GAPS = (s.f F.TRC_COUNT_GAPS + 1) % 2 ^ F.TRC_COUNT_GAPS.len ∧ { t with regs := s.regs, trc := s.trc } = s) ∧
  (∀ s w, s.portTakes R.TRC_CTRL 0 = true → s.on F.TRC_CTRL_RUN = false → Completes (.traceRunStart true w) s fun t =>
    t.on F.TRC_CTRL_RUN = true ∧ t.trc.stream = w.getLsbD F.TRC_CTRL_MODE.lo ∧ t.f F.TRC_COUNT_TRIGGERS = 0 ∧
    (∀ k, (t.src k).instants = 0) ∧ t.rsp.err = false) ∧
  (∀ (s : State) (n : Nat) (ps : List Nat), ps = framePositions s (min n 64) s.trc.unsent → ps ≠ [] → s.trc.stream = true →
    s.on F.TRC_CTRL_PORT_EN = true → s.vgov = true → s.f F.PWRd_STATUS_STEP 0x463 = 0 →
    Completes (.traceFrameSend n) s fun t => t.trc.unsent = s.trc.unsent.drop ps.length ∧
      t.trc.lastFrame = ps.map (fun p => Tab.get 0 s.trc.buf p) ∧ t.trc.frameSeq = (s.trc.frameSeq + 1) % 65536 ∧
      t.f F.TRC_PORT_FRAMES = (s.f F.TRC_PORT_FRAMES + 1) % 2 ^ F.TRC_PORT_FRAMES.len ∧
      { t with regs := s.regs, trc := s.trc } = s) ∧
  (∀ s k v e rest, s.nextSrc = some k → s.answers 0x78000 R.TRC_CTRL 0 = true → s.f F.PWRd_STATUS_STEP 0x463 = 0 →
    (s.src k).queue = [v, e] :: rest → s.trcAt = s.f F.TRC_WRPTR_NEXT → s.f F.TRC_WRPTR_NEXT + 1 < trcSize →
    s.protectedAt (s.f F.TRC_WRPTR_NEXT + 1) = false → s.trcCan (s.f F.TRC_WRPTR_NEXT) = true →
    s.trcCan (s.f F.TRC_WRPTR_NEXT + 1) = true → Completes .traceRecordAccept s fun t => (t.src k).queue = rest ∧
      Tab.get 0 t.trc.buf (s.f F.TRC_WRPTR_NEXT) = (if s.trc.regions.any (fun r => r.active && decide (0 < r.left))
        then v ||| (1#128 <<< 78) else v) ∧
      Tab.get 0 t.trc.buf (s.f F.TRC_WRPTR_NEXT + 1) = e ∧
      t.f F.TRC_WRPTR_NEXT = (s.f F.TRC_WRPTR_NEXT + 2) % trcSize ∧
      (∀ p, p ≠ s.f F.TRC_WRPTR_NEXT → p ≠ s.f F.TRC_WRPTR_NEXT + 1 → Tab.get 0 t.trc.buf p = Tab.get 0 s.trc.buf p) ∧
      { t with regs := s.regs, trc := s.trc } = s)

/-- While the target is up: each read answers its bytes and changes nothing outside the target; a write to a read-only
command is NACKed and, like any other invalid use, sets its STATUS_CML bit and counts; a write with a bad PEC is
discarded with bit 5. PAGE, CLEAR_FAULTS, the page pointer, and the Eyelet commands have their effect; MFR_EYE_CMD on
a full channel is refused. An alert response answers the address while a latch is set. (R515, R516, R517, R518, R519,
R520) -/
def Obligations.PmbusTarget : Prop :=
  (∀ s, s.pmbUp = true →
    (∀ (w : BitVec 8) (w16 : BitVec 16) (pec : Bool), ∀ p ∈ ([(.page false w pec, [s.trc.pmb.page]), (.capability false, [0xD0]),
      (.voutMode false, [0x14]), (.voutCommand false, pmbWord (linear16 (s.f F.RAILr_EFF_CODE s.trc.pmb.page))),
      (.statusByte false, [s.statusWord % 256]), (.statusWord false, [s.statusWord % 256, s.statusWord / 256 % 256]),
      (.statusVout false, [(s.pmbPage s.trc.pmb.page).vout]), (.statusIout false, [(s.pmbPage s.trc.pmb.page).iout]),
      (.statusTemperature false, [(s.pmbPage s.trc.pmb.page).temp]), (.statusCml false, [s.trc.pmb.cml]),
      (.readVout false, s.readVout), (.readIout false, s.readIout), (.readPout false, s.readPout),
      (.readTemperature1 false, s.readTemp (0x28000000 + s.trc.pmb.page)), (.readTemperature2 false, s.readTemp 0x29000000),
      (.readTemperature3 false, s.readTemp 0x29000001), (.pmbusRevision false, [0x33]), (.mfrId false, [5, 69, 72, 82, 65, 67]),
      (.mfrModel false, [6, 76, 75, 88, 45, 54, 52]), (.mfrRevision false, [3, 50, 46, 48]),
      (.mfrEyeRsp false, 8 :: (leBytes 8 (s.pair R.EYEc_RSP_LO R.EYEc_RSP_HI 8)).map BitVec.toNat),
      (.mfrEyeStatus false, [s.f F.EYEc_STATUS_CMD_FULL 8 * 128 + s.f F.EYEc_STATUS_RSP_FULL 8 * 64
        + s.f F.EYEc_STATUS_WR_REFUSED 8 * 32 + s.f F.EYEc_STATUS_RSP_QUEUED 8]),
      (.mfrPagePtr false w16 pec, [s.trc.pmb.ptr % 256, s.trc.pmb.ptr / 256 % 256]),
      (.mfrPageData false, 32 :: (s.pageBytes 8 (s.trc.pmb.ptr % 4096) 32).map BitVec.toNat)] : List (Instr × List Nat)),
      Completes p.1 s fun t => t.trc.pmb.reply = p.2 ∧ t.trc.pmb.nack = false ∧ { t with trc := s.trc } = s ∧
        { t.trc with pmb := s.trc.pmb } = s.trc ∧ { t.trc.pmb with reply := s.trc.pmb.reply, nack := s.trc.pmb.nack } = s.trc.pmb) ∧
    (∀ i ∈ ([.capability true, .voutMode true, .voutCommand true, .statusByte true, .statusWord true, .statusVout true,
      .statusIout true, .statusTemperature true, .statusCml true, .readVout true, .readIout true, .readPout true,
      .readTemperature1 true, .readTemperature2 true, .readTemperature3 true, .pmbusRevision true, .mfrId true, .mfrModel true,
      .mfrRevision true, .mfrEyeRsp true, .mfrEyeStatus true, .mfrPageData true] : List Instr),
      Completes i s fun t => t.trc.pmb.cml = setBit s.trc.pmb.cml 6 true ∧ t.trc.pmb.nack = true ∧
        t.f F.TRC_PMB_STATUS_CML_ERR = (s.f F.TRC_PMB_STATUS_CML_ERR + 1) % 2 ^ F.TRC_PMB_STATUS_CML_ERR.len ∧
        { t with regs := s.regs, trc := s.trc } = s ∧ t.trc.pmb.pages = s.trc.pmb.pages) ∧
    (∀ (w : BitVec 8) (w16 : BitVec 16) (l : List Nat), ∀ i ∈ ([.page true w true, .clearFaults true, .mfrEyeCmd l true, .mfrEyeTake true,
      .mfrEyeClear true, .mfrPagePtr true w16 true] : List Instr), Completes i s fun t =>
        t.trc.pmb.cml = setBit s.trc.pmb.cml 5 true ∧ t.trc.pmb.page = s.trc.pmb.page ∧ t.trc.pmb.ptr = s.trc.pmb.ptr ∧
        t.trc.pmb.pages = s.trc.pmb.pages ∧ { t with regs := s.regs, trc := s.trc } = s ∧
        t.f F.TRC_PMB_STATUS_PEC_ERR = (s.f F.TRC_PMB_STATUS_PEC_ERR + 1) % 2 ^ F.TRC_PMB_STATUS_PEC_ERR.len) ∧
    (∀ w : BitVec 8, (w.toNat < Config.railCount → Completes (.page true w false) s fun t => t.trc.pmb.page = w.toNat ∧
        { t with trc := s.trc } = s) ∧
      (Config.railCount ≤ w.toNat → Completes (.page true w false) s fun t => t.trc.pmb.page = s.trc.pmb.page ∧
        t.trc.pmb.cml = setBit s.trc.pmb.cml 6 true)) ∧
    (Completes (.clearFaults false) s fun t => t.trc.pmb.pages = [] ∧ t.trc.pmb.cml = 0 ∧ t.pmbAlert = false ∧ { t with trc := s.trc } = s) ∧
    (∀ w : BitVec 16, Completes (.mfrPagePtr true w false) s fun t => t.trc.pmb.ptr = w.toNat / 32 * 32 ∧ { t with trc := s.trc } = s) ∧
    (∀ l, l.length ≠ 8 → Completes (.mfrEyeCmd l false) s fun t => t.trc.pmb.cml = setBit s.trc.pmb.cml 6 true ∧ t.eye = s.eye ∧
      t.cmdWord 8 = s.cmdWord 8) ∧
    (∀ l, l.length = 8 → s.on F.EYEc_STATUS_CMD_FULL 8 = true → Completes (.mfrEyeCmd l false) s fun t => t.cmdWord 8 = s.cmdWord 8 ∧
      t.on F.EYEc_STATUS_WR_REFUSED 8 = true ∧ t.trc.pmb.cml = setBit s.trc.pmb.cml 1 true) ∧
    (∀ l, l.length = 8 → s.on F.EYEc_STATUS_CMD_FULL 8 = false → Completes (.mfrEyeCmd l false) s fun t =>
      t.on F.EYEc_STATUS_CMD_FULL 8 = true ∧ ∀ i, i < 8 → (t.cmdWord 8).toNat / 256 ^ i % 256 = l.getD i 0 % 256) ∧
    (∀ q, (s.chan 8).posted = some q → s.sag = false ∨ q.fin = false → (∀ e ∈ s.eye.journal, e.ch < 9) →
      Completes (.mfrEyeTake false) s fun t => (t.chan 8).posted = none ∧ t.on F.EYEc_STATUS_RSP_FULL 8 = false) ∧
    (Completes (.mfrEyeClear false) s fun t => t.on F.EYEc_STATUS_WR_REFUSED 8 = false ∧ { t with regs := s.regs, trc := s.trc } = s) ∧
    (∀ c : BitVec 8, pmbCode c.toNat = false → Completes (.pmbusInvalidCommand c) s fun t => t.trc.pmb.nack = true ∧
      t.trc.pmb.cml = setBit s.trc.pmb.cml 7 true ∧ { t with regs := s.regs, trc := s.trc } = s) ∧
    (Completes .alertResponse s fun t => t.trc.pmb.nack = (!s.pmbAlert) ∧ t.trc.pmb.cml = s.trc.pmb.cml ∧
      t.trc.pmb.reply = (if s.pmbAlert then [2 * s.f F.TRC_PMB_CFG_ADDR] else []) ∧ { t with trc := s.trc } = s)) ∧
  (∀ (s : State) (c : BitVec 8), s.pmbUp = false → Completes (.pmbusInvalidCommand c) s (· = s) ∧ Completes .alertResponse s (· = s) ∧
    Completes (.readVout false) s (· = s) ∧ Completes (.clearFaults false) s (· = s))

/-- A cold reset leaves the MRAM only. Its end samples the straps; the Insole test, the Heel load, the boot ROM,
FIRMWARE_BOOT and FIRMWARE_READY move STAGE on, the load starting the count. The loader answers its word. A warm-reset
cause waits for a sag save, extends a reset in progress, or resets every warm register outside the held blocks; a die
reset resets the die registers, and the firmware keeps the guards. Lock bits stay set. A supply loss forces the phases
off. (The kept guards are log entry 36.) (R19, R109, R357, R358, R461, R524, R526, R541, R547, R561, R562, R565) -/
def Obligations.BootAndResets : Prop :=
  (∀ s, Completes .coldReset s fun t => (∀ (r : Reg) (i : Nat), t.rd r i = r.rst i) ∧ t.rst.cold = true ∧ t.started = false ∧
    t.flt.mram = s.flt.mram ∧ t.flt.errN = false ∧ t.flt.safeN = false ∧ t.eye = State.reset.eye ∧ t.trc = State.reset.trc ∧
    t.crd = State.reset.crd ∧ t.pwr = State.reset.pwr ∧ t.lace = State.reset.lace) ∧
  (∀ s site headEn src ok, s.rst.cold = true → Completes (.coldResetEnd site headEn src ok) s fun t => t.rst.cold = false ∧
    t.stage = 1 ∧ t.f F.LACE_ID_SITE = site.toNat ∧ t.on F.LACE_ID_HEAD_EN = headEn ∧ t.on F.LACE_ID_IS_HEAD = headEn ∧
    t.rst.bootSrc = src ∧ (ok = false → t.reported 0x00 0 ∧ t.on F.FLT_STATUS_SELF_FAULT = true)) ∧
  (∀ s bad, s.rst.cold = false → s.stage = 1 → Completes (.insoleTest bad) s fun t => t.stage = 3 ∧ t.flt.mram = s.flt.mram) ∧
  (∀ (s : State) (vshk hold : Nat), s.rst.cold = false → s.stage = 3 → 3135 ≤ vshk → vshk ≤ 3465 → vshk ≤ hold + 60 →
    Completes (.heelLoad vshk hold) s fun t => t.stage = 5 ∧ t.flt.armed = true ∧ t.flt.pinHold = false ∧ t.started = true ∧
      t.flt.newest = s.heelNewest ∧
      (s.heelNewest = none → t.time.count = s.time.boot ∧ t.on F.TIME_STATUS_RESUMED = false ∧
        t.on F.FLT_BOOT_EXPECTED_BAD = s.heelExpected) ∧
      (∀ b l, s.heelNewest = some b → l = memBytes s.flt.mram (heelAddr b) 8192 →
        t.time.count = BitVec.ofNat 64 (leAt l 8 8 + 1) + s.time.boot ∧ t.on F.TIME_STATUS_RESUMED = true ∧
        t.on F.FLT_BOOT_LOADED = true ∧ t.f F.FLT_HEEL_SEQ_SEQNUM = leAt l 4 4 ∧
        (∀ r, r < 256 → faultRowUsed r = true → (leAt l (128 + 2 * r) 2).testBit 15 = true → t.uncleared r = true) ∧
        ((leAt l 25 1).testBit 0 = true → t.on F.FLT_BOOT_FROM_SAFE = true ∧ t.safe = true))) ∧
  (∀ (s : State) (sig0 sig1 : Bool) (a : Nat), s.rst.cold = false → s.rst.warm = false → s.pairFenced s.activePair = false →
    s.stage = 5 → s.on F.GOV_BOOT_REFCLK_OK = true → a = s.bootSlot → Completes (.bootRomStart sig0 sig1) s fun t =>
      t.vgov = true ∧ (s.rst.bootSrc = true → t.stage = 6) ∧
      (s.rst.bootSrc = false → s.imgBoots a (if a = 0 then sig0 else sig1) = true →
        t.stage = 8 ∧ t.f F.GOV_SEC_BOOT = 1 ∧ t.f F.GOV_SEC_SLOT = a) ∧
      (s.rst.bootSrc = false → s.imgBoots a (if a = 0 then sig0 else sig1) = false →
        (s.imgBoots (1 - a) (if a = 0 then sig1 else sig0) = true → t.stage = 8 ∧ t.f F.GOV_SEC_BOOT = 2 ∧ t.f F.GOV_SEC_SLOT = 1 - a) ∧
        (s.imgBoots (1 - a) (if a = 0 then sig1 else sig0) = false → t.stage = 7 ∧ t.f F.GOV_SEC_BOOT = 3))) ∧
  (∀ s unread sigOk w, s.loaderUp = true → s.on F.EYEc_STATUS_CMD_FULL 0 = true → s.replyRoom 0 = true → w = s.cmdWord 0 →
    (wSeq w ≠ s.f F.EYEc_STATUS_EXP_SEQ 0 → Completes (.bootLoaderWord unread sigOk) s fun t =>
      t.f F.EYEc_STATUS_EXP_SEQ 0 = s.f F.EYEc_STATUS_EXP_SEQ 0 ∧ t.on F.EYEc_STATUS_CMD_FULL 0 = false ∧
      ∃ q ∈ (t.chan 0).queue, q.word = replyWord (wOp w) (wSeq w) ST_REFUSED false false false
        (refusedResult RS_SEQ (s.f F.EYEc_STATUS_EXP_SEQ 0))) ∧
    (wSeq w = s.f F.EYEc_STATUS_EXP_SEQ 0 → wOp w = 0xF0 → (s.holdWord 0 w).loaderRefuses w unread = none →
      Completes (.bootLoaderWord unread sigOk) s fun t => t.on F.EYEc_STATUS_CMD_FULL 0 = false ∧
        t.f F.EYEc_STATUS_EXP_SEQ 0 = (wSeq w + 1) % 2 ^ F.EYEc_STATUS_EXP_SEQ.len ∧ t.eye.fw.imgSize = some (wArg w).toNat ∧
        ∃ q ∈ (t.chan 0).queue, q.word = replyWord 0xF0 (wSeq w) ST_DONE false false false 0)) ∧
  (∀ s ok1 ok2, s.stage = 8 → s.vgov = true → s.rst.warm = false → s.rst.cold = false →
    Completes (.firmwareBoot ok1 ok2) s fun t => t.stage = 9 ∧ ∀ u e,
      u = (if s.eye.fw.booted then (writeGovAdopt 1 s).1 else (writeGovAdopt 1 s).1.coldStartReports ok1 ok2) →
      u.planBad (u.planTiles false) = some e → t.holding = false ∧ t.eye.fw.booted = true ∧
        (s.eye.fw.booted = false → ok1 = true ∨ ok2 = true → t.flt.newest = some s.heelNext.1)) ∧
  (∀ s, s.stage = 9 → s.vgov = true → s.rst.warm = false → s.rst.cold = false → Completes .firmwareReady s fun t => t.stage = 10 ∧
    (s.eye.fw.resuming = false → s.eye.fw.activating = none → t.rd R.GOV_LOCK = 7 ∧
      t.eye.fw.running = true ∧ t.on F.EYE_FW_STANDBY_READY = (!s.pairFenced (1 - s.activePair)) ∧
      (s.relayOwns s.noticeCh = false → s.f F.EYE_NOTICE_QUEUED < 256 → t.noticed 1 s.eye.fw.restartKind))) ∧
  (∀ s, s.rst.cold = false → s.vgov = true → Completes .govSupplyLoss s fun t => t.vgov = false ∧
    (∀ e ∈ t.ph.ph, e.2.en = false ∧ e.2.pwm = false) ∧ (s.sag = true → t.rst.warmPending = some (s.rst.warmPending.getD 4)) ∧
    (s.sag = false → t.rst.warm = true)) ∧
  (∀ (s : State) (i : Instr) (cause : Nat), (i = .warmReset ∧ cause = 1) ∨
      (s.portTakes R.GOV_RESET 0 = true ∧ ∃ w : Word, w.getLsbD 0 = true ∧ i = .govResetWrite true w ∧ cause = 2) → s.rst.cold = false →
    (s.sag = true → Completes i s fun t => t.rst.warmPending = some (s.rst.warmPending.getD cause) ∧ t.rst.warm = s.rst.warm) ∧
    (s.sag = false → s.rst.warm = true → Completes i s fun t => t.rst.warm = true ∧ t.rst.warmAt = s.now) ∧
    (s.sag = false → s.rst.warm = false → Completes i s fun t => t.rst.warm = true ∧ t.rst.warmCause = cause ∧
      t.rst.warmAt = s.now ∧ t.f F.GOV_RESET_LAST_CAUSE = cause ∧
      t.f F.GOV_RESET_COUNT = (s.f F.GOV_RESET_COUNT + 1) % 2 ^ F.GOV_RESET_COUNT.len ∧ t.flt.mram = s.flt.mram ∧
      (∀ (r : Reg) (j : Nat), findReg (r.at j) = some (r, j) → r.dom ≠ .cold → heldBlock (r.at j) = false → r.off ≠ R.PWRd_STATUS.off →
        t.rd r j = r.rst j) ∧
      (∀ (r : Reg) (j : Nat), findReg (r.at j) = some (r, j) → r.dom = .cold → r.off ≠ R.EYE_FW.off → r.off ≠ R.GOV_RESET.off → t.rd r j = s.rd r j) ∧
      ∀ d ∈ allDomains, t.domStep d = s.domStep d)) ∧
  (∀ s, s.rst.warm = true → s.rst.cold = false → s.passed s.rst.warmAt (if s.vgov then 10000 else 100000) = true →
    Completes .warmResetEnd s fun t => t.rst.warm = false ∧ t.stage = 6 ∧ t.vgov = true ∧
      ∀ d ∈ allDomains, domainPresent d = true → s.domRest d = 3 → t.domTarget d = 2 ∧ t.domStep d = 3) ∧
  (∀ s, s.rst.cold = false → s.rst.warm = false → s.rst.die = false → Completes .dieReset s fun t => t.rst.die = true ∧
    (∀ (r : Reg) (j : Nat), findReg (r.at j) = some (r, j) → r.dom = .die → r.off ≠ R.CRD_CLAMP_STATUS.off →
      t.rd r j = r.rst j) ∧
    (∀ (r : Reg) (j : Nat), findReg (r.at j) = some (r, j) → r.dom ≠ .die → t.rd r j = s.rd r j) ∧
    (9 ≤ s.f F.GOV_BOOT_STAGE → t.trd.guards = s.guardBytes)) ∧
  (∀ s, s.rst.cold = true ∨ s.rst.warm = true ∨ s.rst.die = true → Completes .dieReset s fun t => t = s) ∧
  (∀ s, s.rst.die = true → s.rst.warm = false → s.rst.cold = false →
    (s.fwHoldsPlan = true → Completes .dieResetEnd s fun t => t.on F.GOV_LOCK_DIE_VOLT = true ∧ t.trd.guards = []) ∧
    (s.fwHoldsPlan = false → Completes .dieResetEnd s fun t => t.rst.die = false ∧
      t.on F.CRD_CTRL_FROZEN = s.safe ∧ t.trd = s.trd ∧
      ∀ c, c < Config.clusterCount → t.rd R.WELTc_GUARD c = s.rd R.WELTc_GUARD c)) ∧
  (∀ s w, s.portTakes R.GOV_ADOPT 0 = true → w.getLsbD 0 = true → Completes (.adopt true w) s fun t => t.holding = false ∧
    t.rsp.err = false) ∧
  (∀ s w, s.portTakes R.GOV_LOCK 0 = true → Completes (.govLockWrite true w) s fun t =>
    (∀ k, k < 3 → (t.rd R.GOV_LOCK).getLsbD k = ((s.rd R.GOV_LOCK).getLsbD k || w.getLsbD k)) ∧
    { t with regs := s.regs, rsp := s.rsp } = s) ∧
  (∀ s n, Completes (.jtagInstruction n) s fun t => t.sec.tap = (if n ≤ 2 ∨ ((n = 3 ∨ n = 4) ∧ s.bitf F.GOV_SEC_SCOPE 0 0 = true ∧
    s.allRailsOff = true) then n else 0) ∧ { t with sec := s.sec } = s)

end
end

