-- ==== Sys2Proof/Laws/Tab.lean ====
section
/-! SUPPORT. What reading a sparse table gives after a write, and that every table operation keeps the canonical form. -/
namespace Sys2Proof.Machine
open Sys2Proof

variable {α : Type}

theorem Tab.get_erase_same (d : α) (t : Tab α) (k : Nat) : Tab.get d (Tab.erase t k) k = d := by
  induction t with
  | nil => rfl
  | cons e r ih =>
    obtain ⟨j, v⟩ := e
    by_cases h : j = k
    · simp [Tab.erase, h, ih]
    · simp [Tab.erase, Tab.get, h, ih]

theorem Tab.get_erase_other (d : α) (t : Tab α) {k l : Nat} (h : l ≠ k) : Tab.get d (Tab.erase t k) l = Tab.get d t l := by
  induction t with
  | nil => rfl
  | cons e r ih =>
    obtain ⟨j, v⟩ := e
    by_cases hj : j = k
    · simp [Tab.erase, Tab.get, hj, ih, h.symm]
    · simp [Tab.erase, Tab.get, hj, ih]

theorem Tab.get_insert_same (d : α) (t : Tab α) (k : Nat) (v : α) : Tab.get d (Tab.insert t k v) k = v := by
  induction t with
  | nil => simp [Tab.insert, Tab.get]
  | cons e r ih =>
    obtain ⟨j, w⟩ := e
    by_cases hj : j = k
    · simp [Tab.insert, Tab.get, hj]
    · by_cases hk : k < j
      · simp [Tab.insert, Tab.get, hj, hk]
      · simp [Tab.insert, Tab.get, hj, hk, ih]

theorem Tab.get_insert_other (d : α) (t : Tab α) {k l : Nat} (v : α) (h : l ≠ k) :
    Tab.get d (Tab.insert t k v) l = Tab.get d t l := by
  induction t with
  | nil => simp [Tab.insert, Tab.get, h.symm]
  | cons e r ih =>
    obtain ⟨j, w⟩ := e
    by_cases hj : j = k
    · subst hj
      simp [Tab.insert, Tab.get, h.symm]
    · by_cases hk : k < j
      · simp [Tab.insert, Tab.get, hj, hk, h.symm]
      · simp [Tab.insert, Tab.get, hj, hk, ih]

variable [DecidableEq α]

/-- A read of the key just written. -/
@[simp] theorem Tab.get_set_same (d : α) (t : Tab α) (k : Nat) (v : α) : Tab.get d (Tab.set d t k v) k = v := by
  unfold Tab.set
  split
  · rename_i h; rw [Tab.get_erase_same, h]
  · exact Tab.get_insert_same d t k v

/-- A read of another key, whatever the two defaults are. -/
theorem Tab.get_set_other (d d' : α) (t : Tab α) {k l : Nat} (v : α) (h : l ≠ k) :
    Tab.get d (Tab.set d' t k v) l = Tab.get d t l := by
  unfold Tab.set
  split
  · exact Tab.get_erase_other d t h
  · exact Tab.get_insert_other d t v h

/-- A read of any key. -/
theorem Tab.get_set (d : α) (t : Tab α) (k l : Nat) (v : α) :
    Tab.get d (Tab.set d t k v) l = if l = k then v else Tab.get d t l := by
  by_cases h : l = k
  · simp [h]
  · simp [h, Tab.get_set_other d d t v h]

/-! ### The canonical form -/

omit [DecidableEq α] in
/-- Keys strictly rising, as a chain. -/
theorem Tab.rising_cons (j : Nat) (v : α) (r : Tab α) :
    Tab.rising ((j, v) :: r) = true ↔ (∀ e ∈ r.head?, j < e.1) ∧ Tab.rising r = true := by
  cases r with
  | nil => simp [Tab.rising]
  | cons e r => obtain ⟨k, w⟩ := e; simp [Tab.rising]

omit [DecidableEq α] in
/-- Every key of a rising table is above one that is below its first. -/
theorem Tab.rising_bound {t : Tab α} {j : Nat} (h : Tab.rising t = true) (hj : ∀ e ∈ t.head?, j < e.1) :
    ∀ e ∈ t, j < e.1 := by
  induction t generalizing j with
  | nil => simp
  | cons a r ih =>
    obtain ⟨k, w⟩ := a
    rw [Tab.rising_cons] at h
    have hk : j < k := hj (k, w) (by simp)
    intro e he
    rcases List.mem_cons.1 he with rfl | he
    · exact hk
    · exact lt_trans hk (ih h.2 h.1 e he)

omit [DecidableEq α] in
theorem Tab.mem_erase {t : Tab α} {k : Nat} {e : Nat × α} (h : e ∈ Tab.erase t k) : e ∈ t := by
  induction t with
  | nil => simpa [Tab.erase] using h
  | cons a r ih =>
    obtain ⟨j, w⟩ := a
    by_cases hj : j = k
    · simp [Tab.erase, hj] at h; exact List.mem_cons_of_mem _ (ih h)
    · simp [Tab.erase, hj] at h
      rcases h with rfl | h
      · simp
      · exact List.mem_cons_of_mem _ (ih h)

omit [DecidableEq α] in
theorem Tab.rising_erase {t : Tab α} (k : Nat) (h : Tab.rising t = true) : Tab.rising (Tab.erase t k) = true := by
  induction t with
  | nil => rfl
  | cons a r ih =>
    obtain ⟨j, w⟩ := a
    have h' := (Tab.rising_cons j w r).1 h
    by_cases hj : j = k
    · simp [Tab.erase, hj, ih h'.2]
    · simp only [Tab.erase, hj, if_false]
      rw [Tab.rising_cons]
      refine ⟨fun e he => ?_, ih h'.2⟩
      have hm : e ∈ Tab.erase r k := List.mem_of_mem_head? he
      exact Tab.rising_bound h'.2 h'.1 e (Tab.mem_erase hm)

omit [DecidableEq α] in
theorem Tab.head_insert (t : Tab α) (k : Nat) (v : α) :
    ∀ e ∈ (Tab.insert t k v).head?, e.1 = k ∨ ∃ x ∈ t.head?, x.1 = e.1 := by
  cases t with
  | nil => simp [Tab.insert]
  | cons a r =>
    obtain ⟨j, w⟩ := a
    by_cases hj : j = k
    · simp [Tab.insert, hj]
    · by_cases hk : k < j
      · simp [Tab.insert, hj, hk]
      · simp [Tab.insert, hj, hk]

omit [DecidableEq α] in
theorem Tab.rising_insert {t : Tab α} (k : Nat) (v : α) (h : Tab.rising t = true) :
    Tab.rising (Tab.insert t k v) = true := by
  induction t with
  | nil => rfl
  | cons a r ih =>
    obtain ⟨j, w⟩ := a
    have h' := (Tab.rising_cons j w r).1 h
    by_cases hj : j = k
    · subst hj; simp only [Tab.insert, if_true]; rw [Tab.rising_cons]; exact h'
    · by_cases hk : k < j
      · simp only [Tab.insert, hj, hk, if_false, if_true]
        rw [Tab.rising_cons]
        refine ⟨?_, h⟩
        intro e he
        simp at he; subst he; exact hk
      · simp only [Tab.insert, hj, hk, if_false]
        rw [Tab.rising_cons]
        refine ⟨fun e he => ?_, ih h'.2⟩
        rcases Tab.head_insert r k v e he with rfl | ⟨x, hx, hxe⟩
        · omega
        · rw [← hxe]; exact h'.1 x hx

omit [DecidableEq α] in
theorem Tab.mem_insert {t : Tab α} {k : Nat} {v : α} {e : Nat × α} (h : e ∈ Tab.insert t k v) : e = (k, v) ∨ e ∈ t := by
  induction t with
  | nil => simpa [Tab.insert] using h
  | cons a r ih =>
    obtain ⟨j, w⟩ := a
    by_cases hj : j = k
    · simp [Tab.insert, hj] at h ⊢; tauto
    · by_cases hk : k < j
      · simp [Tab.insert, hj, hk] at h ⊢; tauto
      · simp only [Tab.insert, hj, hk, if_false, List.mem_cons] at h ⊢
        rcases h with rfl | h
        · simp
        · rcases ih h with h | h <;> tauto

/-- A write keeps the keys rising. -/
theorem Tab.rising_set (d : α) {t : Tab α} (k : Nat) (v : α) (h : Tab.rising t = true) :
    Tab.rising (Tab.set d t k v) = true := by
  unfold Tab.set
  split
  · exact Tab.rising_erase k h
  · exact Tab.rising_insert k v h

/-- A write keeps every entry off the value that its key reads as unlisted, for a default that depends on the key. -/
theorem Tab.entries_set (d : Nat → α) {t : Tab α} (k : Nat) (v : α) (h : ∀ e ∈ t, e.2 ≠ d e.1) :
    ∀ e ∈ Tab.set (d k) t k v, e.2 ≠ d e.1 := by
  unfold Tab.set
  split
  · intro e he; exact h e (Tab.mem_erase he)
  · rename_i hv
    intro e he
    rcases Tab.mem_insert he with rfl | he
    · exact hv
    · exact h e he

/-- A write keeps the canonical form. -/
theorem Tab.wf_set (d : α) {t : Tab α} (k : Nat) (v : α) (h : Tab.wf d t = true) : Tab.wf d (Tab.set d t k v) = true := by
  simp only [Tab.wf, Bool.and_eq_true, List.all_eq_true, decide_eq_true_eq] at h ⊢
  exact ⟨Tab.rising_set d k v h.1, Tab.entries_set (fun _ => d) k v h.2⟩

end Sys2Proof.Machine
end

