-- ==== Sys2Proof/Laws/Memory.lean ====
section
/-! SUPPORT. The byte memories: what a byte reads as after a write, and that every write keeps the canonical form. -/
namespace Sys2Proof.Machine
open Sys2Proof

theorem memByte_put_same (m : List Host.Cell) (a : Nat) (b : Byte) : memByte (memPut m a b) a = b :=
  Tab.get_set_same _ _ _ _

theorem memByte_put_other (m : List Host.Cell) {a x : Nat} (b : Byte) (h : x ≠ a) :
    memByte (memPut m a b) x = memByte m x := Tab.get_set_other _ _ _ _ h

/-- A byte outside the written ones reads as before. -/
theorem memByte_write_outside (m : List Host.Cell) (a : Nat) (l : List Byte) {x : Nat} (h : x < a ∨ a + l.length ≤ x) :
    memByte (memWrite m a l) x = memByte m x := by
  induction l generalizing m a with
  | nil => rfl
  | cons b r ih =>
    simp only [List.length_cons] at h
    rw [memWrite, ih (memPut m a b) (a + 1) (by omega), memByte_put_other _ _ (by omega)]

/-- A byte inside the written ones reads as written. -/
theorem memByte_write_inside (m : List Host.Cell) (a : Nat) (l : List Byte) {i : Nat} (h : i < l.length) :
    memByte (memWrite m a l) (a + i) = l[i] := by
  induction l generalizing m a i with
  | nil => simp at h
  | cons b r ih =>
    cases i with
    | zero =>
      rw [memWrite, memByte_write_outside _ _ _ (by omega), Nat.add_zero]; exact memByte_put_same m a b
    | succ i =>
      have := ih (memPut m a b) (a + 1) (i := i) (by simpa using h)
      rw [memWrite, show a + (i + 1) = a + 1 + i by omega, this]; rfl

theorem insByte_put_same (m : List Host.Cell) (a : Nat) (b : Byte) : insByte (insPut m a b) a = b :=
  Tab.get_set_same _ _ _ _

theorem insByte_put_other (m : List Host.Cell) {a x : Nat} (b : Byte) (h : x ≠ a) :
    insByte (insPut m a b) x = insByte m x := Tab.get_set_other _ _ _ _ h

/-- An Insole byte outside the written ones reads as before. -/
theorem insByte_write_outside (m : List Host.Cell) (a : Nat) (l : List Byte) {x : Nat} (h : x < a ∨ a + l.length ≤ x) :
    insByte (insWrite m a l) x = insByte m x := by
  induction l generalizing m a with
  | nil => rfl
  | cons b r ih =>
    simp only [List.length_cons] at h
    rw [insWrite, ih (insPut m a b) (a + 1) (by omega), insByte_put_other _ _ (by omega)]

/-! ### Every memory operation keeps the canonical form -/

theorem Memory.wf_put {m : List Host.Cell} (a : Nat) (b : Byte) (h : Memory.wf m = true) : Memory.wf (memPut m a b) = true :=
  Tab.wf_set 0 a b h

theorem Memory.wf_write {m : List Host.Cell} (a : Nat) (l : List Byte) (h : Memory.wf m = true) :
    Memory.wf (memWrite m a l) = true := by
  induction l generalizing m a with
  | nil => exact h
  | cons b r ih => exact ih (a + 1) (Memory.wf_put a b h)

theorem Insole.wf_put {m : List Host.Cell} (a : Nat) (b : Byte) (h : Insole.wf m = true) : Insole.wf (insPut m a b) = true := by
  simp only [Insole.wf, Bool.and_eq_true, List.all_eq_true, decide_eq_true_eq] at h ⊢
  exact ⟨Tab.rising_set _ a b h.1, Tab.entries_set (fun k => freeByte (k % 256)) a b h.2⟩

theorem Insole.wf_write {m : List Host.Cell} (a : Nat) (l : List Byte) (h : Insole.wf m = true) :
    Insole.wf (insWrite m a l) = true := by
  induction l generalizing m a with
  | nil => exact h
  | cons b r ih => exact ih (a + 1) (Insole.wf_put a b h)

theorem Tab.rising_filter {α : Type} (p : Nat × α → Bool) {t : Tab α} (h : Tab.rising t = true) :
    Tab.rising (t.filter p) = true := by
  induction t with
  | nil => rfl
  | cons a r ih =>
    obtain ⟨j, w⟩ := a
    have h' := (Tab.rising_cons j w r).1 h
    by_cases hp : p (j, w) = true
    · rw [List.filter_cons_of_pos hp, Tab.rising_cons]
      refine ⟨fun e he => ?_, ih h'.2⟩
      exact Tab.rising_bound h'.2 h'.1 e (List.mem_of_mem_filter (List.mem_of_mem_head? he))
    · rw [List.filter_cons_of_neg hp]; exact ih h'.2

/-- Freeing tiles, and a bank's test, drop bytes. -/
theorem Insole.wf_filter {m : List Host.Cell} (p : Host.Cell → Bool) (h : Insole.wf m = true) :
    Insole.wf (m.filter p) = true := by
  simp only [Insole.wf, Bool.and_eq_true, List.all_eq_true, decide_eq_true_eq] at h ⊢
  exact ⟨Tab.rising_filter p h.1, fun e he => h.2 e (List.mem_of_mem_filter he)⟩

end Sys2Proof.Machine
end

