-- ==== Sys2Proof/Laws/State.lean ====
section
/-! SUPPORT. Each field of the state after each update: what an update leaves alone, and what the indexed records read as
after it. -/
namespace Sys2Proof.Machine
open Sys2Proof

/-! ### wr -/

@[simp] theorem State.wr_pending (s : State) (r : Reg) (i : Nat) (w : Word) : (s.wr r i w).pending = s.pending := rfl
@[simp] theorem State.wr_shadow (s : State) (r : Reg) (i : Nat) (w : Word) : (s.wr r i w).shadow = s.shadow := rfl
@[simp] theorem State.wr_free (s : State) (r : Reg) (i : Nat) (w : Word) : (s.wr r i w).free = s.free := rfl
@[simp] theorem State.wr_served (s : State) (r : Reg) (i : Nat) (w : Word) : (s.wr r i w).served = s.served := rfl
@[simp] theorem State.wr_rsp (s : State) (r : Reg) (i : Nat) (w : Word) : (s.wr r i w).rsp = s.rsp := rfl
@[simp] theorem State.wr_time (s : State) (r : Reg) (i : Nat) (w : Word) : (s.wr r i w).time = s.time := rfl
@[simp] theorem State.wr_seams (s : State) (r : Reg) (i : Nat) (w : Word) : (s.wr r i w).seams = s.seams := rfl
@[simp] theorem State.wr_islands (s : State) (r : Reg) (i : Nat) (w : Word) : (s.wr r i w).islands = s.islands := rfl
@[simp] theorem State.wr_eye (s : State) (r : Reg) (i : Nat) (w : Word) : (s.wr r i w).eye = s.eye := rfl
@[simp] theorem State.wr_flt (s : State) (r : Reg) (i : Nat) (w : Word) : (s.wr r i w).flt = s.flt := rfl
@[simp] theorem State.wr_trc (s : State) (r : Reg) (i : Nat) (w : Word) : (s.wr r i w).trc = s.trc := rfl
@[simp] theorem State.wr_sec (s : State) (r : Reg) (i : Nat) (w : Word) : (s.wr r i w).sec = s.sec := rfl
@[simp] theorem State.wr_rst (s : State) (r : Reg) (i : Nat) (w : Word) : (s.wr r i w).rst = s.rst := rfl
@[simp] theorem State.wr_tele (s : State) (r : Reg) (i : Nat) (w : Word) : (s.wr r i w).tele = s.tele := rfl
@[simp] theorem State.wr_crd (s : State) (r : Reg) (i : Nat) (w : Word) : (s.wr r i w).crd = s.crd := rfl
@[simp] theorem State.wr_welt (s : State) (r : Reg) (i : Nat) (w : Word) : (s.wr r i w).welt = s.welt := rfl
@[simp] theorem State.wr_ph (s : State) (r : Reg) (i : Nat) (w : Word) : (s.wr r i w).ph = s.ph := rfl
@[simp] theorem State.wr_rails (s : State) (r : Reg) (i : Nat) (w : Word) : (s.wr r i w).rails = s.rails := rfl
@[simp] theorem State.wr_loop (s : State) (r : Reg) (i : Nat) (w : Word) : (s.wr r i w).loop = s.loop := rfl
@[simp] theorem State.wr_lasts (s : State) (r : Reg) (i : Nat) (w : Word) : (s.wr r i w).lasts = s.lasts := rfl
@[simp] theorem State.wr_thm (s : State) (r : Reg) (i : Nat) (w : Word) : (s.wr r i w).thm = s.thm := rfl
@[simp] theorem State.wr_pwr (s : State) (r : Reg) (i : Nat) (w : Word) : (s.wr r i w).pwr = s.pwr := rfl
@[simp] theorem State.wr_lace (s : State) (r : Reg) (i : Nat) (w : Word) : (s.wr r i w).lace = s.lace := rfl
@[simp] theorem State.wr_trd (s : State) (r : Reg) (i : Nat) (w : Word) : (s.wr r i w).trd = s.trd := rfl

/-! ### setf -/

@[simp] theorem State.setf_pending (s : State) (x : Fld) (i v : Nat) : (s.setf x i v).pending = s.pending := rfl
@[simp] theorem State.setf_shadow (s : State) (x : Fld) (i v : Nat) : (s.setf x i v).shadow = s.shadow := rfl
@[simp] theorem State.setf_free (s : State) (x : Fld) (i v : Nat) : (s.setf x i v).free = s.free := rfl
@[simp] theorem State.setf_served (s : State) (x : Fld) (i v : Nat) : (s.setf x i v).served = s.served := rfl
@[simp] theorem State.setf_rsp (s : State) (x : Fld) (i v : Nat) : (s.setf x i v).rsp = s.rsp := rfl
@[simp] theorem State.setf_time (s : State) (x : Fld) (i v : Nat) : (s.setf x i v).time = s.time := rfl
@[simp] theorem State.setf_seams (s : State) (x : Fld) (i v : Nat) : (s.setf x i v).seams = s.seams := rfl
@[simp] theorem State.setf_islands (s : State) (x : Fld) (i v : Nat) : (s.setf x i v).islands = s.islands := rfl
@[simp] theorem State.setf_eye (s : State) (x : Fld) (i v : Nat) : (s.setf x i v).eye = s.eye := rfl
@[simp] theorem State.setf_flt (s : State) (x : Fld) (i v : Nat) : (s.setf x i v).flt = s.flt := rfl
@[simp] theorem State.setf_trc (s : State) (x : Fld) (i v : Nat) : (s.setf x i v).trc = s.trc := rfl
@[simp] theorem State.setf_sec (s : State) (x : Fld) (i v : Nat) : (s.setf x i v).sec = s.sec := rfl
@[simp] theorem State.setf_rst (s : State) (x : Fld) (i v : Nat) : (s.setf x i v).rst = s.rst := rfl
@[simp] theorem State.setf_tele (s : State) (x : Fld) (i v : Nat) : (s.setf x i v).tele = s.tele := rfl
@[simp] theorem State.setf_crd (s : State) (x : Fld) (i v : Nat) : (s.setf x i v).crd = s.crd := rfl
@[simp] theorem State.setf_welt (s : State) (x : Fld) (i v : Nat) : (s.setf x i v).welt = s.welt := rfl
@[simp] theorem State.setf_ph (s : State) (x : Fld) (i v : Nat) : (s.setf x i v).ph = s.ph := rfl
@[simp] theorem State.setf_rails (s : State) (x : Fld) (i v : Nat) : (s.setf x i v).rails = s.rails := rfl
@[simp] theorem State.setf_loop (s : State) (x : Fld) (i v : Nat) : (s.setf x i v).loop = s.loop := rfl
@[simp] theorem State.setf_lasts (s : State) (x : Fld) (i v : Nat) : (s.setf x i v).lasts = s.lasts := rfl
@[simp] theorem State.setf_thm (s : State) (x : Fld) (i v : Nat) : (s.setf x i v).thm = s.thm := rfl
@[simp] theorem State.setf_pwr (s : State) (x : Fld) (i v : Nat) : (s.setf x i v).pwr = s.pwr := rfl
@[simp] theorem State.setf_lace (s : State) (x : Fld) (i v : Nat) : (s.setf x i v).lace = s.lace := rfl
@[simp] theorem State.setf_trd (s : State) (x : Fld) (i v : Nat) : (s.setf x i v).trd = s.trd := rfl

/-! ### setb -/

@[simp] theorem State.setb_pending (s : State) (x : Fld) (i : Nat) (b : Bool) : (s.setb x i b).pending = s.pending := rfl
@[simp] theorem State.setb_shadow (s : State) (x : Fld) (i : Nat) (b : Bool) : (s.setb x i b).shadow = s.shadow := rfl
@[simp] theorem State.setb_free (s : State) (x : Fld) (i : Nat) (b : Bool) : (s.setb x i b).free = s.free := rfl
@[simp] theorem State.setb_served (s : State) (x : Fld) (i : Nat) (b : Bool) : (s.setb x i b).served = s.served := rfl
@[simp] theorem State.setb_rsp (s : State) (x : Fld) (i : Nat) (b : Bool) : (s.setb x i b).rsp = s.rsp := rfl
@[simp] theorem State.setb_time (s : State) (x : Fld) (i : Nat) (b : Bool) : (s.setb x i b).time = s.time := rfl
@[simp] theorem State.setb_seams (s : State) (x : Fld) (i : Nat) (b : Bool) : (s.setb x i b).seams = s.seams := rfl
@[simp] theorem State.setb_islands (s : State) (x : Fld) (i : Nat) (b : Bool) : (s.setb x i b).islands = s.islands := rfl
@[simp] theorem State.setb_eye (s : State) (x : Fld) (i : Nat) (b : Bool) : (s.setb x i b).eye = s.eye := rfl
@[simp] theorem State.setb_flt (s : State) (x : Fld) (i : Nat) (b : Bool) : (s.setb x i b).flt = s.flt := rfl
@[simp] theorem State.setb_trc (s : State) (x : Fld) (i : Nat) (b : Bool) : (s.setb x i b).trc = s.trc := rfl
@[simp] theorem State.setb_sec (s : State) (x : Fld) (i : Nat) (b : Bool) : (s.setb x i b).sec = s.sec := rfl
@[simp] theorem State.setb_rst (s : State) (x : Fld) (i : Nat) (b : Bool) : (s.setb x i b).rst = s.rst := rfl
@[simp] theorem State.setb_tele (s : State) (x : Fld) (i : Nat) (b : Bool) : (s.setb x i b).tele = s.tele := rfl
@[simp] theorem State.setb_crd (s : State) (x : Fld) (i : Nat) (b : Bool) : (s.setb x i b).crd = s.crd := rfl
@[simp] theorem State.setb_welt (s : State) (x : Fld) (i : Nat) (b : Bool) : (s.setb x i b).welt = s.welt := rfl
@[simp] theorem State.setb_ph (s : State) (x : Fld) (i : Nat) (b : Bool) : (s.setb x i b).ph = s.ph := rfl
@[simp] theorem State.setb_rails (s : State) (x : Fld) (i : Nat) (b : Bool) : (s.setb x i b).rails = s.rails := rfl
@[simp] theorem State.setb_loop (s : State) (x : Fld) (i : Nat) (b : Bool) : (s.setb x i b).loop = s.loop := rfl
@[simp] theorem State.setb_lasts (s : State) (x : Fld) (i : Nat) (b : Bool) : (s.setb x i b).lasts = s.lasts := rfl
@[simp] theorem State.setb_thm (s : State) (x : Fld) (i : Nat) (b : Bool) : (s.setb x i b).thm = s.thm := rfl
@[simp] theorem State.setb_pwr (s : State) (x : Fld) (i : Nat) (b : Bool) : (s.setb x i b).pwr = s.pwr := rfl
@[simp] theorem State.setb_lace (s : State) (x : Fld) (i : Nat) (b : Bool) : (s.setb x i b).lace = s.lace := rfl
@[simp] theorem State.setb_trd (s : State) (x : Fld) (i : Nat) (b : Bool) : (s.setb x i b).trd = s.trd := rfl

/-! ### incf -/

@[simp] theorem State.incf_pending (s : State) (x : Fld) (i v : Nat) : (s.incf x i v).pending = s.pending := rfl
@[simp] theorem State.incf_shadow (s : State) (x : Fld) (i v : Nat) : (s.incf x i v).shadow = s.shadow := rfl
@[simp] theorem State.incf_free (s : State) (x : Fld) (i v : Nat) : (s.incf x i v).free = s.free := rfl
@[simp] theorem State.incf_served (s : State) (x : Fld) (i v : Nat) : (s.incf x i v).served = s.served := rfl
@[simp] theorem State.incf_rsp (s : State) (x : Fld) (i v : Nat) : (s.incf x i v).rsp = s.rsp := rfl
@[simp] theorem State.incf_time (s : State) (x : Fld) (i v : Nat) : (s.incf x i v).time = s.time := rfl
@[simp] theorem State.incf_seams (s : State) (x : Fld) (i v : Nat) : (s.incf x i v).seams = s.seams := rfl
@[simp] theorem State.incf_islands (s : State) (x : Fld) (i v : Nat) : (s.incf x i v).islands = s.islands := rfl
@[simp] theorem State.incf_eye (s : State) (x : Fld) (i v : Nat) : (s.incf x i v).eye = s.eye := rfl
@[simp] theorem State.incf_flt (s : State) (x : Fld) (i v : Nat) : (s.incf x i v).flt = s.flt := rfl
@[simp] theorem State.incf_trc (s : State) (x : Fld) (i v : Nat) : (s.incf x i v).trc = s.trc := rfl
@[simp] theorem State.incf_sec (s : State) (x : Fld) (i v : Nat) : (s.incf x i v).sec = s.sec := rfl
@[simp] theorem State.incf_rst (s : State) (x : Fld) (i v : Nat) : (s.incf x i v).rst = s.rst := rfl
@[simp] theorem State.incf_tele (s : State) (x : Fld) (i v : Nat) : (s.incf x i v).tele = s.tele := rfl
@[simp] theorem State.incf_crd (s : State) (x : Fld) (i v : Nat) : (s.incf x i v).crd = s.crd := rfl
@[simp] theorem State.incf_welt (s : State) (x : Fld) (i v : Nat) : (s.incf x i v).welt = s.welt := rfl
@[simp] theorem State.incf_ph (s : State) (x : Fld) (i v : Nat) : (s.incf x i v).ph = s.ph := rfl
@[simp] theorem State.incf_rails (s : State) (x : Fld) (i v : Nat) : (s.incf x i v).rails = s.rails := rfl
@[simp] theorem State.incf_loop (s : State) (x : Fld) (i v : Nat) : (s.incf x i v).loop = s.loop := rfl
@[simp] theorem State.incf_lasts (s : State) (x : Fld) (i v : Nat) : (s.incf x i v).lasts = s.lasts := rfl
@[simp] theorem State.incf_thm (s : State) (x : Fld) (i v : Nat) : (s.incf x i v).thm = s.thm := rfl
@[simp] theorem State.incf_pwr (s : State) (x : Fld) (i v : Nat) : (s.incf x i v).pwr = s.pwr := rfl
@[simp] theorem State.incf_lace (s : State) (x : Fld) (i v : Nat) : (s.incf x i v).lace = s.lace := rfl
@[simp] theorem State.incf_trd (s : State) (x : Fld) (i v : Nat) : (s.incf x i v).trd = s.trd := rfl

/-! ### setBitf -/

@[simp] theorem State.setBitf_pending (s : State) (x : Fld) (i k : Nat) (b : Bool) : (s.setBitf x i k b).pending = s.pending := rfl
@[simp] theorem State.setBitf_shadow (s : State) (x : Fld) (i k : Nat) (b : Bool) : (s.setBitf x i k b).shadow = s.shadow := rfl
@[simp] theorem State.setBitf_free (s : State) (x : Fld) (i k : Nat) (b : Bool) : (s.setBitf x i k b).free = s.free := rfl
@[simp] theorem State.setBitf_served (s : State) (x : Fld) (i k : Nat) (b : Bool) : (s.setBitf x i k b).served = s.served := rfl
@[simp] theorem State.setBitf_rsp (s : State) (x : Fld) (i k : Nat) (b : Bool) : (s.setBitf x i k b).rsp = s.rsp := rfl
@[simp] theorem State.setBitf_time (s : State) (x : Fld) (i k : Nat) (b : Bool) : (s.setBitf x i k b).time = s.time := rfl
@[simp] theorem State.setBitf_seams (s : State) (x : Fld) (i k : Nat) (b : Bool) : (s.setBitf x i k b).seams = s.seams := rfl
@[simp] theorem State.setBitf_islands (s : State) (x : Fld) (i k : Nat) (b : Bool) : (s.setBitf x i k b).islands = s.islands := rfl
@[simp] theorem State.setBitf_eye (s : State) (x : Fld) (i k : Nat) (b : Bool) : (s.setBitf x i k b).eye = s.eye := rfl
@[simp] theorem State.setBitf_flt (s : State) (x : Fld) (i k : Nat) (b : Bool) : (s.setBitf x i k b).flt = s.flt := rfl
@[simp] theorem State.setBitf_trc (s : State) (x : Fld) (i k : Nat) (b : Bool) : (s.setBitf x i k b).trc = s.trc := rfl
@[simp] theorem State.setBitf_sec (s : State) (x : Fld) (i k : Nat) (b : Bool) : (s.setBitf x i k b).sec = s.sec := rfl
@[simp] theorem State.setBitf_rst (s : State) (x : Fld) (i k : Nat) (b : Bool) : (s.setBitf x i k b).rst = s.rst := rfl
@[simp] theorem State.setBitf_tele (s : State) (x : Fld) (i k : Nat) (b : Bool) : (s.setBitf x i k b).tele = s.tele := rfl
@[simp] theorem State.setBitf_crd (s : State) (x : Fld) (i k : Nat) (b : Bool) : (s.setBitf x i k b).crd = s.crd := rfl
@[simp] theorem State.setBitf_welt (s : State) (x : Fld) (i k : Nat) (b : Bool) : (s.setBitf x i k b).welt = s.welt := rfl
@[simp] theorem State.setBitf_ph (s : State) (x : Fld) (i k : Nat) (b : Bool) : (s.setBitf x i k b).ph = s.ph := rfl
@[simp] theorem State.setBitf_rails (s : State) (x : Fld) (i k : Nat) (b : Bool) : (s.setBitf x i k b).rails = s.rails := rfl
@[simp] theorem State.setBitf_loop (s : State) (x : Fld) (i k : Nat) (b : Bool) : (s.setBitf x i k b).loop = s.loop := rfl
@[simp] theorem State.setBitf_lasts (s : State) (x : Fld) (i k : Nat) (b : Bool) : (s.setBitf x i k b).lasts = s.lasts := rfl
@[simp] theorem State.setBitf_thm (s : State) (x : Fld) (i k : Nat) (b : Bool) : (s.setBitf x i k b).thm = s.thm := rfl
@[simp] theorem State.setBitf_pwr (s : State) (x : Fld) (i k : Nat) (b : Bool) : (s.setBitf x i k b).pwr = s.pwr := rfl
@[simp] theorem State.setBitf_lace (s : State) (x : Fld) (i k : Nat) (b : Bool) : (s.setBitf x i k b).lace = s.lace := rfl
@[simp] theorem State.setBitf_trd (s : State) (x : Fld) (i k : Nat) (b : Bool) : (s.setBitf x i k b).trd = s.trd := rfl

/-! ### setPair -/

@[simp] theorem State.setPair_pending (s : State) (lo hi : Reg) (i v : Nat) : (s.setPair lo hi i v).pending = s.pending := rfl
@[simp] theorem State.setPair_shadow (s : State) (lo hi : Reg) (i v : Nat) : (s.setPair lo hi i v).shadow = s.shadow := rfl
@[simp] theorem State.setPair_free (s : State) (lo hi : Reg) (i v : Nat) : (s.setPair lo hi i v).free = s.free := rfl
@[simp] theorem State.setPair_served (s : State) (lo hi : Reg) (i v : Nat) : (s.setPair lo hi i v).served = s.served := rfl
@[simp] theorem State.setPair_rsp (s : State) (lo hi : Reg) (i v : Nat) : (s.setPair lo hi i v).rsp = s.rsp := rfl
@[simp] theorem State.setPair_time (s : State) (lo hi : Reg) (i v : Nat) : (s.setPair lo hi i v).time = s.time := rfl
@[simp] theorem State.setPair_seams (s : State) (lo hi : Reg) (i v : Nat) : (s.setPair lo hi i v).seams = s.seams := rfl
@[simp] theorem State.setPair_islands (s : State) (lo hi : Reg) (i v : Nat) : (s.setPair lo hi i v).islands = s.islands := rfl
@[simp] theorem State.setPair_eye (s : State) (lo hi : Reg) (i v : Nat) : (s.setPair lo hi i v).eye = s.eye := rfl
@[simp] theorem State.setPair_flt (s : State) (lo hi : Reg) (i v : Nat) : (s.setPair lo hi i v).flt = s.flt := rfl
@[simp] theorem State.setPair_trc (s : State) (lo hi : Reg) (i v : Nat) : (s.setPair lo hi i v).trc = s.trc := rfl
@[simp] theorem State.setPair_sec (s : State) (lo hi : Reg) (i v : Nat) : (s.setPair lo hi i v).sec = s.sec := rfl
@[simp] theorem State.setPair_rst (s : State) (lo hi : Reg) (i v : Nat) : (s.setPair lo hi i v).rst = s.rst := rfl
@[simp] theorem State.setPair_tele (s : State) (lo hi : Reg) (i v : Nat) : (s.setPair lo hi i v).tele = s.tele := rfl
@[simp] theorem State.setPair_crd (s : State) (lo hi : Reg) (i v : Nat) : (s.setPair lo hi i v).crd = s.crd := rfl
@[simp] theorem State.setPair_welt (s : State) (lo hi : Reg) (i v : Nat) : (s.setPair lo hi i v).welt = s.welt := rfl
@[simp] theorem State.setPair_ph (s : State) (lo hi : Reg) (i v : Nat) : (s.setPair lo hi i v).ph = s.ph := rfl
@[simp] theorem State.setPair_rails (s : State) (lo hi : Reg) (i v : Nat) : (s.setPair lo hi i v).rails = s.rails := rfl
@[simp] theorem State.setPair_loop (s : State) (lo hi : Reg) (i v : Nat) : (s.setPair lo hi i v).loop = s.loop := rfl
@[simp] theorem State.setPair_lasts (s : State) (lo hi : Reg) (i v : Nat) : (s.setPair lo hi i v).lasts = s.lasts := rfl
@[simp] theorem State.setPair_thm (s : State) (lo hi : Reg) (i v : Nat) : (s.setPair lo hi i v).thm = s.thm := rfl
@[simp] theorem State.setPair_pwr (s : State) (lo hi : Reg) (i v : Nat) : (s.setPair lo hi i v).pwr = s.pwr := rfl
@[simp] theorem State.setPair_lace (s : State) (lo hi : Reg) (i v : Nat) : (s.setPair lo hi i v).lace = s.lace := rfl
@[simp] theorem State.setPair_trd (s : State) (lo hi : Reg) (i v : Nat) : (s.setPair lo hi i v).trd = s.trd := rfl

/-! ### usedFree -/

@[simp] theorem State.usedFree_pending (s : State) : (s.usedFree ).pending = s.pending := rfl
@[simp] theorem State.usedFree_regs (s : State) : (s.usedFree ).regs = s.regs := rfl
@[simp] theorem State.usedFree_shadow (s : State) : (s.usedFree ).shadow = s.shadow := rfl
@[simp] theorem State.usedFree_served (s : State) : (s.usedFree ).served = s.served := rfl
@[simp] theorem State.usedFree_rsp (s : State) : (s.usedFree ).rsp = s.rsp := rfl
@[simp] theorem State.usedFree_time (s : State) : (s.usedFree ).time = s.time := rfl
@[simp] theorem State.usedFree_seams (s : State) : (s.usedFree ).seams = s.seams := rfl
@[simp] theorem State.usedFree_islands (s : State) : (s.usedFree ).islands = s.islands := rfl
@[simp] theorem State.usedFree_eye (s : State) : (s.usedFree ).eye = s.eye := rfl
@[simp] theorem State.usedFree_flt (s : State) : (s.usedFree ).flt = s.flt := rfl
@[simp] theorem State.usedFree_trc (s : State) : (s.usedFree ).trc = s.trc := rfl
@[simp] theorem State.usedFree_sec (s : State) : (s.usedFree ).sec = s.sec := rfl
@[simp] theorem State.usedFree_rst (s : State) : (s.usedFree ).rst = s.rst := rfl
@[simp] theorem State.usedFree_tele (s : State) : (s.usedFree ).tele = s.tele := rfl
@[simp] theorem State.usedFree_crd (s : State) : (s.usedFree ).crd = s.crd := rfl
@[simp] theorem State.usedFree_welt (s : State) : (s.usedFree ).welt = s.welt := rfl
@[simp] theorem State.usedFree_ph (s : State) : (s.usedFree ).ph = s.ph := rfl
@[simp] theorem State.usedFree_rails (s : State) : (s.usedFree ).rails = s.rails := rfl
@[simp] theorem State.usedFree_loop (s : State) : (s.usedFree ).loop = s.loop := rfl
@[simp] theorem State.usedFree_lasts (s : State) : (s.usedFree ).lasts = s.lasts := rfl
@[simp] theorem State.usedFree_thm (s : State) : (s.usedFree ).thm = s.thm := rfl
@[simp] theorem State.usedFree_pwr (s : State) : (s.usedFree ).pwr = s.pwr := rfl
@[simp] theorem State.usedFree_lace (s : State) : (s.usedFree ).lace = s.lace := rfl
@[simp] theorem State.usedFree_trd (s : State) : (s.usedFree ).trd = s.trd := rfl

/-! ### serve -/

@[simp] theorem State.serve_pending (s : State) (kind i : Nat) : (s.serve kind i).pending = s.pending := rfl
@[simp] theorem State.serve_regs (s : State) (kind i : Nat) : (s.serve kind i).regs = s.regs := rfl
@[simp] theorem State.serve_shadow (s : State) (kind i : Nat) : (s.serve kind i).shadow = s.shadow := rfl
@[simp] theorem State.serve_free (s : State) (kind i : Nat) : (s.serve kind i).free = s.free := rfl
@[simp] theorem State.serve_rsp (s : State) (kind i : Nat) : (s.serve kind i).rsp = s.rsp := rfl
@[simp] theorem State.serve_time (s : State) (kind i : Nat) : (s.serve kind i).time = s.time := rfl
@[simp] theorem State.serve_seams (s : State) (kind i : Nat) : (s.serve kind i).seams = s.seams := rfl
@[simp] theorem State.serve_islands (s : State) (kind i : Nat) : (s.serve kind i).islands = s.islands := rfl
@[simp] theorem State.serve_eye (s : State) (kind i : Nat) : (s.serve kind i).eye = s.eye := rfl
@[simp] theorem State.serve_flt (s : State) (kind i : Nat) : (s.serve kind i).flt = s.flt := rfl
@[simp] theorem State.serve_trc (s : State) (kind i : Nat) : (s.serve kind i).trc = s.trc := rfl
@[simp] theorem State.serve_sec (s : State) (kind i : Nat) : (s.serve kind i).sec = s.sec := rfl
@[simp] theorem State.serve_rst (s : State) (kind i : Nat) : (s.serve kind i).rst = s.rst := rfl
@[simp] theorem State.serve_tele (s : State) (kind i : Nat) : (s.serve kind i).tele = s.tele := rfl
@[simp] theorem State.serve_crd (s : State) (kind i : Nat) : (s.serve kind i).crd = s.crd := rfl
@[simp] theorem State.serve_welt (s : State) (kind i : Nat) : (s.serve kind i).welt = s.welt := rfl
@[simp] theorem State.serve_ph (s : State) (kind i : Nat) : (s.serve kind i).ph = s.ph := rfl
@[simp] theorem State.serve_rails (s : State) (kind i : Nat) : (s.serve kind i).rails = s.rails := rfl
@[simp] theorem State.serve_loop (s : State) (kind i : Nat) : (s.serve kind i).loop = s.loop := rfl
@[simp] theorem State.serve_lasts (s : State) (kind i : Nat) : (s.serve kind i).lasts = s.lasts := rfl
@[simp] theorem State.serve_thm (s : State) (kind i : Nat) : (s.serve kind i).thm = s.thm := rfl
@[simp] theorem State.serve_pwr (s : State) (kind i : Nat) : (s.serve kind i).pwr = s.pwr := rfl
@[simp] theorem State.serve_lace (s : State) (kind i : Nat) : (s.serve kind i).lace = s.lace := rfl
@[simp] theorem State.serve_trd (s : State) (kind i : Nat) : (s.serve kind i).trd = s.trd := rfl

/-! ### setChan -/

@[simp] theorem State.setChan_pending (s : State) (c : Nat) (x : ChanSt) : (s.setChan c x).pending = s.pending := rfl
@[simp] theorem State.setChan_regs (s : State) (c : Nat) (x : ChanSt) : (s.setChan c x).regs = s.regs := rfl
@[simp] theorem State.setChan_shadow (s : State) (c : Nat) (x : ChanSt) : (s.setChan c x).shadow = s.shadow := rfl
@[simp] theorem State.setChan_free (s : State) (c : Nat) (x : ChanSt) : (s.setChan c x).free = s.free := rfl
@[simp] theorem State.setChan_served (s : State) (c : Nat) (x : ChanSt) : (s.setChan c x).served = s.served := rfl
@[simp] theorem State.setChan_rsp (s : State) (c : Nat) (x : ChanSt) : (s.setChan c x).rsp = s.rsp := rfl
@[simp] theorem State.setChan_time (s : State) (c : Nat) (x : ChanSt) : (s.setChan c x).time = s.time := rfl
@[simp] theorem State.setChan_seams (s : State) (c : Nat) (x : ChanSt) : (s.setChan c x).seams = s.seams := rfl
@[simp] theorem State.setChan_islands (s : State) (c : Nat) (x : ChanSt) : (s.setChan c x).islands = s.islands := rfl
@[simp] theorem State.setChan_flt (s : State) (c : Nat) (x : ChanSt) : (s.setChan c x).flt = s.flt := rfl
@[simp] theorem State.setChan_trc (s : State) (c : Nat) (x : ChanSt) : (s.setChan c x).trc = s.trc := rfl
@[simp] theorem State.setChan_sec (s : State) (c : Nat) (x : ChanSt) : (s.setChan c x).sec = s.sec := rfl
@[simp] theorem State.setChan_rst (s : State) (c : Nat) (x : ChanSt) : (s.setChan c x).rst = s.rst := rfl
@[simp] theorem State.setChan_tele (s : State) (c : Nat) (x : ChanSt) : (s.setChan c x).tele = s.tele := rfl
@[simp] theorem State.setChan_crd (s : State) (c : Nat) (x : ChanSt) : (s.setChan c x).crd = s.crd := rfl
@[simp] theorem State.setChan_welt (s : State) (c : Nat) (x : ChanSt) : (s.setChan c x).welt = s.welt := rfl
@[simp] theorem State.setChan_ph (s : State) (c : Nat) (x : ChanSt) : (s.setChan c x).ph = s.ph := rfl
@[simp] theorem State.setChan_rails (s : State) (c : Nat) (x : ChanSt) : (s.setChan c x).rails = s.rails := rfl
@[simp] theorem State.setChan_loop (s : State) (c : Nat) (x : ChanSt) : (s.setChan c x).loop = s.loop := rfl
@[simp] theorem State.setChan_lasts (s : State) (c : Nat) (x : ChanSt) : (s.setChan c x).lasts = s.lasts := rfl
@[simp] theorem State.setChan_thm (s : State) (c : Nat) (x : ChanSt) : (s.setChan c x).thm = s.thm := rfl
@[simp] theorem State.setChan_pwr (s : State) (c : Nat) (x : ChanSt) : (s.setChan c x).pwr = s.pwr := rfl
@[simp] theorem State.setChan_lace (s : State) (c : Nat) (x : ChanSt) : (s.setChan c x).lace = s.lace := rfl
@[simp] theorem State.setChan_trd (s : State) (c : Nat) (x : ChanSt) : (s.setChan c x).trd = s.trd := rfl

/-! ### jmod -/

@[simp] theorem State.jmod_pending (s : State) (slot : Nat) (g : JEnt → JEnt) : (s.jmod slot g).pending = s.pending := rfl
@[simp] theorem State.jmod_regs (s : State) (slot : Nat) (g : JEnt → JEnt) : (s.jmod slot g).regs = s.regs := rfl
@[simp] theorem State.jmod_shadow (s : State) (slot : Nat) (g : JEnt → JEnt) : (s.jmod slot g).shadow = s.shadow := rfl
@[simp] theorem State.jmod_free (s : State) (slot : Nat) (g : JEnt → JEnt) : (s.jmod slot g).free = s.free := rfl
@[simp] theorem State.jmod_served (s : State) (slot : Nat) (g : JEnt → JEnt) : (s.jmod slot g).served = s.served := rfl
@[simp] theorem State.jmod_rsp (s : State) (slot : Nat) (g : JEnt → JEnt) : (s.jmod slot g).rsp = s.rsp := rfl
@[simp] theorem State.jmod_time (s : State) (slot : Nat) (g : JEnt → JEnt) : (s.jmod slot g).time = s.time := rfl
@[simp] theorem State.jmod_seams (s : State) (slot : Nat) (g : JEnt → JEnt) : (s.jmod slot g).seams = s.seams := rfl
@[simp] theorem State.jmod_islands (s : State) (slot : Nat) (g : JEnt → JEnt) : (s.jmod slot g).islands = s.islands := rfl
@[simp] theorem State.jmod_flt (s : State) (slot : Nat) (g : JEnt → JEnt) : (s.jmod slot g).flt = s.flt := rfl
@[simp] theorem State.jmod_trc (s : State) (slot : Nat) (g : JEnt → JEnt) : (s.jmod slot g).trc = s.trc := rfl
@[simp] theorem State.jmod_sec (s : State) (slot : Nat) (g : JEnt → JEnt) : (s.jmod slot g).sec = s.sec := rfl
@[simp] theorem State.jmod_rst (s : State) (slot : Nat) (g : JEnt → JEnt) : (s.jmod slot g).rst = s.rst := rfl
@[simp] theorem State.jmod_tele (s : State) (slot : Nat) (g : JEnt → JEnt) : (s.jmod slot g).tele = s.tele := rfl
@[simp] theorem State.jmod_crd (s : State) (slot : Nat) (g : JEnt → JEnt) : (s.jmod slot g).crd = s.crd := rfl
@[simp] theorem State.jmod_welt (s : State) (slot : Nat) (g : JEnt → JEnt) : (s.jmod slot g).welt = s.welt := rfl
@[simp] theorem State.jmod_ph (s : State) (slot : Nat) (g : JEnt → JEnt) : (s.jmod slot g).ph = s.ph := rfl
@[simp] theorem State.jmod_rails (s : State) (slot : Nat) (g : JEnt → JEnt) : (s.jmod slot g).rails = s.rails := rfl
@[simp] theorem State.jmod_loop (s : State) (slot : Nat) (g : JEnt → JEnt) : (s.jmod slot g).loop = s.loop := rfl
@[simp] theorem State.jmod_lasts (s : State) (slot : Nat) (g : JEnt → JEnt) : (s.jmod slot g).lasts = s.lasts := rfl
@[simp] theorem State.jmod_thm (s : State) (slot : Nat) (g : JEnt → JEnt) : (s.jmod slot g).thm = s.thm := rfl
@[simp] theorem State.jmod_pwr (s : State) (slot : Nat) (g : JEnt → JEnt) : (s.jmod slot g).pwr = s.pwr := rfl
@[simp] theorem State.jmod_lace (s : State) (slot : Nat) (g : JEnt → JEnt) : (s.jmod slot g).lace = s.lace := rfl
@[simp] theorem State.jmod_trd (s : State) (slot : Nat) (g : JEnt → JEnt) : (s.jmod slot g).trd = s.trd := rfl

/-! ### setFw -/

@[simp] theorem State.setFw_pending (s : State) (x : FwSt) : (s.setFw x).pending = s.pending := rfl
@[simp] theorem State.setFw_regs (s : State) (x : FwSt) : (s.setFw x).regs = s.regs := rfl
@[simp] theorem State.setFw_shadow (s : State) (x : FwSt) : (s.setFw x).shadow = s.shadow := rfl
@[simp] theorem State.setFw_free (s : State) (x : FwSt) : (s.setFw x).free = s.free := rfl
@[simp] theorem State.setFw_served (s : State) (x : FwSt) : (s.setFw x).served = s.served := rfl
@[simp] theorem State.setFw_rsp (s : State) (x : FwSt) : (s.setFw x).rsp = s.rsp := rfl
@[simp] theorem State.setFw_time (s : State) (x : FwSt) : (s.setFw x).time = s.time := rfl
@[simp] theorem State.setFw_seams (s : State) (x : FwSt) : (s.setFw x).seams = s.seams := rfl
@[simp] theorem State.setFw_islands (s : State) (x : FwSt) : (s.setFw x).islands = s.islands := rfl
@[simp] theorem State.setFw_flt (s : State) (x : FwSt) : (s.setFw x).flt = s.flt := rfl
@[simp] theorem State.setFw_trc (s : State) (x : FwSt) : (s.setFw x).trc = s.trc := rfl
@[simp] theorem State.setFw_sec (s : State) (x : FwSt) : (s.setFw x).sec = s.sec := rfl
@[simp] theorem State.setFw_rst (s : State) (x : FwSt) : (s.setFw x).rst = s.rst := rfl
@[simp] theorem State.setFw_tele (s : State) (x : FwSt) : (s.setFw x).tele = s.tele := rfl
@[simp] theorem State.setFw_crd (s : State) (x : FwSt) : (s.setFw x).crd = s.crd := rfl
@[simp] theorem State.setFw_welt (s : State) (x : FwSt) : (s.setFw x).welt = s.welt := rfl
@[simp] theorem State.setFw_ph (s : State) (x : FwSt) : (s.setFw x).ph = s.ph := rfl
@[simp] theorem State.setFw_rails (s : State) (x : FwSt) : (s.setFw x).rails = s.rails := rfl
@[simp] theorem State.setFw_loop (s : State) (x : FwSt) : (s.setFw x).loop = s.loop := rfl
@[simp] theorem State.setFw_lasts (s : State) (x : FwSt) : (s.setFw x).lasts = s.lasts := rfl
@[simp] theorem State.setFw_thm (s : State) (x : FwSt) : (s.setFw x).thm = s.thm := rfl
@[simp] theorem State.setFw_pwr (s : State) (x : FwSt) : (s.setFw x).pwr = s.pwr := rfl
@[simp] theorem State.setFw_lace (s : State) (x : FwSt) : (s.setFw x).lace = s.lace := rfl
@[simp] theorem State.setFw_trd (s : State) (x : FwSt) : (s.setFw x).trd = s.trd := rfl

/-! ### setStation -/

@[simp] theorem State.setStation_pending (s : State) (n : Nat) (x : StationSt) : (s.setStation n x).pending = s.pending := rfl
@[simp] theorem State.setStation_regs (s : State) (n : Nat) (x : StationSt) : (s.setStation n x).regs = s.regs := rfl
@[simp] theorem State.setStation_shadow (s : State) (n : Nat) (x : StationSt) : (s.setStation n x).shadow = s.shadow := rfl
@[simp] theorem State.setStation_free (s : State) (n : Nat) (x : StationSt) : (s.setStation n x).free = s.free := rfl
@[simp] theorem State.setStation_served (s : State) (n : Nat) (x : StationSt) : (s.setStation n x).served = s.served := rfl
@[simp] theorem State.setStation_rsp (s : State) (n : Nat) (x : StationSt) : (s.setStation n x).rsp = s.rsp := rfl
@[simp] theorem State.setStation_time (s : State) (n : Nat) (x : StationSt) : (s.setStation n x).time = s.time := rfl
@[simp] theorem State.setStation_seams (s : State) (n : Nat) (x : StationSt) : (s.setStation n x).seams = s.seams := rfl
@[simp] theorem State.setStation_islands (s : State) (n : Nat) (x : StationSt) : (s.setStation n x).islands = s.islands := rfl
@[simp] theorem State.setStation_eye (s : State) (n : Nat) (x : StationSt) : (s.setStation n x).eye = s.eye := rfl
@[simp] theorem State.setStation_flt (s : State) (n : Nat) (x : StationSt) : (s.setStation n x).flt = s.flt := rfl
@[simp] theorem State.setStation_trc (s : State) (n : Nat) (x : StationSt) : (s.setStation n x).trc = s.trc := rfl
@[simp] theorem State.setStation_sec (s : State) (n : Nat) (x : StationSt) : (s.setStation n x).sec = s.sec := rfl
@[simp] theorem State.setStation_rst (s : State) (n : Nat) (x : StationSt) : (s.setStation n x).rst = s.rst := rfl
@[simp] theorem State.setStation_tele (s : State) (n : Nat) (x : StationSt) : (s.setStation n x).tele = s.tele := rfl
@[simp] theorem State.setStation_welt (s : State) (n : Nat) (x : StationSt) : (s.setStation n x).welt = s.welt := rfl
@[simp] theorem State.setStation_ph (s : State) (n : Nat) (x : StationSt) : (s.setStation n x).ph = s.ph := rfl
@[simp] theorem State.setStation_rails (s : State) (n : Nat) (x : StationSt) : (s.setStation n x).rails = s.rails := rfl
@[simp] theorem State.setStation_loop (s : State) (n : Nat) (x : StationSt) : (s.setStation n x).loop = s.loop := rfl
@[simp] theorem State.setStation_lasts (s : State) (n : Nat) (x : StationSt) : (s.setStation n x).lasts = s.lasts := rfl
@[simp] theorem State.setStation_thm (s : State) (n : Nat) (x : StationSt) : (s.setStation n x).thm = s.thm := rfl
@[simp] theorem State.setStation_pwr (s : State) (n : Nat) (x : StationSt) : (s.setStation n x).pwr = s.pwr := rfl
@[simp] theorem State.setStation_lace (s : State) (n : Nat) (x : StationSt) : (s.setStation n x).lace = s.lace := rfl
@[simp] theorem State.setStation_trd (s : State) (n : Nat) (x : StationSt) : (s.setStation n x).trd = s.trd := rfl

/-! ### setClick -/

@[simp] theorem State.setClick_pending (s : State) (n : Nat) (x : ClickSt) : (s.setClick n x).pending = s.pending := rfl
@[simp] theorem State.setClick_regs (s : State) (n : Nat) (x : ClickSt) : (s.setClick n x).regs = s.regs := rfl
@[simp] theorem State.setClick_shadow (s : State) (n : Nat) (x : ClickSt) : (s.setClick n x).shadow = s.shadow := rfl
@[simp] theorem State.setClick_free (s : State) (n : Nat) (x : ClickSt) : (s.setClick n x).free = s.free := rfl
@[simp] theorem State.setClick_served (s : State) (n : Nat) (x : ClickSt) : (s.setClick n x).served = s.served := rfl
@[simp] theorem State.setClick_rsp (s : State) (n : Nat) (x : ClickSt) : (s.setClick n x).rsp = s.rsp := rfl
@[simp] theorem State.setClick_time (s : State) (n : Nat) (x : ClickSt) : (s.setClick n x).time = s.time := rfl
@[simp] theorem State.setClick_seams (s : State) (n : Nat) (x : ClickSt) : (s.setClick n x).seams = s.seams := rfl
@[simp] theorem State.setClick_islands (s : State) (n : Nat) (x : ClickSt) : (s.setClick n x).islands = s.islands := rfl
@[simp] theorem State.setClick_eye (s : State) (n : Nat) (x : ClickSt) : (s.setClick n x).eye = s.eye := rfl
@[simp] theorem State.setClick_flt (s : State) (n : Nat) (x : ClickSt) : (s.setClick n x).flt = s.flt := rfl
@[simp] theorem State.setClick_trc (s : State) (n : Nat) (x : ClickSt) : (s.setClick n x).trc = s.trc := rfl
@[simp] theorem State.setClick_sec (s : State) (n : Nat) (x : ClickSt) : (s.setClick n x).sec = s.sec := rfl
@[simp] theorem State.setClick_rst (s : State) (n : Nat) (x : ClickSt) : (s.setClick n x).rst = s.rst := rfl
@[simp] theorem State.setClick_tele (s : State) (n : Nat) (x : ClickSt) : (s.setClick n x).tele = s.tele := rfl
@[simp] theorem State.setClick_welt (s : State) (n : Nat) (x : ClickSt) : (s.setClick n x).welt = s.welt := rfl
@[simp] theorem State.setClick_ph (s : State) (n : Nat) (x : ClickSt) : (s.setClick n x).ph = s.ph := rfl
@[simp] theorem State.setClick_rails (s : State) (n : Nat) (x : ClickSt) : (s.setClick n x).rails = s.rails := rfl
@[simp] theorem State.setClick_loop (s : State) (n : Nat) (x : ClickSt) : (s.setClick n x).loop = s.loop := rfl
@[simp] theorem State.setClick_lasts (s : State) (n : Nat) (x : ClickSt) : (s.setClick n x).lasts = s.lasts := rfl
@[simp] theorem State.setClick_thm (s : State) (n : Nat) (x : ClickSt) : (s.setClick n x).thm = s.thm := rfl
@[simp] theorem State.setClick_pwr (s : State) (n : Nat) (x : ClickSt) : (s.setClick n x).pwr = s.pwr := rfl
@[simp] theorem State.setClick_lace (s : State) (n : Nat) (x : ClickSt) : (s.setClick n x).lace = s.lace := rfl
@[simp] theorem State.setClick_trd (s : State) (n : Nat) (x : ClickSt) : (s.setClick n x).trd = s.trd := rfl

/-! ### setCluster -/

@[simp] theorem State.setCluster_pending (s : State) (c : Nat) (x : ClusterSt) : (s.setCluster c x).pending = s.pending := rfl
@[simp] theorem State.setCluster_regs (s : State) (c : Nat) (x : ClusterSt) : (s.setCluster c x).regs = s.regs := rfl
@[simp] theorem State.setCluster_shadow (s : State) (c : Nat) (x : ClusterSt) : (s.setCluster c x).shadow = s.shadow := rfl
@[simp] theorem State.setCluster_free (s : State) (c : Nat) (x : ClusterSt) : (s.setCluster c x).free = s.free := rfl
@[simp] theorem State.setCluster_served (s : State) (c : Nat) (x : ClusterSt) : (s.setCluster c x).served = s.served := rfl
@[simp] theorem State.setCluster_rsp (s : State) (c : Nat) (x : ClusterSt) : (s.setCluster c x).rsp = s.rsp := rfl
@[simp] theorem State.setCluster_time (s : State) (c : Nat) (x : ClusterSt) : (s.setCluster c x).time = s.time := rfl
@[simp] theorem State.setCluster_seams (s : State) (c : Nat) (x : ClusterSt) : (s.setCluster c x).seams = s.seams := rfl
@[simp] theorem State.setCluster_islands (s : State) (c : Nat) (x : ClusterSt) : (s.setCluster c x).islands = s.islands := rfl
@[simp] theorem State.setCluster_eye (s : State) (c : Nat) (x : ClusterSt) : (s.setCluster c x).eye = s.eye := rfl
@[simp] theorem State.setCluster_flt (s : State) (c : Nat) (x : ClusterSt) : (s.setCluster c x).flt = s.flt := rfl
@[simp] theorem State.setCluster_trc (s : State) (c : Nat) (x : ClusterSt) : (s.setCluster c x).trc = s.trc := rfl
@[simp] theorem State.setCluster_sec (s : State) (c : Nat) (x : ClusterSt) : (s.setCluster c x).sec = s.sec := rfl
@[simp] theorem State.setCluster_rst (s : State) (c : Nat) (x : ClusterSt) : (s.setCluster c x).rst = s.rst := rfl
@[simp] theorem State.setCluster_tele (s : State) (c : Nat) (x : ClusterSt) : (s.setCluster c x).tele = s.tele := rfl
@[simp] theorem State.setCluster_welt (s : State) (c : Nat) (x : ClusterSt) : (s.setCluster c x).welt = s.welt := rfl
@[simp] theorem State.setCluster_ph (s : State) (c : Nat) (x : ClusterSt) : (s.setCluster c x).ph = s.ph := rfl
@[simp] theorem State.setCluster_rails (s : State) (c : Nat) (x : ClusterSt) : (s.setCluster c x).rails = s.rails := rfl
@[simp] theorem State.setCluster_loop (s : State) (c : Nat) (x : ClusterSt) : (s.setCluster c x).loop = s.loop := rfl
@[simp] theorem State.setCluster_lasts (s : State) (c : Nat) (x : ClusterSt) : (s.setCluster c x).lasts = s.lasts := rfl
@[simp] theorem State.setCluster_thm (s : State) (c : Nat) (x : ClusterSt) : (s.setCluster c x).thm = s.thm := rfl
@[simp] theorem State.setCluster_pwr (s : State) (c : Nat) (x : ClusterSt) : (s.setCluster c x).pwr = s.pwr := rfl
@[simp] theorem State.setCluster_lace (s : State) (c : Nat) (x : ClusterSt) : (s.setCluster c x).lace = s.lace := rfl
@[simp] theorem State.setCluster_trd (s : State) (c : Nat) (x : ClusterSt) : (s.setCluster c x).trd = s.trd := rfl

/-! ### setDom -/

@[simp] theorem State.setDom_pending (s : State) (d : Nat) (x : DomSt) : (s.setDom d x).pending = s.pending := rfl
@[simp] theorem State.setDom_regs (s : State) (d : Nat) (x : DomSt) : (s.setDom d x).regs = s.regs := rfl
@[simp] theorem State.setDom_shadow (s : State) (d : Nat) (x : DomSt) : (s.setDom d x).shadow = s.shadow := rfl
@[simp] theorem State.setDom_free (s : State) (d : Nat) (x : DomSt) : (s.setDom d x).free = s.free := rfl
@[simp] theorem State.setDom_served (s : State) (d : Nat) (x : DomSt) : (s.setDom d x).served = s.served := rfl
@[simp] theorem State.setDom_rsp (s : State) (d : Nat) (x : DomSt) : (s.setDom d x).rsp = s.rsp := rfl
@[simp] theorem State.setDom_time (s : State) (d : Nat) (x : DomSt) : (s.setDom d x).time = s.time := rfl
@[simp] theorem State.setDom_seams (s : State) (d : Nat) (x : DomSt) : (s.setDom d x).seams = s.seams := rfl
@[simp] theorem State.setDom_islands (s : State) (d : Nat) (x : DomSt) : (s.setDom d x).islands = s.islands := rfl
@[simp] theorem State.setDom_eye (s : State) (d : Nat) (x : DomSt) : (s.setDom d x).eye = s.eye := rfl
@[simp] theorem State.setDom_flt (s : State) (d : Nat) (x : DomSt) : (s.setDom d x).flt = s.flt := rfl
@[simp] theorem State.setDom_trc (s : State) (d : Nat) (x : DomSt) : (s.setDom d x).trc = s.trc := rfl
@[simp] theorem State.setDom_sec (s : State) (d : Nat) (x : DomSt) : (s.setDom d x).sec = s.sec := rfl
@[simp] theorem State.setDom_rst (s : State) (d : Nat) (x : DomSt) : (s.setDom d x).rst = s.rst := rfl
@[simp] theorem State.setDom_tele (s : State) (d : Nat) (x : DomSt) : (s.setDom d x).tele = s.tele := rfl
@[simp] theorem State.setDom_crd (s : State) (d : Nat) (x : DomSt) : (s.setDom d x).crd = s.crd := rfl
@[simp] theorem State.setDom_welt (s : State) (d : Nat) (x : DomSt) : (s.setDom d x).welt = s.welt := rfl
@[simp] theorem State.setDom_ph (s : State) (d : Nat) (x : DomSt) : (s.setDom d x).ph = s.ph := rfl
@[simp] theorem State.setDom_rails (s : State) (d : Nat) (x : DomSt) : (s.setDom d x).rails = s.rails := rfl
@[simp] theorem State.setDom_loop (s : State) (d : Nat) (x : DomSt) : (s.setDom d x).loop = s.loop := rfl
@[simp] theorem State.setDom_lasts (s : State) (d : Nat) (x : DomSt) : (s.setDom d x).lasts = s.lasts := rfl
@[simp] theorem State.setDom_thm (s : State) (d : Nat) (x : DomSt) : (s.setDom d x).thm = s.thm := rfl
@[simp] theorem State.setDom_lace (s : State) (d : Nat) (x : DomSt) : (s.setDom d x).lace = s.lace := rfl
@[simp] theorem State.setDom_trd (s : State) (d : Nat) (x : DomSt) : (s.setDom d x).trd = s.trd := rfl

/-! ### putPage -/

@[simp] theorem State.putPage_pending (s : State) (c i : Nat) (l : List Byte) : (s.putPage c i l).pending = s.pending := rfl
@[simp] theorem State.putPage_regs (s : State) (c i : Nat) (l : List Byte) : (s.putPage c i l).regs = s.regs := rfl
@[simp] theorem State.putPage_shadow (s : State) (c i : Nat) (l : List Byte) : (s.putPage c i l).shadow = s.shadow := rfl
@[simp] theorem State.putPage_free (s : State) (c i : Nat) (l : List Byte) : (s.putPage c i l).free = s.free := rfl
@[simp] theorem State.putPage_served (s : State) (c i : Nat) (l : List Byte) : (s.putPage c i l).served = s.served := rfl
@[simp] theorem State.putPage_rsp (s : State) (c i : Nat) (l : List Byte) : (s.putPage c i l).rsp = s.rsp := rfl
@[simp] theorem State.putPage_time (s : State) (c i : Nat) (l : List Byte) : (s.putPage c i l).time = s.time := rfl
@[simp] theorem State.putPage_seams (s : State) (c i : Nat) (l : List Byte) : (s.putPage c i l).seams = s.seams := rfl
@[simp] theorem State.putPage_islands (s : State) (c i : Nat) (l : List Byte) : (s.putPage c i l).islands = s.islands := rfl
@[simp] theorem State.putPage_flt (s : State) (c i : Nat) (l : List Byte) : (s.putPage c i l).flt = s.flt := rfl
@[simp] theorem State.putPage_trc (s : State) (c i : Nat) (l : List Byte) : (s.putPage c i l).trc = s.trc := rfl
@[simp] theorem State.putPage_sec (s : State) (c i : Nat) (l : List Byte) : (s.putPage c i l).sec = s.sec := rfl
@[simp] theorem State.putPage_rst (s : State) (c i : Nat) (l : List Byte) : (s.putPage c i l).rst = s.rst := rfl
@[simp] theorem State.putPage_tele (s : State) (c i : Nat) (l : List Byte) : (s.putPage c i l).tele = s.tele := rfl
@[simp] theorem State.putPage_crd (s : State) (c i : Nat) (l : List Byte) : (s.putPage c i l).crd = s.crd := rfl
@[simp] theorem State.putPage_welt (s : State) (c i : Nat) (l : List Byte) : (s.putPage c i l).welt = s.welt := rfl
@[simp] theorem State.putPage_ph (s : State) (c i : Nat) (l : List Byte) : (s.putPage c i l).ph = s.ph := rfl
@[simp] theorem State.putPage_rails (s : State) (c i : Nat) (l : List Byte) : (s.putPage c i l).rails = s.rails := rfl
@[simp] theorem State.putPage_loop (s : State) (c i : Nat) (l : List Byte) : (s.putPage c i l).loop = s.loop := rfl
@[simp] theorem State.putPage_lasts (s : State) (c i : Nat) (l : List Byte) : (s.putPage c i l).lasts = s.lasts := rfl
@[simp] theorem State.putPage_thm (s : State) (c i : Nat) (l : List Byte) : (s.putPage c i l).thm = s.thm := rfl
@[simp] theorem State.putPage_pwr (s : State) (c i : Nat) (l : List Byte) : (s.putPage c i l).pwr = s.pwr := rfl
@[simp] theorem State.putPage_lace (s : State) (c i : Nat) (l : List Byte) : (s.putPage c i l).lace = s.lace := rfl
@[simp] theorem State.putPage_trd (s : State) (c i : Nat) (l : List Byte) : (s.putPage c i l).trd = s.trd := rfl

/-! ### setTrk -/

@[simp] theorem State.setTrk_pending (s : State) (row k : Nat) (x : TrkEnt) : (s.setTrk row k x).pending = s.pending := rfl
@[simp] theorem State.setTrk_shadow (s : State) (row k : Nat) (x : TrkEnt) : (s.setTrk row k x).shadow = s.shadow := rfl
@[simp] theorem State.setTrk_free (s : State) (row k : Nat) (x : TrkEnt) : (s.setTrk row k x).free = s.free := rfl
@[simp] theorem State.setTrk_served (s : State) (row k : Nat) (x : TrkEnt) : (s.setTrk row k x).served = s.served := rfl
@[simp] theorem State.setTrk_rsp (s : State) (row k : Nat) (x : TrkEnt) : (s.setTrk row k x).rsp = s.rsp := rfl
@[simp] theorem State.setTrk_time (s : State) (row k : Nat) (x : TrkEnt) : (s.setTrk row k x).time = s.time := rfl
@[simp] theorem State.setTrk_seams (s : State) (row k : Nat) (x : TrkEnt) : (s.setTrk row k x).seams = s.seams := rfl
@[simp] theorem State.setTrk_islands (s : State) (row k : Nat) (x : TrkEnt) : (s.setTrk row k x).islands = s.islands := rfl
@[simp] theorem State.setTrk_eye (s : State) (row k : Nat) (x : TrkEnt) : (s.setTrk row k x).eye = s.eye := rfl
@[simp] theorem State.setTrk_trc (s : State) (row k : Nat) (x : TrkEnt) : (s.setTrk row k x).trc = s.trc := rfl
@[simp] theorem State.setTrk_sec (s : State) (row k : Nat) (x : TrkEnt) : (s.setTrk row k x).sec = s.sec := rfl
@[simp] theorem State.setTrk_rst (s : State) (row k : Nat) (x : TrkEnt) : (s.setTrk row k x).rst = s.rst := rfl
@[simp] theorem State.setTrk_tele (s : State) (row k : Nat) (x : TrkEnt) : (s.setTrk row k x).tele = s.tele := rfl
@[simp] theorem State.setTrk_crd (s : State) (row k : Nat) (x : TrkEnt) : (s.setTrk row k x).crd = s.crd := rfl
@[simp] theorem State.setTrk_welt (s : State) (row k : Nat) (x : TrkEnt) : (s.setTrk row k x).welt = s.welt := rfl
@[simp] theorem State.setTrk_ph (s : State) (row k : Nat) (x : TrkEnt) : (s.setTrk row k x).ph = s.ph := rfl
@[simp] theorem State.setTrk_rails (s : State) (row k : Nat) (x : TrkEnt) : (s.setTrk row k x).rails = s.rails := rfl
@[simp] theorem State.setTrk_loop (s : State) (row k : Nat) (x : TrkEnt) : (s.setTrk row k x).loop = s.loop := rfl
@[simp] theorem State.setTrk_lasts (s : State) (row k : Nat) (x : TrkEnt) : (s.setTrk row k x).lasts = s.lasts := rfl
@[simp] theorem State.setTrk_thm (s : State) (row k : Nat) (x : TrkEnt) : (s.setTrk row k x).thm = s.thm := rfl
@[simp] theorem State.setTrk_pwr (s : State) (row k : Nat) (x : TrkEnt) : (s.setTrk row k x).pwr = s.pwr := rfl
@[simp] theorem State.setTrk_lace (s : State) (row k : Nat) (x : TrkEnt) : (s.setTrk row k x).lace = s.lace := rfl
@[simp] theorem State.setTrk_trd (s : State) (row k : Nat) (x : TrkEnt) : (s.setTrk row k x).trd = s.trd := rfl

/-! ### putHeel -/

@[simp] theorem State.putHeel_pending (s : State) (slot : Bool) (l : List Byte) : (s.putHeel slot l).pending = s.pending := rfl
@[simp] theorem State.putHeel_regs (s : State) (slot : Bool) (l : List Byte) : (s.putHeel slot l).regs = s.regs := rfl
@[simp] theorem State.putHeel_shadow (s : State) (slot : Bool) (l : List Byte) : (s.putHeel slot l).shadow = s.shadow := rfl
@[simp] theorem State.putHeel_free (s : State) (slot : Bool) (l : List Byte) : (s.putHeel slot l).free = s.free := rfl
@[simp] theorem State.putHeel_served (s : State) (slot : Bool) (l : List Byte) : (s.putHeel slot l).served = s.served := rfl
@[simp] theorem State.putHeel_rsp (s : State) (slot : Bool) (l : List Byte) : (s.putHeel slot l).rsp = s.rsp := rfl
@[simp] theorem State.putHeel_time (s : State) (slot : Bool) (l : List Byte) : (s.putHeel slot l).time = s.time := rfl
@[simp] theorem State.putHeel_seams (s : State) (slot : Bool) (l : List Byte) : (s.putHeel slot l).seams = s.seams := rfl
@[simp] theorem State.putHeel_islands (s : State) (slot : Bool) (l : List Byte) : (s.putHeel slot l).islands = s.islands := rfl
@[simp] theorem State.putHeel_eye (s : State) (slot : Bool) (l : List Byte) : (s.putHeel slot l).eye = s.eye := rfl
@[simp] theorem State.putHeel_trc (s : State) (slot : Bool) (l : List Byte) : (s.putHeel slot l).trc = s.trc := rfl
@[simp] theorem State.putHeel_sec (s : State) (slot : Bool) (l : List Byte) : (s.putHeel slot l).sec = s.sec := rfl
@[simp] theorem State.putHeel_rst (s : State) (slot : Bool) (l : List Byte) : (s.putHeel slot l).rst = s.rst := rfl
@[simp] theorem State.putHeel_tele (s : State) (slot : Bool) (l : List Byte) : (s.putHeel slot l).tele = s.tele := rfl
@[simp] theorem State.putHeel_crd (s : State) (slot : Bool) (l : List Byte) : (s.putHeel slot l).crd = s.crd := rfl
@[simp] theorem State.putHeel_welt (s : State) (slot : Bool) (l : List Byte) : (s.putHeel slot l).welt = s.welt := rfl
@[simp] theorem State.putHeel_ph (s : State) (slot : Bool) (l : List Byte) : (s.putHeel slot l).ph = s.ph := rfl
@[simp] theorem State.putHeel_rails (s : State) (slot : Bool) (l : List Byte) : (s.putHeel slot l).rails = s.rails := rfl
@[simp] theorem State.putHeel_loop (s : State) (slot : Bool) (l : List Byte) : (s.putHeel slot l).loop = s.loop := rfl
@[simp] theorem State.putHeel_lasts (s : State) (slot : Bool) (l : List Byte) : (s.putHeel slot l).lasts = s.lasts := rfl
@[simp] theorem State.putHeel_thm (s : State) (slot : Bool) (l : List Byte) : (s.putHeel slot l).thm = s.thm := rfl
@[simp] theorem State.putHeel_pwr (s : State) (slot : Bool) (l : List Byte) : (s.putHeel slot l).pwr = s.pwr := rfl
@[simp] theorem State.putHeel_lace (s : State) (slot : Bool) (l : List Byte) : (s.putHeel slot l).lace = s.lace := rfl
@[simp] theorem State.putHeel_trd (s : State) (slot : Bool) (l : List Byte) : (s.putHeel slot l).trd = s.trd := rfl

/-! ### putTile -/

@[simp] theorem State.putTile_pending (s : State) (t : Nat) (l : List Byte) : (s.putTile t l).pending = s.pending := rfl
@[simp] theorem State.putTile_regs (s : State) (t : Nat) (l : List Byte) : (s.putTile t l).regs = s.regs := rfl
@[simp] theorem State.putTile_shadow (s : State) (t : Nat) (l : List Byte) : (s.putTile t l).shadow = s.shadow := rfl
@[simp] theorem State.putTile_free (s : State) (t : Nat) (l : List Byte) : (s.putTile t l).free = s.free := rfl
@[simp] theorem State.putTile_served (s : State) (t : Nat) (l : List Byte) : (s.putTile t l).served = s.served := rfl
@[simp] theorem State.putTile_rsp (s : State) (t : Nat) (l : List Byte) : (s.putTile t l).rsp = s.rsp := rfl
@[simp] theorem State.putTile_time (s : State) (t : Nat) (l : List Byte) : (s.putTile t l).time = s.time := rfl
@[simp] theorem State.putTile_seams (s : State) (t : Nat) (l : List Byte) : (s.putTile t l).seams = s.seams := rfl
@[simp] theorem State.putTile_islands (s : State) (t : Nat) (l : List Byte) : (s.putTile t l).islands = s.islands := rfl
@[simp] theorem State.putTile_eye (s : State) (t : Nat) (l : List Byte) : (s.putTile t l).eye = s.eye := rfl
@[simp] theorem State.putTile_flt (s : State) (t : Nat) (l : List Byte) : (s.putTile t l).flt = s.flt := rfl
@[simp] theorem State.putTile_trc (s : State) (t : Nat) (l : List Byte) : (s.putTile t l).trc = s.trc := rfl
@[simp] theorem State.putTile_sec (s : State) (t : Nat) (l : List Byte) : (s.putTile t l).sec = s.sec := rfl
@[simp] theorem State.putTile_rst (s : State) (t : Nat) (l : List Byte) : (s.putTile t l).rst = s.rst := rfl
@[simp] theorem State.putTile_tele (s : State) (t : Nat) (l : List Byte) : (s.putTile t l).tele = s.tele := rfl
@[simp] theorem State.putTile_crd (s : State) (t : Nat) (l : List Byte) : (s.putTile t l).crd = s.crd := rfl
@[simp] theorem State.putTile_welt (s : State) (t : Nat) (l : List Byte) : (s.putTile t l).welt = s.welt := rfl
@[simp] theorem State.putTile_ph (s : State) (t : Nat) (l : List Byte) : (s.putTile t l).ph = s.ph := rfl
@[simp] theorem State.putTile_rails (s : State) (t : Nat) (l : List Byte) : (s.putTile t l).rails = s.rails := rfl
@[simp] theorem State.putTile_loop (s : State) (t : Nat) (l : List Byte) : (s.putTile t l).loop = s.loop := rfl
@[simp] theorem State.putTile_lasts (s : State) (t : Nat) (l : List Byte) : (s.putTile t l).lasts = s.lasts := rfl
@[simp] theorem State.putTile_thm (s : State) (t : Nat) (l : List Byte) : (s.putTile t l).thm = s.thm := rfl
@[simp] theorem State.putTile_lace (s : State) (t : Nat) (l : List Byte) : (s.putTile t l).lace = s.lace := rfl
@[simp] theorem State.putTile_trd (s : State) (t : Nat) (l : List Byte) : (s.putTile t l).trd = s.trd := rfl

/-! ### setPort -/

@[simp] theorem State.setPort_pending (s : State) (p : Nat) (x : PortSt) : (s.setPort p x).pending = s.pending := rfl
@[simp] theorem State.setPort_regs (s : State) (p : Nat) (x : PortSt) : (s.setPort p x).regs = s.regs := rfl
@[simp] theorem State.setPort_shadow (s : State) (p : Nat) (x : PortSt) : (s.setPort p x).shadow = s.shadow := rfl
@[simp] theorem State.setPort_free (s : State) (p : Nat) (x : PortSt) : (s.setPort p x).free = s.free := rfl
@[simp] theorem State.setPort_served (s : State) (p : Nat) (x : PortSt) : (s.setPort p x).served = s.served := rfl
@[simp] theorem State.setPort_rsp (s : State) (p : Nat) (x : PortSt) : (s.setPort p x).rsp = s.rsp := rfl
@[simp] theorem State.setPort_time (s : State) (p : Nat) (x : PortSt) : (s.setPort p x).time = s.time := rfl
@[simp] theorem State.setPort_seams (s : State) (p : Nat) (x : PortSt) : (s.setPort p x).seams = s.seams := rfl
@[simp] theorem State.setPort_islands (s : State) (p : Nat) (x : PortSt) : (s.setPort p x).islands = s.islands := rfl
@[simp] theorem State.setPort_eye (s : State) (p : Nat) (x : PortSt) : (s.setPort p x).eye = s.eye := rfl
@[simp] theorem State.setPort_flt (s : State) (p : Nat) (x : PortSt) : (s.setPort p x).flt = s.flt := rfl
@[simp] theorem State.setPort_trc (s : State) (p : Nat) (x : PortSt) : (s.setPort p x).trc = s.trc := rfl
@[simp] theorem State.setPort_sec (s : State) (p : Nat) (x : PortSt) : (s.setPort p x).sec = s.sec := rfl
@[simp] theorem State.setPort_rst (s : State) (p : Nat) (x : PortSt) : (s.setPort p x).rst = s.rst := rfl
@[simp] theorem State.setPort_tele (s : State) (p : Nat) (x : PortSt) : (s.setPort p x).tele = s.tele := rfl
@[simp] theorem State.setPort_crd (s : State) (p : Nat) (x : PortSt) : (s.setPort p x).crd = s.crd := rfl
@[simp] theorem State.setPort_welt (s : State) (p : Nat) (x : PortSt) : (s.setPort p x).welt = s.welt := rfl
@[simp] theorem State.setPort_ph (s : State) (p : Nat) (x : PortSt) : (s.setPort p x).ph = s.ph := rfl
@[simp] theorem State.setPort_rails (s : State) (p : Nat) (x : PortSt) : (s.setPort p x).rails = s.rails := rfl
@[simp] theorem State.setPort_loop (s : State) (p : Nat) (x : PortSt) : (s.setPort p x).loop = s.loop := rfl
@[simp] theorem State.setPort_lasts (s : State) (p : Nat) (x : PortSt) : (s.setPort p x).lasts = s.lasts := rfl
@[simp] theorem State.setPort_thm (s : State) (p : Nat) (x : PortSt) : (s.setPort p x).thm = s.thm := rfl
@[simp] theorem State.setPort_pwr (s : State) (p : Nat) (x : PortSt) : (s.setPort p x).pwr = s.pwr := rfl
@[simp] theorem State.setPort_trd (s : State) (p : Nat) (x : PortSt) : (s.setPort p x).trd = s.trd := rfl

/-! ### setRelays -/

@[simp] theorem State.setRelays_pending (s : State) (l : List RelayEnt) : (s.setRelays l).pending = s.pending := rfl
@[simp] theorem State.setRelays_shadow (s : State) (l : List RelayEnt) : (s.setRelays l).shadow = s.shadow := rfl
@[simp] theorem State.setRelays_free (s : State) (l : List RelayEnt) : (s.setRelays l).free = s.free := rfl
@[simp] theorem State.setRelays_served (s : State) (l : List RelayEnt) : (s.setRelays l).served = s.served := rfl
@[simp] theorem State.setRelays_rsp (s : State) (l : List RelayEnt) : (s.setRelays l).rsp = s.rsp := rfl
@[simp] theorem State.setRelays_time (s : State) (l : List RelayEnt) : (s.setRelays l).time = s.time := rfl
@[simp] theorem State.setRelays_seams (s : State) (l : List RelayEnt) : (s.setRelays l).seams = s.seams := rfl
@[simp] theorem State.setRelays_islands (s : State) (l : List RelayEnt) : (s.setRelays l).islands = s.islands := rfl
@[simp] theorem State.setRelays_eye (s : State) (l : List RelayEnt) : (s.setRelays l).eye = s.eye := rfl
@[simp] theorem State.setRelays_flt (s : State) (l : List RelayEnt) : (s.setRelays l).flt = s.flt := rfl
@[simp] theorem State.setRelays_trc (s : State) (l : List RelayEnt) : (s.setRelays l).trc = s.trc := rfl
@[simp] theorem State.setRelays_sec (s : State) (l : List RelayEnt) : (s.setRelays l).sec = s.sec := rfl
@[simp] theorem State.setRelays_rst (s : State) (l : List RelayEnt) : (s.setRelays l).rst = s.rst := rfl
@[simp] theorem State.setRelays_tele (s : State) (l : List RelayEnt) : (s.setRelays l).tele = s.tele := rfl
@[simp] theorem State.setRelays_crd (s : State) (l : List RelayEnt) : (s.setRelays l).crd = s.crd := rfl
@[simp] theorem State.setRelays_welt (s : State) (l : List RelayEnt) : (s.setRelays l).welt = s.welt := rfl
@[simp] theorem State.setRelays_ph (s : State) (l : List RelayEnt) : (s.setRelays l).ph = s.ph := rfl
@[simp] theorem State.setRelays_rails (s : State) (l : List RelayEnt) : (s.setRelays l).rails = s.rails := rfl
@[simp] theorem State.setRelays_loop (s : State) (l : List RelayEnt) : (s.setRelays l).loop = s.loop := rfl
@[simp] theorem State.setRelays_lasts (s : State) (l : List RelayEnt) : (s.setRelays l).lasts = s.lasts := rfl
@[simp] theorem State.setRelays_thm (s : State) (l : List RelayEnt) : (s.setRelays l).thm = s.thm := rfl
@[simp] theorem State.setRelays_pwr (s : State) (l : List RelayEnt) : (s.setRelays l).pwr = s.pwr := rfl
@[simp] theorem State.setRelays_trd (s : State) (l : List RelayEnt) : (s.setRelays l).trd = s.trd := rfl

/-! ### setLast -/

@[simp] theorem State.setLast_pending (s : State) (l : Nat) (x : LastSt) : (s.setLast l x).pending = s.pending := rfl
@[simp] theorem State.setLast_regs (s : State) (l : Nat) (x : LastSt) : (s.setLast l x).regs = s.regs := rfl
@[simp] theorem State.setLast_shadow (s : State) (l : Nat) (x : LastSt) : (s.setLast l x).shadow = s.shadow := rfl
@[simp] theorem State.setLast_free (s : State) (l : Nat) (x : LastSt) : (s.setLast l x).free = s.free := rfl
@[simp] theorem State.setLast_served (s : State) (l : Nat) (x : LastSt) : (s.setLast l x).served = s.served := rfl
@[simp] theorem State.setLast_rsp (s : State) (l : Nat) (x : LastSt) : (s.setLast l x).rsp = s.rsp := rfl
@[simp] theorem State.setLast_time (s : State) (l : Nat) (x : LastSt) : (s.setLast l x).time = s.time := rfl
@[simp] theorem State.setLast_seams (s : State) (l : Nat) (x : LastSt) : (s.setLast l x).seams = s.seams := rfl
@[simp] theorem State.setLast_islands (s : State) (l : Nat) (x : LastSt) : (s.setLast l x).islands = s.islands := rfl
@[simp] theorem State.setLast_eye (s : State) (l : Nat) (x : LastSt) : (s.setLast l x).eye = s.eye := rfl
@[simp] theorem State.setLast_flt (s : State) (l : Nat) (x : LastSt) : (s.setLast l x).flt = s.flt := rfl
@[simp] theorem State.setLast_trc (s : State) (l : Nat) (x : LastSt) : (s.setLast l x).trc = s.trc := rfl
@[simp] theorem State.setLast_sec (s : State) (l : Nat) (x : LastSt) : (s.setLast l x).sec = s.sec := rfl
@[simp] theorem State.setLast_rst (s : State) (l : Nat) (x : LastSt) : (s.setLast l x).rst = s.rst := rfl
@[simp] theorem State.setLast_tele (s : State) (l : Nat) (x : LastSt) : (s.setLast l x).tele = s.tele := rfl
@[simp] theorem State.setLast_crd (s : State) (l : Nat) (x : LastSt) : (s.setLast l x).crd = s.crd := rfl
@[simp] theorem State.setLast_welt (s : State) (l : Nat) (x : LastSt) : (s.setLast l x).welt = s.welt := rfl
@[simp] theorem State.setLast_ph (s : State) (l : Nat) (x : LastSt) : (s.setLast l x).ph = s.ph := rfl
@[simp] theorem State.setLast_rails (s : State) (l : Nat) (x : LastSt) : (s.setLast l x).rails = s.rails := rfl
@[simp] theorem State.setLast_loop (s : State) (l : Nat) (x : LastSt) : (s.setLast l x).loop = s.loop := rfl
@[simp] theorem State.setLast_thm (s : State) (l : Nat) (x : LastSt) : (s.setLast l x).thm = s.thm := rfl
@[simp] theorem State.setLast_pwr (s : State) (l : Nat) (x : LastSt) : (s.setLast l x).pwr = s.pwr := rfl
@[simp] theorem State.setLast_lace (s : State) (l : Nat) (x : LastSt) : (s.setLast l x).lace = s.lace := rfl
@[simp] theorem State.setLast_trd (s : State) (l : Nat) (x : LastSt) : (s.setLast l x).trd = s.trd := rfl

/-! ### setPred -/

@[simp] theorem State.setPred_pending (s : State) (x : PredSt) : (s.setPred x).pending = s.pending := rfl
@[simp] theorem State.setPred_regs (s : State) (x : PredSt) : (s.setPred x).regs = s.regs := rfl
@[simp] theorem State.setPred_shadow (s : State) (x : PredSt) : (s.setPred x).shadow = s.shadow := rfl
@[simp] theorem State.setPred_free (s : State) (x : PredSt) : (s.setPred x).free = s.free := rfl
@[simp] theorem State.setPred_served (s : State) (x : PredSt) : (s.setPred x).served = s.served := rfl
@[simp] theorem State.setPred_rsp (s : State) (x : PredSt) : (s.setPred x).rsp = s.rsp := rfl
@[simp] theorem State.setPred_time (s : State) (x : PredSt) : (s.setPred x).time = s.time := rfl
@[simp] theorem State.setPred_seams (s : State) (x : PredSt) : (s.setPred x).seams = s.seams := rfl
@[simp] theorem State.setPred_islands (s : State) (x : PredSt) : (s.setPred x).islands = s.islands := rfl
@[simp] theorem State.setPred_eye (s : State) (x : PredSt) : (s.setPred x).eye = s.eye := rfl
@[simp] theorem State.setPred_flt (s : State) (x : PredSt) : (s.setPred x).flt = s.flt := rfl
@[simp] theorem State.setPred_trc (s : State) (x : PredSt) : (s.setPred x).trc = s.trc := rfl
@[simp] theorem State.setPred_sec (s : State) (x : PredSt) : (s.setPred x).sec = s.sec := rfl
@[simp] theorem State.setPred_rst (s : State) (x : PredSt) : (s.setPred x).rst = s.rst := rfl
@[simp] theorem State.setPred_tele (s : State) (x : PredSt) : (s.setPred x).tele = s.tele := rfl
@[simp] theorem State.setPred_crd (s : State) (x : PredSt) : (s.setPred x).crd = s.crd := rfl
@[simp] theorem State.setPred_welt (s : State) (x : PredSt) : (s.setPred x).welt = s.welt := rfl
@[simp] theorem State.setPred_ph (s : State) (x : PredSt) : (s.setPred x).ph = s.ph := rfl
@[simp] theorem State.setPred_rails (s : State) (x : PredSt) : (s.setPred x).rails = s.rails := rfl
@[simp] theorem State.setPred_loop (s : State) (x : PredSt) : (s.setPred x).loop = s.loop := rfl
@[simp] theorem State.setPred_thm (s : State) (x : PredSt) : (s.setPred x).thm = s.thm := rfl
@[simp] theorem State.setPred_pwr (s : State) (x : PredSt) : (s.setPred x).pwr = s.pwr := rfl
@[simp] theorem State.setPred_lace (s : State) (x : PredSt) : (s.setPred x).lace = s.lace := rfl
@[simp] theorem State.setPred_trd (s : State) (x : PredSt) : (s.setPred x).trd = s.trd := rfl

/-! ### setLane -/

@[simp] theorem State.setLane_pending (s : State) (k : Nat) (x : LaneSt) : (s.setLane k x).pending = s.pending := rfl
@[simp] theorem State.setLane_regs (s : State) (k : Nat) (x : LaneSt) : (s.setLane k x).regs = s.regs := rfl
@[simp] theorem State.setLane_shadow (s : State) (k : Nat) (x : LaneSt) : (s.setLane k x).shadow = s.shadow := rfl
@[simp] theorem State.setLane_free (s : State) (k : Nat) (x : LaneSt) : (s.setLane k x).free = s.free := rfl
@[simp] theorem State.setLane_served (s : State) (k : Nat) (x : LaneSt) : (s.setLane k x).served = s.served := rfl
@[simp] theorem State.setLane_rsp (s : State) (k : Nat) (x : LaneSt) : (s.setLane k x).rsp = s.rsp := rfl
@[simp] theorem State.setLane_time (s : State) (k : Nat) (x : LaneSt) : (s.setLane k x).time = s.time := rfl
@[simp] theorem State.setLane_seams (s : State) (k : Nat) (x : LaneSt) : (s.setLane k x).seams = s.seams := rfl
@[simp] theorem State.setLane_islands (s : State) (k : Nat) (x : LaneSt) : (s.setLane k x).islands = s.islands := rfl
@[simp] theorem State.setLane_eye (s : State) (k : Nat) (x : LaneSt) : (s.setLane k x).eye = s.eye := rfl
@[simp] theorem State.setLane_flt (s : State) (k : Nat) (x : LaneSt) : (s.setLane k x).flt = s.flt := rfl
@[simp] theorem State.setLane_trc (s : State) (k : Nat) (x : LaneSt) : (s.setLane k x).trc = s.trc := rfl
@[simp] theorem State.setLane_sec (s : State) (k : Nat) (x : LaneSt) : (s.setLane k x).sec = s.sec := rfl
@[simp] theorem State.setLane_rst (s : State) (k : Nat) (x : LaneSt) : (s.setLane k x).rst = s.rst := rfl
@[simp] theorem State.setLane_tele (s : State) (k : Nat) (x : LaneSt) : (s.setLane k x).tele = s.tele := rfl
@[simp] theorem State.setLane_crd (s : State) (k : Nat) (x : LaneSt) : (s.setLane k x).crd = s.crd := rfl
@[simp] theorem State.setLane_welt (s : State) (k : Nat) (x : LaneSt) : (s.setLane k x).welt = s.welt := rfl
@[simp] theorem State.setLane_ph (s : State) (k : Nat) (x : LaneSt) : (s.setLane k x).ph = s.ph := rfl
@[simp] theorem State.setLane_rails (s : State) (k : Nat) (x : LaneSt) : (s.setLane k x).rails = s.rails := rfl
@[simp] theorem State.setLane_lasts (s : State) (k : Nat) (x : LaneSt) : (s.setLane k x).lasts = s.lasts := rfl
@[simp] theorem State.setLane_thm (s : State) (k : Nat) (x : LaneSt) : (s.setLane k x).thm = s.thm := rfl
@[simp] theorem State.setLane_pwr (s : State) (k : Nat) (x : LaneSt) : (s.setLane k x).pwr = s.pwr := rfl
@[simp] theorem State.setLane_lace (s : State) (k : Nat) (x : LaneSt) : (s.setLane k x).lace = s.lace := rfl
@[simp] theorem State.setLane_trd (s : State) (k : Nat) (x : LaneSt) : (s.setLane k x).trd = s.trd := rfl

/-! ### setSlot -/

@[simp] theorem State.setSlot_pending (s : State) (n : Nat) (x : SlotSt) : (s.setSlot n x).pending = s.pending := rfl
@[simp] theorem State.setSlot_regs (s : State) (n : Nat) (x : SlotSt) : (s.setSlot n x).regs = s.regs := rfl
@[simp] theorem State.setSlot_shadow (s : State) (n : Nat) (x : SlotSt) : (s.setSlot n x).shadow = s.shadow := rfl
@[simp] theorem State.setSlot_free (s : State) (n : Nat) (x : SlotSt) : (s.setSlot n x).free = s.free := rfl
@[simp] theorem State.setSlot_served (s : State) (n : Nat) (x : SlotSt) : (s.setSlot n x).served = s.served := rfl
@[simp] theorem State.setSlot_rsp (s : State) (n : Nat) (x : SlotSt) : (s.setSlot n x).rsp = s.rsp := rfl
@[simp] theorem State.setSlot_time (s : State) (n : Nat) (x : SlotSt) : (s.setSlot n x).time = s.time := rfl
@[simp] theorem State.setSlot_seams (s : State) (n : Nat) (x : SlotSt) : (s.setSlot n x).seams = s.seams := rfl
@[simp] theorem State.setSlot_islands (s : State) (n : Nat) (x : SlotSt) : (s.setSlot n x).islands = s.islands := rfl
@[simp] theorem State.setSlot_eye (s : State) (n : Nat) (x : SlotSt) : (s.setSlot n x).eye = s.eye := rfl
@[simp] theorem State.setSlot_flt (s : State) (n : Nat) (x : SlotSt) : (s.setSlot n x).flt = s.flt := rfl
@[simp] theorem State.setSlot_trc (s : State) (n : Nat) (x : SlotSt) : (s.setSlot n x).trc = s.trc := rfl
@[simp] theorem State.setSlot_sec (s : State) (n : Nat) (x : SlotSt) : (s.setSlot n x).sec = s.sec := rfl
@[simp] theorem State.setSlot_rst (s : State) (n : Nat) (x : SlotSt) : (s.setSlot n x).rst = s.rst := rfl
@[simp] theorem State.setSlot_tele (s : State) (n : Nat) (x : SlotSt) : (s.setSlot n x).tele = s.tele := rfl
@[simp] theorem State.setSlot_crd (s : State) (n : Nat) (x : SlotSt) : (s.setSlot n x).crd = s.crd := rfl
@[simp] theorem State.setSlot_welt (s : State) (n : Nat) (x : SlotSt) : (s.setSlot n x).welt = s.welt := rfl
@[simp] theorem State.setSlot_ph (s : State) (n : Nat) (x : SlotSt) : (s.setSlot n x).ph = s.ph := rfl
@[simp] theorem State.setSlot_rails (s : State) (n : Nat) (x : SlotSt) : (s.setSlot n x).rails = s.rails := rfl
@[simp] theorem State.setSlot_lasts (s : State) (n : Nat) (x : SlotSt) : (s.setSlot n x).lasts = s.lasts := rfl
@[simp] theorem State.setSlot_thm (s : State) (n : Nat) (x : SlotSt) : (s.setSlot n x).thm = s.thm := rfl
@[simp] theorem State.setSlot_pwr (s : State) (n : Nat) (x : SlotSt) : (s.setSlot n x).pwr = s.pwr := rfl
@[simp] theorem State.setSlot_lace (s : State) (n : Nat) (x : SlotSt) : (s.setSlot n x).lace = s.lace := rfl
@[simp] theorem State.setSlot_trd (s : State) (n : Nat) (x : SlotSt) : (s.setSlot n x).trd = s.trd := rfl

/-! ### setNotch -/

@[simp] theorem State.setNotch_pending (s : State) (k : Nat) (x : NotchSt) : (s.setNotch k x).pending = s.pending := rfl
@[simp] theorem State.setNotch_regs (s : State) (k : Nat) (x : NotchSt) : (s.setNotch k x).regs = s.regs := rfl
@[simp] theorem State.setNotch_shadow (s : State) (k : Nat) (x : NotchSt) : (s.setNotch k x).shadow = s.shadow := rfl
@[simp] theorem State.setNotch_free (s : State) (k : Nat) (x : NotchSt) : (s.setNotch k x).free = s.free := rfl
@[simp] theorem State.setNotch_served (s : State) (k : Nat) (x : NotchSt) : (s.setNotch k x).served = s.served := rfl
@[simp] theorem State.setNotch_rsp (s : State) (k : Nat) (x : NotchSt) : (s.setNotch k x).rsp = s.rsp := rfl
@[simp] theorem State.setNotch_time (s : State) (k : Nat) (x : NotchSt) : (s.setNotch k x).time = s.time := rfl
@[simp] theorem State.setNotch_seams (s : State) (k : Nat) (x : NotchSt) : (s.setNotch k x).seams = s.seams := rfl
@[simp] theorem State.setNotch_islands (s : State) (k : Nat) (x : NotchSt) : (s.setNotch k x).islands = s.islands := rfl
@[simp] theorem State.setNotch_eye (s : State) (k : Nat) (x : NotchSt) : (s.setNotch k x).eye = s.eye := rfl
@[simp] theorem State.setNotch_flt (s : State) (k : Nat) (x : NotchSt) : (s.setNotch k x).flt = s.flt := rfl
@[simp] theorem State.setNotch_trc (s : State) (k : Nat) (x : NotchSt) : (s.setNotch k x).trc = s.trc := rfl
@[simp] theorem State.setNotch_sec (s : State) (k : Nat) (x : NotchSt) : (s.setNotch k x).sec = s.sec := rfl
@[simp] theorem State.setNotch_rst (s : State) (k : Nat) (x : NotchSt) : (s.setNotch k x).rst = s.rst := rfl
@[simp] theorem State.setNotch_tele (s : State) (k : Nat) (x : NotchSt) : (s.setNotch k x).tele = s.tele := rfl
@[simp] theorem State.setNotch_crd (s : State) (k : Nat) (x : NotchSt) : (s.setNotch k x).crd = s.crd := rfl
@[simp] theorem State.setNotch_welt (s : State) (k : Nat) (x : NotchSt) : (s.setNotch k x).welt = s.welt := rfl
@[simp] theorem State.setNotch_ph (s : State) (k : Nat) (x : NotchSt) : (s.setNotch k x).ph = s.ph := rfl
@[simp] theorem State.setNotch_rails (s : State) (k : Nat) (x : NotchSt) : (s.setNotch k x).rails = s.rails := rfl
@[simp] theorem State.setNotch_lasts (s : State) (k : Nat) (x : NotchSt) : (s.setNotch k x).lasts = s.lasts := rfl
@[simp] theorem State.setNotch_thm (s : State) (k : Nat) (x : NotchSt) : (s.setNotch k x).thm = s.thm := rfl
@[simp] theorem State.setNotch_pwr (s : State) (k : Nat) (x : NotchSt) : (s.setNotch k x).pwr = s.pwr := rfl
@[simp] theorem State.setNotch_lace (s : State) (k : Nat) (x : NotchSt) : (s.setNotch k x).lace = s.lace := rfl
@[simp] theorem State.setNotch_trd (s : State) (k : Nat) (x : NotchSt) : (s.setNotch k x).trd = s.trd := rfl

/-! ### setGroup -/

@[simp] theorem State.setGroup_pending (s : State) (g : Nat) (x : GroupSt) : (s.setGroup g x).pending = s.pending := rfl
@[simp] theorem State.setGroup_regs (s : State) (g : Nat) (x : GroupSt) : (s.setGroup g x).regs = s.regs := rfl
@[simp] theorem State.setGroup_shadow (s : State) (g : Nat) (x : GroupSt) : (s.setGroup g x).shadow = s.shadow := rfl
@[simp] theorem State.setGroup_free (s : State) (g : Nat) (x : GroupSt) : (s.setGroup g x).free = s.free := rfl
@[simp] theorem State.setGroup_served (s : State) (g : Nat) (x : GroupSt) : (s.setGroup g x).served = s.served := rfl
@[simp] theorem State.setGroup_rsp (s : State) (g : Nat) (x : GroupSt) : (s.setGroup g x).rsp = s.rsp := rfl
@[simp] theorem State.setGroup_time (s : State) (g : Nat) (x : GroupSt) : (s.setGroup g x).time = s.time := rfl
@[simp] theorem State.setGroup_seams (s : State) (g : Nat) (x : GroupSt) : (s.setGroup g x).seams = s.seams := rfl
@[simp] theorem State.setGroup_islands (s : State) (g : Nat) (x : GroupSt) : (s.setGroup g x).islands = s.islands := rfl
@[simp] theorem State.setGroup_eye (s : State) (g : Nat) (x : GroupSt) : (s.setGroup g x).eye = s.eye := rfl
@[simp] theorem State.setGroup_flt (s : State) (g : Nat) (x : GroupSt) : (s.setGroup g x).flt = s.flt := rfl
@[simp] theorem State.setGroup_trc (s : State) (g : Nat) (x : GroupSt) : (s.setGroup g x).trc = s.trc := rfl
@[simp] theorem State.setGroup_sec (s : State) (g : Nat) (x : GroupSt) : (s.setGroup g x).sec = s.sec := rfl
@[simp] theorem State.setGroup_rst (s : State) (g : Nat) (x : GroupSt) : (s.setGroup g x).rst = s.rst := rfl
@[simp] theorem State.setGroup_tele (s : State) (g : Nat) (x : GroupSt) : (s.setGroup g x).tele = s.tele := rfl
@[simp] theorem State.setGroup_crd (s : State) (g : Nat) (x : GroupSt) : (s.setGroup g x).crd = s.crd := rfl
@[simp] theorem State.setGroup_welt (s : State) (g : Nat) (x : GroupSt) : (s.setGroup g x).welt = s.welt := rfl
@[simp] theorem State.setGroup_ph (s : State) (g : Nat) (x : GroupSt) : (s.setGroup g x).ph = s.ph := rfl
@[simp] theorem State.setGroup_rails (s : State) (g : Nat) (x : GroupSt) : (s.setGroup g x).rails = s.rails := rfl
@[simp] theorem State.setGroup_lasts (s : State) (g : Nat) (x : GroupSt) : (s.setGroup g x).lasts = s.lasts := rfl
@[simp] theorem State.setGroup_thm (s : State) (g : Nat) (x : GroupSt) : (s.setGroup g x).thm = s.thm := rfl
@[simp] theorem State.setGroup_pwr (s : State) (g : Nat) (x : GroupSt) : (s.setGroup g x).pwr = s.pwr := rfl
@[simp] theorem State.setGroup_lace (s : State) (g : Nat) (x : GroupSt) : (s.setGroup g x).lace = s.lace := rfl
@[simp] theorem State.setGroup_trd (s : State) (g : Nat) (x : GroupSt) : (s.setGroup g x).trd = s.trd := rfl

/-! ### setPhase -/

@[simp] theorem State.setPhase_pending (s : State) (p : Nat) (x : PhaseSt) : (s.setPhase p x).pending = s.pending := rfl
@[simp] theorem State.setPhase_regs (s : State) (p : Nat) (x : PhaseSt) : (s.setPhase p x).regs = s.regs := rfl
@[simp] theorem State.setPhase_shadow (s : State) (p : Nat) (x : PhaseSt) : (s.setPhase p x).shadow = s.shadow := rfl
@[simp] theorem State.setPhase_free (s : State) (p : Nat) (x : PhaseSt) : (s.setPhase p x).free = s.free := rfl
@[simp] theorem State.setPhase_served (s : State) (p : Nat) (x : PhaseSt) : (s.setPhase p x).served = s.served := rfl
@[simp] theorem State.setPhase_rsp (s : State) (p : Nat) (x : PhaseSt) : (s.setPhase p x).rsp = s.rsp := rfl
@[simp] theorem State.setPhase_time (s : State) (p : Nat) (x : PhaseSt) : (s.setPhase p x).time = s.time := rfl
@[simp] theorem State.setPhase_seams (s : State) (p : Nat) (x : PhaseSt) : (s.setPhase p x).seams = s.seams := rfl
@[simp] theorem State.setPhase_islands (s : State) (p : Nat) (x : PhaseSt) : (s.setPhase p x).islands = s.islands := rfl
@[simp] theorem State.setPhase_eye (s : State) (p : Nat) (x : PhaseSt) : (s.setPhase p x).eye = s.eye := rfl
@[simp] theorem State.setPhase_flt (s : State) (p : Nat) (x : PhaseSt) : (s.setPhase p x).flt = s.flt := rfl
@[simp] theorem State.setPhase_trc (s : State) (p : Nat) (x : PhaseSt) : (s.setPhase p x).trc = s.trc := rfl
@[simp] theorem State.setPhase_sec (s : State) (p : Nat) (x : PhaseSt) : (s.setPhase p x).sec = s.sec := rfl
@[simp] theorem State.setPhase_rst (s : State) (p : Nat) (x : PhaseSt) : (s.setPhase p x).rst = s.rst := rfl
@[simp] theorem State.setPhase_tele (s : State) (p : Nat) (x : PhaseSt) : (s.setPhase p x).tele = s.tele := rfl
@[simp] theorem State.setPhase_crd (s : State) (p : Nat) (x : PhaseSt) : (s.setPhase p x).crd = s.crd := rfl
@[simp] theorem State.setPhase_welt (s : State) (p : Nat) (x : PhaseSt) : (s.setPhase p x).welt = s.welt := rfl
@[simp] theorem State.setPhase_rails (s : State) (p : Nat) (x : PhaseSt) : (s.setPhase p x).rails = s.rails := rfl
@[simp] theorem State.setPhase_loop (s : State) (p : Nat) (x : PhaseSt) : (s.setPhase p x).loop = s.loop := rfl
@[simp] theorem State.setPhase_lasts (s : State) (p : Nat) (x : PhaseSt) : (s.setPhase p x).lasts = s.lasts := rfl
@[simp] theorem State.setPhase_thm (s : State) (p : Nat) (x : PhaseSt) : (s.setPhase p x).thm = s.thm := rfl
@[simp] theorem State.setPhase_pwr (s : State) (p : Nat) (x : PhaseSt) : (s.setPhase p x).pwr = s.pwr := rfl
@[simp] theorem State.setPhase_lace (s : State) (p : Nat) (x : PhaseSt) : (s.setPhase p x).lace = s.lace := rfl
@[simp] theorem State.setPhase_trd (s : State) (p : Nat) (x : PhaseSt) : (s.setPhase p x).trd = s.trd := rfl

/-! ### setRail -/

@[simp] theorem State.setRail_pending (s : State) (r : Nat) (x : RailSt) : (s.setRail r x).pending = s.pending := rfl
@[simp] theorem State.setRail_regs (s : State) (r : Nat) (x : RailSt) : (s.setRail r x).regs = s.regs := rfl
@[simp] theorem State.setRail_shadow (s : State) (r : Nat) (x : RailSt) : (s.setRail r x).shadow = s.shadow := rfl
@[simp] theorem State.setRail_free (s : State) (r : Nat) (x : RailSt) : (s.setRail r x).free = s.free := rfl
@[simp] theorem State.setRail_served (s : State) (r : Nat) (x : RailSt) : (s.setRail r x).served = s.served := rfl
@[simp] theorem State.setRail_rsp (s : State) (r : Nat) (x : RailSt) : (s.setRail r x).rsp = s.rsp := rfl
@[simp] theorem State.setRail_time (s : State) (r : Nat) (x : RailSt) : (s.setRail r x).time = s.time := rfl
@[simp] theorem State.setRail_seams (s : State) (r : Nat) (x : RailSt) : (s.setRail r x).seams = s.seams := rfl
@[simp] theorem State.setRail_islands (s : State) (r : Nat) (x : RailSt) : (s.setRail r x).islands = s.islands := rfl
@[simp] theorem State.setRail_eye (s : State) (r : Nat) (x : RailSt) : (s.setRail r x).eye = s.eye := rfl
@[simp] theorem State.setRail_flt (s : State) (r : Nat) (x : RailSt) : (s.setRail r x).flt = s.flt := rfl
@[simp] theorem State.setRail_trc (s : State) (r : Nat) (x : RailSt) : (s.setRail r x).trc = s.trc := rfl
@[simp] theorem State.setRail_sec (s : State) (r : Nat) (x : RailSt) : (s.setRail r x).sec = s.sec := rfl
@[simp] theorem State.setRail_rst (s : State) (r : Nat) (x : RailSt) : (s.setRail r x).rst = s.rst := rfl
@[simp] theorem State.setRail_tele (s : State) (r : Nat) (x : RailSt) : (s.setRail r x).tele = s.tele := rfl
@[simp] theorem State.setRail_crd (s : State) (r : Nat) (x : RailSt) : (s.setRail r x).crd = s.crd := rfl
@[simp] theorem State.setRail_welt (s : State) (r : Nat) (x : RailSt) : (s.setRail r x).welt = s.welt := rfl
@[simp] theorem State.setRail_ph (s : State) (r : Nat) (x : RailSt) : (s.setRail r x).ph = s.ph := rfl
@[simp] theorem State.setRail_loop (s : State) (r : Nat) (x : RailSt) : (s.setRail r x).loop = s.loop := rfl
@[simp] theorem State.setRail_lasts (s : State) (r : Nat) (x : RailSt) : (s.setRail r x).lasts = s.lasts := rfl
@[simp] theorem State.setRail_thm (s : State) (r : Nat) (x : RailSt) : (s.setRail r x).thm = s.thm := rfl
@[simp] theorem State.setRail_pwr (s : State) (r : Nat) (x : RailSt) : (s.setRail r x).pwr = s.pwr := rfl
@[simp] theorem State.setRail_lace (s : State) (r : Nat) (x : RailSt) : (s.setRail r x).lace = s.lace := rfl
@[simp] theorem State.setRail_trd (s : State) (r : Nat) (x : RailSt) : (s.setRail r x).trd = s.trd := rfl

/-! ### setSeq -/

@[simp] theorem State.setSeq_pending (s : State) (x : SeqSt) : (s.setSeq x).pending = s.pending := rfl
@[simp] theorem State.setSeq_regs (s : State) (x : SeqSt) : (s.setSeq x).regs = s.regs := rfl
@[simp] theorem State.setSeq_shadow (s : State) (x : SeqSt) : (s.setSeq x).shadow = s.shadow := rfl
@[simp] theorem State.setSeq_free (s : State) (x : SeqSt) : (s.setSeq x).free = s.free := rfl
@[simp] theorem State.setSeq_served (s : State) (x : SeqSt) : (s.setSeq x).served = s.served := rfl
@[simp] theorem State.setSeq_rsp (s : State) (x : SeqSt) : (s.setSeq x).rsp = s.rsp := rfl
@[simp] theorem State.setSeq_time (s : State) (x : SeqSt) : (s.setSeq x).time = s.time := rfl
@[simp] theorem State.setSeq_seams (s : State) (x : SeqSt) : (s.setSeq x).seams = s.seams := rfl
@[simp] theorem State.setSeq_islands (s : State) (x : SeqSt) : (s.setSeq x).islands = s.islands := rfl
@[simp] theorem State.setSeq_eye (s : State) (x : SeqSt) : (s.setSeq x).eye = s.eye := rfl
@[simp] theorem State.setSeq_flt (s : State) (x : SeqSt) : (s.setSeq x).flt = s.flt := rfl
@[simp] theorem State.setSeq_trc (s : State) (x : SeqSt) : (s.setSeq x).trc = s.trc := rfl
@[simp] theorem State.setSeq_sec (s : State) (x : SeqSt) : (s.setSeq x).sec = s.sec := rfl
@[simp] theorem State.setSeq_rst (s : State) (x : SeqSt) : (s.setSeq x).rst = s.rst := rfl
@[simp] theorem State.setSeq_tele (s : State) (x : SeqSt) : (s.setSeq x).tele = s.tele := rfl
@[simp] theorem State.setSeq_crd (s : State) (x : SeqSt) : (s.setSeq x).crd = s.crd := rfl
@[simp] theorem State.setSeq_welt (s : State) (x : SeqSt) : (s.setSeq x).welt = s.welt := rfl
@[simp] theorem State.setSeq_ph (s : State) (x : SeqSt) : (s.setSeq x).ph = s.ph := rfl
@[simp] theorem State.setSeq_loop (s : State) (x : SeqSt) : (s.setSeq x).loop = s.loop := rfl
@[simp] theorem State.setSeq_lasts (s : State) (x : SeqSt) : (s.setSeq x).lasts = s.lasts := rfl
@[simp] theorem State.setSeq_thm (s : State) (x : SeqSt) : (s.setSeq x).thm = s.thm := rfl
@[simp] theorem State.setSeq_pwr (s : State) (x : SeqSt) : (s.setSeq x).pwr = s.pwr := rfl
@[simp] theorem State.setSeq_lace (s : State) (x : SeqSt) : (s.setSeq x).lace = s.lace := rfl
@[simp] theorem State.setSeq_trd (s : State) (x : SeqSt) : (s.setSeq x).trd = s.trd := rfl

/-! ### setPmb -/

@[simp] theorem State.setPmb_pending (s : State) (x : PmbSt) : (s.setPmb x).pending = s.pending := rfl
@[simp] theorem State.setPmb_regs (s : State) (x : PmbSt) : (s.setPmb x).regs = s.regs := rfl
@[simp] theorem State.setPmb_shadow (s : State) (x : PmbSt) : (s.setPmb x).shadow = s.shadow := rfl
@[simp] theorem State.setPmb_free (s : State) (x : PmbSt) : (s.setPmb x).free = s.free := rfl
@[simp] theorem State.setPmb_served (s : State) (x : PmbSt) : (s.setPmb x).served = s.served := rfl
@[simp] theorem State.setPmb_rsp (s : State) (x : PmbSt) : (s.setPmb x).rsp = s.rsp := rfl
@[simp] theorem State.setPmb_time (s : State) (x : PmbSt) : (s.setPmb x).time = s.time := rfl
@[simp] theorem State.setPmb_seams (s : State) (x : PmbSt) : (s.setPmb x).seams = s.seams := rfl
@[simp] theorem State.setPmb_islands (s : State) (x : PmbSt) : (s.setPmb x).islands = s.islands := rfl
@[simp] theorem State.setPmb_eye (s : State) (x : PmbSt) : (s.setPmb x).eye = s.eye := rfl
@[simp] theorem State.setPmb_flt (s : State) (x : PmbSt) : (s.setPmb x).flt = s.flt := rfl
@[simp] theorem State.setPmb_sec (s : State) (x : PmbSt) : (s.setPmb x).sec = s.sec := rfl
@[simp] theorem State.setPmb_rst (s : State) (x : PmbSt) : (s.setPmb x).rst = s.rst := rfl
@[simp] theorem State.setPmb_tele (s : State) (x : PmbSt) : (s.setPmb x).tele = s.tele := rfl
@[simp] theorem State.setPmb_crd (s : State) (x : PmbSt) : (s.setPmb x).crd = s.crd := rfl
@[simp] theorem State.setPmb_welt (s : State) (x : PmbSt) : (s.setPmb x).welt = s.welt := rfl
@[simp] theorem State.setPmb_ph (s : State) (x : PmbSt) : (s.setPmb x).ph = s.ph := rfl
@[simp] theorem State.setPmb_rails (s : State) (x : PmbSt) : (s.setPmb x).rails = s.rails := rfl
@[simp] theorem State.setPmb_loop (s : State) (x : PmbSt) : (s.setPmb x).loop = s.loop := rfl
@[simp] theorem State.setPmb_lasts (s : State) (x : PmbSt) : (s.setPmb x).lasts = s.lasts := rfl
@[simp] theorem State.setPmb_thm (s : State) (x : PmbSt) : (s.setPmb x).thm = s.thm := rfl
@[simp] theorem State.setPmb_pwr (s : State) (x : PmbSt) : (s.setPmb x).pwr = s.pwr := rfl
@[simp] theorem State.setPmb_lace (s : State) (x : PmbSt) : (s.setPmb x).lace = s.lace := rfl
@[simp] theorem State.setPmb_trd (s : State) (x : PmbSt) : (s.setPmb x).trd = s.trd := rfl

/-! ### setSens -/

@[simp] theorem State.setSens_pending (s : State) (a : Nat) (x : SensSt) : (s.setSens a x).pending = s.pending := rfl
@[simp] theorem State.setSens_regs (s : State) (a : Nat) (x : SensSt) : (s.setSens a x).regs = s.regs := rfl
@[simp] theorem State.setSens_shadow (s : State) (a : Nat) (x : SensSt) : (s.setSens a x).shadow = s.shadow := rfl
@[simp] theorem State.setSens_free (s : State) (a : Nat) (x : SensSt) : (s.setSens a x).free = s.free := rfl
@[simp] theorem State.setSens_served (s : State) (a : Nat) (x : SensSt) : (s.setSens a x).served = s.served := rfl
@[simp] theorem State.setSens_rsp (s : State) (a : Nat) (x : SensSt) : (s.setSens a x).rsp = s.rsp := rfl
@[simp] theorem State.setSens_time (s : State) (a : Nat) (x : SensSt) : (s.setSens a x).time = s.time := rfl
@[simp] theorem State.setSens_seams (s : State) (a : Nat) (x : SensSt) : (s.setSens a x).seams = s.seams := rfl
@[simp] theorem State.setSens_islands (s : State) (a : Nat) (x : SensSt) : (s.setSens a x).islands = s.islands := rfl
@[simp] theorem State.setSens_eye (s : State) (a : Nat) (x : SensSt) : (s.setSens a x).eye = s.eye := rfl
@[simp] theorem State.setSens_flt (s : State) (a : Nat) (x : SensSt) : (s.setSens a x).flt = s.flt := rfl
@[simp] theorem State.setSens_trc (s : State) (a : Nat) (x : SensSt) : (s.setSens a x).trc = s.trc := rfl
@[simp] theorem State.setSens_sec (s : State) (a : Nat) (x : SensSt) : (s.setSens a x).sec = s.sec := rfl
@[simp] theorem State.setSens_rst (s : State) (a : Nat) (x : SensSt) : (s.setSens a x).rst = s.rst := rfl
@[simp] theorem State.setSens_tele (s : State) (a : Nat) (x : SensSt) : (s.setSens a x).tele = s.tele := rfl
@[simp] theorem State.setSens_crd (s : State) (a : Nat) (x : SensSt) : (s.setSens a x).crd = s.crd := rfl
@[simp] theorem State.setSens_welt (s : State) (a : Nat) (x : SensSt) : (s.setSens a x).welt = s.welt := rfl
@[simp] theorem State.setSens_ph (s : State) (a : Nat) (x : SensSt) : (s.setSens a x).ph = s.ph := rfl
@[simp] theorem State.setSens_rails (s : State) (a : Nat) (x : SensSt) : (s.setSens a x).rails = s.rails := rfl
@[simp] theorem State.setSens_loop (s : State) (a : Nat) (x : SensSt) : (s.setSens a x).loop = s.loop := rfl
@[simp] theorem State.setSens_lasts (s : State) (a : Nat) (x : SensSt) : (s.setSens a x).lasts = s.lasts := rfl
@[simp] theorem State.setSens_pwr (s : State) (a : Nat) (x : SensSt) : (s.setSens a x).pwr = s.pwr := rfl
@[simp] theorem State.setSens_lace (s : State) (a : Nat) (x : SensSt) : (s.setSens a x).lace = s.lace := rfl
@[simp] theorem State.setSens_trd (s : State) (a : Nat) (x : SensSt) : (s.setSens a x).trd = s.trd := rfl

/-! ### setZone -/

@[simp] theorem State.setZone_pending (s : State) (layer unit : Nat) (x : ZoneSt) : (s.setZone layer unit x).pending = s.pending := rfl
@[simp] theorem State.setZone_regs (s : State) (layer unit : Nat) (x : ZoneSt) : (s.setZone layer unit x).regs = s.regs := rfl
@[simp] theorem State.setZone_shadow (s : State) (layer unit : Nat) (x : ZoneSt) : (s.setZone layer unit x).shadow = s.shadow := rfl
@[simp] theorem State.setZone_free (s : State) (layer unit : Nat) (x : ZoneSt) : (s.setZone layer unit x).free = s.free := rfl
@[simp] theorem State.setZone_served (s : State) (layer unit : Nat) (x : ZoneSt) : (s.setZone layer unit x).served = s.served := rfl
@[simp] theorem State.setZone_rsp (s : State) (layer unit : Nat) (x : ZoneSt) : (s.setZone layer unit x).rsp = s.rsp := rfl
@[simp] theorem State.setZone_time (s : State) (layer unit : Nat) (x : ZoneSt) : (s.setZone layer unit x).time = s.time := rfl
@[simp] theorem State.setZone_seams (s : State) (layer unit : Nat) (x : ZoneSt) : (s.setZone layer unit x).seams = s.seams := rfl
@[simp] theorem State.setZone_islands (s : State) (layer unit : Nat) (x : ZoneSt) : (s.setZone layer unit x).islands = s.islands := rfl
@[simp] theorem State.setZone_eye (s : State) (layer unit : Nat) (x : ZoneSt) : (s.setZone layer unit x).eye = s.eye := rfl
@[simp] theorem State.setZone_flt (s : State) (layer unit : Nat) (x : ZoneSt) : (s.setZone layer unit x).flt = s.flt := rfl
@[simp] theorem State.setZone_trc (s : State) (layer unit : Nat) (x : ZoneSt) : (s.setZone layer unit x).trc = s.trc := rfl
@[simp] theorem State.setZone_sec (s : State) (layer unit : Nat) (x : ZoneSt) : (s.setZone layer unit x).sec = s.sec := rfl
@[simp] theorem State.setZone_rst (s : State) (layer unit : Nat) (x : ZoneSt) : (s.setZone layer unit x).rst = s.rst := rfl
@[simp] theorem State.setZone_tele (s : State) (layer unit : Nat) (x : ZoneSt) : (s.setZone layer unit x).tele = s.tele := rfl
@[simp] theorem State.setZone_crd (s : State) (layer unit : Nat) (x : ZoneSt) : (s.setZone layer unit x).crd = s.crd := rfl
@[simp] theorem State.setZone_welt (s : State) (layer unit : Nat) (x : ZoneSt) : (s.setZone layer unit x).welt = s.welt := rfl
@[simp] theorem State.setZone_ph (s : State) (layer unit : Nat) (x : ZoneSt) : (s.setZone layer unit x).ph = s.ph := rfl
@[simp] theorem State.setZone_rails (s : State) (layer unit : Nat) (x : ZoneSt) : (s.setZone layer unit x).rails = s.rails := rfl
@[simp] theorem State.setZone_loop (s : State) (layer unit : Nat) (x : ZoneSt) : (s.setZone layer unit x).loop = s.loop := rfl
@[simp] theorem State.setZone_lasts (s : State) (layer unit : Nat) (x : ZoneSt) : (s.setZone layer unit x).lasts = s.lasts := rfl
@[simp] theorem State.setZone_pwr (s : State) (layer unit : Nat) (x : ZoneSt) : (s.setZone layer unit x).pwr = s.pwr := rfl
@[simp] theorem State.setZone_lace (s : State) (layer unit : Nat) (x : ZoneSt) : (s.setZone layer unit x).lace = s.lace := rfl
@[simp] theorem State.setZone_trd (s : State) (layer unit : Nat) (x : ZoneSt) : (s.setZone layer unit x).trd = s.trd := rfl

/-! ### setSeam -/

@[simp] theorem State.setSeam_pending (s : State) (k : Nat) (x : SeamSt) : (s.setSeam k x).pending = s.pending := rfl
@[simp] theorem State.setSeam_regs (s : State) (k : Nat) (x : SeamSt) : (s.setSeam k x).regs = s.regs := rfl
@[simp] theorem State.setSeam_shadow (s : State) (k : Nat) (x : SeamSt) : (s.setSeam k x).shadow = s.shadow := rfl
@[simp] theorem State.setSeam_free (s : State) (k : Nat) (x : SeamSt) : (s.setSeam k x).free = s.free := rfl
@[simp] theorem State.setSeam_served (s : State) (k : Nat) (x : SeamSt) : (s.setSeam k x).served = s.served := rfl
@[simp] theorem State.setSeam_rsp (s : State) (k : Nat) (x : SeamSt) : (s.setSeam k x).rsp = s.rsp := rfl
@[simp] theorem State.setSeam_time (s : State) (k : Nat) (x : SeamSt) : (s.setSeam k x).time = s.time := rfl
@[simp] theorem State.setSeam_islands (s : State) (k : Nat) (x : SeamSt) : (s.setSeam k x).islands = s.islands := rfl
@[simp] theorem State.setSeam_eye (s : State) (k : Nat) (x : SeamSt) : (s.setSeam k x).eye = s.eye := rfl
@[simp] theorem State.setSeam_flt (s : State) (k : Nat) (x : SeamSt) : (s.setSeam k x).flt = s.flt := rfl
@[simp] theorem State.setSeam_trc (s : State) (k : Nat) (x : SeamSt) : (s.setSeam k x).trc = s.trc := rfl
@[simp] theorem State.setSeam_sec (s : State) (k : Nat) (x : SeamSt) : (s.setSeam k x).sec = s.sec := rfl
@[simp] theorem State.setSeam_rst (s : State) (k : Nat) (x : SeamSt) : (s.setSeam k x).rst = s.rst := rfl
@[simp] theorem State.setSeam_tele (s : State) (k : Nat) (x : SeamSt) : (s.setSeam k x).tele = s.tele := rfl
@[simp] theorem State.setSeam_crd (s : State) (k : Nat) (x : SeamSt) : (s.setSeam k x).crd = s.crd := rfl
@[simp] theorem State.setSeam_welt (s : State) (k : Nat) (x : SeamSt) : (s.setSeam k x).welt = s.welt := rfl
@[simp] theorem State.setSeam_ph (s : State) (k : Nat) (x : SeamSt) : (s.setSeam k x).ph = s.ph := rfl
@[simp] theorem State.setSeam_rails (s : State) (k : Nat) (x : SeamSt) : (s.setSeam k x).rails = s.rails := rfl
@[simp] theorem State.setSeam_loop (s : State) (k : Nat) (x : SeamSt) : (s.setSeam k x).loop = s.loop := rfl
@[simp] theorem State.setSeam_lasts (s : State) (k : Nat) (x : SeamSt) : (s.setSeam k x).lasts = s.lasts := rfl
@[simp] theorem State.setSeam_thm (s : State) (k : Nat) (x : SeamSt) : (s.setSeam k x).thm = s.thm := rfl
@[simp] theorem State.setSeam_pwr (s : State) (k : Nat) (x : SeamSt) : (s.setSeam k x).pwr = s.pwr := rfl
@[simp] theorem State.setSeam_lace (s : State) (k : Nat) (x : SeamSt) : (s.setSeam k x).lace = s.lace := rfl
@[simp] theorem State.setSeam_trd (s : State) (k : Nat) (x : SeamSt) : (s.setSeam k x).trd = s.trd := rfl

/-! ### setIsland -/

@[simp] theorem State.setIsland_pending (s : State) (isl unit : Nat) (x : IslandSt) : (s.setIsland isl unit x).pending = s.pending := rfl
@[simp] theorem State.setIsland_regs (s : State) (isl unit : Nat) (x : IslandSt) : (s.setIsland isl unit x).regs = s.regs := rfl
@[simp] theorem State.setIsland_shadow (s : State) (isl unit : Nat) (x : IslandSt) : (s.setIsland isl unit x).shadow = s.shadow := rfl
@[simp] theorem State.setIsland_free (s : State) (isl unit : Nat) (x : IslandSt) : (s.setIsland isl unit x).free = s.free := rfl
@[simp] theorem State.setIsland_served (s : State) (isl unit : Nat) (x : IslandSt) : (s.setIsland isl unit x).served = s.served := rfl
@[simp] theorem State.setIsland_rsp (s : State) (isl unit : Nat) (x : IslandSt) : (s.setIsland isl unit x).rsp = s.rsp := rfl
@[simp] theorem State.setIsland_time (s : State) (isl unit : Nat) (x : IslandSt) : (s.setIsland isl unit x).time = s.time := rfl
@[simp] theorem State.setIsland_seams (s : State) (isl unit : Nat) (x : IslandSt) : (s.setIsland isl unit x).seams = s.seams := rfl
@[simp] theorem State.setIsland_eye (s : State) (isl unit : Nat) (x : IslandSt) : (s.setIsland isl unit x).eye = s.eye := rfl
@[simp] theorem State.setIsland_flt (s : State) (isl unit : Nat) (x : IslandSt) : (s.setIsland isl unit x).flt = s.flt := rfl
@[simp] theorem State.setIsland_trc (s : State) (isl unit : Nat) (x : IslandSt) : (s.setIsland isl unit x).trc = s.trc := rfl
@[simp] theorem State.setIsland_sec (s : State) (isl unit : Nat) (x : IslandSt) : (s.setIsland isl unit x).sec = s.sec := rfl
@[simp] theorem State.setIsland_rst (s : State) (isl unit : Nat) (x : IslandSt) : (s.setIsland isl unit x).rst = s.rst := rfl
@[simp] theorem State.setIsland_tele (s : State) (isl unit : Nat) (x : IslandSt) : (s.setIsland isl unit x).tele = s.tele := rfl
@[simp] theorem State.setIsland_crd (s : State) (isl unit : Nat) (x : IslandSt) : (s.setIsland isl unit x).crd = s.crd := rfl
@[simp] theorem State.setIsland_welt (s : State) (isl unit : Nat) (x : IslandSt) : (s.setIsland isl unit x).welt = s.welt := rfl
@[simp] theorem State.setIsland_ph (s : State) (isl unit : Nat) (x : IslandSt) : (s.setIsland isl unit x).ph = s.ph := rfl
@[simp] theorem State.setIsland_rails (s : State) (isl unit : Nat) (x : IslandSt) : (s.setIsland isl unit x).rails = s.rails := rfl
@[simp] theorem State.setIsland_loop (s : State) (isl unit : Nat) (x : IslandSt) : (s.setIsland isl unit x).loop = s.loop := rfl
@[simp] theorem State.setIsland_lasts (s : State) (isl unit : Nat) (x : IslandSt) : (s.setIsland isl unit x).lasts = s.lasts := rfl
@[simp] theorem State.setIsland_thm (s : State) (isl unit : Nat) (x : IslandSt) : (s.setIsland isl unit x).thm = s.thm := rfl
@[simp] theorem State.setIsland_pwr (s : State) (isl unit : Nat) (x : IslandSt) : (s.setIsland isl unit x).pwr = s.pwr := rfl
@[simp] theorem State.setIsland_lace (s : State) (isl unit : Nat) (x : IslandSt) : (s.setIsland isl unit x).lace = s.lace := rfl
@[simp] theorem State.setIsland_trd (s : State) (isl unit : Nat) (x : IslandSt) : (s.setIsland isl unit x).trd = s.trd := rfl

/-! ### setSrc -/

@[simp] theorem State.setSrc_pending (s : State) (k : Nat) (x : SrcSt) : (s.setSrc k x).pending = s.pending := rfl
@[simp] theorem State.setSrc_regs (s : State) (k : Nat) (x : SrcSt) : (s.setSrc k x).regs = s.regs := rfl
@[simp] theorem State.setSrc_shadow (s : State) (k : Nat) (x : SrcSt) : (s.setSrc k x).shadow = s.shadow := rfl
@[simp] theorem State.setSrc_free (s : State) (k : Nat) (x : SrcSt) : (s.setSrc k x).free = s.free := rfl
@[simp] theorem State.setSrc_served (s : State) (k : Nat) (x : SrcSt) : (s.setSrc k x).served = s.served := rfl
@[simp] theorem State.setSrc_rsp (s : State) (k : Nat) (x : SrcSt) : (s.setSrc k x).rsp = s.rsp := rfl
@[simp] theorem State.setSrc_time (s : State) (k : Nat) (x : SrcSt) : (s.setSrc k x).time = s.time := rfl
@[simp] theorem State.setSrc_seams (s : State) (k : Nat) (x : SrcSt) : (s.setSrc k x).seams = s.seams := rfl
@[simp] theorem State.setSrc_islands (s : State) (k : Nat) (x : SrcSt) : (s.setSrc k x).islands = s.islands := rfl
@[simp] theorem State.setSrc_eye (s : State) (k : Nat) (x : SrcSt) : (s.setSrc k x).eye = s.eye := rfl
@[simp] theorem State.setSrc_flt (s : State) (k : Nat) (x : SrcSt) : (s.setSrc k x).flt = s.flt := rfl
@[simp] theorem State.setSrc_sec (s : State) (k : Nat) (x : SrcSt) : (s.setSrc k x).sec = s.sec := rfl
@[simp] theorem State.setSrc_rst (s : State) (k : Nat) (x : SrcSt) : (s.setSrc k x).rst = s.rst := rfl
@[simp] theorem State.setSrc_tele (s : State) (k : Nat) (x : SrcSt) : (s.setSrc k x).tele = s.tele := rfl
@[simp] theorem State.setSrc_crd (s : State) (k : Nat) (x : SrcSt) : (s.setSrc k x).crd = s.crd := rfl
@[simp] theorem State.setSrc_welt (s : State) (k : Nat) (x : SrcSt) : (s.setSrc k x).welt = s.welt := rfl
@[simp] theorem State.setSrc_ph (s : State) (k : Nat) (x : SrcSt) : (s.setSrc k x).ph = s.ph := rfl
@[simp] theorem State.setSrc_rails (s : State) (k : Nat) (x : SrcSt) : (s.setSrc k x).rails = s.rails := rfl
@[simp] theorem State.setSrc_loop (s : State) (k : Nat) (x : SrcSt) : (s.setSrc k x).loop = s.loop := rfl
@[simp] theorem State.setSrc_lasts (s : State) (k : Nat) (x : SrcSt) : (s.setSrc k x).lasts = s.lasts := rfl
@[simp] theorem State.setSrc_thm (s : State) (k : Nat) (x : SrcSt) : (s.setSrc k x).thm = s.thm := rfl
@[simp] theorem State.setSrc_pwr (s : State) (k : Nat) (x : SrcSt) : (s.setSrc k x).pwr = s.pwr := rfl
@[simp] theorem State.setSrc_lace (s : State) (k : Nat) (x : SrcSt) : (s.setSrc k x).lace = s.lace := rfl
@[simp] theorem State.setSrc_trd (s : State) (k : Nat) (x : SrcSt) : (s.setSrc k x).trd = s.trd := rfl

/-! ### setWelt -/

@[simp] theorem State.setWelt_pending (s : State) (c : Nat) (w : WeltSt) : (s.setWelt c w).pending = s.pending := rfl
@[simp] theorem State.setWelt_regs (s : State) (c : Nat) (w : WeltSt) : (s.setWelt c w).regs = s.regs := rfl
@[simp] theorem State.setWelt_shadow (s : State) (c : Nat) (w : WeltSt) : (s.setWelt c w).shadow = s.shadow := rfl
@[simp] theorem State.setWelt_free (s : State) (c : Nat) (w : WeltSt) : (s.setWelt c w).free = s.free := rfl
@[simp] theorem State.setWelt_served (s : State) (c : Nat) (w : WeltSt) : (s.setWelt c w).served = s.served := rfl
@[simp] theorem State.setWelt_rsp (s : State) (c : Nat) (w : WeltSt) : (s.setWelt c w).rsp = s.rsp := rfl
@[simp] theorem State.setWelt_time (s : State) (c : Nat) (w : WeltSt) : (s.setWelt c w).time = s.time := rfl
@[simp] theorem State.setWelt_seams (s : State) (c : Nat) (w : WeltSt) : (s.setWelt c w).seams = s.seams := rfl
@[simp] theorem State.setWelt_islands (s : State) (c : Nat) (w : WeltSt) : (s.setWelt c w).islands = s.islands := rfl
@[simp] theorem State.setWelt_eye (s : State) (c : Nat) (w : WeltSt) : (s.setWelt c w).eye = s.eye := rfl
@[simp] theorem State.setWelt_flt (s : State) (c : Nat) (w : WeltSt) : (s.setWelt c w).flt = s.flt := rfl
@[simp] theorem State.setWelt_trc (s : State) (c : Nat) (w : WeltSt) : (s.setWelt c w).trc = s.trc := rfl
@[simp] theorem State.setWelt_sec (s : State) (c : Nat) (w : WeltSt) : (s.setWelt c w).sec = s.sec := rfl
@[simp] theorem State.setWelt_rst (s : State) (c : Nat) (w : WeltSt) : (s.setWelt c w).rst = s.rst := rfl
@[simp] theorem State.setWelt_tele (s : State) (c : Nat) (w : WeltSt) : (s.setWelt c w).tele = s.tele := rfl
@[simp] theorem State.setWelt_crd (s : State) (c : Nat) (w : WeltSt) : (s.setWelt c w).crd = s.crd := rfl
@[simp] theorem State.setWelt_ph (s : State) (c : Nat) (w : WeltSt) : (s.setWelt c w).ph = s.ph := rfl
@[simp] theorem State.setWelt_rails (s : State) (c : Nat) (w : WeltSt) : (s.setWelt c w).rails = s.rails := rfl
@[simp] theorem State.setWelt_loop (s : State) (c : Nat) (w : WeltSt) : (s.setWelt c w).loop = s.loop := rfl
@[simp] theorem State.setWelt_lasts (s : State) (c : Nat) (w : WeltSt) : (s.setWelt c w).lasts = s.lasts := rfl
@[simp] theorem State.setWelt_thm (s : State) (c : Nat) (w : WeltSt) : (s.setWelt c w).thm = s.thm := rfl
@[simp] theorem State.setWelt_pwr (s : State) (c : Nat) (w : WeltSt) : (s.setWelt c w).pwr = s.pwr := rfl
@[simp] theorem State.setWelt_lace (s : State) (c : Nat) (w : WeltSt) : (s.setWelt c w).lace = s.lace := rfl
@[simp] theorem State.setWelt_trd (s : State) (c : Nat) (w : WeltSt) : (s.setWelt c w).trd = s.trd := rfl

/-! ### Indexed records -/

@[simp] theorem State.station_setStation_same (s : State) (n : Nat) (x : StationSt) : (s.setStation n x).station n = x := Tab.get_set_same _ _ _ _
theorem State.station_setStation_other (s : State) {n j : Nat} (x : StationSt) (h : j ≠ n) : (s.setStation n x).station j = s.station j :=
  Tab.get_set_other _ _ _ _ h
@[simp] theorem State.click_setClick_same (s : State) (n : Nat) (x : ClickSt) : (s.setClick n x).click n = x := Tab.get_set_same _ _ _ _
theorem State.click_setClick_other (s : State) {n j : Nat} (x : ClickSt) (h : j ≠ n) : (s.setClick n x).click j = s.click j :=
  Tab.get_set_other _ _ _ _ h
@[simp] theorem State.cluster_setCluster_same (s : State) (c : Nat) (x : ClusterSt) : (s.setCluster c x).cluster c = x := Tab.get_set_same _ _ _ _
theorem State.cluster_setCluster_other (s : State) {c j : Nat} (x : ClusterSt) (h : j ≠ c) : (s.setCluster c x).cluster j = s.cluster j :=
  Tab.get_set_other _ _ _ _ h
@[simp] theorem State.chan_setChan_same (s : State) (c : Nat) (x : ChanSt) : (s.setChan c x).chan c = x := Tab.get_set_same _ _ _ _
theorem State.chan_setChan_other (s : State) {c j : Nat} (x : ChanSt) (h : j ≠ c) : (s.setChan c x).chan j = s.chan j :=
  Tab.get_set_other _ _ _ _ h
@[simp] theorem State.dom_setDom_same (s : State) (d : Nat) (x : DomSt) : (s.setDom d x).dom d = x := Tab.get_set_same _ _ _ _
theorem State.dom_setDom_other (s : State) {d j : Nat} (x : DomSt) (h : j ≠ d) : (s.setDom d x).dom j = s.dom j :=
  Tab.get_set_other _ _ _ _ h
@[simp] theorem State.port_setPort_same (s : State) (p : Nat) (x : PortSt) : (s.setPort p x).port p = x := Tab.get_set_same _ _ _ _
theorem State.port_setPort_other (s : State) {p j : Nat} (x : PortSt) (h : j ≠ p) : (s.setPort p x).port j = s.port j :=
  Tab.get_set_other _ _ _ _ h
@[simp] theorem State.last_setLast_same (s : State) (l : Nat) (x : LastSt) : (s.setLast l x).last l = x := Tab.get_set_same _ _ _ _
theorem State.last_setLast_other (s : State) {l j : Nat} (x : LastSt) (h : j ≠ l) : (s.setLast l x).last j = s.last j :=
  Tab.get_set_other _ _ _ _ h
@[simp] theorem State.slot_setSlot_same (s : State) (n : Nat) (x : SlotSt) : (s.setSlot n x).slot n = x := Tab.get_set_same _ _ _ _
theorem State.slot_setSlot_other (s : State) {n j : Nat} (x : SlotSt) (h : j ≠ n) : (s.setSlot n x).slot j = s.slot j :=
  Tab.get_set_other _ _ _ _ h
@[simp] theorem State.notch_setNotch_same (s : State) (k : Nat) (x : NotchSt) : (s.setNotch k x).notch k = x := Tab.get_set_same _ _ _ _
theorem State.notch_setNotch_other (s : State) {k j : Nat} (x : NotchSt) (h : j ≠ k) : (s.setNotch k x).notch j = s.notch j :=
  Tab.get_set_other _ _ _ _ h
@[simp] theorem State.group_setGroup_same (s : State) (g : Nat) (x : GroupSt) : (s.setGroup g x).group g = x := Tab.get_set_same _ _ _ _
theorem State.group_setGroup_other (s : State) {g j : Nat} (x : GroupSt) (h : j ≠ g) : (s.setGroup g x).group j = s.group j :=
  Tab.get_set_other _ _ _ _ h
@[simp] theorem State.phase_setPhase_same (s : State) (p : Nat) (x : PhaseSt) : (s.setPhase p x).phase p = x := Tab.get_set_same _ _ _ _
theorem State.phase_setPhase_other (s : State) {p j : Nat} (x : PhaseSt) (h : j ≠ p) : (s.setPhase p x).phase j = s.phase j :=
  Tab.get_set_other _ _ _ _ h
@[simp] theorem State.rail_setRail_same (s : State) (r : Nat) (x : RailSt) : (s.setRail r x).rail r = x := Tab.get_set_same _ _ _ _
theorem State.rail_setRail_other (s : State) {r j : Nat} (x : RailSt) (h : j ≠ r) : (s.setRail r x).rail j = s.rail j :=
  Tab.get_set_other _ _ _ _ h
@[simp] theorem State.sens_setSens_same (s : State) (a : Nat) (x : SensSt) : (s.setSens a x).sens a = x := Tab.get_set_same _ _ _ _
theorem State.sens_setSens_other (s : State) {a j : Nat} (x : SensSt) (h : j ≠ a) : (s.setSens a x).sens j = s.sens j :=
  Tab.get_set_other _ _ _ _ h
@[simp] theorem State.src_setSrc_same (s : State) (k : Nat) (x : SrcSt) : (s.setSrc k x).src k = x := Tab.get_set_same _ _ _ _
theorem State.src_setSrc_other (s : State) {k j : Nat} (x : SrcSt) (h : j ≠ k) : (s.setSrc k x).src j = s.src j :=
  Tab.get_set_other _ _ _ _ h
@[simp] theorem State.weltC_setWelt_same (s : State) (c : Nat) (x : WeltSt) : (s.setWelt c x).weltC c = x := Tab.get_set_same _ _ _ _
theorem State.weltC_setWelt_other (s : State) {c j : Nat} (x : WeltSt) (h : j ≠ c) : (s.setWelt c x).weltC j = s.weltC j :=
  Tab.get_set_other _ _ _ _ h
@[simp] theorem State.seam_setSeam_same (s : State) (k : Nat) (x : SeamSt) : (s.setSeam k x).seam k = x := Tab.get_set_same _ _ _ _
theorem State.seam_setSeam_other (s : State) {k j : Nat} (x : SeamSt) (h : j ≠ k) : (s.setSeam k x).seam j = s.seam j :=
  Tab.get_set_other _ _ _ _ h

end Sys2Proof.Machine
end

