-- ==== Sys2Proof/Laws/Regs.lean ====
section
/-! SUPPORT. Registers and fields: what a field reads as after a write of the same field, of another field of its register,
and of another register. -/
namespace Sys2Proof.Machine
open Sys2Proof

/-! ### Bits of a word -/

theorem fieldMask_bit (lo len k : Nat) (h : lo + len ≤ 32) (hl : 0 < len) :
    (fieldMask lo len).getLsbD k = (decide (lo ≤ k) && decide (k < lo + len)) := by
  unfold fieldMask
  rw [BitVec.getLsbD_shiftLeft, BitVec.getLsbD_ushiftRight, BitVec.getLsbD_allOnes]
  by_cases h1 : lo ≤ k <;> by_cases h2 : k < lo + len <;> simp [h1, h2] <;> omega

/-- The field just put. -/
theorem getBits_putBits_same (w : Word) (lo len v : Nat) (h : lo + len ≤ 32) (hl : 0 < len) :
    getBits (putBits w lo len v) lo len = v % 2 ^ len := by
  have e : (putBits w lo len v).extractLsb' lo len = BitVec.ofNat len v := by
    apply BitVec.eq_of_getLsbD_eq
    intro i hi
    have hm := fieldMask_bit lo len (lo + i) h hl
    have h3 : lo + i < 32 := by omega
    simp only [putBits, BitVec.getLsbD_extractLsb', BitVec.getLsbD_or, BitVec.getLsbD_and, BitVec.getLsbD_not, hm,
      BitVec.getLsbD_shiftLeft, BitVec.getLsbD_ofNat]
    simp [hi, h3, show i < 32 by omega]
  unfold getBits
  rw [e, BitVec.toNat_ofNat]

/-- A field that shares no bit with the one put. -/
theorem getBits_putBits_other (w : Word) (lo len lo' len' v : Nat) (h : lo + len ≤ 32) (hl : 0 < len)
    (hd : lo' + len' ≤ lo ∨ lo + len ≤ lo') : getBits (putBits w lo len v) lo' len' = getBits w lo' len' := by
  unfold getBits
  congr 1
  apply BitVec.eq_of_getLsbD_eq
  intro i hi
  have hm := fieldMask_bit lo len (lo' + i) h hl
  have hf : (decide (lo ≤ lo' + i) && decide (lo' + i < lo + len)) = false := by
    simp only [Bool.and_eq_false_iff, decide_eq_false_iff_not]; omega
  rw [hf] at hm
  simp only [putBits, BitVec.getLsbD_extractLsb', BitVec.getLsbD_or, BitVec.getLsbD_and, BitVec.getLsbD_not, hm]
  by_cases h3 : lo' + i < 32
  · simp [hi, h3]
  · simp [hi, h3, BitVec.getLsbD_of_ge _ _ (Nat.le_of_not_lt h3)]

/-- A field's value fits its width. -/
theorem getBits_lt (w : Word) (lo len : Nat) : getBits w lo len < 2 ^ len := (w.extractLsb' lo len).isLt

/-! ### Words of registers -/

/-- The word just written. -/
@[simp] theorem State.rd_wr_same (s : State) (r : Reg) (i : Nat) (w : Word) : (s.wr r i w).rd r i = w :=
  Tab.get_set_same _ _ _ _

/-- A word at another offset. -/
theorem State.rd_wr_other (s : State) {r q : Reg} {i j : Nat} (w : Word) (h : q.at j ≠ r.at i) :
    (s.wr r i w).rd q j = s.rd q j := Tab.get_set_other _ _ _ _ h

/-- Only the register table decides what a register reads. -/
theorem State.rd_of_regs {s t : State} (h : t.regs = s.regs) (r : Reg) (i : Nat) : t.rd r i = s.rd r i := by
  unfold State.rd; rw [h]

theorem State.f_of_regs {s t : State} (h : t.regs = s.regs) (x : Fld) (i : Nat) : t.f x i = s.f x i := by
  unfold State.f; rw [State.rd_of_regs h]

theorem State.on_of_regs {s t : State} (h : t.regs = s.regs) (x : Fld) (i : Nat) : t.on x i = s.on x i := by
  unfold State.on; rw [State.f_of_regs h]

/-! ### Fields -/

/-- A field lies inside its register. -/
abbrev Fld.ok (x : Fld) : Prop := x.lo + x.len ≤ 32 ∧ 0 < x.len

/-- The field just set. -/
theorem State.f_setf_same (s : State) (x : Fld) (i v : Nat) (h : x.ok) : (s.setf x i v).f x i = v % 2 ^ x.len := by
  unfold State.setf State.f
  rw [State.rd_wr_same]
  exact getBits_putBits_same _ _ _ _ h.1 h.2

/-- Another field of the same register instance. -/
theorem State.f_setf_field (s : State) {x y : Fld} (i v : Nat) (h : x.ok) (hr : y.reg = x.reg)
    (hd : y.lo + y.len ≤ x.lo ∨ x.lo + x.len ≤ y.lo) : (s.setf x i v).f y i = s.f y i := by
  unfold State.setf State.f
  rw [hr, State.rd_wr_same]
  exact getBits_putBits_other _ _ _ _ _ _ h.1 h.2 hd

/-- A field of another register, or of another instance. -/
theorem State.f_setf_reg (s : State) {x y : Fld} {i j : Nat} (v : Nat) (h : y.reg.at j ≠ x.reg.at i) :
    (s.setf x i v).f y j = s.f y j := by
  unfold State.setf State.f
  rw [State.rd_wr_other _ _ h]

/-- The one-bit field just set. -/
theorem State.on_setb_same (s : State) (x : Fld) (i : Nat) (b : Bool) (h : x.ok) : (s.setb x i b).on x i = b := by
  unfold State.on State.setb
  rw [State.f_setf_same _ _ _ _ h]
  have h2 : (1 : Nat) < 2 ^ x.len := Nat.one_lt_two_pow (by have := h.2; omega)
  cases b <;> simp [Nat.mod_eq_of_lt h2]

theorem State.on_setf_same (s : State) (x : Fld) (i v : Nat) (h : x.ok) : (s.setf x i v).on x i = (v % 2 ^ x.len == 1) := by
  unfold State.on
  rw [State.f_setf_same _ _ _ _ h]

/-- A 64-bit pair just written, modulo 2^64 (R7). -/
theorem State.pair_setPair_same (s : State) (lo hi : Reg) (i v : Nat) (h : lo.at i ≠ hi.at i) :
    (s.setPair lo hi i v).pair lo hi i = v % 2 ^ 64 := by
  unfold State.setPair State.pair
  rw [State.rd_wr_same, State.rd_wr_other _ _ h, State.rd_wr_same]
  simp only [BitVec.toNat_ofNat]
  omega

end Sys2Proof.Machine
end

