-- ==== Sys2Proof/Laws/Ops.lean ====
section
/-! SUPPORT. The shared operations: what a CFG write and a firmware command do, said once, and that the operations over
registers, logs, notices, trace and Insole tiles keep the memories canonical. -/
namespace Sys2Proof.Machine
open Sys2Proof

/-! ### The CFG port (R2, R19, R530, R551, R564) -/

/-- A write that the port takes is the register's own write, with its response. -/
theorem State.cfgWrite_takes {s : State} {r : Reg} {i : Nat} (g : State → State × Bool) (h : s.portTakes r i = true) :
    s.cfgWrite true r i g = (g s).1.respond (g s).2 := by
  unfold State.portTakes at h
  simp only [Bool.and_eq_true, Bool.not_eq_true', decide_eq_true_eq] at h
  obtain ⟨⟨⟨⟨hp, hi⟩, ha⟩, hh⟩, hw⟩ := h
  rw [State.cfgWrite, if_neg (by simp), if_neg (by simp [hp, hi]), if_neg (by simp [ha]), if_neg (by simp [hh]), if_neg (by rw [hw]; simp)]

/-- A write without privilege changes the response only. -/
theorem State.cfgWrite_unprivileged (s : State) (r : Reg) (i : Nat) (g : State → State × Bool) :
    s.cfgWrite false r i g = s.respond true := rfl

/-- A CFG write is the register's own write on the present state, or changes the response only. -/
theorem State.cfgWrite_cases (s : State) (priv : Bool) (r : Reg) (i : Nat) (g : State → State × Bool) :
    s.cfgWrite priv r i g = (g s).1.respond (g s).2 ∨ ∃ e, s.cfgWrite priv r i g = s.respond e := by
  unfold State.cfgWrite
  split
  · exact .inr ⟨_, rfl⟩
  split
  · exact .inr ⟨_, rfl⟩
  split
  · exact .inr ⟨_, rfl⟩
  split
  · exact .inr ⟨_, rfl⟩
  split
  · exact .inr ⟨_, rfl⟩
  · exact .inl rfl

/-! ### Commands of the firmware (R49, R381) -/

/-- The command that runs next is its action on its entry. -/
theorem State.command_due {s : State} {op : Nat} {e : JEnt} (act : JEnt → State → State) (h : s.commandDue op = some e) :
    s.command op act = (act e s).resumeDone := by
  simp [State.command, h]

/-- Where no command of the opcode is next, nothing happens. -/
theorem State.command_idle {s : State} {op : Nat} (act : JEnt → State → State) (h : s.commandDue op = none) :
    s.command op act = s := by
  simp [State.command, h]

/-! ### The memories stay canonical: registers and records -/

/-- Only the three memories decide whether they are canonical. -/
theorem State.inv_of_memories {s t : State} (h1 : t.flt.mram = s.flt.mram) (h2 : t.eye.pages = s.eye.pages)
    (h3 : t.pwr.insole = s.pwr.insole) (h : s.Inv) : t.Inv := by
  unfold State.Inv at *
  rw [h1, h2, h3]; exact h

/-- A fold of steps that keep the memories canonical keeps them so. -/
theorem State.inv_foldl {β : Type} {f : State → β → State} (hf : ∀ s x, s.Inv → (f s x).Inv) (l : List β) {s : State}
    (h : s.Inv) : (l.foldl f s).Inv := by
  induction l generalizing s with
  | nil => exact h
  | cons x r ih => exact ih (hf s x h)

@[simp] theorem State.inv_trc (s : State) (x : TrcSt) : ({ s with trc := x } : State).Inv ↔ s.Inv := Iff.rfl
@[simp] theorem State.inv_crd (s : State) (x : CrdSt) : ({ s with crd := x } : State).Inv ↔ s.Inv := Iff.rfl
@[simp] theorem State.inv_rsp (s : State) (x : Rsp) : ({ s with rsp := x } : State).Inv ↔ s.Inv := Iff.rfl
@[simp] theorem State.inv_fw (s : State) (x : FwSt) : ({ s with eye := { s.eye with fw := x } } : State).Inv ↔ s.Inv := Iff.rfl
@[simp] theorem State.inv_pend (s : State) (x : List FaultEv) : ({ s with flt := { s.flt with pend := x } } : State).Inv ↔ s.Inv :=
  Iff.rfl
@[simp] theorem State.inv_usedFree (s : State) : s.usedFree.Inv ↔ s.Inv :=
  ⟨State.inv_of_memories rfl rfl rfl, State.inv_of_memories rfl rfl rfl⟩
@[simp] theorem State.inv_wr (s : State) (r : Reg) (i : Nat) (w : Word) : (s.wr r i w).Inv ↔ s.Inv :=
  ⟨State.inv_of_memories rfl rfl rfl, State.inv_of_memories rfl rfl rfl⟩
@[simp] theorem State.inv_setf (s : State) (x : Fld) (i v : Nat) : (s.setf x i v).Inv ↔ s.Inv := State.inv_wr ..
@[simp] theorem State.inv_setb (s : State) (x : Fld) (i : Nat) (b : Bool) : (s.setb x i b).Inv ↔ s.Inv := State.inv_setf ..
@[simp] theorem State.inv_incf (s : State) (x : Fld) (i n : Nat) : (s.incf x i n).Inv ↔ s.Inv := State.inv_setf ..
@[simp] theorem State.inv_satf (s : State) (x : Fld) (i n : Nat) : (s.satf x i n).Inv ↔ s.Inv := State.inv_setf ..
@[simp] theorem State.inv_setBitf (s : State) (x : Fld) (i k : Nat) (b : Bool) : (s.setBitf x i k b).Inv ↔ s.Inv :=
  State.inv_setf ..
@[simp] theorem State.inv_setfi (s : State) (x : Fld) (i : Nat) (v : Int) : (s.setfi x i v).Inv ↔ s.Inv := State.inv_setf ..
@[simp] theorem State.inv_clr (s : State) (r : Reg) (i : Nat) : (s.clr r i).Inv ↔ s.Inv := State.inv_wr ..
@[simp] theorem State.inv_setPair (s : State) (lo hi : Reg) (i v : Nat) : (s.setPair lo hi i v).Inv ↔ s.Inv :=
  (State.inv_wr ..).trans (State.inv_wr ..)
@[simp] theorem State.inv_respond (s : State) (e : Bool) (d : Word64) : (s.respond e d).Inv ↔ s.Inv := State.inv_rsp ..
@[simp] theorem State.inv_setFw (s : State) (x : FwSt) : (s.setFw x).Inv ↔ s.Inv := State.inv_fw ..
@[simp] theorem State.inv_fwChanged (s : State) : s.fwChanged.Inv ↔ s.Inv := State.inv_incf ..
@[simp] theorem State.inv_setChan (s : State) (c : Nat) (x : ChanSt) : (s.setChan c x).Inv ↔ s.Inv :=
  ⟨State.inv_of_memories rfl rfl rfl, State.inv_of_memories rfl rfl rfl⟩
@[simp] theorem State.inv_jmod (s : State) (k : Nat) (g : JEnt → JEnt) : (s.jmod k g).Inv ↔ s.Inv :=
  ⟨State.inv_of_memories rfl rfl rfl, State.inv_of_memories rfl rfl rfl⟩
@[simp] theorem State.inv_setDom (s : State) (d : Nat) (x : DomSt) : (s.setDom d x).Inv ↔ s.Inv :=
  ⟨State.inv_of_memories rfl rfl rfl, State.inv_of_memories rfl rfl rfl⟩
@[simp] theorem State.inv_setSrc (s : State) (k : Nat) (x : SrcSt) : (s.setSrc k x).Inv ↔ s.Inv := State.inv_trc ..
@[simp] theorem State.inv_hang (s : State) (ring code arg : Nat) : (s.hang ring code arg).Inv ↔ s.Inv := State.inv_trc ..
@[simp] theorem State.inv_serve (s : State) (a b : Nat) : (s.serve a b).Inv ↔ s.Inv :=
  ⟨State.inv_of_memories rfl rfl rfl, State.inv_of_memories rfl rfl rfl⟩
@[simp] theorem State.inv_telem (s : State) (key : Nat) (v : Int) : (s.telem key v).Inv ↔ s.Inv :=
  ⟨State.inv_of_memories rfl rfl rfl, State.inv_of_memories rfl rfl rfl⟩
@[simp] theorem State.inv_enqueue (s : State) (c : Nat) (q : QWord) : (s.enqueue c q).Inv ↔ s.Inv :=
  (State.inv_setf ..).trans (State.inv_setChan ..)

/-- A CFG write keeps the memories canonical where the register's own write does. -/
theorem State.inv_cfgWrite {s : State} (priv : Bool) (r : Reg) (i : Nat) {g : State → State × Bool} (hg : (g s).1.Inv)
    (h : s.Inv) : (s.cfgWrite priv r i g).Inv := by
  obtain e | ⟨x, e⟩ := s.cfgWrite_cases priv r i g <;> rw [e]
  · exact hg
  · exact h

/-! ### Logs, notices, trace records, fault events -/

@[simp] theorem State.inv_logAt (s : State) (t : Word64) (code unit : Nat) (arg : Word) :
    (s.logAt t code unit arg).Inv ↔ s.Inv := by
  simp only [State.logAt]
  split <;> simp only [State.inv_trc, State.inv_setf, State.inv_setPair]

@[simp] theorem State.inv_log (s : State) (code unit arg : Nat) : (s.log code unit arg).Inv ↔ s.Inv := State.inv_logAt ..

@[simp] theorem State.inv_notice (s : State) (kind subject arg : Nat) : (s.notice kind subject arg).Inv ↔ s.Inv := by
  simp only [State.notice]
  split
  · exact State.inv_incf ..
  · split
    · simp only [State.inv_fw, State.inv_incf]
    · simp only [State.inv_enqueue, State.inv_incf, State.inv_log]

@[simp] theorem State.inv_sysRec (s : State) (typ idx value : Nat) (ext : Option Nat) :
    (s.sysRec typ idx value ext).Inv ↔ s.Inv := by
  simp only [State.sysRec]
  split
  · split <;> simp only [State.inv_incf, State.inv_setSrc]
  · rfl

@[simp] theorem State.inv_queueRec (s : State) (k : Nat) (r : TraceRec) : (s.queueRec k r).Inv ↔ s.Inv := by
  simp only [State.queueRec]
  split <;> simp only [State.inv_setPair, State.inv_setSrc]

theorem State.inv_traceMany (k : Nat) (l : List (Nat × Nat × Nat × Option Nat)) {s : State} (h : s.Inv) :
    (s.traceMany k l).Inv := by
  simp only [State.traceMany]
  split
  · split
    · exact (State.inv_setSrc ..).2 h
    · split
      · simpa only [State.inv_setPair, State.inv_setSrc] using h
      · split
        · simpa only [State.inv_setSrc] using h
        · exact State.inv_foldl (fun s r hs => (State.inv_queueRec s k _).2 hs) l ((State.inv_setSrc ..).2 h)
  · exact h

theorem State.inv_trace (k typ idx value : Nat) (ext : Option Nat) {s : State} (h : s.Inv) :
    (s.trace k typ idx value ext).Inv := State.inv_traceMany k _ h

@[simp] theorem State.inv_faultA (s : State) (row unit : Nat) (awl : Bool) : (s.faultA row unit awl).Inv ↔ s.Inv := by
  simp only [State.faultA]
  split
  · simp only [State.inv_sysRec, State.inv_log, State.inv_pend, State.inv_usedFree]
  · rfl

@[simp] theorem State.inv_fault (s : State) (row unit : Nat) : (s.fault row unit).Inv ↔ s.Inv := State.inv_faultA ..

/-! ### The three memories -/

/-- Writes of the MRAM and of a page. -/
theorem State.inv_mram {s : State} {m : List Host.Cell} (h : s.Inv) (hm : Memory.wf m = true) :
    ({ s with flt := { s.flt with mram := m } } : State).Inv := ⟨hm, h.2.1, h.2.2⟩

theorem State.inv_putPage (c a : Nat) (l : List Byte) {s : State} (h : s.Inv) : (s.putPage c a l).Inv :=
  ⟨h.1, Memory.wf_write _ _ h.2.1, h.2.2⟩

/-- A tile put, patched, freed or placed in the Insole. -/
theorem State.inv_putTile (t : Nat) (l : List Byte) {s : State} (h : s.Inv) : (s.putTile t l).Inv :=
  ⟨h.1, h.2.1, Insole.wf_write _ _ h.2.2⟩

theorem State.inv_freeTile (t : Nat) {s : State} (h : s.Inv) : (s.freeTile t).Inv :=
  ⟨h.1, h.2.1, Insole.wf_filter _ h.2.2⟩

theorem State.inv_placeTile (l : List Byte) {s : State} (h : s.Inv) : (s.placeTile l).Inv := by
  unfold State.placeTile
  split
  · exact h
  · exact State.inv_putTile _ _ h

theorem State.inv_patchTile (typ index i : Nat) (l : List Byte) {s : State} (h : s.Inv) :
    (s.patchTile typ index i l).Inv := by
  unfold State.patchTile
  split
  · exact h
  · exact State.inv_putTile _ _ h

theorem State.inv_freeTiles (typ : Nat) (ok : Nat → Bool) {s : State} (h : s.Inv) : (s.freeTiles typ ok).Inv := by
  refine State.inv_foldl (fun s t hs => ?_) _ h
  split
  · exact State.inv_freeTile t hs
  · exact hs

/-! ### The trace buffer, triggers and the clamp line -/

@[simp] theorem State.inv_trcPressure (s : State) : s.trcPressure.Inv ↔ s.Inv := by
  simp only [State.trcPressure, State.inv_setf]

@[simp] theorem State.inv_putPos (s : State) (p : Nat) (v : BitVec 128) : (s.putPos p v).Inv ↔ s.Inv := by
  simp only [State.putPos, State.inv_trcPressure, State.inv_setf]
  split <;> simp only [State.inv_setf, State.inv_trc]

@[simp] theorem State.inv_stopPost (s : State) : s.stopPost.Inv ↔ s.Inv := State.inv_trc ..

@[simp] theorem State.inv_trcSeek (s : State) : s.trcSeek.Inv ↔ s.Inv := by
  simp only [State.trcSeek]
  split
  · rfl
  · split <;> simp only [State.inv_setf, State.inv_stopPost]

/-- A record that is written changes the buffer and its registers only. -/
theorem State.inv_putRec {s t : State} {r : TraceRec} (e : s.putRec r = some t) (h : s.Inv) : t.Inv := by
  have h := (State.inv_trcSeek s).2 h
  simp only [State.putRec] at e
  generalize s.trcSeek = v at e h
  split at e
  · cases e; exact h
  · split at e
    · cases e; exact (State.inv_putPos ..).2 h
    · cases e
  · split at e
    · cases e
    · rename_i u hu
      have hu : u.Inv := by
        split at hu
        · split at hu
          · cases hu; exact (State.inv_trcSeek _).2 ((State.inv_putPos ..).2 h)
          · cases hu
        · cases hu; exact h
      split at e
      · cases e; exact (State.inv_putPos ..).2 ((State.inv_putPos ..).2 hu)
      · cases e

theorem State.inv_showRegions {s : State} (h : s.Inv) : s.showRegions.Inv := by
  refine (State.inv_setf ..).2 (State.inv_foldl (fun s k hs => ?_) _ h)
  split <;> simpa only [State.inv_clr, State.inv_setf, State.inv_setb] using hs

theorem State.inv_completeRegions {s : State} (h : s.Inv) : s.completeRegions.Inv :=
  State.inv_showRegions ((State.inv_trc ..).2 (State.inv_foldl (fun _ _ hs => State.inv_patchTile _ _ _ _ hs) _ h))

theorem State.inv_hangStations (code : Nat) {s : State} (h : s.Inv) : (s.hangStations code).Inv :=
  State.inv_foldl (fun s n hs => (State.inv_hang s n code 0).2 hs) _ h

/-! ### Replies and the journal -/

theorem State.inv_finish (slot status result : Nat) (part : Bool) {s : State} (h : s.Inv) :
    (s.finish slot status result part).Inv := by
  simp only [State.finish]
  split
  · exact h
  · split
    · exact h
    · simpa only [State.inv_fwChanged, State.replyOf, State.inv_enqueue, State.inv_setFw, State.inv_jmod] using h

theorem State.inv_doneNow (slot result : Nat) {s : State} (h : s.Inv) : (s.doneNow slot result).Inv :=
  State.inv_finish _ _ _ _ ((State.inv_fwChanged ..).2 ((State.inv_jmod ..).2 h))

theorem State.inv_pageOut (c : Nat) (l : List Byte) {s : State} (h : s.Inv) : (s.pageOut c l).Inv :=
  State.inv_putPage _ _ _ h

end Sys2Proof.Machine
end

