-- ==== Sys2Proof/Machine/Pins.lean ====
section
/-! DEFINITION. Outputs of the governor that are functions of its state: the host interrupt (R367), the clock of a core
(R45, R129), the levels that a core's unit link carries (R553), what the Lace lanes and the trace lanes carry (R406, R409,
R506, R507), and the TAP's acting instruction (R536). ERR_N and SAFE_N are fields of State, the phase and sense
pins stand beside their chapters (csBias, vsBias, syncPin), PMB_ALERT_N is pmbAlert. -/
namespace Sys2Proof.Machine
open Sys2Proof

/-- GOV_IRQ: a bit of EYE_IRQ is set whose bit in EYE_IRQ_EN is set (R367). -/
def State.govIrq (s : State) : Bool := s.rd R.EYE_IRQ &&& s.rd R.EYE_IRQ_EN != 0

/-- A core's clock period in 1/16 of the unit of `nominal`, the generator's nominal period: the nominal period multiplied by
the cluster divider, each generator cycle of a stretch in progress lengthened by STRETCH sixteenths (R45, R129). -/
def State.corePeriod16 (s : State) (n nominal : Nat) : Nat :=
  nominal * (16 * s.divRatio n + min (s.divRatio n) (s.station n).stretchLeft * s.stretchAmount)

/-- The levels that the governor drives on a core's unit link (R553). -/
structure UnitLink where
  tiReady : Bool
  /-- ADMIT, REJECT and REJ_STALE as last signalled (StationSt.answer). -/
  answer : Nat
  strEn : Bool
  strAmt : Nat
  div : Nat
  skip : Nat
  clamp : Bool
  refDbl : Bool
  dummy : Bool
  iso : Bool
  clkEn : Bool
  psw : Nat
  deriving DecidableEq, Repr

/-- A core's unit link. The signals of the compute die are 0 while it is in reset; those of the base die keep their levels
(R553, R555). -/
def State.unitLink (s : State) (n : Nat) : UnitLink :=
  let x := s.station n
  let up := s.coreUp n
  {
    tiReady := up && decide (x.queue.length < 8), answer := x.answer,
    strEn := up && decide (0 < x.stretchLeft),
    strAmt := if up ∧ 0 < x.stretchLeft then s.stretchAmount else 0,
    div := if s.dieUp then Tab.get 3 s.loop.div (clusterOf n) else 0,
    skip := if up then x.skip else 0,
    clamp := s.clamped,
    refDbl := s.on F.THMn_STATUS_REF n,
    dummy := s.trd.dummy,
    iso := (s.dom n).iso, clkEn := (s.dom n).clk, psw := (s.dom n).psw }

/-! ### The Lace lanes (R406, R408, R409) -/

/-- A data symbol Dx.y and a control symbol Kx.y of 8b/10b, the control symbols from 256 on. -/
def dSymbol (x y : Nat) : Nat := 32 * y + x
def kSymbol (x y : Nat) : Nat := 256 + 32 * y + x

/-- The idle pair of a lane that carries no frame (R406). -/
def laceIdlePair : List Nat := [kSymbol 28 5, dSymbol 21 5]

/-- The wake pattern: 32 symbols, on both lanes of a direction (R406). -/
def laceWakePattern : List Nat := (List.range 16).flatMap (fun _ => [kSymbol 28 5, kSymbol 28 7])

/-- The symbols of a frame on lane 0 or 1 (R409). -/
def LaceFrame.laneSymbols (f : LaceFrame) (lane : Nat) : List Nat :=
  kSymbol 28 5 :: (f.laneBytes lane).map BitVec.toNat

/-- What a lane of port `p` carries while no frame and no wake pattern leaves: idle pairs, and nothing while the ports are
disabled or the island does not operate (R406, R407). -/
def State.laneRest (s : State) (p : Nat) : List Nat := if s.portOk p then laceIdlePair else []

/-! ### The trace lanes (R506, R507) -/

/-- The block that fills gaps between frames (R507). -/
def idleBlock : Option Nat × List Byte := (some 0x1E, leBytes 7 0)

/-- The alignment block of a lane, with the marker count (R507). -/
def alignBlock (lane count : Nat) : Option Nat × List Byte := (some 0x4B, leBytes 1 lane ++ leBytes 2 count ++ leBytes 4 0)

/-- The blocks of the last frame that go to lane `lane`, where the frame's first block goes to lane `first` (R506). -/
def TrcSt.laneBlocks (t : TrcSt) (first lane : Nat) : List (Option Nat × List Byte) :=
  (t.frameBlocks.zipIdx.filter (fun e => (first + e.2) % 4 == lane)).map (·.1)

/-- The 64 payload bits of a block, the first byte's least significant bit first. -/
def blockPayload (b : Option Nat × List Byte) : List Bool :=
  let bytes := match b.1 with
    | some t => leBytes 1 t ++ b.2
    | none => b.2
  bytes.flatMap (fun x => (List.range 8).map (fun i => x.getLsbD i))

/-- The self-synchronising scrambler 1 + x^39 + x^58 over bits, with its state (R506). -/
def scramble (st : BitVec 58) (l : List Bool) : BitVec 58 × List Bool :=
  l.foldl (fun q b =>
    let o := b ^^ q.1.getLsbD 38 ^^ q.1.getLsbD 57
    ((q.1 <<< 1) ||| (if o then 1 else 0), q.2 ++ [o])) (st, [])

/-- The 66 bits of a block on a lane: sync header 01 for data and 10 for control, then the scrambled payload (R506). -/
def laneBits (st : BitVec 58) (b : Option Nat × List Byte) : BitVec 58 × List Bool :=
  let q := scramble st (blockPayload b)
  (q.1, [b.1.isSome, b.1.isNone] ++ q.2)

/-! ### The TAP (R536) -/

/-- The instruction that acts: EXTEST and INTEST only with the JTAG scope and while every rail is OFF (R536). -/
def State.tapNow (s : State) : Nat :=
  if s.sec.tap ≤ 2 ∨ (s.bitf F.GOV_SEC_SCOPE 0 0 ∧ s.allRailsOff) then s.sec.tap else 0

end Sys2Proof.Machine
end

