-- ==== Sys2Proof/WellFormed.lean ====
section
/-! DEFINITION. Which commands are well formed: an operand that names an instance names one of those that the spec lays
out (R2, R6, R53; the largest numbers, present or not). The meanings are total all the same: a command that names no
instance changes nothing. -/
namespace Sys2Proof

/-- Every instance a command names is in the range the spec lays out. -/
def Instr.wf (i : Instr) : Bool :=
  match i with
  | .registerWrite _ _ _ => true
  | .cfg64bitWrite _ _ _ => true
  | .seamCodeError src dst _ _ => decide (src < 8 ∧ dst < 9)
  | .seamResend src dst _ _ => decide (src < 8 ∧ dst < 9)
  | .islandStop isl _ => decide (isl < 8)
  | .islandRestart isl _ => decide (isl < 8)
  | .timeTrimWrite _ _ => true
  | .timeStepWrite _ _ => true
  | .timeStepApply => true
  | .refclkLost => true
  | .refclkRestored => true
  | .tokenPost n _ => decide (n < 1024)
  | .tokenReject n => decide (n < 1024)
  | .tokenStaleReject n => decide (n < 1024)
  | .tileAdmit x => decide (x.n < 1024 ∧ x.rivals < 65536)
  | .tileDone n => decide (n < 1024)
  | .epochBoundaryReport n => decide (n < 1024)
  | .demandReport n => decide (n < 1024)
  | .clickerRefill => true
  | .grantReceive n => decide (n < 1024)
  | .rampAllowanceCompute c => decide (c < 64)
  | .rampAllowanceReceive c => decide (c < 64)
  | .rampWindowStart c => decide (c < 64)
  | .phaseCapacityReport => true
  | .clampSourceAssert bit unit => decide (bit < 6 ∧ unit < 4096)
  | .clampRelease => true
  | .clampForceWrite _ _ => true
  | .partitionFault n p => decide (n < 1024 ∧ p < 2)
  | .partitionReadmit _ n pfault _ => decide (n < 1024 ∧ pfault < 4)
  | .roleWrite _ n _ => decide (n < 1024)
  | .unitMessage x _ => decide (x.n < 1024 ∧ x.pfault < 4)
  | .jobClearWrite _ m _ => decide (m < 64)
  | .costDataWrite _ _ => true
  | .weltHeadroomReport c _ _ _ _ => decide (c < 64)
  | .needUpdate _ => true
  | .classUpRequest n => decide (n < 1024)
  | .classReady c _ => decide (c < 64)
  | .classExpire c => decide (c < 64)
  | .ceilHoldExpire c => decide (c < 64)
  | .droopTrip n d => decide (n < 1024 ∧ d < 4)
  | .stretchEnd e => decide (e.n < 1024)
  | .kickExpire c => decide (c < 64)
  | .stormExit c => decide (c < 64)
  | .stormClampTimeout c => decide (c < 64)
  | .stormFracUpdate => true
  | .detectorStuck n d => decide (n < 1024 ∧ d < 4)
  | .detectorUnmask _ n _ => decide (n < 1024)
  | .weltIlimStart c _ => decide (c < 64)
  | .weltIlimTimeout c => decide (c < 64)
  | .weltIlimRelease c => decide (c < 64)
  | .weltOv c _ => decide (c < 64)
  | .tfSample p _ => decide (p < 96)
  | .phaseCycle p _ _ => decide (p < 96)
  | .softstartComplete p => decide (p < 96)
  | .phaseHiccupExpire p _ _ => decide (p < 96)
  | .senseLineOpen p _ => decide (p < 96)
  | .senseImplausibleCheck r => decide (r < 8)
  | .railSample r _ _ _ _ => decide (r < 8)
  | .phaseShed r => decide (r < 8)
  | .capabilityUpdate r => decide (r < 8)
  | .railOcHiccup r => decide (r < 8)
  | .railHiccupExpire r => decide (r < 8)
  | .brakeStart r _ => decide (r < 8)
  | .brakeEnd r _ => decide (r < 8)
  | .brakeTimeout r => decide (r < 8)
  | .syncEdge _ => true
  | .syncLock _ => true
  | .syncLoss => true
  | .phaseEnableWrite _ p _ => decide (p < 96)
  | .phaseDisableWrite _ p _ => decide (p < 96)
  | .disableHeldApply p => decide (p < 96)
  | .phaseQuietPoint p _ => decide (p < 96)
  | .phaseFailedReprobe _ p _ => decide (p < 96)
  | .probeComplete p _ _ => decide (p < 96)
  | .absentProbe p _ _ => decide (p < 96)
  | .railTargetWrite _ r _ => decide (r < 8)
  | .railOnWrite _ r _ => decide (r < 8)
  | .railOffWrite _ r _ => decide (r < 8)
  | .railCoefHold _ r _ => decide (r < 8)
  | .profileStep r => decide (r < 8)
  | .railEnterOn r => decide (r < 8)
  | .railStartTimeout r => decide (r < 8)
  | .railQuietPoint r _ => decide (r < 8)
  | .rsLoss r _ => decide (r < 8)
  | .rsRestore r _ => decide (r < 8)
  | .senseBothLost r _ _ => decide (r < 8)
  | .railOvervoltage r _ _ => decide (r < 8)
  | .sequenceUpRequest _ => true
  | .sequenceDownRequest _ => true
  | .seqStepBegin => true
  | .seqCheckWaitTimeout => true
  | .seqPendingUpStart => true
  | .slotSample n => decide (n < 128)
  | .slotEvaluate => true
  | .slotRelease => true
  | .slotHoldTimeout n => decide (n < 128)
  | .ceilingArrival n => decide (n < 128)
  | .slotEnable _ n _ => decide (n < 128)
  | .slotDisable _ n _ => decide (n < 128)
  | .slotQuietPoint n => decide (n < 128)
  | .notchAssign _ k _ => decide (k < 8)
  | .latencyClear _ => true
  | .railNeedReceive => true
  | .railNeedTimeout => true
  | .groupResend => true
  | .lastMarker l => decide (l < 16)
  | .lastMarkerTimeout l => decide (l < 16)
  | .lastFadeEnd l => decide (l < 16)
  | .lastCorrelationEval l => decide (l < 16)
  | .lastBinUpdate l => decide (l < 16)
  | .lastEnableWrite _ l _ => decide (l < 16)
  | .lastBinload _ _ => true
  | .activityWindow n _ => decide (n < 1024)
  | .predictorEval _ => true
  | .residualCheck => true
  | .shadowCheck => true
  | .predResumeGo _ => true
  | .predSetHold _ _ => true
  | .predGainTrim => true
  | .thermalSample layer _ => decide (layer < 3)
  | .refreshRelease layer _ => decide (layer < 3)
  | .backstopRelease n => decide (n < 1024)
  | .sensorUnbreak _ _ => true
  | .columnModelStep => true
  | .windowExpire => true
  | .waitIntent d mode => decide (d < 0x470 ∧ mode < 4)
  | .domainReqWrite _ d _ => decide (d < 0x470)
  | .domainCommit d _ _ _ _ => decide (d < 0x470)
  | .drainTimeout d => decide (d < 0x470)
  | .wakeEvent d src => decide (d < 0x470 ∧ src < 16)
  | .saveAccessTimeout d => decide (d < 0x470)
  | .eyeletPost _ ch _ _ => decide (ch < 9)
  | .commandTake ch _ _ => decide (ch < 9)
  | .replyPost ch => decide (ch < 9)
  | .replyTake _ ch _ => decide (ch < 9)
  | .eyeWinWrite _ w _ => decide (w < 512)
  | .noticeOverflow => true
  | .commandFinalReply slot _ => decide (slot < 1024)
  | .version => true
  | .ping => true
  | .stateCensus => true
  | .phaseMap => true
  | .railTarget => true
  | .railOn => true
  | .sequence => true
  | .platformCap => true
  | .railRead => true
  | .phaseEn => true
  | .clampForce => true
  | .setRole => true
  | .setPriority => true
  | .setCap => true
  | .setJob => true
  | .readmitPart => true
  | .unitPing => true
  | .jobMeter => true
  | .jobRead => true
  | .domainReq => true
  | .windowOpen => true
  | .windowClose => true
  | .windowStatus => true
  | .planLoad _ => true
  | .planTile => true
  | .planStatus => true
  | .planStore _ => true
  | .planDiscard => true
  | .traceStart => true
  | .traceStop => true
  | .traceTrigger => true
  | .traceStatus => true
  | .faultList => true
  | .faultClear => true
  | .safeExit => true
  | .unfence _ => true
  | .awlInject => true
  | .replanMargins => true
  | .marginSchedule => true
  | .treadReport => true
  | .predStatus => true
  | .predResume => true
  | .remote => true
  | .moduleStatus => true
  | .moduleBudget => true
  | .authChallenge => true
  | .authResponse => true
  | .authDrop => true
  | .authChallengeExpire => true
  | .fwBegin => true
  | .fwChunk => true
  | .fwCommit _ => true
  | .fwActivate => true
  | .lockstepMismatch p => decide (p < 2)
  | .takeoverResume => true
  | .firmwareHeartbeatTimeout p => decide (p < 2)
  | .laceSymbolLock p => decide (p < 2)
  | .laceLanesAligned p => decide (p < 2)
  | .laceTrainTimeout p => decide (p < 2)
  | .lacePortDown p _ => decide (p < 2)
  | .laceWakePatternSend p => decide (p < 2)
  | .laceFrameCrcFail p => decide (p < 2)
  | .laceReservedType p => decide (p < 2)
  | .laceHello p _ => decide (p < 2)
  | .laceHelloSend p => decide (p < 2)
  | .laceDelayReqSend p _ => decide (p < 2)
  | .laceDelayReq p _ _ => decide (p < 2)
  | .laceDelayRsp p _ _ => decide (p < 2)
  | .laceTimeSend => true
  | .laceTime p _ _ => decide (p < 2)
  | .laceJoinSend => true
  | .laceJoin p _ => decide (p < 2)
  | .laceMembersSend => true
  | .laceMembers p _ => decide (p < 2)
  | .laceReportSend => true
  | .laceReport p _ => decide (p < 2)
  | .laceDebt p _ => decide (p < 2)
  | .laceShareCompute => true
  | .laceShare p _ => decide (p < 2)
  | .laceShareTimeout => true
  | .laceMemberTimeout site => decide (site < 64)
  | .laceHeadLost => true
  | .laceSiteConflict => true
  | .laceTimeTimeout => true
  | .laceHeadStartHoldEnd => true
  | .laceSlow p _ => decide (p < 2)
  | .laceRelayCmd p _ => decide (p < 2)
  | .laceRelayRsp p _ => decide (p < 2)
  | .laceRelayReplyForward => true
  | .laceRelayRetry slot => decide (slot < 1024)
  | .faultEventAccept => true
  | .unclearedWrite _ row _ => decide (row < 256)
  | .forceSafeWrite _ _ => true
  | .awlArm _ _ => true
  | .awlDisarm _ _ => true
  | .sagSaveStart _ _ => true
  | .heelWriteComplete _ _ _ => true
  | .sagSaveStop _ _ => true
  | .sagRideThrough _ _ => true
  | .trdCalWrite _ _ => true
  | .driftMeasure _ => true
  | .emAccumulate => true
  | .holdupMeasurement _ _ _ => true
  | .marginWindow => true
  | .retentionReport n _ => decide (n < 1024)
  | .treadFit => true
  | .treadInsoleSave _ => true
  | .treadCheckpoint _ _ => true
  | .traceRecordAccept => true
  | .trcTrigWrite _ _ => true
  | .traceRegionComplete => true
  | .trcReleaseWrite _ _ => true
  | .traceDropReport k => decide (k < 15)
  | .traceRunStart _ _ => true
  | .traceFrameSend n => decide (1 ≤ n ∧ n ≤ 64)
  | .page _ _ _ => true
  | .clearFaults _ => true
  | .capability _ => true
  | .voutMode _ => true
  | .voutCommand _ => true
  | .statusByte _ => true
  | .statusWord _ => true
  | .statusVout _ => true
  | .statusIout _ => true
  | .statusTemperature _ => true
  | .statusCml _ => true
  | .readVout _ => true
  | .readIout _ => true
  | .readTemperature1 _ => true
  | .readTemperature2 _ => true
  | .readTemperature3 _ => true
  | .readPout _ => true
  | .pmbusRevision _ => true
  | .mfrId _ => true
  | .mfrModel _ => true
  | .mfrRevision _ => true
  | .mfrEyeCmd _ _ => true
  | .mfrEyeRsp _ => true
  | .mfrEyeStatus _ => true
  | .mfrEyeTake _ => true
  | .mfrEyeClear _ => true
  | .mfrPagePtr _ _ _ => true
  | .mfrPageData _ => true
  | .pmbusInvalidCommand _ => true
  | .alertResponse => true
  | .govLockWrite _ _ => true
  | .jtagInstruction _ => true
  | .insoleWindowWrite _ _ _ _ _ => true
  | .govSupplyLoss => true
  | .coldReset => true
  | .coldResetEnd _ _ _ _ => true
  | .insoleTest _ => true
  | .heelLoad _ _ => true
  | .bootRomStart _ _ => true
  | .bootLoaderWord _ _ => true
  | .firmwareBoot _ _ => true
  | .firmwareReady => true
  | .warmReset => true
  | .govResetWrite _ _ => true
  | .warmResetEnd => true
  | .adopt _ _ => true
  | .dieReset => true
  | .dieResetEnd => true
  | .readShadowLatch _ _ _ => true
  | .stallCycle c => decide (c.n < 1024 ∧ c.rivals < 65536)
  | .laceMessageForward p _ _ => decide (p < 2)
  | .dummyLoadRequestToggle _ => true

end Sys2Proof
end

