-- ==== Sys2Proof/Tests/Slice0.lean ====
section
/-! SUPPORT. The model's own tests: ill-formed terms that WellFormed refuses, worked examples of the spec, and for each
statement of Obligations.lean witnesses that meet its hypotheses, each with one step's result. -/
namespace Sys2Proof.Tests
open Sys2Proof Sys2Proof.Machine

set_option Elab.async false

/-- The command answers a next state that meets `p`. -/
def okNext (i : Instr) (s : State) (p : State → Bool) : Bool :=
  match exec i s with
  | .next t => p t
  | _ => false

def rep (s : State) (row unit : Nat) : Bool := s.flt.pend.any (fun e => e.row == row && e.unit == unit % 2 ^ 15)
def runsB (s : State) (op : Nat) (e : JEnt) : Bool := s.commandDue op == some e && s.jent? e.slot == some e
def answ (s : State) (e : JEnt) (status result : Nat) : Bool := (s.chan e.ch).queue.any (fun q =>
  decide (q.word = replyWord e.op e.seq status false false false result) && decide (q.jslot = some e.slot) && q.fin)
def effB (s : State) (e : JEnt) (final : Bool) : Bool := match s.jent? e.slot with
  | some x => x.effect && (x.final == final) && x.op == e.op && x.seq == e.seq
  | none => false
def doneB (s : State) (e : JEnt) (result : Nat) : Bool := answ s e ST_DONE result && effB s e true
def noticB (s : State) (kind subject : Nat) : Bool := (s.chan s.noticeCh).queue.any (fun q =>
  q.notice && decide (q.word.toNat / 2 ^ 32 = kind % 256 * 65536 + subject % 65536))

/-- A state in operation: after boot, no reset held, the count at 1 ms, every register at reset otherwise. -/
def up : State :=
  let s := { State.reset with rst := { State.reset.rst with cold := false, die := false } }
  let s := (s.setf F.GOV_BOOT_VGOV_OK 0 1).setf F.GOV_BOOT_STAGE 0 10
  let s := (s.setf F.TIME_STATUS_STARTED 0 1).setf F.GOV_ADOPT_STATUS 0 2
  { s with time := { s.time with count := 1000000 } }

theorem test_StepRunsFrontCommand_0 : (({ up with pending := [.dieReset, .coldReset] }).pending = ((.dieReset : Instr)) :: ([.coldReset]))
  ∧ ((match step { up with pending := [.dieReset, .coldReset] } with | .next t => t.rst.die && t.pending.length == 1 | _ => false) = true) := by decide +kernel

theorem test_IdleStepIsOneTick_0 : (up.pending = [])
  ∧ ((match step up with | .next t => decide (t.time.count = 1000001) | _ => false) = true) := by decide +kernel

theorem test_IdleStepIsOneTick_1 : (State.reset.rst.cold = true)
  ∧ (State.reset.tick = State.reset) := by decide +kernel

theorem test_IdleStepIsOneTick_2 : (up.rst.cold = false)
  ∧ (up.f F.TIME_STEP_STATUS ≠ 1)
  ∧ (up.started = true)
  ∧ (up.tick.time.count = up.time.count + 1) := by decide +kernel

theorem test_IdleStepIsOneTick_3 : (up.rst.cold = false)
  ∧ (up.f F.TIME_STEP_STATUS ≠ 1)
  ∧ (up.started = true)
  ∧ (up.tick.time.boot = up.time.boot) := by decide +kernel

theorem test_IdleStepIsOneTick_4 : (up.rst.cold = false)
  ∧ (up.f F.TIME_STEP_STATUS ≠ 1)
  ∧ (up.started = true)
  ∧ ({ up.tick with time := up.time, crd := up.crd } = up) := by decide +kernel

theorem test_IdleStepIsOneTick_5 : (up.rst.cold = false)
  ∧ (up.f F.TIME_STEP_STATUS ≠ 1)
  ∧ (up.started = true)
  ∧ ({ up.tick.crd with pre := up.crd.pre } = up.crd) := by decide +kernel

theorem test_IdleStepIsOneTick_6 : (up.rst.cold = false)
  ∧ (up.f F.TIME_STEP_STATUS ≠ 1)
  ∧ (up.started = true)
  ∧ ((up.now.toNat + 1) % 1000 ≠ 0)
  ∧ (up.now.toNat + 1 < 2 ^ 64)
  ∧ (up.tick.crd = up.crd) := by decide +kernel

def preStart : State := { (up.setf F.TIME_STATUS_STARTED 0 0) with time := { up.time with count := 0, boot := 7 } }

theorem test_IdleStepIsOneTick_7 : (preStart.rst.cold = false)
  ∧ (preStart.f F.TIME_STEP_STATUS ≠ 1)
  ∧ (preStart.started = false)
  ∧ (preStart.tick.time.boot = preStart.time.boot + 1) := by decide +kernel

theorem test_IdleStepIsOneTick_8 : (preStart.rst.cold = false)
  ∧ (preStart.f F.TIME_STEP_STATUS ≠ 1)
  ∧ (preStart.started = false)
  ∧ (preStart.tick.time.count = preStart.time.count) := by decide +kernel

theorem test_IdleStepIsOneTick_9 : (preStart.rst.cold = false)
  ∧ (preStart.f F.TIME_STEP_STATUS ≠ 1)
  ∧ (preStart.started = false)
  ∧ ({ preStart.tick with time := preStart.time } = preStart) := by decide +kernel

def stepPending : State := (up.setf F.TIME_STEP_STATUS 0 1).setf F.TIME_STEP_STEP_NS 0 1073741823

theorem test_IdleStepIsOneTick_10 : (stepPending.rst.cold = false)
  ∧ (stepPending.f F.TIME_STEP_STATUS = 1)
  ∧ (stepPending.started = true)
  ∧ (stepPending.tick.time.count = stepPending.time.count + BitVec.ofNat 64 (stepPending.f F.TIME_STEP_STEP_NS + 1)) := by decide +kernel

theorem test_IdleStepIsOneTick_11 : (stepPending.rst.cold = false)
  ∧ (stepPending.f F.TIME_STEP_STATUS = 1)
  ∧ (stepPending.started = true)
  ∧ (stepPending.tick.f F.TIME_STEP_STATUS = 2) := by decide +kernel

theorem test_EveryCommandAnswersNext_0 : okNext .coldReset { up with pending := [.dieReset] }
  (fun t => decide (t.pending = [.dieReset])) = true := by decide +kernel

theorem test_MemoriesStayCanonical_0 : (Memory.wf up.flt.mram = true ∧ Memory.wf up.eye.pages = true ∧ Insole.wf up.pwr.insole = true)
  ∧ step { up with pending := [.alertResponse] } = exec .alertResponse up := ⟨by decide +kernel, rfl⟩

theorem test_ResetIsCanonical : (Memory.wf State.reset.flt.mram = true ∧ State.reset.rst.cold = true ∧ State.reset.now = 0) := by
  decide +kernel

def thermLocked : State := up.setf F.GOV_LOCK_THERM 0 1

theorem test_RegisterWriteBits_0 : (findReg (cfgOff ((81924 : BitVec 18))) = some (R.THM_RATE, 0))
  ∧ (cfgOff ((81924 : BitVec 18)) < 0x80000)
  ∧ (thermLocked.portTakes R.THM_RATE 0 = true)
  ∧ (thermLocked.actGov .cfg R.THM_RATE 0 ((0x12345678 : Word)) = none)
  ∧ (thermLocked.actDie .cfg R.THM_RATE 0 ((0x12345678 : Word)) = none)
  ∧ okNext (.registerWrite true ((81924 : BitVec 18)) ((0x12345678 : Word))) thermLocked (fun t => decide ((t.rd R.THM_RATE &&& 0x00FF) = (if (R.THM_RATE.wf.any (fun x => x.lo == 0 && x.acc == .rw)) then 0x78 else thermLocked.rd R.THM_RATE &&& 0x00FF)) && decide (t.rsp.err = true) && decide (t.rd R.THM_RATE >>> 24 = thermLocked.rd R.THM_RATE >>> 24)) = true :=
  ⟨rfl, by decide +kernel⟩

theorem test_RegisterWriteBits_0_w1c : (findReg (cfgOff ((2052 : BitVec 18))) = some (R.TIME_STATUS, 0))
  ∧ (cfgOff ((2052 : BitVec 18)) < 0x80000)
  ∧ ((up.wr R.TIME_STATUS 0 0xC000000C).portTakes R.TIME_STATUS 0 = true)
  ∧ ((up.wr R.TIME_STATUS 0 0xC000000C).actGov .cfg R.TIME_STATUS 0 ((0xFFFFFFFB : Word)) = none)
  ∧ ((up.wr R.TIME_STATUS 0 0xC000000C).actDie .cfg R.TIME_STATUS 0 ((0xFFFFFFFB : Word)) = none)
  ∧ okNext (.registerWrite true ((2052 : BitVec 18)) ((0xFFFFFFFB : Word))) (up.wr R.TIME_STATUS 0 0xC000000C) (fun t => decide (t.rd R.TIME_STATUS = 0xC0000004) && decide (t.rsp.err = false)) = true :=
  ⟨rfl, by decide +kernel⟩

theorem test_RefusedCfgRequests_0 : okNext (.registerWrite false ((0 : BitVec 18)) ((0 : Word))) up (fun t => decide (t = (up.respond true))) = true := by decide +kernel

theorem test_RefusedCfgRequests_1 : (cfgOff ((1 : BitVec 18)) % 8 = 4)
  ∧ okNext (.cfg64bitWrite true ((1 : BitVec 18)) ((0 : Word64))) up (fun t => decide (t = (up.respond true))) = true := by decide +kernel

theorem test_RefusedCfgRequests_2 : (cfgOff ((1 : BitVec 18)) % 8 = 4)
  ∧ okNext (.readShadowLatch true true ((1 : BitVec 18))) up (fun t => decide (t = (up.respond true))) = true := by decide +kernel

theorem test_RefusedCfgRequests_3 : (findReg (cfgOff ((6657 : BitVec 18))) = some (R.PWRd_STATUS, 0x200))
  ∧ (cfgOff ((6657 : BitVec 18)) < 0x80000)
  ∧ (up.rst.cold = false)
  ∧ (presentIdx R.PWRd_STATUS.pres 0x200 = false)
  ∧ okNext (.registerWrite true ((6657 : BitVec 18)) ((0 : Word))) up (fun t => decide (t = (up.respond false))) = true :=
  ⟨rfl, by decide +kernel⟩

theorem test_RefusedCfgRequests_4 : (findReg (cfgOff ((81924 : BitVec 18))) = some (R.THM_RATE, 0))
  ∧ (cfgOff ((81924 : BitVec 18)) < 0x80000)
  ∧ (presentIdx R.THM_RATE.pres 0 = true)
  ∧ (((up.setf F.GOV_ADOPT_STATUS 0 0)).answers (R.THM_RATE.at 0) R.THM_RATE 0 = false ∨ (heldBlock (R.THM_RATE.at 0) = true ∧ ((up.setf F.GOV_ADOPT_STATUS 0 0)).holding = true))
  ∧ okNext (.registerWrite true ((81924 : BitVec 18)) ((0 : Word))) ((up.setf F.GOV_ADOPT_STATUS 0 0)) (fun t => decide (t = (((up.setf F.GOV_ADOPT_STATUS 0 0)).respond true))) = true :=
  ⟨rfl, by decide +kernel⟩

theorem test_RefusedCfgRequests_4_cold : (findReg (cfgOff ((81924 : BitVec 18))) = some (R.THM_RATE, 0))
  ∧ (cfgOff ((81924 : BitVec 18)) < 0x80000)
  ∧ (presentIdx R.THM_RATE.pres 0 = true)
  ∧ (State.reset.answers (R.THM_RATE.at 0) R.THM_RATE 0 = false ∨ (heldBlock (R.THM_RATE.at 0) = true ∧ State.reset.holding = true))
  ∧ okNext (.registerWrite true ((81924 : BitVec 18)) ((0 : Word))) State.reset (fun t => decide (t = (State.reset.respond true))) = true :=
  ⟨rfl, by decide +kernel⟩

theorem test_RefusedCfgRequests_5 : (findReg (cfgOff ((4 : BitVec 18))) = some (R.GOV_LOCK, 0))
  ∧ (cfgOff ((4 : BitVec 18)) < 0x80000)
  ∧ (presentIdx R.GOV_LOCK.pres 0 = true)
  ∧ (({ up with rst := { up.rst with warm := true } }).answers (R.GOV_LOCK.at 0) R.GOV_LOCK 0 = true)
  ∧ ((heldBlock (R.GOV_LOCK.at 0) && ({ up with rst := { up.rst with warm := true } }).holding) = false)
  ∧ (({ up with rst := { up.rst with warm := true } }).rst.warm = true)
  ∧ (R.GOV_LOCK.dom ≠ .cold)
  ∧ okNext (.registerWrite true ((4 : BitVec 18)) ((7 : Word))) ({ up with rst := { up.rst with warm := true } }) (fun t => decide (t = (({ up with rst := { up.rst with warm := true } }).respond false))) = true :=
  ⟨rfl, by decide +kernel⟩

theorem test_RefusedCfgRequests_6 : (cfgOff ((11 : BitVec 18)) < 0x80000)
  ∧ (up.rst.cold = false)
  ∧ okNext (.registerWrite true ((11 : BitVec 18)) ((7 : Word))) up (fun t => decide (t = (up.respond false))) = true
  ∧ ((findReg 0x0002C).isNone) := by decide +kernel

def pairSt : State := (up.wr R.TRD_CAL_LO 0 5).wr R.TRD_CAL_HI 0 9

theorem test_ReadShadowsOfPairs_0 : (findReg (cfgOff ((114692 : BitVec 18))) = some (R.TRD_CAL_LO, 0))
  ∧ (presentIdx R.TRD_CAL_LO.pres 0 = true)
  ∧ (isPairLo R.TRD_CAL_LO = true)
  ∧ ((pairSt.readWord true (cfgOff ((114692 : BitVec 18)))).2 = false)
  ∧ okNext (.readShadowLatch true false ((114692 : BitVec 18))) pairSt (fun t => decide (t.rsp = { err := false, data := (pairSt.readWord true (cfgOff ((114692 : BitVec 18)))).1.setWidth 64 }) && decide (Tab.get 0 t.shadow (cfgOff ((114692 : BitVec 18))) = (pairSt.readWord true (cfgOff ((114692 : BitVec 18)) + 4)).1) && decide ({ t with shadow := pairSt.shadow, rsp := pairSt.rsp } = pairSt)) = true :=
  ⟨rfl, by decide +kernel⟩

theorem test_ReadShadowsOfPairs_1 : (findReg (cfgOff ((114693 : BitVec 18))) = some (R.TRD_CAL_HI, 0))
  ∧ (presentIdx R.TRD_CAL_HI.pres 0 = true)
  ∧ (isPairLo R.TRD_CAL_HI = false)
  ∧ (isPairHi R.TRD_CAL_HI = true)
  ∧ ((pairSt.readWord true (cfgOff ((114693 : BitVec 18)))).2 = false)
  ∧ okNext (.readShadowLatch true false ((114693 : BitVec 18))) pairSt (fun t => decide (t.rsp = { err := false, data := (Tab.get 0 pairSt.shadow (cfgOff ((114693 : BitVec 18)) - 4)).setWidth 64 }) && decide ({ t with rsp := pairSt.rsp } = pairSt)) = true :=
  ⟨rfl, by decide +kernel⟩

theorem test_ReadShadowsOfPairs_2 : (cfgOff ((114692 : BitVec 18)) % 8 = 0)
  ∧ okNext (.readShadowLatch true true ((114692 : BitVec 18))) pairSt (fun t => decide (t.rsp.data = (pairSt.readWord true (cfgOff ((114692 : BitVec 18)) + 4)).1 ++ (pairSt.readWord true (cfgOff ((114692 : BitVec 18)))).1) && decide ({ t with rsp := pairSt.rsp } = pairSt)) = true
  ∧ (okNext (.readShadowLatch true true (114692 : BitVec 18)) pairSt (fun t => t.rsp.data = 0x900000005) = true) := by decide +kernel

theorem test_ReadShadowsOfPairs_3 : (cfgOff ((5120 : BitVec 18)) % 8 = 0)
  ∧ (cfgOff ((5120 : BitVec 18)) < 0x80000)
  ∧ okNext (.cfg64bitWrite true ((5120 : BitVec 18)) ((0 : Word64))) up (fun t => decide ({ t with rsp := up.rsp } = { (up.write32 true (cfgOff ((5120 : BitVec 18))) (((0 : Word64)).setWidth 32)).write32 true (cfgOff ((5120 : BitVec 18)) + 4) ((((0 : Word64)) >>> 32).setWidth 32) with rsp := up.rsp }) && decide (t.rsp.err = ((up.write32 true (cfgOff ((5120 : BitVec 18))) (((0 : Word64)).setWidth 32)).rsp.err || ((up.write32 true (cfgOff ((5120 : BitVec 18))) (((0 : Word64)).setWidth 32)).write32 true (cfgOff ((5120 : BitVec 18)) + 4) ((((0 : Word64)) >>> 32).setWidth 32)).rsp.err))) = true
  ∧ ((findReg 0x05000).all (fun q => q.1.off != 0x01100 && q.1.off != 0x70010)) := by decide +kernel

theorem test_SeamsAndIslands_0 : (up.rst.cold = false)
  ∧ (seamOk 7 2 511 = true)
  ∧ ((up.seam (seamKey 7 2 511)).retry = none)
  ∧ (up.onSeam 7 2 511 ((1 : BitVec 64)) = true)
  ∧ okNext (.seamCodeError 7 2 511 ((1 : BitVec 64))) up (fun t => decide ((t.seam (seamKey 7 2 511)).retry = some 1) && decide (rep t 0x06 2) && decide (t.inFlight 1 2 511 = up.inFlight 1 2 511)) = true := by decide +kernel

def seamRetry : State := up.setSeam (seamKey 7 2 511) { retry := some 1 }

def seamRetryStop : State := seamRetry.setIsland 2 511 { stopped := true }

def grantRetry : State := ((up.setf F.PWRd_STATUS_STEP 511 0).setStation 511 { (up.station 511) with grants := [16] }).setSeam (seamKey 1 2 511) { retry := some 16 }

theorem test_SeamsAndIslands_1 : (grantRetry.seamFree 1 2 511 = false)
  ∧ okNext (.grantReceive 511) grantRetry (fun t => decide (t = grantRetry)) = true := by decide +kernel

theorem test_SeamsAndIslands_2 : (((up.setSeam (seamKey 1 2 0x400) { retry := some 1 })).seamFree 1 2 (0x400 + 0) = false)
  ∧ okNext (.rampAllowanceReceive 0) ((up.setSeam (seamKey 1 2 0x400) { retry := some 1 })) (fun t => decide (t = ((up.setSeam (seamKey 1 2 0x400) { retry := some 1 })))) = true := by decide +kernel

theorem test_SeamsAndIslands_3 : (((up.setSeam (seamKey 2 1 511) { retry := some 1 })).seamFree 2 1 511 = false)
  ∧ okNext (.demandReport 511) ((up.setSeam (seamKey 2 1 511) { retry := some 1 })) (fun t => decide (t = ((up.setSeam (seamKey 2 1 511) { retry := some 1 })))) = true := by decide +kernel

theorem test_SeamsAndIslands_4 : (((up.setSeam (seamKey 5 2 511) { retry := some 1 })).seamFree 5 2 511 = false)
  ∧ okNext (.unitMessage ⟨511, 0⟩ ((1 : BitVec 64))) ((up.setSeam (seamKey 5 2 511) { retry := some 1 })) (fun t => decide (t = ((up.setSeam (seamKey 5 2 511) { retry := some 1 })))) = true := by decide +kernel

theorem test_SeamsAndIslands_5 : ((grantRetry.seam (seamKey 1 2 511)).retry = some ((16 : BitVec 64)))
  ∧ ((grantRetry.inFlight 1 2 511).isSome = true)
  ∧ okNext (.seamResend 1 2 511 true) grantRetry (fun t => decide (t = (grantRetry.setSeam (seamKey 1 2 511) { grantRetry.seam (seamKey 1 2 511) with retry := none }))) = true := by decide +kernel

theorem test_SeamsAndIslands_6 : ((((seamRetry.setf F.PWRd_STATUS_STEP 511 0)).seam (seamKey 7 2 511)).retry = some ((1 : BitVec 64)))
  ∧ (((seamRetry.setf F.PWRd_STATUS_STEP 511 0)).inFlight 7 2 511 = none)
  ∧ ((((seamRetry.setf F.PWRd_STATUS_STEP 511 0)).island 2 511).stopped = false)
  ∧ okNext (.seamResend 7 2 511 true) ((seamRetry.setf F.PWRd_STATUS_STEP 511 0)) (fun t => decide ((t.seam (seamKey 7 2 511)).retry = none) && decide ((t.seam (seamKey 7 2 511)).delivered = [((1 : BitVec 64))]) && decide ({ t with seams := ((seamRetry.setf F.PWRd_STATUS_STEP 511 0)).seams, crd := ((seamRetry.setf F.PWRd_STATUS_STEP 511 0)).crd } = ((seamRetry.setf F.PWRd_STATUS_STEP 511 0)))) = true
  ∧ ((islandDomain 2 511 == some 511) = true)
  ∧ ((seamRetry.setf F.PWRd_STATUS_STEP 511 0).f F.PWRd_STATUS_STEP 511 ≠ 7) := by decide +kernel

theorem test_SeamsAndIslands_7 : ((((seamRetryStop.setf F.PWRd_STATUS_STEP 511 0)).seam (seamKey 7 2 511)).retry = some ((1 : BitVec 64)))
  ∧ (((seamRetryStop.setf F.PWRd_STATUS_STEP 511 0)).inFlight 7 2 511 = none)
  ∧ ((((seamRetryStop.setf F.PWRd_STATUS_STEP 511 0)).island 2 511).stopped = true)
  ∧ okNext (.seamResend 7 2 511 true) ((seamRetryStop.setf F.PWRd_STATUS_STEP 511 0)) (fun t => decide ((t.seam (seamKey 7 2 511)).retry = none) && decide ((t.seam (seamKey 7 2 511)).held = (((seamRetryStop.setf F.PWRd_STATUS_STEP 511 0)).seam (seamKey 7 2 511)).held ++ [((1 : BitVec 64))]) && decide ({ t with seams := ((seamRetryStop.setf F.PWRd_STATUS_STEP 511 0)).seams } = ((seamRetryStop.setf F.PWRd_STATUS_STEP 511 0)))) = true
  ∧ ((islandDomain 2 511 == some 511) = true)
  ∧ ((seamRetryStop.setf F.PWRd_STATUS_STEP 511 0).f F.PWRd_STATUS_STEP 511 ≠ 7) := by decide +kernel

theorem test_SeamsAndIslands_8 : ((((seamRetry.setf F.PWRd_STATUS_STEP 511 7)).seam (seamKey 7 2 511)).retry = some ((1 : BitVec 64)))
  ∧ (((seamRetry.setf F.PWRd_STATUS_STEP 511 7)).inFlight 7 2 511 = none)
  ∧ (islandDomain 2 511 = some 511)
  ∧ (((seamRetry.setf F.PWRd_STATUS_STEP 511 7)).f F.PWRd_STATUS_STEP 511 = 7)
  ∧ okNext (.seamResend 7 2 511 true) ((seamRetry.setf F.PWRd_STATUS_STEP 511 7)) (fun t => decide ((t.seam (seamKey 7 2 511)).retry = none) && decide ((t.seam (seamKey 7 2 511)).flushed = (((seamRetry.setf F.PWRd_STATUS_STEP 511 7)).seam (seamKey 7 2 511)).flushed + 1) && decide ({ t with seams := ((seamRetry.setf F.PWRd_STATUS_STEP 511 7)).seams } = ((seamRetry.setf F.PWRd_STATUS_STEP 511 7)))) = true := by decide +kernel

theorem test_SeamsAndIslands_9 : ((seamRetryStop.seam (seamKey 7 2 511)).retry = some ((1 : BitVec 64)))
  ∧ okNext (.seamResend 7 2 511 false) seamRetryStop (fun t => decide ((t.seam (seamKey 7 2 511)).retry = none) && decide (rep t 0x07 2) && decide ((7 = 1 → 2 = 2 → t.inFlight 1 2 511 = (seamRetryStop.inFlight 1 2 511).map List.tail)) && decide ((7 = 2 → 2 = 1 → (t.station 511).report = none))) = true := by decide +kernel

theorem test_SeamsAndIslands_9_grant : ((grantRetry.seam (seamKey 1 2 511)).retry = some ((16 : BitVec 64)))
  ∧ okNext (.seamResend 1 2 511 false) grantRetry (fun t => decide ((t.seam (seamKey 1 2 511)).retry = none) && decide (rep t 0x07 2) && decide ((1 = 1 → 2 = 2 → t.inFlight 1 2 511 = (grantRetry.inFlight 1 2 511).map List.tail)) && decide ((1 = 2 → 2 = 1 → (t.station 511).report = none))) = true := by decide +kernel

theorem test_SeamsAndIslands_10 : (seamRetry.rst.cold = false)
  ∧ (islandOk 7 0 = true)
  ∧ (7 ≠ 0)
  ∧ ((seamRetry.island 7 0).stopped = false)
  ∧ okNext (.islandStop 7 0) seamRetry (fun t => decide ((t.island 7 0).stopped = true) && decide ((t.island 7 0).stopAt = seamRetry.now) && decide (t.hangTop (islandRing 7 0) = some { t := seamRetry.now, code := 0xFE, arg := 0 }) && decide ({ t with islands := seamRetry.islands, trc := seamRetry.trc } = seamRetry)) = true := by decide +kernel

theorem test_SeamsAndIslands_11 : (seamRetryStop.rst.cold = false)
  ∧ (islandOk 2 511 = true)
  ∧ ((seamRetryStop.island 2 511).stopped = true)
  ∧ okNext (.islandRestart 2 511) seamRetryStop (fun t => decide ((t.island 2 511).stopped = false) && decide (t.hangTop (islandRing 2 511) = some { t := seamRetryStop.now, code := 0xFF, arg := 0 }) && decide (∀ src : Nat, src < 8 → (t.seam (seamKey src 2 511)).held = [])) = true := by decide +kernel

theorem test_TimeBaseCommands_0 : (up.portTakes R.TIME_TRIM 0 = true)
  ∧ okNext (.timeTrimWrite true ((8589935 : Word))) up (fun t => decide (t.rd R.TIME_TRIM = BitVec.ofInt 32 (clampInt (-8589935) 8589935 ((8589935 : Word)).toInt)) && decide (t.rsp.err = false) && decide (t.time = up.time) && decide ((((8589935 : Word)).toInt < -8589935 ∨ 8589935 < ((8589935 : Word)).toInt → t.on F.TIME_STATUS_TRIM_CLAMPED = true)) && decide ((-8589935 ≤ ((8589935 : Word)).toInt ∧ ((8589935 : Word)).toInt ≤ 8589935 → t.on F.TIME_STATUS_TRIM_CLAMPED = up.on F.TIME_STATUS_TRIM_CLAMPED))) = true := by decide +kernel

theorem test_TimeBaseCommands_0_over : (up.portTakes R.TIME_TRIM 0 = true)
  ∧ okNext (.timeTrimWrite true ((8589936 : Word))) up (fun t => decide (t.rd R.TIME_TRIM = BitVec.ofInt 32 (clampInt (-8589935) 8589935 ((8589936 : Word)).toInt)) && decide (t.rsp.err = false) && decide (t.time = up.time) && decide ((((8589936 : Word)).toInt < -8589935 ∨ 8589935 < ((8589936 : Word)).toInt → t.on F.TIME_STATUS_TRIM_CLAMPED = true)) && decide ((-8589935 ≤ ((8589936 : Word)).toInt ∧ ((8589936 : Word)).toInt ≤ 8589935 → t.on F.TIME_STATUS_TRIM_CLAMPED = up.on F.TIME_STATUS_TRIM_CLAMPED))) = true := by decide +kernel

theorem test_TimeBaseCommands_0_under : (up.portTakes R.TIME_TRIM 0 = true)
  ∧ okNext (.timeTrimWrite true ((-8589936 : Word))) up (fun t => decide (t.rd R.TIME_TRIM = BitVec.ofInt 32 (clampInt (-8589935) 8589935 ((-8589936 : Word)).toInt)) && decide (t.rsp.err = false) && decide (t.time = up.time) && decide ((((-8589936 : Word)).toInt < -8589935 ∨ 8589935 < ((-8589936 : Word)).toInt → t.on F.TIME_STATUS_TRIM_CLAMPED = true)) && decide ((-8589935 ≤ ((-8589936 : Word)).toInt ∧ ((-8589936 : Word)).toInt ≤ 8589935 → t.on F.TIME_STATUS_TRIM_CLAMPED = up.on F.TIME_STATUS_TRIM_CLAMPED))) = true := by decide +kernel

theorem test_TimeBaseCommands_1 : (stepPending.portTakes R.TIME_STEP 0 = true)
  ∧ (stepPending.f F.TIME_STEP_STATUS = 1)
  ∧ okNext (.timeStepWrite true ((3 : Word))) stepPending (fun t => decide (t = (stepPending.respond true))) = true := by decide +kernel

theorem test_TimeBaseCommands_2 : (up.portTakes R.TIME_STEP 0 = true)
  ∧ (up.f F.TIME_STEP_STATUS ≠ 1)
  ∧ okNext (.timeStepWrite true ((0xFFFFFFFF : Word))) up (fun t => decide (t.f F.TIME_STEP_STATUS = (if up.on F.TIME_STATUS_ON_OSC then 3 else 1)) && decide (t.f F.TIME_STEP_STEP_NS = ((0xFFFFFFFF : Word)).toNat % 2 ^ 30) && decide (t.rsp.err = false) && decide ({ t with regs := up.regs, rsp := up.rsp } = up)) = true := by decide +kernel

theorem test_TimeBaseCommands_3 : (stepPending.rst.cold = false)
  ∧ (stepPending.started = true)
  ∧ (stepPending.f F.TIME_STEP_STATUS = 1)
  ∧ okNext .timeStepApply stepPending (fun t => decide (t.time.count = stepPending.time.count + BitVec.ofNat 64 (stepPending.f F.TIME_STEP_STEP_NS + 1)) && decide (t.f F.TIME_STEP_STATUS = 2)) = true := by decide +kernel

theorem test_TimeBaseCommands_4 : (((up.setf F.GOV_BOOT_REFCLK_OK 0 1)).rst.cold = false)
  ∧ (((up.setf F.GOV_BOOT_REFCLK_OK 0 1)).on F.TIME_STATUS_ON_OSC = false)
  ∧ okNext .refclkLost ((up.setf F.GOV_BOOT_REFCLK_OK 0 1)) (fun t => decide (t.on F.TIME_STATUS_ON_OSC = true) && decide (t.on F.TIME_STATUS_REFCLK_LOST = true) && decide (t.on F.GOV_BOOT_REFCLK_OK = false) && decide (rep t 0x0A 0) && decide (t.time.count = (((up.setf F.GOV_BOOT_REFCLK_OK 0 1)).ticks (9 - ((up.setf F.GOV_BOOT_REFCLK_OK 0 1)).time.phase)).time.count) && decide (t.time.boot = (((up.setf F.GOV_BOOT_REFCLK_OK 0 1)).ticks (9 - ((up.setf F.GOV_BOOT_REFCLK_OK 0 1)).time.phase)).time.boot) && decide (t.time.phase = 0)) = true := by decide +kernel

theorem test_TimeBaseCommands_5 : (((up.setf F.TIME_STATUS_ON_OSC 0 1)).rst.cold = false)
  ∧ (((up.setf F.TIME_STATUS_ON_OSC 0 1)).on F.TIME_STATUS_ON_OSC = true)
  ∧ okNext .refclkRestored ((up.setf F.TIME_STATUS_ON_OSC 0 1)) (fun t => decide (t.on F.TIME_STATUS_ON_OSC = false) && decide (t.on F.GOV_BOOT_REFCLK_OK = true) && decide (t.time.count = ((up.setf F.TIME_STATUS_ON_OSC 0 1)).time.count) && decide (t.on F.TIME_STATUS_REFCLK_LOST = ((up.setf F.TIME_STATUS_ON_OSC 0 1)).on F.TIME_STATUS_REFCLK_LOST)) = true := by decide +kernel

def tq : State := up.setStation 511 { queue := [{ raw := 0x0001000000000000, cost := 36 }] }

def tk0 : Token := { raw := 0x0001000000000000, cost := 36 }

def tq7 : State := up.setStation 511 { queue := List.replicate 7 tk0 }

def tq8 : State := up.setStation 511 { queue := List.replicate 8 tk0 }

theorem test_StationTokens_0 : (tq7.coreUp 511 = true)
  ∧ ((tq7.station 511).queue.length < 8)
  ∧ ((tq7.domStep 511 = 0 ∨ tq7.on F.PWRd_CTRL_LINK_WAKE 511 = false))
  ∧ okNext (.tokenPost 511 ((0x0001000000000000 : Word64))) tq7 (fun t => decide ((t.station 511).queue = (tq7.station 511).queue ++ [{ raw := ((0x0001000000000000 : Word64)), cost := tq7.costOf 511 ((0x0001000000000000 : Word64)) }]) && decide ({ t with crd := tq7.crd } = tq7)) = true := by decide +kernel

theorem test_StationTokens_1 : (8 ≤ (tq8.station 511).queue.length)
  ∧ okNext (.tokenPost 511 ((5 : Word64))) tq8 (fun t => decide (t = tq8)) = true := by decide +kernel

def tqBad : State := up.setStation 511 { queue := [{ raw := 1, cost := 36 }, tk0] }

theorem test_StationTokens_2 : (tqBad.head 511 = some (({ raw := 1, cost := 36 } : Token)))
  ∧ (tqBad.coreUp 511 = true)
  ∧ (tqBad.malformed 511 (({ raw := 1, cost := 36 } : Token)).raw = true)
  ∧ okNext (.tokenReject 511) tqBad (fun t => decide ((t.station 511).queue = (tqBad.station 511).queue.tail) && decide ((t.station 511).answer = 2) && decide (rep t 0x40 511) && decide (t.bucket 511 0 = tqBad.bucket 511 0) && decide (t.bucket 511 1 = tqBad.bucket 511 1)) = true := by decide +kernel

def tqStale : State := up.setStation 511 { queue := [{ raw := 0x2000, cost := 36 }, tk0] }

theorem test_StationTokens_3 : (tqStale.head 511 = some (({ raw := 0x2000, cost := 36 } : Token)))
  ∧ (tqStale.coreUp 511 = true)
  ∧ (tqStale.malformed 511 (({ raw := 0x2000, cost := 36 } : Token)).raw = false)
  ∧ (tqStale.staleTok 511 (({ raw := 0x2000, cost := 36 } : Token)).raw = true)
  ∧ okNext (.tokenStaleReject 511) tqStale (fun t => decide ((t.station 511).queue = (tqStale.station 511).queue.tail) && decide ((t.station 511).answer = 3) && decide (t.f F.CRDSn_STATUS_STALE_CNT 511 = (tqStale.f F.CRDSn_STATUS_STALE_CNT 511 + 1) % 256) && decide ({ t with regs := tqStale.regs, crd := tqStale.crd, trc := tqStale.trc } = tqStale)) = true := by decide +kernel

def tqRun : State := up.setStation 511 { running := [tk0, { raw := 7, cost := 1 }] }

theorem test_StationTokens_4 : (tqRun.coreUp 511 = true)
  ∧ okNext (.tileDone 511) tqRun (fun t => decide ((t.station 511).running = (tqRun.station 511).running.tail) && decide ({ t with crd := tqRun.crd } = tqRun)) = true := by decide +kernel

def tqDrain : State := ((tq7.setf F.PWRd_STATUS_STEP 511 1).setf F.PWRd_STATUS_TARGET 511 1).setf F.PWRd_STATUS_PENDING 511 3

theorem test_StationTokens_5 : (tqDrain.coreUp 511 = true)
  ∧ ((tqDrain.station 511).queue.length < 8)
  ∧ (tqDrain.domStep 511 ≠ 0)
  ∧ (tqDrain.vgov = true)
  ∧ (tqDrain.rst.warm = false)
  ∧ (tqDrain.on F.PWRd_CTRL_LINK_WAKE 511 = true)
  ∧ okNext (.tokenPost 511 ((0x0001000000000000 : Word64))) tqDrain (fun t => decide ((t.station 511).queue = (tqDrain.station 511).queue ++ [{ raw := ((0x0001000000000000 : Word64)), cost := tqDrain.costOf 511 ((0x0001000000000000 : Word64)) }]) && decide (t.domPending 511 = 0) && decide (t.f F.PWRd_CTRL_REQ_STATUS 511 = 1) && decide (t.domStep 511 = tqDrain.domStep 511)) = true := by decide +kernel

def tkD : Token := { raw := 0xC001000000000000, cost := 36 }

def adm0 : State := ((tq.setStation 511 { queue := [tk0], base := 36 }).setBucket 511 0 36).setf F.CRD_CTRL_EN 0 1

theorem test_TileAdmission_0 : (adm0.head 511 = some tk0)
  ∧ (adm0.coreUp 511 = true)
  ∧ (adm0.f F.PWRd_STATUS_STEP 511 = 0)
  ∧ ((adm0.coreCycles 511 3).whyStall 511 tk0 0 = .none)
  ∧ okNext (.tileAdmit ⟨511, 3, 0⟩) adm0 (fun t => decide ((t.station 511).queue = (adm0.station 511).queue.tail) && decide ((t.station 511).running = (adm0.station 511).running ++ [tk0]) && decide ((t.station 511).answer = 1) && decide ((t.station 511).x = (adm0.station 511).x + tk0.cost) && decide (t.on F.CRDSn_STATUS_STALLED 511 = false) && decide ((adm0.on F.CRD_CTRL_EN = true → (t.cluster (clusterOf 511)).pool = (adm0.cluster (clusterOf 511)).pool - rampNeed (adm0.station 511) tk0.cost)) && decide ((adm0.on F.CRD_CTRL_EN = true → isDummy tk0 = false → tk0.cost ≤ adm0.capOf 511 → t.bucket 511 (tokPart tk0.raw) = adm0.bucket 511 (tokPart tk0.raw) - tk0.cost ∧ (t.station 511).shortfall = (adm0.station 511).shortfall)) && decide ((adm0.on F.CRD_CTRL_EN = true → isDummy tk0 = false → adm0.capOf 511 < tk0.cost → t.bucket 511 (tokPart tk0.raw) = 0 ∧ (t.station 511).shortfall = min ((adm0.station 511).shortfall + (tk0.cost - adm0.capOf 511)) 65535)) && decide ((adm0.on F.CRD_CTRL_EN = false ∨ isDummy tk0 = true → t.bucket 511 0 = adm0.bucket 511 0 ∧ t.bucket 511 1 = adm0.bucket 511 1))) = true := by decide +kernel

def adm1 : State := ((up.setStation 511 { queue := [{ raw := 0, cost := 100 }], base := 100, shortfall := 65500 }).setBucket 511 0 64).setf F.CRD_CTRL_EN 0 1 |>.setf F.CRDSn_CFG_CAP 511 4

theorem test_TileAdmission_0_cap : (adm1.head 511 = some (({ raw := 0, cost := 100 } : Token)))
  ∧ (adm1.coreUp 511 = true)
  ∧ (adm1.f F.PWRd_STATUS_STEP 511 = 0)
  ∧ ((adm1.coreCycles 511 3).whyStall 511 (({ raw := 0, cost := 100 } : Token)) 0 = .none)
  ∧ okNext (.tileAdmit ⟨511, 3, 0⟩) adm1 (fun t => decide ((t.station 511).queue = (adm1.station 511).queue.tail) && decide ((t.station 511).running = (adm1.station 511).running ++ [(({ raw := 0, cost := 100 } : Token))]) && decide ((t.station 511).answer = 1) && decide ((t.station 511).x = (adm1.station 511).x + (({ raw := 0, cost := 100 } : Token)).cost) && decide (t.on F.CRDSn_STATUS_STALLED 511 = false) && decide ((adm1.on F.CRD_CTRL_EN = true → (t.cluster (clusterOf 511)).pool = (adm1.cluster (clusterOf 511)).pool - rampNeed (adm1.station 511) (({ raw := 0, cost := 100 } : Token)).cost)) && decide ((adm1.on F.CRD_CTRL_EN = true → isDummy (({ raw := 0, cost := 100 } : Token)) = false → (({ raw := 0, cost := 100 } : Token)).cost ≤ adm1.capOf 511 → t.bucket 511 (tokPart (({ raw := 0, cost := 100 } : Token)).raw) = adm1.bucket 511 (tokPart (({ raw := 0, cost := 100 } : Token)).raw) - (({ raw := 0, cost := 100 } : Token)).cost ∧ (t.station 511).shortfall = (adm1.station 511).shortfall)) && decide ((adm1.on F.CRD_CTRL_EN = true → isDummy (({ raw := 0, cost := 100 } : Token)) = false → adm1.capOf 511 < (({ raw := 0, cost := 100 } : Token)).cost → t.bucket 511 (tokPart (({ raw := 0, cost := 100 } : Token)).raw) = 0 ∧ (t.station 511).shortfall = min ((adm1.station 511).shortfall + ((({ raw := 0, cost := 100 } : Token)).cost - adm1.capOf 511)) 65535)) && decide ((adm1.on F.CRD_CTRL_EN = false ∨ isDummy (({ raw := 0, cost := 100 } : Token)) = true → t.bucket 511 0 = adm1.bucket 511 0 ∧ t.bucket 511 1 = adm1.bucket 511 1))) = true := by decide +kernel

def adm2 : State := (up.setStation 511 { queue := [tk0], base := 36 }).setBucket 511 0 7

theorem test_TileAdmission_0_off : (adm2.head 511 = some tk0)
  ∧ (adm2.coreUp 511 = true)
  ∧ (adm2.f F.PWRd_STATUS_STEP 511 = 0)
  ∧ ((adm2.coreCycles 511 0).whyStall 511 tk0 0 = .none)
  ∧ okNext (.tileAdmit ⟨511, 0, 0⟩) adm2 (fun t => decide ((t.station 511).queue = (adm2.station 511).queue.tail) && decide ((t.station 511).running = (adm2.station 511).running ++ [tk0]) && decide ((t.station 511).answer = 1) && decide ((t.station 511).x = (adm2.station 511).x + tk0.cost) && decide (t.on F.CRDSn_STATUS_STALLED 511 = false) && decide ((adm2.on F.CRD_CTRL_EN = true → (t.cluster (clusterOf 511)).pool = (adm2.cluster (clusterOf 511)).pool - rampNeed (adm2.station 511) tk0.cost)) && decide ((adm2.on F.CRD_CTRL_EN = true → isDummy tk0 = false → tk0.cost ≤ adm2.capOf 511 → t.bucket 511 (tokPart tk0.raw) = adm2.bucket 511 (tokPart tk0.raw) - tk0.cost ∧ (t.station 511).shortfall = (adm2.station 511).shortfall)) && decide ((adm2.on F.CRD_CTRL_EN = true → isDummy tk0 = false → adm2.capOf 511 < tk0.cost → t.bucket 511 (tokPart tk0.raw) = 0 ∧ (t.station 511).shortfall = min ((adm2.station 511).shortfall + (tk0.cost - adm2.capOf 511)) 65535)) && decide ((adm2.on F.CRD_CTRL_EN = false ∨ isDummy tk0 = true → t.bucket 511 0 = adm2.bucket 511 0 ∧ t.bucket 511 1 = adm2.bucket 511 1))) = true := by decide +kernel

theorem test_StallCyclesCountOneReason_0_CREDIT : (((adm0.setBucket 511 0 35)).head 511 = some tk0)
  ∧ (((adm0.setBucket 511 0 35)).coreUp 511 = true)
  ∧ okNext (.stallCycle ⟨511, 0, 0⟩) ((adm0.setBucket 511 0 35)) (fun t => decide (t.rd R.CRDSn_STALL_CREDIT 511 = ((adm0.setBucket 511 0 35)).rd R.CRDSn_STALL_CREDIT 511 + 1) && decide (t.pair R.CRD_LOST_CREDIT_LO R.CRD_LOST_CREDIT_HI = (((adm0.setBucket 511 0 35)).pair R.CRD_LOST_CREDIT_LO R.CRD_LOST_CREDIT_HI + 1) % 2 ^ 64) && decide (t.on F.CRDSn_STATUS_STALLED 511 = true) && decide ((t.station 511).queue = (((adm0.setBucket 511 0 35)).station 511).queue) && decide ((∀ q ∈ [R.CRDSn_STALL_CLAMP, R.CRDSn_STALL_OTHER, R.CRDSn_STALL_RAMP, R.CRDSn_STALL_CREDIT], q.off ≠ R.CRDSn_STALL_CREDIT.off → t.rd q 511 = ((adm0.setBucket 511 0 35)).rd q 511)) && decide ({ t with regs := ((adm0.setBucket 511 0 35)).regs, crd := ((adm0.setBucket 511 0 35)).crd } = ((adm0.setBucket 511 0 35)))) = true
  ∧ (((adm0.setBucket 511 0 35).coreCycles 511 0).whyStall 511 tk0 0 = .credit) := by decide +kernel

theorem test_StallCyclesCountOneReason_0_RAMP : (((adm0.setStation 511 { queue := [tk0], base := 0 })).head 511 = some tk0)
  ∧ (((adm0.setStation 511 { queue := [tk0], base := 0 })).coreUp 511 = true)
  ∧ okNext (.stallCycle ⟨511, 0, 0⟩) ((adm0.setStation 511 { queue := [tk0], base := 0 })) (fun t => decide (t.rd R.CRDSn_STALL_RAMP 511 = ((adm0.setStation 511 { queue := [tk0], base := 0 })).rd R.CRDSn_STALL_RAMP 511 + 1) && decide (t.pair R.CRD_LOST_RAMP_LO R.CRD_LOST_RAMP_HI = (((adm0.setStation 511 { queue := [tk0], base := 0 })).pair R.CRD_LOST_RAMP_LO R.CRD_LOST_RAMP_HI + 1) % 2 ^ 64) && decide (t.on F.CRDSn_STATUS_STALLED 511 = true) && decide ((t.station 511).queue = (((adm0.setStation 511 { queue := [tk0], base := 0 })).station 511).queue) && decide ((∀ q ∈ [R.CRDSn_STALL_CLAMP, R.CRDSn_STALL_OTHER, R.CRDSn_STALL_RAMP, R.CRDSn_STALL_CREDIT], q.off ≠ R.CRDSn_STALL_RAMP.off → t.rd q 511 = ((adm0.setStation 511 { queue := [tk0], base := 0 })).rd q 511)) && decide ({ t with regs := ((adm0.setStation 511 { queue := [tk0], base := 0 })).regs, crd := ((adm0.setStation 511 { queue := [tk0], base := 0 })).crd } = ((adm0.setStation 511 { queue := [tk0], base := 0 })))) = true
  ∧ (((adm0.setStation 511 { queue := [tk0], base := 0 }).coreCycles 511 0).whyStall 511 tk0 0 = .ramp) := by decide +kernel

def rival : State := ((adm0.setStation 511 { queue := [tk0] }).setStation 510 { queue := [tk0] }).setCluster 31 { pool := 40 }

theorem test_StallCyclesCountOneReason_0_RAMP_rival : (rival.head 511 = some tk0)
  ∧ (rival.coreUp 511 = true)
  ∧ okNext (.stallCycle ⟨511, 0, 16384⟩) rival (fun t => decide (t.rd R.CRDSn_STALL_RAMP 511 = rival.rd R.CRDSn_STALL_RAMP 511 + 1) && decide (t.pair R.CRD_LOST_RAMP_LO R.CRD_LOST_RAMP_HI = (rival.pair R.CRD_LOST_RAMP_LO R.CRD_LOST_RAMP_HI + 1) % 2 ^ 64) && decide (t.on F.CRDSn_STATUS_STALLED 511 = true) && decide ((t.station 511).queue = (rival.station 511).queue) && decide ((∀ q ∈ [R.CRDSn_STALL_CLAMP, R.CRDSn_STALL_OTHER, R.CRDSn_STALL_RAMP, R.CRDSn_STALL_CREDIT], q.off ≠ R.CRDSn_STALL_RAMP.off → t.rd q 511 = rival.rd q 511)) && decide ({ t with regs := rival.regs, crd := rival.crd } = rival)) = true
  ∧ ((rival.coreCycles 511 0).whyStall 511 tk0 16384 = .ramp) := by decide +kernel

theorem test_rival_alone : okNext (.tileAdmit ⟨511, 0, 0⟩) rival (fun t => (t.cluster 31).pool == 4) = true := by decide +kernel

theorem test_StallCyclesCountOneReason_0_OTHER : (((adm0.setStation 511 { queue := [tkD], base := 36 })).head 511 = some tkD)
  ∧ (((adm0.setStation 511 { queue := [tkD], base := 36 })).coreUp 511 = true)
  ∧ okNext (.stallCycle ⟨511, 0, 0⟩) ((adm0.setStation 511 { queue := [tkD], base := 36 })) (fun t => decide (t.rd R.CRDSn_STALL_OTHER 511 = ((adm0.setStation 511 { queue := [tkD], base := 36 })).rd R.CRDSn_STALL_OTHER 511 + 1) && decide (t.pair R.CRD_LOST_OTHER_LO R.CRD_LOST_OTHER_HI = (((adm0.setStation 511 { queue := [tkD], base := 36 })).pair R.CRD_LOST_OTHER_LO R.CRD_LOST_OTHER_HI + 1) % 2 ^ 64) && decide (t.on F.CRDSn_STATUS_STALLED 511 = true) && decide ((t.station 511).queue = (((adm0.setStation 511 { queue := [tkD], base := 36 })).station 511).queue) && decide ((∀ q ∈ [R.CRDSn_STALL_CLAMP, R.CRDSn_STALL_OTHER, R.CRDSn_STALL_RAMP, R.CRDSn_STALL_CREDIT], q.off ≠ R.CRDSn_STALL_OTHER.off → t.rd q 511 = ((adm0.setStation 511 { queue := [tkD], base := 36 })).rd q 511)) && decide ({ t with regs := ((adm0.setStation 511 { queue := [tkD], base := 36 })).regs, crd := ((adm0.setStation 511 { queue := [tkD], base := 36 })).crd } = ((adm0.setStation 511 { queue := [tkD], base := 36 })))) = true
  ∧ (((adm0.setStation 511 { queue := [tkD], base := 36 }).coreCycles 511 0).whyStall 511 tkD 0 = .other) := by decide +kernel

def clamped : State := (up.setStation 511 { queue := [tk0], base := 36, gateCnt := 1, gateGen := 1 }).setf F.CRD_CLAMP_RATE 0 15

theorem test_StallCyclesCountOneReason_0_CLAMP : (clamped.head 511 = some tk0)
  ∧ (clamped.coreUp 511 = true)
  ∧ okNext (.stallCycle ⟨511, 0, 0⟩) clamped (fun t => decide (t.rd R.CRDSn_STALL_CLAMP 511 = clamped.rd R.CRDSn_STALL_CLAMP 511 + 1) && decide (t.pair R.CRD_LOST_CLAMP_LO R.CRD_LOST_CLAMP_HI = (clamped.pair R.CRD_LOST_CLAMP_LO R.CRD_LOST_CLAMP_HI + 1) % 2 ^ 64) && decide (t.on F.CRDSn_STATUS_STALLED 511 = true) && decide ((t.station 511).queue = (clamped.station 511).queue) && decide ((∀ q ∈ [R.CRDSn_STALL_CLAMP, R.CRDSn_STALL_OTHER, R.CRDSn_STALL_RAMP, R.CRDSn_STALL_CREDIT], q.off ≠ R.CRDSn_STALL_CLAMP.off → t.rd q 511 = clamped.rd q 511)) && decide ({ t with regs := clamped.regs, crd := clamped.crd } = clamped)) = true
  ∧ ((clamped.coreCycles 511 0).whyStall 511 tk0 0 = .clamp) := by decide +kernel

def rep0 : State := (adm0.setStation 511 { spent := 70000, stalled := 12, shortfall := 3, job := 63, stretches := 300 })

theorem test_DemandReports_0 : (rep0.coreUp 511 = true)
  ∧ (rep0.f F.PWRd_STATUS_STEP 511 = 0)
  ∧ (rep0.due 1 511 1000 0 = true)
  ∧ okNext (.epochBoundaryReport 511) rep0 (fun t => decide ((t.station 511).report.map Prod.fst = some (reportA (t.bucket 511 0) (t.bucket 511 1) (rep0.station 511).stalled (t.roleEpoch 511) (rep0.epoch % 64) (t.station 511).split (rep0.station 511).stale)) && decide ((t.station 511).spent = 0) && decide ((t.station 511).stalled = 0) && decide ((t.station 511).shortfall = 0) && decide ((t.station 511).reported = true) && decide ((t.station 511).job = rep0.f F.CRDSn_ROLE_JOB 511)) = true := by decide +kernel

def repW : Word64 × Word64 := (reportA 1 2 3 0 40 false false, reportB 0 17 63 0 65535)

def repOff : State := ((adm0.setf F.PWRd_STATUS_STEP 511 7).setf F.CRDSn_CFG_SPLIT 511 1)

theorem test_DemandReports_1 : (511 < Config.coreCount)
  ∧ (repOff.dieUp = true)
  ∧ (repOff.coreUp 511 = false)
  ∧ (repOff.due 1 511 1000 0 = true)
  ∧ okNext (.epochBoundaryReport 511) repOff (fun t => decide ((t.station 511).report = (repOff.station 511).report) && decide ((t.station 511).job = repOff.f F.CRDSn_ROLE_JOB 511) && decide ((t.station 511).split = repOff.on F.CRDSn_CFG_SPLIT 511) && decide (t.on F.CRDSn_ROLE_PENDING 511 = false)) = true := by decide +kernel

def rep1 : State := up.setStation 511 { report := some repW }

theorem test_DemandReports_2_unmetered : ((rep1.station 511).report = some repW)
  ∧ (511 < Config.coreCount)
  ∧ (rep1.dieUp = true)
  ∧ (rep1.seamFree 2 1 511 = true)
  ∧ (Tab.get 0 rep1.crd.jobClear (repJob repW) = 0)
  ∧ okNext (.demandReport 511) rep1 (fun t => decide ((t.station 511).report = none) && decide ((t.click 511).report = some repW) && decide (t.f F.CRDSn_STATUS_DEBT 511 = min (rep1.f F.CRDSn_STATUS_DEBT 511 + repDebt repW) 65535) && decide ((rep1.on F.JOBm_CTRL_EN (repJob repW) = true → t.pair R.JOBm_EC_LO R.JOBm_EC_HI (repJob repW) = (rep1.pair R.JOBm_EC_LO R.JOBm_EC_HI (repJob repW) + repSpent repW) % 2 ^ 64)) && decide ((rep1.on F.JOBm_CTRL_EN (repJob repW) = false → t.pair R.CRD_UNMETERED_LO R.CRD_UNMETERED_HI = (rep1.pair R.CRD_UNMETERED_LO R.CRD_UNMETERED_HI + repSpent repW) % 2 ^ 64))) = true := by decide +kernel

theorem test_DemandReports_2_metered : ((((rep1.setf F.JOBm_CTRL_EN 63 1)).station 511).report = some repW)
  ∧ (511 < Config.coreCount)
  ∧ (((rep1.setf F.JOBm_CTRL_EN 63 1)).dieUp = true)
  ∧ (((rep1.setf F.JOBm_CTRL_EN 63 1)).seamFree 2 1 511 = true)
  ∧ (Tab.get 0 ((rep1.setf F.JOBm_CTRL_EN 63 1)).crd.jobClear (repJob repW) = 0)
  ∧ okNext (.demandReport 511) ((rep1.setf F.JOBm_CTRL_EN 63 1)) (fun t => decide ((t.station 511).report = none) && decide ((t.click 511).report = some repW) && decide (t.f F.CRDSn_STATUS_DEBT 511 = min (((rep1.setf F.JOBm_CTRL_EN 63 1)).f F.CRDSn_STATUS_DEBT 511 + repDebt repW) 65535) && decide ((((rep1.setf F.JOBm_CTRL_EN 63 1)).on F.JOBm_CTRL_EN (repJob repW) = true → t.pair R.JOBm_EC_LO R.JOBm_EC_HI (repJob repW) = (((rep1.setf F.JOBm_CTRL_EN 63 1)).pair R.JOBm_EC_LO R.JOBm_EC_HI (repJob repW) + repSpent repW) % 2 ^ 64)) && decide ((((rep1.setf F.JOBm_CTRL_EN 63 1)).on F.JOBm_CTRL_EN (repJob repW) = false → t.pair R.CRD_UNMETERED_LO R.CRD_UNMETERED_HI = (((rep1.setf F.JOBm_CTRL_EN 63 1)).pair R.CRD_UNMETERED_LO R.CRD_UNMETERED_HI + repSpent repW) % 2 ^ 64))) = true := by decide +kernel

def ent (n cls want : Nat) : Entrant := { n := n, r := (0, 0), cls := cls, weight := 1, want := want, held := none, grant := 0 }
theorem test_RefillCreatesNoCredit : ((fillClasses [ent 0 0 5, ent 1 1 7] 4 9).1.map (·.grant)) = [2, 7]
  ∧ (fillClasses [ent 0 0 5, ent 1 1 7] 4 9).2 = 0 := by decide +kernel

def ref0 : State := ((up.setf F.CRD_CTRL_EN 0 1).setf F.CRDSn_ROLE_ACTIVE_ROLE 511 1).setClick 511 { report := some (reportA 0 0 50 0 40 false false, reportB 0 0 0 0 0) }

theorem test_ClickerRefill_0 : (ref0.dieUp = true)
  ∧ (ref0.started = true)
  ∧ (ref0.crd.refilled < ref0.epoch + 1)
  ∧ (ref0.on F.CRD_CTRL_EN = true)
  ∧ (ref0.safe = false)
  ∧ okNext .clickerRefill ref0 (fun t => decide (t.crd.refilled = 1001) && decide ((t.click 511).report = none) && decide ((t.station 511).grants.length = 1) && decide ((t.station 510).grants = [])) = true
  ∧ (ref0.entrant 511 = true) := by decide +kernel

theorem test_ClickerRefill_1 : (((ref0.setf F.FLT_STATUS_SAFE 0 1)).dieUp = true)
  ∧ (((ref0.setf F.FLT_STATUS_SAFE 0 1)).started = true)
  ∧ (((ref0.setf F.FLT_STATUS_SAFE 0 1)).crd.refilled < ((ref0.setf F.FLT_STATUS_SAFE 0 1)).epoch + 1)
  ∧ (((ref0.setf F.FLT_STATUS_SAFE 0 1)).on F.CRD_CTRL_EN = true)
  ∧ (((ref0.setf F.FLT_STATUS_SAFE 0 1)).safe = true)
  ∧ okNext .clickerRefill ((ref0.setf F.FLT_STATUS_SAFE 0 1)) (fun t => decide (t.crd.refilled = 1001) && decide (t.crd.float = 0) && decide (t.on F.CRD_CTRL_FROZEN = true) && decide ((t.click 511).report = none) && decide ((t.station 511).grants.length = 1) && decide ((t.station 510).grants = [])) = true := by decide +kernel

theorem test_ClickerRefill_2 : (((ref0.setf F.CRD_CTRL_EN 0 0)).dieUp = true)
  ∧ (((ref0.setf F.CRD_CTRL_EN 0 0)).started = true)
  ∧ (((ref0.setf F.CRD_CTRL_EN 0 0)).crd.refilled < ((ref0.setf F.CRD_CTRL_EN 0 0)).epoch + 1)
  ∧ (((ref0.setf F.CRD_CTRL_EN 0 0)).on F.CRD_CTRL_EN = false)
  ∧ okNext .clickerRefill ((ref0.setf F.CRD_CTRL_EN 0 0)) (fun t => decide (t.crd.refilled = ((ref0.setf F.CRD_CTRL_EN 0 0)).epoch + 1) && decide (t.on F.CRD_CTRL_FROZEN = ((ref0.setf F.CRD_CTRL_EN 0 0)).safe)) = true := by decide +kernel

theorem test_ClickerRefill_3 : (({ ref0 with rst := { ref0.rst with die := true } }).dieUp = false)
  ∧ (({ ref0 with rst := { ref0.rst with die := true } }).started = true)
  ∧ (({ ref0 with rst := { ref0.rst with die := true } }).crd.refilled < ({ ref0 with rst := { ref0.rst with die := true } }).epoch + 1)
  ∧ okNext .clickerRefill ({ ref0 with rst := { ref0.rst with die := true } }) (fun t => decide (t.crd.refilled = ({ ref0 with rst := { ref0.rst with die := true } }).epoch + 1)) = true := by decide +kernel

theorem test_ClickerRefill_4 : (({ up with crd := { up.crd with refilled := 1001 } }).crd.refilled = ({ up with crd := { up.crd with refilled := 1001 } }).epoch + 1)
  ∧ okNext .clickerRefill ({ up with crd := { up.crd with refilled := 1001 } }) (fun t => decide (t = ({ up with crd := { up.crd with refilled := 1001 } }))) = true := by decide +kernel

def grW : Word64 := BitVec.ofNat 64 (40 * 2 ^ 48 + 30)

def gr0 : State := ((up.setStation 511 { grants := [grW, 5], reported := true }).setf F.CRDSn_CFG_CAP 511 4).setBucket 511 0 63

theorem test_GrantsReachStations_0 : ((gr0.station 511).grants = grW :: ([5]))
  ∧ (gr0.coreUp 511 = true)
  ∧ (gr0.seamFree 1 2 511 = true)
  ∧ (grW.toNat / 2 ^ 54 % 256 = gr0.roleEpoch 511)
  ∧ (grW.toNat / 2 ^ 48 % 64 = gr0.epoch % 64)
  ∧ ((gr0.station 511).reported = true)
  ∧ ((gr0.station 511).split = false)
  ∧ (0 < grW.toNat % 65536 + grW.toNat / 65536 % 65536)
  ∧ okNext (.grantReceive 511) gr0 (fun t => decide ((t.station 511).grants = ([5])) && decide (t.bucket 511 0 = min (gr0.bucket 511 0 + (grW.toNat % 65536 + grW.toNat / 65536 % 65536)) (gr0.cap 511)) && decide ((t.station 511).toReturn = (gr0.station 511).toReturn + (gr0.bucket 511 0 + (grW.toNat % 65536 + grW.toNat / 65536 % 65536) - gr0.cap 511))) = true := by decide +kernel

def grS : Word64 := BitVec.ofNat 64 (40 * 2 ^ 48 + 30 * 65536 + 20)

def gr2 : State := ((up.setStation 511 { grants := [grS], reported := true, split := true }).setf F.CRDSn_CFG_CAP 511 4).setBucket 511 0 31

theorem test_GrantsReachStations_1 : ((gr2.station 511).grants = grS :: ([]))
  ∧ (gr2.coreUp 511 = true)
  ∧ (gr2.seamFree 1 2 511 = true)
  ∧ (grS.toNat / 2 ^ 54 % 256 = gr2.roleEpoch 511)
  ∧ (grS.toNat / 2 ^ 48 % 64 = gr2.epoch % 64)
  ∧ ((gr2.station 511).reported = true)
  ∧ ((gr2.station 511).split = true)
  ∧ (0 < grS.toNat % 65536)
  ∧ (0 < grS.toNat / 65536 % 65536)
  ∧ okNext (.grantReceive 511) gr2 (fun t => decide ((t.station 511).grants = ([])) && decide (t.bucket 511 0 = min (gr2.bucket 511 0 + grS.toNat % 65536) (gr2.cap 511 / 2)) && decide (t.bucket 511 1 = min (gr2.bucket 511 1 + grS.toNat / 65536 % 65536) (gr2.cap 511 / 2)) && decide ((t.station 511).toReturn = (gr2.station 511).toReturn + (gr2.bucket 511 0 + grS.toNat % 65536 - gr2.cap 511 / 2) + (gr2.bucket 511 1 + grS.toNat / 65536 % 65536 - gr2.cap 511 / 2))) = true := by decide +kernel

def grZ : Word64 := BitVec.ofNat 64 (40 * 2 ^ 48)

theorem test_GrantsReachStations_2 : ((((up.setStation 511 { grants := [grZ], reported := true })).station 511).grants = grZ :: ([]))
  ∧ (((up.setStation 511 { grants := [grZ], reported := true })).coreUp 511 = true)
  ∧ (((up.setStation 511 { grants := [grZ], reported := true })).seamFree 1 2 511 = true)
  ∧ (grZ.toNat / 2 ^ 54 % 256 = ((up.setStation 511 { grants := [grZ], reported := true })).roleEpoch 511)
  ∧ (grZ.toNat / 2 ^ 48 % 64 = ((up.setStation 511 { grants := [grZ], reported := true })).epoch % 64)
  ∧ ((((up.setStation 511 { grants := [grZ], reported := true })).station 511).reported = true)
  ∧ (grZ.toNat % 65536 = 0)
  ∧ (grZ.toNat / 65536 % 65536 = 0)
  ∧ okNext (.grantReceive 511) ((up.setStation 511 { grants := [grZ], reported := true })) (fun t => decide ((t.station 511).grants = ([])) && decide (t.bucket 511 0 = ((up.setStation 511 { grants := [grZ], reported := true })).bucket 511 0) && decide (t.bucket 511 1 = ((up.setStation 511 { grants := [grZ], reported := true })).bucket 511 1) && decide ((t.station 511).toReturn = (((up.setStation 511 { grants := [grZ], reported := true })).station 511).toReturn)) = true := by decide +kernel

def gr1 : State := ((up.setStation 511 { grants := [grW], reported := false, toReturn := 1 }).setf F.CRDSn_CFG_CAP 511 4).setBucket 511 0 63

theorem test_GrantsReachStations_3 : ((gr1.station 511).grants = grW :: ([]))
  ∧ (gr1.coreUp 511 = true)
  ∧ (gr1.seamFree 1 2 511 = true)
  ∧ (grW.toNat / 2 ^ 54 % 256 ≠ gr1.roleEpoch 511 ∨ grW.toNat / 2 ^ 48 % 64 ≠ gr1.epoch % 64 ∨ (gr1.station 511).reported = false)
  ∧ okNext (.grantReceive 511) gr1 (fun t => decide ((t.station 511).grants = ([])) && decide (t.bucket 511 0 = gr1.bucket 511 0) && decide (t.bucket 511 1 = gr1.bucket 511 1) && decide ((t.station 511).stale = true) && decide ((t.station 511).toReturn = (gr1.station 511).toReturn + (grW.toNat % 65536 + grW.toNat / 65536 % 65536)) && decide (t.f F.CRD_STALE_COUNT_GRANT = (gr1.f F.CRD_STALE_COUNT_GRANT + 1) % 65536)) = true := by decide +kernel

theorem test_RampTokens_0 : (31 < Config.clusterCount)
  ∧ (up.dieUp = true)
  ∧ (up.started = true)
  ∧ ((up.cluster 31).forWindow < up.window + 2)
  ∧ okNext (.rampAllowanceCompute 31) up (fun t => decide ((t.cluster 31).words = (up.cluster 31).words ++ [rampWord ((up.window + 1) % 256) (up.paceAfter 31 (up.allowance 31)).1 (up.allowance 31)]) && decide ((t.cluster 31).pace = (up.paceAfter 31 (up.allowance 31)).1) && decide ((t.cluster 31).paceRun = (up.paceAfter 31 (up.allowance 31)).2) && decide ((t.cluster 31).forWindow = up.window + 2) && decide ((t.cluster 31).pool = (up.cluster 31).pool)) = true := by decide +kernel

theorem test_RampTokens_1 : (((up.setCluster 31 { forWindow := 10002 })).window + 2 ≤ (((up.setCluster 31 { forWindow := 10002 })).cluster 31).forWindow)
  ∧ okNext (.rampAllowanceCompute 31) ((up.setCluster 31 { forWindow := 10002 })) (fun t => decide (t = ((up.setCluster 31 { forWindow := 10002 })))) = true := by decide +kernel

def rwNow : Word64 := rampWord (10000 % 256) 0 500
def rwOld : Word64 := rampWord (9999 % 256) 0 500

theorem test_RampTokens_2 : ((((up.setCluster 31 { words := [rwNow, rwOld] })).cluster 31).words = rwNow :: ([rwOld]))
  ∧ (31 < Config.clusterCount)
  ∧ (((up.setCluster 31 { words := [rwNow, rwOld] })).dieUp = true)
  ∧ (((up.setCluster 31 { words := [rwNow, rwOld] })).seamFree 1 2 (0x400 + 31) = true)
  ∧ okNext (.rampAllowanceReceive 31) ((up.setCluster 31 { words := [rwNow, rwOld] })) (fun t => decide ((t.cluster 31).words = ([rwOld])) && decide ((rwNow.toNat / 2 ^ 48 % 256 = ((up.setCluster 31 { words := [rwNow, rwOld] })).window % 256 → (t.cluster 31).pool = rwNow.toNat % 65536 ∧ t.f F.CRDCc_STATUS_ALLOW 31 = rwNow.toNat % 65536 ∧ t.f F.CRDCc_STATUS_PACE_EFF 31 = rwNow.toNat / 2 ^ 18 % 4 ∧ (t.cluster 31).next = (((up.setCluster 31 { words := [rwNow, rwOld] })).cluster 31).next)) && decide ((rwNow.toNat / 2 ^ 48 % 256 ≠ ((up.setCluster 31 { words := [rwNow, rwOld] })).window % 256 → (t.cluster 31).pool = (((up.setCluster 31 { words := [rwNow, rwOld] })).cluster 31).pool ∧ t.regs = ((up.setCluster 31 { words := [rwNow, rwOld] })).regs ∧ (t.cluster 31).next = (if rwNow.toNat / 2 ^ 48 % 256 = (((up.setCluster 31 { words := [rwNow, rwOld] })).window + 1) % 256 then some (rwNow.toNat / 2 ^ 48 % 256, rwNow.toNat % 65536, rwNow.toNat / 2 ^ 18 % 4) else (((up.setCluster 31 { words := [rwNow, rwOld] })).cluster 31).next)))) = true := by decide +kernel

theorem test_RampTokens_2_late : ((((up.setCluster 31 { words := [rwOld], pool := 9 })).cluster 31).words = rwOld :: ([]))
  ∧ (31 < Config.clusterCount)
  ∧ (((up.setCluster 31 { words := [rwOld], pool := 9 })).dieUp = true)
  ∧ (((up.setCluster 31 { words := [rwOld], pool := 9 })).seamFree 1 2 (0x400 + 31) = true)
  ∧ okNext (.rampAllowanceReceive 31) ((up.setCluster 31 { words := [rwOld], pool := 9 })) (fun t => decide ((t.cluster 31).words = ([])) && decide ((rwOld.toNat / 2 ^ 48 % 256 = ((up.setCluster 31 { words := [rwOld], pool := 9 })).window % 256 → (t.cluster 31).pool = rwOld.toNat % 65536 ∧ t.f F.CRDCc_STATUS_ALLOW 31 = rwOld.toNat % 65536 ∧ t.f F.CRDCc_STATUS_PACE_EFF 31 = rwOld.toNat / 2 ^ 18 % 4 ∧ (t.cluster 31).next = (((up.setCluster 31 { words := [rwOld], pool := 9 })).cluster 31).next)) && decide ((rwOld.toNat / 2 ^ 48 % 256 ≠ ((up.setCluster 31 { words := [rwOld], pool := 9 })).window % 256 → (t.cluster 31).pool = (((up.setCluster 31 { words := [rwOld], pool := 9 })).cluster 31).pool ∧ t.regs = ((up.setCluster 31 { words := [rwOld], pool := 9 })).regs ∧ (t.cluster 31).next = (if rwOld.toNat / 2 ^ 48 % 256 = (((up.setCluster 31 { words := [rwOld], pool := 9 })).window + 1) % 256 then some (rwOld.toNat / 2 ^ 48 % 256, rwOld.toNat % 65536, rwOld.toNat / 2 ^ 18 % 4) else (((up.setCluster 31 { words := [rwOld], pool := 9 })).cluster 31).next)))) = true := by decide +kernel

theorem test_RampTokens_3 : (31 < Config.clusterCount)
  ∧ (((up.setCluster 31 { next := some (10000 % 256, 77, 0) })).dieUp = true)
  ∧ (((up.setCluster 31 { next := some (10000 % 256, 77, 0) })).due 2 31 100 0 = true)
  ∧ okNext (.rampWindowStart 31) ((up.setCluster 31 { next := some (10000 % 256, 77, 0) })) (fun t => decide ((t.cluster 31).next = none) && decide ((t.cluster 31).words = (((up.setCluster 31 { next := some (10000 % 256, 77, 0) })).cluster 31).words)) = true
  ∧ (okNext (.rampWindowStart 31) (up.setCluster 31 { next := some (10000 % 256, 77, 2) }) (fun t => (t.cluster 31).pool == 77 && t.f F.CRDCc_STATUS_PACE_EFF 31 == 2) = true) := by decide +kernel

theorem test_RampTokens_4 : (((up.serve 2 31)).due 2 31 100 0 = false)
  ∧ okNext (.rampWindowStart 31) ((up.serve 2 31)) (fun t => decide (t = ((up.serve 2 31)))) = true := by decide +kernel

theorem test_ToeCapClamp_0 : (((up.setf F.CRD_CLAMP_FORCE 0 1)).clampCause 5 0 = true)
  ∧ okNext (.clampSourceAssert 5 0) ((up.setf F.CRD_CLAMP_FORCE 0 1)) (fun t => decide (t.clamped = true) && decide (t.clampSrc 5 0 = true) && decide (t.crd.clampOff = none) && decide (t.bitf ⟨R.CRD_CLAMP_STATUS, 0, 6⟩ 0 5 = true) && decide ((((up.setf F.CRD_CLAMP_FORCE 0 1)).clamped = false → t.rd R.CRD_CLAMP_COUNT = ((up.setf F.CRD_CLAMP_FORCE 0 1)).rd R.CRD_CLAMP_COUNT + 1))) = true := by decide +kernel

theorem test_ToeCapClamp_1 : (up.clampCause 5 0 = false)
  ∧ okNext (.clampSourceAssert 5 0) up (fun t => decide (t = up)) = true := by decide +kernel

def cl0 : State := { (up.clampOn 0 0) with crd := { (up.clampOn 0 0).crd with clampReq := [], clampOff := some 0 } }

theorem test_ToeCapClamp_2 : (cl0.crd.clampOff = some ((0 : Word64)))
  ∧ (cl0.clamped = true)
  ∧ (cl0.clampAny = false)
  ∧ (cl0.passed ((0 : Word64)) (cl0.f F.CRD_CLAMP_HOLD_US * 1000) = true)
  ∧ okNext .clampRelease cl0 (fun t => decide (t.clamped = false) && decide (t.crd.clampOff = none)) = true := by decide +kernel

def cl1 : State := { up with crd := { up.crd with clampReq := [(0, true)], clampOff := none } }

theorem test_ToeCapClamp_3 : okNext .clampRelease cl1 (fun t => decide (t = cl1)) = true
  ∧ (cl1.clampAny = true) := by decide +kernel

theorem test_ToeCapClamp_4 : (up.portTakes R.CRD_CLAMP 0 = true)
  ∧ (((0x80000000 : Word)).getLsbD 31 = true)
  ∧ okNext (.clampForceWrite true ((0x80000000 : Word))) up (fun t => decide (t.clampSrc 5 0 = true) && decide ((up.clampSrc 5 0 = false → t.clamped = true)) && decide (t.rsp.err = false)) = true := by decide +kernel

theorem test_ToeCapClamp_5 : (((up.clampOn 5 0)).portTakes R.CRD_CLAMP 0 = true)
  ∧ (((0 : Word)).getLsbD 31 = false)
  ∧ okNext (.clampForceWrite true ((0 : Word))) ((up.clampOn 5 0)) (fun t => decide (t.clampSrc 5 0 = false) && decide (t.clamped = ((up.clampOn 5 0)).clamped) && decide (t.rsp.err = false)) = true := by decide +kernel

theorem test_PartitionsAndRoles_0 : (up.coreUp 511 = true)
  ∧ (1 < 2)
  ∧ okNext (.partitionFault 511 1) up (fun t => decide (t.frozen 511 1 = true) && decide (rep t 0x41 511) && decide (t.bucket 511 0 = up.bucket 511 0) && decide (t.bucket 511 1 = up.bucket 511 1) && decide (t.frozen 511 (1 - 1) = up.frozen 511 (1 - 1))) = true := by decide +kernel

def fz : State := ((up.setb F.CRDSn_STATUS_PART0_FROZEN 511 true).setBucket 511 0 77).setBucket 511 1 3

theorem test_PartitionsAndRoles_1 : (fz.portTakes R.CRDSn_STATUS 511 = true)
  ∧ (((0x10 : Word)).getLsbD 4 = true)
  ∧ (((0x10 : Word)).getLsbD 5 = false)
  ∧ (2 % 2 = 0)
  ∧ (fz.frozen 511 0 = true)
  ∧ okNext (.partitionReadmit true 511 2 ((0x10 : Word))) fz (fun t => decide (t.frozen 511 0 = false) && decide (t.bucket 511 0 = 0) && decide ((t.station 511).toReturn = (fz.station 511).toReturn + fz.bucket 511 0) && decide (t.frozen 511 1 = fz.frozen 511 1) && decide (t.bucket 511 1 = fz.bucket 511 1) && decide (t.rsp.err = false)) = true := by decide +kernel

theorem test_PartitionsAndRoles_2 : (fz.portTakes R.CRDSn_STATUS 511 = true)
  ∧ (((0x10 : Word)).getLsbD 4 = true)
  ∧ (((0x10 : Word)).getLsbD 5 = false)
  ∧ (1 % 2 = 1)
  ∧ okNext (.partitionReadmit true 511 1 ((0x10 : Word))) fz (fun t => decide (t.frozen 511 0 = fz.frozen 511 0) && decide (t.bucket 511 0 = fz.bucket 511 0)) = true := by decide +kernel

theorem test_PartitionsAndRoles_3 : (up.portTakes R.CRDSn_ROLE 511 = true)
  ∧ (up.on F.CRDSn_ROLE_PENDING 511 = false)
  ∧ (getBits ((0x003F0200 : Word)) 8 2 ≠ up.f F.CRDSn_ROLE_ACTIVE_ROLE 511)
  ∧ ((up.station 511).roleChanged = false)
  ∧ okNext (.roleWrite true 511 ((0x003F0200 : Word))) up (fun t => decide (t.f F.CRDSn_ROLE_ACTIVE_ROLE 511 = getBits ((0x003F0200 : Word)) 8 2) && decide (t.roleEpoch 511 = (up.roleEpoch 511 + 1) % 256) && decide ((t.station 511).roleChanged = true) && decide (t.f F.CRDSn_ROLE_JOB 511 = getBits ((0x003F0200 : Word)) 16 6)) = true := by decide +kernel

theorem test_PartitionsAndRoles_4 : (((up.setStation 511 { roleChanged := true })).portTakes R.CRDSn_ROLE 511 = true)
  ∧ (((up.setStation 511 { roleChanged := true })).on F.CRDSn_ROLE_PENDING 511 = false)
  ∧ (getBits ((0x003F0300 : Word)) 8 2 ≠ ((up.setStation 511 { roleChanged := true })).f F.CRDSn_ROLE_ACTIVE_ROLE 511)
  ∧ ((((up.setStation 511 { roleChanged := true })).station 511).roleChanged = true)
  ∧ okNext (.roleWrite true 511 ((0x003F0300 : Word))) ((up.setStation 511 { roleChanged := true })) (fun t => decide (t.f F.CRDSn_ROLE_ACTIVE_ROLE 511 = ((up.setStation 511 { roleChanged := true })).f F.CRDSn_ROLE_ACTIVE_ROLE 511) && decide (t.roleEpoch 511 = ((up.setStation 511 { roleChanged := true })).roleEpoch 511) && decide (t.on F.CRDSn_ROLE_PENDING 511 = true) && decide ((t.station 511).pendRole = getBits ((0x003F0300 : Word)) 8 2)) = true := by decide +kernel

def um (code body epoch : Nat) : Word64 := BitVec.ofNat 64 (2 * 2 ^ 62 + epoch * 2 ^ 54 + code * 2 ^ 48 + body)

theorem test_UnitMessagesMetersAndCosts_0 : (up.coreUp 511 = true)
  ∧ (up.seamFree 5 2 511 = true)
  ∧ (up.sag = false)
  ∧ (((um 3 0 1)).toNat / 2 ^ 62 = 2)
  ∧ (((um 3 0 1)).toNat / 2 ^ 54 % 256 ≠ up.roleEpoch 511)
  ∧ okNext (.unitMessage ⟨511, ((0 : Nat))⟩ ((um 3 0 1))) up (fun t => decide (t.rd R.CRDSn_CFG 511 = up.rd R.CRDSn_CFG 511) && decide (t.rd R.CRDSn_ROLE 511 = up.rd R.CRDSn_ROLE 511) && decide ((t.station 511).staleNote = some (((um 3 0 1)).toNat / 2 ^ 48 % 64, up.roleEpoch 511)) && decide (t.f F.CRD_STALE_COUNT_MSG = (up.f F.CRD_STALE_COUNT_MSG + 1) % 65536)) = true := by decide +kernel

theorem test_UnitMessagesMetersAndCosts_1_1 : (up.coreUp 511 = true)
  ∧ (up.seamFree 5 2 511 = true)
  ∧ (up.sag = false)
  ∧ (((um 1 255 0)).toNat / 2 ^ 62 = 2)
  ∧ (((um 1 255 0)).toNat / 2 ^ 54 % 256 = up.roleEpoch 511)
  ∧ okNext (.unitMessage ⟨511, ((0 : Nat))⟩ ((um 1 255 0))) up (fun t => decide ((((um 1 255 0)).toNat / 2 ^ 48 % 64 = 1 → t.f F.CRDSn_CFG_PRIO 511 = ((um 1 255 0)).toNat / 4 % 4 ∧ t.f F.CRDSn_CFG_WEIGHT 511 = ((um 1 255 0)).toNat / 16 % 16)) && decide ((((um 1 255 0)).toNat / 2 ^ 48 % 64 = 2 → t.f F.CRDSn_ROLE_JOB 511 = ((um 1 255 0)).toNat / 65536 % 64)) && decide ((((um 1 255 0)).toNat / 2 ^ 48 % 64 = 3 → t.f F.CRDSn_CFG_CAP 511 = ((um 1 255 0)).toNat / 2 ^ 20 % 4096)) && decide ((((um 1 255 0)).toNat / 2 ^ 48 % 64 = 4 → up.frozen 511 (((um 1 255 0)).toNat % 2) = true → ((0 : Nat)).testBit (((um 1 255 0)).toNat % 2) = false → t.frozen 511 (((um 1 255 0)).toNat % 2) = false ∧ t.bucket 511 (((um 1 255 0)).toNat % 2) = 0 ∧ (t.station 511).toReturn = (up.station 511).toReturn + up.bucket 511 (((um 1 255 0)).toNat % 2))) && decide (t.f F.CRD_STALE_COUNT_MSG = up.f F.CRD_STALE_COUNT_MSG)) = true := by decide +kernel

theorem test_UnitMessagesMetersAndCosts_1_2 : (up.coreUp 511 = true)
  ∧ (up.seamFree 5 2 511 = true)
  ∧ (up.sag = false)
  ∧ (((um 2 4128768 0)).toNat / 2 ^ 62 = 2)
  ∧ (((um 2 4128768 0)).toNat / 2 ^ 54 % 256 = up.roleEpoch 511)
  ∧ okNext (.unitMessage ⟨511, ((0 : Nat))⟩ ((um 2 4128768 0))) up (fun t => decide ((((um 2 4128768 0)).toNat / 2 ^ 48 % 64 = 1 → t.f F.CRDSn_CFG_PRIO 511 = ((um 2 4128768 0)).toNat / 4 % 4 ∧ t.f F.CRDSn_CFG_WEIGHT 511 = ((um 2 4128768 0)).toNat / 16 % 16)) && decide ((((um 2 4128768 0)).toNat / 2 ^ 48 % 64 = 2 → t.f F.CRDSn_ROLE_JOB 511 = ((um 2 4128768 0)).toNat / 65536 % 64)) && decide ((((um 2 4128768 0)).toNat / 2 ^ 48 % 64 = 3 → t.f F.CRDSn_CFG_CAP 511 = ((um 2 4128768 0)).toNat / 2 ^ 20 % 4096)) && decide ((((um 2 4128768 0)).toNat / 2 ^ 48 % 64 = 4 → up.frozen 511 (((um 2 4128768 0)).toNat % 2) = true → ((0 : Nat)).testBit (((um 2 4128768 0)).toNat % 2) = false → t.frozen 511 (((um 2 4128768 0)).toNat % 2) = false ∧ t.bucket 511 (((um 2 4128768 0)).toNat % 2) = 0 ∧ (t.station 511).toReturn = (up.station 511).toReturn + up.bucket 511 (((um 2 4128768 0)).toNat % 2))) && decide (t.f F.CRD_STALE_COUNT_MSG = up.f F.CRD_STALE_COUNT_MSG)) = true := by decide +kernel

theorem test_UnitMessagesMetersAndCosts_1_3 : (up.coreUp 511 = true)
  ∧ (up.seamFree 5 2 511 = true)
  ∧ (up.sag = false)
  ∧ (((um 3 4293918720 0)).toNat / 2 ^ 62 = 2)
  ∧ (((um 3 4293918720 0)).toNat / 2 ^ 54 % 256 = up.roleEpoch 511)
  ∧ okNext (.unitMessage ⟨511, ((0 : Nat))⟩ ((um 3 4293918720 0))) up (fun t => decide ((((um 3 4293918720 0)).toNat / 2 ^ 48 % 64 = 1 → t.f F.CRDSn_CFG_PRIO 511 = ((um 3 4293918720 0)).toNat / 4 % 4 ∧ t.f F.CRDSn_CFG_WEIGHT 511 = ((um 3 4293918720 0)).toNat / 16 % 16)) && decide ((((um 3 4293918720 0)).toNat / 2 ^ 48 % 64 = 2 → t.f F.CRDSn_ROLE_JOB 511 = ((um 3 4293918720 0)).toNat / 65536 % 64)) && decide ((((um 3 4293918720 0)).toNat / 2 ^ 48 % 64 = 3 → t.f F.CRDSn_CFG_CAP 511 = ((um 3 4293918720 0)).toNat / 2 ^ 20 % 4096)) && decide ((((um 3 4293918720 0)).toNat / 2 ^ 48 % 64 = 4 → up.frozen 511 (((um 3 4293918720 0)).toNat % 2) = true → ((0 : Nat)).testBit (((um 3 4293918720 0)).toNat % 2) = false → t.frozen 511 (((um 3 4293918720 0)).toNat % 2) = false ∧ t.bucket 511 (((um 3 4293918720 0)).toNat % 2) = 0 ∧ (t.station 511).toReturn = (up.station 511).toReturn + up.bucket 511 (((um 3 4293918720 0)).toNat % 2))) && decide (t.f F.CRD_STALE_COUNT_MSG = up.f F.CRD_STALE_COUNT_MSG)) = true := by decide +kernel

theorem test_UnitMessagesMetersAndCosts_1_4 : (fz.coreUp 511 = true)
  ∧ (fz.seamFree 5 2 511 = true)
  ∧ (fz.sag = false)
  ∧ (((um 4 0 0)).toNat / 2 ^ 62 = 2)
  ∧ (((um 4 0 0)).toNat / 2 ^ 54 % 256 = fz.roleEpoch 511)
  ∧ okNext (.unitMessage ⟨511, ((2 : Nat))⟩ ((um 4 0 0))) fz (fun t => decide ((((um 4 0 0)).toNat / 2 ^ 48 % 64 = 1 → t.f F.CRDSn_CFG_PRIO 511 = ((um 4 0 0)).toNat / 4 % 4 ∧ t.f F.CRDSn_CFG_WEIGHT 511 = ((um 4 0 0)).toNat / 16 % 16)) && decide ((((um 4 0 0)).toNat / 2 ^ 48 % 64 = 2 → t.f F.CRDSn_ROLE_JOB 511 = ((um 4 0 0)).toNat / 65536 % 64)) && decide ((((um 4 0 0)).toNat / 2 ^ 48 % 64 = 3 → t.f F.CRDSn_CFG_CAP 511 = ((um 4 0 0)).toNat / 2 ^ 20 % 4096)) && decide ((((um 4 0 0)).toNat / 2 ^ 48 % 64 = 4 → fz.frozen 511 (((um 4 0 0)).toNat % 2) = true → ((2 : Nat)).testBit (((um 4 0 0)).toNat % 2) = false → t.frozen 511 (((um 4 0 0)).toNat % 2) = false ∧ t.bucket 511 (((um 4 0 0)).toNat % 2) = 0 ∧ (t.station 511).toReturn = (fz.station 511).toReturn + fz.bucket 511 (((um 4 0 0)).toNat % 2))) && decide (t.f F.CRD_STALE_COUNT_MSG = fz.f F.CRD_STALE_COUNT_MSG)) = true := by decide +kernel

theorem test_UnitMessagesMetersAndCosts_2_0 : (up.coreUp 511 = true)
  ∧ (up.seamFree 5 2 511 = true)
  ∧ (up.sag = false)
  ∧ (((um 0 0 0)).toNat / 2 ^ 62 = 2)
  ∧ (5 < ((um 0 0 0)).toNat / 2 ^ 48 % 64 ∨ ((um 0 0 0)).toNat / 2 ^ 48 % 64 = 0)
  ∧ okNext (.unitMessage ⟨511, ((0 : Nat))⟩ ((um 0 0 0))) up (fun t => decide (rep t 0x47 511) && decide (t.rd R.CRDSn_CFG 511 = up.rd R.CRDSn_CFG 511) && decide (t.rd R.CRDSn_ROLE 511 = up.rd R.CRDSn_ROLE 511)) = true := by decide +kernel

theorem test_UnitMessagesMetersAndCosts_2_6 : (up.coreUp 511 = true)
  ∧ (up.seamFree 5 2 511 = true)
  ∧ (up.sag = false)
  ∧ (((um 6 0 0)).toNat / 2 ^ 62 = 2)
  ∧ (5 < ((um 6 0 0)).toNat / 2 ^ 48 % 64 ∨ ((um 6 0 0)).toNat / 2 ^ 48 % 64 = 0)
  ∧ okNext (.unitMessage ⟨511, ((0 : Nat))⟩ ((um 6 0 0))) up (fun t => decide (rep t 0x47 511) && decide (t.rd R.CRDSn_CFG 511 = up.rd R.CRDSn_CFG 511) && decide (t.rd R.CRDSn_ROLE 511 = up.rd R.CRDSn_ROLE 511)) = true := by decide +kernel

theorem test_UnitMessagesMetersAndCosts_2_63 : (up.coreUp 511 = true)
  ∧ (up.seamFree 5 2 511 = true)
  ∧ (up.sag = false)
  ∧ (((um 63 0 0)).toNat / 2 ^ 62 = 2)
  ∧ (5 < ((um 63 0 0)).toNat / 2 ^ 48 % 64 ∨ ((um 63 0 0)).toNat / 2 ^ 48 % 64 = 0)
  ∧ okNext (.unitMessage ⟨511, ((0 : Nat))⟩ ((um 63 0 0))) up (fun t => decide (rep t 0x47 511) && decide (t.rd R.CRDSn_CFG 511 = up.rd R.CRDSn_CFG 511) && decide (t.rd R.CRDSn_ROLE 511 = up.rd R.CRDSn_ROLE 511)) = true := by decide +kernel

theorem test_UnitMessagesMetersAndCosts_2_stale : (up.coreUp 511 = true)
  ∧ (up.seamFree 5 2 511 = true)
  ∧ (up.sag = false)
  ∧ (((um 6 0 1)).toNat / 2 ^ 62 = 2)
  ∧ (5 < ((um 6 0 1)).toNat / 2 ^ 48 % 64 ∨ ((um 6 0 1)).toNat / 2 ^ 48 % 64 = 0)
  ∧ okNext (.unitMessage ⟨511, ((0 : Nat))⟩ ((um 6 0 1))) up (fun t => decide (rep t 0x47 511) && decide (t.rd R.CRDSn_CFG 511 = up.rd R.CRDSn_CFG 511) && decide (t.rd R.CRDSn_ROLE 511 = up.rd R.CRDSn_ROLE 511)) = true := by decide +kernel

theorem test_UnitMessagesMetersAndCosts_3 : (up.coreUp 511 = true)
  ∧ (up.seamFree 5 2 511 = true)
  ∧ (up.sag = false)
  ∧ (((0xC000000000000000 : Word64)).toNat / 2 ^ 62 = 3)
  ∧ okNext (.unitMessage ⟨511, ((0 : Nat))⟩ ((0xC000000000000000 : Word64))) up (fun t => decide (rep t 0x47 511) && decide (t.rd R.CRDSn_CFG 511 = up.rd R.CRDSn_CFG 511) && decide (t.rd R.CRDSn_ROLE 511 = up.rd R.CRDSn_ROLE 511)) = true := by decide +kernel

def umSag : State := (up.setFw { up.eye.fw with unitCmds := [{ core := 511, slot := 3, word := (um 1 255 0).toNat }] }).setf F.FLT_STATUS_SAG_ACTIVE 0 1

theorem test_UnitMessagesMetersAndCosts_4 : (umSag.coreUp 511 = true)
  ∧ (umSag.seamFree 5 2 511 = true)
  ∧ (umSag.sag = true)
  ∧ (umSag.eye.fw.unitCmds.any (fun u => u.core = 511 ∧ u.word = ((um 1 255 0)).toNat) = true)
  ∧ okNext (.unitMessage ⟨511, ((0 : Nat))⟩ ((um 1 255 0))) umSag (fun t => decide (t.flt.heldOps = umSag.flt.heldOps ++ [.unitMsg 511 ((um 1 255 0)).toNat]) && decide (t.regs = umSag.regs)) = true := by decide +kernel

theorem test_UnitMessagesMetersAndCosts_5 : (up.portTakes R.JOBm_CTRL 63 = true)
  ∧ (((3 : Word)).getLsbD 1 = true)
  ∧ okNext (.jobClearWrite true 63 ((3 : Word))) up (fun t => decide (t.f F.JOBm_CTRL_STATUS 63 = 1) && decide (Tab.get 0 t.crd.jobClear 63 = up.epoch + 1) && decide (t.on F.JOBm_CTRL_EN 63 = ((3 : Word)).getLsbD 0) && decide (t.pair R.JOBm_EC_LO R.JOBm_EC_HI 63 = up.pair R.JOBm_EC_LO R.JOBm_EC_HI 63)) = true := by decide +kernel

theorem test_UnitMessagesMetersAndCosts_6 : (((((up.setf F.CRD_COST_ADDR_AUTOINC 0 1).setf F.CRD_COST_ADDR_SET 0 15).setf F.CRD_COST_ADDR_OPCLASS 0 7).setf F.CRD_COST_ADDR_FORMAT 0 15).portTakes R.CRD_COST_DATA 0 = true)
  ∧ okNext (.costDataWrite true ((0x01020304 : Word))) ((((up.setf F.CRD_COST_ADDR_AUTOINC 0 1).setf F.CRD_COST_ADDR_SET 0 15).setf F.CRD_COST_ADDR_OPCLASS 0 7).setf F.CRD_COST_ADDR_FORMAT 0 15) (fun t => decide (t.costEntry ((((up.setf F.CRD_COST_ADDR_AUTOINC 0 1).setf F.CRD_COST_ADDR_SET 0 15).setf F.CRD_COST_ADDR_OPCLASS 0 7).setf F.CRD_COST_ADDR_FORMAT 0 15).costIndex = ((0x01020304 : Word))) && decide (t.costIndex = (if ((((up.setf F.CRD_COST_ADDR_AUTOINC 0 1).setf F.CRD_COST_ADDR_SET 0 15).setf F.CRD_COST_ADDR_OPCLASS 0 7).setf F.CRD_COST_ADDR_FORMAT 0 15).on F.CRD_COST_ADDR_AUTOINC then (((((up.setf F.CRD_COST_ADDR_AUTOINC 0 1).setf F.CRD_COST_ADDR_SET 0 15).setf F.CRD_COST_ADDR_OPCLASS 0 7).setf F.CRD_COST_ADDR_FORMAT 0 15).costIndex + 1) % 2048 else ((((up.setf F.CRD_COST_ADDR_AUTOINC 0 1).setf F.CRD_COST_ADDR_SET 0 15).setf F.CRD_COST_ADDR_OPCLASS 0 7).setf F.CRD_COST_ADDR_FORMAT 0 15).costIndex))) = true := by decide +kernel

def weltOn : State := { up with welt := { up.welt with en := true } }

theorem test_ClusterVoltageReports_0 : (((up.setf F.WELT_CTRL_EN 0 1)).clusterUp 31 = true)
  ∧ (((up.setf F.WELT_CTRL_EN 0 1)).due 3 31 100 0 = true)
  ∧ okNext (.weltHeadroomReport 31 20000 15000 70000 0) ((up.setf F.WELT_CTRL_EN 0 1)) (fun t => decide (t.welt.en = ((up.setf F.WELT_CTRL_EN 0 1)).on F.WELT_CTRL_EN) && decide ((t.cluster 31).iout = min 70000 65535) && decide ((t.cluster 31).h = (if ((up.setf F.WELT_CTRL_EN 0 1)).on F.WELT_CTRL_EN then min ((20000 - 15000 - 0) / 16) 255 else 0)) && decide (t.f F.WELTc_STATUS_HEADROOM 31 = (t.cluster 31).h) && decide (t.f F.WELTc_POWER_IOUT 31 = min 70000 65535)) = true := by decide +kernel

theorem test_ClusterVoltageReports_0_off : (((up.setf F.WELT_CTRL_EN 0 0)).clusterUp 31 = true)
  ∧ (((up.setf F.WELT_CTRL_EN 0 0)).due 3 31 100 0 = true)
  ∧ okNext (.weltHeadroomReport 31 20000 15000 70000 0) ((up.setf F.WELT_CTRL_EN 0 0)) (fun t => decide (t.welt.en = ((up.setf F.WELT_CTRL_EN 0 0)).on F.WELT_CTRL_EN) && decide ((t.cluster 31).iout = min 70000 65535) && decide ((t.cluster 31).h = (if ((up.setf F.WELT_CTRL_EN 0 0)).on F.WELT_CTRL_EN then min ((20000 - 15000 - 0) / 16) 255 else 0)) && decide (t.f F.WELTc_STATUS_HEADROOM 31 = (t.cluster 31).h) && decide (t.f F.WELTc_POWER_IOUT 31 = min 70000 65535)) = true := by decide +kernel

def nd : NeedIn := { c := 31, voutSum := 8 * 12000, slackW := 0, slackM := 0, slackN := 0, iout := 5, drop := 0 }

theorem test_ClusterVoltageReports_1 : (up.dieUp = true)
  ∧ (up.due 4 0 1000 0 = true)
  ∧ okNext (.needUpdate ([nd, { nd with c := 0 }])) up (fun t => decide ((∀ i ∈ ([nd, { nd with c := 0 }]), i.c < Config.clusterCount → t.on F.WELTc_STATUS_NEED_VALID i.c = true)) && decide (t.welt.needSent = some (match t.needSetter with | none => 0 | some c => min (t.ceilNeed c + 4 * (t.f F.WELT_CTRL_HEADROOM_MV + t.f F.DRP_NUDGE_NUDGE)) 4095)) && decide (some (t.f F.WELT_RAIL_NEED_NEED) = t.welt.needSent) && decide (∀ c : Nat, c < Config.clusterCount → t.f F.WELTc_POWER_DISS c = up.dissOf ([nd, { nd with c := 0 }]) c)) = true := by decide +kernel

def ndHi : State := ((up.setf F.WELTc_STATUS_NEED_VALID 31 1).setf F.WELTc_NEED_WM_NEED_W 31 4095)

theorem test_ClusterVoltageReports_2 : (ndHi.dieUp = true)
  ∧ (ndHi.due 4 0 1000 0 = true)
  ∧ (nd.c < Config.clusterCount)
  ∧ (ndHi.on F.WELTc_STATUS_NEED_VALID nd.c = true)
  ∧ okNext (.needUpdate [nd]) ndHi (fun t => decide (t.needCode nd.c 2 = fallNeed (ndHi.needCode nd.c 2) (mvCode (needMv nd.voutSum (ndHi.f F.WELT_CLASS_SLACK_TGT) nd.slackW (ndHi.f F.WELT_SENS_SENS_W) (ndHi.f F.WELTc_GUARD_GUARD_W nd.c)))) && decide (ndHi.needCode nd.c 2 ≤ t.needCode nd.c 2 + 4)) = true := by decide +kernel

theorem test_ClusterVoltageReports_3 : (((up.setf F.RAILr_SETPT_SETPT 0 12000)).dieUp = true)
  ∧ (((up.setf F.RAILr_SETPT_SETPT 0 12000)).due 4 0 1000 0 = true)
  ∧ (nd.c < Config.clusterCount)
  ∧ (((up.setf F.RAILr_SETPT_SETPT 0 12000)).on F.WELTc_STATUS_NEED_VALID nd.c = false)
  ∧ okNext (.needUpdate [nd]) ((up.setf F.RAILr_SETPT_SETPT 0 12000)) (fun t => decide (t.needCode nd.c 2 = fallNeed (mvCode (divUp (((up.setf F.RAILr_SETPT_SETPT 0 12000)).f F.RAILr_SETPT_SETPT) 16)) (mvCode (needMv nd.voutSum (((up.setf F.RAILr_SETPT_SETPT 0 12000)).f F.WELT_CLASS_SLACK_TGT) nd.slackW (((up.setf F.RAILr_SETPT_SETPT 0 12000)).f F.WELT_SENS_SENS_W) (((up.setf F.RAILr_SETPT_SETPT 0 12000)).f F.WELTc_GUARD_GUARD_W nd.c))))) = true := by decide +kernel

def tkW : Token := { raw := 0, cost := 5 }

def cu0 : State := weltOn.setStation 511 { queue := [tkW] }

theorem test_WidthClasses_0 : (cu0.head 511 = some tkW)
  ∧ (cu0.coreUp 511 = true)
  ∧ (max (cu0.clsNow (clusterOf 511)) ((cu0.weltC (clusterOf 511)).reqClass.getD 0) < tkW.cls)
  ∧ okNext (.classUpRequest 511) cu0 (fun t => decide (t.clsNow (clusterOf 511) = tkW.cls) && decide (tkW.cls ≤ t.f F.WELTc_STATUS_CEIL_EFF (clusterOf 511)) && decide (t.station 511 = cu0.station 511) && decide ((t.classReady (clusterOf 511) tkW.cls = false → (t.weltC (clusterOf 511)).reqClass = some tkW.cls ∧ t.on F.CRDSn_STATUS_CLASS_WAIT 511 = true ∧ t.on F.WELTc_STATUS_RISING (clusterOf 511) = true ∧ (t.weltC (clusterOf 511)).tripClass = (cu0.weltC (clusterOf 511)).tripClass)) && decide ((t.classReady (clusterOf 511) tkW.cls = true → (t.weltC (clusterOf 511)).reqClass = none ∧ t.on F.CRDSn_STATUS_CLASS_WAIT 511 = false ∧ t.on F.WELTc_STATUS_RISING (clusterOf 511) = false ∧ (t.weltC (clusterOf 511)).tripClass = tkW.cls))) = true
  ∧ (tkW.cls = 2) := by decide +kernel

theorem test_WidthClasses_0_en0 : (((up.setStation 511 { queue := [tkW] })).head 511 = some tkW)
  ∧ (((up.setStation 511 { queue := [tkW] })).coreUp 511 = true)
  ∧ (max (((up.setStation 511 { queue := [tkW] })).clsNow (clusterOf 511)) ((((up.setStation 511 { queue := [tkW] })).weltC (clusterOf 511)).reqClass.getD 0) < tkW.cls)
  ∧ okNext (.classUpRequest 511) ((up.setStation 511 { queue := [tkW] })) (fun t => decide (t.clsNow (clusterOf 511) = tkW.cls) && decide (tkW.cls ≤ t.f F.WELTc_STATUS_CEIL_EFF (clusterOf 511)) && decide (t.station 511 = ((up.setStation 511 { queue := [tkW] })).station 511) && decide ((t.classReady (clusterOf 511) tkW.cls = false → (t.weltC (clusterOf 511)).reqClass = some tkW.cls ∧ t.on F.CRDSn_STATUS_CLASS_WAIT 511 = true ∧ t.on F.WELTc_STATUS_RISING (clusterOf 511) = true ∧ (t.weltC (clusterOf 511)).tripClass = (((up.setStation 511 { queue := [tkW] })).weltC (clusterOf 511)).tripClass)) && decide ((t.classReady (clusterOf 511) tkW.cls = true → (t.weltC (clusterOf 511)).reqClass = none ∧ t.on F.CRDSn_STATUS_CLASS_WAIT 511 = false ∧ t.on F.WELTc_STATUS_RISING (clusterOf 511) = false ∧ (t.weltC (clusterOf 511)).tripClass = tkW.cls))) = true := by decide +kernel

def cr1 : State := (((weltOn.setWelt 31 { reqClass := some 2 }).setf F.WELTc_STATUS_NEED_VALID 31 1).setf F.WELTc_NEED_WM_NEED_W 31 1600).setf F.WELTc_STATUS_CLASS 31 2

theorem test_WidthClasses_1 : (cr1.clusterUp 31 = true)
  ∧ ((cr1.weltC 31).reqClass = some 2)
  ∧ (cr1.welt.en = false ∨ (2 ≤ cr1.clsNow 31 ∧ cr1.need16 31 2 ≤ 11136 + 64))
  ∧ okNext (.classReady 31 11136) cr1 (fun t => decide ((t.weltC 31).vout = 11136) && decide ((t.weltC 31).reqClass = none) && decide ((t.weltC 31).tripClass = 2) && decide (t.on F.WELTc_STATUS_RISING 31 = false)) = true
  ∧ (cr1.need16 31 2 = 11200) := by decide +kernel

theorem test_WidthClasses_2 : ((((cr1.setStation 511 { queue := [tkW] }).setf F.CRDSn_STATUS_CLASS_WAIT 511 1)).clusterUp 31 = true)
  ∧ (clusterOf 511 = 31)
  ∧ ((((cr1.setStation 511 { queue := [tkW] }).setf F.CRDSn_STATUS_CLASS_WAIT 511 1)).head 511 = some tkW)
  ∧ okNext (.classReady 31 11136) (((cr1.setStation 511 { queue := [tkW] }).setf F.CRDSn_STATUS_CLASS_WAIT 511 1)) (fun t => decide (t.classReady 31 tkW.cls = true → t.on F.CRDSn_STATUS_CLASS_WAIT 511 = false)) = true
  ∧ (okNext (.classReady 31 11136) ((cr1.setStation 511 { queue := [tkW] }).setf F.CRDSn_STATUS_CLASS_WAIT 511 1) (fun t => t.classReady 31 2) = true) := by decide +kernel

theorem test_WidthClasses_3 : (cr1.welt.en = true)
  ∧ ((cr1.weltC 31).reqClass = some 2)
  ∧ (11135 + 64 < cr1.need16 31 2)
  ∧ okNext (.classReady 31 11135) cr1 (fun t => decide ((t.weltC 31).reqClass = some 2) && decide ((t.weltC 31).tripClass = (cr1.weltC 31).tripClass) && decide (t.on F.WELTc_STATUS_RISING 31 = cr1.on F.WELTc_STATUS_RISING 31)) = true := by decide +kernel

def ce0 : State := weltOn.setf F.WELTc_STATUS_CLASS 31 2

theorem test_WidthClasses_4 : (ce0.clusterUp 31 = true)
  ∧ ((ce0.weltC 31).reqClass = none)
  ∧ (ce0.classOf 31 < ce0.clsNow 31)
  ∧ okNext (.classExpire 31) ce0 (fun t => decide (t.clsNow 31 = ce0.classOf 31) && decide ((t.weltC 31).tripClass = ce0.classOf 31)) = true := by decide +kernel

theorem test_WidthClasses_5 : ((cr1.weltC 31).reqClass = some 2)
  ∧ okNext (.classExpire 31) cr1 (fun t => decide (t = cr1)) = true := by decide +kernel

theorem test_WidthClasses_6 : ((((up.setf F.WELTc_STATUS_CEIL_EFF 31 2).setf F.WELTc_CFG_CLASS_CEIL 31 0)).clusterUp 31 = true)
  ∧ ((((up.setf F.WELTc_STATUS_CEIL_EFF 31 2).setf F.WELTc_CFG_CLASS_CEIL 31 0)).ceilOf 31 < (((up.setf F.WELTc_STATUS_CEIL_EFF 31 2).setf F.WELTc_CFG_CLASS_CEIL 31 0)).f F.WELTc_STATUS_CEIL_EFF 31)
  ∧ okNext (.ceilHoldExpire 31) (((up.setf F.WELTc_STATUS_CEIL_EFF 31 2).setf F.WELTc_CFG_CLASS_CEIL 31 0)) (fun t => decide (t.f F.WELTc_STATUS_CEIL_EFF 31 = (((up.setf F.WELTc_STATUS_CEIL_EFF 31 2).setf F.WELTc_CFG_CLASS_CEIL 31 0)).ceilOf 31) && decide (t.f F.WELTc_STATUS_CLASS 31 = (((up.setf F.WELTc_STATUS_CEIL_EFF 31 2).setf F.WELTc_CFG_CLASS_CEIL 31 0)).f F.WELTc_STATUS_CLASS 31) && decide ({ t with regs := (((up.setf F.WELTc_STATUS_CEIL_EFF 31 2).setf F.WELTc_CFG_CLASS_CEIL 31 0)).regs } = (((up.setf F.WELTc_STATUS_CEIL_EFF 31 2).setf F.WELTc_CFG_CLASS_CEIL 31 0)))) = true := by decide +kernel

def dt0 : State := ((up.setWelt 31 { trips := 3, tripsEpoch := 1000 }).setf F.DRP_STORM_STORM_TRIPS 0 3).setf F.DRPn_STATUS_TRIPS 511 65535

theorem test_DroopTripsAndStorms_0_storm : (dt0.coreUp 511 = true)
  ∧ (3 < 4)
  ∧ (dt0.bitf F.DRPn_STATUS_STUCK 511 3 = false)
  ∧ (dt0.epoch ≤ (dt0.weltC (clusterOf 511)).tripsEpoch)
  ∧ okNext (.droopTrip 511 3) dt0 (fun t => decide ((t.station 511).stretchLeft = dt0.f F.DRP_CTRL_STRETCH_CYC + 1) && decide (t.f F.DRPn_STATUS_TRIPS 511 = (dt0.f F.DRPn_STATUS_TRIPS 511 + 1) % 65536) && decide ((t.weltC (clusterOf 511)).trips = (dt0.weltC (clusterOf 511)).trips + 1) && decide ((t.weltC (clusterOf 511)).kickUntil = some (dt0.now + BitVec.ofNat 64 (dt0.f F.WELT_CTRL_KICK_T * 20))) && decide (t.pair R.DRP_TRIPS_LO R.DRP_TRIPS_HI = (dt0.pair R.DRP_TRIPS_LO R.DRP_TRIPS_HI + 1) % 2 ^ 64) && decide ((dt0.f F.DRP_STORM_STORM_TRIPS < (dt0.weltC (clusterOf 511)).trips + 1 → t.on F.DRPCc_STATUS_STORM (clusterOf 511) = true)) && decide (((dt0.weltC (clusterOf 511)).trips + 1 ≤ dt0.f F.DRP_STORM_STORM_TRIPS → t.on F.DRPCc_STATUS_STORM (clusterOf 511) = dt0.on F.DRPCc_STATUS_STORM (clusterOf 511)))) = true := by decide +kernel

def dt1 : State := ((up.setWelt 31 { trips := 2, tripsEpoch := 1000 }).setf F.DRP_STORM_STORM_TRIPS 0 3)

theorem test_DroopTripsAndStorms_0 : (dt1.coreUp 511 = true)
  ∧ (0 < 4)
  ∧ (dt1.bitf F.DRPn_STATUS_STUCK 511 0 = false)
  ∧ (dt1.epoch ≤ (dt1.weltC (clusterOf 511)).tripsEpoch)
  ∧ okNext (.droopTrip 511 0) dt1 (fun t => decide ((t.station 511).stretchLeft = dt1.f F.DRP_CTRL_STRETCH_CYC + 1) && decide (t.f F.DRPn_STATUS_TRIPS 511 = (dt1.f F.DRPn_STATUS_TRIPS 511 + 1) % 65536) && decide ((t.weltC (clusterOf 511)).trips = (dt1.weltC (clusterOf 511)).trips + 1) && decide ((t.weltC (clusterOf 511)).kickUntil = some (dt1.now + BitVec.ofNat 64 (dt1.f F.WELT_CTRL_KICK_T * 20))) && decide (t.pair R.DRP_TRIPS_LO R.DRP_TRIPS_HI = (dt1.pair R.DRP_TRIPS_LO R.DRP_TRIPS_HI + 1) % 2 ^ 64) && decide ((dt1.f F.DRP_STORM_STORM_TRIPS < (dt1.weltC (clusterOf 511)).trips + 1 → t.on F.DRPCc_STATUS_STORM (clusterOf 511) = true)) && decide (((dt1.weltC (clusterOf 511)).trips + 1 ≤ dt1.f F.DRP_STORM_STORM_TRIPS → t.on F.DRPCc_STATUS_STORM (clusterOf 511) = dt1.on F.DRPCc_STATUS_STORM (clusterOf 511)))) = true := by decide +kernel

theorem test_DroopTripsAndStorms_1 : (((up.setStation 511 { stretchLeft := 5 })).coreUp 511 = true)
  ∧ okNext (.stretchEnd ⟨511, 4⟩) ((up.setStation 511 { stretchLeft := 5 })) (fun t => decide ((t.station 511).stretchLeft = (((up.setStation 511 { stretchLeft := 5 })).station 511).stretchLeft - 4) && decide ({ t with crd := ((up.setStation 511 { stretchLeft := 5 })).crd } = ((up.setStation 511 { stretchLeft := 5 })))) = true := by decide +kernel

theorem test_DroopTripsAndStorms_2 : ((((up.setWelt 31 { kickUntil := some 1000000 })).weltC 31).kickUntil = some ((1000000 : Word64)))
  ∧ (((up.setWelt 31 { kickUntil := some 1000000 })).clusterUp 31 = true)
  ∧ (((1000000 : Word64)).toNat ≤ ((up.setWelt 31 { kickUntil := some 1000000 })).now.toNat)
  ∧ okNext (.kickExpire 31) ((up.setWelt 31 { kickUntil := some 1000000 })) (fun t => decide ((t.weltC 31).kickUntil = none) && decide ({ t with welt := ((up.setWelt 31 { kickUntil := some 1000000 })).welt } = ((up.setWelt 31 { kickUntil := some 1000000 })))) = true := by decide +kernel

def st0 : State := ((up.setWelt 31 { tripsEpoch := 1000, quiet := 9, stormAt := some 5 }).setf F.DRP_STORM_STORM_QUIET 0 8).setf F.DRPCc_STATUS_STORM 31 1

theorem test_DroopTripsAndStorms_3 : (st0.clusterUp 31 = true)
  ∧ (st0.epoch ≤ (st0.weltC 31).tripsEpoch)
  ∧ (st0.on F.DRPCc_STATUS_STORM 31 = true)
  ∧ (st0.f F.DRP_STORM_STORM_QUIET + 1 ≤ (st0.weltC 31).quiet)
  ∧ okNext (.stormExit 31) st0 (fun t => decide (t.on F.DRPCc_STATUS_STORM 31 = false) && decide ((t.weltC 31).stormAt = none)) = true := by decide +kernel

def st1 : State := ({ up with time := { up.time with count := 1001 } }.setWelt 31 { stormAt := some 0 }).setf F.DRP_STORM_STORM_CLAMP_US 0 0

theorem test_DroopTripsAndStorms_4 : ((st1.weltC 31).stormAt = some ((0 : Word64)))
  ∧ (st1.clusterUp 31 = true)
  ∧ (max (st1.f F.DRP_STORM_STORM_CLAMP_US) 1 * 1000 < st1.since ((0 : Word64))) := by decide +kernel

theorem test_DroopTripsAndStorms_5 : (up.dieUp = true)
  ∧ (up.due 5 0 100000 0 = true)
  ∧ okNext .stormFracUpdate up (fun t => decide (t.welt.epochs = 0) && decide (t.welt.storms = 0)) = true := by decide +kernel

def sk0 : State := ((up.setBitf F.DRPn_STATUS_STUCK 511 0 true).setBitf F.DRPn_STATUS_STUCK 511 1 true).setBitf F.DRPn_STATUS_STUCK 511 2 true

def sk1 : State := sk0.setStation 511 { tripRun := some (3, 998000, 1000000) }

theorem test_DetectorsAndLimits_0 : (sk1.coreUp 511 = true)
  ∧ (3 < 4)
  ∧ (sk1.bitf F.DRPn_STATUS_STUCK 511 3 = false)
  ∧ (sk1.stuckRun 511 3 = true)
  ∧ okNext (.detectorStuck 511 3) sk1 (fun t => decide (t.bitf F.DRPn_STATUS_STUCK 511 3 = true) && decide (rep t 0x42 511) && decide ((t.f F.DRPn_STATUS_STUCK 511 = 15 → rep t 0x43 511)) && decide ((∀ e : Nat, e < 4 → e ≠ 3 → t.bitf F.DRPn_STATUS_STUCK 511 e = sk1.bitf F.DRPn_STATUS_STUCK 511 e))) = true := by decide +kernel

theorem test_DetectorsAndLimits_1 : (sk0.stuckRun 511 3 = false)
  ∧ okNext (.detectorStuck 511 3) sk0 (fun t => decide (t = sk0)) = true := by decide +kernel

theorem test_DetectorsAndLimits_2 : (sk0.portTakes R.DRPn_STATUS 511 = true)
  ∧ okNext (.detectorUnmask true 511 ((0x00050000 : Word))) sk0 (fun t => decide ((∀ d : Nat, d < 4 → t.bitf F.DRPn_STATUS_STUCK 511 d = (sk0.bitf F.DRPn_STATUS_STUCK 511 d && !((0x00050000 : Word)).getLsbD (16 + d)))) && decide (t.f F.DRPn_STATUS_TRIPS 511 = sk0.f F.DRPn_STATUS_TRIPS 511) && decide ({ t with regs := sk0.regs, rsp := sk0.rsp } = sk0)) = true := by decide +kernel

def il0 : State := up.setf F.WELT_CLASS_ILIM_A 0 127

theorem test_DetectorsAndLimits_3 : (il0.clusterUp 31 = true)
  ∧ (il0.ilim < 961)
  ∧ (il0.on F.WELTc_STATUS_ILIM 31 = false)
  ∧ okNext (.weltIlimStart 31 961) il0 (fun t => decide (t.on F.WELTc_STATUS_ILIM 31 = true) && decide ((t.weltC 31).ilimAt = some il0.now) && decide ((t.weltC 31).zeroAllow = (il0.weltC 31).zeroAllow)) = true := by decide +kernel

def il1 : State := (up.setWelt 31 { ilimAt := some 998999 }).setf F.WELTc_STATUS_ILIM 31 1

theorem test_DetectorsAndLimits_4 : ((il1.weltC 31).ilimAt = some ((998999 : Word64)))
  ∧ (il1.clusterUp 31 = true)
  ∧ (il1.on F.WELTc_STATUS_ILIM 31 = true)
  ∧ (1000 < il1.since ((998999 : Word64)))
  ∧ ((il1.weltC 31).ilimTold = false) := by decide +kernel

def il2 : State := (up.setWelt 31 { below90 := some 999000, zeroAllow := true }).setf F.WELTc_STATUS_ILIM 31 1

theorem test_DetectorsAndLimits_5 : ((il2.weltC 31).below90 = some ((999000 : Word64)))
  ∧ (il2.clusterUp 31 = true)
  ∧ ((il2.weltC 31).zeroAllow = true)
  ∧ (il2.passed ((999000 : Word64)) 1000 = true)
  ∧ okNext (.weltIlimRelease 31) il2 (fun t => decide ((t.weltC 31).zeroAllow = false) && decide (t.on F.WELTc_STATUS_ILIM 31 = false)) = true := by decide +kernel

def ov0 : State := (weltOn.setf F.WELTc_STATUS_NEED_VALID 31 1).setf F.WELTc_NEED_N_NEED_N 31 1600

theorem test_DetectorsAndLimits_6 : (ov0.clusterUp 31 = true)
  ∧ (ov0.welt.en = true)
  ∧ (ov0.clusterTarget 31 + 400 < 11601)
  ∧ okNext (.weltOv 31 11601) ov0 (fun t => decide (t.on F.WELTc_STATUS_OV 31 = true) && decide (rep t 0x45 31)) = true := by decide +kernel

def phx (st : Nat) (x : PhaseSt) (s : State) : State := (s.setPhase 95 x).setf F.PHp_STATUS_STATE 95 st

theorem test_PhaseTemperatureSamples_0 : (((phx PH_ACTIVE { rail := 7 } up)).phaseUp 95 = true)
  ∧ (((phx PH_ACTIVE { rail := 7 } up)).due 6 95 10000 0 = true)
  ∧ (((phx PH_ACTIVE { rail := 7 } up)).phSt 95 ≠ PH_OFF)
  ∧ (((phx PH_ACTIVE { rail := 7 } up)).phSt 95 ≠ PH_PROBE)
  ∧ (2400 ≤ 2400)
  ∧ ((((phx PH_ACTIVE { rail := 7 } up)).capable 95 = true ∨ ((phx PH_ACTIVE { rail := 7 } up)).phSt 95 = PH_READY))
  ∧ okNext (.tfSample 95 2400) ((phx PH_ACTIVE { rail := 7 } up)) (fun t => decide (t.phSt 95 = PH_HICCUP) && decide (rep t 0x23 95) && decide (t.f F.PHp_MEAS_TEMP 95 = ((phx PH_ACTIVE { rail := 7 } up)).f F.PHp_MEAS_TEMP 95)) = true := by decide +kernel

theorem test_PhaseTemperatureSamples_0_ready : (((phx PH_READY { rail := 7 } up)).phaseUp 95 = true)
  ∧ (((phx PH_READY { rail := 7 } up)).due 6 95 10000 0 = true)
  ∧ (((phx PH_READY { rail := 7 } up)).phSt 95 ≠ PH_OFF)
  ∧ (((phx PH_READY { rail := 7 } up)).phSt 95 ≠ PH_PROBE)
  ∧ (2400 ≤ 2400)
  ∧ ((((phx PH_READY { rail := 7 } up)).capable 95 = true ∨ ((phx PH_READY { rail := 7 } up)).phSt 95 = PH_READY))
  ∧ okNext (.tfSample 95 2400) ((phx PH_READY { rail := 7 } up)) (fun t => decide (t.phSt 95 = PH_HICCUP) && decide (rep t 0x23 95) && decide (t.f F.PHp_MEAS_TEMP 95 = ((phx PH_READY { rail := 7 } up)).f F.PHp_MEAS_TEMP 95)) = true := by decide +kernel

theorem test_PhaseTemperatureSamples_1_0 : (((phx PH_ACTIVE { rail := 7 } up)).phaseUp 95 = true)
  ∧ (((phx PH_ACTIVE { rail := 7 } up)).due 6 95 10000 0 = true)
  ∧ (((phx PH_ACTIVE { rail := 7 } up)).phSt 95 ≠ PH_OFF)
  ∧ (((phx PH_ACTIVE { rail := 7 } up)).phSt 95 ≠ PH_PROBE)
  ∧ (349 < 2400)
  ∧ (tfInvalid 349 = true)
  ∧ okNext (.tfSample 95 349) ((phx PH_ACTIVE { rail := 7 } up)) (fun t => decide (t.on F.PHp_STATUS_TF_BAD 95 = true) && decide (((((phx PH_ACTIVE { rail := 7 } up)).phase 95).tfInvalid = false → rep t 0x25 95))) = true := by decide +kernel

theorem test_PhaseTemperatureSamples_1_1 : (((phx PH_ACTIVE { rail := 7 } up)).phaseUp 95 = true)
  ∧ (((phx PH_ACTIVE { rail := 7 } up)).due 6 95 10000 0 = true)
  ∧ (((phx PH_ACTIVE { rail := 7 } up)).phSt 95 ≠ PH_OFF)
  ∧ (((phx PH_ACTIVE { rail := 7 } up)).phSt 95 ≠ PH_PROBE)
  ∧ (1851 < 2400)
  ∧ (tfInvalid 1851 = true)
  ∧ okNext (.tfSample 95 1851) ((phx PH_ACTIVE { rail := 7 } up)) (fun t => decide (t.on F.PHp_STATUS_TF_BAD 95 = true) && decide (((((phx PH_ACTIVE { rail := 7 } up)).phase 95).tfInvalid = false → rep t 0x25 95))) = true := by decide +kernel

theorem test_PhaseTemperatureSamples_1_2 : (((phx PH_ACTIVE { rail := 7 } up)).phaseUp 95 = true)
  ∧ (((phx PH_ACTIVE { rail := 7 } up)).due 6 95 10000 0 = true)
  ∧ (((phx PH_ACTIVE { rail := 7 } up)).phSt 95 ≠ PH_OFF)
  ∧ (((phx PH_ACTIVE { rail := 7 } up)).phSt 95 ≠ PH_PROBE)
  ∧ (2399 < 2400)
  ∧ (tfInvalid 2399 = true)
  ∧ okNext (.tfSample 95 2399) ((phx PH_ACTIVE { rail := 7 } up)) (fun t => decide (t.on F.PHp_STATUS_TF_BAD 95 = true) && decide (((((phx PH_ACTIVE { rail := 7 } up)).phase 95).tfInvalid = false → rep t 0x25 95))) = true := by decide +kernel

theorem test_PhaseTemperatureSamples_2_hot : (((phx PH_ACTIVE { rail := 7 } up)).phaseUp 95 = true)
  ∧ (((phx PH_ACTIVE { rail := 7 } up)).due 6 95 10000 0 = true)
  ∧ (((phx PH_ACTIVE { rail := 7 } up)).phSt 95 ≠ PH_OFF)
  ∧ (((phx PH_ACTIVE { rail := 7 } up)).phSt 95 ≠ PH_PROBE)
  ∧ (1850 < 2400)
  ∧ (tfInvalid 1850 = false)
  ∧ okNext (.tfSample 95 1850) ((phx PH_ACTIVE { rail := 7 } up)) (fun t => decide (t.fi F.PHp_MEAS_TEMP 95 = satSigned 16 (meanTemp ((tfTemp 1850 :: (((phx PH_ACTIVE { rail := 7 } up)).phase 95).temps).take 4))) && decide ((((phx PH_ACTIVE { rail := 7 } up)).capable 95 = true → ((phx PH_ACTIVE { rail := 7 } up)).tShut * 16 ≤ meanTemp ((tfTemp 1850 :: (((phx PH_ACTIVE { rail := 7 } up)).phase 95).temps).take 4) → t.phSt 95 = PH_HOT ∧ rep t 0x24 95))) = true := by decide +kernel

theorem test_PhaseTemperatureSamples_2 : (((phx PH_HOT { rail := 7, temps := [10, 20, 30, 40] } up)).phaseUp 95 = true)
  ∧ (((phx PH_HOT { rail := 7, temps := [10, 20, 30, 40] } up)).due 6 95 10000 0 = true)
  ∧ (((phx PH_HOT { rail := 7, temps := [10, 20, 30, 40] } up)).phSt 95 ≠ PH_OFF)
  ∧ (((phx PH_HOT { rail := 7, temps := [10, 20, 30, 40] } up)).phSt 95 ≠ PH_PROBE)
  ∧ (350 < 2400)
  ∧ (tfInvalid 350 = false)
  ∧ okNext (.tfSample 95 350) ((phx PH_HOT { rail := 7, temps := [10, 20, 30, 40] } up)) (fun t => decide (t.fi F.PHp_MEAS_TEMP 95 = satSigned 16 (meanTemp ((tfTemp 350 :: (((phx PH_HOT { rail := 7, temps := [10, 20, 30, 40] } up)).phase 95).temps).take 4))) && decide ((((phx PH_HOT { rail := 7, temps := [10, 20, 30, 40] } up)).capable 95 = true → ((phx PH_HOT { rail := 7, temps := [10, 20, 30, 40] } up)).tShut * 16 ≤ meanTemp ((tfTemp 350 :: (((phx PH_HOT { rail := 7, temps := [10, 20, 30, 40] } up)).phase 95).temps).take 4) → t.phSt 95 = PH_HOT ∧ rep t 0x24 95))) = true := by decide +kernel

theorem test_SwitchedCycles_0 : (((phx PH_ACTIVE { rail := 7 } up)).phaseUp 95 = true)
  ∧ ((((phx PH_ACTIVE { rail := 7 } up)).phSt 95 = PH_SOFT ∨ ((phx PH_ACTIVE { rail := 7 } up)).phSt 95 = PH_ACTIVE))
  ∧ okNext (.phaseCycle 95 ([(0, 4), (5, 400), (9, 500)]) ([80, 81, 79])) ((phx PH_ACTIVE { rail := 7 } up)) (fun t => decide ((([80, 81, 79]) ≠ [] → t.f F.PHp_MEAS_IAVG 95 = (clampInt 0 65535 (divNearest (([80, 81, 79]).map (fun v => senseI v (((phx PH_ACTIVE { rail := 7 } up)).fi F.PHp_LIM_CS_OFFS 95))).sum (10 * ([80, 81, 79]).length))).toNat)) && decide ((([80, 81, 79]) = [] → t.f F.PHp_MEAS_IAVG 95 = ((phx PH_ACTIVE { rail := 7 } up)).f F.PHp_MEAS_IAVG 95)) && decide ((t.phase 95).offs = ((phx PH_ACTIVE { rail := 7 } up)).fi F.PHp_LIM_CS_OFFS 95)) = true := by decide +kernel

theorem test_SwitchedCycles_0_none : (((phx PH_ACTIVE { rail := 7 } (up.setf F.PHRAILr_STATUS_BRAKING 7 1))).phaseUp 95 = true)
  ∧ ((((phx PH_ACTIVE { rail := 7 } (up.setf F.PHRAILr_STATUS_BRAKING 7 1))).phSt 95 = PH_SOFT ∨ ((phx PH_ACTIVE { rail := 7 } (up.setf F.PHRAILr_STATUS_BRAKING 7 1))).phSt 95 = PH_ACTIVE))
  ∧ okNext (.phaseCycle 95 ([(0, 5)]) (([] : List Nat))) ((phx PH_ACTIVE { rail := 7 } (up.setf F.PHRAILr_STATUS_BRAKING 7 1))) (fun t => decide (((([] : List Nat)) ≠ [] → t.f F.PHp_MEAS_IAVG 95 = (clampInt 0 65535 (divNearest ((([] : List Nat)).map (fun v => senseI v (((phx PH_ACTIVE { rail := 7 } (up.setf F.PHRAILr_STATUS_BRAKING 7 1))).fi F.PHp_LIM_CS_OFFS 95))).sum (10 * (([] : List Nat)).length))).toNat)) && decide (((([] : List Nat)) = [] → t.f F.PHp_MEAS_IAVG 95 = ((phx PH_ACTIVE { rail := 7 } (up.setf F.PHRAILr_STATUS_BRAKING 7 1))).f F.PHp_MEAS_IAVG 95)) && decide ((t.phase 95).offs = ((phx PH_ACTIVE { rail := 7 } (up.setf F.PHRAILr_STATUS_BRAKING 7 1))).fi F.PHp_LIM_CS_OFFS 95)) = true := by decide +kernel

theorem test_SwitchedCycles_1 : (((phx PH_ACTIVE { rail := 7 } up)).phaseUp 95 = true)
  ∧ ((((phx PH_ACTIVE { rail := 7 } up)).phSt 95 = PH_SOFT ∨ ((phx PH_ACTIVE { rail := 7 } up)).phSt 95 = PH_ACTIVE))
  ∧ (((phx PH_ACTIVE { rail := 7 } up)).on F.PHRAILr_STATUS_BRAKING (((phx PH_ACTIVE { rail := 7 } up)).phase 95).rail = false)
  ∧ okNext (.phaseCycle 95 ([(0, 4), (5, 400), (9, 500)]) ([80])) ((phx PH_ACTIVE { rail := 7 } up)) (fun t => decide (400 ≤ t.f F.PHp_ONTIME_TON 95) && decide (t.f F.PHp_ONTIME_TON 95 ≤ max 400 ((phx PH_ACTIVE { rail := 7 } up)).tonMax) && decide ((t.phase 95).rampDone = min ((((phx PH_ACTIVE { rail := 7 } up)).phase 95).rampDone + 1) (((phx PH_ACTIVE { rail := 7 } up)).phase 95).rampLen)) = true := by decide +kernel

theorem test_SwitchedCycles_1_soft : (((phx PH_SOFT { rail := 7, rampDone := 3, rampLen := 3 } up)).phaseUp 95 = true)
  ∧ ((((phx PH_SOFT { rail := 7, rampDone := 3, rampLen := 3 } up)).phSt 95 = PH_SOFT ∨ ((phx PH_SOFT { rail := 7, rampDone := 3, rampLen := 3 } up)).phSt 95 = PH_ACTIVE))
  ∧ (((phx PH_SOFT { rail := 7, rampDone := 3, rampLen := 3 } up)).on F.PHRAILr_STATUS_BRAKING (((phx PH_SOFT { rail := 7, rampDone := 3, rampLen := 3 } up)).phase 95).rail = false)
  ∧ okNext (.phaseCycle 95 (([] : List (Nat × Int))) (([] : List Nat))) ((phx PH_SOFT { rail := 7, rampDone := 3, rampLen := 3 } up)) (fun t => decide (400 ≤ t.f F.PHp_ONTIME_TON 95) && decide (t.f F.PHp_ONTIME_TON 95 ≤ max 400 ((phx PH_SOFT { rail := 7, rampDone := 3, rampLen := 3 } up)).tonMax) && decide ((t.phase 95).rampDone = min ((((phx PH_SOFT { rail := 7, rampDone := 3, rampLen := 3 } up)).phase 95).rampDone + 1) (((phx PH_SOFT { rail := 7, rampDone := 3, rampLen := 3 } up)).phase 95).rampLen)) = true := by decide +kernel

theorem test_SwitchedCycles_2 : (((phx PH_ACTIVE { rail := 7, openRun := 1 } (up.setf F.PH_PROT_OPEN_RISE 0 1))).phaseUp 95 = true)
  ∧ ((((phx PH_ACTIVE { rail := 7, openRun := 1 } (up.setf F.PH_PROT_OPEN_RISE 0 1))).phSt 95 = PH_SOFT ∨ ((phx PH_ACTIVE { rail := 7, openRun := 1 } (up.setf F.PH_PROT_OPEN_RISE 0 1))).phSt 95 = PH_ACTIVE))
  ∧ (((phx PH_ACTIVE { rail := 7, openRun := 1 } (up.setf F.PH_PROT_OPEN_RISE 0 1))).on F.PHRAILr_STATUS_BRAKING (((phx PH_ACTIVE { rail := 7, openRun := 1 } (up.setf F.PH_PROT_OPEN_RISE 0 1))).phase 95).rail = false)
  ∧ (1 ≤ (((phx PH_ACTIVE { rail := 7, openRun := 1 } (up.setf F.PH_PROT_OPEN_RISE 0 1))).phase 95).openRun)
  ∧ (0 < ((phx PH_ACTIVE { rail := 7, openRun := 1 } (up.setf F.PH_PROT_OPEN_RISE 0 1))).f F.PH_PROT_OPEN_RISE)
  ∧ okNext (.phaseCycle 95 [] ([80])) ((phx PH_ACTIVE { rail := 7, openRun := 1 } (up.setf F.PH_PROT_OPEN_RISE 0 1))) (fun t => decide (t.phSt 95 = PH_FAILED) && decide (rep t 0x20 95)) = true := by decide +kernel

theorem test_SwitchedCycles_3 : (((phx PH_ACTIVE { rail := 7, rampDone := 1, rampLen := 3, openRun := 1 } (up.setf F.PHRAILr_STATUS_BRAKING 7 1))).phaseUp 95 = true)
  ∧ ((((phx PH_ACTIVE { rail := 7, rampDone := 1, rampLen := 3, openRun := 1 } (up.setf F.PHRAILr_STATUS_BRAKING 7 1))).phSt 95 = PH_SOFT ∨ ((phx PH_ACTIVE { rail := 7, rampDone := 1, rampLen := 3, openRun := 1 } (up.setf F.PHRAILr_STATUS_BRAKING 7 1))).phSt 95 = PH_ACTIVE))
  ∧ (((phx PH_ACTIVE { rail := 7, rampDone := 1, rampLen := 3, openRun := 1 } (up.setf F.PHRAILr_STATUS_BRAKING 7 1))).on F.PHRAILr_STATUS_BRAKING (((phx PH_ACTIVE { rail := 7, rampDone := 1, rampLen := 3, openRun := 1 } (up.setf F.PHRAILr_STATUS_BRAKING 7 1))).phase 95).rail = true)
  ∧ okNext (.phaseCycle 95 ([(0, 5)]) (([] : List Nat))) ((phx PH_ACTIVE { rail := 7, rampDone := 1, rampLen := 3, openRun := 1 } (up.setf F.PHRAILr_STATUS_BRAKING 7 1))) (fun t => decide (t.phSt 95 = ((phx PH_ACTIVE { rail := 7, rampDone := 1, rampLen := 3, openRun := 1 } (up.setf F.PHRAILr_STATUS_BRAKING 7 1))).phSt 95) && decide ((t.phase 95).en = false) && decide ((t.phase 95).pwm = false) && decide (t.rd R.PHp_ONTIME 95 = ((phx PH_ACTIVE { rail := 7, rampDone := 1, rampLen := 3, openRun := 1 } (up.setf F.PHRAILr_STATUS_BRAKING 7 1))).rd R.PHp_ONTIME 95) && decide ((t.phase 95).rampDone = (((phx PH_ACTIVE { rail := 7, rampDone := 1, rampLen := 3, openRun := 1 } (up.setf F.PHRAILr_STATUS_BRAKING 7 1))).phase 95).rampDone) && decide ((t.phase 95).openRun = (((phx PH_ACTIVE { rail := 7, rampDone := 1, rampLen := 3, openRun := 1 } (up.setf F.PHRAILr_STATUS_BRAKING 7 1))).phase 95).openRun) && decide (t.flt = ((phx PH_ACTIVE { rail := 7, rampDone := 1, rampLen := 3, openRun := 1 } (up.setf F.PHRAILr_STATUS_BRAKING 7 1))).flt)) = true := by decide +kernel

theorem test_SwitchedCycles_4 : (((phx PH_SHED { rail := 7 } up)).phSt 95 ≠ PH_SOFT)
  ∧ (((phx PH_SHED { rail := 7 } up)).phSt 95 ≠ PH_ACTIVE)
  ∧ okNext (.phaseCycle 95 ([(0, 5)]) (([] : List Nat))) ((phx PH_SHED { rail := 7 } up)) (fun t => decide (t = ((phx PH_SHED { rail := 7 } up)))) = true := by decide +kernel

theorem test_SwitchedCycles_5 : (((phx PH_SOFT { rail := 7, rampDone := 5, rampLen := 5 } up)).phaseUp 95 = true)
  ∧ (((phx PH_SOFT { rail := 7, rampDone := 5, rampLen := 5 } up)).phSt 95 = PH_SOFT)
  ∧ ((((phx PH_SOFT { rail := 7, rampDone := 5, rampLen := 5 } up)).phase 95).rampLen ≤ (((phx PH_SOFT { rail := 7, rampDone := 5, rampLen := 5 } up)).phase 95).rampDone)
  ∧ okNext (.softstartComplete 95) ((phx PH_SOFT { rail := 7, rampDone := 5, rampLen := 5 } up)) (fun t => decide (t.phSt 95 = PH_ACTIVE)) = true := by decide +kernel

def hic : State := phx PH_HICCUP { rail := 7 } (up.setf F.PH_PROT_HICCUP_MS 0 0)

theorem test_PhaseFaultsAndHiccups_0 : (hic.phaseUp 95 = true)
  ∧ (hic.phSt 95 = PH_HICCUP)
  ∧ (hic.passed (hic.phase 95).since hic.hiccupNs = true)
  ∧ (80 < 81)
  ∧ okNext (.phaseHiccupExpire 95 81 0) hic (fun t => decide (t.phSt 95 = PH_ABSENT) && decide (rep t 0x21 95)) = true := by decide +kernel

theorem test_PhaseFaultsAndHiccups_1 : (hic.phaseUp 95 = true)
  ∧ (hic.phSt 95 = PH_HICCUP)
  ∧ (hic.passed (hic.phase 95).since hic.hiccupNs = true)
  ∧ (80 ≤ 80)
  ∧ (2400 ≤ 2400)
  ∧ okNext (.phaseHiccupExpire 95 80 2400) hic (fun t => decide (t.phSt 95 = PH_HICCUP) && decide (rep t 0x23 95)) = true := by decide +kernel

theorem test_PhaseFaultsAndHiccups_2 : (hic.phaseUp 95 = true)
  ∧ (hic.phSt 95 = PH_HICCUP)
  ∧ (hic.passed (hic.phase 95).since hic.hiccupNs = true)
  ∧ (80 ≤ 80)
  ∧ (2399 < 2400)
  ∧ okNext (.phaseHiccupExpire 95 80 2399) hic (fun t => decide (t.phSt 95 = (if hic.railOn (hic.phase 95).rail then PH_SOFT else PH_READY))) = true := by decide +kernel

theorem test_PhaseFaultsAndHiccups_2_on : (((phx PH_HICCUP { rail := 7 } ((up.setf F.PH_PROT_HICCUP_MS 0 0).setf F.RAILr_STATUS_STATE 7 2))).phaseUp 95 = true)
  ∧ (((phx PH_HICCUP { rail := 7 } ((up.setf F.PH_PROT_HICCUP_MS 0 0).setf F.RAILr_STATUS_STATE 7 2))).phSt 95 = PH_HICCUP)
  ∧ (((phx PH_HICCUP { rail := 7 } ((up.setf F.PH_PROT_HICCUP_MS 0 0).setf F.RAILr_STATUS_STATE 7 2))).passed (((phx PH_HICCUP { rail := 7 } ((up.setf F.PH_PROT_HICCUP_MS 0 0).setf F.RAILr_STATUS_STATE 7 2))).phase 95).since ((phx PH_HICCUP { rail := 7 } ((up.setf F.PH_PROT_HICCUP_MS 0 0).setf F.RAILr_STATUS_STATE 7 2))).hiccupNs = true)
  ∧ (80 ≤ 80)
  ∧ (2399 < 2400)
  ∧ okNext (.phaseHiccupExpire 95 80 2399) ((phx PH_HICCUP { rail := 7 } ((up.setf F.PH_PROT_HICCUP_MS 0 0).setf F.RAILr_STATUS_STATE 7 2))) (fun t => decide (t.phSt 95 = (if ((phx PH_HICCUP { rail := 7 } ((up.setf F.PH_PROT_HICCUP_MS 0 0).setf F.RAILr_STATUS_STATE 7 2))).railOn (((phx PH_HICCUP { rail := 7 } ((up.setf F.PH_PROT_HICCUP_MS 0 0).setf F.RAILr_STATUS_STATE 7 2))).phase 95).rail then PH_SOFT else PH_READY))) = true := by decide +kernel

theorem test_PhaseFaultsAndHiccups_3 : (((phx PH_ACTIVE { rail := 7 } up)).phaseUp 95 = true)
  ∧ (1000 ≤ 1000)
  ∧ (((phx PH_ACTIVE { rail := 7 } up)).phSt 95 ≠ PH_OFF)
  ∧ (((phx PH_ACTIVE { rail := 7 } up)).phSt 95 ≠ PH_PROBE)
  ∧ okNext (.senseLineOpen 95 1000) ((phx PH_ACTIVE { rail := 7 } up)) (fun t => decide (t.phSt 95 = PH_ABSENT) && decide (t.f F.PHp_STATUS_CAUSE 95 = 2) && decide (rep t 0x21 95)) = true := by decide +kernel

theorem test_PhaseFaultsAndHiccups_4 : (999 < 1000)
  ∧ okNext (.senseLineOpen 95 999) ((phx PH_ACTIVE { rail := 7 } up)) (fun t => decide (t = ((phx PH_ACTIVE { rail := 7 } up)))) = true := by decide +kernel

def imp : State := phx PH_ACTIVE { rail := 7, sumI := 9, numI := 1 } up

theorem test_PhaseFaultsAndHiccups_5 : (imp.railUp 7 = true)
  ∧ (imp.due 7 7 50000 0 = true)
  ∧ okNext (.senseImplausibleCheck 7) imp (fun t => decide ((∀ p ∈ imp.phasesOf 7, (t.phase p).sumI = 0 ∧ (t.phase p).numI = 0)) && decide (t.phSt 95 = 4)) = true
  ∧ ((imp.measured 7).length < 3) := by decide +kernel

def act2 (s : State) : State := phx PH_ACTIVE { rail := 7 } ((s.setPhase 94 { rail := 7 }).setf F.PHp_STATUS_STATE 94 PH_ACTIVE)

def shd : State := ((((act2 up).setf F.PHRAILr_SHED_SHED_EN 7 1).setf F.PHRAILr_SHED_SHED_A 7 2).setf F.PHRAILr_SHED_ADD_A 7 3).setf F.PHRAILr_SHED_MIN_PH 7 1 |>.setRail 7 { shedAt := some 0 }

theorem test_SheddingAndCapability_0 : (shd.railUp 7 = true)
  ∧ (shd.shedCond 7 = true)
  ∧ ((shd.rail 7).shedAt = some ((0 : Word64)))
  ∧ (shd.hottest (shd.active 7) = some 95)
  ∧ (shd.phSt 95 = PH_ACTIVE)
  ∧ (shd.passed ((0 : Word64)) (max 1 (shd.f F.PH_LIGHT_SHED_DWELL) * 1000) = true)
  ∧ (shd.capLow 7 (shd.capOfRail 7) = false)
  ∧ okNext (.phaseShed 7) shd (fun t => decide (t.phSt 95 = PH_SHED) && decide ((t.rail 7).shedAt = some shd.now)) = true := by decide +kernel

theorem test_SheddingAndCapability_1 : (((phx PH_SOFT { rail := 7 } up)).hottest (((phx PH_SOFT { rail := 7 } up)).active 7) = some 95)
  ∧ (((phx PH_SOFT { rail := 7 } up)).phSt 95 ≠ PH_ACTIVE)
  ∧ okNext (.phaseShed 7) ((phx PH_SOFT { rail := 7 } up)) (fun t => decide (t = ((phx PH_SOFT { rail := 7 } up)))) = true := by decide +kernel

theorem test_SheddingAndCapability_2 : (((up.setRail 7 { limitDue := true })).railUp 7 = true)
  ∧ ((((up.setRail 7 { limitDue := true })).rail 7).limitDue = true)
  ∧ okNext (.capabilityUpdate 7) ((up.setRail 7 { limitDue := true })) (fun t => decide ((t.rail 7).limit = ((up.setRail 7 { limitDue := true })).f F.PHRAILr_STATUS_CAP 7) && decide ((t.rail 7).limitDue = false) && decide ((Tab.get {} t.loop.src (0x3000 + 7)).v = ((up.setRail 7 { limitDue := true })).f F.PHRAILr_STATUS_CAP 7) && decide (t.regs = ((up.setRail 7 { limitDue := true })).regs)) = true := by decide +kernel

theorem test_SheddingAndCapability_3 : ((((up.setPhase 95 { rail := 0 }).setf F.PHp_CFG_EN 95 1)).vgov = true)
  ∧ ((((up.setPhase 95 { rail := 0 }).setf F.PHp_CFG_EN 95 1)).due 8 0 100 0 = true)
  ∧ okNext .phaseCapacityReport (((up.setPhase 95 { rail := 0 }).setf F.PHp_CFG_EN 95 1)) (fun t => decide (t.crd.fracDen = 256 * (((((up.setPhase 95 { rail := 0 }).setf F.PHp_CFG_EN 95 1)).enabledOf 0).map (fun p => ((((up.setPhase 95 { rail := 0 }).setf F.PHp_CFG_EN 95 1)).phase p).irate)).sum) && decide ((t.crd.fracDen ≠ 0 → t.crd.fracNum = (((up.setPhase 95 { rail := 0 }).setf F.PHp_CFG_EN 95 1)).capOfRail 0)) && decide ({ t with crd := (((up.setPhase 95 { rail := 0 }).setf F.PHp_CFG_EN 95 1)).crd, served := (((up.setPhase 95 { rail := 0 }).setf F.PHp_CFG_EN 95 1)).served } = (((up.setPhase 95 { rail := 0 }).setf F.PHp_CFG_EN 95 1)))) = true := by decide +kernel

def brk : State := (((act2 up).setf F.PHRAILr_BRAKE_BRAKE_EN 7 1).setf F.RAILr_STATUS_STATE 7 2).setf F.PHRAILr_BRAKE_BRAKE_MV 7 63

theorem test_SheddingAndCapability_4 : (brk.railUp 7 = true)
  ∧ (brk.on F.PHRAILr_BRAKE_BRAKE_EN 7 = true)
  ∧ (brk.on F.PHRAILr_STATUS_BRAKING 7 = false)
  ∧ ((brk.rail 7).brakeBlock = false)
  ∧ (brk.f F.RAILr_SETPT_SETPT 7 + brk.brakeMv 7 < ((brk.f F.RAILr_SETPT_SETPT 7 + 961)))
  ∧ okNext (.brakeStart 7 ((brk.f F.RAILr_SETPT_SETPT 7 + 961))) brk (fun t => decide (t.on F.PHRAILr_STATUS_BRAKING 7 = true) && decide ((t.rail 7).brakeAt = some brk.now) && decide (∀ p ∈ brk.phasesOf 7, (t.phase p).en = false ∧ (t.phase p).pwm = false ∧ t.phSt p = brk.phSt p)) = true := by decide +kernel

def brk1 : State := ((act2 up).setf F.PHRAILr_STATUS_BRAKING 7 1).setRail 7 { brakeAt := some 0, brakeBlock := true }

theorem test_SheddingAndCapability_5 : ((brk1.setf F.RAILr_SETPT_SETPT 7 9000).railUp 7 = true)
  ∧ ((brk1.setf F.RAILr_SETPT_SETPT 7 9000).brakeOver 7 0 = true)
  ∧ okNext (.brakeEnd 7 0) (brk1.setf F.RAILr_SETPT_SETPT 7 9000) (fun t => decide (t.on F.PHRAILr_STATUS_BRAKING 7 = false) && decide ((t.rail 7).brakeAt = none) && decide ((t.rail 7).brakeBlock = false) && decide (∀ p ∈ (brk1.setf F.RAILr_SETPT_SETPT 7 9000).phasesOf 7, (brk1.setf F.RAILr_SETPT_SETPT 7 9000).phSt p = PH_PROBE → (t.phase p).pwm = true)) = true := by decide +kernel

theorem test_SheddingAndCapability_6 : ((brk1.rail 7).brakeAt = some ((0 : Word64)))
  ∧ (brk1.railUp 7 = true)
  ∧ (brk1.passed ((0 : Word64)) (max 1 (brk1.f F.PHRAILr_BRAKE_BRAKE_MAX_US 7) * 1000) = true)
  ∧ okNext (.brakeTimeout 7) brk1 (fun t => decide (t.on F.PHRAILr_STATUS_BRAKING 7 = false) && decide ((t.rail 7).brakeAt = none) && decide ((t.rail 7).brakeBlock = true)) = true := by decide +kernel

def syn : State := (up.setf F.PH_SYNC_SYNC_EN 0 1)

theorem test_PhaseTimebase_0 : (syn.vgov = true)
  ∧ (0 < 1000000)
  ∧ (syn.syncValid 1000000 = true)
  ∧ okNext (.syncEdge 1000000) syn (fun t => decide (t.ph.tb.lastEdge = some (syn.now, 1000000)) && decide (t.ph.tb.periods = (1000000 :: syn.ph.tb.periods).take 8) && decide (t.on F.PH_SYNC_STATUS_SYNC_BAD = syn.on F.PH_SYNC_STATUS_SYNC_BAD) && decide (t.ph.tb.acq = (!syn.on F.PH_SYNC_STATUS_LOCKED && (syn.ph.tb.acq || periodsAgree ((1000000 :: syn.ph.tb.periods).take 8)))) && decide ((t.ph.tb.acq = true → syn.ph.tb.acq = true → syn.fswNow = syn.ph.tb.target → t.ph.tb.off.isSome = true)) && decide ((syn.ph.tb.acq = false → t.ph.tb.off = none ∧ t.ph.tb.nco = syn.tbPhase))) = true := by decide +kernel

theorem test_PhaseTimebase_1 : (({ syn with ph := { syn.ph with tb := { syn.ph.tb with periods := [1000000] } } }).vgov = true)
  ∧ (0 < 5000001)
  ∧ (({ syn with ph := { syn.ph with tb := { syn.ph.tb with periods := [1000000] } } }).syncValid 5000001 = false)
  ∧ okNext (.syncEdge 5000001) ({ syn with ph := { syn.ph with tb := { syn.ph.tb with periods := [1000000] } } }) (fun t => decide (t.on F.PH_SYNC_STATUS_SYNC_BAD = true) && decide (t.ph.tb.periods = []) && decide (t.ph.tb.lastEdge = ({ syn with ph := { syn.ph with tb := { syn.ph.tb with periods := [1000000] } } }).ph.tb.lastEdge)) = true := by decide +kernel

def acq : State := { up with ph := { up.ph with tb := { up.ph.tb with acq := true, at_ := 1000000 } } }

theorem test_PhaseTimebase_2 : (({ acq with ph := { acq.ph with tb := { acq.ph.tb with off := some 1500 } } }).vgov = true)
  ∧ (({ acq with ph := { acq.ph with tb := { acq.ph.tb with off := some 1500 } } }).ph.tb.acq = true)
  ∧ (({ acq with ph := { acq.ph with tb := { acq.ph.tb with off := some 1500 } } }).ph.tb.off = some 1500)
  ∧ (1500 + 500 ≤ 2000)
  ∧ okNext (.syncLock 500) ({ acq with ph := { acq.ph with tb := { acq.ph.tb with off := some 1500 } } }) (fun t => decide (t.on F.PH_SYNC_STATUS_LOCKED = true) && decide (t.on F.PH_SYNC_STATUS_ON_INT = false) && decide (t.ph.tb.acq = false)) = true := by decide +kernel

theorem test_PhaseTimebase_3 : (({ up with ph := { up.ph with tb := { up.ph.tb with lastEdge := some (998000, 1000000) } } }).ph.tb.lastEdge = some (((998000 : Word64)), 1000000))
  ∧ (({ up with ph := { up.ph with tb := { up.ph.tb with lastEdge := some (998000, 1000000) } } }).vgov = true)
  ∧ (2 * 1000000 ≤ ({ up with ph := { up.ph with tb := { up.ph.tb with lastEdge := some (998000, 1000000) } } }).since ((998000 : Word64)) * 1000)
  ∧ okNext .syncLoss ({ up with ph := { up.ph with tb := { up.ph.tb with lastEdge := some (998000, 1000000) } } }) (fun t => decide (t.on F.PH_SYNC_STATUS_LOCKED = false) && decide (t.on F.PH_SYNC_STATUS_SYNC_LOST = true) && decide (t.on F.PH_SYNC_STATUS_ON_INT = true) && decide (t.ph.tb.target = ({ up with ph := { up.ph with tb := { up.ph.tb with lastEdge := some (998000, 1000000) } } }).fswKhz * 32) && decide (rep t 0x27 0)) = true := by decide +kernel

theorem test_PhaseLifecycle_0 : (((phx PH_OFF { rail := 7 } up)).portTakes R.PHp_CFG 95 = true)
  ∧ (((0x80000000 + 0x07000000 : Word)).getLsbD 31 = true)
  ∧ (((phx PH_OFF { rail := 7 } up)).phSt 95 = PH_OFF)
  ∧ okNext (.phaseEnableWrite true 95 ((0x80000000 + 0x07000000 : Word))) ((phx PH_OFF { rail := 7 } up)) (fun t => decide (t.phSt 95 = PH_PROBE) && decide (t.on F.PHp_CFG_EN 95 = true) && decide (((t.phase 95).rail : Nat) = getBits ((0x80000000 + 0x07000000 : Word)) 24 3) && decide (t.rsp.err = false)) = true := by decide +kernel

theorem test_PhaseLifecycle_1 : (((phx PH_STOPPING { rail := 7 } up)).portTakes R.PHp_CFG 95 = true)
  ∧ (((0x80000000 : Word)).getLsbD 31 = true)
  ∧ (((phx PH_STOPPING { rail := 7 } up)).phSt 95 = PH_STOPPING)
  ∧ okNext (.phaseEnableWrite true 95 ((0x80000000 : Word))) ((phx PH_STOPPING { rail := 7 } up)) (fun t => decide (t.phSt 95 = PH_STOPPING) && decide (t.on F.PHp_STATUS_PENDING_ENABLE 95 = true) && decide (t.on F.PHp_CFG_EN 95 = true)) = true := by decide +kernel

theorem test_PhaseLifecycle_2 : ((((phx PH_ACTIVE { rail := 7 } up).setf F.PHp_CFG_EN 95 1)).portTakes R.PHp_CFG 95 = true)
  ∧ (((0x07000000 : Word)).getLsbD 31 = false)
  ∧ ((((phx PH_ACTIVE { rail := 7 } up).setf F.PHp_CFG_EN 95 1)).phSt 95 ≠ PH_OFF)
  ∧ ((((phx PH_ACTIVE { rail := 7 } up).setf F.PHp_CFG_EN 95 1)).phSt 95 ≠ PH_STOPPING)
  ∧ ((((phx PH_ACTIVE { rail := 7 } up).setf F.PHp_CFG_EN 95 1)).on F.PHp_STATUS_DISABLE_HELD 95 = false)
  ∧ okNext (.phaseDisableWrite true 95 ((0x07000000 : Word))) (((phx PH_ACTIVE { rail := 7 } up).setf F.PHp_CFG_EN 95 1)) (fun t => decide (t.on F.PHp_CFG_EN 95 = false) && decide (((((phx PH_ACTIVE { rail := 7 } up).setf F.PHp_CFG_EN 95 1)).canDisable 95 = true → t.phSt 95 = PH_STOPPING)) && decide (((((phx PH_ACTIVE { rail := 7 } up).setf F.PHp_CFG_EN 95 1)).canDisable 95 = false → t.phSt 95 = (((phx PH_ACTIVE { rail := 7 } up).setf F.PHp_CFG_EN 95 1)).phSt 95 ∧ t.on F.PHp_STATUS_DISABLE_HELD 95 = true))) = true := by decide +kernel

def dis1 : State := ((phx PH_ACTIVE { rail := 7 } up).setf F.PHp_CFG_EN 95 1).setf F.RAILr_STATUS_STATE 7 2 |>.setRail 7 { cur := [800], leff := 800 }

theorem test_PhaseLifecycle_2_held : (dis1.portTakes R.PHp_CFG 95 = true)
  ∧ (((0x07000000 : Word)).getLsbD 31 = false)
  ∧ (dis1.phSt 95 ≠ PH_OFF)
  ∧ (dis1.phSt 95 ≠ PH_STOPPING)
  ∧ (dis1.on F.PHp_STATUS_DISABLE_HELD 95 = false)
  ∧ okNext (.phaseDisableWrite true 95 ((0x07000000 : Word))) dis1 (fun t => decide (t.on F.PHp_CFG_EN 95 = false) && decide ((dis1.canDisable 95 = true → t.phSt 95 = PH_STOPPING)) && decide ((dis1.canDisable 95 = false → t.phSt 95 = dis1.phSt 95 ∧ t.on F.PHp_STATUS_DISABLE_HELD 95 = true))) = true
  ∧ (dis1.canDisable 95 = false) := by decide +kernel

theorem test_PhaseLifecycle_3 : ((((phx PH_ACTIVE { rail := 7 } up).setf F.PHp_STATUS_DISABLE_HELD 95 1)).phaseUp 95 = true)
  ∧ ((((phx PH_ACTIVE { rail := 7 } up).setf F.PHp_STATUS_DISABLE_HELD 95 1)).on F.PHp_STATUS_DISABLE_HELD 95 = true)
  ∧ ((((phx PH_ACTIVE { rail := 7 } up).setf F.PHp_STATUS_DISABLE_HELD 95 1)).canDisable 95 = true)
  ∧ okNext (.disableHeldApply 95) (((phx PH_ACTIVE { rail := 7 } up).setf F.PHp_STATUS_DISABLE_HELD 95 1)) (fun t => decide (t.phSt 95 = PH_STOPPING) && decide (t.on F.PHp_STATUS_DISABLE_HELD 95 = false) && decide (t.on F.PHp_CFG_EN 95 = false)) = true := by decide +kernel

theorem test_PhaseLifecycle_4 : (((phx PH_STOPPING { rail := 7 } up)).phaseUp 95 = true)
  ∧ (((phx PH_STOPPING { rail := 7 } up)).phSt 95 = PH_STOPPING)
  ∧ (((phx PH_STOPPING { rail := 7 } up)).phQuiet 95 4 = true)
  ∧ okNext (.phaseQuietPoint 95 4) ((phx PH_STOPPING { rail := 7 } up)) (fun t => decide (t.phSt 95 = (if ((phx PH_STOPPING { rail := 7 } up)).on F.PHp_STATUS_PENDING_ENABLE 95 then PH_PROBE else PH_OFF)) && decide (t.on F.PHp_STATUS_PENDING_ENABLE 95 = false)) = true := by decide +kernel

theorem test_PhaseLifecycle_4_again : ((((phx PH_STOPPING { rail := 7 } up).setf F.PHp_STATUS_PENDING_ENABLE 95 1)).phaseUp 95 = true)
  ∧ ((((phx PH_STOPPING { rail := 7 } up).setf F.PHp_STATUS_PENDING_ENABLE 95 1)).phSt 95 = PH_STOPPING)
  ∧ ((((phx PH_STOPPING { rail := 7 } up).setf F.PHp_STATUS_PENDING_ENABLE 95 1)).phQuiet 95 4 = true)
  ∧ okNext (.phaseQuietPoint 95 4) (((phx PH_STOPPING { rail := 7 } up).setf F.PHp_STATUS_PENDING_ENABLE 95 1)) (fun t => decide (t.phSt 95 = (if (((phx PH_STOPPING { rail := 7 } up).setf F.PHp_STATUS_PENDING_ENABLE 95 1)).on F.PHp_STATUS_PENDING_ENABLE 95 then PH_PROBE else PH_OFF)) && decide (t.on F.PHp_STATUS_PENDING_ENABLE 95 = false)) = true := by decide +kernel

theorem test_PhaseLifecycle_5 : (((phx PH_FAILED { rail := 7 } up)).portTakes R.PHp_STATUS 95 = true)
  ∧ (((0x00800000 : Word)).getLsbD 23 = true)
  ∧ (((phx PH_FAILED { rail := 7 } up)).phSt 95 = PH_FAILED)
  ∧ okNext (.phaseFailedReprobe true 95 ((0x00800000 : Word))) ((phx PH_FAILED { rail := 7 } up)) (fun t => decide (t.phSt 95 = PH_PROBE) && decide (t.on F.PHp_STATUS_FAILED 95 = false) && decide (t.rsp.err = false)) = true := by decide +kernel

theorem test_PhaseLifecycle_6 : (((phx PH_PROBE { rail := 7, idExp := 7 } up)).phaseUp 95 = true)
  ∧ (((phx PH_PROBE { rail := 7, idExp := 7 } up)).phSt 95 = PH_PROBE)
  ∧ (((phx PH_PROBE { rail := 7, idExp := 7 } up)).passed (((phx PH_PROBE { rail := 7, idExp := 7 } up)).phase 95).since 20000 = true)
  ∧ (80 < 81 ∨ tfId 1750 = some 0)
  ∧ okNext (.probeComplete 95 81 1750) ((phx PH_PROBE { rail := 7, idExp := 7 } up)) (fun t => decide (t.phSt 95 = PH_ABSENT)) = true := by decide +kernel

theorem test_PhaseLifecycle_6_noid : (((phx PH_PROBE { rail := 7, idExp := 7 } up)).phaseUp 95 = true)
  ∧ (((phx PH_PROBE { rail := 7, idExp := 7 } up)).phSt 95 = PH_PROBE)
  ∧ (((phx PH_PROBE { rail := 7, idExp := 7 } up)).passed (((phx PH_PROBE { rail := 7, idExp := 7 } up)).phase 95).since 20000 = true)
  ∧ (80 < 80 ∨ tfId 99 = some 0)
  ∧ okNext (.probeComplete 95 80 99) ((phx PH_PROBE { rail := 7, idExp := 7 } up)) (fun t => decide (t.phSt 95 = PH_ABSENT)) = true := by decide +kernel

theorem test_PhaseLifecycle_7 : (((phx PH_PROBE { rail := 7, idExp := 7 } up)).phaseUp 95 = true)
  ∧ (((phx PH_PROBE { rail := 7, idExp := 7 } up)).phSt 95 = PH_PROBE)
  ∧ (((phx PH_PROBE { rail := 7, idExp := 7 } up)).passed (((phx PH_PROBE { rail := 7, idExp := 7 } up)).phase 95).since 20000 = true)
  ∧ (80 ≤ 80)
  ∧ (tfId 1810 ≠ some 0)
  ∧ (tfId 1810 = some (((phx PH_PROBE { rail := 7, idExp := 7 } up)).phase 95).idExp)
  ∧ okNext (.probeComplete 95 80 1810) ((phx PH_PROBE { rail := 7, idExp := 7 } up)) (fun t => decide (t.phSt 95 = (if ((phx PH_PROBE { rail := 7, idExp := 7 } up)).railOn (((phx PH_PROBE { rail := 7, idExp := 7 } up)).phase 95).rail then PH_SOFT else PH_READY))) = true := by decide +kernel

theorem test_PhaseLifecycle_8 : (((phx PH_PROBE { rail := 7, idExp := 7 } up)).phaseUp 95 = true)
  ∧ (((phx PH_PROBE { rail := 7, idExp := 7 } up)).phSt 95 = PH_PROBE)
  ∧ (((phx PH_PROBE { rail := 7, idExp := 7 } up)).passed (((phx PH_PROBE { rail := 7, idExp := 7 } up)).phase 95).since 20000 = true)
  ∧ (80 ≤ 80)
  ∧ (tfId 1811 ≠ some 0)
  ∧ (tfId 1811 ≠ some (((phx PH_PROBE { rail := 7, idExp := 7 } up)).phase 95).idExp)
  ∧ okNext (.probeComplete 95 80 1811) ((phx PH_PROBE { rail := 7, idExp := 7 } up)) (fun t => decide (t.phSt 95 = PH_MISMATCH) && decide (rep t 0x26 95)) = true := by decide +kernel

theorem test_PhaseLifecycle_9 : (((phx PH_ABSENT { rail := 7, idExp := 7 } { up with time := { up.time with count := 10000000 } })).phaseUp 95 = true)
  ∧ (((phx PH_ABSENT { rail := 7, idExp := 7 } { up with time := { up.time with count := 10000000 } })).phSt 95 = PH_ABSENT)
  ∧ (((phx PH_ABSENT { rail := 7, idExp := 7 } { up with time := { up.time with count := 10000000 } })).passed (((phx PH_ABSENT { rail := 7, idExp := 7 } { up with time := { up.time with count := 10000000 } })).phase 95).since 10000000 = true)
  ∧ (80 < 81 ∨ (tfId 1750).getD 0 ≠ (((phx PH_ABSENT { rail := 7, idExp := 7 } { up with time := { up.time with count := 10000000 } })).phase 95).idExp)
  ∧ okNext (.absentProbe 95 81 1750) ((phx PH_ABSENT { rail := 7, idExp := 7 } { up with time := { up.time with count := 10000000 } })) (fun t => decide (t.phSt 95 = PH_ABSENT) && decide ((t.phase 95).matches_ = 0) && decide ((t.phase 95).since = ((phx PH_ABSENT { rail := 7, idExp := 7 } { up with time := { up.time with count := 10000000 } })).now)) = true := by decide +kernel

theorem test_PhaseLifecycle_10 : (((phx PH_ABSENT { rail := 7, idExp := 7 } { up with time := { up.time with count := 10000000 } })).phaseUp 95 = true)
  ∧ (((phx PH_ABSENT { rail := 7, idExp := 7 } { up with time := { up.time with count := 10000000 } })).phSt 95 = PH_ABSENT)
  ∧ (((phx PH_ABSENT { rail := 7, idExp := 7 } { up with time := { up.time with count := 10000000 } })).passed (((phx PH_ABSENT { rail := 7, idExp := 7 } { up with time := { up.time with count := 10000000 } })).phase 95).since 10000000 = true)
  ∧ (80 ≤ 80)
  ∧ ((tfId 1690).getD 0 = (((phx PH_ABSENT { rail := 7, idExp := 7 } { up with time := { up.time with count := 10000000 } })).phase 95).idExp)
  ∧ ((((phx PH_ABSENT { rail := 7, idExp := 7 } { up with time := { up.time with count := 10000000 } })).phase 95).matches_ = 0)
  ∧ okNext (.absentProbe 95 80 1690) ((phx PH_ABSENT { rail := 7, idExp := 7 } { up with time := { up.time with count := 10000000 } })) (fun t => decide (t.phSt 95 = PH_ABSENT) && decide ((t.phase 95).matches_ = 1)) = true := by decide +kernel

theorem test_PhaseLifecycle_11 : ((((phx PH_ABSENT { rail := 7, idExp := 7, matches_ := 1 } { up with time := { up.time with count := 10000000 } }).setf F.PHp_CFG_AUTO_READMIT 95 1)).phaseUp 95 = true)
  ∧ ((((phx PH_ABSENT { rail := 7, idExp := 7, matches_ := 1 } { up with time := { up.time with count := 10000000 } }).setf F.PHp_CFG_AUTO_READMIT 95 1)).phSt 95 = PH_ABSENT)
  ∧ ((((phx PH_ABSENT { rail := 7, idExp := 7, matches_ := 1 } { up with time := { up.time with count := 10000000 } }).setf F.PHp_CFG_AUTO_READMIT 95 1)).passed ((((phx PH_ABSENT { rail := 7, idExp := 7, matches_ := 1 } { up with time := { up.time with count := 10000000 } }).setf F.PHp_CFG_AUTO_READMIT 95 1)).phase 95).since 10000000 = true)
  ∧ (80 ≤ 80)
  ∧ ((tfId 1690).getD 0 = ((((phx PH_ABSENT { rail := 7, idExp := 7, matches_ := 1 } { up with time := { up.time with count := 10000000 } }).setf F.PHp_CFG_AUTO_READMIT 95 1)).phase 95).idExp)
  ∧ (((((phx PH_ABSENT { rail := 7, idExp := 7, matches_ := 1 } { up with time := { up.time with count := 10000000 } }).setf F.PHp_CFG_AUTO_READMIT 95 1)).phase 95).matches_ = 1)
  ∧ ((((phx PH_ABSENT { rail := 7, idExp := 7, matches_ := 1 } { up with time := { up.time with count := 10000000 } }).setf F.PHp_CFG_AUTO_READMIT 95 1)).on F.PHp_CFG_AUTO_READMIT 95 = true)
  ∧ (((((phx PH_ABSENT { rail := 7, idExp := 7, matches_ := 1 } { up with time := { up.time with count := 10000000 } }).setf F.PHp_CFG_AUTO_READMIT 95 1)).phase 95).readmits = [])
  ∧ okNext (.absentProbe 95 80 1690) (((phx PH_ABSENT { rail := 7, idExp := 7, matches_ := 1 } { up with time := { up.time with count := 10000000 } }).setf F.PHp_CFG_AUTO_READMIT 95 1)) (fun t => decide (t.phSt 95 = (if (((phx PH_ABSENT { rail := 7, idExp := 7, matches_ := 1 } { up with time := { up.time with count := 10000000 } }).setf F.PHp_CFG_AUTO_READMIT 95 1)).railOn ((((phx PH_ABSENT { rail := 7, idExp := 7, matches_ := 1 } { up with time := { up.time with count := 10000000 } }).setf F.PHp_CFG_AUTO_READMIT 95 1)).phase 95).rail then PH_SOFT else PH_READY))) = true := by decide +kernel

def re12 : State := (phx PH_ABSENT { rail := 7, idExp := 7, matches_ := 1, readmits := [5, 6] } { up with time := { up.time with count := 10000000 } }).setf F.PHp_CFG_AUTO_READMIT 95 1

theorem test_PhaseLifecycle_12 : (re12.phaseUp 95 = true)
  ∧ (re12.phSt 95 = PH_ABSENT)
  ∧ (re12.passed (re12.phase 95).since 10000000 = true)
  ∧ (80 ≤ 80)
  ∧ ((tfId 1690).getD 0 = (re12.phase 95).idExp)
  ∧ ((re12.phase 95).matches_ = 1)
  ∧ (re12.on F.PHp_CFG_AUTO_READMIT 95 = true)
  ∧ okNext (.absentProbe 95 80 1690) re12 (fun t => decide (t.phSt 95 = PH_FAILED) && decide (rep t 0x26 95)) = true
  ∧ ((re12.phase 95).readmits = [5, 6] ∧ re12.since 5 < 1000000000 ∧ re12.since 6 < 1000000000) := by decide +kernel

def rl (st : Nat) (x : RailSt) (s : State) : State := (s.setRail 7 x).setf F.RAILr_STATUS_STATE 7 st

def onr (s : State) : State := s.setf F.RAILr_CTRL_ON 7 1

def ph7 (s : State) : State := (s.setPhase 95 { rail := 7 }).setf F.PHp_CFG_EN 95 1

theorem test_RailTargetsAndControl_0_400 : (((rl 2 {} up)).portTakes R.RAILr_TARGET 7 = true)
  ∧ (400 ≤ getBits ((400 : Word)) 0 12)
  ∧ (getBits ((400 : Word)) 0 12 ≤ 3600)
  ∧ (((rl 2 {} up)).trackMode 7 ≠ 1)
  ∧ okNext (.railTargetWrite true 7 ((400 : Word))) ((rl 2 {} up)) (fun t => decide (t.f F.RAILr_TARGET_CODE 7 = getBits ((400 : Word)) 0 12) && decide (t.rsp.err = false) && decide ((t.f F.RAILr_TARGET_STATUS 7 = 1 ∨ t.f F.RAILr_TARGET_STATUS 7 = 2)) && decide ((((rl 2 {} up)).railOn 7 = true → (t.rail 7).target = (if (((rl 2 {} up)).rail 7).toZero then 0 else codeU (t.f F.RAILr_EFF_CODE 7))))) = true := by decide +kernel

theorem test_RailTargetsAndControl_0_3600 : (((rl 2 {} up)).portTakes R.RAILr_TARGET 7 = true)
  ∧ (400 ≤ getBits ((3600 : Word)) 0 12)
  ∧ (getBits ((3600 : Word)) 0 12 ≤ 3600)
  ∧ (((rl 2 {} up)).trackMode 7 ≠ 1)
  ∧ okNext (.railTargetWrite true 7 ((3600 : Word))) ((rl 2 {} up)) (fun t => decide (t.f F.RAILr_TARGET_CODE 7 = getBits ((3600 : Word)) 0 12) && decide (t.rsp.err = false) && decide ((t.f F.RAILr_TARGET_STATUS 7 = 1 ∨ t.f F.RAILr_TARGET_STATUS 7 = 2)) && decide ((((rl 2 {} up)).railOn 7 = true → (t.rail 7).target = (if (((rl 2 {} up)).rail 7).toZero then 0 else codeU (t.f F.RAILr_EFF_CODE 7))))) = true := by decide +kernel

theorem test_RailTargetsAndControl_0_zero : (((rl 1 { toZero := true } up)).portTakes R.RAILr_TARGET 7 = true)
  ∧ (400 ≤ getBits ((800 : Word)) 0 12)
  ∧ (getBits ((800 : Word)) 0 12 ≤ 3600)
  ∧ (((rl 1 { toZero := true } up)).trackMode 7 ≠ 1)
  ∧ okNext (.railTargetWrite true 7 ((800 : Word))) ((rl 1 { toZero := true } up)) (fun t => decide (t.f F.RAILr_TARGET_CODE 7 = getBits ((800 : Word)) 0 12) && decide (t.rsp.err = false) && decide ((t.f F.RAILr_TARGET_STATUS 7 = 1 ∨ t.f F.RAILr_TARGET_STATUS 7 = 2)) && decide ((((rl 1 { toZero := true } up)).railOn 7 = true → (t.rail 7).target = (if (((rl 1 { toZero := true } up)).rail 7).toZero then 0 else codeU (t.f F.RAILr_EFF_CODE 7))))) = true := by decide +kernel

theorem test_RailTargetsAndControl_1_399 : (((rl 2 {} up)).portTakes R.RAILr_TARGET 7 = true)
  ∧ (getBits ((399 : Word)) 0 12 < 400 ∨ 3600 < getBits ((399 : Word)) 0 12 ∨ ((rl 2 {} up)).trackMode 7 = 1)
  ∧ okNext (.railTargetWrite true 7 ((399 : Word))) ((rl 2 {} up)) (fun t => decide (t.f F.RAILr_TARGET_CODE 7 = ((rl 2 {} up)).f F.RAILr_TARGET_CODE 7) && decide (t.f F.RAILr_TARGET_STATUS 7 = 3) && decide (t.rsp.err = false) && decide ({ t with regs := ((rl 2 {} up)).regs, rsp := ((rl 2 {} up)).rsp } = ((rl 2 {} up)))) = true := by decide +kernel

theorem test_RailTargetsAndControl_1_3601 : (((rl 2 {} up)).portTakes R.RAILr_TARGET 7 = true)
  ∧ (getBits ((3601 : Word)) 0 12 < 400 ∨ 3600 < getBits ((3601 : Word)) 0 12 ∨ ((rl 2 {} up)).trackMode 7 = 1)
  ∧ okNext (.railTargetWrite true 7 ((3601 : Word))) ((rl 2 {} up)) (fun t => decide (t.f F.RAILr_TARGET_CODE 7 = ((rl 2 {} up)).f F.RAILr_TARGET_CODE 7) && decide (t.f F.RAILr_TARGET_STATUS 7 = 3) && decide (t.rsp.err = false) && decide ({ t with regs := ((rl 2 {} up)).regs, rsp := ((rl 2 {} up)).rsp } = ((rl 2 {} up)))) = true := by decide +kernel

theorem test_RailTargetsAndControl_2 : (((rl 0 {} (ph7 up))).portTakes R.RAILr_CTRL 7 = true)
  ∧ (((0x80000000 : Word)).getLsbD 31 = true)
  ∧ (((rl 0 {} (ph7 up))).on F.RAILr_CTRL_ON 7 = false)
  ∧ (((rl 0 {} (ph7 up))).seqBusy = false)
  ∧ (((rl 0 {} (ph7 up))).safeHolds 7 = false)
  ∧ (((rl 0 {} (ph7 up))).railSt 7 = 0)
  ∧ (((rl 0 {} (ph7 up))).enabledOf 7 ≠ [])
  ∧ okNext (.railOnWrite true 7 ((0x80000000 : Word))) ((rl 0 {} (ph7 up))) (fun t => decide (t.railSt 7 = 1) && decide (t.on F.RAILr_CTRL_ON 7 = true) && decide (t.rsp.err = false)) = true := by decide +kernel

theorem test_RailTargetsAndControl_3 : (((rl 0 {} up)).portTakes R.RAILr_CTRL 7 = true)
  ∧ (((0x80000000 : Word)).getLsbD 31 = true)
  ∧ (((rl 0 {} up)).on F.RAILr_CTRL_ON 7 = false)
  ∧ (((rl 0 {} up)).seqBusy = false)
  ∧ (((rl 0 {} up)).safeHolds 7 = false)
  ∧ (((rl 0 {} up)).railSt 7 = 0)
  ∧ (((rl 0 {} up)).enabledOf 7 = [])
  ∧ okNext (.railOnWrite true 7 ((0x80000000 : Word))) ((rl 0 {} up)) (fun t => decide (t.railSt 7 = 0) && decide (t.on F.RAILr_CTRL_ON 7 = false) && decide (rep t 0x2A 7)) = true := by decide +kernel

theorem test_RailTargetsAndControl_4 : (((rl 2 {} (onr (ph7 up)))).portTakes R.RAILr_CTRL 7 = true)
  ∧ (((0 : Word)).getLsbD 31 = false)
  ∧ (((rl 2 {} (onr (ph7 up)))).on F.RAILr_CTRL_ON 7 = true)
  ∧ (((rl 2 {} (onr (ph7 up)))).seqBusy = false)
  ∧ (((rl 2 {} (onr (ph7 up)))).railOn 7 = true)
  ∧ okNext (.railOffWrite true 7 ((0 : Word))) ((rl 2 {} (onr (ph7 up)))) (fun t => decide (t.railSt 7 = 3) && decide (t.on F.RAILr_CTRL_ON 7 = false) && decide (t.rsp.err = false)) = true := by decide +kernel

theorem test_RailTargetsAndControl_5 : (((rl 5 {} (onr (ph7 up)))).portTakes R.RAILr_CTRL 7 = true)
  ∧ (((0 : Word)).getLsbD 31 = false)
  ∧ (((rl 5 {} (onr (ph7 up)))).on F.RAILr_CTRL_ON 7 = true)
  ∧ (((rl 5 {} (onr (ph7 up)))).seqBusy = false)
  ∧ (((rl 5 {} (onr (ph7 up)))).railSt 7 = 4 ∨ ((rl 5 {} (onr (ph7 up)))).railSt 7 = 5)
  ∧ okNext (.railOffWrite true 7 ((0 : Word))) ((rl 5 {} (onr (ph7 up)))) (fun t => decide (t.on F.RAILr_CTRL_ON 7 = false) && decide (t.railSt 7 = (if (((rl 5 {} (onr (ph7 up)))).phasesOf 7).all (fun p => ((rl 5 {} (onr (ph7 up)))).phLow p) then 0 else ((rl 5 {} (onr (ph7 up)))).railSt 7)) && decide (((((rl 5 {} (onr (ph7 up)))).phasesOf 7).all (fun p => ((rl 5 {} (onr (ph7 up)))).phLow p) = false → (t.rail 7).offWait = true))) = true := by decide +kernel

def enPh : State := phx PH_ACTIVE { rail := 7, en := true } (ph7 up)

theorem test_RailTargetsAndControl_5_wait : (((rl 4 {} (onr enPh))).portTakes R.RAILr_CTRL 7 = true)
  ∧ (((0 : Word)).getLsbD 31 = false)
  ∧ (((rl 4 {} (onr enPh))).on F.RAILr_CTRL_ON 7 = true)
  ∧ (((rl 4 {} (onr enPh))).seqBusy = false)
  ∧ (((rl 4 {} (onr enPh))).railSt 7 = 4 ∨ ((rl 4 {} (onr enPh))).railSt 7 = 5)
  ∧ okNext (.railOffWrite true 7 ((0 : Word))) ((rl 4 {} (onr enPh))) (fun t => decide (t.on F.RAILr_CTRL_ON 7 = false) && decide (t.railSt 7 = (if (((rl 4 {} (onr enPh))).phasesOf 7).all (fun p => ((rl 4 {} (onr enPh))).phLow p) then 0 else ((rl 4 {} (onr enPh))).railSt 7)) && decide (((((rl 4 {} (onr enPh))).phasesOf 7).all (fun p => ((rl 4 {} (onr enPh))).phLow p) = false → (t.rail 7).offWait = true))) = true
  ∧ (((rl 4 {} (onr enPh)).phasesOf 7).all (fun p => (rl 4 {} (onr enPh)).phLow p) = false) := by decide +kernel

def sqb : State := rl 2 {} (onr (up.setf F.SEQ_STATUS_STATE 0 3))

theorem test_RailTargetsAndControl_6 : (sqb.portTakes R.RAILr_CTRL 7 = true)
  ∧ (((0 : Word)).getLsbD 31 ≠ sqb.on F.RAILr_CTRL_ON 7)
  ∧ (sqb.seqBusy = true)
  ∧ okNext (.railOnWrite true 7 ((0 : Word))) sqb (fun t => decide (t.rsp.err = true) && decide (t.on F.RAILr_CTRL_ON 7 = sqb.on F.RAILr_CTRL_ON 7) && decide (t.railSt 7 = sqb.railSt 7)) = true := by decide +kernel

theorem test_RailTargetsAndControl_7 : (sqb.portTakes R.RAILr_CTRL 7 = true)
  ∧ (((0 : Word)).getLsbD 31 ≠ sqb.on F.RAILr_CTRL_ON 7)
  ∧ (sqb.seqBusy = true)
  ∧ okNext (.railOffWrite true 7 ((0 : Word))) sqb (fun t => decide (t.rsp.err = true) && decide (t.on F.RAILr_CTRL_ON 7 = sqb.on F.RAILr_CTRL_ON 7) && decide (t.railSt 7 = sqb.railSt 7)) = true := by decide +kernel

theorem test_RailTargetsAndControl_8 : (((rl 2 {} (onr up))).portTakes R.RAILr_CTRL 7 = true)
  ∧ (((0xA0000000 : Word)).getLsbD 31 = ((rl 2 {} (onr up))).on F.RAILr_CTRL_ON 7)
  ∧ (((0xA0000000 : Word)).getLsbD 29 ≠ ((rl 2 {} (onr up))).on F.RAILr_CTRL_COEF_HOLD 7)
  ∧ okNext (.railCoefHold true 7 ((0xA0000000 : Word))) ((rl 2 {} (onr up))) (fun t => decide (t.on F.RAILr_CTRL_COEF_HOLD 7 = ((0xA0000000 : Word)).getLsbD 29) && decide (t.railSt 7 = ((rl 2 {} (onr up))).railSt 7) && decide ((t.rail 7).held = (if ((0xA0000000 : Word)).getLsbD 29 then some (((rl 2 {} (onr up))).coefRegs 7) else none)) && decide (t.coefRegs 7 = ((rl 2 {} (onr up))).coefRegs 7) && decide (t.rsp.err = false)) = true := by decide +kernel

theorem test_RailSamplesAndProfiles_0 : (((rl 2 { vset := 768000 } (ph7 up))).railUp 7 = true)
  ∧ okNext (.railSample 7 5999 0 240 ([])) ((rl 2 { vset := 768000 } (ph7 up))) (fun t => decide ((((rl 2 { vset := 768000 } (ph7 up))).on F.PHRAILr_STATUS_BRAKING 7 = false → (t.rail 7).e = (clampInt (-512) 511 (((rl 2 { vset := 768000 } (ph7 up))).fineError 7 (if ((rl 2 { vset := 768000 } (ph7 up))).on F.RAILr_STATUS_RS_LOST 7 then 5999 - 0 else 5999)) :: (((rl 2 { vset := 768000 } (ph7 up))).rail 7).e).take 4 ∧ (t.rail 7).y = (compensate (((rl 2 { vset := 768000 } (ph7 up))).coefs 7) (t.rail 7).e (((rl 2 { vset := 768000 } (ph7 up))).rail 7).y :: (((rl 2 { vset := 768000 } (ph7 up))).rail 7).y).take 3)) && decide ((((rl 2 { vset := 768000 } (ph7 up))).on F.PHRAILr_STATUS_BRAKING 7 = true → (t.rail 7).e = (((rl 2 { vset := 768000 } (ph7 up))).rail 7).e ∧ (t.rail 7).y = (((rl 2 { vset := 768000 } (ph7 up))).rail 7).y)) && decide (t.f F.RAILr_CMD_ICMD 7 ≤ 20480)) = true := by decide +kernel

theorem test_RailSamplesAndProfiles_0_brake : (((rl 2 { vset := 768000 } ((ph7 up).setf F.PHRAILr_STATUS_BRAKING 7 1))).railUp 7 = true)
  ∧ okNext (.railSample 7 6100 0 240 ([])) ((rl 2 { vset := 768000 } ((ph7 up).setf F.PHRAILr_STATUS_BRAKING 7 1))) (fun t => decide ((((rl 2 { vset := 768000 } ((ph7 up).setf F.PHRAILr_STATUS_BRAKING 7 1))).on F.PHRAILr_STATUS_BRAKING 7 = false → (t.rail 7).e = (clampInt (-512) 511 (((rl 2 { vset := 768000 } ((ph7 up).setf F.PHRAILr_STATUS_BRAKING 7 1))).fineError 7 (if ((rl 2 { vset := 768000 } ((ph7 up).setf F.PHRAILr_STATUS_BRAKING 7 1))).on F.RAILr_STATUS_RS_LOST 7 then 6100 - 0 else 6100)) :: (((rl 2 { vset := 768000 } ((ph7 up).setf F.PHRAILr_STATUS_BRAKING 7 1))).rail 7).e).take 4 ∧ (t.rail 7).y = (compensate (((rl 2 { vset := 768000 } ((ph7 up).setf F.PHRAILr_STATUS_BRAKING 7 1))).coefs 7) (t.rail 7).e (((rl 2 { vset := 768000 } ((ph7 up).setf F.PHRAILr_STATUS_BRAKING 7 1))).rail 7).y :: (((rl 2 { vset := 768000 } ((ph7 up).setf F.PHRAILr_STATUS_BRAKING 7 1))).rail 7).y).take 3)) && decide ((((rl 2 { vset := 768000 } ((ph7 up).setf F.PHRAILr_STATUS_BRAKING 7 1))).on F.PHRAILr_STATUS_BRAKING 7 = true → (t.rail 7).e = (((rl 2 { vset := 768000 } ((ph7 up).setf F.PHRAILr_STATUS_BRAKING 7 1))).rail 7).e ∧ (t.rail 7).y = (((rl 2 { vset := 768000 } ((ph7 up).setf F.PHRAILr_STATUS_BRAKING 7 1))).rail 7).y)) && decide (t.f F.RAILr_CMD_ICMD 7 ≤ 20480)) = true := by decide +kernel

theorem test_RailSamplesAndProfiles_1 : (((rl 2 { vset := 768000 } (((ph7 up).setf F.RAILr_STATUS_PG 7 1).setf F.RAILr_PROT_PG_MV 7 63))).railUp 7 = true)
  ∧ (((rl 2 { vset := 768000 } (((ph7 up).setf F.RAILr_STATUS_PG 7 1).setf F.RAILr_PROT_PG_MV 7 63))).railSt 7 = 2)
  ∧ (((rl 2 { vset := 768000 } (((ph7 up).setf F.RAILr_STATUS_PG 7 1).setf F.RAILr_PROT_PG_MV 7 63))).on F.RAILr_STATUS_PG 7 = true)
  ∧ (((rl 2 { vset := 768000 } (((ph7 up).setf F.RAILr_STATUS_PG 7 1).setf F.RAILr_PROT_PG_MV 7 63))).on F.RAILr_STATUS_RS_LOST 7 = false)
  ∧ (¬(-(8 * min (((rl 2 { vset := 768000 } (((ph7 up).setf F.RAILr_STATUS_PG 7 1).setf F.RAILr_PROT_PG_MV 7 63))).f F.RAILr_PROT_PG_MV 7) 64 : Int) ≤ clampInt (-512) 511 (((rl 2 { vset := 768000 } (((ph7 up).setf F.RAILr_STATUS_PG 7 1).setf F.RAILr_PROT_PG_MV 7 63))).fineError 7 6505) ∧
      clampInt (-512) 511 (((rl 2 { vset := 768000 } (((ph7 up).setf F.RAILr_STATUS_PG 7 1).setf F.RAILr_PROT_PG_MV 7 63))).fineError 7 6505) ≤ 8 * min (((rl 2 { vset := 768000 } (((ph7 up).setf F.RAILr_STATUS_PG 7 1).setf F.RAILr_PROT_PG_MV 7 63))).f F.RAILr_PROT_PG_MV 7) 64))
  ∧ okNext (.railSample 7 6505 0 240 ([])) ((rl 2 { vset := 768000 } (((ph7 up).setf F.RAILr_STATUS_PG 7 1).setf F.RAILr_PROT_PG_MV 7 63))) (fun t => decide (t.on F.RAILr_STATUS_PG 7 = false) && decide (t.on F.RAILr_STATUS_PG_LOST 7 = true) && decide (rep t 0x2B 7) && decide (t.railSt 7 = 2)) = true := by decide +kernel

theorem test_RailSamplesAndProfiles_2 : (((rl 2 { vset := 768000, target := 769000 } (ph7 up))).railUp 7 = true)
  ∧ (((rl 2 { vset := 768000, target := 769000 } (ph7 up))).genRuns 7 = true)
  ∧ okNext (.profileStep 7) ((rl 2 { vset := 768000, target := 769000 } (ph7 up))) (fun t => decide ((t.rail 7).vset = (genStep ((((rl 2 { vset := 768000, target := 769000 } (ph7 up))).recompose 7).rail 7) (((rl 2 { vset := 768000, target := 769000 } (ph7 up))).velMax 7) (max 1 (((rl 2 { vset := 768000, target := 769000 } (ph7 up))).f F.RAILr_PROFILE_ACC 7)) (max 1 (((rl 2 { vset := 768000, target := 769000 } (ph7 up))).f F.RAILr_PROFILE_JERK 7))).vset) && decide (t.on F.RAILr_STATUS_SLEWING 7 = !(t.rail 7).arrived) && decide (t.railSt 7 = ((rl 2 { vset := 768000, target := 769000 } (ph7 up))).railSt 7)) = true := by decide +kernel

theorem test_RailTripsAndRestarts_0 : ((((rl 2 { ocAt := some 0 } ((ph7 up).setf F.CRD_CLAMP_STATUS_ACTIVE 0 1))).rail 7).ocAt = some ((0 : Word64)))
  ∧ (((rl 2 { ocAt := some 0 } ((ph7 up).setf F.CRD_CLAMP_STATUS_ACTIVE 0 1))).railUp 7 = true)
  ∧ (((rl 2 { ocAt := some 0 } ((ph7 up).setf F.CRD_CLAMP_STATUS_ACTIVE 0 1))).railOn 7 = true)
  ∧ (((rl 2 { ocAt := some 0 } ((ph7 up).setf F.CRD_CLAMP_STATUS_ACTIVE 0 1))).clamped = true)
  ∧ (((rl 2 { ocAt := some 0 } ((ph7 up).setf F.CRD_CLAMP_STATUS_ACTIVE 0 1))).passed ((0 : Word64)) (max 1 (((rl 2 { ocAt := some 0 } ((ph7 up).setf F.CRD_CLAMP_STATUS_ACTIVE 0 1))).f F.PHRAILr_OC_OC_PERSIST_US 7) * 1000) = true)
  ∧ okNext (.railOcHiccup 7) ((rl 2 { ocAt := some 0 } ((ph7 up).setf F.CRD_CLAMP_STATUS_ACTIVE 0 1))) (fun t => decide (t.railSt 7 = 4) && decide (rep t 0x28 7) && decide (t.on F.PHRAILr_STATUS_OC_HICCUP 7 = true)) = true := by decide +kernel

theorem test_RailTripsAndRestarts_1 : (((rl 4 {} (onr (ph7 { up with time := { up.time with count := 2000000000 } })))).railUp 7 = true)
  ∧ (((rl 4 {} (onr (ph7 { up with time := { up.time with count := 2000000000 } })))).railSt 7 = 4)
  ∧ ((((rl 4 {} (onr (ph7 { up with time := { up.time with count := 2000000000 } })))).rail 7).withLeader = false)
  ∧ ((((rl 4 {} (onr (ph7 { up with time := { up.time with count := 2000000000 } })))).rail 7).offWait = false)
  ∧ (((rl 4 {} (onr (ph7 { up with time := { up.time with count := 2000000000 } })))).passed (((rl 4 {} (onr (ph7 { up with time := { up.time with count := 2000000000 } })))).rail 7).since (max 1 (((rl 4 {} (onr (ph7 { up with time := { up.time with count := 2000000000 } })))).f F.PHRAILr_OC_OC_HICCUP_MS 7) * 1000000) = true)
  ∧ (((rl 4 {} (onr (ph7 { up with time := { up.time with count := 2000000000 } })))).enabledOf 7 ≠ [])
  ∧ okNext (.railHiccupExpire 7) ((rl 4 {} (onr (ph7 { up with time := { up.time with count := 2000000000 } })))) (fun t => decide (t.railSt 7 = 1)) = true := by decide +kernel

theorem test_RailTripsAndRestarts_2 : (((rl 4 {} (onr ({ up with time := { up.time with count := 2000000000 } })))).railUp 7 = true)
  ∧ (((rl 4 {} (onr ({ up with time := { up.time with count := 2000000000 } })))).railSt 7 = 4)
  ∧ ((((rl 4 {} (onr ({ up with time := { up.time with count := 2000000000 } })))).rail 7).withLeader = false)
  ∧ ((((rl 4 {} (onr ({ up with time := { up.time with count := 2000000000 } })))).rail 7).offWait = false)
  ∧ (((rl 4 {} (onr ({ up with time := { up.time with count := 2000000000 } })))).passed (((rl 4 {} (onr ({ up with time := { up.time with count := 2000000000 } })))).rail 7).since (max 1 (((rl 4 {} (onr ({ up with time := { up.time with count := 2000000000 } })))).f F.PHRAILr_OC_OC_HICCUP_MS 7) * 1000000) = true)
  ∧ (((rl 4 {} (onr ({ up with time := { up.time with count := 2000000000 } })))).enabledOf 7 = [])
  ∧ okNext (.railHiccupExpire 7) ((rl 4 {} (onr ({ up with time := { up.time with count := 2000000000 } })))) (fun t => decide (rep t 0x2A 7) && decide (t.on F.RAILr_CTRL_ON 7 = false) && decide (t.railSt 7 = (if (((rl 4 {} (onr ({ up with time := { up.time with count := 2000000000 } })))).phasesOf 7).all (fun p => ((rl 4 {} (onr ({ up with time := { up.time with count := 2000000000 } })))).phLow p) then 0 else 4))) = true := by decide +kernel

theorem test_RailTripsAndRestarts_3 : (((rl 2 {} (onr (ph7 up)))).railUp 7 = true)
  ∧ (((rl 2 {} (onr (ph7 up)))).railSt 7 ≠ 0)
  ∧ (20 ≤ 20)
  ∧ (((rl 2 {} (onr (ph7 up)))).on F.RAILr_STATUS_RS_LOST 7 = false)
  ∧ okNext (.rsLoss 7 20) ((rl 2 {} (onr (ph7 up)))) (fun t => decide (t.on F.RAILr_STATUS_RS_LOST 7 = true) && decide (t.on F.RAILr_STATUS_RS_EVENT 7 = true) && decide (rep t 0x2C 7) && decide (t.railSt 7 = ((rl 2 {} (onr (ph7 up)))).railSt 7)) = true := by decide +kernel

theorem test_RailTripsAndRestarts_4 : (((rl 2 {} ((ph7 up).setf F.RAILr_STATUS_RS_LOST 7 1))).railUp 7 = true)
  ∧ (((rl 2 {} ((ph7 up).setf F.RAILr_STATUS_RS_LOST 7 1))).on F.RAILr_STATUS_RS_LOST 7 = true)
  ∧ (1000 ≤ 1000)
  ∧ okNext (.rsRestore 7 1000) ((rl 2 {} ((ph7 up).setf F.RAILr_STATUS_RS_LOST 7 1))) (fun t => decide (t.on F.RAILr_STATUS_RS_LOST 7 = false) && decide (t.on F.RAILr_STATUS_RS_EVENT 7 = ((rl 2 {} ((ph7 up).setf F.RAILr_STATUS_RS_LOST 7 1))).on F.RAILr_STATUS_RS_EVENT 7)) = true := by decide +kernel

theorem test_RailTripsAndRestarts_5 : (((rl 2 {} (onr (ph7 up)))).railUp 7 = true)
  ∧ (1 ≤ ((rl 2 {} (onr (ph7 up)))).railSt 7)
  ∧ (((rl 2 {} (onr (ph7 up)))).railSt 7 ≤ 3)
  ∧ (10000 ≤ 10000)
  ∧ (496 ≤ 496 ∨ (496 = 0 ∧ 204800 < (((rl 2 {} (onr (ph7 up)))).rail 7).vset))
  ∧ okNext (.senseBothLost 7 496 10000) ((rl 2 {} (onr (ph7 up)))) (fun t => decide (t.railSt 7 = 5) && decide (t.on F.RAILr_STATUS_SENSE_FAULT 7 = true) && decide (rep t 0x29 7)) = true := by decide +kernel

theorem test_RailTripsAndRestarts_5_low : (((rl 2 { vset := 204801 } (onr (ph7 up)))).railUp 7 = true)
  ∧ (1 ≤ ((rl 2 { vset := 204801 } (onr (ph7 up)))).railSt 7)
  ∧ (((rl 2 { vset := 204801 } (onr (ph7 up)))).railSt 7 ≤ 3)
  ∧ (10000 ≤ 10000)
  ∧ (496 ≤ 0 ∨ (0 = 0 ∧ 204800 < (((rl 2 { vset := 204801 } (onr (ph7 up)))).rail 7).vset))
  ∧ okNext (.senseBothLost 7 0 10000) ((rl 2 { vset := 204801 } (onr (ph7 up)))) (fun t => decide (t.railSt 7 = 5) && decide (t.on F.RAILr_STATUS_SENSE_FAULT 7 = true) && decide (rep t 0x29 7)) = true := by decide +kernel

theorem test_RailTripsAndRestarts_6 : (((rl 3 { vset := 0 } (onr ((ph7 up).setf F.RAILr_PROT_OV_MV 7 0)))).railUp 7 = true)
  ∧ (1 ≤ ((rl 3 { vset := 0 } (onr ((ph7 up).setf F.RAILr_PROT_OV_MV 7 0)))).railSt 7)
  ∧ (((rl 3 { vset := 0 } (onr ((ph7 up).setf F.RAILr_PROT_OV_MV 7 0)))).railSt 7 ≤ 3)
  ∧ (2000 ≤ 2000)
  ∧ ((((rl 3 { vset := 0 } (onr ((ph7 up).setf F.RAILr_PROT_OV_MV 7 0)))).rail 7).vset + 1024 * max (((rl 3 { vset := 0 } (onr ((ph7 up).setf F.RAILr_PROT_OV_MV 7 0)))).f F.RAILr_PROT_OV_MV 7) 65 < 3200 * (21 : Int))
  ∧ okNext (.railOvervoltage 7 21 2000) ((rl 3 { vset := 0 } (onr ((ph7 up).setf F.RAILr_PROT_OV_MV 7 0)))) (fun t => decide (t.railSt 7 = 5) && decide (t.on F.RAILr_STATUS_OV 7 = true) && decide (rep t 0x29 7)) = true := by decide +kernel

theorem test_RailTripsAndRestarts_7 : (((rl 1 {} (onr (ph7 { up with time := { up.time with count := 2000000000 } })))).railUp 7 = true)
  ∧ (((rl 1 {} (onr (ph7 { up with time := { up.time with count := 2000000000 } })))).railSt 7 = 1)
  ∧ (((rl 1 {} (onr (ph7 { up with time := { up.time with count := 2000000000 } })))).passed (((rl 1 {} (onr (ph7 { up with time := { up.time with count := 2000000000 } })))).rail 7).since (max 1 (((rl 1 {} (onr (ph7 { up with time := { up.time with count := 2000000000 } })))).f F.RAILr_START_START_TO 7) * 1000000) = true)
  ∧ okNext (.railStartTimeout 7) ((rl 1 {} (onr (ph7 { up with time := { up.time with count := 2000000000 } })))) (fun t => decide (t.railSt 7 = 5) && decide (t.on F.RAILr_STATUS_START_TIMEOUT 7 = true) && decide (rep t 0x2A 7)) = true := by decide +kernel

theorem test_RailTripsAndRestarts_8 : (((rl 1 { arrivedAt := some 990000, goodAt := some 990000 } (onr (ph7 up)))).railUp 7 = true)
  ∧ (((rl 1 { arrivedAt := some 990000, goodAt := some 990000 } (onr (ph7 up)))).railSt 7 = 1)
  ∧ ((((rl 1 { arrivedAt := some 990000, goodAt := some 990000 } (onr (ph7 up)))).rail 7).arrivedAt = some ((990000 : Word64)))
  ∧ ((((rl 1 { arrivedAt := some 990000, goodAt := some 990000 } (onr (ph7 up)))).rail 7).goodAt = some ((990000 : Word64)))
  ∧ (((rl 1 { arrivedAt := some 990000, goodAt := some 990000 } (onr (ph7 up)))).passed ((990000 : Word64)) 10000 = true)
  ∧ (((rl 1 { arrivedAt := some 990000, goodAt := some 990000 } (onr (ph7 up)))).passed ((990000 : Word64)) 10000 = true)
  ∧ okNext (.railEnterOn 7) ((rl 1 { arrivedAt := some 990000, goodAt := some 990000 } (onr (ph7 up)))) (fun t => decide (t.railSt 7 = 2) && decide (t.on F.RAILr_STATUS_PG 7 = true)) = true := by decide +kernel

theorem test_RailTripsAndRestarts_9 : (((rl 3 {} (ph7 up))).railUp 7 = true)
  ∧ (((rl 3 {} (ph7 up))).railSt 7 = 3)
  ∧ (((rl 3 {} (ph7 up))).railQuiet 7 ([]) = true)
  ∧ (((rl 3 {} (ph7 up))).on F.RAILr_STATUS_PENDING_ENABLE 7 = false)
  ∧ okNext (.railQuietPoint 7 ([])) ((rl 3 {} (ph7 up))) (fun t => decide (t.railSt 7 = 0)) = true := by decide +kernel

theorem test_RailTripsAndRestarts_10 : (((rl 3 {} ((ph7 up).setf F.RAILr_STATUS_PENDING_ENABLE 7 1))).railUp 7 = true)
  ∧ (((rl 3 {} ((ph7 up).setf F.RAILr_STATUS_PENDING_ENABLE 7 1))).railSt 7 = 3)
  ∧ (((rl 3 {} ((ph7 up).setf F.RAILr_STATUS_PENDING_ENABLE 7 1))).railQuiet 7 ([]) = true)
  ∧ (((rl 3 {} ((ph7 up).setf F.RAILr_STATUS_PENDING_ENABLE 7 1))).on F.RAILr_STATUS_PENDING_ENABLE 7 = true)
  ∧ (((rl 3 {} ((ph7 up).setf F.RAILr_STATUS_PENDING_ENABLE 7 1))).enabledOf 7 ≠ [])
  ∧ (((rl 3 {} ((ph7 up).setf F.RAILr_STATUS_PENDING_ENABLE 7 1))).safeHolds 7 = false)
  ∧ okNext (.railQuietPoint 7 ([])) ((rl 3 {} ((ph7 up).setf F.RAILr_STATUS_PENDING_ENABLE 7 1))) (fun t => decide (t.railSt 7 = 1) && decide (t.on F.RAILr_STATUS_PENDING_ENABLE 7 = false)) = true := by decide +kernel

theorem test_RailTripsAndRestarts_11 : (((rl 3 {} (onr (up.setf F.RAILr_STATUS_PENDING_ENABLE 7 1)))).railUp 7 = true)
  ∧ (((rl 3 {} (onr (up.setf F.RAILr_STATUS_PENDING_ENABLE 7 1)))).railSt 7 = 3)
  ∧ (((rl 3 {} (onr (up.setf F.RAILr_STATUS_PENDING_ENABLE 7 1)))).railQuiet 7 ([]) = true)
  ∧ (((rl 3 {} (onr (up.setf F.RAILr_STATUS_PENDING_ENABLE 7 1)))).on F.RAILr_STATUS_PENDING_ENABLE 7 = true)
  ∧ (((rl 3 {} (onr (up.setf F.RAILr_STATUS_PENDING_ENABLE 7 1)))).enabledOf 7 = [])
  ∧ okNext (.railQuietPoint 7 ([])) ((rl 3 {} (onr (up.setf F.RAILr_STATUS_PENDING_ENABLE 7 1)))) (fun t => decide (t.railSt 7 = 0) && decide (t.on F.RAILr_CTRL_ON 7 = false) && decide (rep t 0x2A 7)) = true := by decide +kernel

theorem test_RailTripsAndRestarts_12 : (((rl 5 { offWait := true } (ph7 up))).railUp 7 = true)
  ∧ ((((rl 5 { offWait := true } (ph7 up))).railSt 7 = 4 ∨ ((rl 5 { offWait := true } (ph7 up))).railSt 7 = 5))
  ∧ ((((rl 5 { offWait := true } (ph7 up))).rail 7).offWait = true)
  ∧ (((rl 5 { offWait := true } (ph7 up))).railQuiet 7 ([]) = true)
  ∧ (((rl 5 { offWait := true } (ph7 up))).on F.RAILr_CTRL_ON 7 = false)
  ∧ okNext (.railQuietPoint 7 ([])) ((rl 5 { offWait := true } (ph7 up))) (fun t => decide (t.railSt 7 = 0) && decide ((t.rail 7).offWait = false)) = true := by decide +kernel

theorem test_RailTripsAndRestarts_13 : (((rl 3 {} enPh)).railQuiet 7 ([]) = false)
  ∧ okNext (.railQuietPoint 7 ([])) ((rl 3 {} enPh)) (fun t => decide (t = ((rl 3 {} enPh)))) = true := by decide +kernel

def sq0 : State := (up.wr R.SEQ_UPk 0 0xC0800000).wr R.SEQ_DNk 0 0xC0800000

def sqbad : State := sq0.setf F.RAILr_TRACK_MODE 7 1

theorem test_SequencerRuns_0 : (sqbad.portTakes R.SEQ_CTRL 0 = true)
  ∧ (sqbad.seqConfigErr true (sqbad.seqTable true) = true)
  ∧ okNext (.sequenceUpRequest true) sqbad (fun t => decide (t.on F.SEQ_STATUS_CONFIG_ERR = true) && decide (t.f F.SEQ_STATUS_STATE = sqbad.f F.SEQ_STATUS_STATE) && decide (t.rails = sqbad.rails)) = true := by decide +kernel

theorem test_SequencerRuns_1 : (sq0.portTakes R.SEQ_CTRL 0 = true)
  ∧ (sq0.seqConfigErr true (sq0.seqTable true) = false)
  ∧ (sq0.seqBusy = false)
  ∧ okNext (.sequenceUpRequest true) sq0 (fun t => decide (t.f F.SEQ_STATUS_STATE = (if sq0.seqTable true = [] then 2 else 1)) && decide (t.rails.seq.table = sq0.seqTable true) && decide (t.rails.seq.next = 0) && decide (t.rails.seq.skip = 0) && decide (t.rsp.err = false)) = true := by decide +kernel

theorem test_SequencerRuns_1_empty : (up.portTakes R.SEQ_CTRL 0 = true)
  ∧ (up.seqConfigErr true (up.seqTable true) = false)
  ∧ (up.seqBusy = false)
  ∧ okNext (.sequenceUpRequest true) up (fun t => decide (t.f F.SEQ_STATUS_STATE = (if up.seqTable true = [] then 2 else 1)) && decide (t.rails.seq.table = up.seqTable true) && decide (t.rails.seq.next = 0) && decide (t.rails.seq.skip = 0) && decide (t.rsp.err = false)) = true := by decide +kernel

theorem test_SequencerRuns_2 : (((sq0.setf F.SEQ_STATUS_STATE 0 3)).portTakes R.SEQ_CTRL 0 = true)
  ∧ (((sq0.setf F.SEQ_STATUS_STATE 0 3)).seqConfigErr true (((sq0.setf F.SEQ_STATUS_STATE 0 3)).seqTable true) = false)
  ∧ (((sq0.setf F.SEQ_STATUS_STATE 0 3)).f F.SEQ_STATUS_STATE = 3)
  ∧ okNext (.sequenceUpRequest true) ((sq0.setf F.SEQ_STATUS_STATE 0 3)) (fun t => decide (t.on F.SEQ_STATUS_PENDING_UP = true) && decide (t.f F.SEQ_STATUS_STATE = 3) && decide (t.rails.seq.pendTable = ((sq0.setf F.SEQ_STATUS_STATE 0 3)).seqTable true) && decide (t.rails.seq.table = ((sq0.setf F.SEQ_STATUS_STATE 0 3)).rails.seq.table) && decide (t.rails.seq.next = ((sq0.setf F.SEQ_STATUS_STATE 0 3)).rails.seq.next)) = true := by decide +kernel

theorem test_SequencerRuns_3 : (((sq0.setf F.SEQ_STATUS_STATE 0 2)).portTakes R.SEQ_CTRL 0 = true)
  ∧ (((sq0.setf F.SEQ_STATUS_STATE 0 2)).seqConfigErr false (((sq0.setf F.SEQ_STATUS_STATE 0 2)).seqTable false) = false)
  ∧ (((sq0.setf F.SEQ_STATUS_STATE 0 2)).seqBusy = false)
  ∧ (((sq0.setf F.SEQ_STATUS_STATE 0 2)).on F.SEQ_STATUS_PENDING_UP = false)
  ∧ okNext (.sequenceDownRequest true) ((sq0.setf F.SEQ_STATUS_STATE 0 2)) (fun t => decide (t.f F.SEQ_STATUS_STATE = (if ((sq0.setf F.SEQ_STATUS_STATE 0 2)).seqTable false = [] then 0 else 3)) && decide (t.rails.seq.table = ((sq0.setf F.SEQ_STATUS_STATE 0 2)).seqTable false) && decide (t.rails.seq.next = 0) && decide (t.rsp.err = false)) = true := by decide +kernel

theorem test_SequencerRuns_4 : (((rl 1 {} (sq0.setf F.SEQ_STATUS_STATE 0 1))).portTakes R.SEQ_CTRL 0 = true)
  ∧ (((rl 1 {} (sq0.setf F.SEQ_STATUS_STATE 0 1))).seqConfigErr false (((rl 1 {} (sq0.setf F.SEQ_STATUS_STATE 0 1))).seqTable false) = false)
  ∧ (((rl 1 {} (sq0.setf F.SEQ_STATUS_STATE 0 1))).f F.SEQ_STATUS_STATE = 1)
  ∧ okNext (.sequenceDownRequest true) ((rl 1 {} (sq0.setf F.SEQ_STATUS_STATE 0 1))) (fun t => decide (t.rails.seq.table = ((rl 1 {} (sq0.setf F.SEQ_STATUS_STATE 0 1))).seqTable false) && decide (t.rails.seq.skip = ((rl 1 {} (sq0.setf F.SEQ_STATUS_STATE 0 1))).offMask) && decide (∀ r : Nat, r < Config.railCount → ((rl 1 {} (sq0.setf F.SEQ_STATUS_STATE 0 1))).railSt r = 1 → ((rl 1 {} (sq0.setf F.SEQ_STATUS_STATE 0 1))).trackMode r ≠ 1 → (t.rail r).toZero = true ∧ (t.rail r).target = 0 ∧ t.railSt r = 1)) = true := by decide +kernel

def sqr (st : Nat) (earlier : Nat) : State := let s := (ph7 up).setf F.SEQ_STATUS_STATE 0 st
  { s with rails := { s.rails with seq := { table := [0xC0800000], earlier := earlier } } }

theorem test_SequencerRuns_5 : (((sqr 1 0)).rails.seq.table[((sqr 1 0)).rails.seq.next]? = some ((0xC0800000 : Word)))
  ∧ (((sqr 1 0)).vgov = true)
  ∧ (((sqr 1 0)).seqBusy = true)
  ∧ (((sqr 1 0)).passed ((sqr 1 0)).rails.seq.at_ (seqDelay ((0xC0800000 : Word)) * 1000) = true)
  ∧ (seqCheck ((0xC0800000 : Word)) = false ∨ ((sqr 1 0)).seqFails (decide (((sqr 1 0)).f F.SEQ_STATUS_STATE = 1)) ((sqr 1 0)).rails.seq.earlier = none)
  ∧ okNext .seqStepBegin ((sqr 1 0)) (fun t => decide (t.rails.seq.next = ((sqr 1 0)).rails.seq.next + 1) && decide (t.rails.seq.earlier = ((sqr 1 0)).rails.seq.earlier ||| seqRails ((0xC0800000 : Word)))) = true := by decide +kernel

theorem test_SequencerRuns_6 : (((sqr 1 0x80)).rails.seq.table[((sqr 1 0x80)).rails.seq.next]? = some ((0xC0800000 : Word)))
  ∧ (((sqr 1 0x80)).vgov = true)
  ∧ (((sqr 1 0x80)).seqBusy = true)
  ∧ (((sqr 1 0x80)).passed ((sqr 1 0x80)).rails.seq.at_ (seqDelay ((0xC0800000 : Word)) * 1000) = true)
  ∧ (seqCheck ((0xC0800000 : Word)) = true)
  ∧ (((sqr 1 0x80)).seqFails (decide (((sqr 1 0x80)).f F.SEQ_STATUS_STATE = 1)) ((sqr 1 0x80)).rails.seq.earlier = some 7)
  ∧ (((sqr 1 0x80)).f F.SEQ_STATUS_STATE = 1)
  ∧ okNext .seqStepBegin ((sqr 1 0x80)) (fun t => decide (t.on F.SEQ_STATUS_ABORTED = true) && decide (t.f F.SEQ_STATUS_FAIL_RAIL = 7) && decide (rep t 0x2D 0) && decide (t.rails.seq.aborting = decide (t.f F.SEQ_STATUS_STATE = 3))) = true := by decide +kernel

theorem test_SequencerRuns_7 : (((rl 2 {} (sqr 3 0x80))).rails.seq.table[((rl 2 {} (sqr 3 0x80))).rails.seq.next]? = some ((0xC0800000 : Word)))
  ∧ (((rl 2 {} (sqr 3 0x80))).vgov = true)
  ∧ (((rl 2 {} (sqr 3 0x80))).seqBusy = true)
  ∧ (((rl 2 {} (sqr 3 0x80))).passed ((rl 2 {} (sqr 3 0x80))).rails.seq.at_ (seqDelay ((0xC0800000 : Word)) * 1000) = true)
  ∧ (seqCheck ((0xC0800000 : Word)) = true)
  ∧ (((rl 2 {} (sqr 3 0x80))).seqFails false ((rl 2 {} (sqr 3 0x80))).rails.seq.earlier = some 7)
  ∧ (((rl 2 {} (sqr 3 0x80))).f F.SEQ_STATUS_STATE = 3)
  ∧ okNext .seqStepBegin ((rl 2 {} (sqr 3 0x80))) (fun t => decide (t.rails.seq.waitAt = some (((rl 2 {} (sqr 3 0x80))).rails.seq.waitAt.getD ((rl 2 {} (sqr 3 0x80))).now)) && decide (t.rails.seq.next = ((rl 2 {} (sqr 3 0x80))).rails.seq.next) && decide (t.regs = ((rl 2 {} (sqr 3 0x80))).regs)) = true := by decide +kernel

def sqw : State := { sqr 3 0x80 with time := { up.time with count := 10000000 }, rails := { up.rails with seq := { table := [0xC0800000], earlier := 0x80, waitAt := some 0 } } }

theorem test_SequencerRuns_8 : (((rl 2 {} (sqw))).rails.seq.waitAt = some ((0 : Word64)))
  ∧ (((rl 2 {} (sqw))).rails.seq.table[((rl 2 {} (sqw))).rails.seq.next]? = some ((0xC0800000 : Word)))
  ∧ (((rl 2 {} (sqw))).vgov = true)
  ∧ (((rl 2 {} (sqw))).f F.SEQ_STATUS_STATE = 3)
  ∧ (((rl 2 {} (sqw))).passed ((0 : Word64)) 10000000 = true)
  ∧ okNext .seqCheckWaitTimeout ((rl 2 {} (sqw))) (fun t => decide (t.on F.SEQ_STATUS_WAITED = true) && decide (rep t 0x2D 0) && decide (t.rails.seq.next = ((rl 2 {} (sqw))).rails.seq.next + 1)) = true := by decide +kernel

def sqp : State := let s := (sq0.setf F.SEQ_STATUS_STATE 0 3).setf F.SEQ_STATUS_PENDING_UP 0 1; { s with rails := { s.rails with seq := { table := [0xC0800000], next := 1, earlier := 0x80, pendTable := [0xC0800000] } } }

theorem test_SequencerRuns_9 : (sqp.vgov = true)
  ∧ (sqp.f F.SEQ_STATUS_STATE = 3)
  ∧ (sqp.on F.SEQ_STATUS_PENDING_UP = true)
  ∧ (sqp.rails.seq.table.length ≤ sqp.rails.seq.next)
  ∧ ((∀ r ∈ railsIn sqp.rails.seq.earlier, sqp.railSt r = 0))
  ∧ okNext .seqPendingUpStart sqp (fun t => decide (t.on F.SEQ_STATUS_PENDING_UP = false) && decide ((sqp.seqConfigErr true sqp.rails.seq.pendTable = false → t.rails.seq.table = sqp.rails.seq.pendTable ∧ t.f F.SEQ_STATUS_STATE = (if sqp.rails.seq.pendTable = [] then 2 else 1))) && decide ((sqp.seqConfigErr true sqp.rails.seq.pendTable = true → t.on F.SEQ_STATUS_CONFIG_ERR = true ∧ t.f F.SEQ_STATUS_STATE = 0))) = true := by decide +kernel

def sqp1 : State := { sqbad with regs := sqp.regs, rails := sqp.rails }.setf F.RAILr_TRACK_MODE 7 1

theorem test_SequencerRuns_9_bad : (sqp1.vgov = true)
  ∧ (sqp1.f F.SEQ_STATUS_STATE = 3)
  ∧ (sqp1.on F.SEQ_STATUS_PENDING_UP = true)
  ∧ (sqp1.rails.seq.table.length ≤ sqp1.rails.seq.next)
  ∧ ((∀ r ∈ railsIn sqp1.rails.seq.earlier, sqp1.railSt r = 0))
  ∧ okNext .seqPendingUpStart sqp1 (fun t => decide (t.on F.SEQ_STATUS_PENDING_UP = false) && decide ((sqp1.seqConfigErr true sqp1.rails.seq.pendTable = false → t.rails.seq.table = sqp1.rails.seq.pendTable ∧ t.f F.SEQ_STATUS_STATE = (if sqp1.rails.seq.pendTable = [] then 2 else 1))) && decide ((sqp1.seqConfigErr true sqp1.rails.seq.pendTable = true → t.on F.SEQ_STATUS_CONFIG_ERR = true ∧ t.f F.SEQ_STATUS_STATE = 0))) = true
  ∧ (sqp1.seqConfigErr true sqp1.rails.seq.pendTable = true) := by decide +kernel

def sl (st : Nat) (x : SlotSt) (s : State) : State := ((s.setSlot 127 x).setf F.SLOTn_STATUS_STATE 127 st).setf F.LOOP_CTRL_EN 0 1

theorem test_SlotSamples_0 : (((sl 1 { cfg := [0, 1, 0] } up)).vgov = true)
  ∧ (127 < 128)
  ∧ (((sl 1 { cfg := [0, 1, 0] } up)).on F.LOOP_CTRL_EN = true)
  ∧ (((sl 1 { cfg := [0, 1, 0] } up)).slotLive 127 = true)
  ∧ (((sl 1 { cfg := [0, 1, 0] } up)).due 10 127 (1000 * (((sl 1 { cfg := [0, 1, 0] } up)).slot 127).period) (1000 * (((sl 1 { cfg := [0, 1, 0] } up)).slot 127).phase) = true)
  ∧ okNext (.slotSample 127) ((sl 1 { cfg := [0, 1, 0] } up)) (fun t => decide ((t.slot 127).cfg = ((sl 1 { cfg := [0, 1, 0] } up)).slotWords 127) && decide ((t.slot 127).fbVal = ((((sl 1 { cfg := [0, 1, 0] } up)).source (((sl 1 { cfg := [0, 1, 0] } up)).slot 127).fb).map (·.1)).getD 0) && decide (((((sl 1 { cfg := [0, 1, 0] } up)).slot 127).ready = true → t.f F.SLOTn_COUNT_OVERRUNS 127 = (((sl 1 { cfg := [0, 1, 0] } up)).f F.SLOTn_COUNT_OVERRUNS 127 + 1) % 2 ^ F.SLOTn_COUNT_OVERRUNS.len)) && decide ((t.slotSt 127 ≠ 4 ∨ t.f F.SLOTn_STATUS_CAUSE 127 = 1 → (t.slot 127).ready = true ∧ (t.slot 127).sampleAt = ((sl 1 { cfg := [0, 1, 0] } up)).now.toNat / 1000 * 400 ∧ (t.slot 127).deadline = (t.slot 127).sampleAt + 400 * (t.slot 127).nextIn (((sl 1 { cfg := [0, 1, 0] } up)).time.count.toNat / 1000))) && decide ((((sl 1 { cfg := [0, 1, 0] } up)).slotSt 127 = 1 → (((sl 1 { cfg := [0, 1, 0] } up)).slot 127).ready = false → (((sl 1 { cfg := [0, 1, 0] } up)).slot 127).drops = 0 → t.slotSt 127 = (if (t.slot 127).checkOk then 1 else 2)))) = true := by decide +kernel

theorem test_SlotSamples_0_over : (((sl 2 { cfg := [0, 1, 0], ready := true } up)).vgov = true)
  ∧ (127 < 128)
  ∧ (((sl 2 { cfg := [0, 1, 0], ready := true } up)).on F.LOOP_CTRL_EN = true)
  ∧ (((sl 2 { cfg := [0, 1, 0], ready := true } up)).slotLive 127 = true)
  ∧ (((sl 2 { cfg := [0, 1, 0], ready := true } up)).due 10 127 (1000 * (((sl 2 { cfg := [0, 1, 0], ready := true } up)).slot 127).period) (1000 * (((sl 2 { cfg := [0, 1, 0], ready := true } up)).slot 127).phase) = true)
  ∧ okNext (.slotSample 127) ((sl 2 { cfg := [0, 1, 0], ready := true } up)) (fun t => decide ((t.slot 127).cfg = ((sl 2 { cfg := [0, 1, 0], ready := true } up)).slotWords 127) && decide ((t.slot 127).fbVal = ((((sl 2 { cfg := [0, 1, 0], ready := true } up)).source (((sl 2 { cfg := [0, 1, 0], ready := true } up)).slot 127).fb).map (·.1)).getD 0) && decide (((((sl 2 { cfg := [0, 1, 0], ready := true } up)).slot 127).ready = true → t.f F.SLOTn_COUNT_OVERRUNS 127 = (((sl 2 { cfg := [0, 1, 0], ready := true } up)).f F.SLOTn_COUNT_OVERRUNS 127 + 1) % 2 ^ F.SLOTn_COUNT_OVERRUNS.len)) && decide ((t.slotSt 127 ≠ 4 ∨ t.f F.SLOTn_STATUS_CAUSE 127 = 1 → (t.slot 127).ready = true ∧ (t.slot 127).sampleAt = ((sl 2 { cfg := [0, 1, 0], ready := true } up)).now.toNat / 1000 * 400 ∧ (t.slot 127).deadline = (t.slot 127).sampleAt + 400 * (t.slot 127).nextIn (((sl 2 { cfg := [0, 1, 0], ready := true } up)).time.count.toNat / 1000))) && decide ((((sl 2 { cfg := [0, 1, 0], ready := true } up)).slotSt 127 = 1 → (((sl 2 { cfg := [0, 1, 0], ready := true } up)).slot 127).ready = false → (((sl 2 { cfg := [0, 1, 0], ready := true } up)).slot 127).drops = 0 → t.slotSt 127 = (if (t.slot 127).checkOk then 1 else 2)))) = true := by decide +kernel

theorem test_SlotSamples_0_safe : ((((sl 4 { cfg := [0, 1, 0] } up).setf F.SLOTn_STATUS_CAUSE 127 1)).vgov = true)
  ∧ (127 < 128)
  ∧ ((((sl 4 { cfg := [0, 1, 0] } up).setf F.SLOTn_STATUS_CAUSE 127 1)).on F.LOOP_CTRL_EN = true)
  ∧ ((((sl 4 { cfg := [0, 1, 0] } up).setf F.SLOTn_STATUS_CAUSE 127 1)).slotLive 127 = true)
  ∧ ((((sl 4 { cfg := [0, 1, 0] } up).setf F.SLOTn_STATUS_CAUSE 127 1)).due 10 127 (1000 * ((((sl 4 { cfg := [0, 1, 0] } up).setf F.SLOTn_STATUS_CAUSE 127 1)).slot 127).period) (1000 * ((((sl 4 { cfg := [0, 1, 0] } up).setf F.SLOTn_STATUS_CAUSE 127 1)).slot 127).phase) = true)
  ∧ okNext (.slotSample 127) (((sl 4 { cfg := [0, 1, 0] } up).setf F.SLOTn_STATUS_CAUSE 127 1)) (fun t => decide ((t.slot 127).cfg = (((sl 4 { cfg := [0, 1, 0] } up).setf F.SLOTn_STATUS_CAUSE 127 1)).slotWords 127) && decide ((t.slot 127).fbVal = (((((sl 4 { cfg := [0, 1, 0] } up).setf F.SLOTn_STATUS_CAUSE 127 1)).source ((((sl 4 { cfg := [0, 1, 0] } up).setf F.SLOTn_STATUS_CAUSE 127 1)).slot 127).fb).map (·.1)).getD 0) && decide ((((((sl 4 { cfg := [0, 1, 0] } up).setf F.SLOTn_STATUS_CAUSE 127 1)).slot 127).ready = true → t.f F.SLOTn_COUNT_OVERRUNS 127 = ((((sl 4 { cfg := [0, 1, 0] } up).setf F.SLOTn_STATUS_CAUSE 127 1)).f F.SLOTn_COUNT_OVERRUNS 127 + 1) % 2 ^ F.SLOTn_COUNT_OVERRUNS.len)) && decide ((t.slotSt 127 ≠ 4 ∨ t.f F.SLOTn_STATUS_CAUSE 127 = 1 → (t.slot 127).ready = true ∧ (t.slot 127).sampleAt = (((sl 4 { cfg := [0, 1, 0] } up).setf F.SLOTn_STATUS_CAUSE 127 1)).now.toNat / 1000 * 400 ∧ (t.slot 127).deadline = (t.slot 127).sampleAt + 400 * (t.slot 127).nextIn ((((sl 4 { cfg := [0, 1, 0] } up).setf F.SLOTn_STATUS_CAUSE 127 1)).time.count.toNat / 1000))) && decide (((((sl 4 { cfg := [0, 1, 0] } up).setf F.SLOTn_STATUS_CAUSE 127 1)).slotSt 127 = 1 → ((((sl 4 { cfg := [0, 1, 0] } up).setf F.SLOTn_STATUS_CAUSE 127 1)).slot 127).ready = false → ((((sl 4 { cfg := [0, 1, 0] } up).setf F.SLOTn_STATUS_CAUSE 127 1)).slot 127).drops = 0 → t.slotSt 127 = (if (t.slot 127).checkOk then 1 else 2)))) = true := by decide +kernel

theorem test_SlotSamples_0_fail : ((((sl 1 { cfg := [0, 1, 0], fb := 0x6000 } up).wr R.SLOTn_CHECK 127 0xFFFFFFFF)).vgov = true)
  ∧ (127 < 128)
  ∧ ((((sl 1 { cfg := [0, 1, 0], fb := 0x6000 } up).wr R.SLOTn_CHECK 127 0xFFFFFFFF)).on F.LOOP_CTRL_EN = true)
  ∧ ((((sl 1 { cfg := [0, 1, 0], fb := 0x6000 } up).wr R.SLOTn_CHECK 127 0xFFFFFFFF)).slotLive 127 = true)
  ∧ ((((sl 1 { cfg := [0, 1, 0], fb := 0x6000 } up).wr R.SLOTn_CHECK 127 0xFFFFFFFF)).due 10 127 (1000 * ((((sl 1 { cfg := [0, 1, 0], fb := 0x6000 } up).wr R.SLOTn_CHECK 127 0xFFFFFFFF)).slot 127).period) (1000 * ((((sl 1 { cfg := [0, 1, 0], fb := 0x6000 } up).wr R.SLOTn_CHECK 127 0xFFFFFFFF)).slot 127).phase) = true)
  ∧ okNext (.slotSample 127) (((sl 1 { cfg := [0, 1, 0], fb := 0x6000 } up).wr R.SLOTn_CHECK 127 0xFFFFFFFF)) (fun t => decide ((t.slot 127).cfg = (((sl 1 { cfg := [0, 1, 0], fb := 0x6000 } up).wr R.SLOTn_CHECK 127 0xFFFFFFFF)).slotWords 127) && decide ((t.slot 127).fbVal = (((((sl 1 { cfg := [0, 1, 0], fb := 0x6000 } up).wr R.SLOTn_CHECK 127 0xFFFFFFFF)).source ((((sl 1 { cfg := [0, 1, 0], fb := 0x6000 } up).wr R.SLOTn_CHECK 127 0xFFFFFFFF)).slot 127).fb).map (·.1)).getD 0) && decide ((((((sl 1 { cfg := [0, 1, 0], fb := 0x6000 } up).wr R.SLOTn_CHECK 127 0xFFFFFFFF)).slot 127).ready = true → t.f F.SLOTn_COUNT_OVERRUNS 127 = ((((sl 1 { cfg := [0, 1, 0], fb := 0x6000 } up).wr R.SLOTn_CHECK 127 0xFFFFFFFF)).f F.SLOTn_COUNT_OVERRUNS 127 + 1) % 2 ^ F.SLOTn_COUNT_OVERRUNS.len)) && decide ((t.slotSt 127 ≠ 4 ∨ t.f F.SLOTn_STATUS_CAUSE 127 = 1 → (t.slot 127).ready = true ∧ (t.slot 127).sampleAt = (((sl 1 { cfg := [0, 1, 0], fb := 0x6000 } up).wr R.SLOTn_CHECK 127 0xFFFFFFFF)).now.toNat / 1000 * 400 ∧ (t.slot 127).deadline = (t.slot 127).sampleAt + 400 * (t.slot 127).nextIn ((((sl 1 { cfg := [0, 1, 0], fb := 0x6000 } up).wr R.SLOTn_CHECK 127 0xFFFFFFFF)).time.count.toNat / 1000))) && decide (((((sl 1 { cfg := [0, 1, 0], fb := 0x6000 } up).wr R.SLOTn_CHECK 127 0xFFFFFFFF)).slotSt 127 = 1 → ((((sl 1 { cfg := [0, 1, 0], fb := 0x6000 } up).wr R.SLOTn_CHECK 127 0xFFFFFFFF)).slot 127).ready = false → ((((sl 1 { cfg := [0, 1, 0], fb := 0x6000 } up).wr R.SLOTn_CHECK 127 0xFFFFFFFF)).slot 127).drops = 0 → t.slotSt 127 = (if (t.slot 127).checkOk then 1 else 2)))) = true := by decide +kernel

theorem test_SlotEvaluations_0 : (((sl 1 { cfg := up.slotWords 127, ready := true } up)).freeLane = some 0)
  ∧ (((sl 1 { cfg := up.slotWords 127, ready := true } up)).readySlot = some 127)
  ∧ (((sl 1 { cfg := up.slotWords 127, ready := true } up)).vgov = true)
  ∧ (((sl 1 { cfg := up.slotWords 127, ready := true } up)).on F.LOOP_CTRL_EN = true)
  ∧ okNext .slotEvaluate ((sl 1 { cfg := up.slotWords 127, ready := true } up)) (fun t => decide ((t.lane 0).busy = true) && decide (((t.lane 0).slot : Nat) = 127) && decide ((t.lane 0).sampleAt = (((sl 1 { cfg := up.slotWords 127, ready := true } up)).slot 127).sampleAt) && decide ((t.lane 0).out.isSome = ((sl 1 { cfg := up.slotWords 127, ready := true } up)).slotRuns 127) && decide ((t.slot 127).ready = false) && decide ((t.slot 127).busy = (((sl 1 { cfg := up.slotWords 127, ready := true } up)).slot 127).busy + 1)) = true := by decide +kernel

def ln0 : State := let s := sl 1 { cfg := up.slotWords 127, busy := 2, group := 15 } up; s.setLane 3 { busy := true, slot := 127, out := some 5 }

theorem test_SlotEvaluations_1 : (ln0.doneLane = some 3)
  ∧ (ln0.vgov = true)
  ∧ okNext .slotRelease ln0 (fun t => decide ((t.lane 3).busy = false) && decide ((t.slot 127).busy = 1) && decide ((t.slot 127).drops = 0) && decide ((t.slot 127).out = some 5) && decide (t.on F.LOOPGg_STATUS_VALID 15 = true) && decide (t.f F.LOOPGg_STATUS_WINNER 15 = 127)) = true := by decide +kernel

def ln1 : State := let s := sl 2 { cfg := up.slotWords 127, busy := 2, group := 15, out := some 9 } up; s.setLane 3 { busy := true, slot := 127, out := some 5 }

theorem test_SlotEvaluations_1_hold : (ln1.doneLane = some 3)
  ∧ (ln1.vgov = true)
  ∧ okNext .slotRelease ln1 (fun t => decide ((t.lane 3).busy = false) && decide ((t.slot 127).out = some 9)) = true := by decide +kernel

theorem test_SlotEvaluations_2 : (up.on F.LOOP_CTRL_EN = false)
  ∧ okNext (.slotHoldTimeout 127) up (fun t => decide (t = up)) = true := by decide +kernel

theorem test_SlotEvaluations_3 : (((sl 2 { cfg := [0, 1, 0], holdAt := 999000 } up)).vgov = true)
  ∧ (((sl 2 { cfg := [0, 1, 0], holdAt := 999000 } up)).on F.LOOP_CTRL_EN = true)
  ∧ (127 < 128)
  ∧ (((sl 2 { cfg := [0, 1, 0], holdAt := 999000 } up)).slotSt 127 = 2)
  ∧ (((sl 2 { cfg := [0, 1, 0], holdAt := 999000 } up)).passed (((sl 2 { cfg := [0, 1, 0], holdAt := 999000 } up)).slot 127).holdAt (1000 * max 1 (getBits ((((sl 2 { cfg := [0, 1, 0], holdAt := 999000 } up)).slot 127).w 24) 16 16)) = true)
  ∧ okNext (.slotHoldTimeout 127) ((sl 2 { cfg := [0, 1, 0], holdAt := 999000 } up)) (fun t => decide (t.slotSt 127 = 4) && decide (t.f F.SLOTn_STATUS_CAUSE 127 = 1) && decide ((t.slot 127).out = some (((sl 2 { cfg := [0, 1, 0], holdAt := 999000 } up)).slot 127).safeVal) && decide (rep t 0x50 127)) = true := by decide +kernel

def ceil0 : State := let s := sl 1 { cfg := [0, 1, 0, 0, 0, 0, 0, 0, 0, 0, 0, 0x60001000], out := some 9 } up; { s with loop := { s.loop with src := [(0x6000, { v := 8, n := 1 })] } }

theorem test_SlotEvaluations_4 : (ceil0.ceiling (ceil0.slot 127) = some 8)
  ∧ ((ceil0.slot 127).out = some 9)
  ∧ (ceil0.vgov = true)
  ∧ (127 < 128)
  ∧ (ceil0.on F.LOOP_CTRL_EN = true)
  ∧ (1 ≤ ceil0.slotSt 127)
  ∧ (ceil0.slotSt 127 ≤ 3)
  ∧ (8 < 9)
  ∧ okNext (.ceilingArrival 127) ceil0 (fun t => decide ((t.slot 127).out = some 8) && decide (t.slotSt 127 = ceil0.slotSt 127)) = true := by decide +kernel

theorem test_SlotControl_0 : ((((sl 0 {} up).wr R.SLOTn_INIT 127 0xFFFFFFFF)).portTakes R.SLOTn_CTRL 127 = true)
  ∧ (((0x800F0000 : Word)).getLsbD 31 = true)
  ∧ ((((sl 0 {} up).wr R.SLOTn_INIT 127 0xFFFFFFFF)).slotSt 127 = 0)
  ∧ okNext (.slotEnable true 127 ((0x800F0000 : Word))) (((sl 0 {} up).wr R.SLOTn_INIT 127 0xFFFFFFFF)) (fun t => decide (t.slotSt 127 = 1) && decide ((t.slot 127).out = none) && decide ((t.slot 127).cfg = t.slotWords 127) && decide (((t.slot 127).group : Nat) = getBits ((0x800F0000 : Word)) 16 4) && decide ((t.slot 127).y = [((((sl 0 {} up).wr R.SLOTn_INIT 127 0xFFFFFFFF)).rd R.SLOTn_INIT 127).toInt, ((((sl 0 {} up).wr R.SLOTn_INIT 127 0xFFFFFFFF)).rd R.SLOTn_INIT 127).toInt, ((((sl 0 {} up).wr R.SLOTn_INIT 127 0xFFFFFFFF)).rd R.SLOTn_INIT 127).toInt]) && decide (t.rsp.err = false)) = true := by decide +kernel

theorem test_SlotControl_1 : (((sl 5 {} up)).portTakes R.SLOTn_CTRL 127 = true)
  ∧ (((0x80000000 : Word)).getLsbD 31 = true)
  ∧ (((sl 5 {} up)).slotSt 127 = 5)
  ∧ okNext (.slotEnable true 127 ((0x80000000 : Word))) ((sl 5 {} up)) (fun t => decide (t.slotSt 127 = 5) && decide (t.on F.SLOTn_STATUS_PENDING_ENABLE 127 = true)) = true := by decide +kernel

theorem test_SlotControl_2 : (((sl 4 { ready := true } up)).portTakes R.SLOTn_CTRL 127 = true)
  ∧ (((0 : Word)).getLsbD 31 = false)
  ∧ (((sl 4 { ready := true } up)).slotLive 127 = true)
  ∧ okNext (.slotDisable true 127 ((0 : Word))) ((sl 4 { ready := true } up)) (fun t => decide (t.slotSt 127 = 5) && decide ((t.slot 127).ready = false) && decide (t.on F.SLOTn_CTRL_EN 127 = false) && decide (t.rsp.err = false)) = true := by decide +kernel

theorem test_SlotControl_3 : ((((sl 5 {} up).setf F.SLOTn_STATUS_PENDING_ENABLE 127 1)).portTakes R.SLOTn_CTRL 127 = true)
  ∧ (((0 : Word)).getLsbD 31 = false)
  ∧ ((((sl 5 {} up).setf F.SLOTn_STATUS_PENDING_ENABLE 127 1)).slotSt 127 = 5)
  ∧ okNext (.slotDisable true 127 ((0 : Word))) (((sl 5 {} up).setf F.SLOTn_STATUS_PENDING_ENABLE 127 1)) (fun t => decide (t.slotSt 127 = 5) && decide (t.on F.SLOTn_STATUS_PENDING_ENABLE 127 = false)) = true := by decide +kernel

theorem test_SlotControl_4 : (((sl 5 {} up)).vgov = true)
  ∧ (127 < 128)
  ∧ (((sl 5 {} up)).slotSt 127 = 5)
  ∧ ((((sl 5 {} up)).slot 127).busy = 0)
  ∧ ((((sl 5 {} up)).slot 127).ready = false)
  ∧ okNext (.slotQuietPoint 127) ((sl 5 {} up)) (fun t => decide (t.slotSt 127 = (if ((sl 5 {} up)).on F.SLOTn_STATUS_PENDING_ENABLE 127 then 1 else 0)) && decide (t.on F.SLOTn_STATUS_PENDING_ENABLE 127 = false)) = true := by decide +kernel

theorem test_SlotControl_4_again : ((((sl 5 {} up).setf F.SLOTn_STATUS_PENDING_ENABLE 127 1)).vgov = true)
  ∧ (127 < 128)
  ∧ ((((sl 5 {} up).setf F.SLOTn_STATUS_PENDING_ENABLE 127 1)).slotSt 127 = 5)
  ∧ (((((sl 5 {} up).setf F.SLOTn_STATUS_PENDING_ENABLE 127 1)).slot 127).busy = 0)
  ∧ (((((sl 5 {} up).setf F.SLOTn_STATUS_PENDING_ENABLE 127 1)).slot 127).ready = false)
  ∧ okNext (.slotQuietPoint 127) (((sl 5 {} up).setf F.SLOTn_STATUS_PENDING_ENABLE 127 1)) (fun t => decide (t.slotSt 127 = (if (((sl 5 {} up).setf F.SLOTn_STATUS_PENDING_ENABLE 127 1)).on F.SLOTn_STATUS_PENDING_ENABLE 127 then 1 else 0)) && decide (t.on F.SLOTn_STATUS_PENDING_ENABLE 127 = false)) = true := by decide +kernel

theorem test_SlotControl_5 : (up.portTakes R.LOOPNk_CFG 0 = true)
  ∧ (((0xFF000000 : Word)).getLsbD 31 = true)
  ∧ okNext (.notchAssign true 0 ((0xFF000000 : Word))) up (fun t => decide (((t.notch 0).req = true ∨ (t.f F.LOOPNk_STATUS_USE 0 = 1 ∧ t.f F.LOOPNk_STATUS_SLOT_NOW 0 = getBits ((0xFF000000 : Word)) 24 7))) && decide (t.rsp.err = false)) = true := by decide +kernel

theorem test_SlotControl_5_held : (((up.setf F.LOOPNk_STATUS_USE 0 2)).portTakes R.LOOPNk_CFG 0 = true)
  ∧ (((0xFF000000 : Word)).getLsbD 31 = true)
  ∧ okNext (.notchAssign true 0 ((0xFF000000 : Word))) ((up.setf F.LOOPNk_STATUS_USE 0 2)) (fun t => decide (((t.notch 0).req = true ∨ (t.f F.LOOPNk_STATUS_USE 0 = 1 ∧ t.f F.LOOPNk_STATUS_SLOT_NOW 0 = getBits ((0xFF000000 : Word)) 24 7))) && decide (t.rsp.err = false)) = true := by decide +kernel

theorem test_SlotControl_6 : (((up.setf F.LOOPNk_STATUS_USE 0 1)).portTakes R.LOOPNk_CFG 0 = true)
  ∧ (((0 : Word)).getLsbD 31 = false)
  ∧ okNext (.notchAssign true 0 ((0 : Word))) ((up.setf F.LOOPNk_STATUS_USE 0 1)) (fun t => decide ((t.notch 0).req = false) && decide (t.f F.LOOPNk_STATUS_USE 0 ≠ 1) && decide ((((up.setf F.LOOPNk_STATUS_USE 0 1)).f F.LOOPNk_STATUS_USE 0 = 2 → t.f F.LOOPNk_STATUS_USE 0 = 2))) = true := by decide +kernel

theorem test_SlotControl_6_rec : (((up.setf F.LOOPNk_STATUS_USE 0 2)).portTakes R.LOOPNk_CFG 0 = true)
  ∧ (((0 : Word)).getLsbD 31 = false)
  ∧ okNext (.notchAssign true 0 ((0 : Word))) ((up.setf F.LOOPNk_STATUS_USE 0 2)) (fun t => decide ((t.notch 0).req = false) && decide (t.f F.LOOPNk_STATUS_USE 0 ≠ 1) && decide ((((up.setf F.LOOPNk_STATUS_USE 0 2)).f F.LOOPNk_STATUS_USE 0 = 2 → t.f F.LOOPNk_STATUS_USE 0 = 2))) = true := by decide +kernel

theorem test_SlotControl_7 : ((((sl 5 { busy := 1 } up)).slot 127).busy ≠ 0 ∨ (((sl 5 { busy := 1 } up)).slot 127).ready = true)
  ∧ okNext (.slotQuietPoint 127) ((sl 5 { busy := 1 } up)) (fun t => decide (t = ((sl 5 { busy := 1 } up)))) = true := by decide +kernel

theorem test_SlotControl_8 : ((((sl 1 {} up).wr R.SLOTn_LAT 0 99)).portTakes R.LOOP_LATCLR 0 = true)
  ∧ okNext (.latencyClear true) (((sl 1 {} up).wr R.SLOTn_LAT 0 99)) (fun t => decide (t.f F.LOOP_LATCLR_STATUS = 1) && decide (t.loop.busyClr = some ((((sl 1 {} up).wr R.SLOTn_LAT 0 99)).epoch + 1)) && decide ((∀ n : Nat, n < 128 → (((sl 1 {} up).wr R.SLOTn_LAT 0 99)).slotLive n = true → (t.slot n).latClr = true)) && decide ((∀ n : Nat, n < 128 → (((sl 1 {} up).wr R.SLOTn_LAT 0 99)).slotLive n = false → t.rd R.SLOTn_LAT n = R.SLOTn_LAT.rst n))) = true := by decide +kernel

theorem test_RailNeedAndResends_0 : (({ up with welt := { up.welt with needSent := some 4095 } }).welt.needSent = some 4095)
  ∧ (({ up with welt := { up.welt with needSent := some 4095 } }).vgov = true)
  ∧ okNext .railNeedReceive ({ up with welt := { up.welt with needSent := some 4095 } }) (fun t => decide (t.rails.need = 4095) && decide (t.rails.needAt = some ({ up with welt := { up.welt with needSent := some 4095 } }).now) && decide (t.rails.needLate = false) && decide (t.welt.needSent = none) && decide ((Tab.get {} t.loop.src 0x6000).v = 4095)) = true := by decide +kernel

theorem test_RailNeedAndResends_1 : (up.vgov = true)
  ∧ (up.rails.needLate = false)
  ∧ (up.passed (up.rails.needAt.getD 0) 10000 = true)
  ∧ okNext .railNeedTimeout up (fun t => decide (t.rails.needLate = true) && decide (rep t 0x46 0 = true) && decide (t.rails.need = up.rails.need)) = true := by decide +kernel

theorem test_RailNeedAndResends_2 : (((((up.setf F.LOOP_CTRL_EN 0 1).setf F.LOOPGg_STATUS_VALID 0 1).setGroup 0 { had := true }).wr R.LOOPGg_OUT 0 0x00010000).vgov = true)
  ∧ (((((up.setf F.LOOP_CTRL_EN 0 1).setf F.LOOPGg_STATUS_VALID 0 1).setGroup 0 { had := true }).wr R.LOOPGg_OUT 0 0x00010000).dieUp = true)
  ∧ (((((up.setf F.LOOP_CTRL_EN 0 1).setf F.LOOPGg_STATUS_VALID 0 1).setGroup 0 { had := true }).wr R.LOOPGg_OUT 0 0x00010000).on F.LOOP_CTRL_EN = true)
  ∧ ((((((up.setf F.LOOP_CTRL_EN 0 1).setf F.LOOPGg_STATUS_VALID 0 1).setGroup 0 { had := true }).wr R.LOOPGg_OUT 0 0x00010000).group 0).had = true)
  ∧ (((((up.setf F.LOOP_CTRL_EN 0 1).setf F.LOOPGg_STATUS_VALID 0 1).setGroup 0 { had := true }).wr R.LOOPGg_OUT 0 0x00010000).on F.LOOPGg_STATUS_VALID 0 = true)
  ∧ okNext .groupResend ((((up.setf F.LOOP_CTRL_EN 0 1).setf F.LOOPGg_STATUS_VALID 0 1).setGroup 0 { had := true }).wr R.LOOPGg_OUT 0 0x00010000) (fun t => decide (t.crd.budget = (clampInt 0 65535 (((((up.setf F.LOOP_CTRL_EN 0 1).setf F.LOOPGg_STATUS_VALID 0 1).setGroup 0 { had := true }).wr R.LOOPGg_OUT 0 0x00010000).fi F.LOOPGg_OUT_OUT 0)).toNat)) = true := by decide +kernel

def ls (st : Nat) (x : LastSt) : State := (up.setLast 15 x).setf F.LASTl_STATUS_STATE 15 st

theorem test_LastsFollowTheLoad_0 : ((((ls 1 { marks := [999990] })).last 15).marks = ((999990 : Word64)) :: (([] : List Word64)))
  ∧ (((ls 1 { marks := [999990] })).vgov = true)
  ∧ (15 < 16)
  ∧ (((ls 1 { marks := [999990] })).lastState 15 = 1)
  ∧ ((((ls 1 { marks := [999990] })).last 15).prevMark = none)
  ∧ okNext (.lastMarker 15) ((ls 1 { marks := [999990] })) (fun t => decide (t.lastState 15 = 1) && decide ((t.last 15).prevMark = some ((999990 : Word64))) && decide ((t.last 15).intervals = []) && decide ((t.last 15).marks = (([] : List Word64)))) = true := by decide +kernel

theorem test_LastsFollowTheLoad_1 : ((((ls 1 { marks := [140000], prevMark := some 120000, intervals := [20000, 20000, 20000], plock := 20000 })).last 15).marks = ((140000 : Word64)) :: (([] : List Word64)))
  ∧ (((ls 1 { marks := [140000], prevMark := some 120000, intervals := [20000, 20000, 20000], plock := 20000 })).vgov = true)
  ∧ (15 < 16)
  ∧ (((ls 1 { marks := [140000], prevMark := some 120000, intervals := [20000, 20000, 20000], plock := 20000 })).lastState 15 = 1)
  ∧ ((((ls 1 { marks := [140000], prevMark := some 120000, intervals := [20000, 20000, 20000], plock := 20000 })).last 15).prevMark = some ((120000 : Word64)))
  ∧ (lockMean (((ls 1 { marks := [140000], prevMark := some 120000, intervals := [20000, 20000, 20000], plock := 20000 })).last 15).pmin (((ls 1 { marks := [140000], prevMark := some 120000, intervals := [20000, 20000, 20000], plock := 20000 })).last 15).pmax (((((140000 : Word64)) - ((120000 : Word64))).toNat :: (((ls 1 { marks := [140000], prevMark := some 120000, intervals := [20000, 20000, 20000], plock := 20000 })).last 15).intervals).take 4) = some 20000)
  ∧ okNext (.lastMarker 15) ((ls 1 { marks := [140000], prevMark := some 120000, intervals := [20000, 20000, 20000], plock := 20000 })) (fun t => decide (t.lastState 15 = 2) && decide ((t.last 15).pEst = 20000) && decide ((t.last 15).tm = ((140000 : Word64))) && decide ((t.last 15).marks = (([] : List Word64))) && decide (t.on F.LASTl_STATUS_AUTO_LOCK 15 = false) && decide (t.f F.LASTl_COUNT_LOCKS 15 = (((ls 1 { marks := [140000], prevMark := some 120000, intervals := [20000, 20000, 20000], plock := 20000 })).f F.LASTl_COUNT_LOCKS 15 + 1) % 65536) && decide ((within2 (((ls 1 { marks := [140000], prevMark := some 120000, intervals := [20000, 20000, 20000], plock := 20000 })).last 15).plock 20000 = true → (t.last 15).t = (((ls 1 { marks := [140000], prevMark := some 120000, intervals := [20000, 20000, 20000], plock := 20000 })).last 15).t ∧ (t.last 15).plock = (((ls 1 { marks := [140000], prevMark := some 120000, intervals := [20000, 20000, 20000], plock := 20000 })).last 15).plock))) = true := by decide +kernel

theorem test_LastsFollowTheLoad_2 : ((((ls 2 { marks := [300000], pEst := 100000, tm := 200000, plock := 100000 })).last 15).marks = ((300000 : Word64)) :: (([] : List Word64)))
  ∧ (((ls 2 { marks := [300000], pEst := 100000, tm := 200000, plock := 100000 })).vgov = true)
  ∧ (15 < 16)
  ∧ (((ls 2 { marks := [300000], pEst := 100000, tm := 200000, plock := 100000 })).lastState 15 = 2)
  ∧ (((ls 2 { marks := [300000], pEst := 100000, tm := 200000, plock := 100000 })).on F.LASTl_STATUS_AUTO_LOCK 15 = false)
  ∧ (100000 = (clampInt (((ls 2 { marks := [300000], pEst := 100000, tm := 200000, plock := 100000 })).last 15).pmin (((ls 2 { marks := [300000], pEst := 100000, tm := 200000, plock := 100000 })).last 15).pmax
        ((((ls 2 { marks := [300000], pEst := 100000, tm := 200000, plock := 100000 })).last 15).pEst + divNearest (((((300000 : Word64)) - (((ls 2 { marks := [300000], pEst := 100000, tm := 200000, plock := 100000 })).last 15).tm).toNat : Int) - (((ls 2 { marks := [300000], pEst := 100000, tm := 200000, plock := 100000 })).last 15).pEst) 8)).toNat)
  ∧ (98 * (((ls 2 { marks := [300000], pEst := 100000, tm := 200000, plock := 100000 })).last 15).pEst ≤ (((300000 : Word64)) - (((ls 2 { marks := [300000], pEst := 100000, tm := 200000, plock := 100000 })).last 15).tm).toNat * 100)
  ∧ (within2 (((300000 : Word64)) - (((ls 2 { marks := [300000], pEst := 100000, tm := 200000, plock := 100000 })).last 15).tm).toNat (((ls 2 { marks := [300000], pEst := 100000, tm := 200000, plock := 100000 })).last 15).pEst = true)
  ∧ (within2 100000 (((ls 2 { marks := [300000], pEst := 100000, tm := 200000, plock := 100000 })).last 15).plock = true)
  ∧ okNext (.lastMarker 15) ((ls 2 { marks := [300000], pEst := 100000, tm := 200000, plock := 100000 })) (fun t => decide (t.lastState 15 = 2) && decide ((t.last 15).pEst = 100000) && decide ((t.last 15).tm = ((300000 : Word64))) && decide ((t.last 15).learn = ((ls 2 { marks := [300000], pEst := 100000, tm := 200000, plock := 100000 })).rd R.LASTl_LEARN 15) && decide (((((ls 2 { marks := [300000], pEst := 100000, tm := 200000, plock := 100000 })).last 15).srcBad = true ∨ (((ls 2 { marks := [300000], pEst := 100000, tm := 200000, plock := 100000 })).last 15).binHeld = true ∨ ((ls 2 { marks := [300000], pEst := 100000, tm := 200000, plock := 100000 })).outHeld = true → (t.last 15).t = (((ls 2 { marks := [300000], pEst := 100000, tm := 200000, plock := 100000 })).last 15).t))) = true := by decide +kernel

theorem test_LastsFollowTheLoad_3 : ((((ls 2 { marks := [302001], pEst := 100000, tm := 200000, plock := 100000 })).last 15).marks = ((302001 : Word64)) :: (([] : List Word64)))
  ∧ (((ls 2 { marks := [302001], pEst := 100000, tm := 200000, plock := 100000 })).vgov = true)
  ∧ (15 < 16)
  ∧ (((ls 2 { marks := [302001], pEst := 100000, tm := 200000, plock := 100000 })).lastState 15 = 2)
  ∧ (((ls 2 { marks := [302001], pEst := 100000, tm := 200000, plock := 100000 })).on F.LASTl_STATUS_AUTO_LOCK 15 = false)
  ∧ (98 * (((ls 2 { marks := [302001], pEst := 100000, tm := 200000, plock := 100000 })).last 15).pEst ≤ (((302001 : Word64)) - (((ls 2 { marks := [302001], pEst := 100000, tm := 200000, plock := 100000 })).last 15).tm).toNat * 100)
  ∧ (within2 (((302001 : Word64)) - (((ls 2 { marks := [302001], pEst := 100000, tm := 200000, plock := 100000 })).last 15).tm).toNat (((ls 2 { marks := [302001], pEst := 100000, tm := 200000, plock := 100000 })).last 15).pEst = false)
  ∧ okNext (.lastMarker 15) ((ls 2 { marks := [302001], pEst := 100000, tm := 200000, plock := 100000 })) (fun t => decide (t.lastState 15 = 3) && decide ((t.last 15).prevMark = some ((302001 : Word64)))) = true := by decide +kernel

theorem test_LastsFollowTheLoad_4 : ((((ls 2 { marks := [297999], pEst := 100000, tm := 200000, plock := 100000 })).last 15).marks = ((297999 : Word64)) :: (([] : List Word64)))
  ∧ (((ls 2 { marks := [297999], pEst := 100000, tm := 200000, plock := 100000 })).vgov = true)
  ∧ (15 < 16)
  ∧ (((ls 2 { marks := [297999], pEst := 100000, tm := 200000, plock := 100000 })).lastState 15 = 2)
  ∧ (((ls 2 { marks := [297999], pEst := 100000, tm := 200000, plock := 100000 })).on F.LASTl_STATUS_AUTO_LOCK 15 = false)
  ∧ ((((297999 : Word64)) - (((ls 2 { marks := [297999], pEst := 100000, tm := 200000, plock := 100000 })).last 15).tm).toNat * 100 < 98 * (((ls 2 { marks := [297999], pEst := 100000, tm := 200000, plock := 100000 })).last 15).pEst)
  ∧ okNext (.lastMarker 15) ((ls 2 { marks := [297999], pEst := 100000, tm := 200000, plock := 100000 })) (fun t => decide (t.lastState 15 = 3)) = true := by decide +kernel

theorem test_LastsFollowTheLoad_5 : (((ls 2 { pEst := 100000, tm := 897999 })).vgov = true)
  ∧ (15 < 16)
  ∧ (((ls 2 { pEst := 100000, tm := 897999 })).lastState 15 = 2)
  ∧ (((ls 2 { pEst := 100000, tm := 897999 })).on F.LASTl_STATUS_AUTO_LOCK 15 = false)
  ∧ ((((ls 2 { pEst := 100000, tm := 897999 })).last 15).marks = [])
  ∧ (102 * (((ls 2 { pEst := 100000, tm := 897999 })).last 15).pEst < 100 * ((ls 2 { pEst := 100000, tm := 897999 })).since (((ls 2 { pEst := 100000, tm := 897999 })).last 15).tm)
  ∧ okNext (.lastMarkerTimeout 15) ((ls 2 { pEst := 100000, tm := 897999 })) (fun t => decide (t.lastState 15 = 3) && decide ((t.last 15).gLen = 4 * (((ls 2 { pEst := 100000, tm := 897999 })).last 15).pEst) && decide ((t.last 15).gFrom = ((ls 2 { pEst := 100000, tm := 897999 })).lastG 15 0) && decide ((t.last 15).gAt = ((ls 2 { pEst := 100000, tm := 897999 })).now) && decide (t.f F.LASTl_COUNT_FADES 15 = (((ls 2 { pEst := 100000, tm := 897999 })).f F.LASTl_COUNT_FADES 15 + 1) % 65536)) = true := by decide +kernel

theorem test_LastsFollowTheLoad_6 : (((ls 3 { gFrom := 256, gLen := 100, gAt := 999900 })).vgov = true)
  ∧ (15 < 16)
  ∧ (((ls 3 { gFrom := 256, gLen := 100, gAt := 999900 })).lastState 15 = 3)
  ∧ (((ls 3 { gFrom := 256, gLen := 100, gAt := 999900 })).passed (((ls 3 { gFrom := 256, gLen := 100, gAt := 999900 })).last 15).gAt (((ls 3 { gFrom := 256, gLen := 100, gAt := 999900 })).last 15).gLen = true)
  ∧ ((((ls 3 { gFrom := 256, gLen := 100, gAt := 999900 })).last 15).pendLock = none)
  ∧ okNext (.lastFadeEnd 15) ((ls 3 { gFrom := 256, gLen := 100, gAt := 999900 })) (fun t => decide (t.lastState 15 = 1)) = true := by decide +kernel

theorem test_LastsFollowTheLoad_7 : (((ls 3 { gFrom := 256, gLen := 100, gAt := 999900, pendLock := some (20000, 999000, 5, 1) })).vgov = true)
  ∧ (15 < 16)
  ∧ (((ls 3 { gFrom := 256, gLen := 100, gAt := 999900, pendLock := some (20000, 999000, 5, 1) })).lastState 15 = 3)
  ∧ (((ls 3 { gFrom := 256, gLen := 100, gAt := 999900, pendLock := some (20000, 999000, 5, 1) })).passed (((ls 3 { gFrom := 256, gLen := 100, gAt := 999900, pendLock := some (20000, 999000, 5, 1) })).last 15).gAt (((ls 3 { gFrom := 256, gLen := 100, gAt := 999900, pendLock := some (20000, 999000, 5, 1) })).last 15).gLen = true)
  ∧ ((((ls 3 { gFrom := 256, gLen := 100, gAt := 999900, pendLock := some (20000, 999000, 5, 1) })).last 15).pendLock = some (20000, ((999000 : Word64)), ((5 : Int)), 1))
  ∧ okNext (.lastFadeEnd 15) ((ls 3 { gFrom := 256, gLen := 100, gAt := 999900, pendLock := some (20000, 999000, 5, 1) })) (fun t => decide (t.lastState 15 = 2) && decide ((t.last 15).pEst = 20000) && decide ((t.last 15).tm = ((999000 : Word64))) && decide ((t.last 15).pendLock = none)) = true := by decide +kernel

theorem test_LastsFollowTheLoad_8 : (((ls 3 { gFrom := 256, gLen := 101, gAt := 999900 })).passed (((ls 3 { gFrom := 256, gLen := 101, gAt := 999900 })).last 15).gAt (((ls 3 { gFrom := 256, gLen := 101, gAt := 999900 })).last 15).gLen = false)
  ∧ okNext (.lastFadeEnd 15) ((ls 3 { gFrom := 256, gLen := 101, gAt := 999900 })) (fun t => decide (t = ((ls 3 { gFrom := 256, gLen := 101, gAt := 999900 })))) = true := by decide +kernel

def corr0 : State := ls 1 { mode := 1, pmin := 10000, pmax := 10000, lag := some 10, blkAt := 1000, blocks := [] }

theorem test_LastsFollowTheLoad_9 : ((((corr0.last 15).closeBlocks corr0.now.toNat (Tab.get {} corr0.loop.src ((corr0.last 15).srcKey 15)).v)) = (corr0.last 15).closeBlocks corr0.now.toNat (Tab.get {} corr0.loop.src ((corr0.last 15).srcKey 15)).v)
  ∧ (corr0.vgov = true)
  ∧ (15 < 16)
  ∧ ((corr0.last 15).mode ≠ 0)
  ∧ (corr0.due 11 15 (2 * (corr0.last 15).pmax) 0 = true)
  ∧ (corr0.lastState 15 = 1)
  ∧ ((((corr0.last 15).closeBlocks corr0.now.toNat (Tab.get {} corr0.loop.src ((corr0.last 15).srcKey 15)).v)).blocks.length < 2048 + (((corr0.last 15).closeBlocks corr0.now.toNat (Tab.get {} corr0.loop.src ((corr0.last 15).srcKey 15)).v)).pmax / (((corr0.last 15).closeBlocks corr0.now.toNat (Tab.get {} corr0.loop.src ((corr0.last 15).srcKey 15)).v)).blockLen)
  ∧ okNext (.lastCorrelationEval 15) corr0 (fun t => decide (t.last 15 = (((corr0.last 15).closeBlocks corr0.now.toNat (Tab.get {} corr0.loop.src ((corr0.last 15).srcKey 15)).v)))) = true := by decide +kernel

def corrS : State := (ls 1 { mode := 1, pmin := 10000, pmax := 10000, lag := some 10, blkAt := 1000, blocks := 256 :: List.replicate 2057 0 }).setf F.LAST_CTRL_AC_THR 0 0

theorem test_LastsFollowTheLoad_10 : ((((corrS.last 15).closeBlocks corrS.now.toNat (Tab.get {} corrS.loop.src ((corrS.last 15).srcKey 15)).v)) = (corrS.last 15).closeBlocks corrS.now.toNat (Tab.get {} corrS.loop.src ((corrS.last 15).srcKey 15)).v)
  ∧ (corrS.vgov = true)
  ∧ (15 < 16)
  ∧ ((corrS.last 15).mode ≠ 0)
  ∧ (corrS.due 11 15 (2 * (corrS.last 15).pmax) 0 = true)
  ∧ (corrS.lastState 15 = 1)
  ∧ (2048 + (((corrS.last 15).closeBlocks corrS.now.toNat (Tab.get {} corrS.loop.src ((corrS.last 15).srcKey 15)).v)).pmax / (((corrS.last 15).closeBlocks corrS.now.toNat (Tab.get {} corrS.loop.src ((corrS.last 15).srcKey 15)).v)).blockLen ≤ (((corrS.last 15).closeBlocks corrS.now.toNat (Tab.get {} corrS.loop.src ((corrS.last 15).srcKey 15)).v)).blocks.length)
  ∧ (bestLag (((corrS.last 15).closeBlocks corrS.now.toNat (Tab.get {} corrS.loop.src ((corrS.last 15).srcKey 15)).v)).blocks (divUp (((corrS.last 15).closeBlocks corrS.now.toNat (Tab.get {} corrS.loop.src ((corrS.last 15).srcKey 15)).v)).pmin (((corrS.last 15).closeBlocks corrS.now.toNat (Tab.get {} corrS.loop.src ((corrS.last 15).srcKey 15)).v)).blockLen) ((((corrS.last 15).closeBlocks corrS.now.toNat (Tab.get {} corrS.loop.src ((corrS.last 15).srcKey 15)).v)).pmax / (((corrS.last 15).closeBlocks corrS.now.toNat (Tab.get {} corrS.loop.src ((corrS.last 15).srcKey 15)).v)).blockLen) = some (10, (((bestLag (256 :: List.replicate 2057 0) 10 10).getD (0, 0)).2)))
  ∧ (0 < autoCorr (((corrS.last 15).closeBlocks corrS.now.toNat (Tab.get {} corrS.loop.src ((corrS.last 15).srcKey 15)).v)).blocks 0)
  ∧ ((((corrS.last 15).closeBlocks corrS.now.toNat (Tab.get {} corrS.loop.src ((corrS.last 15).srcKey 15)).v)).lag = some 10)
  ∧ (within2 10 10 = true) := by decide +kernel

def corrC : State := ((ls 2 { mode := 1, pmin := 10000, pmax := 10000, pEst := 20000, blkAt := 1000, blocks := 256 :: List.replicate 2057 0 }).setf F.LAST_CTRL_AC_THR 0 0).setf F.LASTl_STATUS_AUTO_LOCK 15 1

theorem test_LastsFollowTheLoad_11 : ((((corrC.last 15).closeBlocks corrC.now.toNat (Tab.get {} corrC.loop.src ((corrC.last 15).srcKey 15)).v)) = (corrC.last 15).closeBlocks corrC.now.toNat (Tab.get {} corrC.loop.src ((corrC.last 15).srcKey 15)).v)
  ∧ (corrC.vgov = true)
  ∧ (15 < 16)
  ∧ ((corrC.last 15).mode ≠ 0)
  ∧ (corrC.due 11 15 (2 * (corrC.last 15).pmax) 0 = true)
  ∧ (corrC.lastState 15 = 2)
  ∧ (corrC.on F.LASTl_STATUS_AUTO_LOCK 15 = true)
  ∧ (2048 + (((corrC.last 15).closeBlocks corrC.now.toNat (Tab.get {} corrC.loop.src ((corrC.last 15).srcKey 15)).v)).pmax / (((corrC.last 15).closeBlocks corrC.now.toNat (Tab.get {} corrC.loop.src ((corrC.last 15).srcKey 15)).v)).blockLen ≤ (((corrC.last 15).closeBlocks corrC.now.toNat (Tab.get {} corrC.loop.src ((corrC.last 15).srcKey 15)).v)).blocks.length)
  ∧ (bestLag (((corrC.last 15).closeBlocks corrC.now.toNat (Tab.get {} corrC.loop.src ((corrC.last 15).srcKey 15)).v)).blocks (divUp (((corrC.last 15).closeBlocks corrC.now.toNat (Tab.get {} corrC.loop.src ((corrC.last 15).srcKey 15)).v)).pmin (((corrC.last 15).closeBlocks corrC.now.toNat (Tab.get {} corrC.loop.src ((corrC.last 15).srcKey 15)).v)).blockLen) ((((corrC.last 15).closeBlocks corrC.now.toNat (Tab.get {} corrC.loop.src ((corrC.last 15).srcKey 15)).v)).pmax / (((corrC.last 15).closeBlocks corrC.now.toNat (Tab.get {} corrC.loop.src ((corrC.last 15).srcKey 15)).v)).blockLen) = some (10, (((bestLag (256 :: List.replicate 2057 0) 10 10).getD (0, 0)).2)))
  ∧ (within2 (10 * (((corrC.last 15).closeBlocks corrC.now.toNat (Tab.get {} corrC.loop.src ((corrC.last 15).srcKey 15)).v)).blockLen) (corrC.last 15).pEst = false) := by decide +kernel

def bin0 : State := ls 2 { dest := 2, pEst := 10000, tm := 999000, plock := 10000, t := [(0, 100)], bins := 10 , learn := 0 }

theorem test_LastsFollowTheLoad_12 : (((bin0.setLast 15 { (bin0.last 15) with bin := 1 })).vgov = true)
  ∧ (15 < 16)
  ∧ (2 ≤ ((bin0.setLast 15 { (bin0.last 15) with bin := 1 })).lastState 15)
  ∧ (((bin0.setLast 15 { (bin0.last 15) with bin := 1 })).lastBin 15 0 = (((bin0.setLast 15 { (bin0.last 15) with bin := 1 })).last 15).bin)
  ∧ okNext (.lastBinUpdate 15) ((bin0.setLast 15 { (bin0.last 15) with bin := 1 })) (fun t => decide ((t.last 15).t = (((bin0.setLast 15 { (bin0.last 15) with bin := 1 })).last 15).t) && decide (t.last 15 = { ((bin0.setLast 15 { (bin0.last 15) with bin := 1 })).last 15 with leadWas := (t.last 15).leadWas })) = true := by decide +kernel

theorem test_LastsFollowTheLoad_13 : (({ bin0 with loop := { bin0.loop with src := [(0x1000F, { v := 50, n := 1, sum := 50, t := 999990 })] } }).vgov = true)
  ∧ (15 < 16)
  ∧ (({ bin0 with loop := { bin0.loop with src := [(0x1000F, { v := 50, n := 1, sum := 50, t := 999990 })] } }).lastState 15 = 2)
  ∧ (({ bin0 with loop := { bin0.loop with src := [(0x1000F, { v := 50, n := 1, sum := 50, t := 999990 })] } }).lastBin 15 0 ≠ (({ bin0 with loop := { bin0.loop with src := [(0x1000F, { v := 50, n := 1, sum := 50, t := 999990 })] } }).last 15).bin)
  ∧ okNext (.lastBinUpdate 15) ({ bin0 with loop := { bin0.loop with src := [(0x1000F, { v := 50, n := 1, sum := 50, t := 999990 })] } }) (fun t => decide ((t.last 15).bin = 1) && decide ((t.last 15).learn = ({ bin0 with loop := { bin0.loop with src := [(0x1000F, { v := 50, n := 1, sum := 50, t := 999990 })] } }).rd R.LASTl_LEARN 15) && decide (Tab.get 0 (t.last 15).t 0 = 50)) = true := by decide +kernel

theorem test_LastAndPredictorCommands_0 : (((up.setLast 15 { t := [(3, 4)] })).portTakes R.LASTl_CFG 15 = true)
  ∧ (((0x800001FF : Word)).getLsbD 31 = true)
  ∧ (((up.setLast 15 { t := [(3, 4)] })).lastState 15 = 0)
  ∧ okNext (.lastEnableWrite true 15 ((0x800001FF : Word))) ((up.setLast 15 { t := [(3, 4)] })) (fun t => decide (t.lastState 15 = 1) && decide (t.on F.LASTl_CFG_EN 15 = true) && decide ((t.last 15).bins = max 1 (getBits ((0x800001FF : Word)) 0 12) + 1) && decide ((t.last 15).marks = []) && decide ((t.last 15).t = (((up.setLast 15 { t := [(3, 4)] })).last 15).t) && decide (t.rsp.err = false)) = true := by decide +kernel

theorem test_LastAndPredictorCommands_1 : (((ls 3 { t := [(3, 4)] })).portTakes R.LASTl_CFG 15 = true)
  ∧ (((0 : Word)).getLsbD 31 = false)
  ∧ (((ls 3 { t := [(3, 4)] })).lastState 15 ≠ 0)
  ∧ okNext (.lastEnableWrite true 15 ((0 : Word))) ((ls 3 { t := [(3, 4)] })) (fun t => decide (t.lastState 15 = 0) && decide (t.on F.LASTl_CFG_EN 15 = false) && decide (t.lastG 15 0 = 0) && decide ((t.last 15).t = (((ls 3 { t := [(3, 4)] })).last 15).t) && decide (t.rd R.LASTl_MEAN 15 = ((ls 3 { t := [(3, 4)] })).rd R.LASTl_MEAN 15) && decide (t.rsp.err = false)) = true := by decide +kernel

theorem test_LastAndPredictorCommands_2 : (((up.setf F.LAST_BINDATA_VALUE 0 0xFFFF)).portTakes R.LAST_BINLOAD 0 = true)
  ∧ (((up.setf F.LAST_BINDATA_VALUE 0 0xFFFF)).on F.LASTl_CFG_EN (getBits ((0x000F0FFF : Word)) 16 4) = false)
  ∧ okNext (.lastBinload true ((0x000F0FFF : Word))) ((up.setf F.LAST_BINDATA_VALUE 0 0xFFFF)) (fun t => decide (t.f F.LAST_BINLOAD_STATUS = 2) && decide (Tab.get 0 (t.last (getBits ((0x000F0FFF : Word)) 16 4)).t (getBits ((0x000F0FFF : Word)) 0 12) = ((up.setf F.LAST_BINDATA_VALUE 0 0xFFFF)).fi F.LAST_BINDATA_VALUE) && decide (t.on F.LASTl_STATUS_LOADED (getBits ((0x000F0FFF : Word)) 16 4) = true) && decide (t.rsp.err = false)) = true := by decide +kernel

theorem test_LastAndPredictorCommands_3 : (((up.setf F.LASTl_CFG_EN 15 1)).portTakes R.LAST_BINLOAD 0 = true)
  ∧ (((up.setf F.LASTl_CFG_EN 15 1)).on F.LASTl_CFG_EN (getBits ((0x000F0FFF : Word)) 16 4) = true)
  ∧ okNext (.lastBinload true ((0x000F0FFF : Word))) ((up.setf F.LASTl_CFG_EN 15 1)) (fun t => decide (t.f F.LAST_BINLOAD_STATUS = 3) && decide ({ t with regs := ((up.setf F.LASTl_CFG_EN 15 1)).regs, rsp := ((up.setf F.LASTl_CFG_EN 15 1)).rsp } = ((up.setf F.LASTl_CFG_EN 15 1)))) = true := by decide +kernel

def pr : State := up.setf F.PRED_CTRL_EN 0 1

theorem test_LastAndPredictorCommands_4 : (pr.predOn = true)
  ∧ (pr.coreUp 511 = true)
  ∧ (pr.now.toNat % 250 ≤ 50)
  ∧ ((pr.predCore 511).got ≠ some pr.predIdx)
  ∧ okNext (.activityWindow 511 ([2000, 5])) pr (fun t => decide ((t.predCore 511).got = some pr.predIdx) && decide ((t.predCore 511).wins = (([2000, 5]).map (fun c => min c 1023) :: (pr.predCore 511).wins).take 4) && decide ({ t with lasts := pr.lasts } = pr)) = true := by decide +kernel

theorem test_LastAndPredictorCommands_5 : (up.portTakes R.PRED_RESUME 0 = true)
  ∧ (up.on F.PRED_CTRL_FORCE_LIN = true ∨ up.on F.PRED_CTRL_EN = false)
  ∧ okNext (.predResumeGo true) up (fun t => decide (t.f F.PRED_RESUME_STATUS = 3) && decide (t.f F.PRED_STATUS_STATE = up.f F.PRED_STATUS_STATE) && decide (t.lasts = up.lasts)) = true := by decide +kernel

theorem test_LastAndPredictorCommands_6 : ((((pr.setf F.PREDCc_STATUS_FALLBACK 0 1).setf F.PRED_STATUS_STATE 0 3)).portTakes R.PRED_RESUME 0 = true)
  ∧ ((((pr.setf F.PREDCc_STATUS_FALLBACK 0 1).setf F.PRED_STATUS_STATE 0 3)).on F.PRED_CTRL_FORCE_LIN = false)
  ∧ ((((pr.setf F.PREDCc_STATUS_FALLBACK 0 1).setf F.PRED_STATUS_STATE 0 3)).on F.PRED_CTRL_EN = true)
  ∧ okNext (.predResumeGo true) (((pr.setf F.PREDCc_STATUS_FALLBACK 0 1).setf F.PRED_STATUS_STATE 0 3)) (fun t => decide (t.f F.PRED_RESUME_STATUS = 2) && decide (t.f F.PRED_STATUS_STATE = 1) && decide (t.f F.PRED_STATUS_SET_LIN = 0) && decide (t.lasts.pred.suspect = []) && decide (t.lasts.pred.run = 0) && decide (∀ c : Nat, c < 64 → t.on F.PREDCc_STATUS_FALLBACK c = false ∧ t.on F.PREDCc_STATUS_WITHDRAWN c = false)) = true := by decide +kernel

theorem test_LastAndPredictorCommands_7 : (pr.portTakes R.PRED_CTRL 0 = true)
  ∧ (((0xC0000000 : Word)).getLsbD 31 = pr.on F.PRED_CTRL_EN)
  ∧ okNext (.predSetHold true ((0xC0000000 : Word))) pr (fun t => decide (t.rsp.err = false) && decide (t.on F.PRED_CTRL_SET_HOLD = ((0xC0000000 : Word)).getLsbD 30) && decide ((pr.on F.PRED_CTRL_SET_HOLD = false → ((0xC0000000 : Word)).getLsbD 30 = true → t.lasts.pred.held = some t.setContents ∧ t.lasts.pred.releaseAt = false)) && decide ((pr.on F.PRED_CTRL_SET_HOLD = true → ((0xC0000000 : Word)).getLsbD 30 = false → t.lasts.pred.releaseAt = true ∧ t.lasts.pred.held = pr.lasts.pred.held)) && decide ((pr.on F.PRED_CTRL_SET_HOLD = ((0xC0000000 : Word)).getLsbD 30 → t.lasts = pr.lasts))) = true := by decide +kernel

theorem test_LastAndPredictorCommands_7_rel : (((pr.setf F.PRED_CTRL_SET_HOLD 0 1)).portTakes R.PRED_CTRL 0 = true)
  ∧ (((0x80000000 : Word)).getLsbD 31 = ((pr.setf F.PRED_CTRL_SET_HOLD 0 1)).on F.PRED_CTRL_EN)
  ∧ okNext (.predSetHold true ((0x80000000 : Word))) ((pr.setf F.PRED_CTRL_SET_HOLD 0 1)) (fun t => decide (t.rsp.err = false) && decide (t.on F.PRED_CTRL_SET_HOLD = ((0x80000000 : Word)).getLsbD 30) && decide ((((pr.setf F.PRED_CTRL_SET_HOLD 0 1)).on F.PRED_CTRL_SET_HOLD = false → ((0x80000000 : Word)).getLsbD 30 = true → t.lasts.pred.held = some t.setContents ∧ t.lasts.pred.releaseAt = false)) && decide ((((pr.setf F.PRED_CTRL_SET_HOLD 0 1)).on F.PRED_CTRL_SET_HOLD = true → ((0x80000000 : Word)).getLsbD 30 = false → t.lasts.pred.releaseAt = true ∧ t.lasts.pred.held = ((pr.setf F.PRED_CTRL_SET_HOLD 0 1)).lasts.pred.held)) && decide ((((pr.setf F.PRED_CTRL_SET_HOLD 0 1)).on F.PRED_CTRL_SET_HOLD = ((0x80000000 : Word)).getLsbD 30 → t.lasts = ((pr.setf F.PRED_CTRL_SET_HOLD 0 1)).lasts))) = true := by decide +kernel

def trim0 : State := let s := pr; { (s.setPredClu 0 { sumE := 100, sumM := 200 }) with eye := { s.eye with fw := { s.eye.fw with running := true } } }

theorem test_LastAndPredictorCommands_8 : (trim0.predOn = true)
  ∧ (trim0.eye.fw.running = true)
  ∧ (trim0.due 15 0 1000000 0 = true) := by decide +kernel

theorem test_LastAndPredictorCommands_9 : (trim0.predOn = true)
  ∧ (trim0.eye.fw.running = true)
  ∧ (trim0.due 15 0 1000000 0 = true) := by decide +kernel

theorem test_PredictorChecks_0 : (pr.predOn = true)
  ∧ (pr.started = true)
  ∧ (pr.now.toNat % 250 ≤ 100)
  ∧ (Tab.get 0 pr.served (servedKey 12 0) ≠ pr.predIdx + 1) := by decide +kernel

theorem test_PredictorChecks_1 : ((pr.setf F.CRD_CLAMP_STATUS_ACTIVE 0 1).predOn = true)
  ∧ ((pr.setf F.CRD_CLAMP_STATUS_ACTIVE 0 1).due 13 0 1000 0 = true)
  ∧ ((pr.setf F.CRD_CLAMP_STATUS_ACTIVE 0 1).outHeld = true)
  ∧ okNext .residualCheck (pr.setf F.CRD_CLAMP_STATUS_ACTIVE 0 1) (fun t => decide (t.lasts.pred.run = (pr.setf F.CRD_CLAMP_STATUS_ACTIVE 0 1).lasts.pred.run) && decide (t.regs = (pr.setf F.CRD_CLAMP_STATUS_ACTIVE 0 1).regs)) = true := by decide +kernel

def res0 : State := let s := pr.setPredClu 31 { est := [(998, 1)], pw := List.replicate 20 (0, true) }; let s := { s with welt := { s.welt with en := true } }; s.setf F.PRED_RES_RES_ABS 0 0

theorem test_PredictorChecks_2 : (res0.predOn = true)
  ∧ (res0.due 13 0 1000 0 = true)
  ∧ (res0.outHeld = false)
  ∧ (res0.lasts.pred.heldAt = none)
  ∧ (31 < Config.clusterCount)
  ∧ (res0.clusterChecked 31 = true)
  ∧ ((res0.predClu 31).est.find? (fun ev => ev.1 + 2 = res0.now.toNat / 1000) = some ((998, 1)))
  ∧ (max (res0.f F.PRED_RES_RES_ABS * 163840000) (res0.f F.PRED_RES_RES_THR * ((res0.predClu 31).pw.map (·.1)).sum) <
      ((160000 * ((998, 1)).2 : Int) - ((res0.predClu 31).pw.map (·.1)).sum).natAbs * 256) := by decide +kernel

theorem test_PredictorChecks_3 : (pr.predOn = true)
  ∧ (pr.due 14 0 1000 0 = true)
  ∧ (((List.range Config.coreCount).map (fun i => (pr.lasts.pred.next + i) % Config.coreCount)).find? (fun nv => pr.coreOn nv) = some 0) := by decide +kernel

def hot2 : State := { (up.setSens (sensAddr 2 7 7) { missing := 2, last := some (900, 1) }) with served := [] }

theorem test_HeatThroughTheLayers_0 : (hot2.vgov = true)
  ∧ (2 < 3)
  ∧ (hot2.due (16 + 2) 0 (if 2 = 0 then 20000 else 100000) 0 = true)
  ∧ okNext (.thermalSample 2 ([(sensAddr 2 7 6, 1600, 5)])) hot2 (fun t => decide ((t.sens (sensAddr 2 7 7)).broken = true) && decide ((t.sens (sensAddr 2 7 6)).use = 1600) && decide ((t.sens (sensAddr 2 7 6)).sampled = true) && decide (rep t 0x60 (sensAddr 2 7 7) = true) && decide ((t.zone 2 7).v = (t.zoneValues 2 7).1) && decide ((t.zone 2 7).v ≠ none)) = true := by decide +kernel

theorem test_HeatThroughTheLayers_0_off : (((up.setf F.PWRd_STATUS_STEP 511 7)).vgov = true)
  ∧ (0 < 3)
  ∧ (((up.setf F.PWRd_STATUS_STEP 511 7)).due (16 + 0) 0 (if 0 = 0 then 20000 else 100000) 0 = true) := by decide +kernel

def refz : State := (up.setZone 1 511 { lowAt := some 0 }).setf F.THMn_STATUS_REF 511 1

theorem test_HeatThroughTheLayers_1 : (((((refz.setf F.THM_REF_REF_HOLD_MS 0 1))).zone 1 511).lowAt = some ((0 : Word64)))
  ∧ ((((refz.setf F.THM_REF_REF_HOLD_MS 0 1))).vgov = true)
  ∧ (1 = 1 ∨ 1 = 2)
  ∧ (511 ∈ layerUnits 1)
  ∧ ((((refz.setf F.THM_REF_REF_HOLD_MS 0 1))).refOn 1 511 = true)
  ∧ ((((refz.setf F.THM_REF_REF_HOLD_MS 0 1))).passed ((0 : Word64)) (1000000 * max 1 ((((refz.setf F.THM_REF_REF_HOLD_MS 0 1))).f F.THM_REF_REF_HOLD_MS)) = true) := by decide +kernel

theorem test_HeatThroughTheLayers_1_edge : ((((((up.setZone 2 7 { lowAt := some 0 }).setf F.THMEs_ZONE_REF 7 1).setf F.THM_REF_REF_HOLD_MS 0 1)).zone 2 7).lowAt = some ((0 : Word64)))
  ∧ (((((up.setZone 2 7 { lowAt := some 0 }).setf F.THMEs_ZONE_REF 7 1).setf F.THM_REF_REF_HOLD_MS 0 1)).vgov = true)
  ∧ (2 = 1 ∨ 2 = 2)
  ∧ (7 ∈ layerUnits 2)
  ∧ (((((up.setZone 2 7 { lowAt := some 0 }).setf F.THMEs_ZONE_REF 7 1).setf F.THM_REF_REF_HOLD_MS 0 1)).refOn 2 7 = true)
  ∧ (((((up.setZone 2 7 { lowAt := some 0 }).setf F.THMEs_ZONE_REF 7 1).setf F.THM_REF_REF_HOLD_MS 0 1)).passed ((0 : Word64)) (1000000 * max 1 (((((up.setZone 2 7 { lowAt := some 0 }).setf F.THMEs_ZONE_REF 7 1).setf F.THM_REF_REF_HOLD_MS 0 1)).f F.THM_REF_REF_HOLD_MS)) = true) := by decide +kernel

theorem test_HeatThroughTheLayers_2 : (((((up.setZone 2 7 { lowAt := some 1 }).setf F.THMEs_ZONE_REF 7 1)).zone 2 7).lowAt = some ((1 : Word64)))
  ∧ ((((up.setZone 2 7 { lowAt := some 1 }).setf F.THMEs_ZONE_REF 7 1)).vgov = true)
  ∧ (2 = 1 ∨ 2 = 2)
  ∧ (7 ∈ layerUnits 2)
  ∧ ((((up.setZone 2 7 { lowAt := some 1 }).setf F.THMEs_ZONE_REF 7 1)).refOn 2 7 = true)
  ∧ ((((up.setZone 2 7 { lowAt := some 1 }).setf F.THMEs_ZONE_REF 7 1)).passed ((1 : Word64)) (1000000 * max 1 ((((up.setZone 2 7 { lowAt := some 1 }).setf F.THMEs_ZONE_REF 7 1)).f F.THM_REF_REF_HOLD_MS)) = false)
  ∧ okNext (.refreshRelease 2 7) (((up.setZone 2 7 { lowAt := some 1 }).setf F.THMEs_ZONE_REF 7 1)) (fun t => decide (t = (((up.setZone 2 7 { lowAt := some 1 }).setf F.THMEs_ZONE_REF 7 1)))) = true := by decide +kernel

theorem test_HeatThroughTheLayers_3 : ((((up.setZone 0 511 { thrAt := some 999990 }).setf F.THM_BACKSTOP_THR_HOLD 0 1)).vgov = true)
  ∧ (511 < Config.coreCount) := by decide +kernel

theorem test_HeatThroughTheLayers_4 : ((((up.setf F.THM_SEL_ADDR 0 (sensAddr 2 7 7)).setSens (sensAddr 2 7 7) { broken := true, cause := 3 })).portTakes R.THM_SDATA 0 = true)
  ∧ okNext (.sensorUnbreak true ((0x80000000 : Word))) (((up.setf F.THM_SEL_ADDR 0 (sensAddr 2 7 7)).setSens (sensAddr 2 7 7) { broken := true, cause := 3 })) (fun t => decide (t.rsp.err = false) && decide ((sensPresent ((((up.setf F.THM_SEL_ADDR 0 (sensAddr 2 7 7)).setSens (sensAddr 2 7 7) { broken := true, cause := 3 })).f F.THM_SEL_ADDR) = true → t.sens ((((up.setf F.THM_SEL_ADDR 0 (sensAddr 2 7 7)).setSens (sensAddr 2 7 7) { broken := true, cause := 3 })).f F.THM_SEL_ADDR) = { (((up.setf F.THM_SEL_ADDR 0 (sensAddr 2 7 7)).setSens (sensAddr 2 7 7) { broken := true, cause := 3 })).sens ((((up.setf F.THM_SEL_ADDR 0 (sensAddr 2 7 7)).setSens (sensAddr 2 7 7) { broken := true, cause := 3 })).f F.THM_SEL_ADDR) with subst := ((0x80000000 : Word)).getLsbD 30 && !((0x80000000 : Word)).getLsbD 31, unbreak := ((((up.setf F.THM_SEL_ADDR 0 (sensAddr 2 7 7)).setSens (sensAddr 2 7 7) { broken := true, cause := 3 })).sens ((((up.setf F.THM_SEL_ADDR 0 (sensAddr 2 7 7)).setSens (sensAddr 2 7 7) { broken := true, cause := 3 })).f F.THM_SEL_ADDR)).unbreak || (((0x80000000 : Word)).getLsbD 31 && ((((up.setf F.THM_SEL_ADDR 0 (sensAddr 2 7 7)).setSens (sensAddr 2 7 7) { broken := true, cause := 3 })).sens ((((up.setf F.THM_SEL_ADDR 0 (sensAddr 2 7 7)).setSens (sensAddr 2 7 7) { broken := true, cause := 3 })).f F.THM_SEL_ADDR)).broken) }))) = true := by decide +kernel

def colS : State := ((up.setZone 1 511 { v := some 800 }).setf F.THM_CTRL_MODEL_EN 0 1)

theorem test_HeatThroughTheLayers_5 : (colS.vgov = true)
  ∧ (colS.on F.THM_CTRL_MODEL_EN = true)
  ∧ (colS.due 19 0 20000 0 = true)
  ∧ (511 < Config.coreCount) := by decide +kernel

theorem test_HeatThroughTheLayers_6 : ((((up.setf F.THM_WIN_STATUS_STATE 0 2).setPair R.THM_WIN_END_LO R.THM_WIN_END_HI 0 1000000)).vgov = true)
  ∧ ((((up.setf F.THM_WIN_STATUS_STATE 0 2).setPair R.THM_WIN_END_LO R.THM_WIN_END_HI 0 1000000)).winLive = true)
  ∧ ((((up.setf F.THM_WIN_STATUS_STATE 0 2).setPair R.THM_WIN_END_LO R.THM_WIN_END_HI 0 1000000)).pair R.THM_WIN_END_LO R.THM_WIN_END_HI ≤ (((up.setf F.THM_WIN_STATUS_STATE 0 2).setPair R.THM_WIN_END_LO R.THM_WIN_END_HI 0 1000000)).now.toNat) := by decide +kernel

def dst (d step target : Nat) (x : DomSt) : State := (((up.setDom d x).setf F.PWRd_STATUS_STEP d step).setf F.PWRd_STATUS_TARGET d target).setf F.PWRd_STATUS_PENDING d 3

theorem test_DomainRequests_0 : (((dst 0x1FF 0 3 {})).domUp 0x1FF = true)
  ∧ (waitsForUnit 0x1FF = true)
  ∧ (((dst 0x1FF 0 3 {})).domStep 0x1FF = 0)
  ∧ (((dst 0x1FF 0 3 {})).domPending 0x1FF = 3)
  ∧ (1 = 1 ∨ 1 = 2)
  ∧ (((dst 0x1FF 0 3 {})).refusal 0x1FF 0 1 = none) := by decide +kernel

theorem test_DomainRequests_1 : ((((dst 0x1FF 0 3 {}).setf F.PWRd_CTRL_NO_ENTRY 0x1FF 1)).domUp 0x1FF = true)
  ∧ (waitsForUnit 0x1FF = true)
  ∧ ((((dst 0x1FF 0 3 {}).setf F.PWRd_CTRL_NO_ENTRY 0x1FF 1)).domStep 0x1FF = 0)
  ∧ ((((dst 0x1FF 0 3 {}).setf F.PWRd_CTRL_NO_ENTRY 0x1FF 1)).domPending 0x1FF = 3)
  ∧ (2 = 1 ∨ 2 = 2)
  ∧ ((((dst 0x1FF 0 3 {}).setf F.PWRd_CTRL_NO_ENTRY 0x1FF 1)).refusal 0x1FF 0 2 = some (2, 0x1FF)) := by decide +kernel

theorem test_DomainRequests_2 : (3 ≠ 1)
  ∧ (3 ≠ 2)
  ∧ ((up.dom 0x1FF).wait = none)
  ∧ okNext (.waitIntent 0x1FF 3) up (fun t => decide (t = up)) = true := by decide +kernel

theorem test_DomainRequests_3 : (up.portTakes R.PWRd_CTRL 0x46F = true)
  ∧ (getBits ((0x300007FF : Word)) 28 2 = 3)
  ∧ okNext (.domainReqWrite true 0x46F ((0x300007FF : Word))) up (fun t => decide (t.rd R.PWRd_STATUS 0x46F = up.rd R.PWRd_STATUS 0x46F) && decide (t.f F.PWRd_CTRL_PARENT 0x46F = getBits ((0x300007FF : Word)) 0 11)) = true := by decide +kernel

theorem test_DomainRequests_4 : (((dst 0x1FF 0 3 {})).portTakes R.PWRd_CTRL 0x1FF = true)
  ∧ (getBits ((0x100007FF : Word)) 28 2 = 1 ∨ getBits ((0x100007FF : Word)) 28 2 = 2)
  ∧ (waitsForUnit 0x1FF = true)
  ∧ (((dst 0x1FF 0 3 {})).domStep 0x1FF = 0)
  ∧ okNext (.domainReqWrite true 0x1FF ((0x100007FF : Word))) ((dst 0x1FF 0 3 {})) (fun t => decide ((t.dom 0x1FF).wait = some (getBits ((0x100007FF : Word)) 28 2, 5)) && decide (t.f F.PWRd_CTRL_REQ_STATUS 0x1FF = 1) && decide (t.domStep 0x1FF = 0)) = true := by decide +kernel

theorem test_DomainRequests_4_off : (((dst 0x45F 0 3 {})).portTakes R.PWRd_CTRL 0x45F = true)
  ∧ (getBits ((0x200007FF : Word)) 28 2 = 1 ∨ getBits ((0x200007FF : Word)) 28 2 = 2)
  ∧ (waitsForUnit 0x45F = true)
  ∧ (((dst 0x45F 0 3 {})).domStep 0x45F = 0)
  ∧ okNext (.domainReqWrite true 0x45F ((0x200007FF : Word))) ((dst 0x45F 0 3 {})) (fun t => decide ((t.dom 0x45F).wait = some (getBits ((0x200007FF : Word)) 28 2, 5)) && decide (t.f F.PWRd_CTRL_REQ_STATUS 0x45F = 1) && decide (t.domStep 0x45F = 0)) = true := by decide +kernel

theorem test_DomainRequests_5 : (((dst 0x1FF 7 3 {})).portTakes R.PWRd_CTRL 0x1FF = true)
  ∧ (getBits ((0x000007FF : Word)) 28 2 = 0)
  ∧ (getBits ((0x000007FF : Word)) 0 11 = 0x7FF)
  ∧ (((dst 0x1FF 7 3 {})).domStep 0x1FF = 7)
  ∧ (((dst 0x1FF 7 3 {})).domPending 0x1FF = 3)
  ∧ (((dst 0x1FF 7 3 {})).domFenced 0x1FF = false)
  ∧ (((dst 0x1FF 7 3 {})).safe = false)
  ∧ (((dst 0x1FF 7 3 {})).sag = false)
  ∧ okNext (.domainReqWrite true 0x1FF ((0x000007FF : Word))) ((dst 0x1FF 7 3 {})) (fun t => decide (t.domStep 0x1FF = 8) && decide (t.domTarget 0x1FF = 0) && decide ((domClass 0x1FF ≠ 9 → t.f F.PWRd_STATUS_WAKE_SRC 0x1FF = 5))) = true := by decide +kernel

theorem test_DomainRequests_6 : ((((dst 0x1FF 6 3 {}).setf F.PWRd_CTRL_PARENT 0x1FF 0x7FF)).domUp 0x1FF = true)
  ∧ (wakeAllowed (domClass 0x1FF) 5 = true)
  ∧ (3 < 5 ∨ (((dst 0x1FF 6 3 {}).setf F.PWRd_CTRL_PARENT 0x1FF 0x7FF)).on F.PWRd_CTRL_LINK_WAKE 0x1FF = true)
  ∧ ((((dst 0x1FF 6 3 {}).setf F.PWRd_CTRL_PARENT 0x1FF 0x7FF)).domStep 0x1FF = 6 ∨ (((dst 0x1FF 6 3 {}).setf F.PWRd_CTRL_PARENT 0x1FF 0x7FF)).domStep 0x1FF = 7)
  ∧ ((((dst 0x1FF 6 3 {}).setf F.PWRd_CTRL_PARENT 0x1FF 0x7FF)).domPending 0x1FF = 3)
  ∧ ((((dst 0x1FF 6 3 {}).setf F.PWRd_CTRL_PARENT 0x1FF 0x7FF)).domFenced 0x1FF = false)
  ∧ ((((dst 0x1FF 6 3 {}).setf F.PWRd_CTRL_PARENT 0x1FF 0x7FF)).safe = false)
  ∧ ((((dst 0x1FF 6 3 {}).setf F.PWRd_CTRL_PARENT 0x1FF 0x7FF)).sag = false)
  ∧ ((((dst 0x1FF 6 3 {}).setf F.PWRd_CTRL_PARENT 0x1FF 0x7FF)).parentOf 0x1FF = none) := by decide +kernel

theorem test_DomainRequests_6_link : ((((dst 0x462 7 3 {}).setf F.PWRd_CTRL_LINK_WAKE 0x462 1)).domUp 0x462 = true)
  ∧ (wakeAllowed (domClass 0x462) 3 = true)
  ∧ (3 < 3 ∨ (((dst 0x462 7 3 {}).setf F.PWRd_CTRL_LINK_WAKE 0x462 1)).on F.PWRd_CTRL_LINK_WAKE 0x462 = true)
  ∧ ((((dst 0x462 7 3 {}).setf F.PWRd_CTRL_LINK_WAKE 0x462 1)).domStep 0x462 = 6 ∨ (((dst 0x462 7 3 {}).setf F.PWRd_CTRL_LINK_WAKE 0x462 1)).domStep 0x462 = 7)
  ∧ ((((dst 0x462 7 3 {}).setf F.PWRd_CTRL_LINK_WAKE 0x462 1)).domPending 0x462 = 3)
  ∧ ((((dst 0x462 7 3 {}).setf F.PWRd_CTRL_LINK_WAKE 0x462 1)).domFenced 0x462 = false)
  ∧ ((((dst 0x462 7 3 {}).setf F.PWRd_CTRL_LINK_WAKE 0x462 1)).safe = false)
  ∧ ((((dst 0x462 7 3 {}).setf F.PWRd_CTRL_LINK_WAKE 0x462 1)).sag = false)
  ∧ ((((dst 0x462 7 3 {}).setf F.PWRd_CTRL_LINK_WAKE 0x462 1)).parentOf 0x462 = none) := by decide +kernel

theorem test_DomainRequests_7 : ((((dst 0x1FF 6 3 {}).setf F.FLT_STATUS_SAFE 0 1)).domUp 0x1FF = true)
  ∧ (wakeAllowed (domClass 0x1FF) 5 = true)
  ∧ (3 < 5 ∨ (((dst 0x1FF 6 3 {}).setf F.FLT_STATUS_SAFE 0 1)).on F.PWRd_CTRL_LINK_WAKE 0x1FF = true)
  ∧ ((((dst 0x1FF 6 3 {}).setf F.FLT_STATUS_SAFE 0 1)).domStep 0x1FF = 6 ∨ (((dst 0x1FF 6 3 {}).setf F.FLT_STATUS_SAFE 0 1)).domStep 0x1FF = 7)
  ∧ ((((dst 0x1FF 6 3 {}).setf F.FLT_STATUS_SAFE 0 1)).domPending 0x1FF = 3)
  ∧ ((((dst 0x1FF 6 3 {}).setf F.FLT_STATUS_SAFE 0 1)).domFenced 0x1FF = false)
  ∧ ((((dst 0x1FF 6 3 {}).setf F.FLT_STATUS_SAFE 0 1)).safe = true ∨ (((dst 0x1FF 6 3 {}).setf F.FLT_STATUS_SAFE 0 1)).sag = true) := by decide +kernel

theorem test_DomainRequests_8 : (1 ≤ 3)
  ∧ ((((dst 0x1FF 6 3 {}).setf F.PWRd_CTRL_LINK_WAKE 0x1FF 0)).on F.PWRd_CTRL_LINK_WAKE 0x1FF = false)
  ∧ okNext (.wakeEvent 0x1FF 1) (((dst 0x1FF 6 3 {}).setf F.PWRd_CTRL_LINK_WAKE 0x1FF 0)) (fun t => decide (t = (((dst 0x1FF 6 3 {}).setf F.PWRd_CTRL_LINK_WAKE 0x1FF 0)))) = true := by decide +kernel

theorem test_DomainRequests_9 : (((up.setBitf F.GOV_SEC_SCOPE 0 1 true)).rst.cold = false)
  ∧ (((up.setBitf F.GOV_SEC_SCOPE 0 1 true)).bitf F.GOV_SEC_SCOPE 0 1 = true)
  ∧ (((up.setBitf F.GOV_SEC_SCOPE 0 1 true)).bankFenced ((7 : BitVec 3)).toNat = false)
  ∧ (((up.setBitf F.GOV_SEC_SCOPE 0 1 true)).fwObjAt (256 * ((7 : BitVec 3)).toNat + ((255 : BitVec 8)).toNat) = none)
  ∧ okNext (.insoleWindowWrite true ((7 : BitVec 3)) ((255 : BitVec 8)) ((63 : BitVec 6)) ((0x12345678 : Word))) ((up.setBitf F.GOV_SEC_SCOPE 0 1 true)) (fun t => decide (t.rsp.err = false) && decide (insByte t.pwr.insole (65536 * 7 + 256 * 255 + 252) = 0x78) && decide (insByte t.pwr.insole (65536 * 7 + 256 * 255 + 255) = 0x12)) = true := by decide +kernel

def fwT : State := { up with pwr := { up.pwr with fwTiles := [(0, 1974)] } }

theorem test_DomainRequests_10 : (((fwT.setBitf F.GOV_SEC_SCOPE 0 1 true)).rst.cold = false)
  ∧ (((fwT.setBitf F.GOV_SEC_SCOPE 0 1 true)).bitf F.GOV_SEC_SCOPE 0 1 = true)
  ∧ (((fwT.setBitf F.GOV_SEC_SCOPE 0 1 true)).bankFenced ((7 : BitVec 3)).toNat = true ∨ (((fwT.setBitf F.GOV_SEC_SCOPE 0 1 true)).fwObjAt (256 * ((7 : BitVec 3)).toNat + ((255 : BitVec 8)).toNat)).isSome = true)
  ∧ okNext (.insoleWindowWrite true ((7 : BitVec 3)) ((255 : BitVec 8)) ((63 : BitVec 6)) ((0x12345678 : Word))) ((fwT.setBitf F.GOV_SEC_SCOPE 0 1 true)) (fun t => decide (t.rsp.err = false)) = true := by decide +kernel

theorem test_DomainRequests_11 : (up.rst.cold = false)
  ∧ (up.bitf F.GOV_SEC_SCOPE 0 1 = false)
  ∧ okNext (.insoleWindowWrite true ((7 : BitVec 3)) ((255 : BitVec 8)) ((63 : BitVec 6)) ((0x12345678 : Word))) up (fun t => decide (t.rsp.err = true)) = true := by decide +kernel

theorem test_DomainRoutes_0 : (((dst 0x440 1 1 {})).domUp 0x440 = true)
  ∧ ((((dst 0x440 1 1 {})).dom 0x440).held = false)
  ∧ (((dst 0x440 1 1 {})).sag = false)
  ∧ (((dst 0x440 1 1 {})).stepEnds 0x440 0 true = true)
  ∧ (((dst 0x440 1 1 {})).domStep 0x440 = 1 ∨ ((dst 0x440 1 1 {})).domStep 0x440 = 3 ∨ ((dst 0x440 1 1 {})).domStep 0x440 = 4 ∨ ((dst 0x440 1 1 {})).domStep 0x440 = 5 ∨ ((dst 0x440 1 1 {})).domStep 0x440 = 8 ∨ ((dst 0x440 1 1 {})).domStep 0x440 = 9)
  ∧ ((((dst 0x440 1 1 {})).dom 0x440).abort = false)
  ∧ ((((dst 0x440 1 1 {})).dom 0x440).fromOff = false)
  ∧ (((dst 0x440 1 1 {})).domPending 0x440 = 3)
  ∧ (domClass 0x440 ≠ 9)
  ∧ (((dst 0x440 1 1 {})).domTarget 0x440 < 3)
  ∧ (routeStep (commitOf (((dst 0x440 1 1 {})).domStep 0x440)) (((dst 0x440 1 1 {})).domTarget 0x440) = some 2) := by decide +kernel

theorem test_DomainRoutes_0_wake : (((dst 0x440 8 0 {})).domUp 0x440 = true)
  ∧ ((((dst 0x440 8 0 {})).dom 0x440).held = false)
  ∧ (((dst 0x440 8 0 {})).sag = false)
  ∧ (((dst 0x440 8 0 {})).stepEnds 0x440 0 true = true)
  ∧ (((dst 0x440 8 0 {})).domStep 0x440 = 1 ∨ ((dst 0x440 8 0 {})).domStep 0x440 = 3 ∨ ((dst 0x440 8 0 {})).domStep 0x440 = 4 ∨ ((dst 0x440 8 0 {})).domStep 0x440 = 5 ∨ ((dst 0x440 8 0 {})).domStep 0x440 = 8 ∨ ((dst 0x440 8 0 {})).domStep 0x440 = 9)
  ∧ ((((dst 0x440 8 0 {})).dom 0x440).abort = false)
  ∧ ((((dst 0x440 8 0 {})).dom 0x440).fromOff = false)
  ∧ (((dst 0x440 8 0 {})).domPending 0x440 = 3)
  ∧ (domClass 0x440 ≠ 9)
  ∧ (((dst 0x440 8 0 {})).domTarget 0x440 < 3)
  ∧ (routeStep (commitOf (((dst 0x440 8 0 {})).domStep 0x440)) (((dst 0x440 8 0 {})).domTarget 0x440) = some 9) := by decide +kernel

theorem test_DomainRoutes_1 : (((dst 0x440 4 1 {})).domUp 0x440 = true)
  ∧ ((((dst 0x440 4 1 {})).dom 0x440).held = false)
  ∧ (((dst 0x440 4 1 {})).sag = false)
  ∧ (((dst 0x440 4 1 {})).stepEnds 0x440 0 true = true)
  ∧ (((dst 0x440 4 1 {})).domStep 0x440 = 1 ∨ ((dst 0x440 4 1 {})).domStep 0x440 = 3 ∨ ((dst 0x440 4 1 {})).domStep 0x440 = 4 ∨ ((dst 0x440 4 1 {})).domStep 0x440 = 5 ∨ ((dst 0x440 4 1 {})).domStep 0x440 = 8 ∨ ((dst 0x440 4 1 {})).domStep 0x440 = 9)
  ∧ ((((dst 0x440 4 1 {})).dom 0x440).abort = false)
  ∧ ((((dst 0x440 4 1 {})).dom 0x440).fromOff = false)
  ∧ (((dst 0x440 4 1 {})).domPending 0x440 = 3)
  ∧ (domClass 0x440 ≠ 9)
  ∧ (((dst 0x440 4 1 {})).domTarget 0x440 < 3)
  ∧ (routeStep (commitOf (((dst 0x440 4 1 {})).domStep 0x440)) (((dst 0x440 4 1 {})).domTarget 0x440) = none) := by decide +kernel

theorem test_DomainRoutes_1_off : (((dst 0x440 5 2 {})).domUp 0x440 = true)
  ∧ ((((dst 0x440 5 2 {})).dom 0x440).held = false)
  ∧ (((dst 0x440 5 2 {})).sag = false)
  ∧ (((dst 0x440 5 2 {})).stepEnds 0x440 0 true = true)
  ∧ (((dst 0x440 5 2 {})).domStep 0x440 = 1 ∨ ((dst 0x440 5 2 {})).domStep 0x440 = 3 ∨ ((dst 0x440 5 2 {})).domStep 0x440 = 4 ∨ ((dst 0x440 5 2 {})).domStep 0x440 = 5 ∨ ((dst 0x440 5 2 {})).domStep 0x440 = 8 ∨ ((dst 0x440 5 2 {})).domStep 0x440 = 9)
  ∧ ((((dst 0x440 5 2 {})).dom 0x440).abort = false)
  ∧ ((((dst 0x440 5 2 {})).dom 0x440).fromOff = false)
  ∧ (((dst 0x440 5 2 {})).domPending 0x440 = 3)
  ∧ (domClass 0x440 ≠ 9)
  ∧ (((dst 0x440 5 2 {})).domTarget 0x440 < 3)
  ∧ (routeStep (commitOf (((dst 0x440 5 2 {})).domStep 0x440)) (((dst 0x440 5 2 {})).domTarget 0x440) = none) := by decide +kernel

theorem test_DomainRoutes_2 : (((dst 0x440 11 0 {})).domUp 0x440 = true)
  ∧ ((((dst 0x440 11 0 {})).dom 0x440).held = false)
  ∧ (((dst 0x440 11 0 {})).sag = false)
  ∧ (((dst 0x440 11 0 {})).stepEnds 0x440 0 true = true)
  ∧ (((dst 0x440 11 0 {})).domStep 0x440 = 11)
  ∧ (((dst 0x440 11 0 {})).domPending 0x440 = 3) := by decide +kernel

theorem test_DomainRoutes_3 : (((dst 0x440 1 1 {})).stepEnds 0x440 0 false = false)
  ∧ okNext (.domainCommit 0x440 false ([]) 0 ([])) ((dst 0x440 1 1 {})) (fun t => decide (t = ((dst 0x440 1 1 {})))) = true := by decide +kernel

theorem test_DomainRoutes_4 : ((((dst 0x440 1 2 { drains := 0 }).setf F.PWRd_STATUS_FENCED 0x440 1)).domUp 0x440 = true)
  ∧ ((((dst 0x440 1 2 { drains := 0 }).setf F.PWRd_STATUS_FENCED 0x440 1)).domStep 0x440 = 1)
  ∧ (((((dst 0x440 1 2 { drains := 0 }).setf F.PWRd_STATUS_FENCED 0x440 1)).dom 0x440).held = false)
  ∧ ((((dst 0x440 1 2 { drains := 0 }).setf F.PWRd_STATUS_FENCED 0x440 1)).passed ((((dst 0x440 1 2 { drains := 0 }).setf F.PWRd_STATUS_FENCED 0x440 1)).dom 0x440).stepAt (max 1 ((((dst 0x440 1 2 { drains := 0 }).setf F.PWRd_STATUS_FENCED 0x440 1)).f F.PWRCLk_DLY4_DRAIN_MAX (domClass 0x440)) * 1000 * (((((dst 0x440 1 2 { drains := 0 }).setf F.PWRd_STATUS_FENCED 0x440 1)).dom 0x440).drains + 1)) = true)
  ∧ ((((dst 0x440 1 2 { drains := 0 }).setf F.PWRd_STATUS_FENCED 0x440 1)).domFenced 0x440 = true) := by decide +kernel

theorem test_DomainRoutes_5 : ((((dst 0x440 1 2 {}).setf F.PWRCLk_DLY4_DRAIN_MAX 2 1)).domUp 0x440 = true)
  ∧ ((((dst 0x440 1 2 {}).setf F.PWRCLk_DLY4_DRAIN_MAX 2 1)).domStep 0x440 = 1)
  ∧ (((((dst 0x440 1 2 {}).setf F.PWRCLk_DLY4_DRAIN_MAX 2 1)).dom 0x440).held = false)
  ∧ ((((dst 0x440 1 2 {}).setf F.PWRCLk_DLY4_DRAIN_MAX 2 1)).passed ((((dst 0x440 1 2 {}).setf F.PWRCLk_DLY4_DRAIN_MAX 2 1)).dom 0x440).stepAt (max 1 ((((dst 0x440 1 2 {}).setf F.PWRCLk_DLY4_DRAIN_MAX 2 1)).f F.PWRCLk_DLY4_DRAIN_MAX (domClass 0x440)) * 1000 * (((((dst 0x440 1 2 {}).setf F.PWRCLk_DLY4_DRAIN_MAX 2 1)).dom 0x440).drains + 1)) = true)
  ∧ ((((dst 0x440 1 2 {}).setf F.PWRCLk_DLY4_DRAIN_MAX 2 1)).domFenced 0x440 = false)
  ∧ ((((dst 0x440 1 2 {}).setf F.PWRCLk_DLY4_DRAIN_MAX 2 1)).sag = false) := by decide +kernel

theorem test_DomainRoutes_6 : (((dst 0x440 10 0 {})).domUp 0x440 = true)
  ∧ ((((dst 0x440 10 0 {})).dom 0x440).held = false)
  ∧ (govIsland 0x440 = false)
  ∧ (((dst 0x440 10 0 {})).domStep 0x440 = 2 ∨ ((dst 0x440 10 0 {})).domStep 0x440 = 10)
  ∧ (((dst 0x440 10 0 {})).sag = false)
  ∧ (((dst 0x440 10 0 {})).passed (((dst 0x440 10 0 {})).dom 0x440).stepAt 1000 = true) := by decide +kernel

def fwu : State := { up with eye := { up.eye with fw := { up.eye.fw with running := true } } }

/-- A command word. -/
def cw (op seq arg flags : Nat) : Word64 := BitVec.ofNat 64 (op * 2 ^ 56 + seq * 2 ^ 40 + flags * 2 ^ 32 + arg)

/-- The firmware runs, and one accepted command has yet to take effect. -/
def je (op : Nat) (arg : Word) (result : Word) : JEnt := { seq := 5, ch := 7, op := op, arg := arg, result := result, slot := 9, accPosted := true }
def jf (e : JEnt) (s : State) : State := { s with eye := { s.eye with journal := [e] } }
def cmd (op : Nat) (arg : Word) : State := jf (je op arg 0) fwu

theorem test_WordsArePosted_0 : (7 < 8)
  ∧ (up.relayOwns 7 = false)
  ∧ (up.on F.EYEc_STATUS_CMD_FULL 7 = false)
  ∧ (up.portTakes R.EYEc_CMD_HI 7 = true)
  ∧ okNext (.eyeletPost true 7 false ((0x1FFFFFFFF : Word64))) up (fun t => decide (t.rd R.EYEc_CMD_HI 7 = ((0x1FFFFFFFF : Word64)).setWidth 32) && decide (t.rd R.EYEc_CMD_LO 7 = up.rd R.EYEc_CMD_LO 7) && decide (t.on F.EYEc_STATUS_CMD_FULL 7 = true) && decide (t.rsp.err = false)) = true := by decide +kernel

theorem test_WordsArePosted_1 : (7 < 8)
  ∧ (up.relayOwns 7 = false)
  ∧ (up.on F.EYEc_STATUS_CMD_FULL 7 = false)
  ∧ (up.portTakes R.EYEc_CMD_LO 7 = true)
  ∧ okNext (.eyeletPost true 7 true ((0x0100000012345678 : Word64))) up (fun t => decide (t.cmdWord 7 = ((0x0100000012345678 : Word64))) && decide (t.on F.EYEc_STATUS_CMD_FULL 7 = true) && decide (t.rsp.err = false)) = true := by decide +kernel

theorem test_WordsArePosted_2 : (findReg (cfgOff ((1144 : BitVec 18))) = some (R.EYEc_CMD_LO, 7))
  ∧ (7 < 8)
  ∧ (up.relayOwns 7 = false)
  ∧ (up.on F.EYEc_STATUS_CMD_FULL 7 = false)
  ∧ (up.portTakes R.EYEc_CMD_LO 7 = true)
  ∧ okNext (.registerWrite true ((1144 : BitVec 18)) ((0x12345678 : Word))) up (fun t => decide (t.rd R.EYEc_CMD_LO 7 = ((0x12345678 : Word))) && decide (t.on F.EYEc_STATUS_CMD_FULL 7 = false) && decide (t.rsp.err = false)) = true :=
  ⟨rfl, by decide +kernel⟩

def fullc : State := up.setf F.EYEc_STATUS_CMD_FULL 7 1

theorem test_WordsArePosted_3 : (7 < 8)
  ∧ (fullc.relayOwns 7 = false)
  ∧ (fullc.on F.EYEc_STATUS_CMD_FULL 7 = true)
  ∧ okNext ((.eyeletPost true 7 true 5)) fullc (fun t => decide (t.cmdWord 7 = fullc.cmdWord 7) && decide (t.on F.EYEc_STATUS_CMD_FULL 7 = true) && decide (t.rsp.err = true) && decide (t.on F.EYEc_STATUS_WR_REFUSED 7 = true)) = true
  ∧ (fullc.portTakes R.EYEc_CMD_LO 7 = true) := by decide +kernel

theorem test_WordsArePosted_3_hi : (7 < 8)
  ∧ (fullc.relayOwns 7 = false)
  ∧ (fullc.on F.EYEc_STATUS_CMD_FULL 7 = true)
  ∧ okNext ((.eyeletPost true 7 false 5)) fullc (fun t => decide (t.cmdWord 7 = fullc.cmdWord 7) && decide (t.on F.EYEc_STATUS_CMD_FULL 7 = true) && decide (t.rsp.err = true) && decide (t.on F.EYEc_STATUS_WR_REFUSED 7 = true)) = true
  ∧ (fullc.portTakes R.EYEc_CMD_HI 7 = true) := by decide +kernel

theorem test_WordsArePosted_3_lo : (7 < 8)
  ∧ (fullc.relayOwns 7 = false)
  ∧ (fullc.on F.EYEc_STATUS_CMD_FULL 7 = true)
  ∧ okNext ((.registerWrite true 1144 5)) fullc (fun t => decide (t.cmdWord 7 = fullc.cmdWord 7) && decide (t.on F.EYEc_STATUS_CMD_FULL 7 = true) && decide (t.rsp.err = true) && decide (t.on F.EYEc_STATUS_WR_REFUSED 7 = true)) = true
  ∧ (fullc.portTakes R.EYEc_CMD_LO 7 = true) := by decide +kernel

def post (w : Word64) (s : State) : State := (s.setPair R.EYEc_CMD_LO R.EYEc_CMD_HI 7 w.toNat).setf F.EYEc_STATUS_CMD_FULL 7 1

theorem test_TakenWordsAreDecided_0 : ((((post (cw 1 65535 0 0) fwu)).canTake 7 = true ∧ (((post (cw 1 65535 0 0) fwu).cmdWord 7)) = ((post (cw 1 65535 0 0) fwu)).cmdWord 7 ∧ (((post (cw 1 65535 0 0) fwu).holdWord 7 ((post (cw 1 65535 0 0) fwu).cmdWord 7))) = ((post (cw 1 65535 0 0) fwu)).holdWord 7 (((post (cw 1 65535 0 0) fwu).cmdWord 7)) ∧ false = false) ∨
    (((post (cw 1 65535 0 0) fwu)).canTake 7 = false ∧ ((post (cw 1 65535 0 0) fwu)).canRetake 7 = true ∧ (((post (cw 1 65535 0 0) fwu).cmdWord 7)) = (((post (cw 1 65535 0 0) fwu)).chan 7).held ∧ (((post (cw 1 65535 0 0) fwu).holdWord 7 ((post (cw 1 65535 0 0) fwu).cmdWord 7))) = ((post (cw 1 65535 0 0) fwu)) ∧ false = ((post (cw 1 65535 0 0) fwu)).on F.EYEc_STATUS_CMD_FULL 7))
  ∧ ((((post (cw 1 65535 0 0) fwu).holdWord 7 ((post (cw 1 65535 0 0) fwu).cmdWord 7))).repeated 7 (((post (cw 1 65535 0 0) fwu).cmdWord 7)) = none)
  ∧ (wSeq (((post (cw 1 65535 0 0) fwu).cmdWord 7)) ≠ (((post (cw 1 65535 0 0) fwu).holdWord 7 ((post (cw 1 65535 0 0) fwu).cmdWord 7))).f F.EYEc_STATUS_EXP_SEQ 7 ∨ (((post (cw 1 65535 0 0) fwu).holdWord 7 ((post (cw 1 65535 0 0) fwu).cmdWord 7))).busyCause (wOp (((post (cw 1 65535 0 0) fwu).cmdWord 7))) ≠ 0 ∨ ((((post (cw 1 65535 0 0) fwu).holdWord 7 ((post (cw 1 65535 0 0) fwu).cmdWord 7))).refuses 7 (((post (cw 1 65535 0 0) fwu).cmdWord 7)) false false).isSome = true)
  ∧ okNext (.commandTake 7 false false) ((post (cw 1 65535 0 0) fwu)) (fun t => decide (t.eye.journal = ((post (cw 1 65535 0 0) fwu)).eye.journal) && decide (t.f F.EYEc_STATUS_EXP_SEQ 7 = ((post (cw 1 65535 0 0) fwu)).f F.EYEc_STATUS_EXP_SEQ 7) && decide (t.on F.EYEc_STATUS_CMD_FULL 7 = false) && decide (t.f F.EYEc_COUNT_NOT_ACCEPTED 7 = (((post (cw 1 65535 0 0) fwu)).f F.EYEc_COUNT_NOT_ACCEPTED 7 + 1) % 65536) && decide ((((post (cw 1 65535 0 0) fwu)).chan 7).queue.length < (t.chan 7).queue.length) && decide ((wOp (((post (cw 1 65535 0 0) fwu).cmdWord 7)) ≠ 0x40 ∨ 7 ≠ ((post (cw 1 65535 0 0) fwu)).noticeCh → (t.chan 7).queue.length = (((post (cw 1 65535 0 0) fwu)).chan 7).queue.length + 1))) = true := by decide +kernel

theorem test_TakenWordsAreDecided_0_op : ((((post (cw 0x05 0 0 0) fwu)).canTake 7 = true ∧ (((post (cw 0x05 0 0 0) fwu).cmdWord 7)) = ((post (cw 0x05 0 0 0) fwu)).cmdWord 7 ∧ (((post (cw 0x05 0 0 0) fwu).holdWord 7 ((post (cw 0x05 0 0 0) fwu).cmdWord 7))) = ((post (cw 0x05 0 0 0) fwu)).holdWord 7 (((post (cw 0x05 0 0 0) fwu).cmdWord 7)) ∧ false = false) ∨
    (((post (cw 0x05 0 0 0) fwu)).canTake 7 = false ∧ ((post (cw 0x05 0 0 0) fwu)).canRetake 7 = true ∧ (((post (cw 0x05 0 0 0) fwu).cmdWord 7)) = (((post (cw 0x05 0 0 0) fwu)).chan 7).held ∧ (((post (cw 0x05 0 0 0) fwu).holdWord 7 ((post (cw 0x05 0 0 0) fwu).cmdWord 7))) = ((post (cw 0x05 0 0 0) fwu)) ∧ false = ((post (cw 0x05 0 0 0) fwu)).on F.EYEc_STATUS_CMD_FULL 7))
  ∧ ((((post (cw 0x05 0 0 0) fwu).holdWord 7 ((post (cw 0x05 0 0 0) fwu).cmdWord 7))).repeated 7 (((post (cw 0x05 0 0 0) fwu).cmdWord 7)) = none)
  ∧ (wSeq (((post (cw 0x05 0 0 0) fwu).cmdWord 7)) ≠ (((post (cw 0x05 0 0 0) fwu).holdWord 7 ((post (cw 0x05 0 0 0) fwu).cmdWord 7))).f F.EYEc_STATUS_EXP_SEQ 7 ∨ (((post (cw 0x05 0 0 0) fwu).holdWord 7 ((post (cw 0x05 0 0 0) fwu).cmdWord 7))).busyCause (wOp (((post (cw 0x05 0 0 0) fwu).cmdWord 7))) ≠ 0 ∨ ((((post (cw 0x05 0 0 0) fwu).holdWord 7 ((post (cw 0x05 0 0 0) fwu).cmdWord 7))).refuses 7 (((post (cw 0x05 0 0 0) fwu).cmdWord 7)) false false).isSome = true)
  ∧ okNext (.commandTake 7 false false) ((post (cw 0x05 0 0 0) fwu)) (fun t => decide (t.eye.journal = ((post (cw 0x05 0 0 0) fwu)).eye.journal) && decide (t.f F.EYEc_STATUS_EXP_SEQ 7 = ((post (cw 0x05 0 0 0) fwu)).f F.EYEc_STATUS_EXP_SEQ 7) && decide (t.on F.EYEc_STATUS_CMD_FULL 7 = false) && decide (t.f F.EYEc_COUNT_NOT_ACCEPTED 7 = (((post (cw 0x05 0 0 0) fwu)).f F.EYEc_COUNT_NOT_ACCEPTED 7 + 1) % 65536) && decide ((((post (cw 0x05 0 0 0) fwu)).chan 7).queue.length < (t.chan 7).queue.length) && decide ((wOp (((post (cw 0x05 0 0 0) fwu).cmdWord 7)) ≠ 0x40 ∨ 7 ≠ ((post (cw 0x05 0 0 0) fwu)).noticeCh → (t.chan 7).queue.length = (((post (cw 0x05 0 0 0) fwu)).chan 7).queue.length + 1))) = true := by decide +kernel

def fbusy : State := { fwu with eye := { fwu.eye with fw := { fwu.eye.fw with fwBusy := true } } }

theorem test_TakenWordsAreDecided_0_busy : ((((post (cw 2 0 7 0) fbusy)).canTake 7 = true ∧ (((post (cw 2 0 7 0) fbusy).cmdWord 7)) = ((post (cw 2 0 7 0) fbusy)).cmdWord 7 ∧ (((post (cw 2 0 7 0) fbusy).holdWord 7 ((post (cw 2 0 7 0) fbusy).cmdWord 7))) = ((post (cw 2 0 7 0) fbusy)).holdWord 7 (((post (cw 2 0 7 0) fbusy).cmdWord 7)) ∧ false = false) ∨
    (((post (cw 2 0 7 0) fbusy)).canTake 7 = false ∧ ((post (cw 2 0 7 0) fbusy)).canRetake 7 = true ∧ (((post (cw 2 0 7 0) fbusy).cmdWord 7)) = (((post (cw 2 0 7 0) fbusy)).chan 7).held ∧ (((post (cw 2 0 7 0) fbusy).holdWord 7 ((post (cw 2 0 7 0) fbusy).cmdWord 7))) = ((post (cw 2 0 7 0) fbusy)) ∧ false = ((post (cw 2 0 7 0) fbusy)).on F.EYEc_STATUS_CMD_FULL 7))
  ∧ ((((post (cw 2 0 7 0) fbusy).holdWord 7 ((post (cw 2 0 7 0) fbusy).cmdWord 7))).repeated 7 (((post (cw 2 0 7 0) fbusy).cmdWord 7)) = none)
  ∧ (wSeq (((post (cw 2 0 7 0) fbusy).cmdWord 7)) ≠ (((post (cw 2 0 7 0) fbusy).holdWord 7 ((post (cw 2 0 7 0) fbusy).cmdWord 7))).f F.EYEc_STATUS_EXP_SEQ 7 ∨ (((post (cw 2 0 7 0) fbusy).holdWord 7 ((post (cw 2 0 7 0) fbusy).cmdWord 7))).busyCause (wOp (((post (cw 2 0 7 0) fbusy).cmdWord 7))) ≠ 0 ∨ ((((post (cw 2 0 7 0) fbusy).holdWord 7 ((post (cw 2 0 7 0) fbusy).cmdWord 7))).refuses 7 (((post (cw 2 0 7 0) fbusy).cmdWord 7)) false false).isSome = true)
  ∧ okNext (.commandTake 7 false false) ((post (cw 2 0 7 0) fbusy)) (fun t => decide (t.eye.journal = ((post (cw 2 0 7 0) fbusy)).eye.journal) && decide (t.f F.EYEc_STATUS_EXP_SEQ 7 = ((post (cw 2 0 7 0) fbusy)).f F.EYEc_STATUS_EXP_SEQ 7) && decide (t.on F.EYEc_STATUS_CMD_FULL 7 = false) && decide (t.f F.EYEc_COUNT_NOT_ACCEPTED 7 = (((post (cw 2 0 7 0) fbusy)).f F.EYEc_COUNT_NOT_ACCEPTED 7 + 1) % 65536) && decide ((((post (cw 2 0 7 0) fbusy)).chan 7).queue.length < (t.chan 7).queue.length) && decide ((wOp (((post (cw 2 0 7 0) fbusy).cmdWord 7)) ≠ 0x40 ∨ 7 ≠ ((post (cw 2 0 7 0) fbusy)).noticeCh → (t.chan 7).queue.length = (((post (cw 2 0 7 0) fbusy)).chan 7).queue.length + 1))) = true := by decide +kernel

theorem test_TakenWordsAreDecided_1 : ((((post (cw 2 0 7 0) fwu)).canTake 7 = true ∧ (((post (cw 2 0 7 0) fwu).cmdWord 7)) = ((post (cw 2 0 7 0) fwu)).cmdWord 7 ∧ (((post (cw 2 0 7 0) fwu).holdWord 7 ((post (cw 2 0 7 0) fwu).cmdWord 7))) = ((post (cw 2 0 7 0) fwu)).holdWord 7 (((post (cw 2 0 7 0) fwu).cmdWord 7)) ∧ false = false) ∨
    (((post (cw 2 0 7 0) fwu)).canTake 7 = false ∧ ((post (cw 2 0 7 0) fwu)).canRetake 7 = true ∧ (((post (cw 2 0 7 0) fwu).cmdWord 7)) = (((post (cw 2 0 7 0) fwu)).chan 7).held ∧ (((post (cw 2 0 7 0) fwu).holdWord 7 ((post (cw 2 0 7 0) fwu).cmdWord 7))) = ((post (cw 2 0 7 0) fwu)) ∧ false = ((post (cw 2 0 7 0) fwu)).on F.EYEc_STATUS_CMD_FULL 7))
  ∧ ((((post (cw 2 0 7 0) fwu).holdWord 7 ((post (cw 2 0 7 0) fwu).cmdWord 7))).repeated 7 (((post (cw 2 0 7 0) fwu).cmdWord 7)) = none)
  ∧ (wSeq (((post (cw 2 0 7 0) fwu).cmdWord 7)) = (((post (cw 2 0 7 0) fwu).holdWord 7 ((post (cw 2 0 7 0) fwu).cmdWord 7))).f F.EYEc_STATUS_EXP_SEQ 7)
  ∧ ((((post (cw 2 0 7 0) fwu).holdWord 7 ((post (cw 2 0 7 0) fwu).cmdWord 7))).busyCause (wOp (((post (cw 2 0 7 0) fwu).cmdWord 7))) = 0)
  ∧ ((((post (cw 2 0 7 0) fwu).holdWord 7 ((post (cw 2 0 7 0) fwu).cmdWord 7))).refuses 7 (((post (cw 2 0 7 0) fwu).cmdWord 7)) false false = none)
  ∧ okNext (.commandTake 7 false false) ((post (cw 2 0 7 0) fwu)) (fun t => decide (t.f F.EYEc_STATUS_EXP_SEQ 7 = (wSeq (((post (cw 2 0 7 0) fwu).cmdWord 7)) + 1) % 65536) && decide (t.on F.EYEc_STATUS_CMD_FULL 7 = false) && decide (∃ e ∈ t.eye.journal, e.ch = 7 ∧ e.seq = wSeq (((post (cw 2 0 7 0) fwu).cmdWord 7)) ∧ e.op = wOp (((post (cw 2 0 7 0) fwu).cmdWord 7)) ∧ e.arg = wArg (((post (cw 2 0 7 0) fwu).cmdWord 7)) ∧ e.effect = false ∧ e.final = false ∧ e.taken = false)) = true := by decide +kernel

theorem test_TakenWordsAreDecided_2 : ((((post (cw 2 5 7 2) (cmd 2 7))).canTake 7 = true ∧ (((post (cw 2 5 7 2) (cmd 2 7)).cmdWord 7)) = ((post (cw 2 5 7 2) (cmd 2 7))).cmdWord 7 ∧ (((post (cw 2 5 7 2) (cmd 2 7)).holdWord 7 ((post (cw 2 5 7 2) (cmd 2 7)).cmdWord 7))) = ((post (cw 2 5 7 2) (cmd 2 7))).holdWord 7 (((post (cw 2 5 7 2) (cmd 2 7)).cmdWord 7)) ∧ false = false) ∨
    (((post (cw 2 5 7 2) (cmd 2 7))).canTake 7 = false ∧ ((post (cw 2 5 7 2) (cmd 2 7))).canRetake 7 = true ∧ (((post (cw 2 5 7 2) (cmd 2 7)).cmdWord 7)) = (((post (cw 2 5 7 2) (cmd 2 7))).chan 7).held ∧ (((post (cw 2 5 7 2) (cmd 2 7)).holdWord 7 ((post (cw 2 5 7 2) (cmd 2 7)).cmdWord 7))) = ((post (cw 2 5 7 2) (cmd 2 7))) ∧ false = ((post (cw 2 5 7 2) (cmd 2 7))).on F.EYEc_STATUS_CMD_FULL 7))
  ∧ ((((post (cw 2 5 7 2) (cmd 2 7)).holdWord 7 ((post (cw 2 5 7 2) (cmd 2 7)).cmdWord 7))).repeated 7 (((post (cw 2 5 7 2) (cmd 2 7)).cmdWord 7)) = some ((je 2 7 0)))
  ∧ okNext (.commandTake 7 false false) ((post (cw 2 5 7 2) (cmd 2 7))) (fun t => decide (t.eye.journal = ((post (cw 2 5 7 2) (cmd 2 7))).eye.journal) && decide (t.f F.EYEc_STATUS_EXP_SEQ 7 = ((post (cw 2 5 7 2) (cmd 2 7))).f F.EYEc_STATUS_EXP_SEQ 7) && decide (t.on F.EYEc_STATUS_CMD_FULL 7 = false)) = true := by decide +kernel

/-- The channel's held word is to be taken again after a takeover. -/
def again (w : Word64) (s : State) : State := (s.setChan 7 { held := w }).setf F.EYEc_STATUS_CMD_HELD 7 1

theorem test_TakenWordsAreDecided_0_again : ((((again (cw 0x05 0 0 0) fwu)).canTake 7 = true ∧ ((cw 0x05 0 0 0)) = ((again (cw 0x05 0 0 0) fwu)).cmdWord 7 ∧ ((again (cw 0x05 0 0 0) fwu)) = ((again (cw 0x05 0 0 0) fwu)).holdWord 7 ((cw 0x05 0 0 0)) ∧ false = false) ∨
    (((again (cw 0x05 0 0 0) fwu)).canTake 7 = false ∧ ((again (cw 0x05 0 0 0) fwu)).canRetake 7 = true ∧ ((cw 0x05 0 0 0)) = (((again (cw 0x05 0 0 0) fwu)).chan 7).held ∧ ((again (cw 0x05 0 0 0) fwu)) = ((again (cw 0x05 0 0 0) fwu)) ∧ false = ((again (cw 0x05 0 0 0) fwu)).on F.EYEc_STATUS_CMD_FULL 7))
  ∧ (((again (cw 0x05 0 0 0) fwu)).repeated 7 ((cw 0x05 0 0 0)) = none)
  ∧ (wSeq ((cw 0x05 0 0 0)) ≠ ((again (cw 0x05 0 0 0) fwu)).f F.EYEc_STATUS_EXP_SEQ 7 ∨ ((again (cw 0x05 0 0 0) fwu)).busyCause (wOp ((cw 0x05 0 0 0))) ≠ 0 ∨ (((again (cw 0x05 0 0 0) fwu)).refuses 7 ((cw 0x05 0 0 0)) false false).isSome = true)
  ∧ okNext (.commandTake 7 false false) ((again (cw 0x05 0 0 0) fwu)) (fun t => decide (t.eye.journal = ((again (cw 0x05 0 0 0) fwu)).eye.journal) && decide (t.f F.EYEc_STATUS_EXP_SEQ 7 = ((again (cw 0x05 0 0 0) fwu)).f F.EYEc_STATUS_EXP_SEQ 7) && decide (t.on F.EYEc_STATUS_CMD_FULL 7 = false) && decide (t.f F.EYEc_COUNT_NOT_ACCEPTED 7 = (((again (cw 0x05 0 0 0) fwu)).f F.EYEc_COUNT_NOT_ACCEPTED 7 + 1) % 65536) && decide ((((again (cw 0x05 0 0 0) fwu)).chan 7).queue.length < (t.chan 7).queue.length) && decide ((wOp ((cw 0x05 0 0 0)) ≠ 0x40 ∨ 7 ≠ ((again (cw 0x05 0 0 0) fwu)).noticeCh → (t.chan 7).queue.length = (((again (cw 0x05 0 0 0) fwu)).chan 7).queue.length + 1))) = true := by decide +kernel

theorem test_TakenWordsAreDecided_1_again : ((((again (cw 2 0 7 0) fwu)).canTake 7 = true ∧ ((cw 2 0 7 0)) = ((again (cw 2 0 7 0) fwu)).cmdWord 7 ∧ ((again (cw 2 0 7 0) fwu)) = ((again (cw 2 0 7 0) fwu)).holdWord 7 ((cw 2 0 7 0)) ∧ false = false) ∨
    (((again (cw 2 0 7 0) fwu)).canTake 7 = false ∧ ((again (cw 2 0 7 0) fwu)).canRetake 7 = true ∧ ((cw 2 0 7 0)) = (((again (cw 2 0 7 0) fwu)).chan 7).held ∧ ((again (cw 2 0 7 0) fwu)) = ((again (cw 2 0 7 0) fwu)) ∧ false = ((again (cw 2 0 7 0) fwu)).on F.EYEc_STATUS_CMD_FULL 7))
  ∧ (((again (cw 2 0 7 0) fwu)).repeated 7 ((cw 2 0 7 0)) = none)
  ∧ (wSeq ((cw 2 0 7 0)) = ((again (cw 2 0 7 0) fwu)).f F.EYEc_STATUS_EXP_SEQ 7)
  ∧ (((again (cw 2 0 7 0) fwu)).busyCause (wOp ((cw 2 0 7 0))) = 0)
  ∧ (((again (cw 2 0 7 0) fwu)).refuses 7 ((cw 2 0 7 0)) false false = none)
  ∧ okNext (.commandTake 7 false false) ((again (cw 2 0 7 0) fwu)) (fun t => decide (t.f F.EYEc_STATUS_EXP_SEQ 7 = (wSeq ((cw 2 0 7 0)) + 1) % 65536) && decide (t.on F.EYEc_STATUS_CMD_FULL 7 = false) && decide (∃ e ∈ t.eye.journal, e.ch = 7 ∧ e.seq = wSeq ((cw 2 0 7 0)) ∧ e.op = wOp ((cw 2 0 7 0)) ∧ e.arg = wArg ((cw 2 0 7 0)) ∧ e.effect = false ∧ e.final = false ∧ e.taken = false)) = true := by decide +kernel

theorem test_TakenWordsAreDecided_2_again : ((((again (cw 2 5 7 2) (cmd 2 7))).canTake 7 = true ∧ ((cw 2 5 7 2)) = ((again (cw 2 5 7 2) (cmd 2 7))).cmdWord 7 ∧ ((again (cw 2 5 7 2) (cmd 2 7))) = ((again (cw 2 5 7 2) (cmd 2 7))).holdWord 7 ((cw 2 5 7 2)) ∧ false = false) ∨
    (((again (cw 2 5 7 2) (cmd 2 7))).canTake 7 = false ∧ ((again (cw 2 5 7 2) (cmd 2 7))).canRetake 7 = true ∧ ((cw 2 5 7 2)) = (((again (cw 2 5 7 2) (cmd 2 7))).chan 7).held ∧ ((again (cw 2 5 7 2) (cmd 2 7))) = ((again (cw 2 5 7 2) (cmd 2 7))) ∧ false = ((again (cw 2 5 7 2) (cmd 2 7))).on F.EYEc_STATUS_CMD_FULL 7))
  ∧ (((again (cw 2 5 7 2) (cmd 2 7))).repeated 7 ((cw 2 5 7 2)) = some ((je 2 7 0)))
  ∧ okNext (.commandTake 7 false false) ((again (cw 2 5 7 2) (cmd 2 7))) (fun t => decide (t.eye.journal = ((again (cw 2 5 7 2) (cmd 2 7))).eye.journal) && decide (t.f F.EYEc_STATUS_EXP_SEQ 7 = ((again (cw 2 5 7 2) (cmd 2 7))).f F.EYEc_STATUS_EXP_SEQ 7) && decide (t.on F.EYEc_STATUS_CMD_FULL 7 = false)) = true := by decide +kernel

theorem test_held_word_taken_again : (let t := ((again (cw 2 0 7 0) (cmd 2 7)).setChan 7 { held := cw 0x05 0 0 0, queue := [{ word := replyWord 5 0 3 false false false 0 }, { word := replyWord 2 5 1 false false false 0, jslot := some 9 }] }).dropDecision 7; (t.chan 7).queue.length = 1 ∧ t.undecided 7 = true) := by decide +kernel

def qd : State := fwu.setChan 7 { queue := [{ word := cw 1 2 3 4 }, { word := 9 }] }

theorem test_RepliesAndTakeover_0 : (qd.postsReplies = true)
  ∧ (7 < 9)
  ∧ (qd.on F.EYEc_STATUS_RSP_FULL 7 = false)
  ∧ (qd.postHeld 7 = false)
  ∧ ((qd.chan 7).queue = (({ word := cw 1 2 3 4 } : QWord)) :: (([{ word := 9 }] : List QWord)))
  ∧ okNext (.replyPost 7) qd (fun t => decide ((t.chan 7).queue = (([{ word := 9 }] : List QWord))) && decide ((t.chan 7).posted = some (({ word := cw 1 2 3 4 } : QWord))) && decide (t.on F.EYEc_STATUS_RSP_FULL 7 = true) && decide (t.pair R.EYEc_RSP_LO R.EYEc_RSP_HI 7 = (({ word := cw 1 2 3 4 } : QWord)).word.toNat) && decide (t.bitf F.EYE_IRQ_REPLY 0 7 = true)) = true := by decide +kernel

def pst : State := (jf { je 2 7 0 with final := true, effect := true } fwu).setChan 7 { posted := some { word := cw 2 5 0 0, jslot := some 9, fin := true } }

theorem test_RepliesAndTakeover_1 : (pst.portTakes R.EYEc_STATUS 7 = true)
  ∧ (((0x40000000 : Word)).getLsbD 30 = true)
  ∧ ((pst.chan 7).posted = some ({ word := cw 2 5 0 0, jslot := some 9, fin := true }))
  ∧ (pst.sag = false)
  ∧ okNext (.replyTake true 7 ((0x40000000 : Word))) pst (fun t => decide ((t.chan 7).posted = none) && decide (t.on F.EYEc_STATUS_RSP_FULL 7 = false) && decide ((t.chan 7).queue = (pst.chan 7).queue) && decide (t.rsp.err = false) && decide ((t.jent? 9).map (·.taken) = some true)) = true := by decide +kernel

theorem test_RepliesAndTakeover_2 : (pst.portTakes R.EYEc_STATUS 7 = true)
  ∧ (((0 : Word)).getLsbD 30 = false)
  ∧ okNext (.replyTake true 7 ((0 : Word))) pst (fun t => decide (t.eye = pst.eye) && decide (t.rsp.err = false)) = true := by decide +kernel

def winS : State := (up.setf F.EYE_WIN_SEL_CH 0 7).setf F.EYE_WIN_SEL_HALF 0 1

theorem test_RepliesAndTakeover_3 : (winS.portTakes R.EYE_WINw 511 = true)
  ∧ (winS.chanClosed (winS.winPlace 511).1 = false)
  ∧ (winS.pageBusy (winS.winPlace 511).1 = false)
  ∧ okNext (.eyeWinWrite true 511 ((0x12345678 : Word))) winS (fun t => decide (t.pageBytes 7 4092 4 = leBytes 4 0x12345678) && decide (t.rsp.err = false) && decide (memByte t.eye.pages (4096 * 7 + 4091) = 0)) = true := by decide +kernel

theorem test_RepliesAndTakeover_4 : (((winS.setf F.EYEc_STATUS_PAGE_BUSY 7 1)).portTakes R.EYE_WINw 511 = true)
  ∧ (((winS.setf F.EYEc_STATUS_PAGE_BUSY 7 1)).chanClosed (((winS.setf F.EYEc_STATUS_PAGE_BUSY 7 1)).winPlace 511).1 = false)
  ∧ (((winS.setf F.EYEc_STATUS_PAGE_BUSY 7 1)).pageBusy (((winS.setf F.EYEc_STATUS_PAGE_BUSY 7 1)).winPlace 511).1 = true)
  ∧ okNext (.eyeWinWrite true 511 ((0x12345678 : Word))) ((winS.setf F.EYEc_STATUS_PAGE_BUSY 7 1)) (fun t => decide (t.rsp.err = true) && decide (t.on F.EYEc_STATUS_PAGE_WR_REFUSED (((winS.setf F.EYEc_STATUS_PAGE_BUSY 7 1)).winPlace 511).1 = true) && decide (t.eye = ((winS.setf F.EYEc_STATUS_PAGE_BUSY 7 1)).eye)) = true := by decide +kernel

theorem test_RepliesAndTakeover_5 : (({ fwu with eye := { fwu.eye with fw := { fwu.eye.fw with lostPending := 3 } } }).fwUp = true)
  ∧ (0 < ({ fwu with eye := { fwu.eye with fw := { fwu.eye.fw with lostPending := 3 } } }).eye.fw.lostPending)
  ∧ (({ fwu with eye := { fwu.eye with fw := { fwu.eye.fw with lostPending := 3 } } }).f F.EYE_NOTICE_QUEUED < 256)
  ∧ (({ fwu with eye := { fwu.eye with fw := { fwu.eye.fw with lostPending := 3 } } }).relayOwns ({ fwu with eye := { fwu.eye with fw := { fwu.eye.fw with lostPending := 3 } } }).noticeCh = false)
  ∧ okNext .noticeOverflow ({ fwu with eye := { fwu.eye with fw := { fwu.eye.fw with lostPending := 3 } } }) (fun t => decide (noticB t 0x0B 0) && decide (t.eye.fw.lostPending = 0)) = true := by decide +kernel

def dsm : State := let s := jf { je 0x28 (0x2000 + 0x463) 0 with effect := true, final := false } fwu; s.setf F.PWRd_STATUS_STEP 0x463 7

theorem test_RepliesAndTakeover_6 : (dsm.jent? 9 = some ({ je 0x28 (0x2000 + 0x463) 0 with effect := true }))
  ∧ (dsm.fwUp = true)
  ∧ (dsm.sag = false)
  ∧ (({ je 0x28 (0x2000 + 0x463) 0 with effect := true }).final = false)
  ∧ (({ je 0x28 (0x2000 + 0x463) 0 with effect := true }).taken = false)
  ∧ (({ je 0x28 (0x2000 + 0x463) 0 with effect := true }).op ≠ 0x63)
  ∧ (dsm.completion ({ je 0x28 (0x2000 + 0x463) 0 with effect := true }) = some ((((dsm.completion { je 0x28 (0x2000 + 0x463) 0 with effect := true }).getD (0, 0)).1), (((dsm.completion { je 0x28 (0x2000 + 0x463) 0 with effect := true }).getD (0, 0)).2)))
  ∧ (({ je 0x28 (0x2000 + 0x463) 0 with effect := true }).slot = 9)
  ∧ okNext (.commandFinalReply 9 false) dsm (fun t => decide (answ t ({ je 0x28 (0x2000 + 0x463) 0 with effect := true }) (((dsm.completion { je 0x28 (0x2000 + 0x463) 0 with effect := true }).getD (0, 0)).1) (((dsm.completion { je 0x28 (0x2000 + 0x463) 0 with effect := true }).getD (0, 0)).2))) = true := by decide +kernel

def chal : State := { up with sec := { up.sec with challenge := some (3, 1, 0, []) }, time := { up.time with count := 10000000000 } }

theorem test_RepliesAndTakeover_7 : (chal.sec.challenge = some (3, 1, ((0 : Word64)), (([] : List Byte))))
  ∧ (chal.passed ((0 : Word64)) 10000000000 = true)
  ∧ okNext .authChallengeExpire chal (fun t => decide (t.sec.challenge = none)) = true := by decide +kernel

theorem test_RepliesAndTakeover_8 : (({ chal with time := { chal.time with count := 9999999999 } }).sec.challenge = some (3, 1, ((0 : Word64)), (([] : List Byte))))
  ∧ (({ chal with time := { chal.time with count := 9999999999 } }).passed ((0 : Word64)) 10000000000 = false)
  ∧ okNext .authChallengeExpire ({ chal with time := { chal.time with count := 9999999999 } }) (fun t => decide (t = ({ chal with time := { chal.time with count := 9999999999 } }))) = true := by decide +kernel

theorem test_RepliesAndTakeover_9 : (({ up with eye := { up.eye with fw := { up.eye.fw with takeover := true } } }).eye.fw.takeover = true)
  ∧ (({ up with eye := { up.eye with fw := { up.eye.fw with takeover := true } } }).vgov = true)
  ∧ (({ up with eye := { up.eye with fw := { up.eye.fw with takeover := true } } }).rst.warm = false)
  ∧ (({ up with eye := { up.eye with fw := { up.eye.fw with takeover := true } } }).rst.cold = false)
  ∧ (({ up with eye := { up.eye with fw := { up.eye.fw with takeover := true } } }).domStep (0x460 + ({ up with eye := { up.eye with fw := { up.eye.fw with takeover := true } } }).activePair) = 0)
  ∧ (({ up with eye := { up.eye with fw := { up.eye.fw with takeover := true } } }).pairFenced ({ up with eye := { up.eye with fw := { up.eye.fw with takeover := true } } }).activePair = false)
  ∧ okNext .takeoverResume ({ up with eye := { up.eye with fw := { up.eye.fw with takeover := true } } }) (fun t => decide (t.eye.fw.running = true) && decide (t.eye.fw.takeover = false) && decide (t.eye.fw.unitCmds = []) && decide ((({ up with eye := { up.eye with fw := { up.eye.fw with takeover := true } } }).relayOwns ({ up with eye := { up.eye with fw := { up.eye.fw with takeover := true } } }).noticeCh = false → ({ up with eye := { up.eye with fw := { up.eye.fw with takeover := true } } }).f F.EYE_NOTICE_QUEUED < 256 → noticB t 2 ({ up with eye := { up.eye with fw := { up.eye.fw with takeover := true } } }).activePair))) = true := by decide +kernel

theorem test_RepliesAndTakeover_10 : (up.vgov = true)
  ∧ (up.rst.cold = false)
  ∧ (0 < 2)
  ∧ (up.pairFenced 0 = false)
  ∧ (up.awlFires 2 0 = false)
  ∧ (0 = up.activePair)
  ∧ (up.on F.EYE_FW_STANDBY_READY = false)
  ∧ okNext (.lockstepMismatch 0) up (fun t => decide (rep t 0x02 0)) = true := by decide +kernel

theorem test_RepliesAndTakeover_11 : (up.vgov = true)
  ∧ (up.rst.cold = false)
  ∧ (1 < 2)
  ∧ (up.pairFenced 1 = false)
  ∧ (up.awlFires 2 1 = false)
  ∧ (1 ≠ up.activePair ∨ (up.on F.EYE_FW_STANDBY_READY = true ∧ up.pairFenced (1 - 1) = false))
  ∧ okNext (.lockstepMismatch 1) up (fun t => decide (rep t 0x03 1)) = true := by decide +kernel

theorem test_RepliesAndTakeover_11_standby : (((up.setf F.EYE_FW_STANDBY_READY 0 1)).vgov = true)
  ∧ (((up.setf F.EYE_FW_STANDBY_READY 0 1)).rst.cold = false)
  ∧ (0 < 2)
  ∧ (((up.setf F.EYE_FW_STANDBY_READY 0 1)).pairFenced 0 = false)
  ∧ (((up.setf F.EYE_FW_STANDBY_READY 0 1)).awlFires 2 0 = false)
  ∧ (0 ≠ ((up.setf F.EYE_FW_STANDBY_READY 0 1)).activePair ∨ (((up.setf F.EYE_FW_STANDBY_READY 0 1)).on F.EYE_FW_STANDBY_READY = true ∧ ((up.setf F.EYE_FW_STANDBY_READY 0 1)).pairFenced (1 - 0) = false))
  ∧ okNext (.lockstepMismatch 0) ((up.setf F.EYE_FW_STANDBY_READY 0 1)) (fun t => decide (rep t 0x03 0)) = true := by decide +kernel

theorem test_RepliesAndTakeover_12 : (up.vgov = true)
  ∧ (up.rst.cold = false)
  ∧ (1 < 2)
  ∧ (up.pairFenced 1 = false)
  ∧ okNext (.firmwareHeartbeatTimeout 1) up (fun t => decide (rep t 0x04 1)) = true := by decide +kernel

theorem test_AtOnceCommandsAreAnswered_version : runsB (cmd 1 0) 1 (je 1 0 0) = true
  ∧ okNext .version (cmd 1 0) (fun t => doneB t (je 1 0 0) fwVersion) = true := by decide +kernel

theorem test_AtOnceCommandsAreAnswered_windowStatus : runsB (cmd 50 0) 50 (je 50 0 0) = true
  ∧ okNext .windowStatus (cmd 50 0) (fun t => doneB t (je 50 0 0) ((cmd 50 0).f F.THM_WIN_STATUS_WIN_ID * 2 ^ 16 + (cmd 50 0).f F.THM_WIN_STATUS_SLOW_SENT * 4 + (cmd 50 0).f F.THM_WIN_STATUS_STATE)) = true := by decide +kernel

theorem test_AtOnceCommandsAreAnswered_jobRead : runsB (cmd 39 63) 39 (je 39 63 0) = true
  ∧ okNext .jobRead (cmd 39 63) (fun t => doneB t (je 39 63 0) ((cmd 39 63).pair R.JOBm_EC_LO R.JOBm_EC_HI 63)) = true := by decide +kernel

theorem test_AtOnceCommandsAreAnswered_fwChunk : runsB (cmd 241 8) 241 (je 241 8 0) = true
  ∧ okNext .fwChunk (cmd 241 8) (fun t => doneB t (je 241 8 0) ((cmd 241 8).eye.fw.img.length + 8)) = true := by decide +kernel

theorem test_AtOnceCommandsAreAnswered_planTile : runsB (cmd 65 0) 65 (je 65 0 0) = true
  ∧ okNext .planTile (cmd 65 0) (fun t => doneB t (je 65 0 0) ((cmd 65 0).eye.fw.staged.length + 1)) = true := by decide +kernel

theorem test_AtOnceCommandsAreAnswered_moduleStatus : runsB (cmd 129 0) 129 (je 129 0 0) = true
  ∧ okNext .moduleStatus (cmd 129 0) (fun t => doneB t (je 129 0 0) ((List.range 64).filter (fun k => (cmd 129 0).memberMap.testBit k)).length) = true := by decide +kernel

theorem test_AtOnceCommandsAreAnswered_authResponse : runsB (cmd 161 0) 161 (je 161 0 0) = true
  ∧ okNext .authResponse (cmd 161 0) (fun t => doneB t (je 161 0 0) 0) = true := by decide +kernel

def cmr (op : Nat) (arg result : Word) (s : State) : State := jf (je op arg result) s

theorem test_CommandsTakeEffect_0 : (runsB ((cmr 19 65535 0 (fwu))) 0x13 ((je 19 65535 0)))
  ∧ (((cmr 19 65535 0 (fwu))).takes R.LOOP_PCAP 0 = true)
  ∧ okNext .platformCap ((cmr 19 65535 0 (fwu))) (fun t => decide (t.f F.LOOP_PCAP_PCAP = ((je 19 65535 0)).arg.toNat % 65536)) = true := by decide +kernel

theorem test_CommandsTakeEffect_1 : (runsB ((cmr 22 1 0 (fwu))) 0x16 ((je 22 1 0)))
  ∧ (((cmr 22 1 0 (fwu))).takes R.CRD_CLAMP 0 = true)
  ∧ okNext .clampForce ((cmr 22 1 0 (fwu))) (fun t => decide (t.on F.CRD_CLAMP_FORCE = ((je 22 1 0)).arg.getLsbD 0) && decide (doneB t ((je 22 1 0)) (((cmr 22 1 0 (fwu))).f F.CRD_CLAMP_FORCE))) = true := by decide +kernel

theorem test_CommandsTakeEffect_2 : (runsB ((cmr 38 319 0 (fwu))) 0x26 ((je 38 319 0)))
  ∧ (((cmr 38 319 0 (fwu))).takes R.JOBm_CTRL (((je 38 319 0)).arg.toNat % 64) = true)
  ∧ (((je 38 319 0)).arg.getLsbD 9 = false)
  ∧ okNext .jobMeter ((cmr 38 319 0 (fwu))) (fun t => decide (t.on F.JOBm_CTRL_EN (((je 38 319 0)).arg.toNat % 64) = ((je 38 319 0)).arg.getLsbD 8) && decide (doneB t ((je 38 319 0)) (((cmr 38 319 0 (fwu))).f F.JOBm_CTRL_STATUS (((je 38 319 0)).arg.toNat % 64)))) = true := by decide +kernel

theorem test_CommandsTakeEffect_3 : (runsB ((cmr 38 831 0 (fwu))) 0x26 ((je 38 831 0)))
  ∧ (((cmr 38 831 0 (fwu))).takes R.JOBm_CTRL (((je 38 831 0)).arg.toNat % 64) = true)
  ∧ (((je 38 831 0)).arg.getLsbD 9 = true)
  ∧ okNext .jobMeter ((cmr 38 831 0 (fwu))) (fun t => decide (t.on F.JOBm_CTRL_EN (((je 38 831 0)).arg.toNat % 64) = ((je 38 831 0)).arg.getLsbD 8) && decide (t.f F.JOBm_CTRL_STATUS (((je 38 831 0)).arg.toNat % 64) = 1) && decide (Tab.get 0 t.crd.jobClear (((je 38 831 0)).arg.toNat % 64) = ((cmr 38 831 0 (fwu))).epoch + 1) && decide (effB t ((je 38 831 0)) false)) = true := by decide +kernel

theorem test_CommandsTakeEffect_4 : (runsB ((cmr 65 0 0 (fwu))) 0x41 ((je 65 0 0)))
  ∧ okNext .planTile ((cmr 65 0 0 (fwu))) (fun t => decide (t.eye.fw.staged = ((cmr 65 0 0 (fwu))).eye.fw.staged ++ [((cmr 65 0 0 (fwu))).pageBytes ((je 65 0 0)).ch 0 256])) = true := by decide +kernel

theorem test_CommandsTakeEffect_5 : (runsB ((cmr 68 0 0 (fwu))) 0x44 ((je 68 0 0)))
  ∧ okNext .planDiscard ((cmr 68 0 0 (fwu))) (fun t => decide (t.eye.fw.staged = [])) = true := by decide +kernel

theorem test_CommandsTakeEffect_6 : (runsB ((cmr 67 0 0 ({ fwu with eye := { fwu.eye with fw := { fwu.eye.fw with staged := [[1, 2]] } } }))) 0x43 ((je 67 0 0)))
  ∧ okNext (.planStore true) ((cmr 67 0 0 ({ fwu with eye := { fwu.eye with fw := { fwu.eye.fw with staged := [[1, 2]] } } }))) (fun t => decide (t.flt.mram = memWrite ((cmr 67 0 0 ({ fwu with eye := { fwu.eye with fw := { fwu.eye.fw with staged := [[1, 2]] } } }))).flt.mram 0x100000 ((cmr 67 0 0 ({ fwu with eye := { fwu.eye with fw := { fwu.eye.fw with staged := [[1, 2]] } } }))).eye.fw.staged.flatten)) = true := by decide +kernel

theorem test_CommandsTakeEffect_7 : (runsB ((cmr 67 0 0 (fwu))) 0x43 ((je 67 0 0)))
  ∧ okNext (.planStore false) ((cmr 67 0 0 (fwu))) (fun t => decide (answ t ((je 67 0 0)) ST_REFUSED (refusedResult RS_CONDITION 0)) && decide (effB t ((je 67 0 0)) true)) = true := by decide +kernel

theorem test_CommandsTakeEffect_8 : (runsB ((cmr 3 1 0 (fwu))) 0x03 ((je 3 1 0)))
  ∧ okNext .stateCensus ((cmr 3 1 0 (fwu))) (fun t => decide ((t.jent? 9).map (·.final) = some true) && decide (t.eye.fw.snapshot = ((cmr 3 1 0 (fwu))).eye.fw.snapshot)) = true := by decide +kernel

theorem test_CommandsTakeEffect_8_new : (runsB ((cmr 3 0 0 (fwu))) 0x03 ((je 3 0 0))) := by decide +kernel

theorem test_CommandsTakeEffect_9 : (runsB ((cmr 81 0 0 (fwu.setf F.TRC_CTRL_RUN 0 1))) 0x51 ((je 81 0 0)))
  ∧ (((cmr 81 0 0 (fwu.setf F.TRC_CTRL_RUN 0 1))).takes R.TRC_CTRL 0 = true)
  ∧ okNext .traceStop ((cmr 81 0 0 (fwu.setf F.TRC_CTRL_RUN 0 1))) (fun t => decide (t.on F.TRC_CTRL_RUN = false) && decide ((t.jent? 9).map (·.final) = some true)) = true := by decide +kernel

theorem test_CommandsTakeEffect_10 : (runsB ((cmr 80 32767 0 (fwu))) 0x50 ((je 80 32767 0)))
  ∧ (((cmr 80 32767 0 (fwu))).takes R.TRC_CTRL 0 = true)
  ∧ (((cmr 80 32767 0 (fwu))).takes R.TRC_SRC 0 = true) := by decide +kernel

theorem test_CommandsTakeEffect_11 : (runsB ((cmr 97 83 0 (fwu.setBitf F.FLT_UNCLEAREDk_ROWS 2 19 true))) 0x61 ((je 97 83 0)))
  ∧ (((je 97 83 0)).arg.toNat % 512 = 0x53)
  ∧ (0x53 ≠ 0)
  ∧ (0x53 < 256)
  ∧ (faultRowUsed 0x53 = true)
  ∧ (((cmr 97 83 0 (fwu.setBitf F.FLT_UNCLEAREDk_ROWS 2 19 true))).faultLevel 0x53 = false)
  ∧ okNext .faultClear ((cmr 97 83 0 (fwu.setBitf F.FLT_UNCLEAREDk_ROWS 2 19 true))) (fun t => decide (t.uncleared 0x53 = false) && decide (doneB t ((je 97 83 0)) (if ((cmr 97 83 0 (fwu.setBitf F.FLT_UNCLEAREDk_ROWS 2 19 true))).uncleared 0x53 then 1 else 0))) = true := by decide +kernel

theorem test_CommandsTakeEffect_12 : (runsB ((cmr 100 77824 0 (fwu.setBitf F.GOV_SEC_SCOPE 0 2 true))) 0x64 ((je 100 77824 0)))
  ∧ (((cmr 100 77824 0 (fwu.setBitf F.GOV_SEC_SCOPE 0 2 true))).scopeAwl = true)
  ∧ (((je 100 77824 0)).arg.toNat % 65536 / 4096 ≤ 3)
  ∧ (((je 100 77824 0)).arg.toNat % 65536 / 4096 ≠ 1)
  ∧ okNext .awlInject ((cmr 100 77824 0 (fwu.setBitf F.GOV_SEC_SCOPE 0 2 true))) (fun t => decide (t.f F.FLT_AWL_STATUS = 1) && decide (t.f F.FLT_AWL_CHECKER = ((je 100 77824 0)).arg.toNat % 65536) && decide (t.on F.FLT_AWL_REPEAT = ((je 100 77824 0)).arg.getLsbD 16) && decide (doneB t ((je 100 77824 0)) 1)) = true := by decide +kernel

theorem test_CommandsTakeEffect_13 : (runsB ((cmr 112 0 0 (fwu))) 0x70 ((je 112 0 0))) := by decide +kernel

theorem test_CommandsTakeEffect_14 : (runsB ((cmr 113 3 0 (fwu))) 0x71 ((je 113 3 0)))
  ∧ okNext .marginSchedule ((cmr 113 3 0 (fwu))) (fun t => decide (t.trd.sched = (if ((je 113 3 0)).arg.toNat % 65536 = 0 then none else some (((cmr 113 3 0 (fwu))).service, ((je 113 3 0)).arg.toNat % 65536, 0)))) = true := by decide +kernel

theorem test_CommandsTakeEffect_15 : (runsB ((cmr 116 0 0 ((fwu.setf F.PRED_CTRL_EN 0 1).setf F.PRED_STATUS_STATE 0 3))) 0x74 ((je 116 0 0)))
  ∧ (((cmr 116 0 0 ((fwu.setf F.PRED_CTRL_EN 0 1).setf F.PRED_STATUS_STATE 0 3))).takes R.PRED_RESUME 0 = true)
  ∧ (((cmr 116 0 0 ((fwu.setf F.PRED_CTRL_EN 0 1).setf F.PRED_STATUS_STATE 0 3))).on F.PRED_CTRL_EN = true)
  ∧ (((cmr 116 0 0 ((fwu.setf F.PRED_CTRL_EN 0 1).setf F.PRED_STATUS_STATE 0 3))).on F.PRED_CTRL_FORCE_LIN = false)
  ∧ okNext .predResume ((cmr 116 0 0 ((fwu.setf F.PRED_CTRL_EN 0 1).setf F.PRED_STATUS_STATE 0 3))) (fun t => decide (t.f F.PRED_STATUS_STATE = 1) && decide (doneB t ((je 116 0 0)) ((cmr 116 0 0 ((fwu.setf F.PRED_CTRL_EN 0 1).setf F.PRED_STATUS_STATE 0 3))).affectedSets.length)) = true := by decide +kernel

theorem test_CommandsTakeEffect_16 : (runsB ((cmr 160 1 0 (fwu))) 0xA0 ((je 160 1 0))) := by decide +kernel

theorem test_CommandsTakeEffect_17 : (runsB ((cmr 161 0 15 (fwu))) 0xA1 ((je 161 0 15)))
  ∧ okNext .authResponse ((cmr 161 0 15 (fwu))) (fun t => decide (t.f F.GOV_SEC_SCOPE = ((je 161 0 15)).result.toNat % 16)) = true := by decide +kernel

theorem test_CommandsTakeEffect_18 : (runsB ((cmr 162 0 0 ((fwu.setf F.GOV_SEC_SCOPE 0 15).setf F.FLT_AWL_STATUS 0 1))) 0xA2 ((je 162 0 0)))
  ∧ okNext .authDrop ((cmr 162 0 0 ((fwu.setf F.GOV_SEC_SCOPE 0 15).setf F.FLT_AWL_STATUS 0 1))) (fun t => decide (t.f F.GOV_SEC_SCOPE = 0) && decide (t.f F.FLT_AWL_STATUS ≠ 1)) = true := by decide +kernel

theorem test_CommandsTakeEffect_19 : (runsB ((cmr 240 4096 0 (fwu))) 0xF0 ((je 240 4096 0)))
  ∧ okNext .fwBegin ((cmr 240 4096 0 (fwu))) (fun t => decide (t.eye.fw.imgSize = some ((je 240 4096 0)).arg.toNat) && decide (t.eye.fw.img = []) && decide (t.eye.fw.nextChunk = 0)) = true := by decide +kernel

theorem test_CommandsTakeEffect_20 : (runsB ((cmr 241 8 0 (fwu))) 0xF1 ((je 241 8 0)))
  ∧ okNext .fwChunk ((cmr 241 8 0 (fwu))) (fun t => decide (t.eye.fw.nextChunk = ((cmr 241 8 0 (fwu))).eye.fw.nextChunk + 1) && decide (t.eye.fw.img = ((cmr 241 8 0 (fwu))).eye.fw.img ++ ((cmr 241 8 0 (fwu))).pageBytes ((je 241 8 0)).ch 0 (((je 241 8 0)).arg.toNat % 8192))) = true := by decide +kernel

def img (svn : Nat) : List Byte := leBytes 4 0x4C4B4657 ++ leBytes 4 7 ++ leBytes 4 svn ++ leBytes 4 0 ++ List.replicate 240 0
def fwi (svn : Nat) : State := { fwu with eye := { fwu.eye with fw := { fwu.eye.fw with img := img svn } } }

theorem test_CommandsTakeEffect_21 : (runsB ((cmr 242 0 0 (fwi 0))) 0xF2 ((je 242 0 0)))
  ∧ (false = false ∨ imgSound ((cmr 242 0 0 (fwi 0))).eye.fw.img = false)
  ∧ okNext (.fwCommit false) ((cmr 242 0 0 (fwi 0))) (fun t => decide (answ t ((je 242 0 0)) ST_REFUSED (refusedResult RS_SIGNATURE 0)) && decide (t.flt.mram = ((cmr 242 0 0 (fwi 0))).flt.mram)) = true := by decide +kernel

def fwb : State := fwi 0 |>.putBoot 3 0

theorem test_CommandsTakeEffect_22 : (runsB ((cmr 242 0 0 (fwb))) 0xF2 ((je 242 0 0)))
  ∧ (true = true)
  ∧ (imgSound ((cmr 242 0 0 (fwb))).eye.fw.img = true)
  ∧ (imgSvn ((cmr 242 0 0 (fwb))).eye.fw.img < ((cmr 242 0 0 (fwb))).bootCounter)
  ∧ okNext (.fwCommit true) ((cmr 242 0 0 (fwb))) (fun t => decide (answ t ((je 242 0 0)) ST_REFUSED (refusedResult RS_ROLLBACK 0)) && decide (t.flt.mram = ((cmr 242 0 0 (fwb))).flt.mram)) = true := by decide +kernel

theorem test_CommandsTakeEffect_23 : (runsB ((cmr 242 0 0 (fwi 0))) 0xF2 ((je 242 0 0)))
  ∧ (true = true)
  ∧ (imgSound ((cmr 242 0 0 (fwi 0))).eye.fw.img = true)
  ∧ (((cmr 242 0 0 (fwi 0))).bootCounter ≤ imgSvn ((cmr 242 0 0 (fwi 0))).eye.fw.img)
  ∧ okNext (.fwCommit true) ((cmr 242 0 0 (fwi 0))) (fun t => decide (doneB t ((je 242 0 0)) (imgVersion ((cmr 242 0 0 (fwi 0))).eye.fw.img)) && decide (t.eye.fw.committed = some (imgVersion ((cmr 242 0 0 (fwi 0))).eye.fw.img, 1 - ((cmr 242 0 0 (fwi 0))).f F.GOV_SEC_SLOT)) && decide (t.flt.mram = memWrite ((cmr 242 0 0 (fwi 0))).flt.mram (imgAddr (1 - ((cmr 242 0 0 (fwi 0))).f F.GOV_SEC_SLOT)) ((cmr 242 0 0 (fwi 0))).eye.fw.img)) = true := by decide +kernel

theorem test_DeferredCommandsTakeEffect_0 : (runsB ((cmr 16 0x07000E10 0 (fwu))) 0x10 ((je 16 0x07000E10 0)))
  ∧ (400 ≤ ((je 16 0x07000E10 0)).arg.toNat % 4096)
  ∧ (((je 16 0x07000E10 0)).arg.toNat % 4096 ≤ 3600)
  ∧ (((cmr 16 0x07000E10 0 (fwu))).trackMode (argRail ((je 16 0x07000E10 0)).arg.toNat) ≠ 1)
  ∧ okNext .railTarget ((cmr 16 0x07000E10 0 (fwu))) (fun t => decide (t.f F.RAILr_TARGET_CODE (argRail ((je 16 0x07000E10 0)).arg.toNat) = ((je 16 0x07000E10 0)).arg.toNat % 4096) && decide ((((cmr 16 0x07000E10 0 (fwu))).railOn (argRail ((je 16 0x07000E10 0)).arg.toNat) = true → effB t ((je 16 0x07000E10 0)) false)) && decide ((((cmr 16 0x07000E10 0 (fwu))).railOn (argRail ((je 16 0x07000E10 0)).arg.toNat) = false → effB t ((je 16 0x07000E10 0)) true))) = true := by decide +kernel

theorem test_DeferredCommandsTakeEffect_0_low : (runsB ((cmr 16 0x07000190 0 (fwu))) 0x10 ((je 16 0x07000190 0)))
  ∧ (400 ≤ ((je 16 0x07000190 0)).arg.toNat % 4096)
  ∧ (((je 16 0x07000190 0)).arg.toNat % 4096 ≤ 3600)
  ∧ (((cmr 16 0x07000190 0 (fwu))).trackMode (argRail ((je 16 0x07000190 0)).arg.toNat) ≠ 1)
  ∧ okNext .railTarget ((cmr 16 0x07000190 0 (fwu))) (fun t => decide (t.f F.RAILr_TARGET_CODE (argRail ((je 16 0x07000190 0)).arg.toNat) = ((je 16 0x07000190 0)).arg.toNat % 4096) && decide ((((cmr 16 0x07000190 0 (fwu))).railOn (argRail ((je 16 0x07000190 0)).arg.toNat) = true → effB t ((je 16 0x07000190 0)) false)) && decide ((((cmr 16 0x07000190 0 (fwu))).railOn (argRail ((je 16 0x07000190 0)).arg.toNat) = false → effB t ((je 16 0x07000190 0)) true))) = true := by decide +kernel

theorem test_DeferredCommandsTakeEffect_1 : (runsB ((cmr 17 0x07000000 0 (fwu))) 0x11 ((je 17 0x07000000 0)))
  ∧ (((cmr 17 0x07000000 0 (fwu))).seqBusy = false)
  ∧ (((je 17 0x07000000 0)).arg.getLsbD 0 = ((cmr 17 0x07000000 0 (fwu))).on F.RAILr_CTRL_ON (argRail ((je 17 0x07000000 0)).arg.toNat))
  ∧ okNext .railOn ((cmr 17 0x07000000 0 (fwu))) (fun t => decide (t.on F.RAILr_CTRL_ON (argRail ((je 17 0x07000000 0)).arg.toNat) = ((je 17 0x07000000 0)).arg.getLsbD 0) && decide (effB t ((je 17 0x07000000 0)) false)) = true := by decide +kernel

theorem test_DeferredCommandsTakeEffect_2 : (runsB ((cmr 17 0x07000000 0 ((fwu.setf F.RAILr_STATUS_STATE 7 2).setf F.RAILr_CTRL_ON 7 1))) 0x11 ((je 17 0x07000000 0)))
  ∧ (((cmr 17 0x07000000 0 ((fwu.setf F.RAILr_STATUS_STATE 7 2).setf F.RAILr_CTRL_ON 7 1))).seqBusy = false)
  ∧ (((je 17 0x07000000 0)).arg.getLsbD 0 = false)
  ∧ (((cmr 17 0x07000000 0 ((fwu.setf F.RAILr_STATUS_STATE 7 2).setf F.RAILr_CTRL_ON 7 1))).railOn (argRail ((je 17 0x07000000 0)).arg.toNat) = true)
  ∧ (((cmr 17 0x07000000 0 ((fwu.setf F.RAILr_STATUS_STATE 7 2).setf F.RAILr_CTRL_ON 7 1))).on F.RAILr_CTRL_ON (argRail ((je 17 0x07000000 0)).arg.toNat) = true)
  ∧ okNext .railOn ((cmr 17 0x07000000 0 ((fwu.setf F.RAILr_STATUS_STATE 7 2).setf F.RAILr_CTRL_ON 7 1))) (fun t => decide (t.railSt (argRail ((je 17 0x07000000 0)).arg.toNat) = 3) && decide (t.on F.RAILr_CTRL_ON (argRail ((je 17 0x07000000 0)).arg.toNat) = false) && decide (effB t ((je 17 0x07000000 0)) false)) = true := by decide +kernel

theorem test_DeferredCommandsTakeEffect_3 : (runsB ((cmr 17 0x07000001 0 (fwu.setf F.SEQ_STATUS_STATE 0 1))) 0x11 ((je 17 0x07000001 0)))
  ∧ (((cmr 17 0x07000001 0 (fwu.setf F.SEQ_STATUS_STATE 0 1))).seqBusy = true)
  ∧ okNext .railOn ((cmr 17 0x07000001 0 (fwu.setf F.SEQ_STATUS_STATE 0 1))) (fun t => decide (t.regs = ((cmr 17 0x07000001 0 (fwu.setf F.SEQ_STATUS_STATE 0 1))).regs) && decide (t.eye.journal = ((cmr 17 0x07000001 0 (fwu.setf F.SEQ_STATUS_STATE 0 1))).eye.journal)) = true := by decide +kernel

theorem test_DeferredCommandsTakeEffect_4 : (runsB ((cmr 18 1 0 (fwu))) 0x12 ((je 18 1 0)))
  ∧ okNext .sequence ((cmr 18 1 0 (fwu))) (fun t => decide (t.on F.SEQ_CTRL_UP = ((je 18 1 0)).arg.getLsbD 0) && decide (effB t ((je 18 1 0)) false)) = true := by decide +kernel

theorem test_DeferredCommandsTakeEffect_5 : (runsB ((cmr 21 351 0 (fwu))) 0x15 ((je 21 351 0)))
  ∧ (((je 21 351 0)).arg.getLsbD 8 = true)
  ∧ (((cmr 21 351 0 (fwu))).phSt (((je 21 351 0)).arg.toNat % 128) = PH_OFF)
  ∧ (((je 21 351 0)).arg.toNat % 128 < Config.phaseCount)
  ∧ okNext .phaseEn ((cmr 21 351 0 (fwu))) (fun t => decide (t.phSt (((je 21 351 0)).arg.toNat % 128) = PH_PROBE) && decide (effB t ((je 21 351 0)) false)) = true := by decide +kernel

theorem test_DeferredCommandsTakeEffect_6 : (runsB ((cmr 32 0x7FC00002 0 (fwu))) 0x20 ((je 32 0x7FC00002 0)))
  ∧ (((cmr 32 0x7FC00002 0 (fwu))).takes R.CRDSn_ROLE (argCore ((je 32 0x7FC00002 0)).arg.toNat) = true)
  ∧ okNext .setRole ((cmr 32 0x7FC00002 0 (fwu))) (fun t => decide (t.f F.CRDSn_ROLE_ROLE (argCore ((je 32 0x7FC00002 0)).arg.toNat) = ((je 32 0x7FC00002 0)).arg.toNat % 4) && decide (effB t ((je 32 0x7FC00002 0)) false)) = true := by decide +kernel

theorem test_DeferredCommandsTakeEffect_setPriority : runsB (cmr 33 0x7FC00001 0 fwu) 33 (je 33 0x7FC00001 0) = true
  ∧ okNext .setPriority (cmr 33 0x7FC00001 0 fwu) (fun t => decide (t.eye.fw.unitCmds = [({ core := 511, slot := 9, word := unitWord 0 1 4 } : UnitCmd)]) && decide (t.eye.journal = (cmr 33 0x7FC00001 0 fwu).eye.journal)) = true := by decide +kernel

theorem test_DeferredCommandsTakeEffect_setCap : runsB (cmr 34 0x7FC00001 0 fwu) 34 (je 34 0x7FC00001 0) = true
  ∧ okNext .setCap (cmr 34 0x7FC00001 0 fwu) (fun t => decide (t.eye.fw.unitCmds = [({ core := 511, slot := 9, word := unitWord 0 3 1048576 } : UnitCmd)]) && decide (t.eye.journal = (cmr 34 0x7FC00001 0 fwu).eye.journal)) = true := by decide +kernel

theorem test_DeferredCommandsTakeEffect_setJob : runsB (cmr 35 0x7FC00001 0 fwu) 35 (je 35 0x7FC00001 0) = true
  ∧ okNext .setJob (cmr 35 0x7FC00001 0 fwu) (fun t => decide (t.eye.fw.unitCmds = [({ core := 511, slot := 9, word := unitWord 0 2 65536 } : UnitCmd)]) && decide (t.eye.journal = (cmr 35 0x7FC00001 0 fwu).eye.journal)) = true := by decide +kernel

theorem test_DeferredCommandsTakeEffect_readmitPart : runsB (cmr 36 0x7FC00001 0 fwu) 36 (je 36 0x7FC00001 0) = true
  ∧ okNext .readmitPart (cmr 36 0x7FC00001 0 fwu) (fun t => decide (t.eye.fw.unitCmds = [({ core := 511, slot := 9, word := unitWord 0 4 1 } : UnitCmd)]) && decide (t.eye.journal = (cmr 36 0x7FC00001 0 fwu).eye.journal)) = true := by decide +kernel

theorem test_DeferredCommandsTakeEffect_unitPing : runsB (cmr 37 0x7FC00001 0 fwu) 37 (je 37 0x7FC00001 0) = true
  ∧ okNext .unitPing (cmr 37 0x7FC00001 0 fwu) (fun t => decide (t.eye.fw.unitCmds = [({ core := 511, slot := 9, word := unitWord 0 5 0 } : UnitCmd)]) && decide (t.eye.journal = (cmr 37 0x7FC00001 0 fwu).eye.journal)) = true := by decide +kernel

theorem test_DeferredCommandsTakeEffect_8 : (runsB ((cmr 40 511 0 ((fwu.setf F.PWRd_STATUS_STEP 0x1FF 7).setf F.PWRd_CTRL_PARENT 0x1FF 0x7FF |>.setf F.PWRd_STATUS_PENDING 0x1FF 3))) 0x28 ((je 40 511 0)))
  ∧ (0x1FF = ((je 40 511 0)).arg.toNat % 2048)
  ∧ (((je 40 511 0)).arg.toNat / 4096 % 4 = 0)
  ∧ (domainPresent 0x1FF = true)
  ∧ (((cmr 40 511 0 ((fwu.setf F.PWRd_STATUS_STEP 0x1FF 7).setf F.PWRd_CTRL_PARENT 0x1FF 0x7FF |>.setf F.PWRd_STATUS_PENDING 0x1FF 3))).domStep 0x1FF = 7)
  ∧ (((cmr 40 511 0 ((fwu.setf F.PWRd_STATUS_STEP 0x1FF 7).setf F.PWRd_CTRL_PARENT 0x1FF 0x7FF |>.setf F.PWRd_STATUS_PENDING 0x1FF 3))).domPending 0x1FF = 3)
  ∧ (((cmr 40 511 0 ((fwu.setf F.PWRd_STATUS_STEP 0x1FF 7).setf F.PWRd_CTRL_PARENT 0x1FF 0x7FF |>.setf F.PWRd_STATUS_PENDING 0x1FF 3))).domFenced 0x1FF = false)
  ∧ (((cmr 40 511 0 ((fwu.setf F.PWRd_STATUS_STEP 0x1FF 7).setf F.PWRd_CTRL_PARENT 0x1FF 0x7FF |>.setf F.PWRd_STATUS_PENDING 0x1FF 3))).safe = false)
  ∧ (((cmr 40 511 0 ((fwu.setf F.PWRd_STATUS_STEP 0x1FF 7).setf F.PWRd_CTRL_PARENT 0x1FF 0x7FF |>.setf F.PWRd_STATUS_PENDING 0x1FF 3))).parentOf 0x1FF = none)
  ∧ okNext .domainReq ((cmr 40 511 0 ((fwu.setf F.PWRd_STATUS_STEP 0x1FF 7).setf F.PWRd_CTRL_PARENT 0x1FF 0x7FF |>.setf F.PWRd_STATUS_PENDING 0x1FF 3))) (fun t => decide (t.domStep 0x1FF = 8) && decide (t.domTarget 0x1FF = 0) && decide (effB t ((je 40 511 0)) false)) = true := by decide +kernel

theorem test_DeferredCommandsTakeEffect_9 : (runsB ((cmr 48 0 0 (fwu))) 0x30 ((je 48 0 0)))
  ∧ (((cmr 48 0 0 (fwu))).f F.THM_WIN_STATUS_STATE = 0) := by decide +kernel

theorem test_DeferredCommandsTakeEffect_10 : (runsB ((cmr 49 0 0 (fwu.setf F.THM_WIN_STATUS_STATE 0 1))) 0x31 ((je 49 0 0)))
  ∧ (((cmr 49 0 0 (fwu.setf F.THM_WIN_STATUS_STATE 0 1))).winLive = true) := by decide +kernel

theorem test_DeferredCommandsTakeEffect_11 : (runsB ((cmr 98 0 0 (fwu.setf F.FLT_STATUS_SAFE 0 1))) 0x62 ((je 98 0 0)))
  ∧ (((cmr 98 0 0 (fwu.setf F.FLT_STATUS_SAFE 0 1))).safe = true)
  ∧ (((cmr 98 0 0 (fwu.setf F.FLT_STATUS_SAFE 0 1))).safeExitRefused = none) := by decide +kernel

theorem test_DeferredCommandsTakeEffect_12 : (runsB ((cmr 82 3 0 ((fwu.setf F.TRC_CTRL_RUN 0 1).setBitf F.TRC_CTRL_TRIG_EN 0 0 true))) 0x52 ((je 82 3 0)))
  ∧ (((cmr 82 3 0 ((fwu.setf F.TRC_CTRL_RUN 0 1).setBitf F.TRC_CTRL_TRIG_EN 0 0 true))).tracing = true)
  ∧ (((cmr 82 3 0 ((fwu.setf F.TRC_CTRL_RUN 0 1).setBitf F.TRC_CTRL_TRIG_EN 0 0 true))).bitf F.TRC_CTRL_TRIG_EN 0 0 = true) := by decide +kernel

theorem test_DeferredCommandsTakeEffect_13 : (runsB ((cmr 99 0x20004038 0 (fwu))) 0x63 ((je 99 0x20004038 0)))
  ∧ (unfenceUnit ((je 99 0x20004038 0)).arg.toNat = some (.sensor, 0x4038))
  ∧ okNext (.unfence ([])) ((cmr 99 0x20004038 0 (fwu))) (fun t => decide (Tab.get false t.flt.fencedSensors 0x4038 = false) && decide ((t.sens 0x4038).broken = true) && decide ((t.sens 0x4038).unbreak = true) && decide (effB t ((je 99 0x20004038 0)) false)) = true := by decide +kernel

theorem test_DeferredCommandsTakeEffect_14 : (runsB ((cmr 128 0x00000004 0 (fwu.setPair R.LACE_MEMBERS_LO R.LACE_MEMBERS_HI 0 16))) 0x80 ((je 128 0x00000004 0)))
  ∧ (((cmr 128 0x00000004 0 (fwu.setPair R.LACE_MEMBERS_LO R.LACE_MEMBERS_HI 0 16))).lace.relays.length < 16)
  ∧ (((cmr 128 0x00000004 0 (fwu.setPair R.LACE_MEMBERS_LO R.LACE_MEMBERS_HI 0 16))).memberMap.testBit (((je 128 0x00000004 0)).arg.toNat % 64) = true)
  ∧ okNext .remote ((cmr 128 0x00000004 0 (fwu.setPair R.LACE_MEMBERS_LO R.LACE_MEMBERS_HI 0 16))) (fun t => decide ((t.lace.relays.map (fun r => (r.slot, r.site))) = [(9, 4)])) = true := by decide +kernel

theorem test_DeferredCommandsTakeEffect_15 : (runsB ((cmr 243 0 0 ({ fwu with eye := { fwu.eye with fw := { fwu.eye.fw with committed := some (7, 1) } } }))) 0xF3 ((je 243 0 0)))
  ∧ (((cmr 243 0 0 ({ fwu with eye := { fwu.eye with fw := { fwu.eye.fw with committed := some (7, 1) } } }))).eye.fw.committed = some (7, 1)) := by decide +kernel

theorem test_DeferredCommandsTakeEffect_16 : (runsB ((cmr 64 1 0 ({ fwu with eye := { fwu.eye with fw := { fwu.eye.fw with staged := [leBytes 2 0x5A4B ++ [8] ++ List.replicate 253 0] } } }))) 0x40 ((je 64 1 0)))
  ∧ (((cmr 64 1 0 ({ fwu with eye := { fwu.eye with fw := { fwu.eye.fw with staged := [leBytes 2 0x5A4B ++ [8] ++ List.replicate 253 0] } } }))).planInProgress = none)
  ∧ (planOrder (((cmr 64 1 0 ({ fwu with eye := { fwu.eye with fw := { fwu.eye.fw with staged := [leBytes 2 0x5A4B ++ [8] ++ List.replicate 253 0] } } }))).planTiles (((je 64 1 0)).arg.getLsbD 0)) = [((leBytes 2 0x5A4B ++ [8] ++ List.replicate 253 0))])
  ∧ (tileType ((leBytes 2 0x5A4B ++ [8] ++ List.replicate 253 0)) = 8)
  ∧ (((je 64 1 0)).step = 0) := by decide +kernel

/-- The Lace operates as site 5: port 0 UP, port 1 in state `p`. -/
def lacs (p : Nat) (head : Bool) (s : State) : State :=
  let s := ((s.setf F.LACE_CTRL_EN 0 1).setf F.LACE_ID_SITE 0 5).setb F.LACE_ID_IS_HEAD 0 head
  (s.setf F.LACE_PORTp_STATUS_STATE 0 3).setf F.LACE_PORTp_STATUS_STATE 1 p
def lac (p : Nat) (head : Bool) : State := lacs p head up
def fr (m : LaceMsg) : List Word64 := (laceFrames m 1 false).map (·.payload)
def lm (typ : Nat) (body : List Nat) : LaceMsg := { typ := typ, src := 63, dst := 5, mseq := 127, hops := 61, body := body }

theorem test_LacePortsAndMessages_0 : (((lac 0 true)).portOk 1 = true)
  ∧ (((lac 0 true)).portSt 1 = 0)
  ∧ okNext (.laceSymbolLock 1) ((lac 0 true)) (fun t => decide (t.portSt 1 = 1) && decide ((t.port 1).at_ = ((lac 0 true)).now)) = true := by decide +kernel

theorem test_LacePortsAndMessages_1 : ((((lac 1 true).setPort 1 { at_ := 990000 })).portOk 1 = true)
  ∧ ((((lac 1 true).setPort 1 { at_ := 990000 })).portSt 1 = 1)
  ∧ ((((lac 1 true).setPort 1 { at_ := 990000 })).since ((((lac 1 true).setPort 1 { at_ := 990000 })).port 1).at_ ≤ 10000)
  ∧ okNext (.laceLanesAligned 1) (((lac 1 true).setPort 1 { at_ := 990000 })) (fun t => decide (t.portSt 1 = 2) && decide ((t.port 1).at_ = (((lac 1 true).setPort 1 { at_ := 990000 })).now) && decide ((t.port 1).hellos = 0) && decide ((t.port 1).delays = [])) = true := by decide +kernel

theorem test_LacePortsAndMessages_2 : ((((lac 1 true).setPort 1 { at_ := 990000 })).portOk 1 = true)
  ∧ ((((lac 1 true).setPort 1 { at_ := 990000 })).portSt 1 = 1)
  ∧ ((((lac 1 true).setPort 1 { at_ := 990000 })).passed ((((lac 1 true).setPort 1 { at_ := 990000 })).port 1).at_ 10000 = true)
  ∧ okNext (.laceTrainTimeout 1) (((lac 1 true).setPort 1 { at_ := 990000 })) (fun t => decide (t.portSt 1 = 0)) = true := by decide +kernel

theorem test_LacePortsAndMessages_3 : ((((lac 3 true).setPort 1 { at_ := 700000 })).portOk 1 = true)
  ∧ ((((lac 3 true).setPort 1 { at_ := 700000 })).portUp 1 = true)
  ∧ (false = true ∨ (((lac 3 true).setPort 1 { at_ := 700000 })).passed ((((lac 3 true).setPort 1 { at_ := 700000 })).port 1).at_ 300000 = true ∨ 16 ≤ (((lac 3 true).setPort 1 { at_ := 700000 })).crcRecent 1)
  ∧ okNext (.lacePortDown 1 false) (((lac 3 true).setPort 1 { at_ := 700000 })) (fun t => decide (t.portSt 1 = 0) && decide (rep t 0x70 ((((lac 3 true).setPort 1 { at_ := 700000 })).f F.LACE_PORTp_STATUS_NEIGHBOUR 1))) = true := by decide +kernel

theorem test_LacePortsAndMessages_3_lock : ((((lac 3 true).setPort 1 { at_ := 999999 })).portOk 1 = true)
  ∧ ((((lac 3 true).setPort 1 { at_ := 999999 })).portUp 1 = true)
  ∧ (true = true ∨ (((lac 3 true).setPort 1 { at_ := 999999 })).passed ((((lac 3 true).setPort 1 { at_ := 999999 })).port 1).at_ 300000 = true ∨ 16 ≤ (((lac 3 true).setPort 1 { at_ := 999999 })).crcRecent 1)
  ∧ okNext (.lacePortDown 1 true) (((lac 3 true).setPort 1 { at_ := 999999 })) (fun t => decide (t.portSt 1 = 0) && decide (rep t 0x70 ((((lac 3 true).setPort 1 { at_ := 999999 })).f F.LACE_PORTp_STATUS_NEIGHBOUR 1))) = true := by decide +kernel

theorem test_LacePortsAndMessages_4 : ((((lac 0 true).setf F.LACE_CTRL_WAKE_PEER 0 1)).portOk 1 = true)
  ∧ ((((lac 0 true).setf F.LACE_CTRL_WAKE_PEER 0 1)).portSt 1 = 0)
  ∧ ((((lac 0 true).setf F.LACE_CTRL_WAKE_PEER 0 1)).on F.LACE_CTRL_WAKE_PEER = true)
  ∧ ((((lac 0 true).setf F.LACE_CTRL_WAKE_PEER 0 1)).due 20 1 1000000 0 = true)
  ∧ okNext (.laceWakePatternSend 1) (((lac 0 true).setf F.LACE_CTRL_WAKE_PEER 0 1)) (fun t => decide (Tab.get 0 t.lace.wakes 1 = Tab.get 0 (((lac 0 true).setf F.LACE_CTRL_WAKE_PEER 0 1)).lace.wakes 1 + 1)) = true := by decide +kernel

theorem test_LacePortsAndMessages_5 : (((lac 1 true)).portOk 1 = true)
  ∧ (1 ≤ ((lac 1 true)).portSt 1)
  ∧ (((lac 1 true)).portSt 1 ≤ 3)
  ∧ okNext (.laceFrameCrcFail 1) ((lac 1 true)) (fun t => decide (t.f F.LACE_PORTp_COUNT_CRC_ERR 1 = (((lac 1 true)).f F.LACE_PORTp_COUNT_CRC_ERR 1 + 1) % 2 ^ F.LACE_PORTp_COUNT_CRC_ERR.len) && decide ((t.port 1).crc = (((lac 1 true)).now :: (((lac 1 true)).port 1).crc).take 16)) = true := by decide +kernel

theorem test_LacePortsAndMessages_6 : (((lac 2 true)).portOk 1 = true)
  ∧ (((lac 2 true)).portSt 1 = 2 ∨ ((lac 2 true)).portSt 1 = 3)
  ∧ okNext (.laceReservedType 1) ((lac 2 true)) (fun t => decide (t.f F.LACE_PORTp_COUNT_DROPPED 1 = (((lac 2 true)).f F.LACE_PORTp_COUNT_DROPPED 1 + 1) % 2 ^ F.LACE_PORTp_COUNT_DROPPED.len)) = true := by decide +kernel

theorem test_LacePortsAndMessages_7 : (((lac 3 true)).portOk 1 = true)
  ∧ (((lac 3 true)).portSt 1 = 2 ∨ ((lac 3 true)).portSt 1 = 3)
  ∧ (((lac 3 true)).due 21 1 100000 0 = true)
  ∧ okNext (.laceHelloSend 1) ((lac 3 true)) (fun t => decide (t.lace.out = laceFrames { typ := 1, src := ((lac 3 true)).site, mseq := ((lac 3 true)).lace.mseq, body := [((lac 3 true)).site * 2 ^ 26 + (if ((lac 3 true)).on F.LACE_ID_HEAD_EN then 2 ^ 25 else 0) + (if ((lac 3 true)).isMember then 2 ^ 24 else 0)] } 1 (1 == 1))) = true := by decide +kernel

theorem test_LacePortsAndMessages_8 : (((lac 2 true)).portOk 1 = true)
  ∧ (((lac 2 true)).portSt 1 = 2 ∨ ((lac 2 true)).portSt 1 = 3)
  ∧ (((lac 2 true)).due 22 1 10000 0 = true)
  ∧ okNext (.laceDelayReqSend 1 16) ((lac 2 true)) (fun t => decide ((t.port 1).t1 = some (((lac 2 true)).stamp16 16).toNat) && decide (t.lace.out.length = 1)) = true := by decide +kernel

theorem test_LacePortsAndMessages_9 : ((((lac 2 true).setPort 1 { hellos := 1, helloSite := 63 })).laceRx 1 ((fr (lm 1 [(63 * 2 ^ 26)]))) 1 = some ((lm 1 [(63 * 2 ^ 26)])))
  ∧ (2 = (if ((((lac 2 true).setPort 1 { hellos := 1, helloSite := 63 })).port 1).helloSite = ((lm 1 [(63 * 2 ^ 26)])).w 0 / 2 ^ 26 then ((((lac 2 true).setPort 1 { hellos := 1, helloSite := 63 })).port 1).hellos + 1 else 1))
  ∧ ((((lac 2 true).setPort 1 { hellos := 1, helloSite := 63 })).portSt 1 = 2)
  ∧ (2 < 3 ∨ ((((lac 2 true).setPort 1 { hellos := 1, helloSite := 63 })).port 1).delays.length < 16)
  ∧ okNext (.laceHello 1 ((fr (lm 1 [(63 * 2 ^ 26)])))) (((lac 2 true).setPort 1 { hellos := 1, helloSite := 63 })) (fun t => decide (t.portSt 1 = 2) && decide ((t.port 1).hellos = 2) && decide ((t.port 1).helloSite = ((lm 1 [(63 * 2 ^ 26)])).w 0 / 2 ^ 26)) = true := by decide +kernel

theorem test_LacePortsAndMessages_9_other : ((((lac 2 true).setPort 1 { hellos := 9, helloSite := 62, delays := List.replicate 16 0 })).laceRx 1 ((fr (lm 1 [(63 * 2 ^ 26)]))) 1 = some ((lm 1 [(63 * 2 ^ 26)])))
  ∧ (1 = (if ((((lac 2 true).setPort 1 { hellos := 9, helloSite := 62, delays := List.replicate 16 0 })).port 1).helloSite = ((lm 1 [(63 * 2 ^ 26)])).w 0 / 2 ^ 26 then ((((lac 2 true).setPort 1 { hellos := 9, helloSite := 62, delays := List.replicate 16 0 })).port 1).hellos + 1 else 1))
  ∧ ((((lac 2 true).setPort 1 { hellos := 9, helloSite := 62, delays := List.replicate 16 0 })).portSt 1 = 2)
  ∧ (1 < 3 ∨ ((((lac 2 true).setPort 1 { hellos := 9, helloSite := 62, delays := List.replicate 16 0 })).port 1).delays.length < 16)
  ∧ okNext (.laceHello 1 ((fr (lm 1 [(63 * 2 ^ 26)])))) (((lac 2 true).setPort 1 { hellos := 9, helloSite := 62, delays := List.replicate 16 0 })) (fun t => decide (t.portSt 1 = 2) && decide ((t.port 1).hellos = 1) && decide ((t.port 1).helloSite = ((lm 1 [(63 * 2 ^ 26)])).w 0 / 2 ^ 26)) = true := by decide +kernel

theorem test_LacePortsAndMessages_10 : ((((lac 2 true).setPort 1 { hellos := 2, helloSite := 63, delays := List.replicate 16 0 })).laceRx 1 ((fr (lm 1 [(63 * 2 ^ 26)]))) 1 = some ((lm 1 [(63 * 2 ^ 26)])))
  ∧ (3 = (if ((((lac 2 true).setPort 1 { hellos := 2, helloSite := 63, delays := List.replicate 16 0 })).port 1).helloSite = ((lm 1 [(63 * 2 ^ 26)])).w 0 / 2 ^ 26 then ((((lac 2 true).setPort 1 { hellos := 2, helloSite := 63, delays := List.replicate 16 0 })).port 1).hellos + 1 else 1))
  ∧ ((((lac 2 true).setPort 1 { hellos := 2, helloSite := 63, delays := List.replicate 16 0 })).portSt 1 = 2)
  ∧ (3 ≤ 3)
  ∧ (16 ≤ ((((lac 2 true).setPort 1 { hellos := 2, helloSite := 63, delays := List.replicate 16 0 })).port 1).delays.length)
  ∧ okNext (.laceHello 1 ((fr (lm 1 [(63 * 2 ^ 26)])))) (((lac 2 true).setPort 1 { hellos := 2, helloSite := 63, delays := List.replicate 16 0 })) (fun t => decide (t.portSt 1 = 3) && decide (t.f F.LACE_PORTp_STATUS_NEIGHBOUR 1 = ((lm 1 [(63 * 2 ^ 26)])).w 0 / 2 ^ 26 % 64)) = true := by decide +kernel

theorem test_LacePortsAndMessages_11 : ((((lac 3 true).setPort 1 { at_ := 1 })).laceRx 1 ((fr (lm 1 [(63 * 2 ^ 26)]))) 1 = some ((lm 1 [(63 * 2 ^ 26)])))
  ∧ (1 = (if ((((lac 3 true).setPort 1 { at_ := 1 })).port 1).helloSite = ((lm 1 [(63 * 2 ^ 26)])).w 0 / 2 ^ 26 then ((((lac 3 true).setPort 1 { at_ := 1 })).port 1).hellos + 1 else 1))
  ∧ ((((lac 3 true).setPort 1 { at_ := 1 })).portSt 1 = 3)
  ∧ okNext (.laceHello 1 ((fr (lm 1 [(63 * 2 ^ 26)])))) (((lac 3 true).setPort 1 { at_ := 1 })) (fun t => decide (t.portSt 1 = 3) && decide ((t.port 1).at_ = (((lac 3 true).setPort 1 { at_ := 1 })).now)) = true := by decide +kernel

theorem test_LacePortsAndMessages_12 : (((lac 2 true)).laceRx 1 ((fr (lm 2 [0]))) 2 = some ((lm 2 [0])))
  ∧ okNext (.laceDelayReq 1 ((fr (lm 2 [0]))) 77) ((lac 2 true)) (fun t => decide (t.lace.out = laceFrames { typ := 3, src := ((lac 2 true)).site, mseq := ((lac 2 true)).lace.mseq, body := [77] } 1 (1 == 1))) = true := by decide +kernel

theorem test_LacePortsAndMessages_13 : ((((lac 2 true).setPort 1 { t1 := some 15999000 })).laceRx 1 ((fr (lm 3 [100]))) 3 = some ((lm 3 [100])))
  ∧ (((((lac 2 true).setPort 1 { t1 := some 15999000 })).port 1).t1 = some 15999000)
  ∧ okNext (.laceDelayRsp 1 ((fr (lm 3 [100]))) 10) (((lac 2 true).setPort 1 { t1 := some 15999000 })) (fun t => decide ((t.port 1).t1 = none) && decide ((t.port 1).delays = ((((((lac 2 true).setPort 1 { t1 := some 15999000 })).stamp16 10 - 15999000) - ((lm 3 [100])).w 0) :: ((((lac 2 true).setPort 1 { t1 := some 15999000 })).port 1).delays).take 16)) = true := by decide +kernel

theorem test_LacePortsAndMessages_14 : (parseMsg ((fr { lm 7 [9] with dst := 4, src := 5 })) = some (({ lm 7 [9] with dst := 4, src := 5 }), false))
  ∧ (((lac 3 true)).portOk 1 = true)
  ∧ (((lac 3 true)).portUp 1 = true)
  ∧ (msgLength ({ lm 7 [9] with dst := 4, src := 5 }) = some ((fr { lm 7 [9] with dst := 4, src := 5 })).length)
  ∧ (neighbourOnly ({ lm 7 [9] with dst := 4, src := 5 }).typ = false)
  ∧ (({ lm 7 [9] with dst := 4, src := 5 }).bcast = true ∨ ({ lm 7 [9] with dst := 4, src := 5 }).dst ≠ ((lac 3 true)).site)
  ∧ (({ lm 7 [9] with dst := 4, src := 5 }).src = ((lac 3 true)).site ∨ 63 ≤ ({ lm 7 [9] with dst := 4, src := 5 }).hops + 1)
  ∧ okNext (.laceMessageForward 1 ((fr { lm 7 [9] with dst := 4, src := 5 })) 3) ((lac 3 true)) (fun t => decide (t.lace.out = [])) = true := by decide +kernel

theorem test_LacePortsAndMessages_14_hops : (parseMsg ((fr { lm 7 [9] with dst := 4, hops := 62 })) = some (({ lm 7 [9] with dst := 4, hops := 62 }), false))
  ∧ (((lac 3 true)).portOk 1 = true)
  ∧ (((lac 3 true)).portUp 1 = true)
  ∧ (msgLength ({ lm 7 [9] with dst := 4, hops := 62 }) = some ((fr { lm 7 [9] with dst := 4, hops := 62 })).length)
  ∧ (neighbourOnly ({ lm 7 [9] with dst := 4, hops := 62 }).typ = false)
  ∧ (({ lm 7 [9] with dst := 4, hops := 62 }).bcast = true ∨ ({ lm 7 [9] with dst := 4, hops := 62 }).dst ≠ ((lac 3 true)).site)
  ∧ (({ lm 7 [9] with dst := 4, hops := 62 }).src = ((lac 3 true)).site ∨ 63 ≤ ({ lm 7 [9] with dst := 4, hops := 62 }).hops + 1)
  ∧ okNext (.laceMessageForward 1 ((fr { lm 7 [9] with dst := 4, hops := 62 })) 3) ((lac 3 true)) (fun t => decide (t.lace.out = [])) = true := by decide +kernel

theorem test_LacePortsAndMessages_15 : (parseMsg ((fr { lm 7 [9] with dst := 4 })) = some (({ lm 7 [9] with dst := 4 }), false))
  ∧ (((lac 3 true)).portOk 1 = true)
  ∧ (((lac 3 true)).portUp 1 = true)
  ∧ (msgLength ({ lm 7 [9] with dst := 4 }) = some ((fr { lm 7 [9] with dst := 4 })).length)
  ∧ (neighbourOnly ({ lm 7 [9] with dst := 4 }).typ = false)
  ∧ (({ lm 7 [9] with dst := 4 }).bcast = true ∨ ({ lm 7 [9] with dst := 4 }).dst ≠ ((lac 3 true)).site)
  ∧ (({ lm 7 [9] with dst := 4 }).src ≠ ((lac 3 true)).site)
  ∧ (({ lm 7 [9] with dst := 4 }).hops + 1 < 63)
  ∧ (({ lm 7 [9] with dst := 4 }).typ ≠ 4)
  ∧ okNext (.laceMessageForward 1 ((fr { lm 7 [9] with dst := 4 })) 3) ((lac 3 true)) (fun t => decide (t.lace.out = laceFrames { ({ lm 7 [9] with dst := 4 }) with hops := ({ lm 7 [9] with dst := 4 }).hops + 1 } (if ((lac 3 true)).portUp (1 - 1) then 1 - 1 else 1) false)) = true := by decide +kernel

theorem test_LacePortsAndMessages_16 : (parseMsg ((fr { lm 4 [1, 2, 3] with bcast := true })) = some (({ lm 4 [1, 2, 3] with bcast := true }), false))
  ∧ (((lac 3 true)).portOk 1 = true)
  ∧ (((lac 3 true)).portUp 1 = true)
  ∧ (msgLength ({ lm 4 [1, 2, 3] with bcast := true }) = some ((fr { lm 4 [1, 2, 3] with bcast := true })).length)
  ∧ (neighbourOnly ({ lm 4 [1, 2, 3] with bcast := true }).typ = false)
  ∧ (({ lm 4 [1, 2, 3] with bcast := true }).bcast = true ∨ ({ lm 4 [1, 2, 3] with bcast := true }).dst ≠ ((lac 3 true)).site)
  ∧ (({ lm 4 [1, 2, 3] with bcast := true }).src ≠ ((lac 3 true)).site)
  ∧ (({ lm 4 [1, 2, 3] with bcast := true }).hops + 1 < 63)
  ∧ (({ lm 4 [1, 2, 3] with bcast := true }).typ = 4)
  ∧ okNext (.laceMessageForward 1 ((fr { lm 4 [1, 2, 3] with bcast := true })) 3) ((lac 3 true)) (fun t => decide (t.lace.out = laceFrames { ({ lm 4 [1, 2, 3] with bcast := true }) with hops := ({ lm 4 [1, 2, 3] with bcast := true }).hops + 1, body := [({ lm 4 [1, 2, 3] with bcast := true }).w 0, ({ lm 4 [1, 2, 3] with bcast := true }).w 1, (({ lm 4 [1, 2, 3] with bcast := true }).w 2 + ((lac 3 true)).f F.LACE_PORTp_STATUS_DELAY 1 + 3) % 2 ^ 32] } (if ((lac 3 true)).portUp (1 - 1) then 1 - 1 else 1) false)) = true := by decide +kernel

theorem test_LaceTimeAndMembership_0 : (({ lac 3 true with lace := { (lac 3 true).lace with timeOn := true } }).portsOn = true)
  ∧ (({ lac 3 true with lace := { (lac 3 true).lace with timeOn := true } }).isHead = true)
  ∧ (({ lac 3 true with lace := { (lac 3 true).lace with timeOn := true } }).lace.timeOn = true)
  ∧ (({ lac 3 true with lace := { (lac 3 true).lace with timeOn := true } }).due 23 0 10000 0 = true)
  ∧ (({ lac 3 true with lace := { (lac 3 true).lace with timeOn := true } }).portUp 0 = true ∨ ({ lac 3 true with lace := { (lac 3 true).lace with timeOn := true } }).portUp 1 = true)
  ∧ okNext .laceTimeSend ({ lac 3 true with lace := { (lac 3 true).lace with timeOn := true } }) (fun t => decide (t.lace.out.length = 6) && decide (t.lace.mseq = (({ lac 3 true with lace := { (lac 3 true).lace with timeOn := true } }).lace.mseq + 1) % 128)) = true := by decide +kernel

theorem test_LaceTimeAndMembership_1 : (((lac 3 false)).isHead = false)
  ∧ (((lac 3 false)).laceRx 1 ((fr { lm 4 [0, 1000000, 0] with bcast := true })) 4 = some ({ lm 4 [0, 1000000, 0] with bcast := true }))
  ∧ (((BitVec.ofNat 64 (lac 3 false).now.toNat - BitVec.ofNat 64 (({ lm 4 [0, 1000000, 0] with bcast := true } : LaceMsg).w 0 * 2 ^ 32 + ({ lm 4 [0, 1000000, 0] with bcast := true } : LaceMsg).w 1)).toInt * 16 - 0 - ({ lm 4 [0, 1000000, 0] with bcast := true } : LaceMsg).w 2) = (BitVec.ofNat 64 ((lac 3 false)).now.toNat - BitVec.ofNat 64 (({ lm 4 [0, 1000000, 0] with bcast := true }).w 0 * 2 ^ 32 + ({ lm 4 [0, 1000000, 0] with bcast := true }).w 1)).toInt * 16 - 0 - ({ lm 4 [0, 1000000, 0] with bcast := true }).w 2)
  ∧ (((lac 3 false)).f F.TIME_STEP_STATUS ≠ 1)
  ∧ okNext (.laceTime 1 ((fr { lm 4 [0, 1000000, 0] with bcast := true })) 0) ((lac 3 false)) (fun t => decide (t.fi F.LACE_TIME_OFFS = satSigned F.LACE_TIME_OFFS.len ((BitVec.ofNat 64 (lac 3 false).now.toNat - BitVec.ofNat 64 (({ lm 4 [0, 1000000, 0] with bcast := true } : LaceMsg).w 0 * 2 ^ 32 + ({ lm 4 [0, 1000000, 0] with bcast := true } : LaceMsg).w 1)).toInt * 16 - 0 - ({ lm 4 [0, 1000000, 0] with bcast := true } : LaceMsg).w 2)) && decide (t.lace.headSite = some ({ lm 4 [0, 1000000, 0] with bcast := true }).src) && decide (t.lace.timeAt = ((lac 3 false)).now) && decide (t.on F.LACE_TIME_NO_TIME = false) && decide ((((BitVec.ofNat 64 (lac 3 false).now.toNat - BitVec.ofNat 64 (({ lm 4 [0, 1000000, 0] with bcast := true } : LaceMsg).w 0 * 2 ^ 32 + ({ lm 4 [0, 1000000, 0] with bcast := true } : LaceMsg).w 1)).toInt * 16 - 0 - ({ lm 4 [0, 1000000, 0] with bcast := true } : LaceMsg).w 2) ≤ -16000 → t.f F.TIME_STEP_STATUS = (if ((lac 3 false)).on F.TIME_STATUS_ON_OSC then 3 else 1))) && decide ((4 * max 1 (((lac 3 false)).f F.LACE_ALIGN_ALIGN) < ((BitVec.ofNat 64 (lac 3 false).now.toNat - BitVec.ofNat 64 (({ lm 4 [0, 1000000, 0] with bcast := true } : LaceMsg).w 0 * 2 ^ 32 + ({ lm 4 [0, 1000000, 0] with bcast := true } : LaceMsg).w 1)).toInt * 16 - 0 - ({ lm 4 [0, 1000000, 0] with bcast := true } : LaceMsg).w 2).natAbs → t.on F.LACE_TIME_ALIGNED = false))) = true := by decide +kernel

theorem test_LaceTimeAndMembership_1_step : (((lac 3 false)).isHead = false)
  ∧ (((lac 3 false)).laceRx 1 ((fr { lm 4 [0, 1001000, 0] with bcast := true })) 4 = some ({ lm 4 [0, 1001000, 0] with bcast := true }))
  ∧ (((BitVec.ofNat 64 (lac 3 false).now.toNat - BitVec.ofNat 64 (({ lm 4 [0, 1001000, 0] with bcast := true } : LaceMsg).w 0 * 2 ^ 32 + ({ lm 4 [0, 1001000, 0] with bcast := true } : LaceMsg).w 1)).toInt * 16 - 0 - ({ lm 4 [0, 1001000, 0] with bcast := true } : LaceMsg).w 2) = (BitVec.ofNat 64 ((lac 3 false)).now.toNat - BitVec.ofNat 64 (({ lm 4 [0, 1001000, 0] with bcast := true }).w 0 * 2 ^ 32 + ({ lm 4 [0, 1001000, 0] with bcast := true }).w 1)).toInt * 16 - 0 - ({ lm 4 [0, 1001000, 0] with bcast := true }).w 2)
  ∧ (((lac 3 false)).f F.TIME_STEP_STATUS ≠ 1)
  ∧ okNext (.laceTime 1 ((fr { lm 4 [0, 1001000, 0] with bcast := true })) 0) ((lac 3 false)) (fun t => decide (t.fi F.LACE_TIME_OFFS = satSigned F.LACE_TIME_OFFS.len ((BitVec.ofNat 64 (lac 3 false).now.toNat - BitVec.ofNat 64 (({ lm 4 [0, 1001000, 0] with bcast := true } : LaceMsg).w 0 * 2 ^ 32 + ({ lm 4 [0, 1001000, 0] with bcast := true } : LaceMsg).w 1)).toInt * 16 - 0 - ({ lm 4 [0, 1001000, 0] with bcast := true } : LaceMsg).w 2)) && decide (t.lace.headSite = some ({ lm 4 [0, 1001000, 0] with bcast := true }).src) && decide (t.lace.timeAt = ((lac 3 false)).now) && decide (t.on F.LACE_TIME_NO_TIME = false) && decide ((((BitVec.ofNat 64 (lac 3 false).now.toNat - BitVec.ofNat 64 (({ lm 4 [0, 1001000, 0] with bcast := true } : LaceMsg).w 0 * 2 ^ 32 + ({ lm 4 [0, 1001000, 0] with bcast := true } : LaceMsg).w 1)).toInt * 16 - 0 - ({ lm 4 [0, 1001000, 0] with bcast := true } : LaceMsg).w 2) ≤ -16000 → t.f F.TIME_STEP_STATUS = (if ((lac 3 false)).on F.TIME_STATUS_ON_OSC then 3 else 1))) && decide ((4 * max 1 (((lac 3 false)).f F.LACE_ALIGN_ALIGN) < ((BitVec.ofNat 64 (lac 3 false).now.toNat - BitVec.ofNat 64 (({ lm 4 [0, 1001000, 0] with bcast := true } : LaceMsg).w 0 * 2 ^ 32 + ({ lm 4 [0, 1001000, 0] with bcast := true } : LaceMsg).w 1)).toInt * 16 - 0 - ({ lm 4 [0, 1001000, 0] with bcast := true } : LaceMsg).w 2).natAbs → t.on F.LACE_TIME_ALIGNED = false))) = true := by decide +kernel

theorem test_LaceTimeAndMembership_1_late : (((lac 3 false)).isHead = false)
  ∧ (((lac 3 false)).laceRx 1 ((fr { lm 4 [0, 999990, 0] with bcast := true })) 4 = some ({ lm 4 [0, 999990, 0] with bcast := true }))
  ∧ (((BitVec.ofNat 64 (lac 3 false).now.toNat - BitVec.ofNat 64 (({ lm 4 [0, 999990, 0] with bcast := true } : LaceMsg).w 0 * 2 ^ 32 + ({ lm 4 [0, 999990, 0] with bcast := true } : LaceMsg).w 1)).toInt * 16 - 0 - ({ lm 4 [0, 999990, 0] with bcast := true } : LaceMsg).w 2) = (BitVec.ofNat 64 ((lac 3 false)).now.toNat - BitVec.ofNat 64 (({ lm 4 [0, 999990, 0] with bcast := true }).w 0 * 2 ^ 32 + ({ lm 4 [0, 999990, 0] with bcast := true }).w 1)).toInt * 16 - 0 - ({ lm 4 [0, 999990, 0] with bcast := true }).w 2)
  ∧ (((lac 3 false)).f F.TIME_STEP_STATUS ≠ 1)
  ∧ okNext (.laceTime 1 ((fr { lm 4 [0, 999990, 0] with bcast := true })) 0) ((lac 3 false)) (fun t => decide (t.fi F.LACE_TIME_OFFS = satSigned F.LACE_TIME_OFFS.len ((BitVec.ofNat 64 (lac 3 false).now.toNat - BitVec.ofNat 64 (({ lm 4 [0, 999990, 0] with bcast := true } : LaceMsg).w 0 * 2 ^ 32 + ({ lm 4 [0, 999990, 0] with bcast := true } : LaceMsg).w 1)).toInt * 16 - 0 - ({ lm 4 [0, 999990, 0] with bcast := true } : LaceMsg).w 2)) && decide (t.lace.headSite = some ({ lm 4 [0, 999990, 0] with bcast := true }).src) && decide (t.lace.timeAt = ((lac 3 false)).now) && decide (t.on F.LACE_TIME_NO_TIME = false) && decide ((((BitVec.ofNat 64 (lac 3 false).now.toNat - BitVec.ofNat 64 (({ lm 4 [0, 999990, 0] with bcast := true } : LaceMsg).w 0 * 2 ^ 32 + ({ lm 4 [0, 999990, 0] with bcast := true } : LaceMsg).w 1)).toInt * 16 - 0 - ({ lm 4 [0, 999990, 0] with bcast := true } : LaceMsg).w 2) ≤ -16000 → t.f F.TIME_STEP_STATUS = (if ((lac 3 false)).on F.TIME_STATUS_ON_OSC then 3 else 1))) && decide ((4 * max 1 (((lac 3 false)).f F.LACE_ALIGN_ALIGN) < ((BitVec.ofNat 64 (lac 3 false).now.toNat - BitVec.ofNat 64 (({ lm 4 [0, 999990, 0] with bcast := true } : LaceMsg).w 0 * 2 ^ 32 + ({ lm 4 [0, 999990, 0] with bcast := true } : LaceMsg).w 1)).toInt * 16 - 0 - ({ lm 4 [0, 999990, 0] with bcast := true } : LaceMsg).w 2).natAbs → t.on F.LACE_TIME_ALIGNED = false))) = true := by decide +kernel

theorem test_LaceTimeAndMembership_2 : ((((lac 3 false).setf F.TIME_STEP_STATUS 0 1)).isHead = false)
  ∧ ((((lac 3 false).setf F.TIME_STEP_STATUS 0 1)).laceRx 1 ((fr { lm 4 [0, 999990, 0] with bcast := true })) 4 = some ({ lm 4 [0, 999990, 0] with bcast := true }))
  ∧ (((BitVec.ofNat 64 ((lac 3 false).setf F.TIME_STEP_STATUS 0 1).now.toNat - BitVec.ofNat 64 (({ lm 4 [0, 999990, 0] with bcast := true } : LaceMsg).w 0 * 2 ^ 32 + ({ lm 4 [0, 999990, 0] with bcast := true } : LaceMsg).w 1)).toInt * 16 - 0 - ({ lm 4 [0, 999990, 0] with bcast := true } : LaceMsg).w 2) = (BitVec.ofNat 64 (((lac 3 false).setf F.TIME_STEP_STATUS 0 1)).now.toNat - BitVec.ofNat 64 (({ lm 4 [0, 999990, 0] with bcast := true }).w 0 * 2 ^ 32 + ({ lm 4 [0, 999990, 0] with bcast := true }).w 1)).toInt * 16 - 0 - ({ lm 4 [0, 999990, 0] with bcast := true }).w 2)
  ∧ ((((lac 3 false).setf F.TIME_STEP_STATUS 0 1)).f F.TIME_STEP_STATUS = 1)
  ∧ okNext (.laceTime 1 ((fr { lm 4 [0, 999990, 0] with bcast := true })) 0) (((lac 3 false).setf F.TIME_STEP_STATUS 0 1)) (fun t => decide (t.f F.LACE_TIME_OFFS = (((lac 3 false).setf F.TIME_STEP_STATUS 0 1)).f F.LACE_TIME_OFFS) && decide (t.lace.timeAt = (((lac 3 false).setf F.TIME_STEP_STATUS 0 1)).now) && decide (t.on F.LACE_TIME_NO_TIME = false) && decide (t.rd R.TIME_TRIM = (((lac 3 false).setf F.TIME_STEP_STATUS 0 1)).rd R.TIME_TRIM)) = true := by decide +kernel

theorem test_LaceTimeAndMembership_3 : ((((lac 3 false).setf F.LACE_TIME_NO_TIME 0 0)).laceOn = true)
  ∧ ((((lac 3 false).setf F.LACE_TIME_NO_TIME 0 0)).isHead = false)
  ∧ ((((lac 3 false).setf F.LACE_TIME_NO_TIME 0 0)).on F.LACE_TIME_NO_TIME = false)
  ∧ ((((lac 3 false).setf F.LACE_TIME_NO_TIME 0 0)).passed (((lac 3 false).setf F.LACE_TIME_NO_TIME 0 0)).lace.timeAt 1000000 = true)
  ∧ okNext .laceTimeTimeout (((lac 3 false).setf F.LACE_TIME_NO_TIME 0 0)) (fun t => decide (t.on F.LACE_TIME_NO_TIME = true) && decide (t.on F.LACE_TIME_ALIGNED = false) && decide (t.lace.alignRun = 0)) = true := by decide +kernel

theorem test_LaceTimeAndMembership_4 : (((lac 3 true)).laceOn = true)
  ∧ (((lac 3 true)).isHead = true)
  ∧ (((lac 3 true)).lace.timeOn = false)
  ∧ (((lac 3 true)).passed ((lac 3 true)).lace.startAt 1000000 = true)
  ∧ okNext .laceHeadStartHoldEnd ((lac 3 true)) (fun t => decide (t.lace.timeOn = true)) = true := by decide +kernel

theorem test_LaceTimeAndMembership_5 : (({ lac 3 false with lace := { (lac 3 false).lace with measured := true } }).portsOn = true)
  ∧ (({ lac 3 false with lace := { (lac 3 false).lace with measured := true } }).isHead = false)
  ∧ (({ lac 3 false with lace := { (lac 3 false).lace with measured := true } }).isMember = false)
  ∧ (({ lac 3 false with lace := { (lac 3 false).lace with measured := true } }).portUp 0 = true ∨ ({ lac 3 false with lace := { (lac 3 false).lace with measured := true } }).portUp 1 = true)
  ∧ (({ lac 3 false with lace := { (lac 3 false).lace with measured := true } }).lace.measured = true)
  ∧ (({ lac 3 false with lace := { (lac 3 false).lace with measured := true } }).due 24 0 100000 0 = true)
  ∧ okNext .laceJoinSend ({ lac 3 false with lace := { (lac 3 false).lace with measured := true } }) (fun t => decide (t.lace.joinAt = some (({ lac 3 false with lace := { (lac 3 false).lace with measured := true } }).lace.joinAt.getD ({ lac 3 false with lace := { (lac 3 false).lace with measured := true } }).now)) && decide (t.lace.out.length = 6)) = true := by decide +kernel

theorem test_LaceTimeAndMembership_6 : (((lac 3 true)).isHead = true)
  ∧ (((lac 3 true)).laceRx 1 ((fr (lm 5 [63, 0, 5]))) 5 = some ((lm 5 [63, 0, 5])))
  ∧ okNext (.laceJoin 1 ((fr (lm 5 [63, 0, 5])))) ((lac 3 true)) (fun t => decide (t.lace.joinTime = max ((lac 3 true)).lace.joinTime (((lm 5 [63, 0, 5])).w 1 * 2 ^ 32 + ((lm 5 [63, 0, 5])).w 2)) && decide (t.lace.members = ((lac 3 true)).lace.members) && decide ((Tab.get false ((lac 3 true)).flt.fencedPeers (((lm 5 [63, 0, 5])).w 0 % 64) = false → ((lac 3 true)).lace.members.testBit (((lm 5 [63, 0, 5])).w 0 % 64) = false → t.lace.joins.testBit (((lm 5 [63, 0, 5])).w 0 % 64) = true)) && decide ((Tab.get false ((lac 3 true)).flt.fencedPeers (((lm 5 [63, 0, 5])).w 0 % 64) = true → t.lace.joins = ((lac 3 true)).lace.joins))) = true := by decide +kernel

theorem test_LaceTimeAndMembership_6_fenced : (({ lac 3 true with flt := { (lac 3 true).flt with fencedPeers := [(63, true)] } }).isHead = true)
  ∧ (({ lac 3 true with flt := { (lac 3 true).flt with fencedPeers := [(63, true)] } }).laceRx 1 ((fr (lm 5 [63, 0, 5]))) 5 = some ((lm 5 [63, 0, 5])))
  ∧ okNext (.laceJoin 1 ((fr (lm 5 [63, 0, 5])))) ({ lac 3 true with flt := { (lac 3 true).flt with fencedPeers := [(63, true)] } }) (fun t => decide (t.lace.joinTime = max ({ lac 3 true with flt := { (lac 3 true).flt with fencedPeers := [(63, true)] } }).lace.joinTime (((lm 5 [63, 0, 5])).w 1 * 2 ^ 32 + ((lm 5 [63, 0, 5])).w 2)) && decide (t.lace.members = ({ lac 3 true with flt := { (lac 3 true).flt with fencedPeers := [(63, true)] } }).lace.members) && decide ((Tab.get false ({ lac 3 true with flt := { (lac 3 true).flt with fencedPeers := [(63, true)] } }).flt.fencedPeers (((lm 5 [63, 0, 5])).w 0 % 64) = false → ({ lac 3 true with flt := { (lac 3 true).flt with fencedPeers := [(63, true)] } }).lace.members.testBit (((lm 5 [63, 0, 5])).w 0 % 64) = false → t.lace.joins.testBit (((lm 5 [63, 0, 5])).w 0 % 64) = true)) && decide ((Tab.get false ({ lac 3 true with flt := { (lac 3 true).flt with fencedPeers := [(63, true)] } }).flt.fencedPeers (((lm 5 [63, 0, 5])).w 0 % 64) = true → t.lace.joins = ({ lac 3 true with flt := { (lac 3 true).flt with fencedPeers := [(63, true)] } }).lace.joins))) = true := by decide +kernel

theorem test_LaceTimeAndMembership_7 : (((lac 3 true)).portsOn = true)
  ∧ (((lac 3 true)).isHead = true)
  ∧ (((lac 3 true)).due 25 0 100000 0 = true)
  ∧ okNext .laceMembersSend ((lac 3 true)) (fun t => decide (t.memberMap = setBit t.lace.members ((lac 3 true)).site true % 2 ^ 64) && decide (t.isMember = true) && decide (t.lace.joins = 0) && decide (∀ k : Nat, k < 64 → t.lace.members.testBit k = (((lac 3 true)).lace.members.testBit k || (((lac 3 true)).lace.joins.testBit k && k != ((lac 3 true)).site)))) = true := by decide +kernel

theorem test_LaceTimeAndMembership_7_joins : (({ lac 3 true with lace := { (lac 3 true).lace with joins := 2 ^ 63 + 9 } }).portsOn = true)
  ∧ (({ lac 3 true with lace := { (lac 3 true).lace with joins := 2 ^ 63 + 9 } }).isHead = true)
  ∧ (({ lac 3 true with lace := { (lac 3 true).lace with joins := 2 ^ 63 + 9 } }).due 25 0 100000 0 = true)
  ∧ okNext .laceMembersSend ({ lac 3 true with lace := { (lac 3 true).lace with joins := 2 ^ 63 + 9 } }) (fun t => decide (t.memberMap = setBit t.lace.members ({ lac 3 true with lace := { (lac 3 true).lace with joins := 2 ^ 63 + 9 } }).site true % 2 ^ 64) && decide (t.isMember = true) && decide (t.lace.joins = 0) && decide (∀ k : Nat, k < 64 → t.lace.members.testBit k = (({ lac 3 true with lace := { (lac 3 true).lace with joins := 2 ^ 63 + 9 } }).lace.members.testBit k || (({ lac 3 true with lace := { (lac 3 true).lace with joins := 2 ^ 63 + 9 } }).lace.joins.testBit k && k != ({ lac 3 true with lace := { (lac 3 true).lace with joins := 2 ^ 63 + 9 } }).site)))) = true := by decide +kernel

theorem test_LaceTimeAndMembership_8 : (((lac 3 false)).isHead = false)
  ∧ (((lac 3 false)).laceRx 1 ((fr { lm 6 [32, 0] with bcast := true })) 6 = some ({ lm 6 [32, 0] with bcast := true }))
  ∧ okNext (.laceMembers 1 ((fr { lm 6 [32, 0] with bcast := true }))) ((lac 3 false)) (fun t => decide (t.isMember = (({ lm 6 [32, 0] with bcast := true }).w 1 * 2 ^ 32 + ({ lm 6 [32, 0] with bcast := true }).w 0).testBit ((lac 3 false)).site) && decide (t.lace.membersAt = ((lac 3 false)).now) && decide (t.lace.headLost = false) && decide (t.lace.headSite = some ({ lm 6 [32, 0] with bcast := true }).src) && decide ((t.isMember = true → t.lace.joinAt = none))) = true := by decide +kernel

def memb63 : State := { lac 3 true with lace := { (lac 3 true).lace with members := 2 ^ 63, relays := [{ slot := 3, site := 63 }] } }

theorem test_LaceTimeAndMembership_9 : (memb63.laceOn = true)
  ∧ (memb63.isHead = true)
  ∧ (63 ≠ memb63.site)
  ∧ (memb63.lace.members.testBit 63 = true)
  ∧ (memb63.passed (Tab.get 0 memb63.lace.reportAt 63) 300000 = true)
  ∧ okNext (.laceMemberTimeout 63) memb63 (fun t => decide (t.lace.members.testBit 63 = false) && decide (t.lace.relays = memb63.lace.relays.filter (fun r => !(r.site == 63)))) = true := by decide +kernel

theorem test_LaceTimeAndMembership_10 : ((((lac 3 false).setf F.LACE_ID_MEMBER 0 1)).laceOn = true)
  ∧ ((((lac 3 false).setf F.LACE_ID_MEMBER 0 1)).isHead = false)
  ∧ ((((lac 3 false).setf F.LACE_ID_MEMBER 0 1)).isMember = true)
  ∧ ((((lac 3 false).setf F.LACE_ID_MEMBER 0 1)).passed (((lac 3 false).setf F.LACE_ID_MEMBER 0 1)).lace.membersAt 1000000 = true)
  ∧ okNext .laceHeadLost (((lac 3 false).setf F.LACE_ID_MEMBER 0 1)) (fun t => decide (t.lace.headLost = true) && decide (t.on F.LACE_SHARE_NO_SHARE = true) && decide (t.isMember = false)) = true := by decide +kernel

theorem test_LaceTimeAndMembership_11 : (({ lac 3 false with lace := { (lac 3 false).lace with joinAt := some 0 } }).lace.joinAt = some ((0 : Word64)))
  ∧ (({ lac 3 false with lace := { (lac 3 false).lace with joinAt := some 0 } }).laceOn = true)
  ∧ (({ lac 3 false with lace := { (lac 3 false).lace with joinAt := some 0 } }).isMember = false)
  ∧ (({ lac 3 false with lace := { (lac 3 false).lace with joinAt := some 0 } }).portUp 0 = true ∨ ({ lac 3 false with lace := { (lac 3 false).lace with joinAt := some 0 } }).portUp 1 = true)
  ∧ (({ lac 3 false with lace := { (lac 3 false).lace with joinAt := some 0 } }).on F.LACE_ID_SITE_CONFLICT = false)
  ∧ (({ lac 3 false with lace := { (lac 3 false).lace with joinAt := some 0 } }).passed ((0 : Word64)) 1000000 = true)
  ∧ okNext .laceSiteConflict ({ lac 3 false with lace := { (lac 3 false).lace with joinAt := some 0 } }) (fun t => decide (t.on F.LACE_ID_SITE_CONFLICT = true) && decide (rep t 0x71 ({ lac 3 false with lace := { (lac 3 false).lace with joinAt := some 0 } }).site)) = true := by decide +kernel

theorem test_LaceBudgetAndRelays_0 : (((lac 3 true)).laceOn = true)
  ∧ (((lac 3 true)).isHead = true ∨ ((lac 3 true)).isMember = true)
  ∧ (((lac 3 true)).due 26 0 100000 0 = true)
  ∧ okNext .laceReportSend ((lac 3 true)) (fun t => decide (t.f F.LACE_DEBT_DEBT = ((lac 3 true)).laceDebt) && decide (t.f F.LACE_REPORT_USED = ((lac 3 true)).laceUsed) && decide (t.f F.LACE_REPORT_WANT = min (((lac 3 true)).f F.LACE_LIMIT_MAXW) (((lac 3 true)).laceUsed + ((lac 3 true)).laceStall)) && decide (t.lace.stallSum = 0) && decide (t.lace.stallNum = 0)) = true := by decide +kernel

theorem test_LaceBudgetAndRelays_1 : (((lac 3 true)).isHead = true)
  ∧ (((lac 3 true)).laceRx 1 ((fr (lm 7 [0xFFFF0001]))) 7 = some ((lm 7 [0xFFFF0001])))
  ∧ okNext (.laceReport 1 ((fr (lm 7 [0xFFFF0001])))) ((lac 3 true)) (fun t => decide (t.f F.LACE_SITEs_RPT_WANT ((lm 7 [0xFFFF0001])).src = ((lm 7 [0xFFFF0001])).w 0 / 65536 % 65536) && decide (t.f F.LACE_SITEs_RPT_USED ((lm 7 [0xFFFF0001])).src = ((lm 7 [0xFFFF0001])).w 0 % 65536) && decide (Tab.get 0 t.lace.reportAt ((lm 7 [0xFFFF0001])).src = ((lac 3 true)).now)) = true := by decide +kernel

theorem test_LaceBudgetAndRelays_2 : (((lac 3 true)).isHead = true)
  ∧ (((lac 3 true)).laceRx 1 ((fr { lm 9 [7] with bcast := true })) 9 = some ({ lm 9 [7] with bcast := true }))
  ∧ okNext (.laceDebt 1 ((fr { lm 9 [7] with bcast := true }))) ((lac 3 true)) (fun t => decide (Tab.get 0 t.lace.debts ({ lm 9 [7] with bcast := true }).src = ({ lm 9 [7] with bcast := true }).w 0 % 65536) && decide (t.on F.LACE_SITEs_SHR_DEBT_FLAG ({ lm 9 [7] with bcast := true }).src = decide (0 < ({ lm 9 [7] with bcast := true }).w 0 % 65536))) = true := by decide +kernel

def budg : State := let s := lac 3 true; let s := { s with lace := { s.lace with members := 1 }, time := { s.time with count := 1050000 } }; ((s.wr R.LACE_BUDGET 0 20000).setf F.LACE_SITEs_RPT_WANT 0 7000).setf F.LACE_SITEs_RPT_WANT 5 9000

theorem test_LaceBudgetAndRelays_3 : budg.due 27 0 100000 50000 = true ∧ budg.headMembers = [0, 5]
  ∧ budg.headMembers.length * budg.f F.LACE_FLOOR_FLOOR_W ≤ (budg.rd R.LACE_BUDGET).toNat
  ∧ okNext .laceShareCompute budg (fun t => decide (t.f F.LACE_SITEs_SHR_SHARE 0 = 9000 ∧ t.f F.LACE_SITEs_SHR_SHARE 5 = 11000)) = true := by decide +kernel

theorem test_LaceBudgetAndRelays_4 : (((lac 3 false)).isHead = false)
  ∧ (((lac 3 false)).laceRx 1 ((fr (lm 8 [0xFFFF]))) 8 = some ((lm 8 [0xFFFF])))
  ∧ okNext (.laceShare 1 ((fr (lm 8 [0xFFFF])))) ((lac 3 false)) (fun t => decide (t.f F.LACE_SHARE_SHARE = ((lm 8 [0xFFFF])).w 0 % 65536) && decide (t.on F.LACE_SHARE_NO_SHARE = false) && decide (t.lace.shareAt = ((lac 3 false)).now) && decide ((Tab.get {} t.loop.src 0xA000).v = (((lm 8 [0xFFFF])).w 0 % 65536 : Nat))) = true := by decide +kernel

theorem test_LaceBudgetAndRelays_5 : (((lac 3 false)).laceOn = true)
  ∧ (((lac 3 false)).passed ((lac 3 false)).lace.shareAt 300000 = true)
  ∧ okNext .laceShareTimeout ((lac 3 false)) (fun t => decide (t.f F.LACE_SHARE_SHARE = ((lac 3 false)).f F.LACE_LIMIT_FALLBACK_W) && decide (t.on F.LACE_SHARE_NO_SHARE = true) && decide ((Tab.get {} t.loop.src 0xA000).v = ((lac 3 false)).f F.LACE_LIMIT_FALLBACK_W) && decide ((Tab.get {} t.loop.src 0xA000).t = ((lac 3 false)).now)) = true := by decide +kernel

theorem test_LaceBudgetAndRelays_6 : (((lac 3 false)).laceRx 1 ((fr { lm 10 [0x70000, 9] with bcast := true })) 10 = some ({ lm 10 [0x70000, 9] with bcast := true }))
  ∧ okNext (.laceSlow 1 ((fr { lm 10 [0x70000, 9] with bcast := true }))) ((lac 3 false)) (fun t => decide (t.f F.LACE_SLOW_SRC_SITE = ({ lm 10 [0x70000, 9] with bcast := true }).src % 64) && decide (t.f F.LACE_SLOW_SRC_WIN_ID = ({ lm 10 [0x70000, 9] with bcast := true }).w 0 / 65536 % 65536) && decide (t.f F.LACE_SLOW_DELAY_DELAY_US = ({ lm 10 [0x70000, 9] with bcast := true }).w 1 % 2 ^ 32)) = true := by decide +kernel

def rel : State := ((lacs 3 false fwu).setf F.LACE_CTRL_RELAY_EN 0 1).setf F.LACE_ID_MEMBER 0 1 |>.setf F.LACE_CTRL_RELAY_CH 0 7

theorem test_LaceBudgetAndRelays_7 : (rel.laceOn = true)
  ∧ (rel.relayOwns rel.relayCh = true)
  ∧ (rel.laceRx 1 ((fr (lm 11 [0x01000500, 3, 4, 0xAABBCCDD]))) 0xB = some ((lm 11 [0x01000500, 3, 4, 0xAABBCCDD])))
  ∧ (rel.on F.EYEc_STATUS_CMD_FULL rel.relayCh = false)
  ∧ okNext (.laceRelayCmd 1 ((fr (lm 11 [0x01000500, 3, 4, 0xAABBCCDD])))) rel (fun t => decide (t.cmdWord 7 = ((lm 11 [0x01000500, 3, 4, 0xAABBCCDD])).word) && decide (t.on F.EYEc_STATUS_CMD_FULL 7 = true) && decide (t.pageByte 7 0 = 0xDD) && decide (t.pageByte 7 3 = 0xAA)) = true := by decide +kernel

theorem test_LaceBudgetAndRelays_8 : (((rel.setf F.EYEc_STATUS_CMD_FULL 7 1)).laceOn = true)
  ∧ (((rel.setf F.EYEc_STATUS_CMD_FULL 7 1)).relayOwns ((rel.setf F.EYEc_STATUS_CMD_FULL 7 1)).relayCh = true)
  ∧ (((rel.setf F.EYEc_STATUS_CMD_FULL 7 1)).laceRx 1 ((fr (lm 11 [0x01000500, 3, 0]))) 0xB = some ((lm 11 [0x01000500, 3, 0])))
  ∧ (((rel.setf F.EYEc_STATUS_CMD_FULL 7 1)).on F.EYEc_STATUS_CMD_FULL ((rel.setf F.EYEc_STATUS_CMD_FULL 7 1)).relayCh = true)
  ∧ okNext (.laceRelayCmd 1 ((fr (lm 11 [0x01000500, 3, 0])))) ((rel.setf F.EYEc_STATUS_CMD_FULL 7 1)) (fun t => decide (t.cmdWord ((rel.setf F.EYEc_STATUS_CMD_FULL 7 1)).relayCh = ((rel.setf F.EYEc_STATUS_CMD_FULL 7 1)).cmdWord ((rel.setf F.EYEc_STATUS_CMD_FULL 7 1)).relayCh) && decide (t.on F.EYEc_STATUS_WR_REFUSED ((rel.setf F.EYEc_STATUS_CMD_FULL 7 1)).relayCh = true)) = true := by decide +kernel

def rsh : State := let s := jf { je 0x80 63 0 with effect := true } (lacs 3 true fwu); { s with lace := { s.lace with members := 2 ^ 63, relays := [{ slot := 9, site := 63, word := cw 1 5 0 0 }] } }

theorem test_LaceBudgetAndRelays_9 : (rsh.laceOn = true)
  ∧ (rsh.isHead = true)
  ∧ (rsh.laceRx 1 ((fr (lm 12 [(((replyWord 1 5 ST_DONE false false false 77).toNat / 2 ^ 32)), 77, 0]))) 0xC = some ((lm 12 [(((replyWord 1 5 ST_DONE false false false 77).toNat / 2 ^ 32)), 77, 0])))
  ∧ (rsh.lace.relays.find? (fun rv => rv.site == ((lm 12 [(((replyWord 1 5 ST_DONE false false false 77).toNat / 2 ^ 32)), 77, 0])).src && wSeq rv.word == wSeq ((lm 12 [(((replyWord 1 5 ST_DONE false false false 77).toNat / 2 ^ 32)), 77, 0])).word && wOp rv.word == wOp ((lm 12 [(((replyWord 1 5 ST_DONE false false false 77).toNat / 2 ^ 32)), 77, 0])).word) = some (({ slot := 9, site := 63, word := cw 1 5 0 0 } : RelayEnt)))
  ∧ (rsh.jent? (({ slot := 9, site := 63, word := cw 1 5 0 0 } : RelayEnt)).slot = some ({ je 0x80 63 0 with effect := true }))
  ∧ (({ je 0x80 63 0 with effect := true }).slot = (({ slot := 9, site := 63, word := cw 1 5 0 0 } : RelayEnt)).slot)
  ∧ (relayFinal ((lm 12 [(((replyWord 1 5 ST_DONE false false false 77).toNat / 2 ^ 32)), 77, 0])).word = true)
  ∧ (rsh.fwUp = true)
  ∧ (rsh.sag = false)
  ∧ (({ je 0x80 63 0 with effect := true }).final = false)
  ∧ (({ je 0x80 63 0 with effect := true }).op = 0x80)
  ∧ okNext (.laceRelayRsp 1 ((fr (lm 12 [(((replyWord 1 5 ST_DONE false false false 77).toNat / 2 ^ 32)), 77, 0])))) rsh (fun t => decide (t.lace.relays = rsh.lace.relays.filter (fun x => !(x.slot == (({ slot := 9, site := 63, word := cw 1 5 0 0 } : RelayEnt)).slot))) && decide (answ t ({ je 0x80 63 0 with effect := true }) ST_DONE (((lm 12 [(((replyWord 1 5 ST_DONE false false false 77).toNat / 2 ^ 32)), 77, 0])).word.setWidth 32).toNat)) = true := by decide +kernel

theorem test_LaceBudgetAndRelays_10 : (rsh.laceOn = true)
  ∧ (rsh.isHead = true)
  ∧ (rsh.laceRx 1 ((fr (lm 12 [(((replyWord 1 5 ST_ACCEPTED false false false 0).toNat / 2 ^ 32)), 0, 0]))) 0xC = some ((lm 12 [(((replyWord 1 5 ST_ACCEPTED false false false 0).toNat / 2 ^ 32)), 0, 0])))
  ∧ (rsh.lace.relays.find? (fun rv => rv.site == ((lm 12 [(((replyWord 1 5 ST_ACCEPTED false false false 0).toNat / 2 ^ 32)), 0, 0])).src && wSeq rv.word == wSeq ((lm 12 [(((replyWord 1 5 ST_ACCEPTED false false false 0).toNat / 2 ^ 32)), 0, 0])).word && wOp rv.word == wOp ((lm 12 [(((replyWord 1 5 ST_ACCEPTED false false false 0).toNat / 2 ^ 32)), 0, 0])).word) = some (({ slot := 9, site := 63, word := cw 1 5 0 0 } : RelayEnt)))
  ∧ (rsh.jent? (({ slot := 9, site := 63, word := cw 1 5 0 0 } : RelayEnt)).slot = some ({ je 0x80 63 0 with effect := true }))
  ∧ (({ je 0x80 63 0 with effect := true }).slot = (({ slot := 9, site := 63, word := cw 1 5 0 0 } : RelayEnt)).slot)
  ∧ (relayFinal ((lm 12 [(((replyWord 1 5 ST_ACCEPTED false false false 0).toNat / 2 ^ 32)), 0, 0])).word = false)
  ∧ okNext (.laceRelayRsp 1 ((fr (lm 12 [(((replyWord 1 5 ST_ACCEPTED false false false 0).toNat / 2 ^ 32)), 0, 0])))) rsh (fun t => decide (t.eye = rsh.eye) && decide (t.lace.relays = rsh.lace.relays.map (fun x => if x.slot == (({ slot := 9, site := 63, word := cw 1 5 0 0 } : RelayEnt)).slot then { x with answered := true } else x))) = true := by decide +kernel

theorem test_LaceBudgetAndRelays_11 : (((let s := rel.setChan 7 { posted := some { word := 5 } }; { s with lace := { s.lace with headSite := some 63 } })).lace.headSite = some 63)
  ∧ ((((let s := rel.setChan 7 { posted := some { word := 5 } }; { s with lace := { s.lace with headSite := some 63 } })).chan ((let s := rel.setChan 7 { posted := some { word := 5 } }; { s with lace := { s.lace with headSite := some 63 } })).relayCh).posted = some (({ word := 5 } : QWord)))
  ∧ (((let s := rel.setChan 7 { posted := some { word := 5 } }; { s with lace := { s.lace with headSite := some 63 } })).laceOn = true)
  ∧ (((let s := rel.setChan 7 { posted := some { word := 5 } }; { s with lace := { s.lace with headSite := some 63 } })).relayOwns ((let s := rel.setChan 7 { posted := some { word := 5 } }; { s with lace := { s.lace with headSite := some 63 } })).relayCh = true)
  ∧ (((let s := rel.setChan 7 { posted := some { word := 5 } }; { s with lace := { s.lace with headSite := some 63 } })).sag = false ∨ (({ word := 5 } : QWord)).fin = false)
  ∧ okNext .laceRelayReplyForward ((let s := rel.setChan 7 { posted := some { word := 5 } }; { s with lace := { s.lace with headSite := some 63 } })) (fun t => decide ((t.chan ((let s := rel.setChan 7 { posted := some { word := 5 } }; { s with lace := { s.lace with headSite := some 63 } })).relayCh).posted = none) && decide (t.on F.EYEc_STATUS_RSP_FULL ((let s := rel.setChan 7 { posted := some { word := 5 } }; { s with lace := { s.lace with headSite := some 63 } })).relayCh = false)) = true := by decide +kernel

theorem test_LaceBudgetAndRelays_12 : (rsh.lace.relays.find? (fun rv => rv.slot == 9) = some (({ slot := 9, site := 63, word := cw 1 5 0 0 } : RelayEnt)))
  ∧ (rsh.laceOn = true)
  ∧ (rsh.isHead = true)
  ∧ ((({ slot := 9, site := 63, word := cw 1 5 0 0 } : RelayEnt)).answered = false)
  ∧ (rsh.passed (({ slot := 9, site := 63, word := cw 1 5 0 0 } : RelayEnt)).sentAt 100000 = true)
  ∧ (rsh.lace.members.testBit (({ slot := 9, site := 63, word := cw 1 5 0 0 } : RelayEnt)).site = true)
  ∧ okNext (.laceRelayRetry 9) rsh (fun t => decide (t.f F.LACE_RELAY_RETRIES = (rsh.f F.LACE_RELAY_RETRIES + 1) % 2 ^ F.LACE_RELAY_RETRIES.len) && decide (t.lace.relays = rsh.lace.relays.map (fun x => if x.slot == 9 then { x with sentAt := rsh.now } else x))) = true := by decide +kernel

theorem test_FaultEventsAndTheirReactions_0 : (nextEvent up.flt.pend = none)
  ∧ okNext .faultEventAccept up (fun t => decide (t.flt = up.flt) && decide (t.regs = up.regs)) = true := by decide +kernel

def fev (row unit : Nat) : FaultEv := { row := row, unit := unit, arg := 7, t := 999999, awl := true, mult := 1 }

def fl0 : State := { up with flt := { up.flt with pend := [fev 0x60 3, fev 0x53 31, fev 0x53 30] } }

theorem test_FaultEventsAndTheirReactions_1 : (nextEvent fl0.flt.pend = some ((fev 0x53 30)))
  ∧ (fl0.rst.cold = false)
  ∧ (((fev 0x53 30)).row < 256)
  ∧ ((∀ j ∈ fl0.eye.journal, j.ch < 9))
  ∧ (fl0.selectEntry ((fev 0x53 30)).row ((fev 0x53 30)).unit ((fev 0x53 30)).t = (0, true))
  ∧ (({ used := true, unit := 30, count := 0, start := 999999 }) = (if true || fl0.winExpired ((fev 0x53 30)).row (fl0.trk ((fev 0x53 30)).row 0).start ((fev 0x53 30)).t then
      { used := true, unit := ((fev 0x53 30)).unit, count := 0, start := ((fev 0x53 30)).t } else fl0.trk ((fev 0x53 30)).row 0)) := by decide +kernel

theorem test_FaultEventsAndTheirReactions_1_counts : (nextEvent ((fl0.setf F.FLTRr_CFG_N 0x53 5)).flt.pend = some ((fev 0x53 30)))
  ∧ (((fl0.setf F.FLTRr_CFG_N 0x53 5)).rst.cold = false)
  ∧ (((fev 0x53 30)).row < 256)
  ∧ ((∀ j ∈ ((fl0.setf F.FLTRr_CFG_N 0x53 5)).eye.journal, j.ch < 9))
  ∧ (((fl0.setf F.FLTRr_CFG_N 0x53 5)).selectEntry ((fev 0x53 30)).row ((fev 0x53 30)).unit ((fev 0x53 30)).t = (0, true))
  ∧ (({ used := true, unit := 30, count := 0, start := 999999 }) = (if true || ((fl0.setf F.FLTRr_CFG_N 0x53 5)).winExpired ((fev 0x53 30)).row (((fl0.setf F.FLTRr_CFG_N 0x53 5)).trk ((fev 0x53 30)).row 0).start ((fev 0x53 30)).t then
      { used := true, unit := ((fev 0x53 30)).unit, count := 0, start := ((fev 0x53 30)).t } else ((fl0.setf F.FLTRr_CFG_N 0x53 5)).trk ((fev 0x53 30)).row 0)) := by decide +kernel

theorem test_FaultEventsAndTheirReactions_2 : (((up.setBitf F.FLT_UNCLEAREDk_ROWS 2 19 true)).portTakes R.FLTRr_STATUS 0x53 = true)
  ∧ (((0x80000000 : Word)).getLsbD 31 = true)
  ∧ (((up.setBitf F.FLT_UNCLEAREDk_ROWS 2 19 true)).faultLevel 0x53 = false)
  ∧ okNext (.unclearedWrite true 0x53 ((0x80000000 : Word))) ((up.setBitf F.FLT_UNCLEAREDk_ROWS 2 19 true)) (fun t => decide (t.uncleared 0x53 = false) && decide (t.rsp.err = false) && decide ((faultRowLevel 0x53 = false → ∀ k : Nat, k < 8 → t.trk 0x53 k = {}))) = true := by decide +kernel

theorem test_FaultEventsAndTheirReactions_3 : (((up.setBitf F.FLT_UNCLEAREDk_ROWS 2 19 true)).portTakes R.FLTRr_STATUS 0x53 = true)
  ∧ (((0x7FFFFFFF : Word)).getLsbD 31 = false ∨ ((up.setBitf F.FLT_UNCLEAREDk_ROWS 2 19 true)).faultLevel 0x53 = true)
  ∧ okNext (.unclearedWrite true 0x53 ((0x7FFFFFFF : Word))) ((up.setBitf F.FLT_UNCLEAREDk_ROWS 2 19 true)) (fun t => decide (t.rsp.err = false)) = true := by decide +kernel

theorem test_FaultEventsAndTheirReactions_3_last : (({ up with flt := { up.flt with armed := true } }).portTakes R.FLTRr_STATUS 0xFF = true)
  ∧ (((0 : Word)).getLsbD 31 = false ∨ ({ up with flt := { up.flt with armed := true } }).faultLevel 0xFF = true)
  ∧ okNext (.unclearedWrite true 0xFF ((0 : Word))) ({ up with flt := { up.flt with armed := true } }) (fun t => decide (t.rsp.err = false)) = true := by decide +kernel

theorem test_FaultEventsAndTheirReactions_4 : (up.portTakes R.FLT_CTRL 0 = true)
  ∧ (up.on F.FLT_CTRL_FORCE_SAFE = false)
  ∧ okNext (.forceSafeWrite true ((1 <<< F.FLT_CTRL_FORCE_SAFE.lo : Word))) up (fun t => decide (t.on F.FLT_CTRL_FORCE_SAFE = ((1 <<< F.FLT_CTRL_FORCE_SAFE.lo : Word)).getLsbD F.FLT_CTRL_FORCE_SAFE.lo) && decide ((((1 <<< F.FLT_CTRL_FORCE_SAFE.lo : Word)).getLsbD F.FLT_CTRL_FORCE_SAFE.lo = true → rep t 0x12 0)) && decide ((((1 <<< F.FLT_CTRL_FORCE_SAFE.lo : Word)).getLsbD F.FLT_CTRL_FORCE_SAFE.lo = false → t.flt = up.flt))) = true := by decide +kernel

theorem test_FaultEventsAndTheirReactions_4_zero : (up.portTakes R.FLT_CTRL 0 = true)
  ∧ (up.on F.FLT_CTRL_FORCE_SAFE = false)
  ∧ okNext (.forceSafeWrite true ((0 : Word))) up (fun t => decide (t.on F.FLT_CTRL_FORCE_SAFE = ((0 : Word)).getLsbD F.FLT_CTRL_FORCE_SAFE.lo) && decide ((((0 : Word)).getLsbD F.FLT_CTRL_FORCE_SAFE.lo = true → rep t 0x12 0)) && decide ((((0 : Word)).getLsbD F.FLT_CTRL_FORCE_SAFE.lo = false → t.flt = up.flt))) = true := by decide +kernel

theorem test_FaultEventsAndTheirReactions_5 : (up.portTakes R.FLT_AWL 0 = true)
  ∧ (((0x00003000 : Word)).getLsbD 17 = false)
  ∧ (up.scopeAwl = false ∨ 0x4000 ≤ getBits ((0x00003000 : Word)) 0 16)
  ∧ okNext (.awlArm true ((0x00003000 : Word))) up (fun t => decide (t.f F.FLT_AWL_STATUS = 3) && decide (t.rsp.err = true) && decide ((up.scopeAwl = true → t.f F.FLT_AWL_CHECKER = getBits ((0x00003000 : Word)) 0 16))) = true := by decide +kernel

theorem test_FaultEventsAndTheirReactions_5_arg : (((up.setBitf F.GOV_SEC_SCOPE 0 2 true)).portTakes R.FLT_AWL 0 = true)
  ∧ (((0x00004000 : Word)).getLsbD 17 = false)
  ∧ (((up.setBitf F.GOV_SEC_SCOPE 0 2 true)).scopeAwl = false ∨ 0x4000 ≤ getBits ((0x00004000 : Word)) 0 16)
  ∧ okNext (.awlArm true ((0x00004000 : Word))) ((up.setBitf F.GOV_SEC_SCOPE 0 2 true)) (fun t => decide (t.f F.FLT_AWL_STATUS = 3) && decide (t.rsp.err = true) && decide ((((up.setBitf F.GOV_SEC_SCOPE 0 2 true)).scopeAwl = true → t.f F.FLT_AWL_CHECKER = getBits ((0x00004000 : Word)) 0 16))) = true := by decide +kernel

theorem test_FaultEventsAndTheirReactions_6 : (((up.setBitf F.GOV_SEC_SCOPE 0 2 true)).portTakes R.FLT_AWL 0 = true)
  ∧ (((0x00013FFF : Word)).getLsbD 17 = false)
  ∧ (((up.setBitf F.GOV_SEC_SCOPE 0 2 true)).scopeAwl = true)
  ∧ (getBits ((0x00013FFF : Word)) 0 16 < 0x4000)
  ∧ (getBits ((0x00013FFF : Word)) 0 16 / 4096 ≠ 1)
  ∧ okNext (.awlArm true ((0x00013FFF : Word))) ((up.setBitf F.GOV_SEC_SCOPE 0 2 true)) (fun t => decide (t.f F.FLT_AWL_STATUS = 1) && decide (t.f F.FLT_AWL_CHECKER = getBits ((0x00013FFF : Word)) 0 16) && decide (t.on F.FLT_AWL_REPEAT = ((0x00013FFF : Word)).getLsbD 16) && decide (t.rsp.err = false)) = true := by decide +kernel

theorem test_FaultEventsAndTheirReactions_7 : ((((up.setBitf F.GOV_SEC_SCOPE 0 2 true).setf F.FLT_AWL_STATUS 0 1)).portTakes R.FLT_AWL 0 = true)
  ∧ ((((up.setBitf F.GOV_SEC_SCOPE 0 2 true).setf F.FLT_AWL_STATUS 0 1)).scopeAwl = true)
  ∧ okNext (.awlDisarm true ((0x00013FFF : Word))) (((up.setBitf F.GOV_SEC_SCOPE 0 2 true).setf F.FLT_AWL_STATUS 0 1)) (fun t => decide (t.f F.FLT_AWL_STATUS = (if (((up.setBitf F.GOV_SEC_SCOPE 0 2 true).setf F.FLT_AWL_STATUS 0 1)).f F.FLT_AWL_STATUS = 1 then 2 else (((up.setBitf F.GOV_SEC_SCOPE 0 2 true).setf F.FLT_AWL_STATUS 0 1)).f F.FLT_AWL_STATUS)) && decide (t.rsp.err = false) && decide (t.f F.FLT_AWL_CHECKER = getBits ((0x00013FFF : Word)) 0 16) && decide (t.on F.FLT_AWL_REPEAT = ((0x00013FFF : Word)).getLsbD 16) && decide (t.on F.FLT_AWL_DISARM = true)) = true := by decide +kernel

theorem test_FaultEventsAndTheirReactions_8 : (((up.setf F.FLT_AWL_STATUS 0 1)).portTakes R.FLT_AWL 0 = true)
  ∧ (((up.setf F.FLT_AWL_STATUS 0 1)).scopeAwl = false)
  ∧ okNext (.awlDisarm true ((0x00020000 : Word))) ((up.setf F.FLT_AWL_STATUS 0 1)) (fun t => decide (t.f F.FLT_AWL_STATUS = 3) && decide (t.rsp.err = true)) = true := by decide +kernel

theorem test_FaultEventsAndTheirReactions_7_idle : ((((up.setBitf F.GOV_SEC_SCOPE 0 2 true).setf F.FLT_AWL_STATUS 0 3)).portTakes R.FLT_AWL 0 = true)
  ∧ ((((up.setBitf F.GOV_SEC_SCOPE 0 2 true).setf F.FLT_AWL_STATUS 0 3)).scopeAwl = true)
  ∧ okNext (.awlDisarm true ((0x00020000 : Word))) (((up.setBitf F.GOV_SEC_SCOPE 0 2 true).setf F.FLT_AWL_STATUS 0 3)) (fun t => decide (t.f F.FLT_AWL_STATUS = (if (((up.setBitf F.GOV_SEC_SCOPE 0 2 true).setf F.FLT_AWL_STATUS 0 3)).f F.FLT_AWL_STATUS = 1 then 2 else (((up.setBitf F.GOV_SEC_SCOPE 0 2 true).setf F.FLT_AWL_STATUS 0 3)).f F.FLT_AWL_STATUS)) && decide (t.rsp.err = false) && decide (t.f F.FLT_AWL_CHECKER = getBits ((0x00020000 : Word)) 0 16) && decide (t.on F.FLT_AWL_REPEAT = ((0x00020000 : Word)).getLsbD 16) && decide (t.on F.FLT_AWL_DISARM = true)) = true := by decide +kernel

def arm : State := { up with flt := { up.flt with armed := true } }

theorem test_SupplySagSave_0 : (arm.flt.armed = true)
  ∧ (arm.sag = false)
  ∧ (arm.rst.cold = false) := by decide +kernel

theorem test_SupplySagSave_1 : (up.flt.armed = false ∨ up.sag = true ∨ up.rst.cold = true)
  ∧ okNext (.sagSaveStart 0 0) up (fun t => decide (t.flt = up.flt) && decide (t.regs = up.regs) && decide (t.trc = up.trc)) = true := by decide +kernel

def sg : State := { (up.setf F.FLT_STATUS_SAG_ACTIVE 0 1).setf F.FLT_SAG_STATE 0 1 with flt := { up.flt with armed := true, attempt := 1, image := leBytes 4 0 ++ leBytes 4 9 ++ [1, 2, 3] } }

theorem test_SupplySagSave_2 : (sg.sag = true)
  ∧ (sg.f F.FLT_SAG_STATE = 1)
  ∧ okNext (.heelWriteComplete true 3000 2600) sg (fun t => decide (t.f F.FLT_SAG_STATE = 2) && decide (t.flt.newest = some sg.flt.slot) && decide (t.sag = true) && decide (t.f F.FLT_HEEL_SEQ_SEQNUM = 9) && decide (memBytes t.flt.mram (heelAddr sg.flt.slot) 11 = sg.flt.image) && decide (memByte t.flt.mram (heelAddr sg.flt.slot + 11) = 0)) = true := by decide +kernel

theorem test_SupplySagSave_3 : (sg.sag = true)
  ∧ (sg.f F.FLT_SAG_STATE = 1)
  ∧ (sg.flt.attempt = 1)
  ∧ (2600 ≤ 2600)
  ∧ okNext (.heelWriteComplete false 3000 2600) sg (fun t => decide (t.flt.attempt = 2) && decide (t.on F.FLT_SAG_RETRY = true) && decide (t.f F.FLT_SAG_STATE = 1) && decide (t.flt.mram = sg.flt.mram)) = true := by decide +kernel

theorem test_SupplySagSave_4 : (sg.sag = true)
  ∧ (sg.f F.FLT_SAG_STATE = 1)
  ∧ (sg.flt.attempt ≠ 1 ∨ 2599 < 2600)
  ∧ okNext (.heelWriteComplete false 3000 2599) sg (fun t => decide (t.f F.FLT_SAG_STATE = 3) && decide (t.on F.FLT_SAG_HEEL_FAIL = true) && decide (rep t 0x0C 0) && decide (t.sag = true) && decide (t.flt.newest = sg.flt.newest)) = true := by decide +kernel

theorem test_SupplySagSave_4_second : (({ sg with flt := { sg.flt with attempt := 2 } }).sag = true)
  ∧ (({ sg with flt := { sg.flt with attempt := 2 } }).f F.FLT_SAG_STATE = 1)
  ∧ (({ sg with flt := { sg.flt with attempt := 2 } }).flt.attempt ≠ 1 ∨ 2600 < 2600)
  ∧ okNext (.heelWriteComplete false 3000 2600) ({ sg with flt := { sg.flt with attempt := 2 } }) (fun t => decide (t.f F.FLT_SAG_STATE = 3) && decide (t.on F.FLT_SAG_HEEL_FAIL = true) && decide (rep t 0x0C 0) && decide (t.sag = true) && decide (t.flt.newest = ({ sg with flt := { sg.flt with attempt := 2 } }).flt.newest)) = true := by decide +kernel

theorem test_SupplySagSave_5 : (sg.sag = true)
  ∧ (sg.f F.FLT_SAG_STATE = 1)
  ∧ (2249 < 2250)
  ∧ okNext (.sagSaveStop 3000 2249) sg (fun t => decide (t.f F.FLT_SAG_STATE = 3) && decide (t.on F.FLT_SAG_HEEL_FAIL = true) && decide (rep t 0x0C 0) && decide (t.sag = true) && decide (t.flt.sagEnd = sg.now)) = true := by decide +kernel

theorem test_SupplySagSave_6 : (({ sg.setf F.FLT_SAG_STATE 0 3 with flt := { sg.flt with sagEnd := 900000 } }).sag = true)
  ∧ (2 ≤ ({ sg.setf F.FLT_SAG_STATE 0 3 with flt := { sg.flt with sagEnd := 900000 } }).f F.FLT_SAG_STATE)
  ∧ (({ sg.setf F.FLT_SAG_STATE 0 3 with flt := { sg.flt with sagEnd := 900000 } }).passed ({ sg.setf F.FLT_SAG_STATE 0 3 with flt := { sg.flt with sagEnd := 900000 } }).flt.sagEnd 100000 = true)
  ∧ (3050 ≤ 3050)
  ∧ ((∀ e ∈ ({ sg.setf F.FLT_SAG_STATE 0 3 with flt := { sg.flt with sagEnd := 900000 } }).eye.journal, e.ch < 9))
  ∧ (({ sg.setf F.FLT_SAG_STATE 0 3 with flt := { sg.flt with sagEnd := 900000 } }).rst.warmPending = none) := by decide +kernel

/-- The Tread runs, at service time `t`. -/
def tr (t : Nat) (x : TrdSt) : State := { up.setf F.TRD_CTRL_EN 0 1 with trd := { x with base := t, from_ := 1000000 } }

theorem test_TreadMonitorsAndKeeping_0 : (((tr 5 {})).portTakes R.TRD_CAL_LO 0 = true)
  ∧ okNext (.trdCalWrite true ((77 : Word))) ((tr 5 {})) (fun t => decide (t.trd.calSec = (((tr 5 {})).rd R.TRD_CAL_HI).toNat * 2 ^ 32 + ((77 : Word)).toNat) && decide (t.trd.calAt = ((tr 5 {})).service) && decide (t.on F.TRD_STATUS_CAL_VALID = true) && decide (t.rsp.err = false)) = true := by decide +kernel

def tr1 : State := tr 3600000000000 {}

theorem test_TreadMonitorsAndKeeping_1 : (tr1.treadOn = true)
  ∧ (tr1.trd.hour ≤ tr1.service / 3600000000000)
  ∧ okNext (.driftMeasure ([])) tr1 (fun t => decide (t.trd.hour = 2) && decide ((tr1.f F.WELTc_GUARD_GUARD_W 31 ≤ t.f F.WELTc_GUARD_GUARD_W 31))) = true := by decide +kernel

def tr2 : State := let s := (tr 3600000000000 {}).setf F.WELTc_STATUS_NEED_VALID 31 1; { s with loop := { s.loop with src := [(0x585F, { v := 1360, n := 1 })] } }

theorem test_TreadMonitorsAndKeeping_2 : (tr2.treadOn = true)
  ∧ (tr2.trd.hour ≤ tr2.service / 3600000000000)
  ∧ (31 < Config.clusterCount)
  ∧ (tr2.counted 31 = true)
  ∧ ((({ v := 1360, n := 1 } : SrcVal)) = Tab.get {} tr2.loop.src (0x5840 + 31))
  ∧ ((({ v := 1360, n := 1 } : SrcVal)).n ≠ 0)
  ∧ (Tab.get false tr2.loop.lost (0x840 + 31) = false)
  ∧ (((max 1 (tr2.f F.WELT_SENS_SENS_W))) = max 1 (tr2.f F.WELT_SENS_SENS_W))
  ∧ okNext (.driftMeasure [(31, ((100 : Nat)))]) tr2 (fun t => decide (t.fi F.TRDCc_TVT_DRIFT 31 = satSigned F.TRDCc_TVT_DRIFT.len (divNearest ((((100 : Nat)) : Int) * 256 - tr2.fi F.WELTc_SLACK_SLACK_W 31 * 25600 + (((max 1 (tr2.f F.WELT_SENS_SENS_W))) : Int) * (((tr2.weltC 31).vout : Int) - 12000) * 100 - tr2.fi F.TRD_TVT_KT * ((({ v := 1360, n := 1 } : SrcVal)).v - 1360) * 100 - 25600 * (tr2.f F.TRDCc_TVT_D0 31 : Int)) (400 * ((max 1 (tr2.f F.WELT_SENS_SENS_W))))))) = true := by decide +kernel

theorem test_TreadMonitorsAndKeeping_3 : (((tr 5 {})).treadOn = true)
  ∧ (((tr 5 {})).due 28 0 1000000 0 = true)
  ∧ (7 < Config.railCount)
  ∧ okNext .emAccumulate ((tr 5 {})) (fun t => decide (t.pair R.TRDRr_ACC_LO R.TRDRr_ACC_HI 7 = (((tr 5 {})).pair R.TRDRr_ACC_LO R.TRDRr_ACC_HI 7 + emStep (((tr 5 {})).teleNow (0x23000000 + 7)).last.toNat (max 1 (((tr 5 {})).teleNow (0x23000000 + 7)).lastLen * max 1 (((tr 5 {})).f F.TRDRr_CFG_I_REF 7)) (((tr 5 {})).f F.TRD_EM_EM_N) (((tr 5 {})).f F.TRD_EM_EA) (((tr 5 {})).f F.TRDRr_CFG_T_REF 7) (((tr 5 {})).emTemp 7)) % 2 ^ 64)) = true := by decide +kernel

theorem test_TreadMonitorsAndKeeping_4 : (((tr 5 { measuring := true })).trd.measuring = true)
  ∧ (((tr 5 { measuring := true })).rst.cold = false)
  ∧ (50000000 ≤ 50000000)
  ∧ (50000000 ≤ 50000000)
  ∧ okNext (.holdupMeasurement 500 50000000 50000000) ((tr 5 { measuring := true })) (fun t => decide (t.trd.measuring = false) && decide (t.f F.TRD_HOLD_C = min (divNearest ((50000000 + 50000000 : Nat) : Int) 100).toNat 65535) && decide (t.f F.TRD_HOLD_ESR = min (divNearest (500 : Int) 5).toNat 65535) && decide (t.on F.TRD_STATUS_HOLD_DEGRADED = (decide (t.f F.TRD_HOLD_C < 100 * ((tr 5 { measuring := true })).f F.TRD_HOLD_LIM_C_MIN) || decide (100 * ((tr 5 { measuring := true })).f F.TRD_HOLD_LIM_ESR_MAX < t.f F.TRD_HOLD_ESR)))) = true := by decide +kernel

theorem test_TreadMonitorsAndKeeping_5 : (((tr 5 { measuring := true })).trd.measuring = true)
  ∧ (((tr 5 { measuring := true })).rst.cold = false)
  ∧ (50000000 < 50000001 ∨ 50000000 < 0)
  ∧ okNext (.holdupMeasurement 500 50000001 0) ((tr 5 { measuring := true })) (fun t => decide (t.trd.measuring = false) && decide (t.on F.TRD_STATUS_MEAS_ABORT = true) && decide (t.rd R.TRD_HOLD = ((tr 5 { measuring := true })).rd R.TRD_HOLD)) = true := by decide +kernel

theorem test_TreadMonitorsAndKeeping_6 : (((tr 5 {})).treadOn = true)
  ∧ (((tr 5 {})).dieUp = true)
  ∧ (511 < Config.coreCount)
  ∧ okNext (.retentionReport 511 100) ((tr 5 {})) (fun t => decide (Tab.get 0 t.trd.ret 511 = 101) && decide (t.f F.TRDCc_RET_RET 31 = 100)) = true := by decide +kernel

def mw : State := (tr (3600000000000 * 2) { sched := some (0, 2, 0) })

def loud : State := (tr (86400000000000 * 400) { sched := some (0, 2, 0) }).setf F.TRD_CTRL_SWEEP_EN 0 1
/-- Every core's active role is 0. -/
def quiet : State := { loud with regs := loud.regs.filter (fun e => decide (e.1 < 0x11004)) ++
  ((List.range' 0 512).map (fun n => (0x11004 + 0x20 * n, (0x100 : Word))) ++ loud.regs.filter (fun e => decide (0x15000 < e.1))) }

theorem get_skip {d : Word} {p q : Tab Word} {k : Nat} (h : ∀ e ∈ p, e.1 < k) : Tab.get d (p ++ q) k = Tab.get d q k := by
  induction p with
  | nil => rfl
  | cons e r ih =>
    have h1 : ¬ e.1 = k := Nat.ne_of_lt (h e (List.mem_cons_self ..))
    simp only [List.cons_append, Tab.get, h1, if_false]
    exact ih (fun x hx => h x (List.mem_cons_of_mem _ hx))

theorem get_range {d v : Word} {q : Tab Word} {a b k : Nat} (hb : 0 < b) (n m : Nat) (h1 : m ≤ k) (h2 : k < m + n) :
    Tab.get d ((List.range' m n).map (fun i => (a + b * i, v)) ++ q) (a + b * k) = v := by
  induction n generalizing m with
  | zero => omega
  | succ n ih =>
    simp only [List.range'_succ, List.map_cons, List.cons_append, Tab.get]
    by_cases h : m = k
    · simp [h]
    · have h3 : ¬ a + b * m = a + b * k := fun e => h (Nat.eq_of_mul_eq_mul_left hb (by omega))
      simp only [h3, if_false]
      exact ih (m + 1) (by omega) (by omega)

theorem test_TreadMonitorsAndKeeping_7_roles : ∀ m ∈ allCores, quiet.f F.CRDSn_ROLE_ACTIVE_ROLE m = 0 := by
  intro m hm
  have h : m < 512 := by simpa [allCores, Config.coreCount] using hm
  show getBits (Tab.get _ (loud.regs.filter _ ++ ((List.range' 0 512).map _ ++ _)) (0x11004 + 0x20 * m)) 10 2 = 0
  rw [get_skip (fun e he => by have := (List.mem_filter.1 he).2; simp at this; omega),
    get_range (by decide) 512 0 (by omega) (by omega)]
  decide

theorem test_TreadMonitorsAndKeeping_7 : (quiet.trd.sched = some (0, 2, 0))
  ∧ (quiet.treadOn = true)
  ∧ (0 + (0 + 1) * 2 * 3600000000000 ≤ quiet.service)
  ∧ (quiet.trd.sweep = none)
  ∧ (quiet.sweepDue = true)
  ∧ (quiet.dieUp = true) := by decide +kernel

def tro : State := (tr (86400000000000 * 400) { sched := some (0, 2, 0) }).setf F.TRD_CTRL_SWEEP_EN 0 1

theorem test_TreadMonitorsAndKeeping_8 : (({ tro with rst := { tro.rst with die := true } }).trd.sched = some (0, 2, 0))
  ∧ (({ tro with rst := { tro.rst with die := true } }).treadOn = true)
  ∧ (0 + (0 + 1) * 2 * 3600000000000 ≤ ({ tro with rst := { tro.rst with die := true } }).service)
  ∧ (({ tro with rst := { tro.rst with die := true } }).trd.sweep = none)
  ∧ (({ tro with rst := { tro.rst with die := true } }).sweepDue = true)
  ∧ (({ tro with rst := { tro.rst with die := true } }).dieUp = false) := by decide +kernel

def mwl : State := ((tr (86400000000000 * 8) { sched := some (0, 2, 0) }).setf F.TRD_CTRL_SWEEP_EN 0 0).setf F.WELTc_GUARD_GUARD_W 31 9

theorem test_TreadMonitorsAndKeeping_9 : (mwl.trd.sched = some (0, 2, 0))
  ∧ (mwl.treadOn = true)
  ∧ (0 + (0 + 1) * 2 * 3600000000000 ≤ mwl.service)
  ∧ (mwl.trd.sweep = none)
  ∧ (mwl.sweepDue = false) := by decide +kernel

theorem test_TreadMonitorsAndKeeping_10 : (((tr 5 { sweep := some { k := 11, half := 510, at_ := 0 } })).trd.sweep = some (({ k := 11, half := 510, at_ := 0 } : SweepSt)))
  ∧ (((tr 5 { sweep := some { k := 11, half := 510, at_ := 0 } })).passed (({ k := 11, half := 510, at_ := 0 } : SweepSt)).at_ (halfPeriods (({ k := 11, half := 510, at_ := 0 } : SweepSt)).k ((({ k := 11, half := 510, at_ := 0 } : SweepSt)).half + 1)) = true)
  ∧ ((({ k := 11, half := 510, at_ := 0 } : SweepSt)).half + 1 < 512)
  ∧ okNext (.dummyLoadRequestToggle 4) ((tr 5 { sweep := some { k := 11, half := 510, at_ := 0 } })) (fun t => decide (t.trd.sweep = some { (({ k := 11, half := 510, at_ := 0 } : SweepSt)) with half := (({ k := 11, half := 510, at_ := 0 } : SweepSt)).half + 1 }) && decide (t.trd.dummy = !((tr 5 { sweep := some { k := 11, half := 510, at_ := 0 } })).trd.dummy)) = true := by decide +kernel

theorem test_TreadMonitorsAndKeeping_11 : (((tr 5 { sweep := some { k := 10, half := 511, at_ := 0 } })).trd.sweep = some (({ k := 10, half := 511, at_ := 0 } : SweepSt)))
  ∧ (((tr 5 { sweep := some { k := 10, half := 511, at_ := 0 } })).passed (({ k := 10, half := 511, at_ := 0 } : SweepSt)).at_ (halfPeriods (({ k := 10, half := 511, at_ := 0 } : SweepSt)).k ((({ k := 10, half := 511, at_ := 0 } : SweepSt)).half + 1)) = true)
  ∧ (512 ≤ (({ k := 10, half := 511, at_ := 0 } : SweepSt)).half + 1)
  ∧ ((({ k := 10, half := 511, at_ := 0 } : SweepSt)).clamped = false)
  ∧ (((tr 5 { sweep := some { k := 10, half := 511, at_ := 0 } })).clamped = false)
  ∧ (((tr 5 { sweep := some { k := 10, half := 511, at_ := 0 } })).f F.CRD_CLAMP_COUNT_COUNT = (({ k := 10, half := 511, at_ := 0 } : SweepSt)).clamps)
  ∧ ((({ k := 10, half := 511, at_ := 0 } : SweepSt)).k < 11)
  ∧ okNext (.dummyLoadRequestToggle 4) ((tr 5 { sweep := some { k := 10, half := 511, at_ := 0 } })) (fun t => decide (t.trd.sweep.map (fun x => (x.k, x.half, x.at_, x.z)) = some ((({ k := 10, half := 511, at_ := 0 } : SweepSt)).k + 1, 0, ((tr 5 { sweep := some { k := 10, half := 511, at_ := 0 } })).now, max (({ k := 10, half := 511, at_ := 0 } : SweepSt)).z 4)) && decide (t.trd.dummy = true)) = true := by decide +kernel

theorem test_TreadMonitorsAndKeeping_12 : (((tr 5 { sweep := some { k := 11, half := 511, at_ := 0 } })).trd.sweep = some (({ k := 11, half := 511, at_ := 0 } : SweepSt)))
  ∧ (((tr 5 { sweep := some { k := 11, half := 511, at_ := 0 } })).passed (({ k := 11, half := 511, at_ := 0 } : SweepSt)).at_ (halfPeriods (({ k := 11, half := 511, at_ := 0 } : SweepSt)).k ((({ k := 11, half := 511, at_ := 0 } : SweepSt)).half + 1)) = true)
  ∧ (512 ≤ (({ k := 11, half := 511, at_ := 0 } : SweepSt)).half + 1)
  ∧ ((({ k := 11, half := 511, at_ := 0 } : SweepSt)).clamped = false)
  ∧ (((tr 5 { sweep := some { k := 11, half := 511, at_ := 0 } })).clamped = false)
  ∧ (((tr 5 { sweep := some { k := 11, half := 511, at_ := 0 } })).f F.CRD_CLAMP_COUNT_COUNT = (({ k := 11, half := 511, at_ := 0 } : SweepSt)).clamps)
  ∧ (11 ≤ (({ k := 11, half := 511, at_ := 0 } : SweepSt)).k)
  ∧ okNext (.dummyLoadRequestToggle 4) ((tr 5 { sweep := some { k := 11, half := 511, at_ := 0 } })) (fun t => decide (t.trd.sweep = none) && decide (t.trd.dummy = false) && decide (t.f F.TRD_PDN_MEAS_Z_PEAK = min (max (({ k := 11, half := 511, at_ := 0 } : SweepSt)).z 4) (2 ^ F.TRD_PDN_MEAS_Z_PEAK.len - 1))) = true := by decide +kernel

def fitS : State := (tr 5 {}).setf F.TRD_HOLD_C 0 65535

theorem test_TreadMonitorsAndKeeping_13 : (((tr 5 {})).treadOn = true)
  ∧ (((tr 5 {})).sag = false)
  ∧ (((tr 5 {})).trd.day ≤ ((tr 5 {})).today)
  ∧ (168 < 234)
  ∧ (instPresent 168 = true)
  ∧ (((tr 5 {})).wear 168 = some ((((tr 5 {}).wear 168).getD (0, 1)))) := by decide +kernel

theorem test_TreadMonitorsAndKeeping_14 : (((tr 5 { changed := true })).started = true)
  ∧ (((tr 5 { changed := true })).vgov = true)
  ∧ (((tr 5 { changed := true })).trd.changed = true ∨ ((tr 5 { changed := true })).trd.sec ≤ ((tr 5 { changed := true })).service / 1000000000) := by decide +kernel

theorem test_TreadMonitorsAndKeeping_15 : (((tr 120000000000000 {})).started = true)
  ∧ (((tr 120000000000000 {})).vgov = true)
  ∧ (((tr 120000000000000 {})).sag = false)
  ∧ (((tr 120000000000000 {})).trd.ckptAt + ((tr 120000000000000 {})).ckptEvery ≤ ((tr 120000000000000 {})).service)
  ∧ ((false, 1) = (match ((tr 120000000000000 {})).trd.ckpt with | some (b, n) => (!b, (n + 1) % 2 ^ 32) | none => (false, 1)))
  ∧ (false = true ∨ true = true) := by decide +kernel

theorem test_TreadMonitorsAndKeeping_15_wrap : (((tr 120000000000000 { ckpt := some (false, 2 ^ 32 - 1) })).started = true)
  ∧ (((tr 120000000000000 { ckpt := some (false, 2 ^ 32 - 1) })).vgov = true)
  ∧ (((tr 120000000000000 { ckpt := some (false, 2 ^ 32 - 1) })).sag = false)
  ∧ (((tr 120000000000000 { ckpt := some (false, 2 ^ 32 - 1) })).trd.ckptAt + ((tr 120000000000000 { ckpt := some (false, 2 ^ 32 - 1) })).ckptEvery ≤ ((tr 120000000000000 { ckpt := some (false, 2 ^ 32 - 1) })).service)
  ∧ ((true, 0) = (match ((tr 120000000000000 { ckpt := some (false, 2 ^ 32 - 1) })).trd.ckpt with | some (b, n) => (!b, (n + 1) % 2 ^ 32) | none => (false, 1)))
  ∧ (true = true ∨ false = true) := by decide +kernel

theorem test_TreadMonitorsAndKeeping_16 : (((tr 120000000000000 {})).started = true)
  ∧ (((tr 120000000000000 {})).vgov = true)
  ∧ (((tr 120000000000000 {})).sag = false)
  ∧ (((tr 120000000000000 {})).trd.ckptAt + ((tr 120000000000000 {})).ckptEvery ≤ ((tr 120000000000000 {})).service)
  ∧ ((false, 1) = (match ((tr 120000000000000 {})).trd.ckpt with | some (b, n) => (!b, (n + 1) % 2 ^ 32) | none => (false, 1))) := by decide +kernel

def rcw (t : Nat) : BitVec 128 := BitVec.ofNat 128 (t + 2 ^ 100)

def trq : State := let s := up.setf F.TRC_CTRL_RUN 0 1; { (s.setf F.TRC_WRPTR_NEXT 0 131071) with trc := { s.trc with srcs := [(14, { queue := [[rcw 5], [rcw 6]] })], unsent := [] } }

theorem test_TraceBufferRegionsAndPort_0 : (trq.nextSrc = some 14)
  ∧ (trq.answers 0x78000 R.TRC_CTRL 0 = true)
  ∧ (trq.f F.PWRd_STATUS_STEP 0x463 = 0)
  ∧ ((trq.src 14).queue = [((rcw 5))] :: ([[rcw 6]]))
  ∧ (trq.trcAt = trq.f F.TRC_WRPTR_NEXT)
  ∧ (trq.trcCan (trq.f F.TRC_WRPTR_NEXT) = true)
  ∧ okNext .traceRecordAccept trq (fun t => decide ((t.src 14).queue = ([[rcw 6]])) && decide (Tab.get 0 t.trc.buf (trq.f F.TRC_WRPTR_NEXT) = (if trq.trc.regions.any (fun r => r.active && decide (0 < r.left)) then ((rcw 5)) ||| (1#128 <<< 78) else ((rcw 5)))) && decide (t.f F.TRC_WRPTR_NEXT = (trq.f F.TRC_WRPTR_NEXT + 1) % trcSize)) = true := by decide +kernel

theorem test_TraceBufferRegionsAndPort_1 : (({ trq with trc := { trq.trc with stream := true, unsent := [131071] } }).nextSrc = some 14)
  ∧ (({ trq with trc := { trq.trc with stream := true, unsent := [131071] } }).answers 0x78000 R.TRC_CTRL 0 = true)
  ∧ (({ trq with trc := { trq.trc with stream := true, unsent := [131071] } }).f F.PWRd_STATUS_STEP 0x463 = 0)
  ∧ ((({ trq with trc := { trq.trc with stream := true, unsent := [131071] } }).src 14).queue.head? = some [((rcw 5))])
  ∧ (({ trq with trc := { trq.trc with stream := true, unsent := [131071] } }).trc.stream = true)
  ∧ (({ trq with trc := { trq.trc with stream := true, unsent := [131071] } }).trc.unsent.contains ({ trq with trc := { trq.trc with stream := true, unsent := [131071] } }).trcAt = true)
  ∧ okNext .traceRecordAccept ({ trq with trc := { trq.trc with stream := true, unsent := [131071] } }) (fun t => decide ((t.src 14).queue = [[rcw 5], [rcw 6]]) && decide (t.trc.buf = ({ trq with trc := { trq.trc with stream := true, unsent := [131071] } }).trc.buf) && decide (t.regs = ({ trq with trc := { trq.trc with stream := true, unsent := [131071] } }).regs)) = true := by decide +kernel

theorem test_TraceBufferRegionsAndPort_2 : (up.portTakes R.TRC_TRIG 0 = true)
  ∧ (up.tracing = false)
  ∧ okNext (.trcTrigWrite true ((0xFF : Word))) up (fun t => decide (t.f F.TRC_TRIG_STATUS = 3) && decide (t.f F.TRC_TRIG_TAG = getBits ((0xFF : Word)) 0 8) && decide (t.rsp.err = false)) = true := by decide +kernel

def trg : State := (up.setf F.TRC_CTRL_RUN 0 1).setBitf F.TRC_CTRL_TRIG_EN 0 0 true

theorem test_TraceBufferRegionsAndPort_3 : (trg.portTakes R.TRC_TRIG 0 = true)
  ∧ (trg.tracing = true)
  ∧ (trg.bitf F.TRC_CTRL_TRIG_EN 0 0 = true) := by decide +kernel

def reg2 : State := { up with trc := { up.trc with regions := [{ number := 3, active := true, left := 0, len := 5 }, { k := 1, number := 4, active := true, left := 9, start := 50, len := 90 }] } }

theorem test_TraceBufferRegionsAndPort_4 : True := by decide +kernel

def reg3 : State := { up with trc := { up.trc with regions := [{ number := 3, active := false, left := 0, len := 5 }, { k := 1, number := 4, active := true, left := 9, start := 50, len := 90 }] } }

theorem test_TraceBufferRegionsAndPort_5 : (reg3.portTakes R.TRC_RELEASE 0 = true)
  ∧ (reg3.completeRegions.trc.regions.find? (fun q => q.number == getBits ((3 : Word)) 0 16 && !q.active) = some (({ number := 3, active := false, left := 0, len := 5 } : Region))) := by decide +kernel

theorem test_TraceBufferRegionsAndPort_6 : (reg3.portTakes R.TRC_RELEASE 0 = true)
  ∧ (reg3.completeRegions.trc.regions.find? (fun q => q.number == getBits ((4 : Word)) 0 16 && !q.active) = none) := by decide +kernel

def drp : State := let s := up.setf F.TRC_CTRL_RUN 0 1; { s with trc := { s.trc with srcs := [(14, { firstDrop := some 900000, dropped := 2 ^ 32, thinned := 3, lastReport := 900000, dropping := true })] } }

theorem test_TraceBufferRegionsAndPort_7 : ((drp.src 14).firstDrop = some ((900000 : Word64)))
  ∧ (drp.tracing = true)
  ∧ (14 < 15)
  ∧ ((drp.src 14).dropping = false ∨ drp.passed (drp.src 14).lastReport 100000 = true)
  ∧ okNext (.traceDropReport 14) drp (fun t => decide (t.src 14 = { drp.src 14 with dropped := 0, thinned := 0, firstDrop := none, lastReport := drp.now }) && decide ((t.src 15).queue = (drp.src 15).queue ++ [mkRec drp.now 15 2 7 14 (min (drp.src 14).dropped (2 ^ 32 - 1)) (some (((900000 : Word64)).toNat + min (drp.src 14).thinned (2 ^ 32 - 1) * 2 ^ 64))]) && decide (t.f F.TRC_COUNT_GAPS = (drp.f F.TRC_COUNT_GAPS + 1) % 2 ^ F.TRC_COUNT_GAPS.len)) = true := by decide +kernel

theorem test_TraceBufferRegionsAndPort_8 : (up.portTakes R.TRC_CTRL 0 = true)
  ∧ (up.on F.TRC_CTRL_RUN = false) := by decide +kernel

def frm : State := { (up.setf F.TRC_CTRL_PORT_EN 0 1) with trc := { up.trc with stream := true, unsent := [7, 8, 9], buf := [(7, rcw 5), (8, rcw 6), (9, rcw 7)], frameSeq := 65535 } }

theorem test_TraceBufferRegionsAndPort_9 : (([7, 8]) = framePositions frm (min 2 64) frm.trc.unsent)
  ∧ (([7, 8]) ≠ [])
  ∧ (frm.trc.stream = true)
  ∧ (frm.on F.TRC_CTRL_PORT_EN = true)
  ∧ (frm.vgov = true)
  ∧ (frm.f F.PWRd_STATUS_STEP 0x463 = 0)
  ∧ okNext (.traceFrameSend 2) frm (fun t => decide (t.trc.unsent = frm.trc.unsent.drop ([7, 8]).length) && decide (t.trc.lastFrame = ([7, 8]).map (fun p => Tab.get 0 frm.trc.buf p)) && decide (t.trc.frameSeq = (frm.trc.frameSeq + 1) % 65536) && decide (t.f F.TRC_PORT_FRAMES = (frm.f F.TRC_PORT_FRAMES + 1) % 2 ^ F.TRC_PORT_FRAMES.len)) = true := by decide +kernel

def trl : State := { trq with trc := { trq.trc with srcs := [(14, { queue := [[rcw 5, rcw 9], [rcw 6]] })], regions := [{ number := 3, active := true, left := 9, start := 50, len := 90 }] } }

theorem test_TraceBufferRegionsAndPort_10 : (((trl.setf F.TRC_WRPTR_NEXT 0 131070)).nextSrc = some 14)
  ∧ (((trl.setf F.TRC_WRPTR_NEXT 0 131070)).answers 0x78000 R.TRC_CTRL 0 = true)
  ∧ (((trl.setf F.TRC_WRPTR_NEXT 0 131070)).f F.PWRd_STATUS_STEP 0x463 = 0)
  ∧ ((((trl.setf F.TRC_WRPTR_NEXT 0 131070)).src 14).queue = [((rcw 5)), ((rcw 9))] :: ([[rcw 6]]))
  ∧ (((trl.setf F.TRC_WRPTR_NEXT 0 131070)).trcAt = ((trl.setf F.TRC_WRPTR_NEXT 0 131070)).f F.TRC_WRPTR_NEXT)
  ∧ (((trl.setf F.TRC_WRPTR_NEXT 0 131070)).f F.TRC_WRPTR_NEXT + 1 < trcSize)
  ∧ (((trl.setf F.TRC_WRPTR_NEXT 0 131070)).protectedAt (((trl.setf F.TRC_WRPTR_NEXT 0 131070)).f F.TRC_WRPTR_NEXT + 1) = false)
  ∧ (((trl.setf F.TRC_WRPTR_NEXT 0 131070)).trcCan (((trl.setf F.TRC_WRPTR_NEXT 0 131070)).f F.TRC_WRPTR_NEXT) = true)
  ∧ (((trl.setf F.TRC_WRPTR_NEXT 0 131070)).trcCan (((trl.setf F.TRC_WRPTR_NEXT 0 131070)).f F.TRC_WRPTR_NEXT + 1) = true)
  ∧ okNext .traceRecordAccept ((trl.setf F.TRC_WRPTR_NEXT 0 131070)) (fun t => decide ((t.src 14).queue = ([[rcw 6]])) && decide (Tab.get 0 t.trc.buf (((trl.setf F.TRC_WRPTR_NEXT 0 131070)).f F.TRC_WRPTR_NEXT) = (if ((trl.setf F.TRC_WRPTR_NEXT 0 131070)).trc.regions.any (fun r => r.active && decide (0 < r.left)) then ((rcw 5)) ||| (1#128 <<< 78) else ((rcw 5)))) && decide (Tab.get 0 t.trc.buf (((trl.setf F.TRC_WRPTR_NEXT 0 131070)).f F.TRC_WRPTR_NEXT + 1) = ((rcw 9))) && decide (t.f F.TRC_WRPTR_NEXT = (((trl.setf F.TRC_WRPTR_NEXT 0 131070)).f F.TRC_WRPTR_NEXT + 2) % trcSize)) = true := by decide +kernel

def pm : State := let s := up; { s with trc := { s.trc with pmb := { page := 7, ptr := 4064, pages := [(7, { vout := 0x80, iout := 0x20, temp := 0x40 })] } } }

theorem test_PmbusTarget_read_mfrId : pm.pmbUp = true ∧ okNext (.mfrId false) pm (fun t => decide (t.trc.pmb.reply = [5, 69, 72, 82, 65, 67]) && !t.trc.pmb.nack) = true := by decide +kernel

theorem test_PmbusTarget_read_mfrModel : pm.pmbUp = true ∧ okNext (.mfrModel false) pm (fun t => decide (t.trc.pmb.reply = [6, 76, 75, 88, 45, 54, 52]) && !t.trc.pmb.nack) = true := by decide +kernel

theorem test_PmbusTarget_read_statusVout : pm.pmbUp = true ∧ okNext (.statusVout false) pm (fun t => decide (t.trc.pmb.reply = [0x80]) && !t.trc.pmb.nack) = true := by decide +kernel

theorem test_PmbusTarget_read_pagePtr : pm.pmbUp = true ∧ okNext (.mfrPagePtr false 0 false) pm (fun t => decide (t.trc.pmb.reply = [0xE0, 0x0F]) && !t.trc.pmb.nack) = true := by decide +kernel

theorem test_PmbusTarget_read_revision : pm.pmbUp = true ∧ okNext (.pmbusRevision false) pm (fun t => decide (t.trc.pmb.reply = [0x33]) && !t.trc.pmb.nack) = true := by decide +kernel

theorem test_PmbusTarget_read_only : okNext (.readVout true) pm (fun t => decide (t.trc.pmb.cml = 64) && t.trc.pmb.nack && decide (t.f F.TRC_PMB_STATUS_CML_ERR = 1)) = true := by decide +kernel

theorem test_PmbusTarget_pec : okNext (.page true 3 true) pm (fun t => decide (t.trc.pmb.cml = 32) && decide (t.trc.pmb.page = 7) && decide (t.f F.TRC_PMB_STATUS_PEC_ERR = 1)) = true := by decide +kernel

theorem test_PmbusTarget_3 : (pm.pmbUp = true)
  ∧ (((0 : BitVec 8)).toNat < Config.railCount)
  ∧ okNext (.page true ((0 : BitVec 8)) false) pm (fun t => decide (t.trc.pmb.page = ((0 : BitVec 8)).toNat)) = true := by decide +kernel

theorem test_PmbusTarget_4 : (pm.pmbUp = true)
  ∧ (Config.railCount ≤ ((8 : BitVec 8)).toNat)
  ∧ okNext (.page true ((8 : BitVec 8)) false) pm (fun t => decide (t.trc.pmb.page = pm.trc.pmb.page) && decide (t.trc.pmb.cml = setBit pm.trc.pmb.cml 6 true)) = true := by decide +kernel

theorem test_PmbusTarget_5 : (pm.pmbUp = true)
  ∧ okNext (.clearFaults false) pm (fun t => decide (t.trc.pmb.pages = []) && decide (t.trc.pmb.cml = 0) && decide (t.pmbAlert = false)) = true := by decide +kernel

theorem test_PmbusTarget_6 : (pm.pmbUp = true)
  ∧ okNext (.mfrPagePtr true ((0xFFFF : BitVec 16)) false) pm (fun t => decide (t.trc.pmb.ptr = ((0xFFFF : BitVec 16)).toNat / 32 * 32)) = true := by decide +kernel

theorem test_PmbusTarget_7 : (pm.pmbUp = true)
  ∧ (([1, 2, 3, 4, 5, 6, 7]).length ≠ 8)
  ∧ okNext (.mfrEyeCmd ([1, 2, 3, 4, 5, 6, 7]) false) pm (fun t => decide (t.trc.pmb.cml = setBit pm.trc.pmb.cml 6 true) && decide (t.eye = pm.eye) && decide (t.cmdWord 8 = pm.cmdWord 8)) = true := by decide +kernel

theorem test_PmbusTarget_8 : (((pm.setf F.EYEc_STATUS_CMD_FULL 8 1)).pmbUp = true)
  ∧ (([1, 2, 3, 4, 5, 6, 7, 8]).length = 8)
  ∧ (((pm.setf F.EYEc_STATUS_CMD_FULL 8 1)).on F.EYEc_STATUS_CMD_FULL 8 = true)
  ∧ okNext (.mfrEyeCmd ([1, 2, 3, 4, 5, 6, 7, 8]) false) ((pm.setf F.EYEc_STATUS_CMD_FULL 8 1)) (fun t => decide (t.cmdWord 8 = ((pm.setf F.EYEc_STATUS_CMD_FULL 8 1)).cmdWord 8) && decide (t.on F.EYEc_STATUS_WR_REFUSED 8 = true) && decide (t.trc.pmb.cml = setBit ((pm.setf F.EYEc_STATUS_CMD_FULL 8 1)).trc.pmb.cml 1 true)) = true := by decide +kernel

theorem test_PmbusTarget_9 : (pm.pmbUp = true)
  ∧ (([1, 2, 3, 4, 5, 6, 7, 8]).length = 8)
  ∧ (pm.on F.EYEc_STATUS_CMD_FULL 8 = false)
  ∧ okNext (.mfrEyeCmd ([1, 2, 3, 4, 5, 6, 7, 8]) false) pm (fun t => decide (t.on F.EYEc_STATUS_CMD_FULL 8 = true) && decide (t.cmdWord 8 = 0x0807060504030201)) = true := by decide +kernel

theorem test_PmbusTarget_10 : ((((pm.setChan 8 { posted := some { word := 5 } }).setf F.EYEc_STATUS_RSP_FULL 8 1)).pmbUp = true)
  ∧ (((((pm.setChan 8 { posted := some { word := 5 } }).setf F.EYEc_STATUS_RSP_FULL 8 1)).chan 8).posted = some (({ word := 5 } : QWord)))
  ∧ ((((pm.setChan 8 { posted := some { word := 5 } }).setf F.EYEc_STATUS_RSP_FULL 8 1)).sag = false ∨ (({ word := 5 } : QWord)).fin = false)
  ∧ ((∀ e ∈ (((pm.setChan 8 { posted := some { word := 5 } }).setf F.EYEc_STATUS_RSP_FULL 8 1)).eye.journal, e.ch < 9))
  ∧ okNext (.mfrEyeTake false) (((pm.setChan 8 { posted := some { word := 5 } }).setf F.EYEc_STATUS_RSP_FULL 8 1)) (fun t => decide ((t.chan 8).posted = none) && decide (t.on F.EYEc_STATUS_RSP_FULL 8 = false)) = true := by decide +kernel

theorem test_PmbusTarget_11 : (((pm.setf F.EYEc_STATUS_WR_REFUSED 8 1)).pmbUp = true)
  ∧ okNext (.mfrEyeClear false) ((pm.setf F.EYEc_STATUS_WR_REFUSED 8 1)) (fun t => decide (t.on F.EYEc_STATUS_WR_REFUSED 8 = false)) = true := by decide +kernel

theorem test_PmbusTarget_12 : (pm.pmbUp = true)
  ∧ (pmbCode ((0xFF : BitVec 8)).toNat = false)
  ∧ okNext (.pmbusInvalidCommand ((0xFF : BitVec 8))) pm (fun t => decide (t.trc.pmb.nack = true) && decide (t.trc.pmb.cml = setBit pm.trc.pmb.cml 7 true)) = true := by decide +kernel

theorem test_PmbusTarget_13 : (pm.pmbUp = true)
  ∧ okNext .alertResponse pm (fun t => decide (t.trc.pmb.nack = (!pm.pmbAlert)) && decide (t.trc.pmb.cml = pm.trc.pmb.cml) && decide (t.trc.pmb.reply = (if pm.pmbAlert then [2 * pm.f F.TRC_PMB_CFG_ADDR] else []))) = true := by decide +kernel

theorem test_PmbusTarget_14 : State.reset.pmbUp = false ∧ okNext (.readVout false) State.reset (fun t => decide (t.trc.pmb = State.reset.trc.pmb)) = true := by decide +kernel

theorem test_linear16_0750mV : linear16 1800 = 0x0C00 := by decide +kernel

theorem test_linear11_iout : linear11 18 (1900 * 8) 8 (-3) = 0x0BB6 ∧ linear11 18 (1903 * 8) 8 (-3) = 0x0BB8 := by decide +kernel

theorem test_linear11_pout : linear11 19 (1429 * 32000) 32000 (-4) = 0x0ACA := by decide +kernel

theorem test_BootAndResets_0 : okNext .coldReset ((up.setf F.LOOP_PCAP_PCAP 0 5)) (fun t => decide (t.regs = []) && decide (t.rst.cold = true) && decide (t.started = false) && decide (t.flt.errN = false) && decide (t.rd R.LOOP_PCAP 0 = R.LOOP_PCAP.rst 0)) = true := by decide +kernel

theorem test_BootAndResets_1 : (State.reset.rst.cold = true)
  ∧ okNext (.coldResetEnd ((63 : BitVec 6)) true true false) State.reset (fun t => decide (t.rst.cold = false) && decide (t.stage = 1) && decide (t.f F.LACE_ID_SITE = ((63 : BitVec 6)).toNat) && decide (t.on F.LACE_ID_HEAD_EN = true) && decide (t.on F.LACE_ID_IS_HEAD = true) && decide (t.rst.bootSrc = true) && decide ((false = false → rep t 0x00 0 ∧ t.on F.FLT_STATUS_SELF_FAULT = true))) = true := by decide +kernel

theorem test_BootAndResets_1_ok : (State.reset.rst.cold = true)
  ∧ okNext (.coldResetEnd ((0 : BitVec 6)) false false true) State.reset (fun t => decide (t.rst.cold = false) && decide (t.stage = 1) && decide (t.f F.LACE_ID_SITE = ((0 : BitVec 6)).toNat) && decide (t.on F.LACE_ID_HEAD_EN = false) && decide (t.on F.LACE_ID_IS_HEAD = false) && decide (t.rst.bootSrc = false) && decide ((true = false → rep t 0x00 0 ∧ t.on F.FLT_STATUS_SELF_FAULT = true))) = true := by decide +kernel

def bst1 : State := { State.reset.setf F.GOV_BOOT_STAGE 0 1 with rst := { State.reset.rst with cold := false } }

theorem test_BootAndResets_2 : (bst1.rst.cold = false)
  ∧ (bst1.stage = 1) := by decide +kernel

def st3 : State := bst1.setf F.GOV_BOOT_STAGE 0 3

theorem test_BootAndResets_3 : (st3.rst.cold = false)
  ∧ (st3.stage = 3)
  ∧ (3135 ≤ 3135)
  ∧ (3135 ≤ 3465)
  ∧ (3135 ≤ 3075 + 60) := by decide +kernel

theorem test_BootAndResets_3_high : (st3.rst.cold = false)
  ∧ (st3.stage = 3)
  ∧ (3135 ≤ 3465)
  ∧ (3465 ≤ 3465)
  ∧ (3465 ≤ 3405 + 60) := by decide +kernel

def st5 : State := ((bst1.setf F.GOV_BOOT_STAGE 0 5).setf F.GOV_BOOT_REFCLK_OK 0 1)

theorem test_BootAndResets_4 : (st5.rst.cold = false)
  ∧ (st5.rst.warm = false)
  ∧ (st5.pairFenced st5.activePair = false)
  ∧ (st5.stage = 5)
  ∧ (st5.on F.GOV_BOOT_REFCLK_OK = true)
  ∧ (0 = st5.bootSlot) := by decide +kernel

theorem test_BootAndResets_4_loader : (({ st5 with rst := { st5.rst with bootSrc := true } }).rst.cold = false)
  ∧ (({ st5 with rst := { st5.rst with bootSrc := true } }).rst.warm = false)
  ∧ (({ st5 with rst := { st5.rst with bootSrc := true } }).pairFenced ({ st5 with rst := { st5.rst with bootSrc := true } }).activePair = false)
  ∧ (({ st5 with rst := { st5.rst with bootSrc := true } }).stage = 5)
  ∧ (({ st5 with rst := { st5.rst with bootSrc := true } }).on F.GOV_BOOT_REFCLK_OK = true)
  ∧ (0 = ({ st5 with rst := { st5.rst with bootSrc := true } }).bootSlot) := by decide +kernel

def ldr : State := { (up.setf F.GOV_BOOT_STAGE 0 6) with rst := { up.rst with bootSrc := true } }

def post0 (w : Word64) : State := (ldr.setPair R.EYEc_CMD_LO R.EYEc_CMD_HI 0 w.toNat).setf F.EYEc_STATUS_CMD_FULL 0 1

theorem test_BootAndResets_5 : (((post0 0xF000010000001000)).loaderUp = true)
  ∧ (((post0 0xF000010000001000)).on F.EYEc_STATUS_CMD_FULL 0 = true)
  ∧ (((post0 0xF000010000001000)).replyRoom 0 = true)
  ∧ (((0xF000010000001000 : Word64)) = ((post0 0xF000010000001000)).cmdWord 0)
  ∧ (wSeq ((0xF000010000001000 : Word64)) ≠ ((post0 0xF000010000001000)).f F.EYEc_STATUS_EXP_SEQ 0)
  ∧ okNext (.bootLoaderWord false true) ((post0 0xF000010000001000)) (fun t => decide (t.f F.EYEc_STATUS_EXP_SEQ 0 = ((post0 0xF000010000001000)).f F.EYEc_STATUS_EXP_SEQ 0) && decide (t.on F.EYEc_STATUS_CMD_FULL 0 = false) && decide (∃ q ∈ (t.chan 0).queue, q.word = replyWord (wOp ((0xF000010000001000 : Word64))) (wSeq ((0xF000010000001000 : Word64))) ST_REFUSED false false false (refusedResult RS_SEQ (((post0 0xF000010000001000)).f F.EYEc_STATUS_EXP_SEQ 0)))) = true := by decide +kernel

theorem test_BootAndResets_6 : (((post0 0xF000000000001000)).loaderUp = true)
  ∧ (((post0 0xF000000000001000)).on F.EYEc_STATUS_CMD_FULL 0 = true)
  ∧ (((post0 0xF000000000001000)).replyRoom 0 = true)
  ∧ (((0xF000000000001000 : Word64)) = ((post0 0xF000000000001000)).cmdWord 0)
  ∧ (wSeq ((0xF000000000001000 : Word64)) = ((post0 0xF000000000001000)).f F.EYEc_STATUS_EXP_SEQ 0)
  ∧ (wOp ((0xF000000000001000 : Word64)) = 0xF0)
  ∧ ((((post0 0xF000000000001000)).holdWord 0 ((0xF000000000001000 : Word64))).loaderRefuses ((0xF000000000001000 : Word64)) false = none)
  ∧ okNext (.bootLoaderWord false true) ((post0 0xF000000000001000)) (fun t => decide (t.on F.EYEc_STATUS_CMD_FULL 0 = false) && decide (t.f F.EYEc_STATUS_EXP_SEQ 0 = (wSeq ((0xF000000000001000 : Word64)) + 1) % 2 ^ F.EYEc_STATUS_EXP_SEQ.len) && decide (t.eye.fw.imgSize = some (wArg ((0xF000000000001000 : Word64))).toNat) && decide (∃ q ∈ (t.chan 0).queue, q.word = replyWord 0xF0 (wSeq ((0xF000000000001000 : Word64))) ST_DONE false false false 0)) = true := by decide +kernel

def st8 : State := up.setf F.GOV_BOOT_STAGE 0 8

theorem test_BootAndResets_7 : (st8.stage = 8)
  ∧ (st8.vgov = true)
  ∧ (st8.rst.warm = false)
  ∧ (st8.rst.cold = false) := by decide +kernel

def st9 : State := up.setf F.GOV_BOOT_STAGE 0 9

theorem test_BootAndResets_8 : (st9.stage = 9)
  ∧ (st9.vgov = true)
  ∧ (st9.rst.warm = false)
  ∧ (st9.rst.cold = false)
  ∧ okNext .firmwareReady st9 (fun t => decide (t.stage = 10) && decide ((st9.eye.fw.resuming = false → st9.eye.fw.activating = none → t.rd R.GOV_LOCK = 7 ∧ t.eye.fw.running = true ∧ t.on F.EYE_FW_STANDBY_READY = (!st9.pairFenced (1 - st9.activePair)) ∧ (st9.relayOwns st9.noticeCh = false → st9.f F.EYE_NOTICE_QUEUED < 256 → noticB t 1 st9.eye.fw.restartKind)))) = true := by decide +kernel

theorem test_BootAndResets_9 : (({ up with ph := { up.ph with ph := [(3, { en := true, pwm := true })] } }).rst.cold = false)
  ∧ (({ up with ph := { up.ph with ph := [(3, { en := true, pwm := true })] } }).vgov = true) := by decide +kernel

theorem test_BootAndResets_10 : okNext .warmReset (up.setf F.FLT_STATUS_SAG_ACTIVE 0 1) (fun t => decide (t.rst.warmPending = some 1) && !t.rst.warm) = true := by decide +kernel

theorem test_BootAndResets_10_write : okNext (.govResetWrite true 1) (up.setf F.FLT_STATUS_SAG_ACTIVE 0 1) (fun t => decide (t.rst.warmPending = some 2) && !t.rst.warm) = true := by decide +kernel

theorem test_BootAndResets_11 : okNext .warmReset { up with rst := { up.rst with warm := true } } (fun t => t.rst.warm && decide (t.rst.warmAt = up.now)) = true := by decide +kernel

theorem test_BootAndResets_12 : up.portTakes R.GOV_RESET 0 = true ∧ up.sag = false ∧ up.rst.warm = false := by decide +kernel

theorem test_BootAndResets_13 : (({ (up.setf F.PWRd_STATUS_STEP 0x440 4) with rst := { up.rst with warm := true, warmAt := 990000 } }).rst.warm = true)
  ∧ (({ (up.setf F.PWRd_STATUS_STEP 0x440 4) with rst := { up.rst with warm := true, warmAt := 990000 } }).rst.cold = false)
  ∧ (({ (up.setf F.PWRd_STATUS_STEP 0x440 4) with rst := { up.rst with warm := true, warmAt := 990000 } }).passed ({ (up.setf F.PWRd_STATUS_STEP 0x440 4) with rst := { up.rst with warm := true, warmAt := 990000 } }).rst.warmAt (if ({ (up.setf F.PWRd_STATUS_STEP 0x440 4) with rst := { up.rst with warm := true, warmAt := 990000 } }).vgov then 10000 else 100000) = true) := by decide +kernel

theorem test_BootAndResets_14 : (((up.wr R.CRDSn_CFG 511 5)).rst.cold = false)
  ∧ (((up.wr R.CRDSn_CFG 511 5)).rst.warm = false)
  ∧ (((up.wr R.CRDSn_CFG 511 5)).rst.die = false) := by decide +kernel

theorem test_BootAndResets_15 : (State.reset.rst.cold = true ∨ State.reset.rst.warm = true ∨ State.reset.rst.die = true)
  ∧ okNext .dieReset State.reset (fun t => decide (t.rst.die = true) && decide (t.regs = State.reset.regs)) = true := by decide +kernel

def did : State := { up with rst := { up.rst with die := true } }

theorem test_BootAndResets_16 : ((({ did with eye := { did.eye with fw := { did.eye.fw with running := true } } })).rst.die = true)
  ∧ ((({ did with eye := { did.eye with fw := { did.eye.fw with running := true } } })).rst.warm = false)
  ∧ ((({ did with eye := { did.eye with fw := { did.eye.fw with running := true } } })).rst.cold = false)
  ∧ ((({ did with eye := { did.eye with fw := { did.eye.fw with running := true } } })).fwHoldsPlan = true) := by decide +kernel

theorem test_BootAndResets_17 : (did.rst.die = true)
  ∧ (did.rst.warm = false)
  ∧ (did.rst.cold = false)
  ∧ (did.fwHoldsPlan = false)
  ∧ okNext .dieResetEnd did (fun t => decide (t.rst.die = false) && decide (t.rd R.WELTc_GUARD 31 = R.WELTc_GUARD.rst 31)) = true := by decide +kernel

theorem test_BootAndResets_18 : (((up.setf F.GOV_ADOPT_STATUS 0 0)).portTakes R.GOV_ADOPT 0 = true)
  ∧ (((1 : Word)).getLsbD 0 = true)
  ∧ okNext (.adopt true ((1 : Word))) ((up.setf F.GOV_ADOPT_STATUS 0 0)) (fun t => decide (t.holding = false) && decide (t.rsp.err = false)) = true := by decide +kernel

theorem test_BootAndResets_19 : (((up.wr R.GOV_LOCK 0 1)).portTakes R.GOV_LOCK 0 = true)
  ∧ okNext (.govLockWrite true ((4 : Word))) ((up.wr R.GOV_LOCK 0 1)) (fun t => decide (t.rd R.GOV_LOCK 0 = 5)) = true := by decide +kernel

theorem test_BootAndResets_20 : okNext (.jtagInstruction 2) up (fun t => decide (t.sec.tap = (if 2 ≤ 2 ∨ ((2 = 3 ∨ 2 = 4) ∧ up.bitf F.GOV_SEC_SCOPE 0 0 = true ∧ up.allRailsOff = true) then 2 else 0))) = true := by decide +kernel

theorem test_BootAndResets_20_locked : okNext (.jtagInstruction 4) up (fun t => decide (t.sec.tap = (if 4 ≤ 2 ∨ ((4 = 3 ∨ 4 = 4) ∧ up.bitf F.GOV_SEC_SCOPE 0 0 = true ∧ up.allRailsOff = true) then 4 else 0))) = true := by decide +kernel

theorem test_BootAndResets_20_scope : okNext (.jtagInstruction 4) ((up.setBitf F.GOV_SEC_SCOPE 0 0 true)) (fun t => decide (t.sec.tap = (if 4 ≤ 2 ∨ ((4 = 3 ∨ 4 = 4) ∧ ((up.setBitf F.GOV_SEC_SCOPE 0 0 true)).bitf F.GOV_SEC_SCOPE 0 0 = true ∧ ((up.setBitf F.GOV_SEC_SCOPE 0 0 true)).allRailsOff = true) then 4 else 0))) = true := by decide +kernel

/-! ### Ill-formed terms: one for each check of WellFormed -/

theorem test_wf_refuses_0 : ([.seamCodeError 8 0 0 0, .seamCodeError 0 9 0 0, .seamResend 8 0 0 false, .seamResend 0 9
    0 false, .islandStop 8 0, .islandRestart 8 0, .tokenPost 1024 0, .tokenReject 1024, .tokenStaleReject 1024, .tileAdmit
    ⟨1024, 0, 0⟩, .tileAdmit ⟨0, 0, 65536⟩, .tileDone 1024, .epochBoundaryReport 1024, .demandReport 1024, .grantReceive
    1024, .rampAllowanceCompute 64, .rampAllowanceReceive 64, .rampWindowStart 64, .clampSourceAssert 6 0,
    .clampSourceAssert 0 4096, .partitionFault 1024 0, .partitionFault 0 2, .partitionReadmit false 1024 0 0,
    .partitionReadmit false 0 4 0] : List Instr).all (fun i => !i.wf) = true := by decide +kernel

theorem test_wf_refuses_1 : ([.roleWrite false 1024 0, .unitMessage ⟨1024, 0⟩ 0, .unitMessage ⟨0, 4⟩ 0, .jobClearWrite
    false 64 0, .weltHeadroomReport 64 0 0 0 0, .classUpRequest 1024, .classReady 64 0, .classExpire 64, .ceilHoldExpire
    64, .droopTrip 1024 0, .droopTrip 0 4, .stretchEnd ⟨1024, 0⟩, .kickExpire 64, .stormExit 64, .stormClampTimeout 64,
    .detectorStuck 1024 0, .detectorStuck 0 4, .detectorUnmask false 1024 0, .weltIlimStart 64 0, .weltIlimTimeout 64,
    .weltIlimRelease 64, .weltOv 64 0, .tfSample 96 0, .phaseCycle 96 [] []] : List Instr).all (fun i => !i.wf) = true :=
    by decide +kernel

theorem test_wf_refuses_2 : ([.softstartComplete 96, .phaseHiccupExpire 96 0 0, .senseLineOpen 96 0,
    .senseImplausibleCheck 8, .railSample 8 0 0 0 [], .phaseShed 8, .capabilityUpdate 8, .railOcHiccup 8,
    .railHiccupExpire 8, .brakeStart 8 0, .brakeEnd 8 0, .brakeTimeout 8, .phaseEnableWrite false 96 0, .phaseDisableWrite
    false 96 0, .disableHeldApply 96, .phaseQuietPoint 96 0, .phaseFailedReprobe false 96 0, .probeComplete 96 0 0,
    .absentProbe 96 0 0, .railTargetWrite false 8 0, .railOnWrite false 8 0, .railOffWrite false 8 0, .railCoefHold false
    8 0, .profileStep 8] : List Instr).all (fun i => !i.wf) = true := by decide +kernel

theorem test_wf_refuses_3 : ([.railEnterOn 8, .railStartTimeout 8, .railQuietPoint 8 [], .rsLoss 8 0, .rsRestore 8 0,
    .senseBothLost 8 0 0, .railOvervoltage 8 0 0, .slotSample 128, .slotHoldTimeout 128, .ceilingArrival 128, .slotEnable
    false 128 0, .slotDisable false 128 0, .slotQuietPoint 128, .notchAssign false 8 0, .lastMarker 16, .lastMarkerTimeout
    16, .lastFadeEnd 16, .lastCorrelationEval 16, .lastBinUpdate 16, .lastEnableWrite false 16 0, .activityWindow 1024 [],
    .thermalSample 3 [], .refreshRelease 3 0, .backstopRelease 1024] : List Instr).all (fun i => !i.wf) = true := by
    decide +kernel

theorem test_wf_refuses_4 : ([.waitIntent 0x470 0, .waitIntent 0 4, .domainReqWrite false 0x470 0, .domainCommit 0x470
    false [] 0 [], .drainTimeout 0x470, .wakeEvent 0x470 0, .wakeEvent 0 16, .saveAccessTimeout 0x470, .eyeletPost false 9
    false 0, .commandTake 9 false false, .replyPost 9, .replyTake false 9 0, .eyeWinWrite false 512 0, .commandFinalReply
    1024 false, .lockstepMismatch 2, .firmwareHeartbeatTimeout 2, .laceSymbolLock 2, .laceLanesAligned 2,
    .laceTrainTimeout 2, .lacePortDown 2 false, .laceWakePatternSend 2, .laceFrameCrcFail 2, .laceReservedType 2,
    .laceHello 2 []] : List Instr).all (fun i => !i.wf) = true := by decide +kernel

theorem test_wf_refuses_5 : ([.laceHelloSend 2, .laceDelayReqSend 2 0, .laceDelayReq 2 [] 0, .laceDelayRsp 2 [] 0,
    .laceTime 2 [] 0, .laceJoin 2 [], .laceMembers 2 [], .laceReport 2 [], .laceDebt 2 [], .laceShare 2 [],
    .laceMemberTimeout 64, .laceSlow 2 [], .laceRelayCmd 2 [], .laceRelayRsp 2 [], .laceRelayRetry 1024, .unclearedWrite
    false 256 0, .retentionReport 1024 0, .traceDropReport 15, .traceFrameSend 0, .traceFrameSend 65, .stallCycle ⟨1024,
    0, 0⟩, .stallCycle ⟨0, 0, 65536⟩, .laceMessageForward 2 [] 0] : List Instr).all (fun i => !i.wf) = true := by
    decide +kernel

theorem test_wf_accepts : ([.registerWrite true 0 0, .tokenReject 1023, .tileAdmit ⟨0, 0, 0⟩] : List Instr).all Instr.wf = true := by decide +kernel

/-! ### The words of the table, and worked examples of the spec -/

theorem test_no_word_spells_a_command : decodeTableWord 64 0 = none ∧ decodeTableWord 0 0 = none := by decide +kernel

theorem test_withFetchWord : (State.reset.withFetchWord 8 5 = State.reset) := by decide +kernel

theorem test_crc32c : crc32c [0x31, 0x32, 0x33, 0x34, 0x35, 0x36, 0x37, 0x38, 0x39] = 0xE3069283 := by decide +kernel

theorem test_crc16 : crc16 [0x31, 0x32, 0x33, 0x34, 0x35, 0x36, 0x37, 0x38, 0x39] = 0x29B1 := by decide +kernel

theorem test_lane_bytes : LaceFrame.laneBytes ⟨0, 0x0706050403020100, 0xABCD⟩ 0 = [0, 2, 4, 6, 0xAB]
  ∧ LaceFrame.laneBytes ⟨0, 0x0706050403020100, 0xABCD⟩ 1 = [1, 3, 5, 7, 0xCD] := by decide +kernel

theorem test_trace_frame_blocks : (({ lastFrameHdr := [5, 3, 258, 2, 0], lastFrame := [1, 2 ^ 64] } : TrcSt).frameBlocks).map (·.1)
  = [some 0x78, none, none, none, none, none, some 0x87] := by decide +kernel

theorem test_sync_out : (State.reset.syncOut 0 = false) ∧ (let s := (State.reset.setf F.PH_SYNC_OUT_EN 0 1).setf F.PH_SYNC_OUT_ANGLE 0 64
  (s.syncOut 0 = false ∧ s.syncOut 16383 = false ∧ s.syncOut 16384 = true ∧ s.syncOut 49151 = true ∧ s.syncOut 49152 = false)) := by decide +kernel

theorem test_tile_cost : tileCost 0x04028A08 128 (BitVec.ofNat 64 (8 * 2 ^ 57 + 127 * 2 ^ 50 + 127 * 2 ^ 43 + 24 * 2 ^ 33 + 24 * 2 ^ 23 + 0 * 2 ^ 22)) = 36 ∧ tileCost 0x04028A08 128 (BitVec.ofNat 64 (8 * 2 ^ 57 + 127 * 2 ^ 50 + 127 * 2 ^ 43 + 24 * 2 ^ 33 + 24 * 2 ^ 23 + 1 * 2 ^ 22)) = 40
  ∧ tileCost 0x04028A08 128 (BitVec.ofNat 64 (8 * 2 ^ 57 + 63 * 2 ^ 50 + 127 * 2 ^ 43 + 24 * 2 ^ 33 + 24 * 2 ^ 23 + 0 * 2 ^ 22)) = 20 := by decide +kernel

/-- The four stations of the example of R80: A, B, C, D, in 1/16 ec. -/
def fourStations : List Entrant := [{ n := 0, r := 0, cls := 3, weight := 2, want := 1760, held := none, grant := 0 },
  { n := 1, r := 0, cls := 1, weight := 4, want := 2080, held := none, grant := 0 },
  { n := 2, r := 0, cls := 1, weight := 2, want := 1440, held := none, grant := 0 },
  { n := 3, r := 0, cls := 1, weight := 2, want := 0, held := none, grant := 0 }]

theorem test_refill_example : (fillClasses fourStations 4 4880).1.map (·.grant) = [1760, 2080, 1040, 0] ∧ (fillClasses fourStations 4 4880).2 = 0
  ∧ fillLevel fourStations 1 3120 = 520 := by decide +kernel

theorem test_module_budget_6000W : shareLevel [20800, 6400, 22400, 14400] (16 * 3600) = (16 * 1150, 0)
  ∧ shareWant 9600 28800 24000 96 = 16 * 900 := by decide +kernel

theorem test_module_budget_7000W : (shareLevel [20800, 6400, 22400, 14400] (16 * 4600)).2 = 16 * 600 := by decide +kernel

theorem test_predictor_example : divNearest ((((up.wr R.PREDSs_BIAS 3 0).wr R.PREDSs_OUT 3 (8 * 65536 + 40 * 256 + 32)).wr R.PREDSs_GAIN 3 (128 * 65536 + 32768)).narrowNum 3 306 0 [30, -4]) (2 ^ 29) = 42 := by decide +kernel

theorem test_RefillCreatesNoCredit_1 : (∀ e ∈ fourStations, e.cls < 4 ∧ (0 < e.want → e.grant = 0))
  ∧ ((fillClasses fourStations 4 4880).1.map (·.grant)).sum + (fillClasses fourStations 4 4880).2 = 4880 := by decide +kernel

theorem test_RefillCreatesNoCredit_3 : (fillClasses fourStations 4 4880).1.any (fun e => decide (0 < e.want) && (fillClasses fourStations 4 4880).1.any (fun x =>
    decide (x.cls < e.cls) && decide (0 < x.want) && decide (0 < x.grant))) = true := by decide +kernel

end Sys2Proof.Tests
end

section
/-! SUPPORT. The CFG port: what finding a register gives, which requests the port refuses, what a plain register write does
bit by bit, and what reads and writes of 64-bit pairs leave behind. -/
namespace Sys2Proof.Machine
open Sys2Proof

/-! ### Finding a register (R568) -/

/-- The register found for an offset lies there, and the instance is one that the map lays out. -/
theorem findReg_some {off : Nat} {r : Reg} {i : Nat} (h : findReg off = some (r, i)) :
    r ∈ regsAt off ∧ r.off ≤ off ∧ (off - r.off) % r.stride = 0 ∧ (off - r.off) / r.stride = i ∧ i < r.count := by
  unfold findReg at h
  split at h
  · cases h
  · next q hq =>
    obtain ⟨rfl, rfl⟩ : q = r ∧ (off - q.off) / q.stride = i := by simpa using h
    have hp := List.find?_some hq
    simp only [Bool.and_eq_true, decide_eq_true_eq, beq_iff_eq] at hp
    obtain ⟨⟨hle, hmod⟩, hlt⟩ := hp
    exact ⟨List.mem_of_find?_eq_some hq, hle, hmod, rfl, hlt⟩

theorem findReg_lt {off : Nat} {r : Reg} {i : Nat} (h : findReg off = some (r, i)) : i < r.count :=
  (findReg_some h).2.2.2.2

/-! ### A 32-bit write by its offset (R2, R19, R530, R551, R564, R569) -/

theorem State.write32_unprivileged (s : State) (off : Nat) (w : Word) : s.write32 false off w = s.respond true := by
  unfold State.write32
  split
  · simp [State.writeInsole]
  · split
    · simp
    · exact s.cfgWrite_unprivileged ..

/-- A write of a register is the port's write of what the register does. -/
theorem State.write32_reg {s : State} {off : Nat} {r : Reg} {i : Nat} (priv : Bool) (w : Word) (hoff : off < 0x80000)
    (hr : findReg off = some (r, i)) :
    s.write32 priv off w = s.cfgWrite priv r i (fun s => s.regWrite .cfg r i w) := by
  rw [State.write32, if_neg (by omega), hr]

theorem State.write32_reserved {s : State} {off : Nat} (priv : Bool) (w : Word) (hoff : off < 0x80000)
    (hr : findReg off = none) : s.write32 priv off w = s.respond (s.rst.cold || !priv) := by
  rw [State.write32, if_neg (by omega), hr]

section
variable {s : State} {r : Reg} {i : Nat} (g : State → State × Bool)

theorem State.cfgWrite_absent (h : presentIdx r.pres i = false) : s.cfgWrite true r i g = s.respond s.rst.cold := by
  simp [State.cfgWrite, h]

theorem State.cfgWrite_stopped (hp : presentIdx r.pres i = true) (hi : i < r.count) (h : s.answers (r.at i) r i = false) :
    s.cfgWrite true r i g = s.respond true := by
  simp [State.cfgWrite, hp, hi, h]

theorem State.cfgWrite_held (hp : presentIdx r.pres i = true) (hi : i < r.count)
    (h : (heldBlock (r.at i) && s.holding) = true) : s.cfgWrite true r i g = s.respond true := by
  cases ha : s.answers (r.at i) r i
  · exact State.cfgWrite_stopped g hp hi ha
  · rw [State.cfgWrite, if_neg (by simp), if_neg (by simp [hp, hi]), if_neg (by simp [ha]), if_pos h]

/-- A warm reset holds the register: the write has no effect and draws no error (R19). -/
theorem State.cfgWrite_warm (hp : presentIdx r.pres i = true) (hi : i < r.count) (ha : s.answers (r.at i) r i = true)
    (hh : (heldBlock (r.at i) && s.holding) = false) (hw : s.rst.warm = true) (hd : r.dom ≠ .cold) :
    s.cfgWrite true r i g = s.respond false := by
  rw [State.cfgWrite, if_neg (by simp), if_neg (by simp [hp, hi]), if_neg (by simp [ha]), if_neg (by simp [hh]),
    if_pos (by simp [hw, hd])]

end

/-- A command that answers a known state meets what that state meets. -/
theorem Completes.of_next {i : Instr} {s t u : State} {P : State → Prop} (h : exec i s = .next t) (e : t = u) (hp : P u) :
    Completes i s P := ⟨u, e ▸ h, hp⟩

/-- Settles O7: each refusal is the branch of the port's write that its premises select. -/
theorem refusedCfgRequests : Obligations.RefusedCfgRequests := by
  refine ⟨fun s addr w => ?_, fun s priv addr w h => ?_, fun s priv addr h => ?_, fun s addr w r i hoff hr hc hp => ?_,
    fun s addr w r i hoff hr hp h => ?_, fun s addr w r i hoff hr hp ha hh hw hd => ?_, fun s addr w hoff hr hc => ?_⟩
  case refine_1 => exact congrArg _ (s.write32_unprivileged ..)
  case refine_2 => exact congrArg _ (if_pos h)
  case refine_3 => exact congrArg _ (if_pos h)
  case refine_4 => exact congrArg _ ((State.write32_reg true w hoff hr).trans (by rw [State.cfgWrite_absent _ hp, hc]))
  case refine_5 =>
    refine congrArg _ ((State.write32_reg true w hoff hr).trans ?_)
    rcases h with h | ⟨hb, hs⟩
    · exact State.cfgWrite_stopped _ hp (findReg_lt hr) h
    · exact State.cfgWrite_held _ hp (findReg_lt hr) (by rw [hb, hs]; rfl)
  case refine_6 =>
    exact congrArg _ ((State.write32_reg true w hoff hr).trans (State.cfgWrite_warm _ hp (findReg_lt hr) ha hh hw hd))
  case refine_7 => exact congrArg _ ((State.write32_reserved true w hoff hr).trans (by rw [hc]; rfl))

/-! ### 64-bit pairs (R18, R548, R550) -/

theorem State.read64_aligned (s : State) (priv : Bool) {off : Nat} (h : off % 8 = 0) :
    s.read64 priv off = s.respond ((s.readWord priv off).2 || (s.readWord priv (off + 4)).2)
      ((s.readWord priv (off + 4)).1 ++ (s.readWord priv off).1) :=
  if_neg (by omega)

/-- A read with privilege of the low word of a pair latches the high word. -/
theorem State.read32_pairLo {s : State} {off : Nat} {r : Reg} {i : Nat} (hr : findReg off = some (r, i))
    (hp : presentIdx r.pres i = true) (hlo : isPairLo r = true) (he : (s.readWord true off).2 = false) :
    s.read32 true off = ({ s with shadow := Tab.set 0 s.shadow off (s.readWord true (off + 4)).1 } : State).respond false
      ((s.readWord true off).1.setWidth 64) := by
  simp [State.read32, hr, hp, hlo, he]

/-- A read with privilege of the high word of a pair returns the shadow. -/
theorem State.read32_pairHi {s : State} {off : Nat} {r : Reg} {i : Nat} (hr : findReg off = some (r, i))
    (hp : presentIdx r.pres i = true) (hlo : isPairLo r = false) (hhi : isPairHi r = true)
    (he : (s.readWord true off).2 = false) :
    s.read32 true off = s.respond false ((Tab.get 0 s.shadow (off - 4)).setWidth 64) := by
  simp [State.read32, hr, hp, hlo, hhi, he]

/-- The higher word of a 64-bit operand. -/
theorem ofNat_toNat_div (w : Word64) : BitVec.ofNat 32 (w.toNat / 2 ^ 32) = (w >>> 32).setWidth 32 := by
  apply BitVec.eq_of_toNat_eq
  simp [BitVec.toNat_ofNat, Nat.shiftRight_eq_div_pow]

/-- Away from the two registers that take 64 bits as one word, a 64-bit write is the lower word's write, then the higher's. -/
theorem State.write64_words {s : State} {off : Nat} (priv : Bool) (w : Word64) (h8 : off % 8 = 0)
    (hr : ∀ r i, findReg off = some (r, i) → r.off ≠ 0x01100 ∧ r.off ≠ 0x70010) :
    s.write64 priv off w = ((s.write32 priv off (w.setWidth 32)).write32 priv (off + 4) ((w >>> 32).setWidth 32)).respond
      ((s.write32 priv off (w.setWidth 32)).rsp.err
        || ((s.write32 priv off (w.setWidth 32)).write32 priv (off + 4) ((w >>> 32).setWidth 32)).rsp.err) := by
  rw [State.write64, if_neg (by omega)]
  simp only [ofNat_toNat_div]
  split
  · next r i hf => obtain ⟨h1, h2⟩ := hr r i hf; rw [if_neg h1, if_neg h2]
  · rfl

/-- Settles O8: each access is the branch of the port's read or write that its premises select. -/
theorem readShadowsOfPairs : Obligations.ReadShadowsOfPairs := by
  refine ⟨fun s addr r i hr hp hlo he => ?_, fun s addr r i hr hp hlo hhi he => ?_, fun s priv addr h => ?_,
    fun s priv addr w h _ hr => ?_⟩
  case refine_1 => exact .of_next rfl (State.read32_pairLo hr hp hlo he) ⟨rfl, Tab.get_set_same .., rfl⟩
  case refine_2 => exact .of_next rfl (State.read32_pairHi hr hp hlo hhi he) ⟨rfl, rfl⟩
  case refine_3 => exact .of_next rfl (s.read64_aligned priv h) ⟨rfl, rfl⟩
  case refine_4 => exact .of_next rfl (State.write64_words priv w h hr) ⟨rfl, rfl⟩

end Sys2Proof.Machine
end

section
/-! SUPPORT. A plain register write, bit by bit (R13, R16, R17). -/
namespace Sys2Proof.Machine
open Sys2Proof

/-! ### The fields of a register -/

theorem mem_or_of_mem_ite {α : Type} {c : Prop} [Decidable c] {a b : List α} {x : α} (h : x ∈ if c then a else b) :
    x ∈ a ∨ x ∈ b := by
  split at h
  · exact .inl h
  · exact .inr h

/-- The ranges of R568 hold registers of the map only. -/
theorem mem_allRegs_of_regsAt {off : Nat} {r : Reg} (h : r ∈ regsAt off) : r ∈ allRegs := by
  unfold regsAt at h
  delta allRegs
  simp only [List.mem_append]
  iterate 18
    rcases mem_or_of_mem_ite h with h | h
    · simp only [h, true_or, or_true]
  cases h

/-- The fields of a register lie inside its word and share no bit. -/
def fieldsOk (l : List WField) : Prop :=
  (∀ x ∈ l, x.lo ≤ x.hi ∧ x.hi < 32) ∧ l.Pairwise (fun x y => x.hi < y.lo ∨ y.hi < x.lo)

theorem fieldsOk_of_mem {r : Reg} (h : r ∈ allRegs) : fieldsOk r.wf := by
  have hall : ∀ r ∈ allRegs, (∀ x ∈ r.wf, x.lo ≤ x.hi ∧ x.hi < 32) ∧
      r.wf.Pairwise (fun x y => x.hi < y.lo ∨ y.hi < x.lo) := by decide +kernel
  exact hall r h

/-- The field of a register found at an offset. -/
theorem fieldsOk_of_findReg {off : Nat} {r : Reg} {i : Nat} (h : findReg off = some (r, i)) : fieldsOk r.wf :=
  fieldsOk_of_mem (mem_allRegs_of_regsAt (findReg_some h).1)

/-! ### The bits of a word -/

/-- A field put from another word takes that word's bits; the other bits stay. -/
theorem getLsbD_putBits_getBits (w new : Word) {lo len : Nat} (h : lo + len ≤ 32) (hl : 0 < len) (k : Nat) :
    (putBits w lo len (getBits new lo len)).getLsbD k = if lo ≤ k ∧ k < lo + len then new.getLsbD k else w.getLsbD k := by
  have hm := fieldMask_bit lo len k h hl
  simp only [putBits, getBits, BitVec.getLsbD_or, BitVec.getLsbD_and, BitVec.getLsbD_not, hm, BitVec.getLsbD_shiftLeft,
    BitVec.getLsbD_ofNat, BitVec.testBit_toNat, BitVec.getLsbD_extractLsb']
  by_cases hk : lo ≤ k ∧ k < lo + len
  · obtain ⟨h1, h2⟩ := hk
    simp [h1, h2, show k < 32 by omega, show k - lo < 32 by omega, show k - lo < len by omega]
  · by_cases h32 : k < 32
    · have : (decide (lo ≤ k) && decide (k < lo + len)) = false := by simpa using hk
      simp [hk, this, h32]
    · simp [hk, h32, BitVec.getLsbD_of_ge _ _ (Nat.le_of_not_lt h32)]

/-- Two words that read the same in a field have the same bits there. -/
theorem getBits_eq_iff (w v : Word) (lo len : Nat) :
    getBits w lo len = getBits v lo len ↔ ∀ k, lo ≤ k → k < lo + len → w.getLsbD k = v.getLsbD k := by
  unfold getBits
  rw [← BitVec.toNat_eq]
  constructor
  · intro h k h1 h2
    have := congrArg (fun b => b.getLsbD (k - lo)) h
    simpa [show k - lo < len by omega, show lo + (k - lo) = k by omega] using this
  · intro h
    refine BitVec.eq_of_getLsbD_eq fun k hk => ?_
    simpa [hk] using h (lo + k) (by omega) (by omega)

/-! ### One field of a write -/

section
variable (s : State) (b : Writer) (new : Word)

/-- What a write makes of bit `k` of field `x`, where the register holds `old`. -/
def writtenBit (old : Word) (x : WField) (k : Nat) : Bool :=
  match x.acc with
  | .rw => new.getLsbD k
  | .w1c => old.getLsbD k && !new.getLsbD k
  | .rwl l => if s.locked b l x.lo old then old.getLsbD k else new.getLsbD k

/-- A write would change field `x`, which is locked. -/
def refusedField (old : Word) (x : WField) : Bool :=
  match x.acc with
  | .rwl l => s.locked b l x.lo old
      && decide (getBits new x.lo (x.hi + 1 - x.lo) ≠ getBits old x.lo (x.hi + 1 - x.lo))
  | _ => false

variable {s b new} {x : WField}

/-- A lock bit itself is the lowest bit of its field. -/
theorem State.locked_congr {l : Lock} {lo : Nat} {w v : Word} (h : w.getLsbD lo = v.getLsbD lo) :
    s.locked b l lo w = s.locked b l lo v := by
  cases l <;> simp [State.locked, h]

/-- Only the field's own bits matter. -/
theorem writtenBit_congr {w v : Word} (hx : x.lo ≤ x.hi) (h : ∀ k, x.lo ≤ k → k ≤ x.hi → w.getLsbD k = v.getLsbD k)
    {k : Nat} (h1 : x.lo ≤ k) (h2 : k ≤ x.hi) : writtenBit s b new w x k = writtenBit s b new v x k := by
  unfold writtenBit
  split
  · rfl
  · rw [h k h1 h2]
  · rw [h k h1 h2, State.locked_congr (h _ le_rfl hx)]

theorem refusedField_congr {w v : Word} (hx : x.lo ≤ x.hi) (h : ∀ k, x.lo ≤ k → k ≤ x.hi → w.getLsbD k = v.getLsbD k) :
    refusedField s b new w x = refusedField s b new v x := by
  unfold refusedField
  split
  · rw [State.locked_congr (h _ le_rfl hx), (getBits_eq_iff w v _ _).2 fun k h1 h2 => h k h1 (by omega)]
  · rfl

/-- One field of a write: its own bits are written, the others stay, and a refusal is remembered. -/
theorem mergeField_spec (w : Word) (e : Bool) (hx : x.lo ≤ x.hi) (hi : x.hi < 32) :
    (∀ k, (mergeField s b new (w, e) x).1.getLsbD k =
      if x.lo ≤ k ∧ k ≤ x.hi then writtenBit s b new w x k else w.getLsbD k) ∧
    (mergeField s b new (w, e) x).2 = (e || refusedField s b new w x) := by
  have hput := getLsbD_putBits_getBits w new (lo := x.lo) (len := x.hi + 1 - x.lo) (by omega) (by omega)
  have hin (k : Nat) : (x.lo ≤ k ∧ k < x.lo + (x.hi + 1 - x.lo)) ↔ (x.lo ≤ k ∧ k ≤ x.hi) := by omega
  simp only [hin] at hput
  unfold mergeField writtenBit refusedField
  cases x.acc with
  | rw => exact ⟨hput, by simp⟩
  | w1c =>
    refine ⟨fun k => ?_, by simp⟩
    have hm := fieldMask_bit x.lo (x.hi + 1 - x.lo) k (by omega) (by omega)
    simp only [BitVec.getLsbD_and, BitVec.getLsbD_not, hm]
    by_cases hk : x.lo ≤ k ∧ k ≤ x.hi
    · obtain ⟨h1, h2⟩ := hk
      simp [h1, h2, show k < 32 by omega, show k < x.lo + (x.hi + 1 - x.lo) by omega]
    · have : (decide (x.lo ≤ k) && decide (k < x.lo + (x.hi + 1 - x.lo))) = false := by
        simpa [← hin k] using hk
      by_cases h32 : k < 32
      · simp [hk, this, h32]
      · simp [hk, this, BitVec.getLsbD_of_ge _ _ (Nat.le_of_not_lt h32)]
  | rwl l =>
    simp only
    by_cases hv : getBits new x.lo (x.hi + 1 - x.lo) = getBits w x.lo (x.hi + 1 - x.lo)
    · have hb := (getBits_eq_iff ..).1 hv
      refine ⟨fun k => ?_, by simp [hv]⟩
      rw [if_pos hv]
      by_cases hk : x.lo ≤ k ∧ k ≤ x.hi
      · simp [hk, hb k hk.1 (by omega)]
      · simp [hk]
    · rw [if_neg hv]
      cases hl : s.locked b l x.lo w
      · exact ⟨by simpa using hput, by simp⟩
      · exact ⟨by simp, by simp [hv]⟩

/-! ### All fields of a write -/

/-- The fields of a write do not meet, so each is written as if alone. -/
theorem merge_spec (l : List WField) (hl : fieldsOk l) (w : Word) (e : Bool) :
    (∀ x ∈ l, ∀ k, x.lo ≤ k → k ≤ x.hi → (l.foldl (mergeField s b new) (w, e)).1.getLsbD k = writtenBit s b new w x k) ∧
    (∀ k, (∀ x ∈ l, k < x.lo ∨ x.hi < k) → (l.foldl (mergeField s b new) (w, e)).1.getLsbD k = w.getLsbD k) ∧
    (l.foldl (mergeField s b new) (w, e)).2 = (e || l.any (refusedField s b new w)) := by
  induction l generalizing w e with
  | nil => simp
  | cons y l ih =>
    obtain ⟨hin, hdis⟩ := hl
    obtain ⟨hy, hdis⟩ := List.pairwise_cons.1 hdis
    have hin' : ∀ x ∈ l, x.lo ≤ x.hi ∧ x.hi < 32 := fun x hx => hin x (List.mem_cons_of_mem _ hx)
    obtain ⟨hylo, hyhi⟩ := hin y List.mem_cons_self
    obtain ⟨hbits, herr⟩ := mergeField_spec (s := s) (b := b) (new := new) w e hylo hyhi
    obtain ⟨ih1, ih2, ih3⟩ := ih ⟨hin', hdis⟩ (mergeField s b new (w, e) y).1 (mergeField s b new (w, e) y).2
    have hsame : ∀ x ∈ l, ∀ k, x.lo ≤ k → k ≤ x.hi → (mergeField s b new (w, e) y).1.getLsbD k = w.getLsbD k :=
      fun x hx k h1 h2 => by rw [hbits, if_neg]; have := hy x hx; omega
    rw [List.foldl_cons]
    refine ⟨fun x hx k h1 h2 => ?_, fun k hk => ?_, ?_⟩
    · rcases List.mem_cons.1 hx with rfl | hx
      · rw [ih2 k fun z hz => by have := hy z hz; omega, hbits, if_pos ⟨h1, h2⟩]
      · rw [ih1 x hx k h1 h2, writtenBit_congr (hin' x hx).1 (hsame x hx) h1 h2]
    · rw [ih2 k fun z hz => hk z (List.mem_cons_of_mem _ hz), hbits, if_neg]
      have := hk y List.mem_cons_self
      omega
    · rw [ih3, herr, List.any_cons, Bool.or_assoc]
      congr 2
      simp only [List.any_eq]
      exact decide_eq_decide.2 (exists_congr fun x => and_congr_right fun hx => by
        rw [refusedField_congr (hin' x hx).1 (hsame x hx)])

end

/-- A register whose write is no action of its block takes the plain write. -/
theorem State.regWrite_plain {s : State} {b : Writer} {r : Reg} {i : Nat} {w : Word} (h1 : s.actGov b r i w = none)
    (h2 : s.actDie b r i w = none) : s.regWrite b r i w = writeReg s b r i w := by
  simp only [State.regWrite, h1, h2]

/-- Settles O6: the write is the fold of the register's fields, which do not meet. -/
theorem registerWriteBits : Obligations.RegisterWriteBits := by
  intro s addr w r i hoff hr hp hg hd
  obtain ⟨hin, hout, herr⟩ := merge_spec (s := s) (b := .cfg) (new := w) r.wf (fieldsOk_of_findReg hr) (s.rd r i) false
  refine .of_next rfl ((State.write32_reg true w hoff hr).trans (State.cfgWrite_takes _ hp)) ?_
  simp only [State.regWrite_plain hg hd]
  have hrd : ((writeReg s .cfg r i w).1.respond (writeReg s .cfg r i w).2).rd r i = (merge s .cfg r i w).1 :=
    State.rd_wr_same ..
  rw [hrd]
  exact ⟨hin, hout, herr, fun q j hq => State.rd_wr_other s _ hq, rfl⟩

end Sys2Proof.Machine
end

section
/-! SUPPORT. The laws on the canonical form of the memories in the shape in which they chain: `h.setf.log` proves the form of
`(s.setf ..).log ..` from `h : s.Inv`, as the model writes the operations one after another. -/
namespace Sys2Proof.Machine
open Sys2Proof

/-- Whatever next state the command answers, its memories are canonical. -/
def Keeps (o : Host.Outcome State Fault Refusal) : Prop := ∀ t, o = .next t → t.Inv

theorem Keeps.next {s : State} (h : s.Inv) : Keeps (.next s) := fun _ e => by cases e; exact h

/-! ### Branches and loops -/

section
variable {c : Prop} [Decidable c] {α β : Type}

theorem State.Inv.ite {s t : State} (hs : s.Inv) (ht : t.Inv) : (if c then s else t).Inv := by
  split
  · exact hs
  · exact ht

theorem Keeps.ite {p q : Host.Outcome State Fault Refusal} (hp : Keeps p) (hq : Keeps q) : Keeps (if c then p else q) := by
  split
  · exact hp
  · exact hq

/-- A branch between two answers that carry a state. -/
theorem State.Inv.ite_fst {p q : State × α} (hp : p.1.Inv) (hq : q.1.Inv) : (if c then p else q).1.Inv := by
  split
  · exact hp
  · exact hq

/-- The state of an answer. -/
theorem State.Inv.fst {s : State} {a : α} (h : s.Inv) : (s, a).1.Inv := h

/-- The state of an answer that was taken apart. -/
theorem State.Inv.of_eq {q : State × α} {t : State} {a : α} (h : q.1.Inv) (e : q = (t, a)) : t.Inv := by
  subst e
  exact h

theorem State.Inv.foldl {f : State → β → State} {l : List β} {s : State} (h : s.Inv)
    (hf : ∀ s x, s.Inv → (f s x).Inv) : (l.foldl f s).Inv := State.inv_foldl hf l h

theorem State.Inv.foldl_fst {f : State × α → β → State × α} {l : List β} {q : State × α} (h : q.1.Inv)
    (hf : ∀ q x, q.1.Inv → (f q x).1.Inv) : (l.foldl f q).1.Inv := by
  induction l generalizing q with
  | nil => exact h
  | cons x r ih => exact ih (hf q x h)

end

/-! ### Records outside the three memories -/

section
variable {s : State} (h : s.Inv)
include h

/-- The state under a name, so that a check by evaluation stops at it. -/
theorem State.Inv.generalized : ∃ t : State, t.Inv ∧ t = s := ⟨s, h, rfl⟩

/-- An update of any records but those that hold a memory. -/
theorem State.Inv.upd {pending regs shadow free served rsp time seams islands trc sec rst tele crd welt ph rails loop lasts thm
    lace trd} : (State.mk pending regs shadow free served rsp time seams islands s.eye s.flt trc sec rst tele crd welt ph rails
      loop lasts thm s.pwr lace trd).Inv := h

theorem State.Inv.flt {x : FltSt} (hx : x.mram = s.flt.mram := by rfl) : ({ s with flt := x } : State).Inv :=
  State.inv_of_memories (s := s) hx rfl rfl h

/-- An update of records that leaves the three memories. -/
theorem State.Inv.same {t : State} (h1 : t.flt.mram = s.flt.mram := by rfl) (h2 : t.eye.pages = s.eye.pages := by rfl)
    (h3 : t.pwr.insole = s.pwr.insole := by rfl) : t.Inv := State.inv_of_memories h1 h2 h3 h

/-- A write of the MRAM. -/
theorem State.Inv.mramWrite {a : Nat} {l : List Byte} :
    ({ s with flt := { s.flt with mram := memWrite s.flt.mram a l } } : State).Inv :=
  State.inv_mram h (Memory.wf_write _ _ h.1)

theorem State.Inv.eye {x : EyeSt} (hx : x.pages = s.eye.pages := by rfl) : ({ s with eye := x } : State).Inv :=
  State.inv_of_memories (s := s) rfl hx rfl h

/-- A write of the Insole, and the loss of some of its bytes. -/
theorem State.Inv.insoleWrite {a : Nat} {l : List Byte} :
    ({ s with pwr := { s.pwr with insole := insWrite s.pwr.insole a l } } : State).Inv :=
  ⟨h.1, h.2.1, Insole.wf_write _ _ h.2.2⟩

theorem State.Inv.insoleFilter {p : Host.Cell → Bool} :
    ({ s with pwr := { s.pwr with insole := s.pwr.insole.filter p } } : State).Inv :=
  ⟨h.1, h.2.1, Insole.wf_filter _ h.2.2⟩

theorem State.Inv.pwr {x : PwrSt} (hx : x.insole = s.pwr.insole := by rfl) : ({ s with pwr := x } : State).Inv :=
  State.inv_of_memories (s := s) rfl rfl hx h

end
end Sys2Proof.Machine
end

section
/-! SUPPORT. Every operation of the model keeps the three memories canonical: one law for each, in the order of the model. -/
namespace Sys2Proof.Machine
open Sys2Proof

-- The side conditions found by tactics wait for the laws before them: one after another, they hold no thread each.
set_option Elab.async false

section
variable {s : State} (h : s.Inv)
include h

/-! ### Ops -/

theorem State.Inv.wr {r : Reg} {i : Nat} {w : Word} : (s.wr r i w).Inv := (State.inv_wr ..).2 h

theorem State.Inv.setf {x : Fld} {i v : Nat} : (s.setf x i v).Inv := (State.inv_setf ..).2 h

theorem State.Inv.setb {x : Fld} {i : Nat} {b : Bool} : (s.setb x i b).Inv := (State.inv_setb ..).2 h

theorem State.Inv.incf {x : Fld} {i v : Nat} : (s.incf x i v).Inv := (State.inv_incf ..).2 h

theorem State.Inv.satf {x : Fld} {i v : Nat} : (s.satf x i v).Inv := (State.inv_satf ..).2 h

theorem State.Inv.setBitf {x : Fld} {i k : Nat} {b : Bool} : (s.setBitf x i k b).Inv := (State.inv_setBitf ..).2 h

theorem State.Inv.setfi {x : Fld} {i : Nat} {v : Int} : (s.setfi x i v).Inv := (State.inv_setfi ..).2 h

theorem State.Inv.setfiSat {x : Fld} {i : Nat} {v : Int} : (s.setfiSat x i v).Inv := h.setfi

theorem State.Inv.setfSat {x : Fld} {i v : Nat} : (s.setfSat x i v).Inv := h.setf

theorem State.Inv.setPair {lo hi : Reg} {i v : Nat} : (s.setPair lo hi i v).Inv := (State.inv_setPair ..).2 h

theorem State.Inv.clr {r : Reg} {i : Nat} : (s.clr r i).Inv := (State.inv_clr ..).2 h

theorem State.Inv.clrAll {r : Reg} : (s.clrAll r).Inv := h.upd

theorem State.Inv.usedFree : s.usedFree.Inv := (State.inv_usedFree ..).2 h

theorem State.Inv.serve {kind i : Nat} : (s.serve kind i).Inv := (State.inv_serve ..).2 h

theorem State.Inv.log {code unit arg : Nat} : (s.log code unit arg).Inv := (State.inv_log ..).2 h

theorem State.Inv.hang {ring code arg : Nat} : (s.hang ring code arg).Inv := (State.inv_hang ..).2 h

theorem State.Inv.setChan {c : Nat} {x : ChanSt} : (s.setChan c x).Inv := (State.inv_setChan ..).2 h

theorem State.Inv.enqueue {c : Nat} {q : QWord} : (s.enqueue c q).Inv := (State.inv_enqueue ..).2 h

theorem State.Inv.notice {kind subject arg : Nat} : (s.notice kind subject arg).Inv := (State.inv_notice ..).2 h

theorem State.Inv.jmod {slot : Nat} {g : JEnt → JEnt} : (s.jmod slot g).Inv := (State.inv_jmod ..).2 h

theorem State.Inv.setFw {x : FwSt} : (s.setFw x).Inv := (State.inv_setFw ..).2 h

theorem State.Inv.fwChanged : s.fwChanged.Inv := (State.inv_fwChanged ..).2 h

theorem State.Inv.telem {key : Nat} {v : Int} : (s.telem key v).Inv := (State.inv_telem ..).2 h

/-! ### InsoleOps -/

theorem State.Inv.putTile {t : Nat} {l : List Byte} : (s.putTile t l).Inv := State.inv_putTile _ _ h

theorem State.Inv.freeTile {t : Nat} : (s.freeTile t).Inv := State.inv_freeTile _ h

theorem State.Inv.placeTile {l : List Byte} : (s.placeTile l).Inv := State.inv_placeTile _ h

theorem State.Inv.freeTiles {typ : Nat} {ok : Nat → Bool} : (s.freeTiles typ ok).Inv := State.inv_freeTiles _ _ h

/-! ### TraceOps -/

theorem State.Inv.setSrc {k : Nat} {x : SrcSt} : (s.setSrc k x).Inv := (State.inv_setSrc ..).2 h

theorem State.Inv.trcPressure : s.trcPressure.Inv := (State.inv_trcPressure ..).2 h

theorem State.Inv.trcSeek : s.trcSeek.Inv := (State.inv_trcSeek ..).2 h

theorem State.Inv.sysRec {typ idx value : Nat} {ext : Option Nat} : (s.sysRec typ idx value ext).Inv :=
  (State.inv_sysRec ..).2 h

theorem State.Inv.traceMany {k : Nat} {recs : List (Nat × Nat × Nat × Option Nat)} : (s.traceMany k recs).Inv :=
  State.inv_traceMany _ _ h

theorem State.Inv.trace {k typ idx value : Nat} {ext : Option Nat} : (s.trace k typ idx value ext).Inv :=
  State.inv_trace _ _ _ _ _ h

theorem State.Inv.showRegions : s.showRegions.Inv := State.inv_showRegions h

theorem State.Inv.completeRegions : s.completeRegions.Inv := State.inv_completeRegions h

theorem State.Inv.trigger {cause bit tag : Nat} : (s.trigger cause bit tag).Inv := by
  unfold State.trigger
  refine .ite ?_ h
  extract_lets u1 u2 _ _ put
  have hu2 : u2.Inv := h.completeRegions.incf
  clear_value u2
  have hput : ∀ s r, s.Inv → (put s r).Inv := fun s r hs => by
    simp only [put]
    split
    · next e => exact State.inv_putRec e hs
    · exact hs.setSrc
  clear_value put
  refine .ite (hput _ _ hu2) (.ite ?_ (hput _ _ hu2.setf))
  exact (hput _ _ hu2.trcSeek.upd.placeTile).showRegions.trcPressure

theorem State.Inv.hangStations {code : Nat} : (s.hangStations code).Inv := State.inv_hangStations _ h

theorem State.Inv.clampOn {bit unit : Nat} : (s.clampOn bit unit).Inv := by
  unfold State.clampOn
  exact .ite h.upd.setBitf h.upd.setBitf.setf.incf.upd.log.hangStations.trigger

theorem State.Inv.clampOffSrc {bit unit : Nat} : (s.clampOffSrc bit unit).Inv := .ite (.ite h.upd h.upd.upd) h

theorem State.Inv.clampSet {bit unit : Nat} {on : Bool} : (s.clampSet bit unit on).Inv :=
  .ite (.ite h h.clampOn) h.clampOffSrc

theorem State.Inv.pmbLatch {page reg bit : Nat} : (s.pmbLatch page reg bit).Inv := by
  unfold State.pmbLatch
  exact h.upd

theorem State.Inv.faultA {row unit : Nat} {awl : Bool} : (s.faultA row unit awl).Inv := (State.inv_faultA ..).2 h

theorem State.Inv.fault {row unit : Nat} : (s.fault row unit).Inv := (State.inv_fault ..).2 h

/-! ### Access -/

theorem State.Inv.writeReg {by_ : Writer} {r : Reg} {i : Nat} {new : Word} : (writeReg s by_ r i new).1.Inv := by
  unfold Machine.writeReg
  exact h.wr

theorem State.Inv.writeFields {by_ : Writer} {r : Reg} {i : Nat} {fs : List WField} {new : Word} :
    (writeFields s by_ r i fs new).1.Inv := by
  unfold Machine.writeFields
  exact h.wr

theorem State.Inv.respond {err : Bool} {data : Word64} : (s.respond err data).Inv := (State.inv_respond ..).2 h

theorem State.Inv.cfgWrite {priv : Bool} {r : Reg} {i : Nat} {g : State → State × Bool} (hg : ∀ s, s.Inv → (g s).1.Inv) :
    (s.cfgWrite priv r i g).Inv := State.inv_cfgWrite _ _ _ (hg s h) h

theorem State.Inv.awlUsed : s.awlUsed.Inv := by
  unfold State.awlUsed
  exact .ite h.incf h.incf.setf

/-! ### Insole -/

theorem State.Inv.showSpares {b : Nat} : (s.showSpares b).Inv := h.setf

theorem State.Inv.remapTile {t : Nat} : (s.remapTile t).1.Inv := by
  unfold State.remapTile
  extract_lets b u
  have hu : u.Inv := by
    unfold u
    split
    · exact h.setb
    · exact h
  split
  · exact hu.showSpares
  · exact hu.setb.setf.incf.showSpares.log

theorem State.Inv.dirSet {d i v : Nat} : (s.dirSet d i v).Inv := by
  unfold State.dirSet
  exact h.foldl (fun _ _ hs => by split; exacts [hs, hs.putTile])

theorem State.Inv.evictTile {t : Nat} : (s.evictTile t).Inv := .ite h.freeTile.incf h

theorem State.Inv.copyRun {src n c : Nat} {avoid : List Nat} : (s.copyRun src n c avoid).1.Inv := by
  unfold State.copyRun
  split
  · exact h
  · refine State.Inv.fst (State.Inv.foldl h fun _ _ hs => ?_)
    exact hs.evictTile.putTile

theorem State.Inv.single {b : Nat} : (s.single b).Inv := h.incf.fault

theorem State.Inv.redirect {i old new : Nat} : (s.redirect i old new).Inv := by
  unfold State.redirect
  exact h.foldl (fun _ _ hs => by split; exacts [hs, .ite hs.dirSet hs])

theorem State.Inv.recopyDir {b c : Nat} : (s.recopyDir b c).Inv := by
  unfold State.recopyDir
  refine .ite ?_ h
  extract_lets o
  refine .ite h ?_
  split
  · next e => exact .ite (h.copyRun.of_eq e).setf (h.copyRun.of_eq e).setf
  · next e => exact (h.copyRun.of_eq e).single

theorem State.Inv.recopyList {b c own other : Nat} : (s.recopyList b c own other).Inv := by
  fun_cases State.recopyList
  exacts [h, h.single, (h.foldl (fun _ _ hs => hs.evictTile.putTile)).redirect]

theorem State.Inv.recopyData {b c own other w : Nat} : (s.recopyData b c own other w).Inv := by
  unfold State.recopyData
  refine .ite h ?_
  split
  · next e => exact (h.copyRun.of_eq e).redirect
  · next e => exact (h.copyRun.of_eq e).single

theorem State.Inv.recopyEntry {b d : Nat} {done : List Nat} : (s.recopyEntry b d done).1.Inv := by
  refine State.Inv.foldl_fst h fun q c hq => ?_
  split
  · exact hq
  · refine .ite_fst hq ?_
    extract_lets own other u
    have hu : u.1.Inv := .ite_fst hq.recopyList hq
    clear_value u
    exact .ite_fst (.fst hu.recopyData) hu

theorem State.Inv.moveFw {b o c : Nat} : (s.moveFw b o c).Inv := by
  unfold State.moveFw
  extract_lets _ _ _ u1
  have hu1 : u1.Inv := h.pwr
  clear_value u1
  split
  · exact hu1.single
  · exact (hu1.foldl fun _ _ hs => hs.evictTile).pwr

theorem State.Inv.recopyFw {b : Nat} : (s.recopyFw b).Inv := h.foldl (fun _ _ hs => .ite hs hs.moveFw)

theorem State.Inv.takeFwTiles : s.takeFwTiles.Inv := by
  unfold State.takeFwTiles
  exact h.pwr.foldl (fun _ _ hs => .ite hs.recopyFw hs)

theorem State.Inv.fenceBank {b arg : Nat} : (s.fenceBank b arg).Inv :=
  .ite h (h.setf.setBitf.fault.log.recopyDir.recopyDir.recopyFw.foldl_fst (fun _ _ hs => hs.recopyEntry))

theorem State.Inv.writeTile {fuel fails t : Nat} {l : List Byte} : (s.writeTile fuel fails t l).1.Inv := by
  induction fuel generalizing s fails with
  | zero => exact h
  | succ k ih =>
    unfold State.writeTile
    refine .ite_fst h.putTile ?_
    split
    · next e => exact ih (h.remapTile.of_eq e)
    · next e => exact (h.remapTile.of_eq e).fenceBank

theorem State.Inv.readPair {bad : BadTiles} {badBanks : List Nat} {ta tb : Option Nat} {ok : Bool → List Byte → Bool} :
    (s.readPair bad badBanks ta tb ok).1.Inv := by
  unfold State.readPair
  extract_lets passes usable swap first second try_ r1 r2 l u
  have htry : ∀ s c t, s.Inv → (try_ s c t).1.Inv := fun s c t hs => by
    simp only [try_]
    split
    · exact hs
    · exact .ite_fst hs.awlUsed.faultA (.ite_fst hs hs.fault)
  have hr1 : r1.1.Inv := htry _ _ _ h
  refine .ite_fst hr1 ?_
  have hr2 : r2.1.Inv := htry _ _ _ hr1
  have hu : u.Inv := by
    simp only [u]
    split
    · exact hr2
    · exact hr2.writeTile
  exact .ite_fst hu hr2

theorem State.Inv.restoreReg {off w : Nat} : (s.restoreReg off w).Inv := by
  fun_cases State.restoreReg
  exacts [h, h.wr]

theorem State.Inv.saveCopy {fuel d c gen : Nat} {words : List Nat} {bad : BadTiles} :
    (s.saveCopy fuel d c gen words bad).1.Inv := by
  induction fuel generalizing s bad with
  | zero => exact h
  | succ k ih =>
    unfold State.saveCopy
    split
    · exact h
    · extract_lets p t0 n old base l r
      have hr : r.1.Inv := .ite_fst (h.foldl_fst fun _ _ hs => hs.writeTile) h.writeTile
      exact .ite_fst h (.ite_fst hr (ih hr))

theorem State.Inv.saveWalk {d : Nat} {link : List Nat} {bad : BadTiles} : (s.saveWalk d link bad).1.Inv := by
  fun_cases State.saveWalk
  exacts [h.saveCopy.saveCopy, h]

theorem State.Inv.checkCanary {bad : BadTiles} {b : Nat} : (s.checkCanary bad b).1.Inv :=
  .ite_fst h (.ite_fst h (h.setf.fault.foldl (fun _ _ hs => hs.writeTile)))

theorem State.Inv.readList {fuel : Nat} {bad : BadTiles} {bb : List Nat} {ta tb : Option Nat} {second : Bool} :
    (s.readList fuel bad bb ta tb second).1.Inv := by
  induction fuel generalizing s ta tb second with
  | zero => exact h
  | succ k ih =>
    unfold State.readList
    split
    · next e => exact h.readPair.of_eq e
    · next e =>
      have hu := h.readPair.of_eq e
      extract_lets
      refine .ite_fst hu ?_
      extract_lets
      split
      · next e => exact (ih hu).of_eq e
      · next e => exact (ih hu).of_eq e

theorem State.Inv.readData {d gen da db w : Nat} {bad : BadTiles} {bb : List Nat} :
    (s.readData d gen da db w bad bb).1.Inv := by
  refine State.Inv.foldl_fst h fun q i hq => ?_
  split
  · exact hq
  · split
    · next e => exact hq.readPair.of_eq e
    · next e => exact hq.readPair.of_eq e

theorem State.Inv.restoreWalk {d : Nat} {bad : BadTiles} : (s.restoreWalk d bad).1.Inv := by
  unfold State.restoreWalk
  refine .ite_fst h ?_
  extract_lets q u bb
  have hu : u.Inv := h.foldl_fst fun _ _ hs => hs.checkCanary
  split
  · next e => exact (hu.readPair.of_eq e).setf
  · next e =>
    have hu := hu.readPair.of_eq e
    extract_lets la lb
    refine .ite_fst hu ?_
    split
    · next e => exact hu.readList.of_eq e
    · next e =>
      have hu := hu.readList.of_eq e
      extract_lets w
      split
      · next e => exact hu.readData.of_eq e
      · next e => exact hu.readData.of_eq e

/-! ### LastOps -/

theorem State.Inv.setLast {l : Nat} {x : LastSt} : (s.setLast l x).Inv := h.upd

theorem State.Inv.sendPre {blocked : Bool} : (s.sendPre blocked).Inv := by
  unfold State.sendPre
  exact h.upd

theorem State.Inv.post {sel : Nat} {v : Int} : (s.post sel v).Inv := by
  unfold State.post
  exact h.upd.upd

theorem State.Inv.notePower {c iout vout : Nat} {ok : Bool} : (s.notePower c iout vout ok).Inv := by
  unfold State.notePower
  exact h.upd

/-! ### Credit -/

theorem State.Inv.setStation {n : Nat} {x : StationSt} : (s.setStation n x).Inv := h.upd

theorem State.Inv.setClick {n : Nat} {x : ClickSt} : (s.setClick n x).Inv := h.upd

theorem State.Inv.setCluster {c : Nat} {x : ClusterSt} : (s.setCluster c x).Inv := h.upd

theorem State.Inv.setBucket {n p v : Nat} : (s.setBucket n p v).Inv := .ite h.setf h.setf

theorem State.Inv.setFrozen {n p : Nat} {b : Bool} : (s.setFrozen n p b).Inv := .ite h.setb h.setb

theorem State.Inv.coreCycles {n k : Nat} : (s.coreCycles n k).Inv := by
  unfold State.coreCycles
  exact h.setStation

theorem State.Inv.tickGate {n : Nat} : (s.tickGate n).Inv := h.coreCycles

theorem State.Inv.reject {n answer : Nat} : (s.reject n answer).Inv := by
  unfold State.reject
  exact h.setStation.setf.setf.hang

theorem State.Inv.execTokenReject {n : Nat} : Keeps (execTokenReject n s) := by
  unfold Machine.execTokenReject
  refine .next ?_
  split
  · exact .ite h.reject.fault h
  · exact h

theorem State.Inv.execTokenStaleReject {n : Nat} : Keeps (execTokenStaleReject n s) := by
  unfold Machine.execTokenStaleReject
  refine .next ?_
  split
  · exact .ite h.reject.incf h
  · exact h

theorem State.Inv.noteAdmit {c cls : Nat} : (s.noteAdmit c cls).Inv := by
  unfold State.noteAdmit
  exact .ite (.setf (.ite h.upd.setf.trace h.upd)) (.ite h.upd.setf.trace h.upd)

theorem State.Inv.noteTile {c cls : Nat} : (s.noteTile c cls).Inv := by
  unfold State.noteTile
  exact .ite h.noteAdmit h.noteAdmit.upd

theorem State.Inv.payTile {n : Nat} {t : Token} : (s.payTile n t).Inv := by
  unfold State.payTile
  exact .ite h.setStation.setBucket h.setBucket

theorem State.Inv.noteStep {c : Nat} : (s.noteStep c).Inv := h.foldl (fun _ _ hs => .ite hs.setLast hs)

theorem State.Inv.admitTile {n : Nat} {t : Token} : (s.admitTile n t).Inv := by
  unfold State.admitTile
  extract_lets +onlyGivenNames _ _ _ _ u1 u2 _ u3 _ u4 _ u5 u6
  have hu1 : u1.Inv := .ite (.ite h.setCluster h.setCluster.payTile) h
  have hu2 : u2.Inv := .ite hu1.setPair hu1
  have hu3 : u3.Inv := hu2.setStation
  have hu4 : u4.Inv := hu3.setPair.telem
  have hu5 : u5.Inv := hu4.setf.setf
  have hu6 : u6.Inv := .ite hu5.noteStep hu5
  exact hu6.noteTile

theorem State.Inv.execTileAdmit {x : CycleIn} : Keeps (execTileAdmit x s) := by
  unfold Machine.execTileAdmit
  refine .next ?_
  split
  · exact .ite h.coreCycles.admitTile.tickGate h
  · exact h

theorem State.Inv.execTileDone {n : Nat} : Keeps (execTileDone n s) := by
  unfold Machine.execTileDone
  exact .next (.ite h.setStation h)

theorem State.Inv.countStall {n : Nat} {r lo hi : Reg} : (s.countStall n r lo hi).Inv := by
  unfold State.countStall
  exact h.wr.setPair

theorem State.Inv.execStallCycle {c : CycleIn} : Keeps (execStallCycle c s) := by
  unfold Machine.execStallCycle
  refine .next ?_
  split
  · exact h
  · refine .ite ?_ h
    extract_lets u
    have hu : u.Inv := h.coreCycles
    split
    · exact h
    · exact h
    · exact hu.countStall.setf.tickGate
    · exact hu.countStall.setf.tickGate
    · exact hu.countStall.setf.tickGate
    · exact (State.Inv.ite hu hu.setStation).countStall.setf.tickGate

theorem State.Inv.changeRole {n role : Nat} : (s.changeRole n role).Inv := by
  unfold State.changeRole
  exact h.setf.incf.setStation.hang

theorem State.Inv.dropPendingRole {n : Nat} : (s.dropPendingRole n).Inv := by
  unfold State.dropPendingRole
  extract_lets +onlyGivenNames _ _ u1
  have hu1 : u1.Inv := by
    unfold u1
    split; exacts [h.setFw, h]
  exact hu1.setStation.setf

theorem State.Inv.roleWrite {n role : Nat} {slot : Option Nat} : (s.roleWrite n role slot).Inv := by
  unfold State.roleWrite
  extract_lets +onlyGivenNames _ _ _ u1
  have hu1 : u1.Inv := h.setf.dropPendingRole
  exact .ite (.ite hu1 hu1.setStation.setf) (.ite h.setf (.ite h.setf.setStation.setf h.setf.changeRole))

theorem State.Inv.applyPendingRole {n : Nat} : (s.applyPendingRole n).Inv := by
  unfold State.applyPendingRole
  exact .ite h.setStation.setStation.setf.changeRole h.setStation

theorem State.Inv.writeCrdsRole {n : Nat} {by_ : Writer} {w : Word} {slot : Option Nat} :
    (writeCrdsRole n by_ w slot s).1.Inv := by
  unfold Machine.writeCrdsRole
  exact h.writeFields.roleWrite

theorem State.Inv.execRoleWrite {priv : Bool} {n : Nat} {w : Word} : Keeps (execRoleWrite priv n w s) :=
  .next (h.cfgWrite (fun _ hs => hs.writeCrdsRole))

theorem State.Inv.returnFrozen {n : Nat} : (s.returnFrozen n).Inv := h.foldl (fun _ _ hs => .ite hs.setStation.setBucket hs)

theorem State.Inv.applySplit {n : Nat} : (s.applySplit n).Inv := by
  unfold State.applySplit
  exact .ite h (.ite h.setStation.setBucket.setBucket h.setStation.setBucket.setBucket)

theorem State.Inv.returnExcess {n p : Nat} : (s.returnExcess n p).Inv := by
  unfold State.returnExcess
  exact .ite h.setStation.setBucket h

theorem State.Inv.latchJob {n : Nat} : (s.latchJob n).Inv := h.setStation

theorem State.Inv.execEpochBoundaryReport {n : Nat} : Keeps (execEpochBoundaryReport n s) := by
  unfold Machine.execEpochBoundaryReport
  refine .next ?_
  refine .ite ?_ h
  extract_lets +onlyGivenNames _ u1 u2 u3 u4 _ _ _ u5
  have hu1 : u1.Inv := h.serve.returnFrozen
  have hu2 : u2.Inv := hu1.applySplit
  have hu3 : u3.Inv := hu2.returnExcess.returnExcess.returnFrozen
  have hu4 : u4.Inv := hu3.applyPendingRole
  have hu5 : u5.Inv := hu4.setStation
  exact .ite h.serve.applySplit.applyPendingRole.latchJob (.ite hu5.latchJob.trace hu5.latchJob)

theorem State.Inv.applyJobClear {m : Nat} : (s.applyJobClear m).Inv := by
  unfold State.applyJobClear
  exact .ite h.upd.setPair.telem.setf h

theorem State.Inv.chargeJob {m spent : Nat} : (s.chargeJob m spent).Inv := by
  unfold State.chargeJob
  exact .ite h.applyJobClear.setPair.telem h.applyJobClear.setPair

theorem State.Inv.execDemandReport {n : Nat} : Keeps (execDemandReport n s) := by
  unfold Machine.execDemandReport
  refine .next ?_
  split
  · exact .ite h.setStation.setClick.setf.chargeJob h
  · exact h

theorem State.Inv.sendGrant {e : Entrant} {g : Nat} {floor : Bool} : (s.sendGrant e g floor).Inv := by
  unfold State.sendGrant
  exact h.setClick.setStation

theorem State.Inv.payAndSend {e : Entrant} : (s.payAndSend e).Inv := by
  unfold State.payAndSend
  exact h.setf.sendGrant

theorem State.Inv.clearReports : s.clearReports.Inv := h.upd

theorem State.Inv.setFloat {fl df : Nat} : (s.setFloat fl df).Inv := by
  unfold State.setFloat
  exact h.upd.setf.setf

theorem State.Inv.refill : s.refill.Inv := by
  unfold State.refill
  exact ((((h.setf.setfSat.foldl (fun _ _ hs => hs.payAndSend)).clearReports).setFloat).setf).trace

theorem State.Inv.floorGrants : s.floorGrants.Inv := by
  unfold State.floorGrants
  exact (((h.foldl (fun _ _ hs => hs.sendGrant)).clearReports).setFloat).setf

theorem State.Inv.postSpent {l : Nat} : (s.postSpent l).Inv := by
  unfold State.postSpent
  exact .ite (.ite h h.post) h

theorem State.Inv.refReserve : s.refReserve.Inv := by
  unfold State.refReserve
  exact h.setfSat

theorem State.Inv.noteStalled : s.noteStalled.Inv := by
  unfold State.noteStalled
  exact h.upd

theorem State.Inv.execClickerRefill : Keeps (execClickerRefill s) := by
  unfold Machine.execClickerRefill
  refine .next ?_
  refine .ite ?_ h
  extract_lets +onlyGivenNames _ _ u1 u2 u3
  have hu1 : u1.Inv := h.upd.noteStalled.refReserve.post
  have hu2 : u2.Inv := hu1.foldl (fun _ _ hs => hs.postSpent)
  have hu3 : u3.Inv := hu2.foldl (fun _ _ hs => hs.applyJobClear)
  refine .ite h.upd.refReserve ?_
  exact .ite (.ite hu3.clearReports.setf hu3.clearReports.setf) (.ite hu3.floorGrants hu3.refill)

theorem State.Inv.addGrant {n p g : Nat} : (s.addGrant n p g).Inv := by
  unfold State.addGrant
  exact .ite h (.ite h.setStation.setBucket h.setBucket)

theorem State.Inv.discardGrant {n g : Nat} : (s.discardGrant n g).Inv := by
  unfold State.discardGrant
  exact h.setStation.incf.incf

theorem State.Inv.execGrantReceive {n : Nat} : Keeps (execGrantReceive n s) := by
  unfold Machine.execGrantReceive
  refine .next ?_
  split
  · exact .ite (.ite h.setStation.discardGrant (.hang (.ite h.setStation.addGrant.addGrant h.setStation.addGrant))) h
  · exact h

theorem State.Inv.execRampAllowanceCompute {c : Nat} : Keeps (execRampAllowanceCompute c s) := by
  unfold Machine.execRampAllowanceCompute
  exact .next (.ite (.ite h.setCluster.trace h.setCluster) h)

theorem State.Inv.showRamp {c a pace : Nat} : (s.showRamp c a pace).Inv := h.setf.setf

theorem State.Inv.execRampAllowanceReceive {c : Nat} : Keeps (execRampAllowanceReceive c s) := by
  unfold Machine.execRampAllowanceReceive
  refine .next ?_
  split
  · exact .ite (.ite h.setCluster.showRamp (.ite h.setCluster h.setCluster)) h
  · exact h

theorem State.Inv.execRampWindowStart {c : Nat} : Keeps (execRampWindowStart c s) := by
  unfold Machine.execRampWindowStart
  refine .next ?_
  refine .ite ?_ h
  extract_lets +onlyGivenNames _ _ u1 _
  have hu1 : u1.Inv := h.serve.foldl (fun _ _ hs => hs.setStation)
  split
  · exact .ite hu1.setCluster.showRamp hu1.setCluster.showRamp
  · exact hu1.setCluster.showRamp

theorem State.Inv.execClampSourceAssert {bit unit : Nat} : Keeps (execClampSourceAssert bit unit s) :=
  .next (.ite h.clampOn h)

theorem State.Inv.execClampRelease : Keeps (execClampRelease s) := by
  unfold Machine.execClampRelease
  refine .next ?_
  split
  · exact .ite h.upd.setf.upd.log.hangStations h
  · exact h

theorem State.Inv.writeCrdClamp {by_ : Writer} {w : Word} : (writeCrdClamp by_ w s).1.Inv := by
  unfold Machine.writeCrdClamp
  exact h.writeReg.clampSet

theorem State.Inv.execClampForceWrite {priv : Bool} {w : Word} : Keeps (execClampForceWrite priv w s) :=
  .next (h.cfgWrite (fun _ hs => hs.writeCrdClamp))

theorem State.Inv.writeCrdCtrl {by_ : Writer} {w : Word} : (writeCrdCtrl by_ w s).1.Inv := by
  unfold Machine.writeCrdCtrl
  exact .ite h.writeReg h.writeReg.upd

theorem State.Inv.execPartitionFault {n p : Nat} : Keeps (execPartitionFault n p s) :=
  .next (.ite (.ite h.setStation.fault h.setStation.setFrozen.setClick.hang.fault) h)

theorem State.Inv.readmitPart {n p : Nat} : (s.readmitPart n p).Inv :=
  .ite h (.ite h.setStation.setClick.setFrozen.setBucket h)

theorem State.Inv.writeCrdsStatus {n : Nat} {w : Word} : (writeCrdsStatus n w s).1.Inv := by
  unfold Machine.writeCrdsStatus
  exact .ite (.readmitPart (.ite h.readmitPart h)) (.ite h.readmitPart h)

theorem State.Inv.execPartitionReadmit {priv : Bool} {n pfault : Nat} {w : Word} :
    Keeps (execPartitionReadmit priv n pfault w s) := by
  unfold Machine.execPartitionReadmit
  exact .next (.cfgWrite (.ite h.setStation h) (fun _ hs => hs.writeCrdsStatus))

theorem State.Inv.unitApply {n code arg : Nat} : (s.unitApply n code arg).1.Inv := by
  fun_cases State.unitApply
  exacts [h.writeFields, h.writeFields, h.writeFields, h.readmitPart, h, h]

theorem State.Inv.unitOutcome {n msg code : Nat} : (s.unitOutcome n msg code).Inv := by
  fun_cases State.unitOutcome
  exacts [h, h.setFw.jmod, h.setFw]

theorem State.Inv.staleMessage {n : Nat} {w : Word64} : (s.staleMessage n w).Inv := by
  unfold State.staleMessage
  exact h.incf.incf.setStation.unitOutcome

theorem State.Inv.unitMessage {n : Nat} {w : Word64} : (s.unitMessage n w).Inv := by
  unfold State.unitMessage
  extract_lets +onlyGivenNames _ _ _ u1
  have hu1 : u1.Inv := .ite h h.fault
  exact .ite (.ite hu1.staleMessage (.ite hu1.unitApply.unitOutcome hu1)) (.ite h.fault h)

theorem State.Inv.dropUnitCmd {n msg : Nat} : (s.dropUnitCmd n msg).Inv := h.setFw

theorem State.Inv.execUnitMessage {x : UnitIn} {w : Word64} : Keeps (execUnitMessage x w s) := by
  unfold Machine.execUnitMessage
  exact .next (.ite (.ite h.setStation.flt h.setStation.unitMessage) h)

theorem State.Inv.writeJobCtrl {m : Nat} {by_ : Writer} {w : Word} : (writeJobCtrl m by_ w s).1.Inv := by
  unfold Machine.writeJobCtrl
  exact .ite h.writeReg.upd.setf h.writeReg

theorem State.Inv.execJobClearWrite {priv : Bool} {m : Nat} {w : Word} : Keeps (execJobClearWrite priv m w s) :=
  .next (h.cfgWrite (fun _ hs => hs.writeJobCtrl))

theorem State.Inv.writeCostData {w : Word} : (writeCostData w s).1.Inv := by
  unfold Machine.writeCostData
  exact .ite h.upd.setf h.upd

theorem State.Inv.execCostDataWrite {priv : Bool} {w : Word} : Keeps (execCostDataWrite priv w s) :=
  .next (h.cfgWrite (fun _ hs => hs.writeCostData))

theorem State.Inv.addDrained {g : Nat} : (s.addDrained g).Inv := .ite h.upd h.upd

theorem State.Inv.drainStation {n : Nat} : (s.drainStation n).Inv := by
  unfold State.drainStation
  exact h.setStation.setClick.addDrained.setBucket.setBucket

theorem State.Inv.flushStation {n : Nat} : (s.flushStation n).Inv := by
  unfold State.flushStation
  exact h.setFw.setStation.addDrained

theorem State.Inv.settleStation {n : Nat} : (s.settleStation n).Inv := by
  unfold State.settleStation
  exact h.setStation.chargeJob

theorem State.Inv.wakeStation {n : Nat} : (s.wakeStation n).Inv := by
  unfold State.wakeStation
  exact h.setStation.setClick.setBucket.setBucket

theorem State.Inv.setSeam {k : Nat} {x : SeamSt} : (s.setSeam k x).Inv := h.upd

/-! ### CapOps -/

theorem State.Inv.applyCaps {c : Nat} : (s.applyCaps c).Inv := by
  unfold State.applyCaps
  exact h.upd.foldl (fun _ _ hs => .ite hs hs.setStation)

theorem State.Inv.applyAllCaps : s.applyAllCaps.Inv := h.foldl (fun _ _ hs => hs.applyCaps)

/-! ### TreadOps -/

theorem State.Inv.treadNotice {code inst arg : Nat} : (s.treadNotice code inst arg).Inv := h.notice

theorem State.Inv.showWear : s.showWear.Inv := h.setfSat.setfSat

theorem State.Inv.checkWorn {i : Nat} : (s.checkWorn i).Inv := by
  unfold State.checkWorn
  exact .ite h.upd.showWear.treadNotice h

theorem State.Inv.cycRecord {p : Nat} {x : CycSt} {ext : Int} : (s.cycRecord p x ext).Inv := by
  unfold State.cycRecord
  exact h.satf.checkWorn

theorem State.Inv.cycTemp {p : Nat} {t : Int} : (s.cycTemp p t).Inv := by
  unfold State.cycTemp
  exact .ite h (.ite h.upd (.ite h.cycRecord.upd (.ite h.cycRecord.upd h.upd)))

/-! ### Welt -/

theorem State.Inv.setWelt {c : Nat} {w : WeltSt} : (s.setWelt c w).Inv := h.upd

theorem State.Inv.setNeed {c k v : Nat} : (s.setNeed c k v).Inv := by
  fun_cases State.setNeed <;> exact h.setf

theorem State.Inv.setClass {c k : Nat} : (s.setClass c k).Inv := .ite h h.setf.trace

theorem State.Inv.clearWaits {c : Nat} : (s.clearWaits c).Inv := by
  unfold State.clearWaits
  exact h.foldl (fun _ _ hs => by split; exacts [.ite hs.setf hs, hs])

theorem State.Inv.classSettle {c : Nat} : (s.classSettle c).Inv := by
  unfold State.classSettle
  extract_lets +onlyGivenNames _ u1
  have hu1 : u1.Inv := by
    unfold u1
    split; exacts [.ite h.setWelt.setf h, h]
  exact hu1.clearWaits

theorem State.Inv.noteCurrent {c iout : Nat} : (s.noteCurrent c iout).Inv := by
  unfold State.noteCurrent
  exact .ite h.setWelt.setWelt.setf h.setWelt

theorem State.Inv.execWeltHeadroomReport {c vrail vout iout dropout : Nat} :
    Keeps (execWeltHeadroomReport c vrail vout iout dropout s) := by
  unfold Machine.execWeltHeadroomReport
  refine .next ?_
  refine .ite ?_ h
  extract_lets +onlyGivenNames _ _ _ _ _ u1 _ u2 _ u3 _ u4 _ u5
  have hu1 : u1.Inv := h.serve.upd.setWelt
  have hu2 : u2.Inv := .ite hu1 hu1.setb.trace
  have hu3 : u3.Inv := hu2.setf.setf
  have hu4 : u4.Inv := hu3.setf.telem
  have hu5 : u5.Inv := hu4.setCluster.notePower
  exact hu5.noteCurrent.classSettle

theorem State.Inv.needOne {i : NeedIn} : (s.needOne i).Inv := by
  unfold State.needOne
  exact .ite h.setNeed.setNeed.setNeed.setf.setfiSat.setfiSat.setfiSat.setWelt.classSettle h

theorem State.Inv.showDiss {c p : Nat} : (s.showDiss c p).Inv := .ite h h.setf.telem

theorem State.Inv.sendRailNeed : s.sendRailNeed.Inv := by
  fun_cases State.sendRailNeed <;> exact h.setf.setf.upd

theorem State.Inv.execNeedUpdate {l : List NeedIn} : Keeps (execNeedUpdate l s) := by
  unfold Machine.execNeedUpdate
  refine .next ?_
  refine .ite ?_ h
  extract_lets +onlyGivenNames _ u1 u2 _ _ u3
  have hu1 : u1.Inv := h.serve.foldl (fun _ _ hs => hs.needOne)
  have hu2 : u2.Inv := hu1.foldl (fun _ _ hs => hs.showDiss)
  have hu3 : u3.Inv := hu2.setPair.setf.telem
  exact hu3.sendRailNeed

theorem State.Inv.execClassUpRequest {n : Nat} : Keeps (execClassUpRequest n s) := by
  unfold Machine.execClassUpRequest
  refine .next ?_
  split
  · exact .ite h.setf.noteAdmit.setWelt.setClass.setf.incf.classSettle (.ite h.setf h)
  · exact h

theorem State.Inv.execClassReady {c vout : Nat} : Keeps (execClassReady c vout s) := .next (.ite h.setWelt.classSettle h)

theorem State.Inv.execClassExpire {c : Nat} : Keeps (execClassExpire c s) := .next (.ite (.ite h.setWelt.setClass h) h)

theorem State.Inv.execCeilHoldExpire {c : Nat} : Keeps (execCeilHoldExpire c s) := .next (.ite h.setf h)

theorem State.Inv.writeWeltCfg {c : Nat} {by_ : Writer} {w : Word} : (writeWeltCfg c by_ w s).1.Inv := by
  unfold Machine.writeWeltCfg
  exact h.writeReg.setf

theorem State.Inv.rollEpoch {c : Nat} : (s.rollEpoch c).Inv := by
  unfold State.rollEpoch
  exact .ite h (.ite h.setWelt h.setf.setWelt.upd)

theorem State.Inv.stormsFrom {e : Nat} : (s.stormsFrom e).Inv := h.foldl (fun _ _ hs => hs.setWelt)

theorem State.Inv.jumpStorms {e : Nat} : (s.jumpStorms e).Inv := (h.foldl (fun _ _ hs => hs.rollEpoch)).stormsFrom

theorem State.Inv.noteOn {c : Nat} : (s.noteOn c).Inv := .ite h.setWelt h

theorem State.Inv.stormClamp : s.stormClamp.Inv := by
  unfold State.stormClamp
  exact h.setb.clampSet

theorem State.Inv.cutSent {c : Nat} : (s.cutSent c).Inv := by
  unfold State.cutSent
  exact h.setCluster

theorem State.Inv.enterStorm {c : Nat} : (s.enterStorm c).Inv := by
  unfold State.enterStorm
  exact h.setWelt.setf.incf.incf.cutSent.log.trigger.stormClamp

theorem State.Inv.writeDrpStorm {by_ : Writer} {w : Word} : (writeDrpStorm by_ w s).1.Inv := by
  unfold Machine.writeDrpStorm
  exact (h.writeReg.foldl (fun _ _ hs => .ite hs.setWelt hs)).stormClamp

theorem State.Inv.kick {c : Nat} : (s.kick c).Inv := by
  unfold State.kick
  exact h.setWelt.incf.trace

theorem State.Inv.execDroopTrip {n d : Nat} : Keeps (execDroopTrip n d s) := by
  unfold Machine.execDroopTrip
  extract_lets +onlyGivenNames _ _ _ _ u1 u2 _ u3 _ _ u4
  have hu1 : u1.Inv := h.rollEpoch.setStation
  have hu2 : u2.Inv := .ite hu1 hu1.hang
  have hu3 : u3.Inv := hu2.incf.setPair
  have hu4 : u4.Inv := hu3.setWelt.trace
  exact .next (.ite (.ite hu4.kick.enterStorm hu4.kick) h)

theorem State.Inv.execStretchEnd {e : StretchIn} : Keeps (execStretchEnd e s) := by
  unfold Machine.execStretchEnd
  exact .next (.ite h.setStation h)

theorem State.Inv.execKickExpire {c : Nat} : Keeps (execKickExpire c s) := by
  unfold Machine.execKickExpire
  refine .next ?_
  split
  · exact .ite h.setWelt h
  · exact h

theorem State.Inv.execStormExit {c : Nat} : Keeps (execStormExit c s) :=
  .next (.ite (.ite h.rollEpoch.setWelt.setf.setf.log.stormClamp h.rollEpoch) h)

theorem State.Inv.execStormClampTimeout {c : Nat} : Keeps (execStormClampTimeout c s) := .next (.ite h.setWelt.stormClamp h)

theorem State.Inv.execStormFracUpdate : Keeps (execStormFracUpdate s) :=
  .next (.ite ((((h.serve.foldl (fun _ _ hs => hs.rollEpoch)).setfSat).post).upd) h)

theorem State.Inv.execDetectorStuck {n d : Nat} : Keeps (execDetectorStuck n d s) :=
  .next (.ite (.ite h.setBitf.fault.fault h.setBitf.fault) h)

theorem State.Inv.execDetectorUnmask {priv : Bool} {n : Nat} {w : Word} : Keeps (execDetectorUnmask priv n w s) :=
  .next (h.cfgWrite (fun _ hs => hs.writeReg))

theorem State.Inv.execWeltIlimStart {c iout : Nat} : Keeps (execWeltIlimStart c iout s) := .next (.ite h.setWelt.setf h)

theorem State.Inv.execWeltIlimTimeout {c : Nat} : Keeps (execWeltIlimTimeout c s) := by
  unfold Machine.execWeltIlimTimeout
  refine .next ?_
  split
  · exact .ite h.setWelt.fault h
  · exact h

theorem State.Inv.execWeltIlimRelease {c : Nat} : Keeps (execWeltIlimRelease c s) := by
  unfold Machine.execWeltIlimRelease
  refine .next ?_
  split
  · exact .ite h.setWelt.setf h
  · exact h

theorem State.Inv.execWeltOv {c v : Nat} : Keeps (execWeltOv c v s) := .next (.ite h.setf.fault h)

theorem State.Inv.weltWake {c : Nat} : (s.weltWake c).Inv := by
  unfold State.weltWake
  exact h.setWelt.setf.setf.clearWaits

/-! ### PhaseOps -/

theorem State.Inv.setPhase {p : Nat} {x : PhaseSt} : (s.setPhase p x).Inv := h.upd

theorem State.Inv.setRail {r : Nat} {x : RailSt} : (s.setRail r x).Inv := h.upd

theorem State.Inv.showShare {p : Nat} : (s.showShare p).Inv := by
  unfold State.showShare
  exact h.setf

theorem State.Inv.endDe {r : Nat} : (s.endDe r).Inv := by
  unfold State.endDe
  exact h.setRail.foldl (fun _ _ hs => hs.setf)

theorem State.Inv.notePhase {p : Nat} : (s.notePhase p).Inv := by
  unfold State.notePhase
  exact h.log.hang

theorem State.Inv.noteRailTemp {p : Nat} : (s.noteRailTemp p).Inv := by
  fun_cases State.noteRailTemp
  exacts [h, h.telem]

theorem State.Inv.phPut {p st : Nat} : (s.phPut p st).Inv := by
  unfold State.phPut
  exact .notePhase (.ite h.setf.setb.setPhase h.setf.setb.setPhase.setf)

theorem State.Inv.softStart {p len : Nat} : (s.softStart p len).Inv := by
  unfold State.softStart
  exact .ite h.phPut.setPhase.endDe h.phPut.setPhase

theorem State.Inv.toAngle {p : Nat} : (s.toAngle p).Inv := by
  unfold State.toAngle
  exact h.setPhase

theorem State.Inv.phSoft {p len : Nat} : (s.phSoft p len).Inv := h.softStart.toAngle

theorem State.Inv.addPhases {l : List Nat} : (s.addPhases l).Inv :=
  (h.foldl (fun _ _ hs => hs.softStart)).foldl (fun _ _ hs => hs.toAngle)

theorem State.Inv.showCap {r : Nat} : (s.showCap r).Inv := by
  unfold State.showCap
  exact .setf (.ite h h.setf.setRail)

theorem State.Inv.capClamp {r : Nat} : (s.capClamp r).Inv := by
  unfold State.capClamp
  extract_lets +onlyGivenNames _ _ _ u1 u2
  have hu1 : u1.Inv := h.showCap.setf.clampSet
  have hu2 : u2.Inv := hu1.addPhases
  exact .ite h.showCap.setf.clampSet (.ite (.showCap (.ite hu2.endDe hu2)) h.showCap.setf.clampSet)

theorem State.Inv.phGo {p st : Nat} : (s.phGo p st).Inv := by
  unfold State.phGo
  exact .capClamp (.noteRailTemp (.ite h.phPut.pmbLatch h.phPut))

theorem State.Inv.setDisc {p : Nat} {b : Bool} : (s.setDisc p b).Inv := h.setBitf

theorem State.Inv.phCause {p st cause : Nat} : (s.phCause p st cause).Inv := by
  unfold State.phCause
  exact .phGo (.ite h.setf.setDisc h.setf)

theorem State.Inv.phHiccup {p cause : Nat} : (s.phHiccup p cause).Inv := by
  unfold State.phHiccup
  exact h.phCause.incf.fault

theorem State.Inv.phJoin {p : Nat} : (s.phJoin p).Inv := by
  unfold State.phJoin
  exact .ite h.phSoft.capClamp h.phGo

theorem State.Inv.phProbe {p : Nat} : (s.phProbe p).Inv := by
  unfold State.phProbe
  exact h.setPhase.phGo.showShare.capClamp

theorem State.Inv.phFence {p : Nat} : (s.phFence p).Inv := .ite h h.phCause

theorem State.Inv.phDisable {p : Nat} : (s.phDisable p).Inv := by
  unfold State.phDisable
  exact h.setPhase.setf.setf.phGo

theorem State.Inv.railWentOff {r : Nat} : (s.railWentOff r).Inv := by
  unfold State.railWentOff
  exact (h.foldl (fun _ _ hs => hs.phDisable)).capClamp

theorem State.Inv.phasesReady {r : Nat} : (s.phasesReady r).Inv := (h.endDe.foldl (fun _ _ hs => hs.phPut)).capClamp

theorem State.Inv.phasesStart {r : Nat} : (s.phasesStart r).Inv := by
  unfold State.phasesStart
  exact ((h.foldl (fun _ _ hs => hs.phPut)).foldl (fun _ _ hs => hs.toAngle)).capClamp

theorem State.Inv.showSet {r : Nat} : (s.showSet r).Inv := by
  unfold State.showSet
  exact h.setf.setfiSat

theorem State.Inv.showEff {r : Nat} : (s.showEff r).Inv := by
  unfold State.showEff
  exact .ite h.setf.setf h.setf.setf.setb

theorem State.Inv.hostDone {r : Nat} : (s.hostDone r).Inv := by
  fun_cases State.hostDone
  exacts [h.setRail.setf.setFw, h.setRail.setf, h]

theorem State.Inv.markArrival {fuel r : Nat} {t : Option Word64} : (s.markArrival fuel r t).Inv := by
  induction fuel generalizing s r with
  | zero => exact h
  | succ n ih =>
    unfold State.markArrival
    extract_lets x u
    have hu : u.Inv := .ite h.setRail (.ite h.setRail h)
    exact hu.foldl fun _ _ hs => ih hs

theorem State.Inv.setTarget {r : Nat} {t : Int} : (s.setTarget r t).Inv := by
  unfold State.setTarget
  exact .setb (.ite h h.setRail.markArrival)

theorem State.Inv.recompose {r : Nat} : (s.recompose r).Inv := by
  unfold State.recompose
  exact .ite h.showEff.setTarget h.showEff

theorem State.Inv.propagate {fuel r : Nat} : (s.propagate fuel r).Inv := by
  induction fuel generalizing s r with
  | zero => exact h
  | succ n ih =>
    refine State.Inv.foldl h fun s q hs => ?_
    extract_lets lead x k u1 own u2 u3 u4 m
    have hu1 : u1.Inv := hs.setRail
    have hu4 : u4.Inv := hs.setRail.markArrival.setf.setf.showSet.showEff
    split
    · exact .ite hs (ih hu1.showSet.showEff)
    · exact .ite (.ite (ih (.ite hu4 hu4.hostDone)) (ih hs.setRail.showSet)) (.ite (ih hs.setRail.showSet) hs)

theorem State.Inv.noteRail {r : Nat} : (s.noteRail r).Inv := h.log

theorem State.Inv.railPut {r st : Nat} : (s.railPut r st).Inv := by
  unfold State.railPut
  exact .noteRail (.setRail (.ite h.setf h.setf.setf))

theorem State.Inv.endBrake {r : Nat} : (s.endBrake r).Inv := by
  unfold State.endBrake
  exact h.setRail.setf.foldl (fun _ _ hs => hs.setPhase)

theorem State.Inv.railStart1 {r : Nat} : (s.railStart1 r).Inv := by
  unfold State.railStart1
  exact .phasesStart (.showSet (.ite h.railPut.setRail.setb.setf.showEff h.railPut.setRail.setb.setf.showEff.setTarget))

theorem State.Inv.railStart {fuel r : Nat} {fromOff : Bool} : (s.railStart fuel r fromOff).Inv := by
  induction fuel generalizing s r with
  | zero => exact h
  | succ n ih => exact (h.railStart1.foldl fun _ _ hs => .ite (ih hs) hs).propagate

theorem State.Inv.railStop {fuel r : Nat} : (s.railStop fuel r).Inv := by
  induction fuel generalizing s r with
  | zero => exact h
  | succ n ih =>
    exact .ite (h.railPut.setRail.setb.setTarget.railWentOff.foldl fun _ _ hs => ih hs) h

theorem State.Inv.railTrip {fuel r st row : Nat} {withLeader : Bool} : (s.railTrip fuel r st row withLeader).Inv := by
  induction fuel generalizing s r withLeader with
  | zero => exact h
  | succ n ih =>
    unfold State.railTrip
    extract_lets u1 _ u2 u3 u4 u5 u6 u7 u8
    have hu2 : u2.Inv := h.railPut.setRail
    have hu3 : u3.Inv := hu2.setf.setf
    have hu4 : u4.Inv := .ite hu3.setf hu3
    have hu6 : u6.Inv := hu4.setf.setb
    have hu7 : u7.Inv := .ite hu6.pmbLatch hu6
    have hu8 : u8.Inv := hu7.showSet.phasesReady.railWentOff.fault
    exact hu8.foldl fun _ _ hs => .ite (ih hs) hs

theorem State.Inv.railOffNow {r : Nat} : (s.railOffNow r).Inv := by
  unfold State.railOffNow
  exact h.railPut.setRail.setf.setf.setf.showSet.showEff

theorem State.Inv.offWhenQuiet {r : Nat} : (s.offWhenQuiet r).Inv := .ite h.railOffNow h.setRail

theorem State.Inv.onWritten1 {r : Nat} : (s.onWritten1 r).Inv :=
  .ite h (.ite (.ite h.fault h.setf.railStart) (.ite h.setf.setf h.setf))

theorem State.Inv.onWritten0 {r : Nat} : (s.onWritten0 r).Inv := by
  fun_cases State.onWritten0
  exacts [h.setf.railStop, h.setf.railStop, h.setf.setf, h.setf.offWhenQuiet, h.setf.offWhenQuiet, h.setf]

theorem State.Inv.writeOn {r : Nat} {b : Bool} : (s.writeOn r b).Inv := .ite h (.ite h.onWritten1 h.onWritten0)

theorem State.Inv.railsSafe : s.railsSafe.Inv := h.foldl (fun _ _ hs => .ite hs.recompose.onWritten0 hs.recompose)

/-! ### Phase -/

theorem State.Inv.useTemp {p : Nat} {t : Int} : (s.useTemp p t).Inv := by
  unfold State.useTemp
  extract_lets +onlyGivenNames u1 _ u2 u3 _ u4 u5
  have hu1 : u1.Inv := h.setfiSat.telem
  have hu2 : u2.Inv := .ite hu1.pmbLatch hu1
  have hu3 : u3.Inv := hu2.setb.noteRailTemp
  have hu4 : u4.Inv := hu3.setPhase.showShare
  have hu5 : u5.Inv := .ite hu4 hu4.capClamp
  exact .ite hu5.phCause.fault (.ite hu5.phGo hu5)

theorem State.Inv.stageFault {p : Nat} : (s.stageFault p).Inv := by
  unfold State.stageFault
  exact .ite h.setPhase.phHiccup (.ite h.setPhase.fault h.setPhase)

theorem State.Inv.execTfSample {p mv : Nat} : Keeps (execTfSample p mv s) := by
  unfold Machine.execTfSample
  refine .next ?_
  refine .ite ?_ h
  extract_lets +onlyGivenNames _ _ _ u1 _ _ u2 u3
  have hu1 : u1.Inv := h.serve.setPhase
  have hu2 : u2.Inv := hu1.setf.setPhase
  have hu3 : u3.Inv := .ite hu2 hu2.fault
  exact .ite h.serve (.ite h.serve.stageFault (.ite hu3.useTemp hu1.setPhase.useTemp.cycTemp))

omit h in
theorem State.Inv.retime {s old : State} (h : s.Inv) : (s.retime old).Inv := h.upd

theorem State.Inv.writePhTimebase {by_ : Writer} {w : Word} : (writePhTimebase by_ w s).1.Inv := by
  unfold Machine.writePhTimebase
  exact h.writeReg.retime

theorem State.Inv.syncMove {ps : Nat} : (s.syncMove ps).Inv := by
  unfold State.syncMove
  exact h.upd

theorem State.Inv.execSyncEdge {ps : Nat} : Keeps (execSyncEdge ps s) :=
  .next (.ite (.ite (.ite h.setfSat.upd.retime.syncMove h.setfSat.upd.retime) h.setfSat.setf.upd) h)

theorem State.Inv.execSyncLock {off : Nat} : Keeps (execSyncLock off s) := .next (.ite h.setf.setf.upd h)

theorem State.Inv.execSyncLoss : Keeps (execSyncLoss s) := by
  unfold Machine.execSyncLoss
  refine .next ?_
  split
  · exact .ite h.setf.setf.setf.setf.upd.retime.fault h
  · exact h

theorem State.Inv.lightCycle {r : Nat} : (s.lightCycle r).Inv := by
  unfold State.lightCycle
  exact .ite (.ite h.endDe h) (.ite (.ite (h.setRail.foldl (fun _ _ hs => hs.setf)) h.setRail) h.setRail)

theorem State.Inv.cycleChecks {p : Nat} {tripped limited : Bool} {rise : Int} :
    (s.cycleChecks p tripped limited rise).Inv := by
  unfold State.cycleChecks
  extract_lets +onlyGivenNames _ _ _ _ u1
  have hu1 : u1.Inv := .ite h.setPhase.incf h.setPhase
  exact .ite hu1.phCause.fault (.ite hu1.phCause.fault (.ite hu1.phHiccup hu1))

theorem State.Inv.cycleStart {p : Nat} : (s.cycleStart p).Inv := by
  unfold State.cycleStart
  exact h.setPhase.showShare

theorem State.Inv.execPhaseCycle {p : Nat} {wave : List (Nat × Int)} {cs : List Nat} :
    Keeps (execPhaseCycle p wave cs s) := by
  unfold Machine.execPhaseCycle
  refine .next ?_
  extract_lets +onlyGivenNames _ _ _ u1 _ _ _ u2 u3 u4 _ _ _ _ _ _ u5 u6 u7
  have hu1 : u1.Inv := h.cycleStart.setf.telem
  have hu2 : u2.Inv := hu1.setPhase.setPhase
  have hu3 : u3.Inv := .ite hu2.trace hu2
  have hu4 : u4.Inv := hu1.setPhase.setPhase
  have hu5 : u5.Inv := hu4.setfSat.setPhase
  have hu6 : u6.Inv := .ite hu5.trace hu5
  have hu7 : u7.Inv := .ite hu6.lightCycle hu6
  exact .ite (.ite (.ite hu3.lightCycle hu3) hu7.cycleChecks) h

theorem State.Inv.execSoftstartComplete {p : Nat} : Keeps (execSoftstartComplete p s) := by
  unfold Machine.execSoftstartComplete
  exact .next (.ite h.phGo h)

theorem State.Inv.execPhaseHiccupExpire {p vcs tf : Nat} : Keeps (execPhaseHiccupExpire p vcs tf s) :=
  .next (.ite (.ite h.setPhase.phCause.fault (.ite h.setPhase.phHiccup h.setPhase.phJoin)) h)

theorem State.Inv.execSenseLineOpen {p ns : Nat} : Keeps (execSenseLineOpen p ns s) := by
  unfold Machine.execSenseLineOpen
  exact .next (.ite (.fault (.ite h.setf h.phCause)) h)

theorem State.Inv.execSenseImplausibleCheck {r : Nat} : Keeps (execSenseImplausibleCheck r s) := by
  unfold Machine.execSenseImplausibleCheck
  refine .next ?_
  refine .ite ?_ h
  exact .foldl (.foldl (.ite h.serve.usedFree h.serve) (fun _ _ hs => hs.setPhase)) (fun _ _ hs => hs.phCause.fault)

theorem State.Inv.execPhaseShed {r : Nat} : Keeps (execPhaseShed r s) := by
  unfold Machine.execPhaseShed
  refine .next ?_
  split
  · exact .ite h.setRail.phGo h
  · exact h

theorem State.Inv.execCapabilityUpdate {r : Nat} : Keeps (execCapabilityUpdate r s) := by
  unfold Machine.execCapabilityUpdate
  exact .next (.ite h.setRail.post h)

theorem State.Inv.execPhaseCapacityReport : Keeps (execPhaseCapacityReport s) := .next (.ite h.serve.upd h)

theorem State.Inv.execBrakeStart {r v : Nat} : Keeps (execBrakeStart r v s) := by
  unfold Machine.execBrakeStart
  exact .next (.ite ((h.setRail.setf.foldl (fun _ _ hs => hs.setPhase)).foldl (fun _ _ hs => hs.hang)) h)

theorem State.Inv.execBrakeEnd {r v : Nat} : Keeps (execBrakeEnd r v s) := .next (.ite h.endBrake.setRail h)

theorem State.Inv.execBrakeTimeout {r : Nat} : Keeps (execBrakeTimeout r s) := by
  unfold Machine.execBrakeTimeout
  extract_lets +onlyGivenNames _ _ _ u1
  have hu1 : u1.Inv := h.endBrake.setRail
  refine .next ?_
  split
  · exact .ite hu1.log h
  · exact h

theorem State.Inv.dropHeld {p : Nat} : (s.dropHeld p).Inv := by
  unfold State.dropHeld
  exact h.setPhase.setf.foldl (fun _ _ hs => hs.setFw)

theorem State.Inv.phEnable {p : Nat} : (s.phEnable p).Inv := by
  unfold State.phEnable
  exact .ite h.setf.phProbe (.ite h.setf.setf (.ite h.setf.dropHeld h.setf))

theorem State.Inv.phDisableReq {p : Nat} {slot : Option Nat} : (s.phDisableReq p slot).Inv := by
  unfold State.phDisableReq
  exact .ite h.setf (.ite h.setf.setf (.ite h.setf.setPhase (.ite h.setf.phDisable h.setf.setf.setPhase)))

theorem State.Inv.phEnWrite {p : Nat} {b : Bool} {slot : Option Nat} : (s.phEnWrite p b slot).Inv :=
  .ite h.phEnable h.phDisableReq

theorem State.Inv.writePhCfg {p : Nat} {by_ : Writer} {w : Word} : (writePhCfg p by_ w s).1.Inv := by
  unfold Machine.writePhCfg
  exact h.writeFields.phEnWrite

theorem State.Inv.execPhaseEnableWrite {priv : Bool} {p : Nat} {w : Word} : Keeps (execPhaseEnableWrite priv p w s) :=
  .next (h.cfgWrite (fun _ hs => hs.writePhCfg))

theorem State.Inv.execPhaseDisableWrite {priv : Bool} {p : Nat} {w : Word} : Keeps (execPhaseDisableWrite priv p w s) :=
  .next (h.cfgWrite (fun _ hs => hs.writePhCfg))

theorem State.Inv.execDisableHeldApply {p : Nat} : Keeps (execDisableHeldApply p s) := .next (.ite h.phDisable h)

theorem State.Inv.execPhaseQuietPoint {p vcs : Nat} : Keeps (execPhaseQuietPoint p vcs s) :=
  .next (.ite (.ite h.setf.phProbe h.phGo) h)

theorem State.Inv.writePhStatus {p : Nat} {by_ : Writer} {w : Word} : (writePhStatus p by_ w s).1.Inv := by
  unfold Machine.writePhStatus
  exact .ite h.writeFields.phProbe h.writeFields

theorem State.Inv.execPhaseFailedReprobe {priv : Bool} {p : Nat} {w : Word} : Keeps (execPhaseFailedReprobe priv p w s) :=
  .next (h.cfgWrite (fun _ hs => hs.writePhStatus))

theorem State.Inv.probeRead {p vcs tf : Nat} : (s.probeRead p vcs tf).Inv := by
  unfold State.probeRead
  exact h.setf.setb.setPhase.hang

theorem State.Inv.execProbeComplete {p vcs tf : Nat} : Keeps (execProbeComplete p vcs tf s) :=
  .next (.ite (.ite h.probeRead.phCause (.ite h.probeRead.setDisc.phJoin h.probeRead.phCause.fault)) h)

theorem State.Inv.readmit {p : Nat} : (s.readmit p).Inv := by
  unfold State.readmit
  exact .ite h.phCause.fault h.setPhase.incf.setDisc.phJoin

theorem State.Inv.execAbsentProbe {p vcs tf : Nat} : Keeps (execAbsentProbe p vcs tf s) :=
  .next (.ite (.ite h.probeRead.setPhase.readmit h.probeRead.setPhase) h)

/-! ### Rail -/

theorem State.Inv.replaceHost {r : Nat} : (s.replaceHost r).Inv := by
  fun_cases State.replaceHost
  exacts [h.incf.setFw, h.incf, h]

theorem State.Inv.setHost {r code : Nat} {slot : Option Nat} : (s.setHost r code slot).Inv := by
  unfold State.setHost
  exact .ite h.replaceHost.setf.setf.setRail.recompose.hostDone h.replaceHost.setf.setf.setRail.recompose

theorem State.Inv.targetWrite {r code : Nat} {slot : Option Nat} : (s.targetWrite r code slot).Inv := .ite h.setf h.setHost

theorem State.Inv.writeRailTarget {r : Nat} {w : Word} : (writeRailTarget r w s).1.Inv := h.targetWrite

theorem State.Inv.execRailTargetWrite {priv : Bool} {r : Nat} {w : Word} : Keeps (execRailTargetWrite priv r w s) :=
  .next (h.cfgWrite (fun _ hs => hs.writeRailTarget))

theorem State.Inv.coefHold {r : Nat} {b : Bool} : (s.coefHold r b).Inv := .ite h h.setb.setRail

theorem State.Inv.writeRailCtrl {r : Nat} {by_ : Writer} {w : Word} : (writeRailCtrl r by_ w s).1.Inv := by
  unfold Machine.writeRailCtrl
  exact .ite_fst h.writeFields.coefHold (.ite_fst h.writeFields.coefHold h.writeFields.coefHold.writeOn)

theorem State.Inv.execRailOnWrite {priv : Bool} {r : Nat} {w : Word} : Keeps (execRailOnWrite priv r w s) :=
  .next (h.cfgWrite (fun _ hs => hs.writeRailCtrl))

theorem State.Inv.execRailOffWrite {priv : Bool} {r : Nat} {w : Word} : Keeps (execRailOffWrite priv r w s) :=
  .next (h.cfgWrite (fun _ hs => hs.writeRailCtrl))

theorem State.Inv.execRailCoefHold {priv : Bool} {r : Nat} {w : Word} : Keeps (execRailCoefHold priv r w s) :=
  .next (h.cfgWrite (fun _ hs => hs.writeRailCtrl))

theorem State.Inv.writeRailInput {reg : Reg} {r : Nat} {by_ : Writer} {w : Word} : (writeRailInput reg r by_ w s).1.Inv := by
  unfold Machine.writeRailInput
  exact .ite h.writeReg.onWritten0.recompose h.writeReg.recompose

theorem State.Inv.writeRailTrack {r : Nat} {by_ : Writer} {w : Word} : (writeRailTrack r by_ w s).1.Inv := by
  unfold Machine.writeRailTrack
  exact .recompose (.ite h.writeReg.setf h.writeReg)

theorem State.Inv.feedForward {r : Nat} : (s.feedForward r).1.Inv := by
  unfold State.feedForward
  exact .ite_fst h (.ite_fst h.usedFree h)

theorem State.Inv.compStep {r : Nat} {v : Int} : (s.compStep r v).Inv := by
  unfold State.compStep
  exact .setf (.setfi (.feedForward (.ite h h.setRail)))

theorem State.Inv.railAverages {r : Nat} {i v : Int} {coarse : Nat} : (s.railAverages r i v coarse).Inv := by
  unfold State.railAverages
  exact h.setRail.setf.telem.setf.telem.telem

theorem State.Inv.railOc {r : Nat} {i : Int} : (s.railOc r i).Inv := by
  unfold State.railOc
  exact .setRail (.ite (.clampSet (.setf (.ite h.setRail h.setRail.pmbLatch))) (.ite h.setRail.setf.clampSet h.setRail))

theorem State.Inv.phaseAdd {r : Nat} : (s.phaseAdd r).Inv := by
  unfold State.phaseAdd
  exact .ite h.addPhases.capClamp h

theorem State.Inv.powerGood {r : Nat} {v : Int} : (s.powerGood r v).Inv := by
  fun_cases State.powerGood
  exacts [h.setRail, h.setRail.setf.setf.pmbLatch.fault, h.setRail.setf, h.setRail, h.setRail, h.setRail]

theorem State.Inv.railMicro {r : Nat} : (s.railMicro r).Inv := by
  unfold State.railMicro
  exact h.upd.post.post.post.post.trace

theorem State.Inv.execRailSample {r : Nat} {v sig : Int} {coarse : Nat} {cs : List (Nat × Nat)} :
    Keeps (execRailSample r v sig coarse cs s) := by
  unfold Machine.execRailSample
  refine .next ?_
  refine .ite ?_ h
  extract_lets +onlyGivenNames _ _ _ u1 _ u2 _ _ u3 u4
  have hu1 : u1.Inv := h.compStep.railAverages
  have hu2 : u2.Inv := hu1.railOc.capClamp
  have hu3 : u3.Inv := hu2.phaseAdd.setRail
  have hu4 : u4.Inv := hu3.powerGood
  exact .ite hu4.serve.railMicro hu4

theorem State.Inv.execRailOcHiccup {r : Nat} : Keeps (execRailOcHiccup r s) := by
  unfold Machine.execRailOcHiccup
  refine .next ?_
  split
  · exact .ite h.railTrip h
  · exact h

theorem State.Inv.execRailHiccupExpire {r : Nat} : Keeps (execRailHiccupExpire r s) := by
  unfold Machine.execRailHiccupExpire
  exact .next (.ite (.ite h.setf.offWhenQuiet.fault h.railStart) h)

theorem State.Inv.execRsLoss {r step : Nat} : Keeps (execRsLoss r step s) := .next (.ite h.setf.setf.incf.recompose.fault h)

theorem State.Inv.execRsRestore {r n : Nat} : Keeps (execRsRestore r n s) := .next (.ite h.setf.log.recompose h)

theorem State.Inv.railFault {r : Nat} : (s.railFault r).Inv := h.railTrip

theorem State.Inv.execSenseBothLost {r coarse ns : Nat} : Keeps (execSenseBothLost r coarse ns s) :=
  .next (.ite h.setf.railFault h)

theorem State.Inv.execRailOvervoltage {r coarse ns : Nat} : Keeps (execRailOvervoltage r coarse ns s) :=
  .next (.ite h.setf.pmbLatch.railFault h)

theorem State.Inv.genArrival {r : Nat} : (s.genArrival r).Inv := .ite h (.ite h.markArrival.hostDone h.markArrival)

theorem State.Inv.stopLow {r : Nat} : (s.stopLow r).Inv := .ite h.setRail.phasesReady h

theorem State.Inv.execProfileStep {r : Nat} : Keeps (execProfileStep r s) := by
  unfold Machine.execProfileStep
  refine .next ?_
  refine .ite ?_ h
  extract_lets +onlyGivenNames _ u1 _ u2 u3 u4
  have hu1 : u1.Inv := h.recompose.setRail
  have hu2 : u2.Inv := hu1.setb.showSet
  have hu3 : u3.Inv := .ite hu2.genArrival hu2
  have hu4 : u4.Inv := .ite hu3.propagate (.ite h.recompose.propagate h.recompose)
  exact hu4.foldl (fun _ _ hs => hs.stopLow)

theorem State.Inv.execRailEnterOn {r : Nat} : Keeps (execRailEnterOn r s) := by
  unfold Machine.execRailEnterOn
  extract_lets +onlyGivenNames _ u1
  have hu1 : u1.Inv := h.setf.railPut
  refine .next ?_
  split
  · exact .ite (.ite hu1.setRail hu1.setRail.setf) h
  · exact h

theorem State.Inv.execRailStartTimeout {r : Nat} : Keeps (execRailStartTimeout r s) := .next (.ite h.railTrip h)

theorem State.Inv.restartQuiet {r : Nat} : (s.restartQuiet r).Inv :=
  .ite h.setf.railOffNow.fault (.ite h.setf.railOffNow h.railStart)

theorem State.Inv.execRailQuietPoint {r : Nat} {cs : List (Nat × Nat)} : Keeps (execRailQuietPoint r cs s) := by
  unfold Machine.execRailQuietPoint
  refine .next ?_
  refine .ite ?_ h
  refine .ite ?_ ?_
  · exact .ite h.phasesReady.setf.restartQuiet h.phasesReady.railOffNow
  · exact .ite (.ite h.railOffNow.restartQuiet h.railOffNow) h

theorem State.Inv.setSeq {x : SeqSt} : (s.setSeq x).Inv := h.upd

theorem State.Inv.seqOutcome {slot : Option Nat} {superseded : Bool} : (s.seqOutcome slot superseded).Inv := by
  fun_cases State.seqOutcome
  exacts [h.setFw, h]

theorem State.Inv.seqBegin {up : Bool} {t : List Word} {skip : Nat} {aborting : Bool} {slot : Option Nat} :
    (s.seqBegin up t skip aborting slot).Inv := by
  unfold State.seqBegin
  exact h.setSeq.setf.setf

theorem State.Inv.seqEnd : s.seqEnd.Inv := by
  unfold State.seqEnd
  exact .ite (.ite h.setf.setSeq.seqOutcome (.ite h.setf.setSeq.seqOutcome h)) h

theorem State.Inv.toZero {r : Nat} : (s.toZero r).Inv := .ite h.setf.setRail.setTarget h

theorem State.Inv.seqRequest {up : Bool} {slot : Option Nat} : (s.seqRequest up slot).Inv := by
  unfold State.seqRequest
  extract_lets +onlyGivenNames _ _ _ u1
  have hu1 : u1.Inv := .ite h.seqOutcome h
  refine .ite h.setf.seqOutcome ?_
  refine .ite ?_ ?_
  · exact .ite h.setf.seqOutcome.setSeq (.ite h.seqOutcome.setSeq h.seqBegin.seqEnd)
  · refine .ite (.ite h.setSeq h.seqOutcome.setSeq) ?_
    exact .seqEnd (.ite (hu1.seqBegin.foldl (fun _ _ hs => hs.toZero)) hu1.seqBegin)

theorem State.Inv.writeSeqCtrl {w : Word} : (writeSeqCtrl w s).1.Inv := h.setf.seqRequest

theorem State.Inv.execSequenceUpRequest {priv : Bool} : Keeps (execSequenceUpRequest priv s) :=
  .next (h.cfgWrite (fun _ hs => hs.writeSeqCtrl))

theorem State.Inv.execSequenceDownRequest {priv : Bool} : Keeps (execSequenceDownRequest priv s) :=
  .next (h.cfgWrite (fun _ hs => hs.writeSeqCtrl))

theorem State.Inv.seqRun {up : Bool} {w : Word} : (s.seqRun up w).Inv := by
  unfold State.seqRun
  exact ((h.setf.foldl (fun _ _ hs => .ite hs hs.writeOn)).setSeq).seqEnd

theorem State.Inv.seqAbort {r : Nat} : (s.seqAbort r).Inv := by
  unfold State.seqAbort
  exact h.setf.setf.fault.seqBegin.seqEnd

theorem State.Inv.execSeqStepBegin : Keeps (execSeqStepBegin s) := by
  unfold Machine.execSeqStepBegin
  refine .next ?_
  split
  · refine .ite ?_ h
    refine .ite ?_ h.seqRun
    split
    · exact h.seqRun
    · exact .ite h.seqAbort h.setSeq
  · exact h

theorem State.Inv.execSeqCheckWaitTimeout : Keeps (execSeqCheckWaitTimeout s) := by
  unfold Machine.execSeqCheckWaitTimeout
  refine .next ?_
  split
  · exact .ite h.setf.fault.seqRun h
  · exact h

theorem State.Inv.execSeqPendingUpStart : Keeps (execSeqPendingUpStart s) := by
  unfold Machine.execSeqPendingUpStart
  exact .next (.ite (.ite h.setf.seqOutcome.setSeq.setf.setf.seqOutcome h.setf.seqOutcome.setSeq.seqBegin.seqEnd) h)

/-! ### LoopOps -/

theorem State.Inv.setSlot {n : Nat} {x : SlotSt} : (s.setSlot n x).Inv := h.upd

theorem State.Inv.markLost : s.markLost.Inv := h.upd

theorem State.Inv.setNotch {k : Nat} {x : NotchSt} : (s.setNotch k x).Inv := h.upd

theorem State.Inv.setGroup {g : Nat} {x : GroupSt} : (s.setGroup g x).Inv := h.upd

theorem State.Inv.sendCap {g : Nat} {c : Option (Nat × Nat × Nat × Nat)} : (s.sendCap g c).Inv :=
  .ite h h.setGroup.applyAllCaps

theorem State.Inv.sendGroup {g : Nat} {o : Int} : (s.sendGroup g o).Inv := by
  fun_cases State.sendGroup
  exacts [h.upd, h, h.sendCap, h.sendCap, h.sendCap.setf, h.sendCap, h.sendCap]

theorem State.Inv.sendNone {g : Nat} : (s.sendNone g).Inv := by
  fun_cases State.sendNone
  exacts [h.sendCap, h.sendCap, h.setf, h, h]

theorem State.Inv.showWinner {g : Nat} {w : Option Nat} : (s.showWinner g w).Inv := h.foldl (fun _ _ hs => hs.setb)

theorem State.Inv.regroup {g : Nat} : (s.regroup g).Inv := by
  unfold State.regroup
  split
  · exact .ite h.setf.showWinner.sendNone h.setf.showWinner
  · extract_lets +onlyGivenNames _ u1 u2 _ u3 u4
    have hu1 : u1.Inv := by
      unfold u1
      split; exacts [.ite h h.incf, h]
    have hu2 : u2.Inv := .ite hu1 hu1.hang
    have hu3 : u3.Inv := hu2.setGroup.setf.setf.setfi
    have hu4 : u4.Inv := hu3.showWinner
    exact .ite hu4.post.sendGroup hu4

theorem State.Inv.loopCounts : s.loopCounts.Inv := by
  unfold State.loopCounts
  exact h.setf.setf.setf.setf.foldl (fun _ _ hs => hs.setf)

theorem State.Inv.showNotch {n : Nat} : (s.showNotch n).Inv := by
  fun_cases State.showNotch <;> exact h.setf.setf

theorem State.Inv.placeNotch {k n f use : Nat} {fresh : Bool} : (s.placeNotch k n f use fresh).Inv := by
  unfold State.placeNotch
  exact h.setNotch.setf.setf.setf.showNotch.loopCounts

theorem State.Inv.serveRequests : s.serveRequests.Inv := h.foldl (fun _ _ hs => .ite hs.placeNotch hs)

theorem State.Inv.freeNotch {k : Nat} {req : Bool} : (s.freeNotch k req).Inv := by
  unfold State.freeNotch
  exact h.setf.setf.setf.setNotch.showNotch.loopCounts

theorem State.Inv.endRecovery {n : Nat} : (s.endRecovery n).Inv := by
  fun_cases State.endRecovery
  exacts [h.freeNotch.serveRequests, h, h]

theorem State.Inv.slotPut {n st : Nat} : (s.slotPut n st).Inv := by
  unfold State.slotPut
  exact .ite h.setf.log.hang.loopCounts.regroup h.setf.log.hang.loopCounts

theorem State.Inv.releaseOut {n : Nat} {o : Int} : (s.releaseOut n o).Inv := by
  unfold State.releaseOut
  exact h.setSlot.setfi.post.regroup

theorem State.Inv.slotToSafe {n cause : Nat} : (s.slotToSafe n cause).Inv := by
  unfold State.slotToSafe
  exact h.setSlot.setf.slotPut.endRecovery.releaseOut.fault

theorem State.Inv.slotEnable {n : Nat} : (s.slotEnable n).Inv := by
  unfold State.slotEnable
  exact h.setSlot.setf.setfi.slotPut.serveRequests

theorem State.Inv.slotStop {n : Nat} : (s.slotStop n).Inv := h.setSlot.slotPut

theorem State.Inv.busyRoll {c : Nat} : (s.busyRoll c).Inv := by
  unfold State.busyRoll
  extract_lets +onlyGivenNames _ _ _ u1 _ u2
  have hu1 : u1.Inv := .setf (.ite h.upd h)
  have hu2 : u2.Inv := by
    unfold u2
    split; exacts [.ite hu1.upd (.ite h.upd h), .ite h.upd h]
  exact hu2.setf

theorem State.Inv.busyAdd {c n : Nat} : (s.busyAdd c n).Inv := by
  unfold State.busyAdd
  exact h.busyRoll.upd.setf

theorem State.Inv.latDone : s.latDone.Inv := .ite h.setf h

theorem State.Inv.noteLatency {n lat : Nat} : (s.noteLatency n lat).Inv := by
  unfold State.noteLatency
  exact h.setf.setf

/-! ### Loop -/

theorem State.Inv.latchSlot {n : Nat} : (s.latchSlot n).Inv := by
  unfold State.latchSlot
  exact .ite (.endRecovery (.ite h.setSlot.clr.latDone h.setSlot)) (.ite h.setSlot.clr.latDone h.setSlot)

theorem State.Inv.latchInputs {n : Nat} : (s.latchInputs n).Inv := by
  unfold State.latchInputs
  extract_lets +onlyGivenNames _ _ _ _ u1 _ _ _ _ u2 u3 u4 u5
  have hu1 : u1.1.Inv := .ite_fst h (by split; exacts [h, h.usedFree])
  have hu2 : u2.Inv := hu1.setSlot.setfi
  have hu3 : u3.Inv := .ite hu2.setf hu2
  have hu4 : u4.Inv := .ite hu3.setf hu3
  have hu5 : u5.Inv := .ite hu4.setf hu4
  exact hu5.setb

theorem State.Inv.dropWaiting {n : Nat} : (s.dropWaiting n).Inv := by
  unfold State.dropWaiting
  exact .ite h.setSlot.hang.incf.incf h

theorem State.Inv.leaveHold {n : Nat} : (s.leaveHold n).Inv := by
  unfold State.leaveHold
  exact h.setSlot.slotPut

theorem State.Inv.leaveSafe {n : Nat} : (s.leaveSafe n).Inv := by
  unfold State.leaveSafe
  exact h.setSlot.setfi.setfi.slotPut

theorem State.Inv.judgeSample {n : Nat} : (s.judgeSample n).Inv := by
  unfold State.judgeSample
  refine .ite (.ite h h.setSlot.incf.slotPut) ?_
  exact .ite (.ite h.setSlot (.ite h.leaveHold h.setSlot)) (.ite (.ite h.setSlot (.ite h.leaveSafe h.setSlot)) h)

theorem State.Inv.makeReady {n : Nat} : (s.makeReady n).Inv := by
  unfold State.makeReady
  exact .ite h h.setSlot

theorem State.Inv.execSlotSample {n : Nat} : Keeps (execSlotSample n s) := by
  unfold Machine.execSlotSample
  extract_lets +onlyGivenNames _ u1 u2 u3 u4 u5
  have hu1 : u1.Inv := h.serve.busyRoll
  have hu2 : u2.Inv := hu1.latDone.latchSlot.latchInputs
  have hu3 : u3.Inv := hu2.dropWaiting
  have hu4 : u4.Inv := hu3.judgeSample
  have hu5 : u5.Inv := .ite hu3.slotToSafe (.ite hu4.releaseOut hu4)
  exact .next (.ite hu5.makeReady h)

theorem State.Inv.capY {n : Nat} : (s.capY n).Inv := by
  fun_cases State.capY
  exacts [h, h.setSlot, h.setSlot, h.setSlot]

theorem State.Inv.runLaw {n : Nat} {e : Int} : (s.runLaw n e).1.Inv := by
  unfold State.runLaw
  exact h.capY.setSlot.setb.setb.setfi

theorem State.Inv.oscTrip {n k nn : Nat} : (s.oscTrip n k nn).Inv := by
  unfold State.oscTrip
  extract_lets +onlyGivenNames _ _ _ u1 _ _ u2
  have hu1 : u1.Inv := h.incf.hang.setf
  have hu2 : u2.Inv := by
    unfold u2
    split; exacts [hu1.setSlot.placeNotch.log, by split; exacts [hu1.setSlot.placeNotch.log, hu1.setSlot.setf]]
  exact .ite hu2.slotPut h.incf.hang.slotToSafe

theorem State.Inv.detect {n : Nat} {e : Int} : (s.detect n e).Inv := by
  unfold State.detect
  exact .ite h.setSlot.oscTrip (.ite (.ite h.setSlot.setSlot.slotPut h.setSlot) h.setSlot)

theorem State.Inv.setLane {k : Nat} {x : LaneSt} : (s.setLane k x).Inv := h.upd

theorem State.Inv.startLaw {n k c : Nat} : (s.startLaw n k c).Inv := by
  unfold State.startLaw
  extract_lets +onlyGivenNames _ _ u1 _ u2
  have hu1 : u1.1.Inv := by
    unfold u1
    split; exacts [h.setNotch, h]
  have hu2 : u2.Inv := hu1.runLaw.busyAdd
  exact hu2.setLane.detect

theorem State.Inv.execSlotEvaluate : Keeps (execSlotEvaluate s) := by
  unfold Machine.execSlotEvaluate
  refine .next ?_
  split
  · exact .ite (.ite h.setSlot.startLaw h.setSlot.busyAdd.setLane) h
  · exact h

theorem State.Inv.traceTaps {n : Nat} {vals : List Int} : (s.traceTaps n vals).Inv := by
  unfold State.traceTaps
  exact .ite h h.traceMany

theorem State.Inv.execSlotRelease : Keeps (execSlotRelease s) := by
  unfold Machine.execSlotRelease
  refine .next ?_
  split
  · refine .ite ?_ h
    extract_lets +onlyGivenNames _ _ _ _ u1
    have hu1 : u1.Inv := h.setLane.setSlot.traceTaps
    split
    · exact .ite hu1.noteLatency.releaseOut hu1
    · exact hu1
  · exact h

theorem State.Inv.execSlotHoldTimeout {n : Nat} : Keeps (execSlotHoldTimeout n s) := by
  unfold Machine.execSlotHoldTimeout
  exact .next (.ite h.slotToSafe h)

theorem State.Inv.execCeilingArrival {n : Nat} : Keeps (execCeilingArrival n s) := by
  unfold Machine.execCeilingArrival
  refine .next ?_
  split
  · exact .ite h.releaseOut h
  · exact h

theorem State.Inv.slotCoefHold {n : Nat} {b : Bool} : (s.slotCoefHold n b).Inv := .ite h (.ite h.setb.setSlot h.setb)

theorem State.Inv.slotEn {n : Nat} {b : Bool} : (s.slotEn n b).Inv := by
  unfold State.slotEn
  exact .ite (.ite h.slotEnable (.ite h.setf h)) (.ite h (.ite h.setf h.slotStop))

theorem State.Inv.writeSlotCtrl {n : Nat} {by_ : Writer} {w : Word} : (writeSlotCtrl n by_ w s).1.Inv := by
  unfold Machine.writeSlotCtrl
  exact h.slotCoefHold.writeReg.slotEn

theorem State.Inv.execSlotEnable {priv : Bool} {n : Nat} {w : Word} : Keeps (execSlotEnable priv n w s) :=
  .next (h.cfgWrite (fun _ hs => hs.writeSlotCtrl))

theorem State.Inv.execSlotDisable {priv : Bool} {n : Nat} {w : Word} : Keeps (execSlotDisable priv n w s) :=
  .next (h.cfgWrite (fun _ hs => hs.writeSlotCtrl))

theorem State.Inv.execSlotQuietPoint {n : Nat} : Keeps (execSlotQuietPoint n s) := by
  unfold Machine.execSlotQuietPoint
  extract_lets +onlyGivenNames _ u1
  have hu1 : u1.Inv := by
    unfold u1
    split; exacts [h.freeNotch, h]
  exact .next (.ite (.serveRequests (.ite hu1.setf.slotEnable hu1.slotPut)) h)

theorem State.Inv.writeNotchCfg {k : Nat} {by_ : Writer} {w : Word} : (writeNotchCfg k by_ w s).1.Inv := by
  unfold Machine.writeNotchCfg
  exact .ite (.ite h.writeReg.setNotch h.writeReg.setNotch.serveRequests) (.ite h.writeReg.freeNotch.serveRequests
    h.writeReg.setNotch)

theorem State.Inv.execNotchAssign {priv : Bool} {k : Nat} {w : Word} : Keeps (execNotchAssign priv k w s) :=
  .next (h.cfgWrite (fun _ hs => hs.writeNotchCfg))

theorem State.Inv.writeLatClr {w : Word} : (writeLatClr w s).1.Inv := by
  unfold Machine.writeLatClr
  exact .ite (h.setf.upd.setf.foldl (fun _ _ hs => .ite hs.setSlot hs.clr)) h.setf

theorem State.Inv.execLatencyClear {priv : Bool} : Keeps (execLatencyClear priv s) :=
  .next (h.cfgWrite (fun _ hs => hs.writeLatClr))

theorem State.Inv.writeLoopCtrl {by_ : Writer} {w : Word} : (writeLoopCtrl by_ w s).1.Inv := by
  unfold Machine.writeLoopCtrl
  exact .ite (h.writeReg.foldl (fun _ _ hs => hs.setGroup.regroup)) h.writeReg

theorem State.Inv.writeGroupCfg {g : Nat} {by_ : Writer} {w : Word} : (writeGroupCfg g by_ w s).1.Inv := by
  unfold Machine.writeGroupCfg
  extract_lets +onlyGivenNames _ _ u1 _ u2
  have hu1 : u1.1.Inv := h.writeFields
  have hu2 : u2.Inv := .ite hu1.setf hu1
  exact .ite (.ite hu2.sendGroup hu2) hu1

theorem State.Inv.writePcap {by_ : Writer} {w : Word} : (writePcap by_ w s).1.Inv := h.writeReg

theorem State.Inv.execRailNeedReceive : Keeps (execRailNeedReceive s) := by
  unfold Machine.execRailNeedReceive
  refine .next ?_
  split
  · exact .ite h.upd.upd.post.recompose h
  · exact h

theorem State.Inv.execRailNeedTimeout : Keeps (execRailNeedTimeout s) := .next (.ite h.upd.fault h)

theorem State.Inv.execGroupResend : Keeps (execGroupResend s) :=
  .next (.ite (h.foldl (fun _ _ hs => .ite (.ite hs.sendGroup hs.sendNone) hs)) h)

/-! ### Lasts -/

theorem State.Inv.lastPut {l st : Nat} : (s.lastPut l st).Inv := by
  unfold State.lastPut
  exact h.setf.setBitf.setBitf.log

theorem State.Inv.setPlock {l p : Nat} : (s.setPlock l p).Inv := h.setLast.setf

theorem State.Inv.lastSearch {l : Nat} : (s.lastSearch l).Inv := by
  unfold State.lastSearch
  exact .lastPut (.ite h.setLast.setf h.setLast)

theorem State.Inv.lastFade {l : Nat} : (s.lastFade l).Inv := by
  unfold State.lastFade
  exact h.setLast.setf.incf.lastPut

theorem State.Inv.srcMean {l : Nat} {sum0 : Int} {num0 : Nat} : (s.srcMean l sum0 num0).1.Inv := by
  fun_cases State.srcMean
  exacts [h, h.usedFree, h, h]

theorem State.Inv.beginBin {l : Nat} : (s.beginBin l).Inv := by
  unfold State.beginBin
  exact h.setLast

theorem State.Inv.learnBin {l : Nat} : (s.learnBin l).Inv := by
  unfold State.learnBin
  exact .ite h h.srcMean.setLast.setfi

theorem State.Inv.endBin {l : Nat} : (s.endBin l).Inv := by
  unfold State.endBin
  exact .setLast (.ite h.learnBin h)

theorem State.Inv.lastLock {l p : Nat} {t : Word64} {mean : Int × Nat} {auto_ : Bool} :
    (s.lastLock l p t mean auto_).Inv := by
  unfold State.lastLock
  extract_lets +onlyGivenNames _ _ _ _ _ _ _ _ u1 u2 u3 u4
  have hu1 : u1.Inv := h.setLast.setLast
  have hu2 : u2.Inv := .ite h.setLast (.ite h.setLast.setPlock hu1.setfi.setPlock)
  have hu3 : u3.Inv := hu2.setf.incf
  have hu4 : u4.Inv := hu3.setb.lastPut
  exact hu4.beginBin

theorem State.Inv.searchMarker {l : Nat} {t : Word64} : (s.searchMarker l t).Inv := by
  fun_cases State.searchMarker
  exacts [h.setLast, h.setLast, h.srcMean.setLast.lastLock, h.srcMean.setLast.setLast]

theorem State.Inv.lockedMarker {l : Nat} {t : Word64} : (s.lockedMarker l t).Inv := by
  unfold State.lockedMarker
  exact .ite h.lastFade (.ite (.ite h.endBin.setLast.beginBin.lastFade h.endBin.setLast.beginBin) h.lastFade.searchMarker)

theorem State.Inv.execLastMarker {l : Nat} : Keeps (execLastMarker l s) := by
  unfold Machine.execLastMarker
  refine .next ?_
  split
  · exact h
  · exact .ite (.ite h.setLast (.ite h.setLast.lockedMarker h.setLast.searchMarker)) h

theorem State.Inv.execLastMarkerTimeout {l : Nat} : Keeps (execLastMarkerTimeout l s) := by
  unfold Machine.execLastMarkerTimeout
  exact .next (.ite h.lastFade h)

theorem State.Inv.execLastFadeEnd {l : Nat} : Keeps (execLastFadeEnd l s) := by
  unfold Machine.execLastFadeEnd
  refine .next ?_
  refine .ite ?_ h
  split
  · exact h.lastSearch.lastLock
  · exact h.lastSearch

theorem State.Inv.corrSearch {l : Nat} {best : Option (Nat × Int)} {den : Int} : (s.corrSearch l best den).Inv := by
  fun_cases State.corrSearch
  exacts [h.lastLock, h.setLast, h.setLast, h.setLast, h]

theorem State.Inv.corrCheck {l : Nat} {best : Option (Nat × Int)} {den : Int} : (s.corrCheck l best den).Inv := by
  fun_cases State.corrCheck
  exacts [h, h.lastFade, h]

theorem State.Inv.execLastCorrelationEval {l : Nat} : Keeps (execLastCorrelationEval l s) := by
  unfold Machine.execLastCorrelationEval
  exact .next (.ite (.ite h.serve.setLast (.ite h.serve.setLast.corrSearch h.serve.setLast.corrCheck)) h)

theorem State.Inv.traceLead {l : Nat} : (s.traceLead l).Inv := by
  unfold State.traceLead
  exact .ite h h.setLast.trace

theorem State.Inv.execLastBinUpdate {l : Nat} : Keeps (execLastBinUpdate l s) :=
  .next (.ite (.traceLead (.ite h h.endBin.beginBin)) h)

theorem State.Inv.plockIf {l : Nat} {changed : Bool} : (s.plockIf l changed).Inv :=
  .ite (.ite h.setPlock.lastFade h.setPlock) h

theorem State.Inv.writeLastCfg {l : Nat} {by_ : Writer} {w : Word} : (writeLastCfg l by_ w s).1.Inv := by
  unfold Machine.writeLastCfg
  extract_lets +onlyGivenNames _ _ u1
  have hu1 : u1.Inv := h.writeReg.plockIf
  exact .ite (.ite hu1.setLast.lastSearch hu1) (.ite hu1 hu1.setLast.setf.lastPut)

theorem State.Inv.execLastEnableWrite {priv : Bool} {l : Nat} {w : Word} : Keeps (execLastEnableWrite priv l w s) :=
  .next (h.cfgWrite (fun _ hs => hs.writeLastCfg))

theorem State.Inv.writeLastSrc {l : Nat} {by_ : Writer} {w : Word} : (writeLastSrc l by_ w s).1.Inv := by
  unfold Machine.writeLastSrc
  exact h.writeReg.plockIf

theorem State.Inv.writeLastLearn {l : Nat} {by_ : Writer} {w : Word} : (writeLastLearn l by_ w s).1.Inv := by
  unfold Machine.writeLastLearn
  exact h.writeReg.plockIf

theorem State.Inv.writeBinload {by_ : Writer} {w : Word} : (writeBinload by_ w s).1.Inv := by
  unfold Machine.writeBinload
  exact .ite h.writeReg.setf h.writeReg.setLast.setf.setf

theorem State.Inv.execLastBinload {priv : Bool} {w : Word} : Keeps (execLastBinload priv w s) :=
  .next (h.cfgWrite (fun _ hs => hs.writeBinload))

theorem State.Inv.setPred {x : PredSt} : (s.setPred x).Inv := h.upd

theorem State.Inv.setPredCore {n : Nat} {x : PredCore} : (s.setPredCore n x).Inv := h.setPred

theorem State.Inv.setPredClu {c : Nat} {x : PredClu} : (s.setPredClu c x).Inv := h.setPred

theorem State.Inv.execActivityWindow {n : Nat} {counts : List Nat} : Keeps (execActivityWindow n counts s) := by
  unfold Machine.execActivityWindow
  exact .next (.ite h.setPredCore h)

theorem State.Inv.takeWindow {n m : Nat} : (s.takeWindow n m).Inv := by
  unfold State.takeWindow
  exact .ite h h.setPredCore.incf

theorem State.Inv.estimate {n m q : Nat} : (s.estimate n m q).Inv := by
  unfold State.estimate
  exact .ite (.ite h.takeWindow.setPredCore.setf.setf h.takeWindow.setPredCore.setf) h.takeWindow.setPredCore.setf.setf

theorem State.Inv.estimateOff {n : Nat} : (s.estimateOff n).Inv := h.setPredCore.wr

theorem State.Inv.deliver : s.deliver.Inv := by
  unfold State.deliver
  extract_lets +onlyGivenNames _ _ u1 _ _ u2
  have hu1 : u1.Inv := h.setf.telem.post
  have hu2 : u2.1.Inv := .ite_fst hu1 (.ite_fst hu1 (.ite_fst hu1.usedFree hu1))
  exact hu2.setPred

theorem State.Inv.keepEst {us : Nat} : (s.keepEst us).Inv := by
  unfold State.keepEst
  exact (h.foldl (fun _ _ hs => hs.setPredClu)).setPred

theorem State.Inv.releaseSets : s.releaseSets.Inv := by
  unfold State.releaseSets
  exact .ite h.setPred h

theorem State.Inv.tracePred {n : Nat} : (s.tracePred n).Inv := .ite h.trace.traceMany h

theorem State.Inv.execPredictorEval {intents : List (Nat × Nat × Nat)} : Keeps (execPredictorEval intents s) := by
  unfold Machine.execPredictorEval
  extract_lets +onlyGivenNames _ _ u1 u2 u3 _ u4 u5
  have hu1 : u1.Inv := h.upd.releaseSets
  have hu2 : u2.Inv := hu1.foldl (fun _ _ hs => .ite hs.estimate hs.estimateOff)
  have hu3 : u3.Inv := hu2.tracePred
  have hu4 : u4.Inv := .ite (hu3.setPred.foldl (fun _ _ hs => hs.setClick)) hu3
  have hu5 : u5.Inv := .ite hu4.keepEst hu4
  exact .next (.ite hu5.deliver h)

theorem State.Inv.predFall {unit : Nat} : (s.predFall unit).Inv := by
  unfold State.predFall
  exact h.setPred.incf.log.fault

theorem State.Inv.clusterRun {c : Nat} {trip : Bool} : (s.clusterRun c trip).Inv := by
  unfold State.clusterRun
  extract_lets +onlyGivenNames _ _ u1
  have hu1 : u1.Inv := h.setf.incf.setPredClu
  exact .ite h.setPredClu (.ite h.setf.incf.setPredClu (.ite hu1.setf.predFall (.ite hu1.setf.predFall hu1)))

theorem State.Inv.checkCluster {us c : Nat} : (s.checkCluster us c).Inv := by
  fun_cases State.checkCluster
  exacts [h, h.setfiSat.trace.setPredClu.clusterRun]

theorem State.Inv.chipRun {trip : Bool} : (s.chipRun trip).Inv := by
  unfold State.chipRun
  extract_lets +onlyGivenNames _ _ _ u1
  have hu1 : u1.Inv := h.incf.setPred
  exact .ite h.setPred (.ite h.incf.setPred (.ite hu1.setf.predFall (.ite hu1.setf.predFall hu1)))

theorem State.Inv.checkChip {us n : Nat} : (s.checkChip us n).Inv := by
  fun_cases State.checkChip
  exacts [h.setfiSat.chipRun, h]

theorem State.Inv.execResidualCheck : Keeps (execResidualCheck s) :=
  .next (.ite (.ite h.serve.setPred ((h.serve.setPred.foldl (fun _ _ hs => hs.checkCluster)).checkChip)) h)

theorem State.Inv.shadowFail {n set_ : Nat} : (s.shadowFail n set_).Inv := by
  unfold State.shadowFail
  exact .ite (.setBitf (.ite h.incf.setPred.log h.incf.setPred.log.setPred.incf)) h.incf.setPred.log

theorem State.Inv.execShadowCheck : Keeps (execShadowCheck s) := by
  unfold Machine.execShadowCheck
  refine .next ?_
  refine .ite ?_ h
  extract_lets
  split
  · exact h.serve
  · exact .ite h.serve.setPred.setf.setfiSat.shadowFail h.serve.setPred.setf.setfiSat

theorem State.Inv.predResume : s.predResume.Inv := by
  unfold State.predResume
  exact ((h.setf.foldl (fun _ _ hs => hs.setf.setf)).setPred).setf

theorem State.Inv.writePredResume {w : Word} : (writePredResume w s).1.Inv := by
  unfold Machine.writePredResume
  exact .ite (.ite h.setf.setf h.setf.predResume.setf) h.setf

theorem State.Inv.execPredResumeGo {priv : Bool} : Keeps (execPredResumeGo priv s) :=
  .next (h.cfgWrite (fun _ hs => hs.writePredResume))

theorem State.Inv.predEn {en : Bool} : (s.predEn en).Inv := by
  unfold State.predEn
  exact h.setPred.clrAll.setf

theorem State.Inv.writePredCtrl {by_ : Writer} {w : Word} : (writePredCtrl by_ w s).1.Inv := by
  unfold Machine.writePredCtrl
  extract_lets +onlyGivenNames _ _ _ _ _ u1
  have hu1 : u1.Inv := .ite h.writeReg.setPred (.ite h.writeReg.setPred h.writeReg)
  exact .ite hu1 hu1.predEn

theorem State.Inv.execPredSetHold {priv : Bool} {w : Word} : Keeps (execPredSetHold priv w s) :=
  .next (h.cfgWrite (fun _ hs => hs.writePredCtrl))

theorem State.Inv.writePredGain {set_ : Nat} {by_ : Writer} {w : Word} : (writePredGain set_ by_ w s).1.Inv := by
  unfold Machine.writePredGain
  exact h.writeReg.setPred

theorem State.Inv.trimSet {set_ : Nat} : (s.trimSet set_).Inv := by
  unfold State.trimSet
  exact .ite h (.ite h.setf.log h.setf)

theorem State.Inv.execPredGainTrim : Keeps (execPredGainTrim s) :=
  .next (.ite ((h.serve.foldl (fun _ _ hs => hs.trimSet)).setPred) h)

/-! ### LaceOps -/

theorem State.Inv.setPort {p : Nat} {x : PortSt} : (s.setPort p x).Inv := h.upd

theorem State.Inv.laceSend {m : LaceMsg} : (s.laceSend m).Inv := by
  unfold State.laceSend
  exact .ite h h.upd

theorem State.Inv.laceSendAlso {m : LaceMsg} : (s.laceSendAlso m).Inv := by
  unfold State.laceSendAlso
  exact h.upd.laceSend.upd

theorem State.Inv.peer {site code : Nat} : (s.peer site code).Inv := h.notice

theorem State.Inv.clearAligned : s.clearAligned.Inv := by
  unfold State.clearAligned
  exact .ite h.upd.setf.peer h.upd

theorem State.Inv.laceSendPort {p : Nat} {m : LaceMsg} : (s.laceSendPort p m).Inv := by
  unfold State.laceSendPort
  exact h.upd

/-! ### Thermal -/

theorem State.Inv.setSens {a : Nat} {x : SensSt} : (s.setSens a x).Inv := h.upd

theorem State.Inv.setZone {layer unit : Nat} {x : ZoneSt} : (s.setZone layer unit x).Inv := h.upd

theorem State.Inv.takeReadings {layer : Nat} {l : List Reading} : (s.takeReadings layer l).Inv := by
  unfold State.takeReadings
  extract_lets +onlyGivenNames _ _ _ _ _ _ u1 u2 u3 _ u4
  have hu1 : u1.Inv := h.foldl (fun _ _ hs => .ite hs.setSens hs)
  have hu2 : u2.Inv := hu1.foldl (fun _ _ hs => hs.setSens)
  have hu3 : u3.Inv := hu2.foldl (fun _ _ hs => hs.setSens)
  have hu4 : u4.Inv := hu3.setf.foldl (fun _ _ hs => hs.fault)
  exact hu4.foldl (fun _ _ hs => hs.setf.fault)

theorem State.Inv.zoneSample {layer unit : Nat} : (s.zoneSample layer unit).Inv := by
  unfold State.zoneSample
  exact .ite (.log (.ite h.setZone h.setZone.log)) (.ite h.setZone h.setZone.log)

theorem State.Inv.coreCaps {n : Nat} : (s.coreCaps n).Inv := by
  unfold State.coreCaps
  exact h.setb.setb.setb.setb

theorem State.Inv.windowClusters : s.windowClusters.Inv := by
  unfold State.windowClusters
  exact h.upd

theorem State.Inv.countBackstops : s.countBackstops.Inv := h.setf

theorem State.Inv.thermalCaps : s.thermalCaps.Inv :=
  ((h.windowClusters.foldl (fun _ _ hs => hs.coreCaps)).countBackstops).applyAllCaps

theorem State.Inv.channel {i : Nat} {v : Option Int} : (s.channel i v).Inv := by
  fun_cases State.channel
  exacts [.ite h.upd.markLost h.upd, .trace (.post (.ite h.upd.markLost h.upd)), .post (.ite h.upd.markLost h.upd)]

theorem State.Inv.showCore {layer n : Nat} : (s.showCore layer n).Inv := by
  unfold State.showCore
  exact .ite h.setb.setf.setf.setb.setfiSat.channel h.setb.setf.setf.setfiSat.channel

theorem State.Inv.showMax {layer : Nat} : (s.showMax layer).Inv := by
  unfold State.showMax
  exact (((h.foldl (fun _ _ hs => hs.setf.channel)).setf).telem).channel

theorem State.Inv.setRef {layer unit : Nat} {b : Bool} : (s.setRef layer unit b).Inv := by
  unfold State.setRef
  exact .setf (.ite h.setb h.setb)

theorem State.Inv.refresh {layer unit : Nat} : (s.refresh layer unit).Inv := by
  fun_cases State.refresh
  exacts [h.setRef, h, h.setRef, h, h]

theorem State.Inv.execRefreshRelease {layer unit : Nat} : Keeps (execRefreshRelease layer unit s) := by
  unfold Machine.execRefreshRelease
  refine .next ?_
  split
  · exact .ite h.setRef h
  · exact h

theorem State.Inv.putColumn {n : Nat} {x : ColSt} : (s.putColumn n x).Inv := by
  unfold State.putColumn
  exact h.upd.setf.setf.setf

theorem State.Inv.startColumn {n : Nat} : (s.startColumn n).Inv := by
  fun_cases State.startColumn
  exacts [h.putColumn, h]

theorem State.Inv.correctColumn {layer n : Nat} : (s.correctColumn layer n).Inv := by
  fun_cases State.correctColumn
  exacts [h.putColumn, h]

theorem State.Inv.execThermalSample {layer : Nat} {readings : List (Nat × Int × Nat)} :
    Keeps (execThermalSample layer readings s) := by
  unfold Machine.execThermalSample
  refine .next ?_
  refine .ite ?_ h
  extract_lets +onlyGivenNames _ u1 u2 u3 u4 u5 u6
  have hu1 : u1.Inv := h.serve.takeReadings
  have hu2 : u2.Inv := hu1.foldl (fun _ _ hs => hs.zoneSample)
  have hu3 : u3.Inv := .ite hu2 (hu2.foldl (fun _ _ hs => hs.refresh))
  have hu4 : u4.Inv := hu3.foldl (fun _ _ hs => hs.setf.setf.channel)
  have hu5 : u5.Inv := (hu3.foldl (fun _ _ hs => hs.showCore)).showMax
  have hu6 : u6.Inv := .ite (hu5.foldl (fun _ _ hs => .correctColumn (.ite hs.startColumn hs))) hu5
  exact .ite hu4.channel hu6.thermalCaps

theorem State.Inv.execBackstopRelease {n : Nat} : Keeps (execBackstopRelease n s) :=
  .next (.ite h.coreCaps.countBackstops.applyCaps h)

theorem State.Inv.writeThmSdata {w : Word} : (writeThmSdata w s).1.Inv := by
  unfold Machine.writeThmSdata
  exact .ite h.setSens h

theorem State.Inv.execSensorUnbreak {priv : Bool} {w : Word} : Keeps (execSensorUnbreak priv w s) :=
  .next (h.cfgWrite (fun _ hs => hs.writeThmSdata))

theorem State.Inv.winPut {st : Nat} : (s.winPut st).Inv := h.setf.log.thermalCaps

theorem State.Inv.winOpen {id dur : Nat} {crit : List Nat} : (s.winOpen id dur crit).Inv := by
  unfold State.winOpen
  extract_lets +onlyGivenNames _ u1 _ u2 _ _ u3
  have hu1 : u1.Inv := h.foldl (fun _ _ hs => hs.setf)
  have hu2 : u2.Inv := .ite hu1.upd hu1
  have hu3 : u3.Inv := hu2.setPair.setf
  exact .ite hu3.setf.winPut hu3.thermalCaps

theorem State.Inv.winClose : s.winClose.Inv := .ite h.winPut h

theorem State.Inv.slowNotice : s.slowNotice.Inv := by
  unfold State.slowNotice
  exact .ite h.setf.setf.notice.laceSend h.setf.setf.notice

theorem State.Inv.execWindowExpire : Keeps (execWindowExpire s) := .next (.ite h.winClose h)

theorem State.Inv.stepColumn {n : Nat} {t : Int} : (s.stepColumn n t).Inv := by
  unfold State.stepColumn
  exact .setf (.setf (.putColumn (.ite_fst h.usedFree h)))

theorem State.Inv.execColumnModelStep : Keeps (execColumnModelStep s) := by
  unfold Machine.execColumnModelStep
  refine .next ?_
  refine .ite ?_ h
  extract_lets +onlyGivenNames _ u1 u2 u3
  have hu1 : u1.Inv := h.serve.foldl (fun _ _ hs => by split; exacts [hs.stepColumn, hs.upd])
  have hu2 : u2.Inv := hu1.foldl (fun _ _ hs => hs.channel)
  have hu3 : u3.Inv := hu2.foldl (fun _ _ hs => hs.setf.setf.channel)
  exact .ite hu3.channel.winPut.slowNotice hu3.channel

theorem State.Inv.writeThmCtrl {by_ : Writer} {w : Word} : (writeThmCtrl by_ w s).1.Inv := by
  unfold Machine.writeThmCtrl
  exact .ite h.writeReg (.ite h.writeReg.upd (h.writeReg.upd.foldl (fun _ _ hs => hs.startColumn)))

/-! ### Domain -/

theorem State.Inv.setDom {d : Nat} {x : DomSt} : (s.setDom d x).Inv := (State.inv_setDom ..).2 h

theorem State.Inv.slotOutcome {slot : Option Nat} {v : Nat} : (s.slotOutcome slot v).Inv := by
  fun_cases State.slotOutcome
  exacts [h, h.setFw]

theorem State.Inv.showReq {d v : Nat} : (s.showReq d v).Inv := .ite h h.setf

theorem State.Inv.recordRefusal {d cause refuser : Nat} {abort : Bool} {slot : Option Nat} :
    (s.recordRefusal d cause refuser abort slot).Inv := by
  fun_cases State.recordRefusal
  exacts [h.showReq.slotOutcome, .setf (.setf (.setb (.ite h.showReq.slotOutcome.incf h.showReq.slotOutcome.incf)))]

theorem State.Inv.putTarget {d t : Nat} : (s.putTarget d t).Inv := by
  unfold State.putTarget
  exact .setf (.ite h.setf (.ite h.setf h))

theorem State.Inv.putPending {d t : Nat} : (s.putPending d t).Inv := h.setf.setb

theorem State.Inv.showWakeHeld : s.showWakeHeld.Inv := h.setb

theorem State.Inv.dropRelays : s.dropRelays.Inv := by
  unfold State.dropRelays
  exact h.upd.foldl (fun _ _ hs => hs.slotOutcome)

theorem State.Inv.clrIsland {lo hi : Nat} : (s.clrIsland lo hi).Inv := h.upd

theorem State.Inv.islandLost {d : Nat} : (s.islandLost d).Inv := by
  fun_cases State.islandLost
  exacts [h.dropRelays.clrIsland.upd, h.clrIsland.clrIsland.upd, h.clrIsland.upd, h]

theorem State.Inv.dropRegions : s.dropRegions.Inv := by
  unfold State.dropRegions
  exact h.freeTiles.upd.showRegions

theorem State.Inv.flushSeams {d : Nat} : (s.flushSeams d).Inv := by
  unfold State.flushSeams
  split
  · exact h
  · extract_lets +onlyGivenNames u1
    have hu1 : u1.Inv := h.foldl (fun _ _ hs => .ite hs hs.setSeam)
    exact .ite hu1.flushStation (.ite hu1.setCluster hu1)

theorem State.Inv.stepAction {d step : Nat} : (s.stepAction d step).Inv := by
  unfold State.stepAction
  extract_lets +onlyGivenNames _ u1 u2 u3
  have hu1 : u1.Inv := .ite h.drainStation h
  have hu2 : u2.Inv := .ite h.flushSeams h
  have hu3 : u3.Inv := .ite hu2.settleStation hu2
  refine .ite (.ite h.writeOn (.ite h.writeOn h)) ?_
  split
  · exact .ite hu1.dropRegions hu1
  · exact hu3.setDom
  · exact h.setDom
  · exact h.flushSeams.setDom
  · exact h.setDom
  · exact h.setDom
  · exact h.setDom
  · exact h

theorem State.Inv.putStep {d step : Nat} : (s.putStep d step).Inv := .ite h.rollEpoch.setf.noteOn (.ite h.setf.hang h.setf)

theorem State.Inv.beginStep {d step : Nat} : (s.beginStep d step).Inv := by
  unfold State.beginStep
  exact h.setDom.putStep.stepAction

theorem State.Inv.reach {d cp : Nat} : (s.reach d cp).Inv := by
  unfold State.reach
  extract_lets +onlyGivenNames _ u1 u2 u3 _ u4 u5 _ u6
  have hu1 : u1.Inv := h.putTarget.putStep
  have hu2 : u2.Inv := .ite hu1 hu1.showReq
  have hu3 : u3.Inv := hu2.slotOutcome
  have hu4 : u4.Inv := .ite hu3.setDom.wakeStation hu3.setDom
  have hu5 : u5.Inv := .ite hu4.weltWake hu4
  have hu6 : u6.Inv := .ite hu5.upd hu5
  exact .ite (.ite hu6.upd hu6) hu3.setDom

theorem State.Inv.powerLost {d cp : Nat} : (s.powerLost d cp).Inv := by
  unfold State.powerLost
  exact .ite (.ite h.islandLost.setDom.setStation h.islandLost.setDom) h.islandLost

theorem State.Inv.wakeSrc {d src : Nat} : (s.wakeSrc d src).Inv := .ite h h.setf

theorem State.Inv.startWake {d : Nat} {slot : Option Nat} : (s.startWake d slot).Inv := h.setDom.putTarget.beginStep

theorem State.Inv.beginWake {fuel d src : Nat} {slot : Option Nat} : (s.beginWake fuel d src slot).Inv := by
  induction fuel generalizing s d src slot with
  | zero =>
    unfold State.beginWake
    exact .ite h.wakeSrc.setDom.putPending.showWakeHeld h.wakeSrc.startWake
  | succ k ih =>
    unfold State.beginWake
    extract_lets u1 _ u2
    have hu1 : u1.Inv := h.wakeSrc
    refine .ite hu1.setDom.putPending.showWakeHeld ?_
    split
    · next e _ =>
      cases e
      refine .ite hu1.startWake ?_
      have hu2 : u2.Inv := hu1.setDom.setf
      exact .ite hu2.setDom.putPending (.ite hu2 (ih hu2))
    · exact hu1.startWake

theorem State.Inv.beginEntry {d target src : Nat} {slot : Option Nat} : (s.beginEntry d target src slot).Inv := by
  fun_cases State.beginEntry
  exacts [.recordRefusal (.ite h.setf h), h.setf.setDom.putTarget.beginStep, h.setf.setDom.putTarget.reach]

theorem State.Inv.domRequest {d target src : Nat} {slot : Option Nat} {hold : Bool} :
    (s.domRequest d target src slot hold).Inv := by
  unfold State.domRequest
  extract_lets +onlyGivenNames _ _ u1 _ _ u2 u3 u4
  have hu1 : u1.Inv := h.setf.slotOutcome
  have hu2 : u2.Inv := hu1.setDom.slotOutcome
  have hu3 : u3.Inv := .ite hu2.setDom.putPending.showWakeHeld hu2
  have hu4 : u4.Inv := .ite hu3.slotOutcome hu3
  refine .ite hu2.setDom.putPending.showWakeHeld ?_
  refine .ite hu1.setDom.setDom ?_
  exact .ite hu4.recordRefusal (.ite hu4.setf.setf.slotOutcome (.ite hu4.beginWake hu4.beginEntry))

theorem State.Inv.fenceDomain {d : Nat} : (s.fenceDomain d).Inv := h.setf.domRequest

theorem State.Inv.wakeChildren {p : Nat} : (s.wakeChildren p).Inv := h.foldl (fun _ _ hs => hs.setf.beginWake)

theorem State.Inv.takePending {d cp old : Nat} : (s.takePending d cp old).Inv := by
  unfold State.takePending
  extract_lets +onlyGivenNames _ _ _ u1 u2 u3
  have hu1 : u1.Inv := h.putPending.showWakeHeld
  have hu2 : u2.Inv := hu1.slotOutcome
  have hu3 : u3.Inv := hu2.setDom.putTarget
  refine .ite h ?_
  refine .ite ?_ ?_
  · exact .ite hu1.setDom.showReq.slotOutcome hu2.setDom
  · refine .ite hu1.setDom.setf ?_
    split
    · exact hu1.setDom.recordRefusal
    · exact .ite hu3.usedFree.wakeSrc.log hu3

theorem State.Inv.proceed {d cp : Nat} : (s.proceed d cp).Inv := by
  unfold State.proceed
  extract_lets +onlyGivenNames u1 _ _ u2 u3
  have hu1 : u1.Inv := .ite h.powerLost h
  have hu2 : u2.Inv := .ite hu1.reach.wakeChildren hu1
  have hu3 : u3.Inv := hu2.takePending
  refine .ite hu1.setDom.setf ?_
  refine .ite hu1.beginStep ?_
  refine .ite hu3 ?_
  split
  · exact hu3.beginStep
  · exact hu3.reach

theorem State.Inv.abortRoute {d cause refuser : Nat} : (s.abortRoute d cause refuser).Inv := by
  unfold State.abortRoute
  exact h.setDom.setf.recordRefusal.putTarget

theorem State.Inv.applyRestore {d : Nat} {r : Restored} : (s.applyRestore d r).Inv := by
  unfold State.applyRestore
  split
  · exact h.setf
  · extract_lets +onlyGivenNames _ u1
    have hu1 : u1.Inv := .ite (h.foldl (fun _ _ hs => hs.restoreReg)) h.setDom
    exact .ite hu1.setf.incf hu1.setf
  · exact h.setDom.islandLost.setf.setf.incf.fault.notice

theorem State.Inv.endStep {d walk : Nat} {words : List Nat} {bad : BadTiles} : (s.endStep d walk words bad).Inv := by
  unfold State.endStep
  extract_lets st u r r'
  have hu : u.Inv := .ite h.log h
  have hr : r.1.Inv := hu.saveWalk
  have hr' : r'.1.Inv := hu.restoreWalk
  clear_value st u r r'
  split
  · refine .ite hu (.ite ?_ hr.abortRoute.fault)
    split
    · exact hr.incf
    · exact hr
  · exact .ite hu hr'.applyRestore
  · exact hu

theorem State.Inv.execDomainCommit {d : Nat} {quiet : Bool} {words : List Nat} {walk : Nat} {bad : List (Nat × Nat)} :
    Keeps (execDomainCommit d quiet words walk bad s) := .next (.ite h.endStep.proceed.trace h)

theorem State.Inv.execWaitIntent {d mode : Nat} : Keeps (execWaitIntent d mode s) := by
  unfold Machine.execWaitIntent
  refine .next ?_
  refine .ite ?_ h
  refine .ite h.domRequest ?_
  split
  · exact h
  · exact h.setDom.domRequest

theorem State.Inv.writePwrCtrl {d : Nat} {by_ : Writer} {w : Word} : (writePwrCtrl d by_ w s).1.Inv := by
  unfold Machine.writePwrCtrl
  exact .ite h.writeReg h.writeReg.domRequest

theorem State.Inv.execDomainReqWrite {priv : Bool} {d : Nat} {w : Word} : Keeps (execDomainReqWrite priv d w s) :=
  .next (h.cfgWrite (fun _ hs => hs.writePwrCtrl))

theorem State.Inv.execDrainTimeout {d : Nat} : Keeps (execDrainTimeout d s) := by
  unfold Machine.execDrainTimeout
  exact .next (.ite (.ite h.setDom.fault h.abortRoute.fault.proceed) h)

theorem State.Inv.execWakeEvent {d src : Nat} : Keeps (execWakeEvent d src s) := .next (.ite h.domRequest h)

theorem State.Inv.execTokenPost {n : Nat} {tok : Word64} : Keeps (execTokenPost n tok s) := by
  unfold Machine.execTokenPost
  exact .next (.ite (.ite h.setStation.domRequest h.setStation) h)

theorem State.Inv.execSaveAccessTimeout {d : Nat} : Keeps (execSaveAccessTimeout d s) := by
  unfold Machine.execSaveAccessTimeout
  exact .next (.ite h.abortRoute.fault.proceed h)

theorem State.Inv.resumeHeld : s.resumeHeld.Inv := by
  unfold State.resumeHeld
  refine .ite h ?_
  extract_lets +onlyGivenNames u1
  have hu1 : u1.Inv := h.foldl (fun _ _ hs => hs.setDom.proceed)
  exact .ite hu1.setf.showWakeHeld ((hu1.setf.foldl (fun _ _ hs => hs.setDom.putPending.beginWake)).showWakeHeld)

/-! ### Time -/

theorem State.Inv.setIsland {i unit : Nat} {x : IslandSt} : (s.setIsland i unit x).Inv := h.upd

theorem State.Inv.execSeamCodeError {src dst unit : Nat} {w : Word64} : Keeps (execSeamCodeError src dst unit w s) := by
  unfold Machine.execSeamCodeError
  exact .next (.ite (.faultA (.setSeam (.ite h.awlUsed h))) h)

theorem State.Inv.wordLost {src dst unit : Nat} {w : Word64} : (s.wordLost src dst unit w).Inv :=
  .ite (.ite h.setStation.addDrained h.setCluster) (.ite h.setStation (.ite h.dropUnitCmd (.ite h.upd h)))

theorem State.Inv.preArrive : s.preArrive.Inv := by
  fun_cases State.preArrive
  exacts [h.upd, h]

theorem State.Inv.execSeamResend {src dst unit : Nat} {ok : Bool} : Keeps (execSeamResend src dst unit ok s) := by
  unfold Machine.execSeamResend
  refine .next ?_
  split
  · exact h
  · refine .ite ?_ h.setSeam.wordLost.fault
    refine .ite h.setSeam ?_
    exact .ite h.setSeam.setSeam (.ite h.setSeam.setSeam (.ite h.setSeam.setSeam.preArrive h.setSeam.setSeam))

theorem State.Inv.execIslandStop {isl unit : Nat} : Keeps (execIslandStop isl unit s) := .next (.ite h.setIsland.hang h)

theorem State.Inv.deliverHeld {i unit : Nat} : (s.deliverHeld i unit).Inv := h.foldl (fun _ _ hs => .ite hs hs.setSeam)

theorem State.Inv.execIslandRestart {isl unit : Nat} : Keeps (execIslandRestart isl unit s) := by
  unfold Machine.execIslandRestart
  exact .next (.ite h.setIsland.hang.sysRec.deliverHeld h)

theorem State.Inv.stepOver {old new : Nat} : (s.stepOver old new).Inv := by
  unfold State.stepOver
  exact .ite h.upd (.ite h.upd.jumpStorms h.upd.jumpStorms.upd)

theorem State.Inv.openEpoch : s.openEpoch.Inv := .ite h.sendPre h

theorem State.Inv.tick : s.tick.Inv :=
  .ite h (.openEpoch (.ite (.log (.setf (.upd (.ite h.stepOver h)))) (.upd (.ite h.stepOver h))))

theorem State.Inv.execTimeStepApply : Keeps (execTimeStepApply s) := .next (.ite h.tick h)

theorem State.Inv.setTrim {v : Int} : (s.setTrim v).Inv := by
  unfold State.setTrim
  exact .ite h.wr.setf.log h.wr

theorem State.Inv.writeTimeTrim {w : Word} : (writeTimeTrim w s).1.Inv := h.setTrim

theorem State.Inv.execTimeTrimWrite {priv : Bool} {w : Word} : Keeps (execTimeTrimWrite priv w s) :=
  .next (h.cfgWrite (fun _ hs => hs.writeTimeTrim))

theorem State.Inv.writeTimeStep {w : Word} : (writeTimeStep w s).1.Inv := .ite_fst h h.setf.setf

theorem State.Inv.execTimeStepWrite {priv : Bool} {w : Word} : Keeps (execTimeStepWrite priv w s) :=
  .next (h.cfgWrite (fun _ hs => hs.writeTimeStep))

theorem State.Inv.ticks {n : Nat} : (s.ticks n).Inv := by
  induction n generalizing s with
  | zero => exact h
  | succ k ih => exact ih h.tick

theorem State.Inv.execRefclkLost : Keeps (execRefclkLost s) :=
  .next (.ite h.ticks.setf.setf.setf.upd.clearAligned.log.fault h)

theorem State.Inv.execRefclkRestored : Keeps (execRefclkRestored s) := .next (.ite h.setf.setf.upd.log h)

/-! ### Lace -/

theorem State.Inv.showWrap : s.showWrap.Inv := by
  unfold State.showWrap
  exact .ite h.setb.setb.peer (.ite h.setb.setb.peer h.setb.setb)

theorem State.Inv.portPut {p st : Nat} : (s.portPut p st).Inv := by
  unfold State.portPut
  exact .showWrap (.ite h.setf.setPort.incf h.setf.setPort)

theorem State.Inv.execLaceSymbolLock {p : Nat} : Keeps (execLaceSymbolLock p s) := .next (.ite h.portPut h)

theorem State.Inv.execLaceLanesAligned {p : Nat} : Keeps (execLaceLanesAligned p s) := .next (.ite h.portPut.setPort h)

theorem State.Inv.execLaceTrainTimeout {p : Nat} : Keeps (execLaceTrainTimeout p s) := .next (.ite h.portPut h)

theorem State.Inv.execLacePortDown {p : Nat} {lockLost : Bool} : Keeps (execLacePortDown p lockLost s) :=
  .next (.ite h.portPut.fault h)

theorem State.Inv.execLaceWakePatternSend {p : Nat} : Keeps (execLaceWakePatternSend p s) := .next (.ite h.serve.upd h)

theorem State.Inv.execLaceFrameCrcFail {p : Nat} : Keeps (execLaceFrameCrcFail p s) := .next (.ite h.incf.setPort h)

theorem State.Inv.execLaceReservedType {p : Nat} : Keeps (execLaceReservedType p s) := .next (.ite h.incf h)

theorem State.Inv.writeLaceCtrl {by_ : Writer} {w : Word} : (writeLaceCtrl by_ w s).1.Inv := by
  unfold Machine.writeLaceCtrl
  exact .ite h.writeReg (h.writeReg.foldl (fun _ _ hs => .ite hs hs.portPut))

theorem State.Inv.noteSeen {m : LaceMsg} : (s.noteSeen m).Inv := h.upd

theorem State.Inv.laceTake {p : Nat} {l : List Word64} {typ : Nat} {act : LaceMsg → State → State} (hact : ∀ x0 s,
    s.Inv → (act x0 s).Inv) :
    (s.laceTake p l typ act).Inv := by
  fun_cases State.laceTake
  exacts [h, hact _ _ h.noteSeen]

theorem State.Inv.tryUp {p : Nat} : (s.tryUp p).Inv := by
  unfold State.tryUp
  exact .ite h.setf.portPut h

theorem State.Inv.headCheck {site : Nat} {headEn : Bool} : (s.headCheck site headEn).Inv := .ite h.setf.setf.fault.peer h

theorem State.Inv.execLaceHello {p : Nat} {frames : List Word64} : Keeps (execLaceHello p frames s) :=
  .next (h.laceTake (fun _ _ hs => .headCheck (.ite hs.setPort hs.setPort.tryUp)))

theorem State.Inv.execLaceHelloSend {p : Nat} : Keeps (execLaceHelloSend p s) := .next (.ite h.serve.laceSendPort h)

theorem State.Inv.execLaceDelayReqSend {p early : Nat} : Keeps (execLaceDelayReqSend p early s) :=
  .next (.ite h.serve.laceSendPort.setPort h)

theorem State.Inv.execLaceDelayReq {p : Nat} {frames : List Word64} {residence : Nat} :
    Keeps (execLaceDelayReq p frames residence s) := .next (h.laceTake (fun _ _ hs => hs.laceSendPort))

theorem State.Inv.execLaceDelayRsp {p : Nat} {frames : List Word64} {early : Nat} :
    Keeps (execLaceDelayRsp p frames early s) := by
  refine .next (h.laceTake fun m s hs => ?_)
  extract_lets x
  split
  · exact hs
  · exact hs.setPort.setf.tryUp

theorem State.Inv.execLaceMessageForward {p : Nat} {frames : List Word64} {residence : Nat} :
    Keeps (execLaceMessageForward p frames residence s) := by
  unfold Machine.execLaceMessageForward
  refine .next ?_
  split
  · exact h
  · exact .ite (.ite h.upd h.upd) h

theorem State.Inv.execLaceTimeSend : Keeps (execLaceTimeSend s) := .next (.ite h.serve.laceSend h)

theorem State.Inv.correctTime {o : Int} : (s.correctTime o).Inv := .ite h.upd.writeTimeStep h.upd.setTrim

theorem State.Inv.judgeOffset {o : Int} : (s.judgeOffset o).Inv := by
  unfold State.judgeOffset
  exact .ite h.upd.clearAligned (.ite h.upd.setf.peer h.upd)

theorem State.Inv.execLaceTime {p : Nat} {frames : List Word64} {early : Nat} : Keeps (execLaceTime p frames early s) := by
  unfold Machine.execLaceTime
  refine .next ?_
  refine .ite h ?_
  exact h.laceTake (fun _ _ hs => .ite hs.upd.setf hs.upd.setf.upd.setfiSat.setf.trace.correctTime.judgeOffset)

theorem State.Inv.execLaceTimeTimeout : Keeps (execLaceTimeTimeout s) := .next (.ite h.setf.clearAligned h)

theorem State.Inv.execLaceHeadStartHoldEnd : Keeps (execLaceHeadStartHoldEnd s) := .next (.ite h.upd h)

theorem State.Inv.execLaceJoinSend : Keeps (execLaceJoinSend s) := by
  unfold Machine.execLaceJoinSend
  refine .next ?_
  refine .ite ?_ h
  extract_lets +onlyGivenNames _ _ u1 _
  have hu1 : u1.Inv := h.serve.laceSend
  split
  · exact hu1
  · exact hu1.upd

theorem State.Inv.execLaceJoin {p : Nat} {frames : List Word64} : Keeps (execLaceJoin p frames s) :=
  .next (.ite h (h.laceTake (fun _ _ hs => .ite (.writeTimeStep (.upd (.ite hs hs.upd))) (.upd (.ite hs hs.upd)))))

theorem State.Inv.showMembers {m : Nat} : (s.showMembers m).Inv := h.setPair.setb

theorem State.Inv.admitSite {site : Nat} : (s.admitSite site).Inv := by
  unfold State.admitSite
  exact h.upd.peer

theorem State.Inv.execLaceMembersSend : Keeps (execLaceMembersSend s) :=
  .next (.ite ((((h.serve.foldl (fun _ _ hs => hs.admitSite)).upd).showMembers).laceSend) h)

theorem State.Inv.execLaceMembers {p : Nat} {frames : List Word64} : Keeps (execLaceMembers p frames s) :=
  .next (.ite h (h.laceTake (fun _ _ hs => .ite hs.upd.showMembers.upd hs.upd.showMembers)))

theorem State.Inv.lostPeer {site : Nat} : (s.lostPeer site).Inv := by
  unfold State.lostPeer
  exact ((h.foldl (fun _ _ hs => hs.slotOutcome)).upd).setf

theorem State.Inv.dropMember {site code : Nat} : (s.dropMember site code).Inv := by
  unfold State.dropMember
  exact h.upd.peer.lostPeer

theorem State.Inv.execLaceMemberTimeout {site : Nat} : Keeps (execLaceMemberTimeout site s) := .next (.ite h.dropMember h)

theorem State.Inv.execLaceHeadLost : Keeps (execLaceHeadLost s) := .next (.ite h.upd.setf.setf h)

theorem State.Inv.execLaceSiteConflict : Keeps (execLaceSiteConflict s) := by
  unfold Machine.execLaceSiteConflict
  refine .next ?_
  split
  · exact h
  · exact .ite h.setf.fault.peer h

theorem State.Inv.fencePeer {site : Nat} : (s.fencePeer site).Inv := by
  unfold State.fencePeer
  extract_lets +onlyGivenNames _ _ u1
  have hu1 : u1.Inv := h.flt.foldl (fun _ _ hs => .ite hs.portPut hs)
  exact .ite hu1.upd.dropMember hu1.upd

theorem State.Inv.unfencePeer {site : Nat} : (s.unfencePeer site).Inv := by
  unfold State.unfencePeer
  exact h.flt.foldl (fun _ _ hs => .ite hs.portPut hs)

theorem State.Inv.noteDebt {site d : Nat} : (s.noteDebt site d).Inv := by
  unfold State.noteDebt
  exact h.upd.setb

theorem State.Inv.execLaceReportSend : Keeps (execLaceReportSend s) := by
  unfold Machine.execLaceReportSend
  refine .next ?_
  refine .ite ?_ h
  extract_lets +onlyGivenNames _ _ _ _ _ _ _ u1 u2 u3 u4
  have hu1 : u1.Inv := h.serve.upd.setf
  have hu2 : u2.Inv := .ite hu1.setf.setf.noteDebt hu1
  have hu3 : u3.Inv := .ite hu2.setf.setf hu2
  have hu4 : u4.Inv := .ite hu3.laceSendAlso hu3
  exact hu4.laceSendAlso

theorem State.Inv.execLaceReport {p : Nat} {frames : List Word64} : Keeps (execLaceReport p frames s) :=
  .next (.ite h (h.laceTake (fun _ _ hs => hs.upd.setf.setf)))

theorem State.Inv.execLaceDebt {p : Nat} {frames : List Word64} : Keeps (execLaceDebt p frames s) :=
  .next (.ite h (h.laceTake (fun _ _ hs => hs.noteDebt)))

theorem State.Inv.takeShare {v : Nat} : (s.takeShare v).Inv := by
  unfold State.takeShare
  exact h.upd.setf.setf.post.trace

theorem State.Inv.execLaceShareCompute : Keeps (execLaceShareCompute s) :=
  .next (.ite (.ite h.serve.upd (h.serve.upd.foldl (fun _ _ hs => .ite hs.setf.takeShare hs.setf.laceSendAlso))) h)

theorem State.Inv.execLaceShare {p : Nat} {frames : List Word64} : Keeps (execLaceShare p frames s) :=
  .next (.ite h (h.laceTake (fun _ _ hs => hs.takeShare)))

theorem State.Inv.execLaceShareTimeout : Keeps (execLaceShareTimeout s) := .next (.ite h.setf.setf.post h)

theorem State.Inv.execLaceSlow {p : Nat} {frames : List Word64} : Keeps (execLaceSlow p frames s) :=
  .next (h.laceTake (fun _ _ hs => hs.setf.setf.setf.peer))

/-! ### Fault -/

theorem State.Inv.showPins : s.showPins.Inv := h.flt

theorem State.Inv.putUncleared {row : Nat} {b : Bool} : (s.putUncleared row b).Inv := .ite h h.setb.setBitf.setf.showPins

theorem State.Inv.safeEnter {row : Nat} : (s.safeEnter row).Inv :=
  .ite h.log h.setf.setf.flt.showPins.log.trigger.clampSet.railsSafe.winClose.setf.showWakeHeld

theorem State.Inv.safeLeave : s.safeLeave.Inv := by
  unfold State.safeLeave
  exact h.setf.flt.showPins.log.clampSet.railsSafe.setf.resumeHeld

theorem State.Inv.putPairFenced {p : Nat} {b : Bool} : (s.putPairFenced p b).Inv := .ite h.setb h.setb

theorem State.Inv.fencePair {p : Nat} : (s.fencePair p).Inv := by
  unfold State.fencePair
  extract_lets +onlyGivenNames _ _ u1 _ _ u2 u3
  have hu1 : u1.Inv := h.putPairFenced.setf
  have hu2 : u2.Inv := hu1.setf.setFw
  have hu3 : u3.Inv := hu2.fwChanged
  exact .ite hu1 (.ite (.ite hu3 hu3.domRequest) hu1.setFw)

theorem State.Inv.fenceCore {n : Nat} : (s.fenceCore n).Inv := h.setf.drainStation.fenceDomain

theorem State.Inv.fenceUnit {k : UnitKind} {u : Nat} : (s.fenceUnit k u).Inv := by
  unfold State.fenceUnit
  refine .ite h ?_
  split
  · exact h.fenceCore
  · exact h.phFence
  · exact h.flt
  · exact h.fencePeer
  · exact h.fencePair
  · exact h.fenceBank
  · exact .ite h.fenceCore (.ite h.fencePair h.fenceDomain)
  · exact h

theorem State.Inv.setTrk {row k : Nat} {x : TrkEnt} : (s.setTrk row k x).Inv := by
  unfold State.setTrk
  exact h.flt.setf

theorem State.Inv.react {row unit : Nat} : (s.react row unit).Inv := by
  fun_cases State.react
  exacts [h, h, h.trigger.fenceUnit, h.trigger.safeEnter]

theorem State.Inv.countSevere {row : Nat} : (s.countSevere row).Inv := by
  unfold State.countSevere
  exact h.incf.flt

theorem State.Inv.severeEvent {e : FaultEv} {count : Nat} : (s.severeEvent e count).Inv :=
  h.countSevere.putUncleared.react.notice

theorem State.Inv.countEvent {e : FaultEv} : (s.countEvent e).Inv := by
  unfold State.countEvent
  exact .ite h.setf.setb.setf.setf.setTrk.severeEvent h.setf.setb.setf.setf.setTrk

theorem State.Inv.execFaultEventAccept : Keeps (execFaultEventAccept s) := by
  unfold Machine.execFaultEventAccept
  refine .next ?_
  split
  · exact h
  · exact .ite h h.flt.countEvent

theorem State.Inv.clearRow {row : Nat} : (s.clearRow row).1.Inv :=
  .ite_fst h (.ite_fst h.putUncleared (h.putUncleared.foldl (fun _ _ hs => hs.setTrk)))

theorem State.Inv.writeFltStatus {row : Nat} {w : Word} : (writeFltStatus row w s).1.Inv := .ite_fst h.clearRow h

theorem State.Inv.execUnclearedWrite {priv : Bool} {row : Nat} {w : Word} : Keeps (execUnclearedWrite priv row w s) :=
  .next (h.cfgWrite (fun _ hs => hs.writeFltStatus))

theorem State.Inv.writeFltCtrl {by_ : Writer} {w : Word} : (writeFltCtrl by_ w s).1.Inv := by
  unfold Machine.writeFltCtrl
  exact .ite h.writeReg.fault h.writeReg

theorem State.Inv.execForceSafeWrite {priv : Bool} {w : Word} : Keeps (execForceSafeWrite priv w s) :=
  .next (h.cfgWrite (fun _ hs => hs.writeFltCtrl))

theorem State.Inv.writeFltCfg {row : Nat} {by_ : Writer} {w : Word} : (writeFltCfg row by_ w s).1.Inv :=
  .ite_fst h (.ite_fst h.writeFields h.writeReg)

theorem State.Inv.parityFault {block : Nat} {awl : Bool} : (s.parityFault block awl).Inv := .ite h.setf.faultA h.faultA

theorem State.Inv.awlArm {checker : Nat} {repeat_ : Bool} : (s.awlArm checker repeat_).1.Inv :=
  .ite_fst h.setf (.ite_fst h.setf (.ite_fst h.setf.setb.setf.setf.awlUsed.parityFault h.setf.setb.setf.setf))

theorem State.Inv.awlDisarm : s.awlDisarm.Inv := .ite h.setf h

theorem State.Inv.writeFltAwl {w : Word} : (writeFltAwl w s).1.Inv :=
  .ite_fst h.setf (.ite_fst h.setf.setb.setb.awlDisarm h.setf.setb.setb.awlArm)

theorem State.Inv.execAwlArm {priv : Bool} {w : Word} : Keeps (execAwlArm priv w s) :=
  .next (h.cfgWrite (fun _ hs => hs.writeFltAwl))

theorem State.Inv.execAwlDisarm {priv : Bool} {w : Word} : Keeps (execAwlDisarm priv w s) :=
  .next (h.cfgWrite (fun _ hs => hs.writeFltAwl))

theorem State.Inv.execLockstepMismatch {p : Nat} : Keeps (execLockstepMismatch p s) :=
  .next (.ite (.ite (.faultA (.ite h.awlUsed h)) (.faultA (.ite h.awlUsed h))) h)

theorem State.Inv.execFirmwareHeartbeatTimeout {p : Nat} : Keeps (execFirmwareHeartbeatTimeout p s) := .next (.ite h.fault h)

/-! ### Tread -/

theorem State.Inv.writeTrdCalLo {w : Word} : (writeTrdCalLo w s).1.Inv := by
  unfold Machine.writeTrdCalLo
  exact h.wr.upd.setf

theorem State.Inv.execTrdCalWrite {priv : Bool} {w : Word} : Keeps (execTrdCalWrite priv w s) :=
  .next (h.cfgWrite (fun _ hs => hs.writeTrdCalLo))

theorem State.Inv.setGuard {c k v : Nat} : (s.setGuard c k v).Inv := .ite h.upd h.setf

theorem State.Inv.putGuard {c k v code : Nat} : (s.putGuard c k v code).Inv := by
  unfold State.putGuard
  exact h.setGuard.incf.upd.treadNotice

omit h in
theorem State.Inv.raiseCluster {q : State × Nat} {c : Nat} (h : q.1.Inv) : (State.raiseCluster q c).1.Inv :=
  h.foldl_fst (fun _ _ hs => .ite_fst hs.putGuard hs)

theorem State.Inv.raiseGuards : s.raiseGuards.1.Inv := h.foldl_fst (fun _ _ hs => hs.raiseCluster)

omit h in
theorem State.Inv.lowerCluster {q : State × Nat} {c : Nat} (h : q.1.Inv) : (State.lowerCluster q c).1.Inv :=
  h.foldl_fst (fun _ _ hs => .ite_fst hs.putGuard hs)

theorem State.Inv.lowerRound : s.lowerRound.1.Inv := by
  unfold State.lowerRound
  refine .ite_fst h ?_
  extract_lets q
  have hq : q.1.Inv := State.Inv.foldl_fst h fun _ _ hs => hs.lowerCluster
  exact .ite_fst hq hq.setf

theorem State.Inv.replan {lower : Bool} : (s.replan lower).1.Inv := by
  unfold State.replan
  exact .ite_fst h.raiseGuards.lowerRound h.raiseGuards

theorem State.Inv.driftOne {e : Nat × Nat} : (driftOne s e).Inv := by
  unfold Machine.driftOne
  exact .ite (.checkWorn (.upd (.setfiSat (.ite h.usedFree h)))) h

theorem State.Inv.execDriftMeasure {clocks : List (Nat × Nat)} : Keeps (execDriftMeasure clocks s) := by
  unfold Machine.execDriftMeasure
  exact .next (.ite ((h.upd.foldl (fun _ _ hs => hs.driftOne)).raiseGuards) h)

theorem State.Inv.execEmAccumulate : Keeps (execEmAccumulate s) :=
  .next (.ite (h.serve.foldl (fun _ _ hs => hs.setPair.checkWorn)) h)

theorem State.Inv.abortHold : s.abortHold.Inv := .ite h.upd.setf h

theorem State.Inv.execHoldupMeasurement {stepUv td tc : Nat} : Keeps (execHoldupMeasurement stepUv td tc s) :=
  .next (.ite (.ite h.abortHold (.checkWorn (.ite h.upd.setf.setf.setb.treadNotice h.upd.setf.setf.setb))) h)

theorem State.Inv.execRetentionReport {n ms : Nat} : Keeps (execRetentionReport n ms s) :=
  .next (.ite h.upd.setfSat.checkWorn h)

theorem State.Inv.sweepSkip : s.sweepSkip.Inv := h.upd.setf.treadNotice

theorem State.Inv.sweepPoint {k z : Nat} {again : Bool} : (s.sweepPoint k z again).Inv := h.upd

theorem State.Inv.execMarginWindow : Keeps (execMarginWindow s) := by
  unfold Machine.execMarginWindow
  refine .next ?_
  split
  · exact h
  · exact .ite (.ite (.ite h.upd.sweepPoint h.upd.sweepSkip.lowerRound) (.ite h.upd.lowerRound h.upd)) h

theorem State.Inv.sweepDone {z : Nat} : (s.sweepDone z).Inv := by
  unfold State.sweepDone
  exact h.upd.setfSat.setf.checkWorn.lowerRound

theorem State.Inv.execDummyLoadRequestToggle {z : Nat} : Keeps (execDummyLoadRequestToggle z s) := by
  unfold Machine.execDummyLoadRequestToggle
  refine .next ?_
  split
  · exact h
  · exact .ite (.ite h.upd (.ite (.ite h.sweepSkip.lowerRound h.sweepPoint) (.ite h.sweepPoint h.sweepDone))) h

theorem State.Inv.writeHist {i : Nat} {x : HistSt} : (s.writeHist i x).Inv :=
  State.inv_mram h (Memory.wf_write _ _ (Memory.wf_write _ _ h.1))

theorem State.Inv.fitOne {i : Nat} : (s.fitOne i).Inv := by
  unfold State.fitOne
  refine .ite h ?_
  split
  · exact h.upd
  · extract_lets +onlyGivenNames _ _ _ _ u1 _ _ _ _ u2
    have hu1 : u1.Inv := .ite h h.upd.writeHist
    have hu2 : u2.Inv := hu1.upd.checkWorn
    exact .ite hu2.upd.showWear.treadNotice hu2

theorem State.Inv.execTreadFit : Keeps (execTreadFit s) := .next (.ite (h.upd.foldl (fun _ _ hs => hs.fitOne)) h)

theorem State.Inv.takeSection {l : List Byte} : (s.takeSection l).Inv := by
  unfold State.takeSection
  extract_lets +onlyGivenNames _ _ _ _ u1 _ u2 u3 u4 u5
  have hu1 : u1.Inv := h.upd.wr.setf.setf
  have hu2 : u2.Inv := hu1.setb.setf.setf.setf
  have hu3 : u3.Inv := hu2.foldl (fun _ _ hs => hs.setPair)
  have hu4 : u4.Inv := hu3.foldl (fun _ _ hs => hs.setf)
  have hu5 : u5.Inv := hu4.foldl (fun _ _ hs => hs.setf)
  exact hu5.foldl (fun _ _ hs => hs.setf)

theorem State.Inv.putSection {l : List Byte} {c : Nat} {places : List Nat} {bad : BadTiles} :
    (s.putSection l c places bad).Inv := h.foldl (fun _ _ hs => hs.writeTile)

theorem State.Inv.execTreadInsoleSave {bad : List (Nat × Nat)} : Keeps (execTreadInsoleSave bad s) := by
  unfold Machine.execTreadInsoleSave
  exact .next (.ite h.putSection.putSection.upd h)

theorem State.Inv.execTreadCheckpoint {ok1 ok2 : Bool} : Keeps (execTreadCheckpoint ok1 ok2 s) := by
  refine .next (.ite ?_ h)
  extract_lets slot seq l ok _ _ u
  have hu : u.Inv := h.mramWrite.upd
  exact .ite hu hu.setf.usedFree.treadNotice

theorem State.Inv.treadStart {heel : Option (List Byte)} : (s.treadStart heel).Inv := by
  fun_cases State.treadStart
  exacts [h.upd, h.upd.takeSection]

/-! ### Heel -/

theorem State.Inv.putHeel {slot : Bool} {l : List Byte} : (s.putHeel slot l).Inv := h.mramWrite

theorem State.Inv.heelWritten {slot : Bool} {l : List Byte} : (s.heelWritten slot l).Inv := by
  unfold State.heelWritten
  exact h.putHeel.flt.setf.setb

theorem State.Inv.putHold {vshk hold : Nat} : (s.putHold vshk hold).Inv := h.setf.setf

theorem State.Inv.execSagSaveStart {vshk hold : Nat} : Keeps (execSagSaveStart vshk hold s) :=
  .next (.ite h.putHold.clampSet.setf.setf.fault.log.trigger.abortHold.flt h)

theorem State.Inv.sagStop : s.sagStop.Inv := by
  unfold State.sagStop
  exact h.putHeel.setf.setf.setb.setf.fault.flt

theorem State.Inv.execHeelWriteComplete {ok : Bool} {vshk hold : Nat} : Keeps (execHeelWriteComplete ok vshk hold s) :=
  .next (.ite (.ite h.putHold.heelWritten.setf.setf.flt.log (.ite h.putHold.flt.setf h.putHold.sagStop)) h)

theorem State.Inv.execSagSaveStop {vshk hold : Nat} : Keeps (execSagSaveStop vshk hold s) := .next (.ite h.putHold.sagStop h)

/-! ### Trace -/

theorem State.Inv.execTraceRecordAccept : Keeps (execTraceRecordAccept s) := by
  unfold Machine.execTraceRecordAccept
  refine .next ?_
  split
  · exact h
  · refine .ite ?_ h
    extract_lets x r
    split
    · exact h
    · next e => exact .ite (State.inv_putRec e h.setSrc).setf (State.inv_putRec e h.setSrc)

theorem State.Inv.hostTrigger {tag : Nat} : (s.hostTrigger tag).1.Inv := by
  unfold State.hostTrigger
  extract_lets n t
  have ht : t.Inv := h.trigger
  exact .ite_fst h ht

theorem State.Inv.writeTrcTrig {w : Word} : (writeTrcTrig w s).1.Inv := by
  unfold Machine.writeTrcTrig
  exact h.setf.hostTrigger.setf

theorem State.Inv.execTrcTrigWrite {priv : Bool} {w : Word} : Keeps (execTrcTrigWrite priv w s) :=
  .next (h.cfgWrite (fun _ hs => hs.writeTrcTrig))

theorem State.Inv.execTraceRegionComplete : Keeps (execTraceRegionComplete s) := .next (.ite h.completeRegions h)

theorem State.Inv.releaseRegion {n : Nat} : (s.releaseRegion n).1.Inv := by
  fun_cases State.releaseRegion
  exacts [h.completeRegions, h.completeRegions.upd.freeTiles.showRegions.trcPressure]

theorem State.Inv.writeTrcRelease {w : Word} : (writeTrcRelease w s).1.Inv := by
  unfold Machine.writeTrcRelease
  exact h.setf.releaseRegion.setf

theorem State.Inv.execTrcReleaseWrite {priv : Bool} {w : Word} : Keeps (execTrcReleaseWrite priv w s) :=
  .next (h.cfgWrite (fun _ hs => hs.writeTrcRelease))

theorem State.Inv.execTraceDropReport {k : Nat} : Keeps (execTraceDropReport k s) := by
  unfold Machine.execTraceDropReport
  refine .next ?_
  split
  · exact h
  · exact .ite h.setSrc.sysRec h

theorem State.Inv.configRec : s.configRec.Inv := h.sysRec

theorem State.Inv.startTrace : s.startTrace.Inv := by
  unfold State.startTrace
  exact h.setf.setf.upd.trcPressure.configRec.freeTiles.placeTile

theorem State.Inv.writeTrcCtrl {by_ : Writer} {w : Word} : (writeTrcCtrl by_ w s).1.Inv := by
  unfold Machine.writeTrcCtrl
  extract_lets was r
  have hr : r.1.Inv := h.writeReg
  clear_value r
  refine .ite_fst (.fst ?_) hr
  exact hr.startTrace

theorem State.Inv.execTraceRunStart {priv : Bool} {w : Word} : Keeps (execTraceRunStart priv w s) :=
  .next (h.cfgWrite (fun _ hs => hs.writeTrcCtrl))

theorem State.Inv.writeTrcConfig {by_ : Writer} {r : Reg} {i : Nat} {w : Word} : (writeTrcConfig by_ r i w s).1.Inv := by
  unfold Machine.writeTrcConfig
  exact .ite_fst h.writeReg h.writeReg.configRec

theorem State.Inv.execTraceFrameSend {n : Nat} : Keeps (execTraceFrameSend n s) := by
  unfold Machine.execTraceFrameSend
  exact .next (.ite h.upd.incf.trcPressure h)

/-! ### EyeOps -/

theorem State.Inv.putPage {c i : Nat} {l : List Byte} : (s.putPage c i l).Inv := State.inv_putPage _ _ _ h

theorem State.Inv.pageOut {c : Nat} {l : List Byte} : (s.pageOut c l).Inv := State.inv_pageOut _ _ h

theorem State.Inv.putPageUser {c : Nat} {u : Option Nat} : (s.putPageUser c u).Inv := h.setChan.setb

theorem State.Inv.showJournal : s.showJournal.Inv := h.setfSat

theorem State.Inv.newEntry {ch seq op flags : Nat} {arg : Word} : (s.newEntry ch seq op flags arg).1.Inv := by
  unfold State.newEntry
  exact h.eye.setFw.setfSat.showJournal

theorem State.Inv.closeEntry {slot : Nat} : (s.closeEntry slot).Inv := by
  fun_cases State.closeEntry
  exacts [h, h, .fwChanged (.showJournal (.ite h.eye.jmod.putPageUser h.eye.jmod))]

theorem State.Inv.reply {c : Nat} {w : Word64} : (s.reply c w).Inv := h.enqueue

theorem State.Inv.replyOf {e : JEnt} {status : Nat} {repost loss part fin : Bool} {result : Nat} :
    (s.replyOf e status repost loss part fin result).Inv := h.enqueue

theorem State.Inv.effect {slot result : Nat} : (s.effect slot result).Inv := h.jmod.fwChanged

theorem State.Inv.finish {slot status result : Nat} {part : Bool} : (s.finish slot status result part).Inv :=
  State.inv_finish _ _ _ _ h

theorem State.Inv.doneNow {slot result : Nat} : (s.doneNow slot result).Inv := State.inv_doneNow _ _ h

theorem State.Inv.refuseNow {slot reason detail : Nat} : (s.refuseNow slot reason detail).Inv := h.finish

theorem State.Inv.refuseWrite {c : Nat} : (s.refuseWrite c).Inv := h.setf.hang

theorem State.Inv.postWord {c : Nat} {w : Word64} : (s.postWord c w).Inv := by
  unfold State.postWord
  exact .ite h.setPair.setf.hang.domRequest h.setPair.setf.hang

theorem State.Inv.writeCmdLo {c : Nat} {w : Word} : (writeCmdLo c w s).1.Inv := .ite_fst h (.ite_fst h.refuseWrite h.wr)

theorem State.Inv.writeCmd {c : Nat} {wide : Bool} {w : Word64} : (writeCmd c wide w s).1.Inv :=
  .ite_fst h (.ite_fst h.refuseWrite h.postWord)

theorem State.Inv.showQueued {c : Nat} : (s.showQueued c).Inv := h.setf

theorem State.Inv.notePost {q : QWord} : (s.notePost q).Inv := by
  fun_cases State.notePost
  exacts [h, h, h.jmod, h.jmod]

theorem State.Inv.postReply {c : Nat} : (s.postReply c).Inv := by
  unfold State.postReply
  split
  · exact h
  · extract_lets +onlyGivenNames _ u1 _ u2 _ u3 u4
    have hu1 : u1.Inv := h.setChan.showQueued
    have hu2 : u2.Inv := hu1.setPair.setf.setBitf
    have hu3 : u3.Inv := hu2.notePost.setf
    have hu4 : u4.Inv := .ite hu2.notePost.setf hu2.notePost
    exact .ite hu3.trace hu4.hang.trace

theorem State.Inv.takeReply {c : Nat} : (s.takeReply c).Inv := by
  fun_cases State.takeReply
  exacts [h, h.setChan.setf, h.setChan.setf.closeEntry, h.setChan.setf]

theorem State.Inv.hostTake {c : Nat} : (s.hostTake c).Inv := by
  fun_cases State.hostTake
  exacts [h, h, h.flt, h.takeReply]

theorem State.Inv.writeEyeStatus {c : Nat} {w : Word} : (writeEyeStatus c w s).1.Inv := by
  unfold Machine.writeEyeStatus
  exact .ite (.hostTake (.ite (.setf (.ite h.setf h)) (.ite h.setf h))) (.ite (.setf (.ite h.setf h)) (.ite h.setf h))

theorem State.Inv.writeEyeWin {w : Nat} {data : Word} : (writeEyeWin w data s).1.Inv := by
  unfold Machine.writeEyeWin
  exact .ite_fst h (.ite_fst h.setf h.putPage)

/-! ### ResetOps -/

omit h in
theorem State.Inv.keepDomains {s old : State} (h : s.Inv) : (s.keepDomains old).Inv := h.foldl (fun _ _ hs => hs.setf.setf)

theorem State.Inv.teleZero {gone : Nat → Bool} : (s.teleZero gone).Inv := h.foldl (fun _ _ hs => .ite hs.telem hs)

theorem State.Inv.warmReset {cause : Nat} : (s.warmReset cause).Inv := by
  unfold State.warmReset
  extract_lets +onlyGivenNames _ u1 u2 u3
  have hu1 : u1.Inv := h.dropRegions.islandLost.dropRelays
  have hu2 : u2.Inv := hu1.upd
  have hu3 : u3.Inv := hu2.keepDomains.teleZero
  clear_value u3
  obtain ⟨u3, hu3, rfl⟩ := hu3.generalized
  extract_lets +onlyGivenNames _ _ _ _ _ u4
  have hu4 : u4.Inv := hu3.same
  clear_value u4
  exact .ite hu4.setFw.setf.setf.incf.setf hu4.setFw.setf.setf.incf

theorem State.Inv.warmArises {cause : Nat} : (s.warmArises cause).Inv :=
  .ite h (.ite (.upd (.ite h.setf h)) (.ite (.upd (.ite h.setf h)) h.warmReset))

theorem State.Inv.execWarmReset : Keeps (execWarmReset s) := .next h.warmArises

theorem State.Inv.writeGovReset {w : Word} : (writeGovReset w s).1.Inv := by
  unfold Machine.writeGovReset
  exact .ite h.setb.warmArises h.setb

theorem State.Inv.execGovResetWrite {priv : Bool} {w : Word} : Keeps (execGovResetWrite priv w s) :=
  .next (h.cfgWrite (fun _ hs => hs.writeGovReset))

theorem State.Inv.writeGovAdopt {w : Word} : (writeGovAdopt w s).1.Inv := by
  unfold Machine.writeGovAdopt
  exact .ite h.setb.setf h.setb

theorem State.Inv.execAdopt {priv : Bool} {w : Word} : Keeps (execAdopt priv w s) :=
  .next (h.cfgWrite (fun _ hs => hs.writeGovAdopt))

theorem State.Inv.execGovLockWrite {priv : Bool} {w : Word} : Keeps (execGovLockWrite priv w s) :=
  .next (h.cfgWrite (fun _ hs => hs.writeReg))

theorem State.Inv.rebuildClamp {reqs : Tab Bool} : (s.rebuildClamp reqs).Inv := by
  unfold State.rebuildClamp
  exact .ite h.upd h.upd.setf.setf

theorem State.Inv.dieReset : s.dieReset.Inv := by
  unfold State.dieReset
  exact .markLost (.applyAllCaps (.rebuildClamp (.upd (.teleZero (.upd (.ite h.upd h))))))

theorem State.Inv.execDieReset : Keeps (execDieReset s) := .next (.ite h h.dieReset)

theorem State.Inv.heldOp {h : HeldOp} : (s.heldOp h).Inv := by
  fun_cases State.heldOp
  exacts [h.takeReply, h.unitMessage, h]

theorem State.Inv.execSagRideThrough {vshk hold : Nat} : Keeps (execSagRideThrough vshk hold s) := by
  unfold Machine.execSagRideThrough
  refine .next ?_
  refine .ite ?_ h
  extract_lets +onlyGivenNames _ u1 _ _ _ u2 _ u3 u4
  have hu1 : u1.Inv := h.putHold.clampSet
  have hu2 : u2.Inv := hu1.flt.setf.setf
  have hu3 : u3.Inv := hu2.setf.log.foldl (fun _ _ hs => hs.heldOp)
  have hu4 : u4.Inv := hu3.resumeHeld
  split
  · exact hu4.warmReset
  · exact hu4

/-! ### FwTiles -/

theorem State.Inv.putBoot {counter slot : Nat} : (s.putBoot counter slot).Inv := by
  unfold State.putBoot
  exact h.mramWrite.setf

/-! ### Cfg -/

theorem State.Inv.read32 {priv : Bool} {off : Nat} : (s.read32 priv off).Inv := by
  fun_cases State.read32
  exacts [h.respond, h.upd.respond, h.respond, h.respond, h.respond]

theorem State.Inv.read64 {priv : Bool} {off : Nat} : (s.read64 priv off).Inv := .ite h.respond h.respond

theorem State.Inv.execReadShadowLatch {priv wide : Bool} {addr : BitVec 18} : Keeps (execReadShadowLatch priv wide addr s) :=
  .next (.ite h.read64 h.read32)

theorem State.Inv.writeCaps {by_ : Writer} {r : Reg} {w : Word} : (writeCaps by_ r w s).1.Inv := by
  unfold Machine.writeCaps
  extract_lets q
  have hq : q.1.Inv := h.writeReg
  clear_value q
  exact .fst hq.applyAllCaps

theorem State.Inv.actGov {b : Writer} {r : Reg} {i : Nat} {w : Word} {q : State × Bool} (e : s.actGov b r i w = some q) :
    q.1.Inv := by
  unfold State.actGov at e
  split at e
  all_goals cases e
  exacts [h.writeGovReset, h.writeGovAdopt, h.writeCmdLo, h.writeCmd, h.writeEyeStatus, h.writeEyeWin, h.writeTimeTrim,
    h.writeTimeStep, h.writeFltCtrl, h.writeFltAwl, h.writeFltCfg, h.writeFltStatus, h.writePwrCtrl, h.writeSeqCtrl,
      h.writeRailCtrl, h.writeRailTarget, h.writeRailInput, h.writeRailInput, h.writeRailTrack, h.writeRailInput,
        h.writePhTimebase, h.writePhCfg, h.writePhStatus]

omit h in
/-- The state of an answer that is there. -/
theorem State.Inv.of_some {p q : State × Bool} (hp : p.1.Inv) (e : some p = some q) : q.1.Inv := by
  cases e
  exact hp

theorem State.Inv.actDie {b : Writer} {r : Reg} {i : Nat} {w : Word} {q : State × Bool} (e : s.actDie b r i w = some q) :
    q.1.Inv := by
  unfold State.actDie at e
  split at e
  exacts [.of_some h.writeWeltCfg e, .of_some h.writeDrpStorm e, .of_some h.writeCrdCtrl e, .of_some h.writeCrdClamp e,
    .of_some h.writeCostData e, .of_some h.writeCrdsRole e, .of_some h.writeCrdsStatus e, .of_some h.writeJobCtrl e,
      .of_some h.writeLoopCtrl e, .of_some h.writeLatClr e, .of_some h.writePcap e, .of_some h.writeGroupCfg e,
        .of_some h.writeNotchCfg e, .of_some h.writeSlotCtrl e, .of_some h.writeBinload e, .of_some h.writeLastCfg e,
          .of_some h.writeLastSrc e, .of_some h.writeLastLearn e, .of_some h.writeThmCtrl e, .of_some h.writeCaps e,
            .of_some h.writeThmSdata e, .of_some h.writeCaps e, .of_some h.writePredCtrl e, .of_some h.writePredResume e,
              .of_some h.writePredGain e, .of_some h.writeTrdCalLo e, .of_some h.writeTrcCtrl e, .of_some h.writeTrcConfig e,
                .of_some h.writeTrcTrig e, .of_some h.writeTrcConfig e, .of_some h.writeTrcRelease e,
                  .of_some h.writeTrcConfig e, .of_some h.writeLaceCtrl e,
    nomatch e]

theorem State.Inv.regWrite {b : Writer} {r : Reg} {i : Nat} {w : Word} : (s.regWrite b r i w).1.Inv := by
  unfold State.regWrite
  split
  · next e => exact h.actGov e
  · split
    · next e => exact h.actDie e
    · exact h.writeReg

theorem State.Inv.writeInsole {priv : Bool} {off : Nat} {w : Word} : (s.writeInsole priv off w).Inv := by
  unfold State.writeInsole
  exact .ite h.respond (.ite h.respond h.insoleWrite.respond)

theorem State.Inv.write32 {priv : Bool} {off : Nat} {w : Word} : (s.write32 priv off w).Inv := by
  fun_cases State.write32
  exacts [h.writeInsole, h.respond, h.cfgWrite (fun _ hs => hs.regWrite)]

theorem State.Inv.write64 {priv : Bool} {off : Nat} {w : Word64} : (s.write64 priv off w).Inv := by
  unfold State.write64
  refine .ite h.respond ?_
  extract_lets +onlyGivenNames _ _ _ u1
  have hu1 : u1.Inv := h.write32.write32
  split
  · exact .ite (h.cfgWrite (fun _ hs => hs.writeCmd)) (.ite (h.cfgWrite (fun _ hs => hs.wr.writeTrdCalLo)) hu1.respond)
  · exact hu1.respond

theorem State.Inv.execRegisterWrite {priv : Bool} {addr : BitVec 18} {w : Word} : Keeps (execRegisterWrite priv addr w s) :=
  .next h.write32

theorem State.Inv.execCfg64bitWrite {priv : Bool} {addr : BitVec 18} {w : Word64} :
    Keeps (execCfg64bitWrite priv addr w s) := .next h.write64

theorem State.Inv.execInsoleWindowWrite {priv : Bool} {bank : BitVec 3} {tile : BitVec 8} {word : BitVec 6} {w : Word} :
    Keeps (execInsoleWindowWrite priv bank tile word w s) := .next h.writeInsole

/-! ### Plan -/

theorem State.Inv.fwWrite {off : Nat} {w : Word} : (s.fwWrite off w).1.Inv := by
  fun_cases State.fwWrite
  exacts [h, h, h.regWrite]

theorem State.Inv.planError {index type : Nat} : (s.planError index type).Inv := h.fault.notice

theorem State.Inv.planReg {index : Nat} {e : Nat × Word} : (s.planReg index e).Inv := by
  unfold State.planReg
  exact .ite h.fwWrite.setFw.planError h.fwWrite

theorem State.Inv.writeGuards {l : List Byte} : (s.writeGuards l).Inv :=
  h.foldl (fun _ _ hs => hs.foldl (fun _ _ ht => ht.setf))

theorem State.Inv.takeGuards {old : Word} : (s.takeGuards old).Inv := by
  unfold State.takeGuards
  exact .ite h (.ite h.upd.writeGuards.setf h.upd.raiseGuards)

theorem State.Inv.predCtrlField {lo len v : Nat} : (s.predCtrlField lo len v).Inv := h.fwWrite

theorem State.Inv.writeSetWords {set_ off : Nat} {ws : List Word} : (s.writeSetWords set_ off ws).Inv :=
  h.foldl (fun _ _ hs => hs.fwWrite)

theorem State.Inv.applyPredSet {t : List Byte} : (s.applyPredSet t).Inv := by
  unfold State.applyPredSet
  exact h.predCtrlField.writeSetWords.writeSetWords.writeSetWords.writeSetWords

theorem State.Inv.applyShadow {t : List Byte} : (s.applyShadow t).Inv := by
  unfold State.applyShadow
  exact h.predCtrlField.writeSetWords

theorem State.Inv.applyMap {t : List Byte} : (s.applyMap t).Inv := by
  unfold State.applyMap
  exact h.foldl (fun _ _ hs => .ite hs.fwWrite hs)

theorem State.Inv.endHold : s.endHold.Inv := .ite h.predCtrlField h

theorem State.Inv.applyCal {t : List Byte} : (s.applyCal t).Inv := by
  fun_cases State.applyCal
  exacts [h.predCtrlField, h.applyPredSet, h.applyShadow, h.endHold.applyMap]

theorem State.Inv.putPlanTile {a : Nat} {t : List Byte} : (s.putPlanTile a t).Inv := .ite h.putTile h

theorem State.Inv.applyList {tiles : List (List Byte)} {t : List Byte} : (s.applyList tiles t).Inv := by
  fun_cases State.applyList
  exacts [h.endHold, h.endHold.putPlanTile, h.endHold.putPlanTile, h.endHold]

theorem State.Inv.applyTile {tiles : List (List Byte)} {t : List Byte} : (s.applyTile tiles t).Inv := by
  fun_cases State.applyTile
  exacts [h.setFw, h.foldl (fun _ _ hs => hs.planReg), h.writeGuards, h.upd, h.applyList, h.applyList, h.applyCal]

theorem State.Inv.planEnd {tiles : List (List Byte)} : (s.planEnd tiles).Inv := by
  unfold State.planEnd
  extract_lets +onlyGivenNames _ u1 _ _ u2 u3
  have hu1 : u1.Inv := by
    unfold u1
    split; exacts [h.endHold.predCtrlField.planError, h.endHold]
  have hu2 : u2.Inv := hu1.setf.setf
  have hu3 : u3.Inv := hu2.takeGuards
  exact hu3.setFw.fwChanged

theorem State.Inv.applyPlan {tiles : List (List Byte)} : (s.applyPlan tiles).Inv :=
  (h.foldl (fun _ _ hs => hs.applyTile)).planEnd

theorem State.Inv.calRefused {tiles : List (List Byte)} : (s.calRefused tiles).Inv := by
  fun_cases State.calRefused
  exacts [h.predCtrlField.planError, h]

theorem State.Inv.bootPlan : s.bootPlan.Inv := by
  fun_cases State.bootPlan
  exacts [.planError (.ite h.predCtrlField h), h.applyPlan]

theorem State.Inv.restoreDie : s.restoreDie.Inv := by
  unfold State.restoreDie
  extract_lets +onlyGivenNames _ _ _ u1 u2 _ u3 u4
  have hu1 : u1.Inv := h.foldl (fun _ _ hs => hs.foldl (fun _ _ ht => ht.fwWrite))
  have hu2 : u2.Inv := hu1.foldl (fun _ _ hs => hs.applyCal)
  have hu3 : u3.Inv := .ite hu2.endHold.predCtrlField hu2.endHold
  have hu4 : u4.Inv := hu3.writeGuards
  exact hu4.upd

/-! ### CmdCheck -/

theorem State.Inv.repost {e : JEnt} {loss : Bool} : (s.repost e loss).Inv := by
  unfold State.repost
  exact h.enqueue

/-! ### Eyelet -/

theorem State.Inv.watch {slot : Nat} : (s.watch slot).Inv := h.setFw

theorem State.Inv.resumeDone : s.resumeDone.Inv := .ite h.setFw h

theorem State.Inv.execEyeletPost {priv : Bool} {ch : Nat} {wide : Bool} {w : Word64} :
    Keeps (execEyeletPost priv ch wide w s) := .next (h.cfgWrite (fun _ hs => hs.writeCmd))

theorem State.Inv.holdWord {ch : Nat} {w : Word64} : (s.holdWord ch w).Inv := by
  unfold State.holdWord
  exact h.setChan.setf.setf.setBitf.hang.trace

theorem State.Inv.notAccepted {ch : Nat} {w : Word64} {status result : Nat} : (s.notAccepted ch w status result).Inv :=
  h.incf.reply

theorem State.Inv.responseArrives {arg : Nat} {failed : Bool} : (s.responseArrives arg failed).Inv := by
  unfold State.responseArrives
  exact .ite (.upd (.ite h.upd h)) (.ite h.upd h)

theorem State.Inv.accept {ch : Nat} {w : Word64} : (s.accept ch w).Inv := by
  unfold State.accept
  extract_lets +onlyGivenNames _ _ _ _ u1 u2 u3 u4
  have hu1 : u1.Inv := h.newEntry.setf.incf
  have hu2 : u2.Inv := hu1.setf.setf
  have hu3 : u3.Inv := .ite hu2.putPageUser hu2
  have hu4 : u4.Inv := .ite hu3.responseArrives.jmod hu3
  split
  · exact hu4.replyOf.fwChanged
  · exact hu4

theorem State.Inv.decideWord {ch : Nat} {w : Word64} {unread authOk : Bool} : (s.decideWord ch w unread authOk).Inv := by
  unfold State.decideWord
  extract_lets
  split
  · exact h.repost
  · refine .ite h.notAccepted ?_
    refine .ite h.notAccepted ?_
    split
    · exact .notAccepted (.ite (.calRefused (.ite h.responseArrives h)) (.ite h.responseArrives h))
    · exact h.accept

theorem State.Inv.execCommandTake {ch : Nat} {unread authOk : Bool} : Keeps (execCommandTake ch unread authOk s) :=
  .next (.ite h.holdWord.decideWord (.ite h.decideWord h))

theorem State.Inv.execReplyPost {ch : Nat} : Keeps (execReplyPost ch s) := .next (.ite h.postReply h)

theorem State.Inv.execReplyTake {priv : Bool} {ch : Nat} {w : Word} : Keeps (execReplyTake priv ch w s) :=
  .next (h.cfgWrite (fun _ hs => hs.writeEyeStatus))

theorem State.Inv.execEyeWinWrite {priv : Bool} {w : Nat} {data : Word} : Keeps (execEyeWinWrite priv w data s) :=
  .next (h.cfgWrite (fun _ hs => hs.writeEyeWin))

theorem State.Inv.execNoticeOverflow : Keeps (execNoticeOverflow s) := by
  unfold Machine.execNoticeOverflow
  exact .next (.ite h.setFw.notice h)

theorem State.Inv.standbyReady {k : UnitKind} {u : Nat} : (s.standbyReady k u).Inv := .ite h.setf h

theorem State.Inv.complete {e : JEnt} {ready : Bool} : (s.complete e ready).Inv := by
  fun_cases State.complete
  exacts [h, h, h, h.standbyReady.finish, h.fenceUnit.refuseNow, h, .finish (.ite h.pageOut h)]

theorem State.Inv.execCommandFinalReply {slot : Nat} {ready : Bool} : Keeps (execCommandFinalReply slot ready s) := by
  unfold Machine.execCommandFinalReply
  refine .next ?_
  split
  · exact .ite h.complete.resumeDone h
  · exact h

theorem State.Inv.execAuthChallengeExpire : Keeps (execAuthChallengeExpire s) := by
  unfold Machine.execAuthChallengeExpire
  refine .next ?_
  split
  · exact .ite h.upd h
  · exact h

theorem State.Inv.dropDecision {ch : Nat} : (s.dropDecision ch).Inv := .ite h.setChan.showQueued h

theorem State.Inv.resumeJournal {kind subject : Nat} : (s.resumeJournal kind subject).Inv := by
  unfold State.resumeJournal
  exact (((h.foldl (fun _ _ hs => hs.dropDecision)).setFw).notice).foldl (fun _ _ hs => hs.replyOf)

theorem State.Inv.execTakeoverResume : Keeps (execTakeoverResume s) := .next (.ite h.resumeJournal h)

/-! ### CmdExec -/

theorem State.Inv.command {op : Nat} {act : JEnt → State → State} (hact : ∀ x0 s, s.Inv → (act x0 s).Inv) :
    (s.command op act).Inv := by
  fun_cases State.command
  exacts [h, (hact _ _ h).resumeDone]

theorem State.Inv.put {r : Reg} {i : Nat} {w : Word} : (s.put r i w).Inv := h.fwWrite

theorem State.Inv.putField {x : Fld} {i v : Nat} : (s.putField x i v).Inv := h.put

theorem State.Inv.putCanaries {b : Nat} : (s.putCanaries b).Inv := h.putTile.putTile

theorem State.Inv.testBank {b : Nat} {bad : List Nat} : (s.testBank b bad).1.Inv := by
  unfold State.testBank
  extract_lets u1 _ u2 u3 q
  have hu2 : u2.Inv := h.clr.clr.insoleFilter
  have hu3 : u3.Inv := hu2.foldl fun _ _ hs => .ite hs.setb hs
  have hq : q.1.Inv := State.Inv.foldl_fst hu3.showSpares fun _ _ hs => hs.remapTile
  exact hq.putCanaries

theorem State.Inv.freeze : s.freeze.Inv := by
  unfold State.freeze
  exact h.setFw.setf

/-! ### CmdPlan -/

theorem State.Inv.planSteps {e : JEnt} {n : Nat} : (s.planSteps e n).Inv := by
  unfold State.planSteps
  extract_lets +onlyGivenNames _ _ u1 _ _ u2
  have hu1 : u1.Inv := h.foldl (fun _ _ hs => hs.applyTile)
  have hu2 : u2.Inv := hu1.jmod.planEnd
  exact .ite hu2.finish hu1.jmod.setFw.fwChanged

theorem State.Inv.planLoadCmd {n : Nat} : (s.planLoadCmd n).Inv := by
  fun_cases State.planLoadCmd
  exacts [h.planSteps, h, h.command (fun _ _ hs => hs.effect.planSteps)]

theorem State.Inv.execPlanLoad {n : Nat} : Keeps (execPlanLoad n s) := .next h.planLoadCmd

theorem State.Inv.planTileCmd {e : JEnt} : (s.planTileCmd e).Inv := by
  unfold State.planTileCmd
  exact h.setFw.doneNow

theorem State.Inv.execPlanTile : Keeps (execPlanTile s) := .next (h.command (fun _ _ hs => hs.planTileCmd))

theorem State.Inv.planStatusCmd {e : JEnt} : (s.planStatusCmd e).Inv := by
  unfold State.planStatusCmd
  exact h.pageOut.doneNow

theorem State.Inv.execPlanStatus : Keeps (execPlanStatus s) := .next (h.command (fun _ _ hs => hs.planStatusCmd))

theorem State.Inv.storePlan {ok : Bool} : (s.storePlan ok).Inv := by
  unfold State.storePlan
  exact h.mramWrite

theorem State.Inv.planStoreCmd {e : JEnt} {ok : Bool} : (s.planStoreCmd e ok).Inv := by
  unfold State.planStoreCmd
  exact .ite h.storePlan.doneNow h.storePlan.effect.refuseNow

theorem State.Inv.execPlanStore {ok : Bool} : Keeps (execPlanStore ok s) := .next (h.command (fun _ _ hs => hs.planStoreCmd))

theorem State.Inv.planDiscardCmd {e : JEnt} : (s.planDiscardCmd e).Inv := h.setFw.doneNow

theorem State.Inv.execPlanDiscard : Keeps (execPlanDiscard s) := .next (h.command (fun _ _ hs => hs.planDiscardCmd))

theorem State.Inv.traceStartCmd {e : JEnt} : (s.traceStartCmd e).Inv := by
  unfold State.traceStartCmd
  exact h.put.putField.doneNow

theorem State.Inv.execTraceStart : Keeps (execTraceStart s) := .next (h.command (fun _ _ hs => hs.traceStartCmd))

theorem State.Inv.traceStopCmd {e : JEnt} : (s.traceStopCmd e).Inv := by
  unfold State.traceStopCmd
  exact h.putField.doneNow

theorem State.Inv.execTraceStop : Keeps (execTraceStop s) := .next (h.command (fun _ _ hs => hs.traceStopCmd))

theorem State.Inv.traceTriggerCmd {e : JEnt} : (s.traceTriggerCmd e).Inv := by
  unfold State.traceTriggerCmd
  exact .ite h.hostTrigger.effect h.hostTrigger.doneNow

theorem State.Inv.execTraceTrigger : Keeps (execTraceTrigger s) := .next (h.command (fun _ _ hs => hs.traceTriggerCmd))

theorem State.Inv.traceStatusCmd {e : JEnt} : (s.traceStatusCmd e).Inv := h.doneNow

theorem State.Inv.execTraceStatus : Keeps (execTraceStatus s) := .next (h.command (fun _ _ hs => hs.traceStatusCmd))

theorem State.Inv.faultListCmd {e : JEnt} : (s.faultListCmd e).Inv := by
  unfold State.faultListCmd
  exact h.pageOut.doneNow

theorem State.Inv.execFaultList : Keeps (execFaultList s) := .next (h.command (fun _ _ hs => hs.faultListCmd))

theorem State.Inv.scrub : s.scrub.Inv := by
  unfold State.scrub
  exact .ite ((h.foldl (fun _ _ hs => hs.fwWrite)).awlUsed) ((h.foldl (fun _ _ hs => hs.fwWrite)).setf)

theorem State.Inv.clearByCmd {row : Nat} : (s.clearByCmd row).1.Inv := by
  unfold State.clearByCmd
  exact .clearRow (.ite h.scrub h)

theorem State.Inv.faultClearCmd {e : JEnt} : (s.faultClearCmd e).Inv := by
  unfold State.faultClearCmd
  extract_lets q
  have hq : q.1.Inv := State.Inv.foldl_fst h fun _ _ hs => hs.clearByCmd
  exact hq.doneNow

theorem State.Inv.execFaultClear : Keeps (execFaultClear s) := .next (h.command (fun _ _ hs => hs.faultClearCmd))

theorem State.Inv.safeExitCmd {e : JEnt} : (s.safeExitCmd e).Inv := .doneNow (.ite h.safeLeave h)

theorem State.Inv.execSafeExit : Keeps (execSafeExit s) := .next (h.command (fun _ _ hs => hs.safeExitCmd))

theorem State.Inv.readmitUnit {k : UnitKind} {u slot : Nat} : (s.readmitUnit k u slot).Inv := by
  fun_cases State.readmitUnit
  exacts [h.setf.setf.domRequest, h.setf.domRequest, h.phProbe, h.flt.setSens, h.unfencePeer, h.putPairFenced, h]

theorem State.Inv.readmitBank {b slot : Nat} {bad : List Nat} : (s.readmitBank b slot bad).Inv := by
  unfold State.readmitBank
  exact .ite h.effect.setf.setBitf.testBank.finish h.effect.setf.setBitf.testBank.fenceBank.refuseNow

theorem State.Inv.unfenceCmd {e : JEnt} {bad : List Nat} : (s.unfenceCmd e bad).Inv := by
  fun_cases State.unfenceCmd
  exacts [h.readmitBank, h.effect.watch.readmitUnit, h.doneNow]

theorem State.Inv.execUnfence {bad : List Nat} : Keeps (execUnfence bad s) := .next (h.command (fun _ _ hs => hs.unfenceCmd))

theorem State.Inv.awlInjectCmd {e : JEnt} : (s.awlInjectCmd e).Inv := by
  unfold State.awlInjectCmd
  exact h.awlArm.doneNow

theorem State.Inv.execAwlInject : Keeps (execAwlInject s) := .next (h.command (fun _ _ hs => hs.awlInjectCmd))

theorem State.Inv.replanCmd {e : JEnt} : (s.replanCmd e).Inv := by
  unfold State.replanCmd
  exact h.replan.doneNow

theorem State.Inv.execReplanMargins : Keeps (execReplanMargins s) := .next (h.command (fun _ _ hs => hs.replanCmd))

theorem State.Inv.marginScheduleCmd {e : JEnt} : (s.marginScheduleCmd e).Inv := by
  unfold State.marginScheduleCmd
  exact h.upd.doneNow

theorem State.Inv.execMarginSchedule : Keeps (execMarginSchedule s) := .next (h.command (fun _ _ hs => hs.marginScheduleCmd))

theorem State.Inv.execTreadReport : Keeps (execTreadReport s) := .next (h.command (fun _ _ hs => hs.pageOut.doneNow))

theorem State.Inv.predStatusCmd {e : JEnt} : (s.predStatusCmd e).Inv := by
  unfold State.predStatusCmd
  exact h.doneNow

theorem State.Inv.execPredStatus : Keeps (execPredStatus s) := .next (h.command (fun _ _ hs => hs.predStatusCmd))

theorem State.Inv.predResumeCmd {e : JEnt} : (s.predResumeCmd e).Inv := by
  unfold State.predResumeCmd
  exact h.put.notice.doneNow

theorem State.Inv.execPredResume : Keeps (execPredResume s) := .next (h.command (fun _ _ hs => hs.predResumeCmd))

/-! ### CmdRails -/

theorem State.Inv.execVersion : Keeps (execVersion s) := .next (h.command (fun _ _ hs => hs.doneNow))

theorem State.Inv.execPing : Keeps (execPing s) := .next (h.command (fun _ _ hs => hs.doneNow))

theorem State.Inv.censusCmd {e : JEnt} : (s.censusCmd e).Inv := by
  unfold State.censusCmd
  exact .doneNow (.pageOut (.ite h.freeze h))

theorem State.Inv.execStateCensus : Keeps (execStateCensus s) := .next (h.command (fun _ _ hs => hs.censusCmd))

theorem State.Inv.phaseMapCmd {e : JEnt} : (s.phaseMapCmd e).Inv := by
  unfold State.phaseMapCmd
  exact h.pageOut.doneNow

theorem State.Inv.execPhaseMap : Keeps (execPhaseMap s) := .next (h.command (fun _ _ hs => hs.phaseMapCmd))

theorem State.Inv.railTargetCmd {e : JEnt} : (s.railTargetCmd e).Inv := by
  unfold State.railTargetCmd
  exact .ite h.effect.targetWrite h.targetWrite.doneNow

theorem State.Inv.execRailTarget : Keeps (execRailTarget s) := .next (h.command (fun _ _ hs => hs.railTargetCmd))

theorem State.Inv.railOnCmd {e : JEnt} : (s.railOnCmd e).Inv := by
  unfold State.railOnCmd
  exact .ite h (.writeRailCtrl (.effect (.ite h.watch h)))

theorem State.Inv.execRailOn : Keeps (execRailOn s) := .next (h.command (fun _ _ hs => hs.railOnCmd))

theorem State.Inv.sequenceCmd {e : JEnt} : (s.sequenceCmd e).Inv := by
  unfold State.sequenceCmd
  exact h.effect.setb.seqRequest

theorem State.Inv.execSequence : Keeps (execSequence s) := .next (h.command (fun _ _ hs => hs.sequenceCmd))

theorem State.Inv.platformCapCmd {e : JEnt} : (s.platformCapCmd e).Inv := h.putField.doneNow

theorem State.Inv.execPlatformCap : Keeps (execPlatformCap s) := .next (h.command (fun _ _ hs => hs.platformCapCmd))

theorem State.Inv.railReadCmd {e : JEnt} : (s.railReadCmd e).Inv := by
  unfold State.railReadCmd
  exact h.doneNow

theorem State.Inv.execRailRead : Keeps (execRailRead s) := .next (h.command (fun _ _ hs => hs.railReadCmd))

theorem State.Inv.phaseEnCmd {e : JEnt} : (s.phaseEnCmd e).Inv := h.effect.phEnWrite

theorem State.Inv.execPhaseEn : Keeps (execPhaseEn s) := .next (h.command (fun _ _ hs => hs.phaseEnCmd))

theorem State.Inv.clampForceCmd {e : JEnt} : (s.clampForceCmd e).Inv := h.putField.doneNow

theorem State.Inv.execClampForce : Keeps (execClampForce s) := .next (h.command (fun _ _ hs => hs.clampForceCmd))

/-! ### Pmbus -/

theorem State.Inv.setPmb {x : PmbSt} : (s.setPmb x).Inv := h.upd

theorem State.Inv.cml {bit : Nat} {nack : Bool} : (s.cml bit nack).Inv := by
  unfold State.cml
  exact h.setPmb.incf

theorem State.Inv.pmbReply {l : List Nat} : (s.pmbReply l).Inv := h.setPmb

theorem State.Inv.pmbTake : s.pmbTake.Inv := h.pmbReply

theorem State.Inv.pecFails : s.pecFails.Inv := h.incf.cml

theorem State.Inv.pmbRead {write : Bool} {l : State → List Nat} : Keeps (s.pmbRead write l) :=
  .next (.ite h (.ite h.cml h.pmbReply))

theorem State.Inv.pmbSend {pecBad : Bool} {act : State → State} (hact : ∀ s, s.Inv → (act s).Inv) :
    Keeps (s.pmbSend pecBad act) := .next (.ite h (.ite h.pecFails (hact _ h.pmbTake)))

theorem State.Inv.execPage {write : Bool} {w : BitVec 8} {pecBad : Bool} : Keeps (execPage write w pecBad s) :=
  .ite (h.pmbSend (fun _ hs => .ite hs.setPmb hs.cml)) h.pmbRead

theorem State.Inv.execClearFaults {pecBad : Bool} : Keeps (execClearFaults pecBad s) := h.pmbSend (fun _ hs => hs.setPmb)

theorem State.Inv.execCapability {write : Bool} : Keeps (execCapability write s) := h.pmbRead

theorem State.Inv.execVoutMode {write : Bool} : Keeps (execVoutMode write s) := h.pmbRead

theorem State.Inv.execVoutCommand {write : Bool} : Keeps (execVoutCommand write s) := h.pmbRead

theorem State.Inv.execStatusByte {write : Bool} : Keeps (execStatusByte write s) := h.pmbRead

theorem State.Inv.execStatusWord {write : Bool} : Keeps (execStatusWord write s) := h.pmbRead

theorem State.Inv.execStatusVout {write : Bool} : Keeps (execStatusVout write s) := h.pmbRead

theorem State.Inv.execStatusIout {write : Bool} : Keeps (execStatusIout write s) := h.pmbRead

theorem State.Inv.execStatusTemperature {write : Bool} : Keeps (execStatusTemperature write s) := h.pmbRead

theorem State.Inv.execStatusCml {write : Bool} : Keeps (execStatusCml write s) := h.pmbRead

theorem State.Inv.execReadVout {write : Bool} : Keeps (execReadVout write s) := h.pmbRead

theorem State.Inv.execReadIout {write : Bool} : Keeps (execReadIout write s) := h.pmbRead

theorem State.Inv.execReadTemperature1 {write : Bool} : Keeps (execReadTemperature1 write s) := h.pmbRead

theorem State.Inv.execReadTemperature2 {write : Bool} : Keeps (execReadTemperature2 write s) := h.pmbRead

theorem State.Inv.execReadTemperature3 {write : Bool} : Keeps (execReadTemperature3 write s) := h.pmbRead

theorem State.Inv.execReadPout {write : Bool} : Keeps (execReadPout write s) := h.pmbRead

theorem State.Inv.execPmbusRevision {write : Bool} : Keeps (execPmbusRevision write s) := h.pmbRead

theorem State.Inv.execMfrId {write : Bool} : Keeps (execMfrId write s) := h.pmbRead

theorem State.Inv.execMfrModel {write : Bool} : Keeps (execMfrModel write s) := h.pmbRead

theorem State.Inv.execMfrRevision {write : Bool} : Keeps (execMfrRevision write s) := h.pmbRead

theorem State.Inv.execMfrEyeCmd {bytes : List Nat} {pecBad : Bool} : Keeps (execMfrEyeCmd bytes pecBad s) :=
  h.pmbSend (fun _ hs => .ite hs.cml (.ite hs.refuseWrite.cml hs.postWord))

theorem State.Inv.execMfrEyeRsp {write : Bool} : Keeps (execMfrEyeRsp write s) := h.pmbRead

theorem State.Inv.execMfrEyeStatus {write : Bool} : Keeps (execMfrEyeStatus write s) := h.pmbRead

theorem State.Inv.execMfrEyeTake {pecBad : Bool} : Keeps (execMfrEyeTake pecBad s) := h.pmbSend (fun _ hs => hs.hostTake)

theorem State.Inv.execMfrEyeClear {pecBad : Bool} : Keeps (execMfrEyeClear pecBad s) := h.pmbSend (fun _ hs => hs.setf)

theorem State.Inv.execMfrPagePtr {write : Bool} {w : BitVec 16} {pecBad : Bool} : Keeps (execMfrPagePtr write w pecBad s) :=
  .ite (h.pmbSend (fun _ hs => hs.setPmb)) h.pmbRead

theorem State.Inv.execMfrPageData {write : Bool} : Keeps (execMfrPageData write s) := h.pmbRead

theorem State.Inv.execPmbusInvalidCommand {code : BitVec 8} : Keeps (execPmbusInvalidCommand code s) := .next (.ite h.cml h)

theorem State.Inv.execAlertResponse : Keeps (execAlertResponse s) := .next (.ite h (.ite h.pmbReply h.setPmb))

/-! ### CmdAuth -/

theorem State.Inv.sendRelay {r : RelayEnt} {again : Bool} : (s.sendRelay r again).Inv := by
  unfold State.sendRelay
  exact h.laceSend

theorem State.Inv.setRelays {l : List RelayEnt} : (s.setRelays l).Inv := h.upd.setf

theorem State.Inv.remoteCmd {e : JEnt} : (s.remoteCmd e).Inv := by
  unfold State.remoteCmd
  exact .ite h (.ite h.effect.slotOutcome h.effect.setRelays.sendRelay)

theorem State.Inv.execRemote : Keeps (execRemote s) := .next (h.command (fun _ _ hs => hs.remoteCmd))

theorem State.Inv.moduleStatusCmd {e : JEnt} : (s.moduleStatusCmd e).Inv := h.pageOut.doneNow

theorem State.Inv.execModuleStatus : Keeps (execModuleStatus s) := .next (h.command (fun _ _ hs => hs.moduleStatusCmd))

theorem State.Inv.moduleBudgetCmd {e : JEnt} : (s.moduleBudgetCmd e).Inv := h.put.doneNow

theorem State.Inv.execModuleBudget : Keeps (execModuleBudget s) := .next (h.command (fun _ _ hs => hs.moduleBudgetCmd))

theorem State.Inv.authChallengeCmd {e : JEnt} : (s.authChallengeCmd e).Inv := by
  unfold State.authChallengeCmd
  exact h.usedFree.usedFree.upd.pageOut.doneNow

theorem State.Inv.execAuthChallenge : Keeps (execAuthChallenge s) := .next (h.command (fun _ _ hs => hs.authChallengeCmd))

theorem State.Inv.putScope {scope : Nat} : (s.putScope scope).Inv := by
  unfold State.putScope
  exact .ite h.setf h.setf.awlDisarm

theorem State.Inv.authResponseCmd {e : JEnt} : (s.authResponseCmd e).Inv := h.putScope.doneNow

theorem State.Inv.execAuthResponse : Keeps (execAuthResponse s) := .next (h.command (fun _ _ hs => hs.authResponseCmd))

theorem State.Inv.execAuthDrop : Keeps (execAuthDrop s) := .next (h.command (fun _ _ hs => hs.putScope.doneNow))

theorem State.Inv.fwBegin {size : Nat} : (s.fwBegin size).Inv := h.setFw

theorem State.Inv.execFwBegin : Keeps (execFwBegin s) := .next (h.command (fun _ _ hs => hs.fwBegin.doneNow))

theorem State.Inv.fwChunk {ch len : Nat} : (s.fwChunk ch len).Inv := by
  unfold State.fwChunk
  exact h.setFw

theorem State.Inv.fwChunkCmd {e : JEnt} : (s.fwChunkCmd e).Inv := by
  unfold State.fwChunkCmd
  exact h.fwChunk.doneNow

theorem State.Inv.execFwChunk : Keeps (execFwChunk s) := .next (h.command (fun _ _ hs => hs.fwChunkCmd))

theorem State.Inv.fwCommitCmd {e : JEnt} {sigOk : Bool} : (s.fwCommitCmd e sigOk).Inv := by
  unfold State.fwCommitCmd
  exact .ite h.refuseNow (.ite h.refuseNow h.mramWrite.setFw.doneNow)

theorem State.Inv.execFwCommit {sigOk : Bool} : Keeps (execFwCommit sigOk s) :=
  .next (h.command (fun _ _ hs => hs.fwCommitCmd))

theorem State.Inv.fwActivateCmd {e : JEnt} : (s.fwActivateCmd e).Inv := by
  unfold State.fwActivateCmd
  exact h.effect.putBoot.setFw.warmArises

theorem State.Inv.execFwActivate : Keeps (execFwActivate s) := .next (h.command (fun _ _ hs => hs.fwActivateCmd))

/-! ### Relay -/

theorem State.Inv.relayPost {m : LaceMsg} : (s.relayPost m).Inv := by
  unfold State.relayPost
  exact .ite (.refuseWrite (.ite h h.putPage)) (.postWord (.ite h h.putPage))

theorem State.Inv.execLaceRelayCmd {p : Nat} {frames : List Word64} : Keeps (execLaceRelayCmd p frames s) :=
  .next (.ite (h.laceTake (fun _ _ hs => hs.relayPost)) h)

theorem State.Inv.relayAnswer {m : LaceMsg} : (s.relayAnswer m).Inv := by
  unfold State.relayAnswer
  split
  · exact h
  · refine .ite ?_ h.setRelays
    extract_lets
    split
    · exact h.setRelays
    · extract_lets +onlyGivenNames u1 _ u2
      have hu1 : u1.Inv := h.setRelays.pageOut
      have hu2 : u2.Inv := hu1.jmod.slotOutcome
      split
      · exact .ite hu2.complete hu2
      · exact hu2

theorem State.Inv.execLaceRelayRsp {p : Nat} {frames : List Word64} : Keeps (execLaceRelayRsp p frames s) :=
  .next (.ite (h.laceTake (fun _ _ hs => hs.relayAnswer)) h)

theorem State.Inv.execLaceRelayReplyForward : Keeps (execLaceRelayReplyForward s) := by
  unfold Machine.execLaceRelayReplyForward
  refine .next ?_
  split
  · exact .ite h.takeReply.laceSend h
  · exact h

theorem State.Inv.execLaceRelayRetry {slot : Nat} : Keeps (execLaceRelayRetry slot s) := by
  unfold Machine.execLaceRelayRetry
  refine .next ?_
  split
  · exact h
  · exact .ite h.setRelays.incf.sendRelay h

/-! ### Boot -/

theorem State.Inv.putStage {n : Nat} : (s.putStage n).Inv := h.setf

theorem State.Inv.coldReset : s.coldReset.Inv := ⟨h.1, rfl, rfl⟩

theorem State.Inv.execColdReset : Keeps (execColdReset s) := .next h.coldReset

theorem State.Inv.execColdResetEnd {site : BitVec 6} {headEn bootSrc selfOk : Bool} :
    Keeps (execColdResetEnd site headEn bootSrc selfOk s) := by
  unfold Machine.execColdResetEnd
  refine .next ?_
  refine .ite ?_ h
  extract_lets +onlyGivenNames _ u1 u2
  have hu1 : u1.Inv := h.upd.putStage
  have hu2 : u2.Inv := .ite hu1.setf.setb.setb hu1
  exact .ite hu2.setf hu2.setf.setf.fault

theorem State.Inv.bootBank {bad : List Nat} {b : Nat} : (s.bootBank bad b).Inv := by
  unfold State.bootBank
  exact .ite h.testBank h.testBank.fenceBank

theorem State.Inv.execInsoleTest {bad : List Nat} : Keeps (execInsoleTest bad s) :=
  .next (.ite ((h.foldl (fun _ _ hs => hs.bootBank)).putStage) h)

theorem State.Inv.startCount {b : Word64} {resumed : Bool} : (s.startCount b resumed).Inv := by
  unfold State.startCount
  exact h.upd.setf.setb.flt

theorem State.Inv.restoreRow {l : List Byte} {r : Nat} : (s.restoreRow l r).Inv := by
  unfold State.restoreRow
  exact .ite h (.incf (.flt (.ite h.putUncleared h)))

theorem State.Inv.restoreLog {l : List Byte} : (s.restoreLog l).Inv := by
  unfold State.restoreLog
  exact h.setPair.setf.upd

theorem State.Inv.restoreJournal {l : List Byte} : (s.restoreJournal l).Inv := by
  unfold State.restoreJournal
  exact h.eye.setf.showJournal.foldl (fun _ _ hs => hs.setf)

theorem State.Inv.restorePairs {flags : Nat} : (s.restorePairs flags).Inv := by
  unfold State.restorePairs
  exact h.putPairFenced.putPairFenced.setf

theorem State.Inv.loadRecord {slot : Bool} {l : List Byte} : (s.loadRecord slot l).Inv := by
  unfold State.loadRecord
  extract_lets +onlyGivenNames u1 u2 u3 u4 u5
  have hu1 : u1.Inv := h.foldl (fun _ _ hs => hs.restoreRow)
  have hu2 : u2.Inv := hu1.restorePairs.restoreLog
  have hu3 : u3.Inv := hu2.restoreJournal
  have hu4 : u4.Inv := hu3.setf.setb
  have hu5 : u5.Inv := hu4.setf.setf
  exact .ite hu5.setf.safeEnter hu5

theorem State.Inv.heelLoad : s.heelLoad.Inv := by
  unfold State.heelLoad
  extract_lets +onlyGivenNames _ u1 newest u2
  have hu1 : u1.Inv := h.upd
  have hu2 : u2.Inv := by
    unfold u2
    clear_value newest
    split
    · extract_lets
      exact hu1.startCount.loadRecord.treadStart
    · exact hu1.startCount.setb.treadStart
  clear_value u2
  exact hu2.flt.showPins.putStage

theorem State.Inv.execHeelLoad {vshk hold : Nat} : Keeps (execHeelLoad vshk hold s) := .next (.ite h.putHold.setf.heelLoad h)

theorem State.Inv.runSlot {slot boot : Nat} : (s.runSlot slot boot).Inv := by
  unfold State.runSlot
  exact h.setf.setf.setf.setf.putStage

theorem State.Inv.bootRom {sig0 sig1 : Bool} : (s.bootRom sig0 sig1).Inv := by
  unfold State.bootRom
  exact .ite h.setf.putStage (.ite h.setf.runSlot (.ite h.setf.runSlot h.setf.setf.putStage))

theorem State.Inv.execBootRomStart {sig0 sig1 : Bool} : Keeps (execBootRomStart sig0 sig1 s) :=
  .next (.ite (.ite h.setf.upd.bootRom (.ite h.bootRom h)) h)

theorem State.Inv.loaderDone {w : Word64} {result : Nat} : (s.loaderDone w result).Inv := h.setf.reply

theorem State.Inv.loaderRun {w : Word64} {sigOk : Bool} : (s.loaderRun w sigOk).Inv := by
  unfold State.loaderRun
  exact .ite h.notAccepted (.ite h.notAccepted h.loaderDone.setf.setf.setf.putStage)

theorem State.Inv.loaderWord {w : Word64} {unread sigOk : Bool} : (s.loaderWord w unread sigOk).Inv := by
  fun_cases State.loaderWord
  exacts [h.notAccepted, h.notAccepted, h.fwBegin.loaderDone, h.fwChunk.loaderDone, h.loaderRun]

theorem State.Inv.execBootLoaderWord {unread sigOk : Bool} : Keeps (execBootLoaderWord unread sigOk s) :=
  .next (.ite h.holdWord.loaderWord h)

theorem State.Inv.reportLoss {e : JEnt} : (s.reportLoss e).Inv := .ite h.repost h.jmod.replyOf

theorem State.Inv.bootRecordWrite {ok1 ok2 : Bool} : (s.bootRecordWrite ok1 ok2).Inv := by
  unfold State.bootRecordWrite
  exact .ite (.heelWritten (.ite h h.setf)) (.fault (.setb (.setf (.putHeel (.ite h h.setf)))))

theorem State.Inv.coldStartReports {ok1 ok2 : Bool} : (s.coldStartReports ok1 ok2).Inv := by
  unfold State.coldStartReports
  exact ((h.takeFwTiles.foldl (fun _ _ hs => hs.reportLoss)).bootRecordWrite).setFw

theorem State.Inv.execFirmwareBoot {ok1 ok2 : Bool} : Keeps (execFirmwareBoot ok1 ok2 s) :=
  .next (.ite (.putStage (.bootPlan (.ite h.writeGovAdopt h.writeGovAdopt.coldStartReports))) h)

theorem State.Inv.answerActivate : s.answerActivate.Inv := by
  fun_cases State.answerActivate
  exacts [h, h.setFw, h.setFw.finish, h.setFw.refuseNow]

theorem State.Inv.raiseCounter : s.raiseCounter.Inv := .ite h.putBoot h

theorem State.Inv.bootLocks : s.bootLocks.Inv := by
  unfold State.bootLocks
  exact .setb (.setf (.setf (.ite h.wr.setf h.wr)))

theorem State.Inv.restart : s.restart.Inv := by
  unfold State.restart
  exact .ite h.resumeJournal h.setFw.notice

theorem State.Inv.bootPhases : s.bootPhases.Inv := by
  unfold State.bootPhases
  exact .ite h h.notice

theorem State.Inv.execFirmwareReady : Keeps (execFirmwareReady s) :=
  .next (.ite h.bootLocks.restart.answerActivate.raiseCounter.bootPhases.putStage.resumeDone h)

theorem State.Inv.forcePhases : s.forcePhases.Inv := h.upd

theorem State.Inv.execGovSupplyLoss : Keeps (execGovSupplyLoss s) := .next (.ite h.forcePhases.setf.warmArises h)

theorem State.Inv.settleDomain {d : Nat} : (s.settleDomain d).Inv := .ite h.putTarget.beginStep h

theorem State.Inv.execWarmResetEnd : Keeps (execWarmResetEnd s) := by
  unfold Machine.execWarmResetEnd
  refine .next ?_
  refine .ite ?_ h
  extract_lets +onlyGivenNames _ _ _ _ u1 _ u2
  have hu1 : u1.Inv := h.upd.setf.foldl (fun _ _ hs => hs.settleDomain)
  have hu2 : u2.Inv := .ite hu1.setf hu1
  exact hu2.putStage

theorem State.Inv.execDieResetEnd : Keeps (execDieResetEnd s) :=
  .next (.ite (.ite h.upd.setb.stormsFrom.restoreDie.setf h.upd.setb.stormsFrom) h)

theorem State.Inv.execJtagInstruction {instr : Nat} : Keeps (execJtagInstruction instr s) := .next h.upd

/-! ### CmdUnits -/

theorem State.Inv.setRoleCmd {e : JEnt} : (s.setRoleCmd e).Inv := by
  unfold State.setRoleCmd
  exact .ite h.roleWrite.effect h.effect

theorem State.Inv.execSetRole : Keeps (execSetRole s) := .next (h.command (fun _ _ hs => hs.setRoleCmd))

theorem State.Inv.sendUnit {e : JEnt} {code arg : Nat} : (s.sendUnit e code arg).Inv := by
  unfold State.sendUnit
  exact h.setFw.fwChanged

theorem State.Inv.execSetPriority : Keeps (execSetPriority s) := .next (h.command (fun _ _ hs => hs.sendUnit))

theorem State.Inv.execSetCap : Keeps (execSetCap s) := .next (h.command (fun _ _ hs => hs.sendUnit))

theorem State.Inv.execSetJob : Keeps (execSetJob s) := .next (h.command (fun _ _ hs => hs.sendUnit))

theorem State.Inv.execReadmitPart : Keeps (execReadmitPart s) := .next (h.command (fun _ _ hs => hs.sendUnit))

theorem State.Inv.execUnitPing : Keeps (execUnitPing s) := .next (h.command (fun _ _ hs => hs.sendUnit))

theorem State.Inv.jobMeterCmd {e : JEnt} : (s.jobMeterCmd e).Inv := by
  unfold State.jobMeterCmd
  exact .ite (.effect (.put (.ite h.put h))) (.doneNow (.put (.ite h.put h)))

theorem State.Inv.execJobMeter : Keeps (execJobMeter s) := .next (h.command (fun _ _ hs => hs.jobMeterCmd))

theorem State.Inv.jobReadCmd {e : JEnt} : (s.jobReadCmd e).Inv := by
  unfold State.jobReadCmd
  exact h.pageOut.doneNow

theorem State.Inv.execJobRead : Keeps (execJobRead s) := .next (h.command (fun _ _ hs => hs.jobReadCmd))

theorem State.Inv.domainReqCmd {e : JEnt} : (s.domainReqCmd e).Inv := by
  unfold State.domainReqCmd
  exact h.effect.domRequest

theorem State.Inv.execDomainReq : Keeps (execDomainReq s) := .next (h.command (fun _ _ hs => hs.domainReqCmd))

theorem State.Inv.windowOpenCmd {e : JEnt} : (s.windowOpenCmd e).Inv := by
  unfold State.windowOpenCmd
  exact h.winOpen.doneNow

theorem State.Inv.execWindowOpen : Keeps (execWindowOpen s) := .next (h.command (fun _ _ hs => hs.windowOpenCmd))

theorem State.Inv.windowCloseCmd {e : JEnt} : (s.windowCloseCmd e).Inv := by
  unfold State.windowCloseCmd
  exact h.winClose.doneNow

theorem State.Inv.execWindowClose : Keeps (execWindowClose s) := .next (h.command (fun _ _ hs => hs.windowCloseCmd))

theorem State.Inv.windowStatusCmd {e : JEnt} : (s.windowStatusCmd e).Inv := h.doneNow

theorem State.Inv.execWindowStatus : Keeps (execWindowStatus s) := .next (h.command (fun _ _ hs => hs.windowStatusCmd))

/-! ### Dispatch -/

theorem State.Inv.exec {i : Instr} : Keeps (exec i s) := by
  unfold Machine.exec
  split
  · exact h.execRegisterWrite
  · exact h.execCfg64bitWrite
  · exact h.execSeamCodeError
  · exact h.execSeamResend
  · exact h.execIslandStop
  · exact h.execIslandRestart
  · exact h.execTimeTrimWrite
  · exact h.execTimeStepWrite
  · exact h.execTimeStepApply
  · exact h.execRefclkLost
  · exact h.execRefclkRestored
  · exact h.execTokenPost
  · exact h.execTokenReject
  · exact h.execTokenStaleReject
  · exact h.execTileAdmit
  · exact h.execTileDone
  · exact h.execEpochBoundaryReport
  · exact h.execDemandReport
  · exact h.execClickerRefill
  · exact h.execGrantReceive
  · exact h.execRampAllowanceCompute
  · exact h.execRampAllowanceReceive
  · exact h.execRampWindowStart
  · exact h.execPhaseCapacityReport
  · exact h.execClampSourceAssert
  · exact h.execClampRelease
  · exact h.execClampForceWrite
  · exact h.execPartitionFault
  · exact h.execPartitionReadmit
  · exact h.execRoleWrite
  · exact h.execUnitMessage
  · exact h.execJobClearWrite
  · exact h.execCostDataWrite
  · exact h.execWeltHeadroomReport
  · exact h.execNeedUpdate
  · exact h.execClassUpRequest
  · exact h.execClassReady
  · exact h.execClassExpire
  · exact h.execCeilHoldExpire
  · exact h.execDroopTrip
  · exact h.execStretchEnd
  · exact h.execKickExpire
  · exact h.execStormExit
  · exact h.execStormClampTimeout
  · exact h.execStormFracUpdate
  · exact h.execDetectorStuck
  · exact h.execDetectorUnmask
  · exact h.execWeltIlimStart
  · exact h.execWeltIlimTimeout
  · exact h.execWeltIlimRelease
  · exact h.execWeltOv
  · exact h.execTfSample
  · exact h.execPhaseCycle
  · exact h.execSoftstartComplete
  · exact h.execPhaseHiccupExpire
  · exact h.execSenseLineOpen
  · exact h.execSenseImplausibleCheck
  · exact h.execRailSample
  · exact h.execPhaseShed
  · exact h.execCapabilityUpdate
  · exact h.execRailOcHiccup
  · exact h.execRailHiccupExpire
  · exact h.execBrakeStart
  · exact h.execBrakeEnd
  · exact h.execBrakeTimeout
  · exact h.execSyncEdge
  · exact h.execSyncLock
  · exact h.execSyncLoss
  · exact h.execPhaseEnableWrite
  · exact h.execPhaseDisableWrite
  · exact h.execDisableHeldApply
  · exact h.execPhaseQuietPoint
  · exact h.execPhaseFailedReprobe
  · exact h.execProbeComplete
  · exact h.execAbsentProbe
  · exact h.execRailTargetWrite
  · exact h.execRailOnWrite
  · exact h.execRailOffWrite
  · exact h.execRailCoefHold
  · exact h.execProfileStep
  · exact h.execRailEnterOn
  · exact h.execRailStartTimeout
  · exact h.execRailQuietPoint
  · exact h.execRsLoss
  · exact h.execRsRestore
  · exact h.execSenseBothLost
  · exact h.execRailOvervoltage
  · exact h.execSequenceUpRequest
  · exact h.execSequenceDownRequest
  · exact h.execSeqStepBegin
  · exact h.execSeqCheckWaitTimeout
  · exact h.execSeqPendingUpStart
  · exact h.execSlotSample
  · exact h.execSlotEvaluate
  · exact h.execSlotRelease
  · exact h.execSlotHoldTimeout
  · exact h.execCeilingArrival
  · exact h.execSlotEnable
  · exact h.execSlotDisable
  · exact h.execSlotQuietPoint
  · exact h.execNotchAssign
  · exact h.execLatencyClear
  · exact h.execRailNeedReceive
  · exact h.execRailNeedTimeout
  · exact h.execGroupResend
  · exact h.execLastMarker
  · exact h.execLastMarkerTimeout
  · exact h.execLastFadeEnd
  · exact h.execLastCorrelationEval
  · exact h.execLastBinUpdate
  · exact h.execLastEnableWrite
  · exact h.execLastBinload
  · exact h.execActivityWindow
  · exact h.execPredictorEval
  · exact h.execResidualCheck
  · exact h.execShadowCheck
  · exact h.execPredResumeGo
  · exact h.execPredSetHold
  · exact h.execPredGainTrim
  · exact h.execThermalSample
  · exact h.execRefreshRelease
  · exact h.execBackstopRelease
  · exact h.execSensorUnbreak
  · exact h.execColumnModelStep
  · exact h.execWindowExpire
  · exact h.execWaitIntent
  · exact h.execDomainReqWrite
  · exact h.execDomainCommit
  · exact h.execDrainTimeout
  · exact h.execWakeEvent
  · exact h.execSaveAccessTimeout
  · exact h.execEyeletPost
  · exact h.execCommandTake
  · exact h.execReplyPost
  · exact h.execReplyTake
  · exact h.execEyeWinWrite
  · exact h.execNoticeOverflow
  · exact h.execCommandFinalReply
  · exact h.execVersion
  · exact h.execPing
  · exact h.execStateCensus
  · exact h.execPhaseMap
  · exact h.execRailTarget
  · exact h.execRailOn
  · exact h.execSequence
  · exact h.execPlatformCap
  · exact h.execRailRead
  · exact h.execPhaseEn
  · exact h.execClampForce
  · exact h.execSetRole
  · exact h.execSetPriority
  · exact h.execSetCap
  · exact h.execSetJob
  · exact h.execReadmitPart
  · exact h.execUnitPing
  · exact h.execJobMeter
  · exact h.execJobRead
  · exact h.execDomainReq
  · exact h.execWindowOpen
  · exact h.execWindowClose
  · exact h.execWindowStatus
  · exact h.execPlanLoad
  · exact h.execPlanTile
  · exact h.execPlanStatus
  · exact h.execPlanStore
  · exact h.execPlanDiscard
  · exact h.execTraceStart
  · exact h.execTraceStop
  · exact h.execTraceTrigger
  · exact h.execTraceStatus
  · exact h.execFaultList
  · exact h.execFaultClear
  · exact h.execSafeExit
  · exact h.execUnfence
  · exact h.execAwlInject
  · exact h.execReplanMargins
  · exact h.execMarginSchedule
  · exact h.execTreadReport
  · exact h.execPredStatus
  · exact h.execPredResume
  · exact h.execRemote
  · exact h.execModuleStatus
  · exact h.execModuleBudget
  · exact h.execAuthChallenge
  · exact h.execAuthResponse
  · exact h.execAuthDrop
  · exact h.execAuthChallengeExpire
  · exact h.execFwBegin
  · exact h.execFwChunk
  · exact h.execFwCommit
  · exact h.execFwActivate
  · exact h.execLockstepMismatch
  · exact h.execTakeoverResume
  · exact h.execFirmwareHeartbeatTimeout
  · exact h.execLaceSymbolLock
  · exact h.execLaceLanesAligned
  · exact h.execLaceTrainTimeout
  · exact h.execLacePortDown
  · exact h.execLaceWakePatternSend
  · exact h.execLaceFrameCrcFail
  · exact h.execLaceReservedType
  · exact h.execLaceHello
  · exact h.execLaceHelloSend
  · exact h.execLaceDelayReqSend
  · exact h.execLaceDelayReq
  · exact h.execLaceDelayRsp
  · exact h.execLaceTimeSend
  · exact h.execLaceTime
  · exact h.execLaceJoinSend
  · exact h.execLaceJoin
  · exact h.execLaceMembersSend
  · exact h.execLaceMembers
  · exact h.execLaceReportSend
  · exact h.execLaceReport
  · exact h.execLaceDebt
  · exact h.execLaceShareCompute
  · exact h.execLaceShare
  · exact h.execLaceShareTimeout
  · exact h.execLaceMemberTimeout
  · exact h.execLaceHeadLost
  · exact h.execLaceSiteConflict
  · exact h.execLaceTimeTimeout
  · exact h.execLaceHeadStartHoldEnd
  · exact h.execLaceSlow
  · exact h.execLaceRelayCmd
  · exact h.execLaceRelayRsp
  · exact h.execLaceRelayReplyForward
  · exact h.execLaceRelayRetry
  · exact h.execFaultEventAccept
  · exact h.execUnclearedWrite
  · exact h.execForceSafeWrite
  · exact h.execAwlArm
  · exact h.execAwlDisarm
  · exact h.execSagSaveStart
  · exact h.execHeelWriteComplete
  · exact h.execSagSaveStop
  · exact h.execSagRideThrough
  · exact h.execTrdCalWrite
  · exact h.execDriftMeasure
  · exact h.execEmAccumulate
  · exact h.execHoldupMeasurement
  · exact h.execMarginWindow
  · exact h.execRetentionReport
  · exact h.execTreadFit
  · exact h.execTreadInsoleSave
  · exact h.execTreadCheckpoint
  · exact h.execTraceRecordAccept
  · exact h.execTrcTrigWrite
  · exact h.execTraceRegionComplete
  · exact h.execTrcReleaseWrite
  · exact h.execTraceDropReport
  · exact h.execTraceRunStart
  · exact h.execTraceFrameSend
  · exact h.execPage
  · exact h.execClearFaults
  · exact h.execCapability
  · exact h.execVoutMode
  · exact h.execVoutCommand
  · exact h.execStatusByte
  · exact h.execStatusWord
  · exact h.execStatusVout
  · exact h.execStatusIout
  · exact h.execStatusTemperature
  · exact h.execStatusCml
  · exact h.execReadVout
  · exact h.execReadIout
  · exact h.execReadTemperature1
  · exact h.execReadTemperature2
  · exact h.execReadTemperature3
  · exact h.execReadPout
  · exact h.execPmbusRevision
  · exact h.execMfrId
  · exact h.execMfrModel
  · exact h.execMfrRevision
  · exact h.execMfrEyeCmd
  · exact h.execMfrEyeRsp
  · exact h.execMfrEyeStatus
  · exact h.execMfrEyeTake
  · exact h.execMfrEyeClear
  · exact h.execMfrPagePtr
  · exact h.execMfrPageData
  · exact h.execPmbusInvalidCommand
  · exact h.execAlertResponse
  · exact h.execGovLockWrite
  · exact h.execJtagInstruction
  · exact h.execInsoleWindowWrite
  · exact h.execGovSupplyLoss
  · exact h.execColdReset
  · exact h.execColdResetEnd
  · exact h.execInsoleTest
  · exact h.execHeelLoad
  · exact h.execBootRomStart
  · exact h.execBootLoaderWord
  · exact h.execFirmwareBoot
  · exact h.execFirmwareReady
  · exact h.execWarmReset
  · exact h.execGovResetWrite
  · exact h.execWarmResetEnd
  · exact h.execAdopt
  · exact h.execDieReset
  · exact h.execDieResetEnd
  · exact h.execReadShadowLatch
  · exact h.execStallCycle
  · exact h.execLaceMessageForward
  · exact h.execDummyLoadRequestToggle

end
end Sys2Proof.Machine
end

section
namespace Sys2Proof.Machine
open Sys2Proof

/-- A step is a tick of the clock or the command at the front of the queue. -/
theorem State.Inv.step {s : State} (h : s.Inv) : Keeps (step s) := by
  unfold Machine.step
  split
  · exact .exec h.upd
  · exact .next h.tick

/-- Settles O4: every operation of the model keeps the three memories canonical, the commands are built from those operations,
and a step is a tick or one command. -/
theorem memoriesStayCanonical : Obligations.MemoriesStayCanonical := fun _ _ h e => h.step _ e

end Sys2Proof.Machine
end

section
/-! SUPPORT. Which registers an operation leaves alone: a state that lies above an offset of another one has its registers
below that offset, its clock, its MRAM and its resets. -/
namespace Sys2Proof.Machine
open Sys2Proof

-- The side conditions found by tactics wait for the laws before them: one after another, they hold no thread each.
set_option Elab.async false

/-- From `s₀` to `s` no register below offset `lim` changed, nor the clock, the MRAM, the newest record, the resets, or whether
the firmware has booted and runs. -/
structure State.Above (lim : Nat) (s₀ s : State) : Prop where
  get : ∀ a, a < lim → ∀ d, Tab.get d s.regs a = Tab.get d s₀.regs a
  time : s.time = s₀.time
  mram : s.flt.mram = s₀.flt.mram
  newest : s.flt.newest = s₀.flt.newest
  rst : s.rst = s₀.rst
  booted : s.eye.fw.booted = s₀.eye.fw.booted
  running : s.eye.fw.running = s₀.eye.fw.running

variable {lim : Nat} {s₀ s : State}

theorem State.Above.refl : s.Above lim s := ⟨fun _ _ _ => rfl, rfl, rfl, rfl, rfl, rfl, rfl⟩

theorem Reg.off_le_at (r : Reg) (i : Nat) : r.off ≤ r.at i := Nat.le_add_right ..

section
variable (h : s₀.Above lim s)
include h

theorem State.Above.trans {t : State} (g : s.Above lim t) : s₀.Above lim t :=
  ⟨fun a ha d => (g.get a ha d).trans (h.get a ha d), g.time.trans h.time, g.mram.trans h.mram, g.newest.trans h.newest,
    g.rst.trans h.rst, g.booted.trans h.booted, g.running.trans h.running⟩

/-- A lower bound keeps less. -/
theorem State.Above.mono {c : Nat} (hc : c ≤ lim) : s₀.Above c s :=
  ⟨fun a ha d => h.get a (ha.trans_le hc) d, h.time, h.mram, h.newest, h.rst, h.booted, h.running⟩

/-! ### What reads below the bound -/

theorem State.Above.rd (r : Reg) (i : Nat) (hr : r.at i < lim) : s.rd r i = s₀.rd r i := h.get _ hr _

theorem State.Above.f (x : Fld) (i : Nat) (hr : x.reg.at i < lim) : s.f x i = s₀.f x i := by
  unfold State.f
  rw [h.rd _ _ hr]

theorem State.Above.on (x : Fld) (i : Nat) (hr : x.reg.at i < lim) : s.on x i = s₀.on x i := by
  unfold State.on
  rw [h.f _ _ hr]

/-! ### Writes above the bound -/

theorem State.Above.wr {r : Reg} {i : Nat} {w : Word} (hr : lim ≤ r.off := by decide) :
    s₀.Above lim (s.wr r i w) :=
  ⟨fun a ha d => (Tab.get_set_other _ _ _ _ (by have := r.off_le_at i; omega)).trans (h.get a ha d), h.time, h.mram, h.newest,
    h.rst, h.booted, h.running⟩

theorem State.Above.setf {x : Fld} {i v : Nat} (hr : lim ≤ x.reg.off := by decide) :
    s₀.Above lim (s.setf x i v) := h.wr hr

theorem State.Above.setb {x : Fld} {i : Nat} {v : Bool}
    (hr : lim ≤ x.reg.off := by decide) : s₀.Above lim (s.setb x i v) := h.wr hr

theorem State.Above.incf {x : Fld} {i v : Nat} (hr : lim ≤ x.reg.off := by decide) :
    s₀.Above lim (s.incf x i v) := h.wr hr

theorem State.Above.setBitf {x : Fld} {i k : Nat} {v : Bool}
    (hr : lim ≤ x.reg.off := by decide) : s₀.Above lim (s.setBitf x i k v) := h.wr hr

theorem State.Above.setfiSat {x : Fld} {i : Nat} {v : Int}
    (hr : lim ≤ x.reg.off := by decide) : s₀.Above lim (s.setfiSat x i v) := h.wr hr

theorem State.Above.clr {r : Reg} {i : Nat} (hr : lim ≤ r.off := by decide) :
    s₀.Above lim (s.clr r i) := h.wr hr

theorem State.Above.setPair {lo hi : Reg} {i v : Nat} (hl : lim ≤ lo.off := by decide)
    (hh : lim ≤ hi.off := by decide) : s₀.Above lim (s.setPair lo hi i v) := (h.wr hl).wr hh

/-! ### Updates of other records -/

theorem State.Above.upd {pending shadow free served rsp seams islands trc sec tele crd welt ph rails loop lasts thm pwr lace trd} :
    s₀.Above lim (State.mk pending s.regs shadow free served rsp s.time seams islands s.eye s.flt trc sec s.rst tele crd welt ph
      rails loop lasts thm pwr lace trd) := ⟨h.get, h.time, h.mram, h.newest, h.rst, h.booted, h.running⟩

theorem State.Above.flt {x : FltSt} (hm : x.mram = s.flt.mram := by rfl) (hn : x.newest = s.flt.newest := by rfl) :
    s₀.Above lim { s with flt := x } :=
  ⟨h.get, h.time, hm.trans h.mram, hn.trans h.newest, h.rst, h.booted, h.running⟩

theorem State.Above.eye {x : EyeSt} (hb : x.fw.booted = s.eye.fw.booted := by rfl)
    (hr : x.fw.running = s.eye.fw.running := by rfl) : s₀.Above lim { s with eye := x } :=
  ⟨h.get, h.time, h.mram, h.newest, h.rst, hb.trans h.booted, hr.trans h.running⟩

end

/-! ### Branches and loops -/

section
variable {c : Prop} [Decidable c] {α β : Type}

theorem State.Above.ite {s t : State} (hs : s₀.Above lim s) (ht : s₀.Above lim t) : s₀.Above lim (if c then s else t) := by
  split
  · exact hs
  · exact ht

/-- A branch between two answers that carry a state. -/
theorem State.Above.ite_fst {p q : State × α} (hp : s₀.Above lim p.1) (hq : s₀.Above lim q.1) :
    s₀.Above lim (if c then p else q).1 := by
  split
  · exact hp
  · exact hq

/-- The state of an answer. -/
theorem State.Above.fst {a : α} (h : s₀.Above lim s) : s₀.Above lim (s, a).1 := h

/-- The state of an answer that was taken apart. -/
theorem State.Above.of_eq {q : State × α} {t : State} {a : α} (h : s₀.Above lim q.1) (e : q = (t, a)) : s₀.Above lim t := by
  subst e
  exact h

theorem State.Above.foldl {f : State → β → State} {l : List β} (h : s₀.Above lim s)
    (hf : ∀ s x, s₀.Above lim s → s₀.Above lim (f s x)) : s₀.Above lim (l.foldl f s) := by
  induction l generalizing s with
  | nil => exact h
  | cons x r ih => exact ih (hf s x h)

theorem State.Above.foldl_fst {f : State × α → β → State × α} {l : List β} {q : State × α} (h : s₀.Above lim q.1)
    (hf : ∀ q x, s₀.Above lim q.1 → s₀.Above lim (f q x).1) : s₀.Above lim (l.foldl f q).1 := by
  induction l generalizing q with
  | nil => exact h
  | cons x r ih => exact ih (hf q x h)

end
section
variable (h : s₀.Above lim s)
include h

/-! ### Operations that write no register -/

theorem State.Above.usedFree : s₀.Above lim s.usedFree := h.upd

theorem State.Above.hang {ring code arg : Nat} : s₀.Above lim (s.hang ring code arg) := by
  unfold State.hang State.hangAt
  exact h.upd

theorem State.Above.setSrc {k : Nat} {x : SrcSt} : s₀.Above lim (s.setSrc k x) := h.upd

theorem State.Above.log {code unit arg : Nat} (hl : lim ≤ R.LOG_HEAD.off := by decide) : s₀.Above lim (s.log code unit arg) := by
  unfold State.log State.logAt
  extract_lets _ _ u1 u2
  have hu1 : s₀.Above lim u1 := h.setPair (hl.trans (by decide)) (hl.trans (by decide))
  have hu2 : s₀.Above lim u2 := .ite (hu1.setf hl) hu1
  exact (hu2.setf hl).upd

/-- A fault event is put in the queue, in the log and in the trace. -/
theorem State.Above.fault {row unit : Nat} (hl : lim ≤ R.LOG_HEAD.off := by decide) : s₀.Above lim (s.fault row unit) := by
  unfold State.fault State.faultA
  refine .ite ?_ h
  extract_lets _ u1 _ _ u2 u3
  have hu3 : s₀.Above lim u3 := (h.usedFree.flt).log hl
  clear_value u3
  unfold State.sysRec
  exact .ite hu3.setSrc hu3

theorem State.Above.telem {key : Nat} {v : Int} : s₀.Above lim (s.telem key v) := by
  unfold State.telem
  exact h.upd

theorem State.Above.setStation {n : Nat} {x : StationSt} : s₀.Above lim (s.setStation n x) := h.upd

theorem State.Above.setCluster {c : Nat} {x : ClusterSt} : s₀.Above lim (s.setCluster c x) := h.upd

theorem State.Above.setSeam {k : Nat} {x : SeamSt} : s₀.Above lim (s.setSeam k x) := h.upd

theorem State.Above.setWelt {c : Nat} {x : WeltSt} : s₀.Above lim (s.setWelt c x) := h.upd

theorem State.Above.setDom {d : Nat} {x : DomSt} : s₀.Above lim (s.setDom d x) := h.upd

theorem State.Above.setPhase {p : Nat} {x : PhaseSt} : s₀.Above lim (s.setPhase p x) := h.upd

theorem State.Above.setRail {r : Nat} {x : RailSt} : s₀.Above lim (s.setRail r x) := h.upd

theorem State.Above.setChan {c : Nat} {x : ChanSt} : s₀.Above lim (s.setChan c x) := h.eye

theorem State.Above.jmod {k : Nat} {g : JEnt → JEnt} : s₀.Above lim (s.jmod k g) := h.eye

theorem State.Above.setFw {x : FwSt} (hb : x.booted = s.eye.fw.booted := by rfl)
    (hr : x.running = s.eye.fw.running := by rfl) : s₀.Above lim (s.setFw x) := h.eye hb hr

end

end Sys2Proof.Machine
end

section
/-! SUPPORT. Operations that write no register below 0x5000: one law for each, in the order of the model. -/
namespace Sys2Proof.Machine
open Sys2Proof

-- The side conditions found by tactics wait for the laws before them: one after another, they hold no thread each.
set_option Elab.async false

section
variable {s₀ s : State} (h : s₀.Above 0x5000 s)
include h

/-! ### InsoleOps -/

theorem State.Above.putTile {t : Nat} {l : List Byte} : s₀.Above 0x5000 (s.putTile t l) := h.upd

theorem State.Above.freeTile {t : Nat} : s₀.Above 0x5000 (s.freeTile t) := h.upd

theorem State.Above.placeTile {l : List Byte} : s₀.Above 0x5000 (s.placeTile l) := by
  unfold State.placeTile
  split
  · exact h
  · exact h.putTile

theorem State.Above.patchTile {typ index i : Nat} {l : List Byte} : s₀.Above 0x5000 (s.patchTile typ index i l) := by
  unfold State.patchTile
  split
  · exact h
  · exact h.putTile

/-! ### TraceOps -/

theorem State.Above.trcPressure : s₀.Above 0x5000 s.trcPressure := by
  unfold State.trcPressure
  exact h.setf.setf

theorem State.Above.putPos {p : Nat} {v : BitVec 128} : s₀.Above 0x5000 (s.putPos p v) := by
  unfold State.putPos
  extract_lets +onlyGivenNames _ _ u1 u2
  have hu1 : s₀.Above 0x5000 u1 := h.upd
  have hu2 : s₀.Above 0x5000 u2 := .ite hu1.setf hu1
  exact hu2.setf.trcPressure

theorem State.Above.stopPost : s₀.Above 0x5000 s.stopPost := h.upd

theorem State.Above.trcSeek : s₀.Above 0x5000 s.trcSeek := by
  unfold State.trcSeek
  refine .ite h ?_
  extract_lets u1 u2
  have hu2 : s₀.Above 0x5000 u2 := .ite h.stopPost.setf h.stopPost
  exact hu2.setf

theorem State.Above.putRec {r : TraceRec} {t : State} (e : s.putRec r = some t) : s₀.Above 0x5000 t := by
  have h := h.trcSeek
  simp only [State.putRec] at e
  generalize s.trcSeek = v at e h
  split at e
  · cases e
    exact h
  · split at e
    · cases e
      exact h.putPos
    · cases e
  · split at e
    · cases e
    · next u hu =>
      have hu : s₀.Above 0x5000 u := by
        split at hu
        · split at hu
          · cases hu
            exact h.putPos.trcSeek
          · cases hu
        · cases hu
          exact h
      split at e
      · cases e
        exact hu.putPos.putPos
      · cases e

theorem State.Above.queueRec {k : Nat} {r : TraceRec} : s₀.Above 0x5000 (s.queueRec k r) := by
  unfold State.queueRec
  exact .ite h.setSrc h.setSrc.setPair

theorem State.Above.traceMany {k : Nat} {recs : List (Nat × Nat × Nat × Option Nat)} :
    s₀.Above 0x5000 (s.traceMany k recs) := by
  unfold State.traceMany
  refine .ite ?_ h
  refine .ite h.setSrc ?_
  exact .ite h.setSrc.setSrc.setPair (.ite h.setSrc.setSrc (h.setSrc.foldl (fun _ _ hs => hs.queueRec)))

theorem State.Above.trace {k typ idx value : Nat} {ext : Option Nat} : s₀.Above 0x5000 (s.trace k typ idx value ext) :=
  h.traceMany

theorem State.Above.showRegions : s₀.Above 0x5000 s.showRegions := by
  unfold State.showRegions
  extract_lets +onlyGivenNames u1
  have hu1 : s₀.Above 0x5000 u1 := h.foldl (fun _ _ hs => by split; exacts [hs.clr.clr, hs.setf.setb.setf.setf.setf])
  exact hu1.setf

theorem State.Above.completeRegions : s₀.Above 0x5000 s.completeRegions := by
  unfold State.completeRegions
  exact ((h.foldl (fun _ _ hs => hs.patchTile)).upd).showRegions

theorem State.Above.trigger {cause bit tag : Nat} : s₀.Above 0x5000 (s.trigger cause bit tag) := by
  unfold State.trigger
  refine .ite ?_ h
  extract_lets u1 u2 _ _ put
  have hu2 : s₀.Above 0x5000 u2 := h.completeRegions.incf
  clear_value u2
  have hput : ∀ s r, s₀.Above 0x5000 s → s₀.Above 0x5000 (put s r) := fun s r hs => by
    simp only [put]
    split
    · next e => exact hs.putRec e
    · exact hs.setSrc
  clear_value put
  refine .ite (hput _ _ hu2) (.ite ?_ (hput _ _ hu2.setf))
  exact (hput _ _ hu2.trcSeek.upd.placeTile).showRegions.trcPressure

theorem State.Above.hangStations {code : Nat} : s₀.Above 0x5000 (s.hangStations code) := h.foldl (fun _ _ hs => hs.hang)

theorem State.Above.clampOn {bit unit : Nat} : s₀.Above 0x5000 (s.clampOn bit unit) := by
  unfold State.clampOn
  exact .ite h.upd.setBitf h.upd.setBitf.setf.incf.upd.log.hangStations.trigger

theorem State.Above.clampOffSrc {bit unit : Nat} : s₀.Above 0x5000 (s.clampOffSrc bit unit) := .ite (.ite h.upd h.upd.upd) h

theorem State.Above.clampSet {bit unit : Nat} {on : Bool} : s₀.Above 0x5000 (s.clampSet bit unit on) :=
  .ite (.ite h h.clampOn) h.clampOffSrc

theorem State.Above.pmbLatch {page reg bit : Nat} : s₀.Above 0x5000 (s.pmbLatch page reg bit) := by
  unfold State.pmbLatch
  exact h.upd

/-! ### Insole -/

omit h in
/-- The fields of the spares lie in the domains' block. -/
theorem spareFlds_off (k : Nat) : 0x5000 ≤ (spareFlds k).1.reg.off ∧ 0x5000 ≤ (spareFlds k).2.1.reg.off ∧
    0x5000 ≤ (spareFlds k).2.2.reg.off := by
  unfold spareFlds
  split <;> decide

theorem State.Above.showSpares {b : Nat} : s₀.Above 0x5000 (s.showSpares b) := h.setf

theorem State.Above.remapTile {t : Nat} : s₀.Above 0x5000 (s.remapTile t).1 := by
  unfold State.remapTile
  extract_lets b u
  have hu : s₀.Above 0x5000 u := by
    unfold u
    split
    · exact h.setb (spareFlds_off _).2.1
    · exact h
  split
  · exact hu.showSpares
  · exact (hu.setb (spareFlds_off _).1).setf (spareFlds_off _).2.2 |>.incf.showSpares.log

theorem State.Above.dirSet {d i v : Nat} : s₀.Above 0x5000 (s.dirSet d i v) := by
  unfold State.dirSet
  exact h.foldl (fun _ _ hs => by split; exacts [hs, hs.putTile])

theorem State.Above.evictTile {t : Nat} : s₀.Above 0x5000 (s.evictTile t) := .ite h.freeTile.incf h

theorem State.Above.copyRun {src n c : Nat} {avoid : List Nat} : s₀.Above 0x5000 (s.copyRun src n c avoid).1 := by
  unfold State.copyRun
  split
  · exact h
  · refine State.Above.fst (State.Above.foldl h fun _ _ hs => ?_)
    exact hs.evictTile.putTile

theorem State.Above.single {b : Nat} : s₀.Above 0x5000 (s.single b) := h.incf.fault

theorem State.Above.redirect {i old new : Nat} : s₀.Above 0x5000 (s.redirect i old new) := by
  unfold State.redirect
  exact h.foldl (fun _ _ hs => by split; exacts [hs, .ite hs.dirSet hs])

theorem State.Above.recopyDir {b c : Nat} : s₀.Above 0x5000 (s.recopyDir b c) := by
  unfold State.recopyDir
  refine .ite ?_ h
  extract_lets o
  refine .ite h ?_
  split
  · next e => exact .ite (h.copyRun.of_eq e).setf (h.copyRun.of_eq e).setf
  · next e => exact (h.copyRun.of_eq e).single

theorem State.Above.recopyList {b c own other : Nat} : s₀.Above 0x5000 (s.recopyList b c own other) := by
  fun_cases State.recopyList
  exacts [h, h.single, (h.foldl (fun _ _ hs => hs.evictTile.putTile)).redirect]

theorem State.Above.recopyData {b c own other w : Nat} : s₀.Above 0x5000 (s.recopyData b c own other w) := by
  unfold State.recopyData
  refine .ite h ?_
  split
  · next e => exact (h.copyRun.of_eq e).redirect
  · next e => exact (h.copyRun.of_eq e).single

theorem State.Above.recopyEntry {b d : Nat} {done : List Nat} : s₀.Above 0x5000 (s.recopyEntry b d done).1 := by
  refine State.Above.foldl_fst h fun q c hq => ?_
  split
  · exact hq
  · refine .ite_fst hq ?_
    extract_lets own other u
    have hu : s₀.Above 0x5000 u.1 := .ite_fst hq.recopyList hq
    clear_value u
    exact .ite_fst (.fst hu.recopyData) hu

theorem State.Above.moveFw {b o c : Nat} : s₀.Above 0x5000 (s.moveFw b o c) := by
  unfold State.moveFw
  extract_lets _ _ _ u1
  have hu1 : s₀.Above 0x5000 u1 := h.upd
  clear_value u1
  split
  · exact hu1.single
  · exact (hu1.foldl fun _ _ hs => hs.evictTile).upd

theorem State.Above.recopyFw {b : Nat} : s₀.Above 0x5000 (s.recopyFw b) := h.foldl (fun _ _ hs => .ite hs hs.moveFw)

theorem State.Above.fenceBank {b arg : Nat} : s₀.Above 0x5000 (s.fenceBank b arg) :=
  .ite h (h.setf.setBitf.fault.log.recopyDir.recopyDir.recopyFw.foldl_fst (fun _ _ hs => hs.recopyEntry))

/-! ### CapOps -/

theorem State.Above.applyCaps {c : Nat} : s₀.Above 0x5000 (s.applyCaps c) := by
  unfold State.applyCaps
  exact h.upd.foldl (fun _ _ hs => .ite hs hs.setStation)

theorem State.Above.applyAllCaps : s₀.Above 0x5000 s.applyAllCaps := h.foldl (fun _ _ hs => hs.applyCaps)

/-! ### PhaseOps -/

theorem State.Above.endDe {r : Nat} : s₀.Above 0x5000 (s.endDe r) := by
  unfold State.endDe
  exact h.setRail.foldl (fun _ _ hs => hs.setf)

theorem State.Above.notePhase {p : Nat} : s₀.Above 0x5000 (s.notePhase p) := by
  unfold State.notePhase
  exact h.log.hang

theorem State.Above.noteRailTemp {p : Nat} : s₀.Above 0x5000 (s.noteRailTemp p) := by
  fun_cases State.noteRailTemp
  exacts [h, h.telem]

theorem State.Above.phPut {p st : Nat} : s₀.Above 0x5000 (s.phPut p st) := by
  unfold State.phPut
  exact .notePhase (.ite h.setf.setb.setPhase h.setf.setb.setPhase.setf)

theorem State.Above.softStart {p len : Nat} : s₀.Above 0x5000 (s.softStart p len) := by
  unfold State.softStart
  exact .ite h.phPut.setPhase.endDe h.phPut.setPhase

theorem State.Above.toAngle {p : Nat} : s₀.Above 0x5000 (s.toAngle p) := by
  unfold State.toAngle
  exact h.setPhase

theorem State.Above.addPhases {l : List Nat} : s₀.Above 0x5000 (s.addPhases l) :=
  (h.foldl (fun _ _ hs => hs.softStart)).foldl (fun _ _ hs => hs.toAngle)

theorem State.Above.showCap {r : Nat} : s₀.Above 0x5000 (s.showCap r) := by
  unfold State.showCap
  exact .setf (.ite h h.setf.setRail)

theorem State.Above.capClamp {r : Nat} : s₀.Above 0x5000 (s.capClamp r) := by
  unfold State.capClamp
  extract_lets +onlyGivenNames _ _ _ u1 u2
  have hu1 : s₀.Above 0x5000 u1 := h.showCap.setf.clampSet
  have hu2 : s₀.Above 0x5000 u2 := hu1.addPhases
  exact .ite h.showCap.setf.clampSet (.ite (.showCap (.ite hu2.endDe hu2)) h.showCap.setf.clampSet)

theorem State.Above.phGo {p st : Nat} : s₀.Above 0x5000 (s.phGo p st) := by
  unfold State.phGo
  exact .capClamp (.noteRailTemp (.ite h.phPut.pmbLatch h.phPut))

theorem State.Above.phDisable {p : Nat} : s₀.Above 0x5000 (s.phDisable p) := by
  unfold State.phDisable
  exact h.setPhase.setf.setf.phGo

theorem State.Above.railWentOff {r : Nat} : s₀.Above 0x5000 (s.railWentOff r) := by
  unfold State.railWentOff
  exact (h.foldl (fun _ _ hs => hs.phDisable)).capClamp

theorem State.Above.showSet {r : Nat} : s₀.Above 0x5000 (s.showSet r) := by
  unfold State.showSet
  exact h.setf.setfiSat

theorem State.Above.showEff {r : Nat} : s₀.Above 0x5000 (s.showEff r) := by
  unfold State.showEff
  exact .ite h.setf.setf h.setf.setf.setb

theorem State.Above.markArrival {fuel r : Nat} {t : Option Word64} : s₀.Above 0x5000 (s.markArrival fuel r t) := by
  induction fuel generalizing s r with
  | zero => exact h
  | succ n ih =>
    unfold State.markArrival
    extract_lets x u
    have hu : s₀.Above 0x5000 u := .ite h.setRail (.ite h.setRail h)
    exact hu.foldl fun _ _ hs => ih hs

theorem State.Above.setTarget {r : Nat} {t : Int} : s₀.Above 0x5000 (s.setTarget r t) := by
  unfold State.setTarget
  exact .setb (.ite h h.setRail.markArrival)

theorem State.Above.recompose {r : Nat} : s₀.Above 0x5000 (s.recompose r) := by
  unfold State.recompose
  exact .ite h.showEff.setTarget h.showEff

theorem State.Above.noteRail {r : Nat} : s₀.Above 0x5000 (s.noteRail r) := h.log

theorem State.Above.railPut {r st : Nat} : s₀.Above 0x5000 (s.railPut r st) := by
  unfold State.railPut
  exact .noteRail (.setRail (.ite h.setf h.setf.setf))

theorem State.Above.railStop {fuel r : Nat} : s₀.Above 0x5000 (s.railStop fuel r) := by
  induction fuel generalizing s r with
  | zero => exact h
  | succ n ih => exact .ite (h.railPut.setRail.setb.setTarget.railWentOff.foldl fun _ _ hs => ih hs) h

theorem State.Above.railOffNow {r : Nat} : s₀.Above 0x5000 (s.railOffNow r) := by
  unfold State.railOffNow
  exact h.railPut.setRail.setf.setf.setf.showSet.showEff

theorem State.Above.offWhenQuiet {r : Nat} : s₀.Above 0x5000 (s.offWhenQuiet r) := .ite h.railOffNow h.setRail

theorem State.Above.onWritten0 {r : Nat} : s₀.Above 0x5000 (s.onWritten0 r) := by
  fun_cases State.onWritten0
  exacts [h.setf.railStop, h.setf.railStop, h.setf.setf, h.setf.offWhenQuiet, h.setf.offWhenQuiet, h.setf]

theorem State.Above.railsSafe : s₀.Above 0x5000 s.railsSafe :=
  h.foldl (fun _ _ hs => .ite hs.recompose.onWritten0 hs.recompose)

/-! ### Thermal -/

theorem State.Above.coreCaps {n : Nat} : s₀.Above 0x5000 (s.coreCaps n) := by
  unfold State.coreCaps
  exact h.setb.setb.setb.setb

theorem State.Above.windowClusters : s₀.Above 0x5000 s.windowClusters := by
  unfold State.windowClusters
  exact h.upd

theorem State.Above.countBackstops : s₀.Above 0x5000 s.countBackstops := h.setf

theorem State.Above.thermalCaps : s₀.Above 0x5000 s.thermalCaps :=
  ((h.windowClusters.foldl (fun _ _ hs => hs.coreCaps)).countBackstops).applyAllCaps

theorem State.Above.winPut {st : Nat} : s₀.Above 0x5000 (s.winPut st) := h.setf.log.thermalCaps

theorem State.Above.winClose : s₀.Above 0x5000 s.winClose := .ite h.winPut h

/-! ### Domain -/

theorem State.Above.showWakeHeld : s₀.Above 0x5000 s.showWakeHeld := h.setb

/-! ### Fault -/

theorem State.Above.showPins : s₀.Above 0x5000 s.showPins := h.flt

/-! ### Tread -/

theorem State.Above.takeSection {l : List Byte} : s₀.Above 0x5000 (s.takeSection l) := by
  unfold State.takeSection
  extract_lets +onlyGivenNames _ _ _ _ u1 _ u2 u3 u4 u5
  have hu1 : s₀.Above 0x5000 u1 := h.upd.wr.setf.setf
  have hu2 : s₀.Above 0x5000 u2 := hu1.setb.setf.setf.setf
  have hu3 : s₀.Above 0x5000 u3 := hu2.foldl fun _ _ hs => hs.setPair
  have hu4 : s₀.Above 0x5000 u4 := hu3.foldl fun _ _ hs => hs.setf
  have hu5 : s₀.Above 0x5000 u5 := hu4.foldl fun _ _ hs => hs.setf
  exact hu5.foldl fun _ _ hs => hs.setf

/-! ### CmdExec -/

theorem State.Above.putCanaries {b : Nat} : s₀.Above 0x5000 (s.putCanaries b) := h.putTile.putTile

theorem State.Above.testBank {b : Nat} {bad : List Nat} : s₀.Above 0x5000 (s.testBank b bad).1 := by
  unfold State.testBank
  extract_lets u1 _ u2 u3 q
  have hu2 : s₀.Above 0x5000 u2 := h.clr.clr.upd
  have hu3 : s₀.Above 0x5000 u3 := hu2.foldl fun _ _ hs => .ite (hs.setb (spareFlds_off _).2.1) hs
  have hq : s₀.Above 0x5000 q.1 := State.Above.foldl_fst hu3.showSpares fun _ _ hs => hs.remapTile
  exact hq.putCanaries

/-! ### Boot -/

theorem State.Above.bootBank {bad : List Nat} {b : Nat} : s₀.Above 0x5000 (s.bootBank bad b) := by
  unfold State.bootBank
  exact .ite h.testBank h.testBank.fenceBank

end
end Sys2Proof.Machine
end

section
/-! SUPPORT. Reading a field after fields and other parts of the state were written. -/
namespace Sys2Proof.Machine
open Sys2Proof

/-- Field `y` of instance `j` shares no bit with field `x` of instance `i`: another word, or other bits of the same one. -/
abbrev Fld.Apart (x : Fld) (i : Nat) (y : Fld) (j : Nat) : Prop :=
  y.reg.at j ≠ x.reg.at i ∨
    (y.reg.rst j = x.reg.rst i ∧ x.ok ∧ (y.lo + y.len ≤ x.lo ∨ x.lo + x.len ≤ y.lo))

/-- A register read where another name of it was written. -/
theorem State.rd_wr_at (s : State) {r q : Reg} {i j : Nat} (w : Word) (h : q.at j = r.at i) (hd : q.rst j = r.rst i) :
    (s.wr r i w).rd q j = w := by
  unfold State.wr State.rd
  rw [h, hd]
  exact Tab.get_set_same ..

theorem State.f_setf_apart (s : State) {x y : Fld} {i j : Nat} (v : Nat) (h : Fld.Apart x i y j) :
    (s.setf x i v).f y j = s.f y j := by
  by_cases ha : y.reg.at j = x.reg.at i
  · obtain hn | ⟨hd, hx, hb⟩ := h
    · exact absurd ha hn
    · have hr : s.rd y.reg j = s.rd x.reg i := by unfold State.rd; rw [ha, hd]
      unfold State.setf State.f
      rw [State.rd_wr_at _ _ ha hd, hr]
      exact getBits_putBits_other _ _ _ _ _ _ hx.1 hx.2 hb
  · exact State.f_setf_reg _ _ ha

theorem State.f_setb_apart (s : State) {x y : Fld} {i j : Nat} (v : Bool) (h : Fld.Apart x i y j) :
    (s.setb x i v).f y j = s.f y j := State.f_setf_apart _ _ h

theorem State.f_incf_apart (s : State) {x y : Fld} {i j v : Nat} (h : Fld.Apart x i y j) :
    (s.incf x i v).f y j = s.f y j := State.f_setf_apart _ _ h

theorem State.on_setf_apart (s : State) {x y : Fld} {i j : Nat} (v : Nat) (h : Fld.Apart x i y j) :
    (s.setf x i v).on y j = s.on y j := by
  unfold State.on
  rw [State.f_setf_apart _ _ h]

theorem State.on_setb_apart (s : State) {x y : Fld} {i j : Nat} (v : Bool) (h : Fld.Apart x i y j) :
    (s.setb x i v).on y j = s.on y j := State.on_setf_apart _ _ h

theorem State.on_incf_apart (s : State) {x y : Fld} {i j v : Nat} (h : Fld.Apart x i y j) :
    (s.incf x i v).on y j = s.on y j := State.on_setf_apart _ _ h

end Sys2Proof.Machine
end

section
/-! SUPPORT. The cold reset and its end, the Insole test, the boot ROM and the TAP (R357, R524, R536, R561, R567). -/
namespace Sys2Proof.Machine
open Sys2Proof

/-! ### The cold reset -/

theorem coldReset_keeps_mram (s : State) : Completes .coldReset s fun t =>
    (∀ (r : Reg) (i : Nat), t.rd r i = r.rst i) ∧ t.rst.cold = true ∧ t.started = false ∧
    t.flt.mram = s.flt.mram ∧ t.flt.errN = false ∧ t.flt.safeN = false ∧ t.eye = State.reset.eye ∧ t.trc = State.reset.trc ∧
    t.crd = State.reset.crd ∧ t.pwr = State.reset.pwr ∧ t.lace = State.reset.lace :=
  have hstart : State.reset.started = false := by decide
  ⟨s.coldReset, rfl, fun _ _ => rfl, rfl, (State.on_of_regs rfl _ _).trans hstart, rfl, rfl, rfl, rfl, rfl, rfl, rfl, rfl⟩

/-- A fault event waits, alone or merged with one of its kind. -/
theorem mem_addFault (l : List FaultEv) (e : FaultEv) : ∃ x ∈ addFault l e, x.row = e.row ∧ x.unit = e.unit := by
  induction l with
  | nil => exact ⟨e, List.mem_singleton_self e, rfl, rfl⟩
  | cons x r ih =>
    unfold addFault
    split
    · next h => exact ⟨_, List.mem_cons_self, h.1, h.2.1⟩
    · obtain ⟨y, hy, hrow, hunit⟩ := ih
      exact ⟨y, List.mem_cons_of_mem _ hy, hrow, hunit⟩

theorem State.sysRec_flt (s : State) (typ idx value : Nat) (ext : Option Nat) : (s.sysRec typ idx value ext).flt = s.flt := by
  unfold State.sysRec
  split
  · dsimp only
    split
    · rw [State.incf_flt, State.setSrc_flt]
    · rw [State.setSrc_flt]
  · rfl

theorem State.log_flt (s : State) (code unit arg : Nat) : (s.log code unit arg).flt = s.flt := by
  unfold State.log State.logAt
  extract_lets _ _ u1 u2 u3
  have hu1 : u1.flt = s.flt := State.setPair_flt ..
  have hu2 : u2.flt = s.flt := by
    unfold u2
    split
    · rw [State.setf_flt, hu1]
    · exact hu1
  have hu3 : u3.flt = s.flt := (State.setf_flt ..).trans hu2
  exact hu3

theorem State.fault_pend (s : State) {row : Nat} (unit : Nat) (h : faultRowUsed row = true) :
    (s.fault row unit).flt.pend = addFault s.flt.pend
      { row := row, unit := unit % 2 ^ 15, arg := s.freeVal 32, t := s.now, awl := false, mult := 1 } := by
  unfold State.fault State.faultA
  rw [if_pos h]
  extract_lets arg u1 e _ u2 u3
  rw [State.sysRec_flt, show u3.flt = u2.flt from State.log_flt ..]
  rfl

theorem State.reported_fault (s : State) {row : Nat} (unit : Nat) (h : faultRowUsed row = true) :
    (s.fault row unit).reported row unit := by
  unfold State.reported
  rw [State.fault_pend s unit h]
  exact mem_addFault ..

/-- The state in which the straps have been sampled and the base-die reference clock is there. -/
def State.strapped (s : State) (site : BitVec 6) (headEn src : Bool) : State :=
  (((((({ s with rst := { s.rst with cold := false, bootSrc := src } } : State).putStage 1).setf F.LACE_ID_SITE 0 site.toNat).setb
    F.LACE_ID_HEAD_EN 0 headEn).setb F.LACE_ID_IS_HEAD 0 headEn).setf F.GOV_BOOT_REFCLK_OK 0 1)

theorem execColdResetEnd_eq (s : State) (site : BitVec 6) (headEn src ok : Bool) (h : s.rst.cold = true) :
    execColdResetEnd site headEn src ok s =
      .next (if ok then s.strapped site headEn src
        else ((s.strapped site headEn src).setf F.FLT_STATUS_SELF_FAULT 0 1).fault 0x00 0) := by
  unfold execColdResetEnd
  rw [if_pos h]
  rfl

theorem State.strapped_fields (s : State) (site : BitVec 6) (headEn src : Bool) :
    (s.strapped site headEn src).stage = 1 ∧ (s.strapped site headEn src).f F.LACE_ID_SITE = site.toNat ∧
    (s.strapped site headEn src).on F.LACE_ID_HEAD_EN = headEn ∧ (s.strapped site headEn src).on F.LACE_ID_IS_HEAD = headEn := by
  unfold State.strapped State.stage State.putStage
  refine ⟨?_, ?_, ?_, ?_⟩
  · rw [State.f_setf_apart, State.f_setb_apart, State.f_setb_apart, State.f_setf_apart, State.f_setf_same]
    all_goals decide
  · rw [State.f_setf_apart, State.f_setb_apart, State.f_setb_apart, State.f_setf_same]
    · exact Nat.mod_eq_of_lt site.isLt
    all_goals decide
  · rw [State.on_setf_apart, State.on_setb_apart, State.on_setb_same]
    all_goals decide
  · rw [State.on_setf_apart, State.on_setb_same]
    all_goals decide

theorem coldResetEnd_samples_straps (s : State) (site : BitVec 6) (headEn src ok : Bool) (h : s.rst.cold = true) :
    Completes (.coldResetEnd site headEn src ok) s fun t => t.rst.cold = false ∧
    t.stage = 1 ∧ t.f F.LACE_ID_SITE = site.toNat ∧ t.on F.LACE_ID_HEAD_EN = headEn ∧ t.on F.LACE_ID_IS_HEAD = headEn ∧
    t.rst.bootSrc = src ∧ (ok = false → t.reported 0x00 0 ∧ t.on F.FLT_STATUS_SELF_FAULT = true) := by
  obtain ⟨hst, hsite, hen, hhead⟩ := s.strapped_fields site headEn src
  cases ok with
  | true => exact Completes.of_next (execColdResetEnd_eq s site headEn src true h) (if_pos rfl) ⟨rfl, hst, hsite, hen, hhead, rfl, nofun⟩
  | false =>
    refine Completes.of_next (execColdResetEnd_eq s site headEn src false h) (if_neg Bool.false_ne_true) ?_
    have hf := (State.Above.refl (lim := 0x7E000) (s := (s.strapped site headEn src).setf F.FLT_STATUS_SELF_FAULT 0 1)).fault
      (row := 0x00) (unit := 0)
    refine ⟨by rw [hf.rst]; rfl, ?_, ?_, ?_, ?_, by rw [hf.rst]; rfl, fun _ => ⟨State.reported_fault _ _ (by decide), ?_⟩⟩
    · exact (hf.f F.GOV_BOOT_STAGE 0 (by decide)).trans ((State.f_setf_apart _ _ (by decide)).trans hst)
    · exact (hf.f _ _ (by decide)).trans ((State.f_setf_apart _ _ (by decide)).trans hsite)
    · exact (hf.on _ _ (by decide)).trans ((State.on_setf_apart _ _ (by decide)).trans hen)
    · exact (hf.on _ _ (by decide)).trans ((State.on_setf_apart _ _ (by decide)).trans hhead)
    · exact (hf.on _ _ (by decide)).trans (State.on_setf_same _ _ _ _ (by decide))

/-! ### The stages of boot -/

theorem State.stage_putStage (s : State) (n : Nat) (h : n < 16) : (s.putStage n).stage = n :=
  (State.f_setf_same _ _ _ _ (by decide)).trans (Nat.mod_eq_of_lt h)

theorem State.on_putStage (s : State) (n : Nat) {x : Fld} (h : Fld.Apart F.GOV_BOOT_STAGE 0 x 0) : (s.putStage n).on x = s.on x :=
  State.on_setf_apart _ _ h

theorem State.f_putStage (s : State) (n : Nat) {x : Fld} (h : Fld.Apart F.GOV_BOOT_STAGE 0 x 0) : (s.putStage n).f x = s.f x :=
  State.f_setf_apart _ _ h

theorem insoleTest_stage (s : State) (bad : List Nat) (hc : s.rst.cold = false) (hs : s.stage = 1) :
    Completes (.insoleTest bad) s fun t => t.stage = 3 ∧ t.flt.mram = s.flt.mram := by
  have hf : s.Above 0x5000 ((List.range 8).foldl (fun (s : State) b => s.bootBank bad b) s) :=
    State.Above.refl.foldl fun _ _ h => h.bootBank
  have hg : (!s.rst.cold && s.stage == 1) = true := by simp [hc, hs]
  exact Completes.of_next rfl (if_pos hg) ⟨State.stage_putStage _ _ (by decide), hf.mram⟩

/-! ### The boot ROM -/

/-- The state in which the boot ROM starts at a cold start. -/
def State.romStart (s : State) : State :=
  let s := s.setf F.GOV_BOOT_VGOV_OK 0 1
  { s with lace := { s.lace with startAt := s.now } }

/-- The slot's image runs: `SLOT` and `BOOT` say so. -/
theorem State.runSlot_fields (s : State) {slot boot : Nat} (hs : slot < 2) (hb : boot < 4) :
    (s.runSlot slot boot).stage = 8 ∧ (s.runSlot slot boot).f F.GOV_SEC_BOOT = boot ∧
    (s.runSlot slot boot).f F.GOV_SEC_SLOT = slot ∧ (s.runSlot slot boot).vgov = s.vgov := by
  unfold State.runSlot
  refine ⟨State.stage_putStage _ _ (by decide), ?_, ?_, ?_⟩
  · rw [State.f_putStage, State.f_setf_apart, State.f_setf_apart, State.f_setf_apart, State.f_setf_same]
    · exact Nat.mod_eq_of_lt hb
    all_goals decide
  · rw [State.f_putStage, State.f_setf_apart, State.f_setf_apart, State.f_setf_same]
    · exact Nat.mod_eq_of_lt hs
    all_goals decide
  · unfold State.vgov
    rw [State.on_putStage, State.on_setf_apart, State.on_setf_apart, State.on_setf_apart, State.on_setf_apart]
    all_goals decide

theorem State.bootSlot_lt (s : State) : s.bootSlot < 2 := by
  unfold State.bootSlot
  cases s.bootNewest with
  | none => exact Nat.zero_lt_two
  | some e => exact Nat.mod_lt _ Nat.zero_lt_two

theorem State.pick_other (sig0 sig1 : Bool) {a : Nat} (h : a < 2) :
    (if 1 - a = 0 then sig0 else sig1) = if a = 0 then sig1 else sig0 := by
  obtain rfl | rfl : a = 0 ∨ a = 1 := by omega
  · rfl
  · rfl

/-- What the boot ROM finds decides the stage: the loader, a slot, or none. -/
theorem State.bootRom_fields (s : State) (sig0 sig1 : Bool) {a : Nat} (ha : a = s.bootSlot) :
    (s.bootRom sig0 sig1).vgov = s.vgov ∧ (s.rst.bootSrc = true → (s.bootRom sig0 sig1).stage = 6) ∧
    (s.rst.bootSrc = false → s.imgBoots a (if a = 0 then sig0 else sig1) = true → (s.bootRom sig0 sig1).stage = 8 ∧
      (s.bootRom sig0 sig1).f F.GOV_SEC_BOOT = 1 ∧ (s.bootRom sig0 sig1).f F.GOV_SEC_SLOT = a) ∧
    (s.rst.bootSrc = false → s.imgBoots a (if a = 0 then sig0 else sig1) = false →
      (s.imgBoots (1 - a) (if a = 0 then sig1 else sig0) = true → (s.bootRom sig0 sig1).stage = 8 ∧
        (s.bootRom sig0 sig1).f F.GOV_SEC_BOOT = 2 ∧ (s.bootRom sig0 sig1).f F.GOV_SEC_SLOT = 1 - a) ∧
      (s.imgBoots (1 - a) (if a = 0 then sig1 else sig0) = false → (s.bootRom sig0 sig1).stage = 7 ∧
        (s.bootRom sig0 sig1).f F.GOV_SEC_BOOT = 3)) := by
  have hlt : a < 2 := ha ▸ s.bootSlot_lt
  have hother := State.pick_other sig0 sig1 hlt
  have hrom : s.bootRom sig0 sig1 = (let u := s.setf F.GOV_ARB_COUNTER 0 s.bootCounter
      if s.rst.bootSrc then u.putStage 6
      else if s.imgBoots a (if a = 0 then sig0 else sig1) then u.runSlot a 1
      else if s.imgBoots (1 - a) (if 1 - a = 0 then sig0 else sig1) then u.runSlot (1 - a) 2
      else (u.setf F.GOV_SEC_BOOT 0 3).putStage 7) := by
    subst ha
    rfl
  rw [hrom, hother]
  extract_lets u
  have hv : u.vgov = s.vgov := State.on_setf_apart _ _ (by decide)
  cases hsrc : s.rst.bootSrc with
  | true => exact ⟨(State.on_putStage _ _ (by decide)).trans hv, fun _ => State.stage_putStage _ _ (by decide), nofun, nofun⟩
  | false =>
    cases h1 : s.imgBoots a (if a = 0 then sig0 else sig1) with
    | true =>
      obtain ⟨hs, hb, hsl, hv'⟩ := u.runSlot_fields (boot := 1) hlt (by decide)
      exact ⟨hv'.trans hv, nofun, fun _ _ => ⟨hs, hb, hsl⟩, fun _ => nofun⟩
    | false =>
      cases h2 : s.imgBoots (1 - a) (if a = 0 then sig1 else sig0) with
      | true =>
        obtain ⟨hs, hb, hsl, hv'⟩ := u.runSlot_fields (slot := 1 - a) (boot := 2) (by omega) (by decide)
        exact ⟨hv'.trans hv, nofun, fun _ => nofun, fun _ _ => ⟨fun _ => ⟨hs, hb, hsl⟩, nofun⟩⟩
      | false =>
        refine ⟨?_, nofun, fun _ => nofun, fun _ _ => ⟨nofun, fun _ => ⟨State.stage_putStage _ _ (by decide), ?_⟩⟩⟩
        · exact (State.on_putStage _ _ (by decide)).trans ((State.on_setf_apart _ _ (by decide)).trans hv)
        · exact (State.f_putStage _ _ (by decide)).trans (State.f_setf_same _ _ _ _ (by decide))

theorem bootRomStart_stage (s : State) (sig0 sig1 : Bool) (a : Nat) (hc : s.rst.cold = false) (hw : s.rst.warm = false)
    (hp : s.pairFenced s.activePair = false) (hs : s.stage = 5) (hr : s.on F.GOV_BOOT_REFCLK_OK = true) (ha : a = s.bootSlot) :
    Completes (.bootRomStart sig0 sig1) s fun t =>
      t.vgov = true ∧ (s.rst.bootSrc = true → t.stage = 6) ∧
      (s.rst.bootSrc = false → s.imgBoots a (if a = 0 then sig0 else sig1) = true →
        t.stage = 8 ∧ t.f F.GOV_SEC_BOOT = 1 ∧ t.f F.GOV_SEC_SLOT = a) ∧
      (s.rst.bootSrc = false → s.imgBoots a (if a = 0 then sig0 else sig1) = false →
        (s.imgBoots (1 - a) (if a = 0 then sig1 else sig0) = true → t.stage = 8 ∧ t.f F.GOV_SEC_BOOT = 2 ∧ t.f F.GOV_SEC_SLOT = 1 - a) ∧
        (s.imgBoots (1 - a) (if a = 0 then sig1 else sig0) = false → t.stage = 7 ∧ t.f F.GOV_SEC_BOOT = 3)) := by
  have hg : (!s.rst.cold && !s.rst.warm && !s.pairFenced s.activePair) = true := by simp [hc, hw, hp]
  have hv : s.romStart.vgov = true := (State.on_of_regs (s := s.setf F.GOV_BOOT_VGOV_OK 0 1) rfl _ _).trans
    (State.on_setf_same _ _ _ _ (by decide))
  obtain ⟨hvg, hsrc, h1, h2⟩ := s.romStart.bootRom_fields sig0 sig1 (a := a) ha
  exact Completes.of_next (u := s.romStart.bootRom sig0 sig1) rfl ((if_pos hg).trans (if_pos ⟨hs, hr⟩)) ⟨hvg.trans hv, hsrc, h1, h2⟩

/-! ### The die reset and the TAP -/

theorem dieReset_ignored (s : State) (h : s.rst.cold = true ∨ s.rst.warm = true ∨ s.rst.die = true) :
    Completes .dieReset s fun t => t = s := by
  have hg : (s.rst.cold || s.rst.warm || s.rst.die) = true := by simpa [or_assoc] using h
  exact Completes.of_next rfl (if_pos hg) rfl

theorem jtagInstruction_tap (s : State) (n : Nat) : Completes (.jtagInstruction n) s fun t =>
    t.sec.tap = (if n ≤ 2 ∨ ((n = 3 ∨ n = 4) ∧ s.bitf F.GOV_SEC_SCOPE 0 0 = true ∧ s.allRailsOff = true) then n else 0) ∧
    { t with sec := s.sec } = s := ⟨_, rfl, rfl, rfl⟩

end Sys2Proof.Machine
end

section
/-! SUPPORT. The writes of GOV_ADOPT and GOV_LOCK (R526, R564). -/
namespace Sys2Proof.Machine
open Sys2Proof

/-! ### ADOPT and GOV_LOCK -/

theorem adopt_ends_hold (s : State) (w : Word) (hp : s.portTakes R.GOV_ADOPT 0 = true) (hw : w.getLsbD 0 = true) :
    Completes (.adopt true w) s fun t => t.holding = false ∧ t.rsp.err = false := by
  have ha : (writeGovAdopt w s).1 = (s.setb F.GOV_ADOPT_ADOPT 0 (w.getLsbD 0)).setf F.GOV_ADOPT_STATUS 0 2 := if_pos hw
  have hf : ((writeGovAdopt w s).1.respond false).f F.GOV_ADOPT_STATUS = 2 := by
    rw [ha]
    exact (State.f_of_regs (s := (s.setb F.GOV_ADOPT_ADOPT 0 (w.getLsbD 0)).setf F.GOV_ADOPT_STATUS 0 2) rfl _ _).trans
      (State.f_setf_same _ _ _ _ (by decide))
  refine Completes.of_next rfl (State.cfgWrite_takes _ hp) ⟨?_, rfl⟩
  unfold State.holding
  rw [show ((writeGovAdopt w s).1.respond (writeGovAdopt w s).2).f F.GOV_ADOPT_STATUS = 2 from hf]
  rfl

/-- A lock bit that is written: it can be set, and then stays set. -/
theorem writtenBit_selfLock (s : State) (old new : Word) {k : Nat} {l : Lock} (hl : ∀ w, s.locked .cfg l k w = w.getLsbD k) :
    writtenBit s .cfg new old ⟨k, k, .rwl l⟩ k = (old.getLsbD k || new.getLsbD k) := by
  unfold writtenBit
  simp only [hl]
  cases old.getLsbD k <;> simp

theorem govLockWrite_sets (s : State) (w : Word) (hp : s.portTakes R.GOV_LOCK 0 = true) :
    Completes (.govLockWrite true w) s fun t =>
      (∀ k, k < 3 → (t.rd R.GOV_LOCK).getLsbD k = ((s.rd R.GOV_LOCK).getLsbD k || w.getLsbD k)) ∧
      { t with regs := s.regs, rsp := s.rsp } = s := by
  refine Completes.of_next rfl (State.cfgWrite_takes _ hp) ⟨fun k hk => ?_, rfl⟩
  have hrd : ((writeReg s .cfg R.GOV_LOCK 0 w).1.respond (writeReg s .cfg R.GOV_LOCK 0 w).2).rd R.GOV_LOCK 0 =
    (merge s .cfg R.GOV_LOCK 0 w).1 := State.rd_wr_same ..
  have hin := (merge_spec (s := s) (b := .cfg) (new := w) R.GOV_LOCK.wf (fieldsOk_of_findReg (off := 0x10) rfl) (s.rd R.GOV_LOCK) false).1
  rw [hrd]
  obtain rfl | rfl | rfl : k = 0 ∨ k = 1 ∨ k = 2 := by omega
  · exact (hin ⟨0, 0, .rwl .selfV⟩ (by decide) 0 le_rfl le_rfl).trans (writtenBit_selfLock _ _ _ fun _ => rfl)
  · exact (hin ⟨1, 1, .rwl .selfC⟩ (by decide) 1 le_rfl le_rfl).trans (writtenBit_selfLock _ _ _ fun _ => rfl)
  · exact (hin ⟨2, 2, .rwl .selfT⟩ (by decide) 2 le_rfl le_rfl).trans (writtenBit_selfLock _ _ _ fun _ => rfl)

end Sys2Proof.Machine
end

section
/-! SUPPORT. The warm reset: which registers it returns to reset and which it keeps, and when a cause takes effect. -/
namespace Sys2Proof.Machine
open Sys2Proof

/-! ### Registers through a filter of the table -/

theorem Tab.get_filter {α : Type} (d : α) (t : Tab α) (p : Nat × α → Bool) (q : Nat → Bool) (hp : ∀ e, p e = q e.1) (k : Nat) :
    Tab.get d (t.filter p) k = if q k then Tab.get d t k else d := by
  induction t with
  | nil => simp [Tab.get]
  | cons e r ih =>
    obtain ⟨j, v⟩ := e
    by_cases hk : j = k
    · subst hk
      cases hq : q j <;> simp [hp, hq, Tab.get, ih]
    · cases hq : q j <;> simp [hp, hq, Tab.get, hk, ih]

/-- The register at an offset belongs to the domain that only a cold reset returns to reset. -/
def coldAt (a : Nat) : Bool :=
  match findReg a with
  | some (r, _) => decide (r.dom = Dom.cold)
  | none => false

theorem coldAt_of_findReg {a : Nat} {r : Reg} {i : Nat} (h : findReg a = some (r, i)) (hr : r.dom = .cold) : coldAt a = true := by
  unfold coldAt
  rw [h]
  exact decide_eq_true hr

theorem warmClears_of_findReg {a : Nat} {r : Reg} {i : Nat} (h : findReg a = some (r, i)) :
    warmClears a = (decide (r.dom ≠ Dom.cold) && !heldBlock a) := by
  unfold warmClears
  rw [h]

theorem warmClears_of_coldAt {a : Nat} (h : coldAt a = true) : warmClears a = false := by
  unfold coldAt at h
  unfold warmClears
  cases hf : findReg a with
  | none => rfl
  | some q =>
    rw [hf] at h
    simp [of_decide_eq_true h]

/-- From `s₀` to `s` the registers of the cold domain are the same, and so are the clock, the faults, the phases and the resets. -/
structure State.ColdKept (s₀ s : State) : Prop where
  get : ∀ a, coldAt a = true → ∀ d, Tab.get d s.regs a = Tab.get d s₀.regs a
  time : s.time = s₀.time
  flt : s.flt = s₀.flt
  ph : s.ph = s₀.ph
  rst : s.rst = s₀.rst

section
variable {s₀ s : State} (h : s₀.ColdKept s)
include h

theorem State.ColdKept.rd {r : Reg} {j : Nat} (hr : coldAt (r.at j) = true) : s.rd r j = s₀.rd r j := h.get _ hr _

theorem State.ColdKept.now : s.now = s₀.now := by
  have hs : s.started = s₀.started := by
    unfold State.started State.on State.f
    rw [h.rd (by decide)]
  unfold State.now
  rw [hs, h.time]

theorem State.ColdKept.wr {r : Reg} {i : Nat} {w : Word} (hr : coldAt (r.at i) = false) : s₀.ColdKept (s.wr r i w) :=
  ⟨fun a ha d => (Tab.get_set_other _ _ _ _ (by rintro rfl; rw [hr] at ha; cases ha)).trans (h.get a ha d), h.time, h.flt, h.ph, h.rst⟩

theorem State.ColdKept.setf {x : Fld} {i v : Nat} (hr : coldAt (x.reg.at i) = false) : s₀.ColdKept (s.setf x i v) := h.wr hr

theorem State.ColdKept.clr {r : Reg} {i : Nat} (hr : coldAt (r.at i) = false) : s₀.ColdKept (s.clr r i) := h.wr hr

theorem State.ColdKept.upd {pending shadow free served rsp seams islands eye trc sec tele crd welt rails loop lasts thm pwr lace trd} :
    s₀.ColdKept (State.mk pending s.regs shadow free served rsp s.time seams islands eye s.flt trc sec s.rst tele crd welt s.ph
      rails loop lasts thm pwr lace trd) := ⟨h.get, h.time, h.flt, h.ph, h.rst⟩

/-- A filter of the table that keeps the cold registers. -/
theorem State.ColdKept.filter {p : Nat × Word → Bool} {q : Nat → Bool} (hp : ∀ e, p e = q e.1)
    (hq : ∀ a, coldAt a = true → q a = true) : s₀.ColdKept { s with regs := s.regs.filter p } :=
  ⟨fun a ha d => by rw [← h.get a ha d]; exact (Tab.get_filter d s.regs p q hp a).trans (if_pos (hq a ha)), h.time, h.flt, h.ph, h.rst⟩

theorem State.ColdKept.foldl {β : Type} {f : State → β → State} {l : List β}
    (hf : ∀ s x, x ∈ l → s₀.ColdKept s → s₀.ColdKept (f s x)) : s₀.ColdKept (l.foldl f s) :=
  List.foldlRecOn l f h fun _ hs x hx => hf _ x hx hs

theorem State.ColdKept.freeTiles {typ : Nat} {ok : Nat → Bool} : s₀.ColdKept (s.freeTiles typ ok) := by
  refine h.foldl fun s t _ hs => ?_
  split
  · exact hs.upd
  · exact hs

theorem State.ColdKept.showRegions : s₀.ColdKept s.showRegions := by
  have hA : ∀ k < 8, coldAt (R.TRC_REGk_A.at k) = false := by decide
  have hB : ∀ k < 8, coldAt (R.TRC_REGk_B.at k) = false := by decide
  refine State.ColdKept.setf (h.foldl fun s k hk hs => ?_) (by decide)
  have hA := hA k (List.mem_range.1 hk)
  have hB := hB k (List.mem_range.1 hk)
  split
  · exact (hs.clr hA).clr hB
  · exact ((((hs.setf (x := F.TRC_REGk_A_VALID) hA).setf (x := F.TRC_REGk_A_ACTIVE) hA).setf (x := F.TRC_REGk_A_START) hA).setf
      (x := F.TRC_REGk_B_NUMBER) hB).setf (x := F.TRC_REGk_B_LEN) hB

theorem State.ColdKept.dropRegions : s₀.ColdKept s.dropRegions := by
  unfold State.dropRegions
  exact h.freeTiles.upd.showRegions

theorem State.ColdKept.clrIsland {lo hi : Nat} : s₀.ColdKept (s.clrIsland lo hi) := by
  refine h.filter (q := fun a => !(decide (lo ≤ a) && decide (a < hi) && (match findReg a with
    | some (r, _) => decide (r.dom ≠ .cold)
    | none => false))) (fun _ => rfl) fun a ha => ?_
  unfold coldAt at ha
  cases hf : findReg a with
  | none => simp
  | some q =>
    rw [hf] at ha
    simp [of_decide_eq_true ha]

theorem State.ColdKept.dropRelays : s₀.ColdKept s.dropRelays := by
  unfold State.dropRelays
  refine State.ColdKept.foldl h.upd fun s r _ hs => ?_
  exact hs.upd

theorem State.ColdKept.traceLost : s₀.ColdKept (s.islandLost 0x463) := by
  unfold State.islandLost
  exact h.clrIsland.clrIsland.upd

theorem State.ColdKept.teleZero {gone : Nat → Bool} : s₀.ColdKept (s.teleZero gone) := by
  refine h.foldl fun s k _ hs => ?_
  split
  · unfold State.telem
    exact hs.upd
  · exact hs

end

/-! ### The domains' states -/

theorem findReg_domStatus : ∀ d ∈ allDomains,
    (findReg (R.PWRd_STATUS.at d)).map (fun q => (q.1.off, q.1.dom)) = some (R.PWRd_STATUS.off, R.PWRd_STATUS.dom) := by
  decide +kernel

theorem coldAt_domStatus (d : Nat) (hd : d ∈ allDomains) : coldAt (R.PWRd_STATUS.at d) = false := by
  have hf := findReg_domStatus d hd
  unfold coldAt
  generalize findReg (R.PWRd_STATUS.at d) = q at hf ⊢
  cases q with
  | none => rfl
  | some q =>
    have hdom : q.1.dom = R.PWRd_STATUS.dom := (Prod.mk.inj (Option.some.inj hf)).2
    exact decide_eq_false (by rw [hdom]; decide)

/-- Another register than the domains' status has other words. -/
theorem at_ne_domStatus {r : Reg} {j d : Nat} (hr : findReg (r.at j) = some (r, j)) (hn : r.off ≠ R.PWRd_STATUS.off)
    (hd : d ∈ allDomains) : r.at j ≠ R.PWRd_STATUS.at d := by
  intro h
  have hf := findReg_domStatus d hd
  rw [← h, hr] at hf
  exact hn (Prod.mk.inj (Option.some.inj hf)).1

/-- A register of one instance has another word than any other register. -/
theorem at_ne_of_off {r q : Reg} {j : Nat} (hr : findReg (r.at j) = some (r, j)) (hq : findReg (q.at 0) = some (q, 0))
    (hn : r.off ≠ q.off) : r.at j ≠ q.at 0 := by
  intro h
  rw [h, hq] at hr
  exact hn (by cases hr; rfl)

theorem domStatus_at_inj {d e : Nat} (h : R.PWRd_STATUS.at d = R.PWRd_STATUS.at e) : d = e := by
  have h : 0x05804 + 8 * d = 0x05804 + 8 * e := h
  omega

theorem State.ColdKept.keepDomains {s₀ s : State} (h : s₀.ColdKept s) (old : State) : s₀.ColdKept (s.keepDomains old) :=
  h.foldl fun _ d hd hs => .setf (x := F.PWRd_STATUS_SAVE_GEN) (i := d)
    (.setf (x := F.PWRd_STATUS_STEP) (i := d) hs (coldAt_domStatus d hd)) (coldAt_domStatus d hd)

theorem State.get_wr_other (s : State) (r : Reg) (i : Nat) (v : Word) {a : Nat} (h : a ≠ r.at i) (w : Word) :
    Tab.get w (s.wr r i v).regs a = Tab.get w s.regs a := Tab.get_set_other _ _ _ _ h

theorem State.get_setf_other (s : State) (x : Fld) (i v : Nat) {a : Nat} (h : a ≠ x.reg.at i) (w : Word) :
    Tab.get w (s.setf x i v).regs a = Tab.get w s.regs a := s.get_wr_other _ _ _ h w

/-- The state and the save generation of one domain. -/
def State.keepDomain (s old : State) (d : Nat) : State :=
  (s.setf F.PWRd_STATUS_STEP d (old.domStep d)).setf F.PWRd_STATUS_SAVE_GEN d (old.f F.PWRd_STATUS_SAVE_GEN d)

theorem State.keepDomains_eq (s old : State) : s.keepDomains old = allDomains.foldl (fun t d => t.keepDomain old d) s := rfl

theorem State.get_keepDomain (s old : State) {d a : Nat} (h : a ≠ R.PWRd_STATUS.at d) (w : Word) :
    Tab.get w (s.keepDomain old d).regs a = Tab.get w s.regs a :=
  (State.get_setf_other _ _ _ _ h w).trans (State.get_setf_other _ _ _ _ h w)

theorem State.domStep_keepDomain_same (s old : State) (d : Nat) : (s.keepDomain old d).domStep d = old.domStep d := by
  unfold State.keepDomain State.domStep
  rw [State.f_setf_field (x := F.PWRd_STATUS_SAVE_GEN) (y := F.PWRd_STATUS_STEP) _ _ _ (by decide) rfl (by decide),
    State.f_setf_same _ _ _ _ (by decide)]
  exact Nat.mod_eq_of_lt (getBits_lt ..)

theorem State.domStep_keepDomain_other (s old : State) {d e : Nat} (h : d ≠ e) : (s.keepDomain old e).domStep d = s.domStep d :=
  have hne : R.PWRd_STATUS.at d ≠ R.PWRd_STATUS.at e := fun he => h (domStatus_at_inj he)
  (State.f_setf_reg _ _ hne).trans (State.f_setf_reg _ _ hne)

/-- Only the domains' words change. -/
theorem State.get_keepDomains (s old : State) {a : Nat} (ha : ∀ d ∈ allDomains, a ≠ R.PWRd_STATUS.at d) (w : Word) :
    Tab.get w (s.keepDomains old).regs a = Tab.get w s.regs a := by
  rw [State.keepDomains_eq]
  refine List.foldlRecOn (motive := fun t : State => Tab.get w t.regs a = Tab.get w s.regs a) allDomains _ rfl fun t ht d hd => ?_
  exact (t.get_keepDomain old (ha d hd) w).trans ht

/-- A domain's state that was kept: the steps for the other domains leave it. -/
theorem State.domStep_keep (old : State) (d : Nat) (l : List Nat) (s : State) (h : d ∈ l ∨ s.domStep d = old.domStep d) :
    (l.foldl (fun t e => t.keepDomain old e) s).domStep d = old.domStep d := by
  induction l generalizing s with
  | nil => exact h.resolve_left List.not_mem_nil
  | cons e l ih =>
    refine ih _ ?_
    by_cases he : d = e
    · exact .inr (he ▸ s.domStep_keepDomain_same old e)
    · exact h.imp (fun h => (List.mem_cons.1 h).resolve_left he) (s.domStep_keepDomain_other old he).trans

theorem State.domStep_keepDomains (s old : State) {d : Nat} (hd : d ∈ allDomains) :
    (s.keepDomains old).domStep d = old.domStep d := State.domStep_keep old d allDomains s (.inl hd)

theorem State.teleZero_regs (s : State) (gone : Nat → Bool) : (s.teleZero gone).regs = s.regs := by
  refine List.foldlRecOn (motive := fun t => State.regs t = s.regs) _ _ rfl fun t ht k _ => ?_
  split
  · exact ht
  · exact ht

/-! ### The warm reset -/

/-- What a warm reset of a cause leaves of `s`. -/
structure State.WarmReset (s : State) (cause : Nat) (t : State) : Prop where
  warm : t.rst.warm = true
  cause_eq : t.rst.warmCause = cause
  at_eq : t.rst.warmAt = s.now
  last : t.f F.GOV_RESET_LAST_CAUSE = cause
  count : t.f F.GOV_RESET_COUNT = (s.f F.GOV_RESET_COUNT + 1) % 2 ^ F.GOV_RESET_COUNT.len
  mram : t.flt.mram = s.flt.mram
  ph : t.ph = s.ph
  cleared : ∀ (r : Reg) (j : Nat), findReg (r.at j) = some (r, j) → r.dom ≠ .cold → heldBlock (r.at j) = false →
    r.off ≠ R.PWRd_STATUS.off → t.rd r j = r.rst j
  kept : ∀ (r : Reg) (j : Nat), findReg (r.at j) = some (r, j) → r.dom = .cold → r.off ≠ R.EYE_FW.off → r.off ≠ R.GOV_RESET.off →
    t.rd r j = s.rd r j
  steps : ∀ d ∈ allDomains, t.domStep d = s.domStep d

/-- The registers after the reset of the warm domains: cold ones kept, warm ones cleared, each domain in its state. -/
structure State.WarmCleared (s u : State) : Prop where
  cold : s.ColdKept u
  get : ∀ a, (∀ d ∈ allDomains, a ≠ R.PWRd_STATUS.at d) → warmClears a = true → ∀ w, Tab.get w u.regs a = w
  steps : ∀ d ∈ allDomains, u.domStep d = s.domStep d

theorem State.ColdKept.warmCleared {s u : State} (h : s.ColdKept u) {shadow : Tab Word} {gone : Nat → Bool} :
    s.WarmCleared (({ u with regs := u.regs.filter fun e => !warmClears e.1, shadow := shadow } : State).keepDomains s |>.teleZero gone) := by
  have hf : s.ColdKept { u with regs := u.regs.filter fun e => !warmClears e.1 } :=
    h.filter (q := fun a => !warmClears a) (fun _ => rfl) fun a ha => by rw [warmClears_of_coldAt ha]; rfl
  have hf : s.ColdKept { u with regs := u.regs.filter fun e => !warmClears e.1, shadow := shadow } :=
    ⟨hf.get, hf.time, hf.flt, hf.ph, hf.rst⟩
  refine ⟨(hf.keepDomains s).teleZero, fun a ha hw w => ?_, fun d hd => ?_⟩
  · rw [State.teleZero_regs, State.get_keepDomains _ _ ha]
    exact (Tab.get_filter w u.regs _ (fun a => !warmClears a) (fun _ => rfl) a).trans (if_neg (by simp [hw]))
  · exact (State.f_of_regs (State.teleZero_regs ..) _ _).trans (State.domStep_keepDomains _ s hd)

/-- The state under a name, so that a check by evaluation stops at it. -/
theorem State.WarmCleared.generalized {s u : State} (h : s.WarmCleared u) : ∃ v, s.WarmCleared v ∧ v = u := ⟨u, h, rfl⟩

/-- The reset's own entries in EYE_FW and GOV_RESET. -/
def State.resetNoted (v : State) (cause : Nat) : State :=
  let s := v.setf F.EYE_FW_STANDBY_READY 0 0
  let s := (s.setf F.GOV_RESET_LAST_CAUSE 0 cause).incf F.GOV_RESET_COUNT 0
  if cause = 2 then s.setf F.GOV_RESET_STATUS 0 2 else s

section
variable (v : State) (cause : Nat)

theorem State.get_resetNoted {a : Nat} (he : a ≠ R.EYE_FW.at 0) (hr : a ≠ R.GOV_RESET.at 0) (x : Word) :
    Tab.get x (v.resetNoted cause).regs a = Tab.get x v.regs a := by
  have hw (n : Nat) := (State.get_setf_other _ F.GOV_RESET_COUNT 0 n hr x).trans
    ((State.get_setf_other _ F.GOV_RESET_LAST_CAUSE 0 cause hr x).trans (v.get_setf_other F.EYE_FW_STANDBY_READY 0 0 he x))
  unfold State.resetNoted
  dsimp only
  split
  · exact (State.get_setf_other _ _ _ _ hr x).trans (hw _)
  · exact hw _

theorem State.resetNoted_records : (v.resetNoted cause).rst = v.rst ∧ (v.resetNoted cause).flt = v.flt ∧
    (v.resetNoted cause).ph = v.ph := by
  unfold State.resetNoted
  dsimp only
  split
  · exact ⟨rfl, rfl, rfl⟩
  · exact ⟨rfl, rfl, rfl⟩

theorem State.resetNoted_last (h : cause < 16) : (v.resetNoted cause).f F.GOV_RESET_LAST_CAUSE = cause := by
  have hw (u : State) : ((u.setf F.GOV_RESET_LAST_CAUSE 0 cause).incf F.GOV_RESET_COUNT 0).f F.GOV_RESET_LAST_CAUSE = cause :=
    (State.f_incf_apart _ (by decide)).trans ((State.f_setf_same _ _ _ _ (by decide)).trans (Nat.mod_eq_of_lt h))
  unfold State.resetNoted
  dsimp only
  split
  · exact (State.f_setf_apart _ _ (by decide)).trans (hw _)
  · exact hw _

theorem State.resetNoted_count :
    (v.resetNoted cause).f F.GOV_RESET_COUNT = (v.f F.GOV_RESET_COUNT + 1) % 2 ^ F.GOV_RESET_COUNT.len := by
  have hw : (((v.setf F.EYE_FW_STANDBY_READY 0 0).setf F.GOV_RESET_LAST_CAUSE 0 cause).incf F.GOV_RESET_COUNT 0).f
      F.GOV_RESET_COUNT = (v.f F.GOV_RESET_COUNT + 1) % 2 ^ F.GOV_RESET_COUNT.len := by
    refine (State.f_setf_same _ _ _ _ (by decide)).trans ?_
    rw [State.f_setf_apart _ _ (by decide), State.f_setf_apart _ _ (by decide)]
  unfold State.resetNoted
  dsimp only
  split
  · exact (State.f_setf_apart _ _ (by decide)).trans hw
  · exact hw

end

theorem State.WarmCleared.noted {s u v : State} (h : s.WarmCleared u) {cause : Nat} (hcause : cause < 16)
    (hregs : v.regs = u.regs) (hflt : v.flt = u.flt) (hph : v.ph = u.ph)
    (hrst : v.rst.warm = true ∧ v.rst.warmCause = cause ∧ v.rst.warmAt = u.now) :
    s.WarmReset cause (v.resetNoted cause) := by
  obtain ⟨hwarm, hcz, hat⟩ := hrst
  obtain ⟨hrst, hflt', hph'⟩ := v.resetNoted_records cause
  have hget (a : Nat) (he : a ≠ R.EYE_FW.at 0) (hr : a ≠ R.GOV_RESET.at 0) (x : Word) :
      Tab.get x (v.resetNoted cause).regs a = Tab.get x u.regs a := by rw [v.get_resetNoted cause he hr x, hregs]
  have hcount : v.f F.GOV_RESET_COUNT = s.f F.GOV_RESET_COUNT := by
    unfold State.f
    rw [State.rd_of_regs hregs, h.cold.rd (by decide)]
  have heye : findReg (R.EYE_FW.at 0) = some (R.EYE_FW, 0) := rfl
  have hgov : findReg (R.GOV_RESET.at 0) = some (R.GOV_RESET, 0) := rfl
  refine ⟨by rw [hrst, hwarm], by rw [hrst, hcz], by rw [hrst, hat, h.cold.now], v.resetNoted_last cause hcause,
    by rw [v.resetNoted_count, hcount], by rw [hflt', hflt, h.cold.flt], by rw [hph', hph, h.cold.ph], ?_, ?_, ?_⟩
  · intro r j hr hd hh hn
    have hne (q : Reg) (hq : findReg (q.at 0) = some (q, 0)) (hc : q.dom = .cold) : r.at j ≠ q.at 0 := by
      intro he
      rw [he, hq] at hr
      cases hr
      exact hd hc
    have hw : warmClears (r.at j) = true := by
      rw [warmClears_of_findReg hr, hh]
      simp [hd]
    exact (hget _ (hne _ heye rfl) (hne _ hgov rfl) _).trans (h.get _ (fun d hd => at_ne_domStatus hr hn hd) hw _)
  · intro r j hr hd hne hng
    exact (hget _ (at_ne_of_off hr heye hne) (at_ne_of_off hr hgov hng) _).trans (h.cold.rd (coldAt_of_findReg hr hd))
  · intro d hd
    have he := at_ne_domStatus heye (by decide) hd
    have hg := at_ne_domStatus hgov (by decide) hd
    exact (congrArg (fun w => getBits w _ _) (hget _ he.symm hg.symm _)).trans (h.steps d hd)

theorem State.warmReset_spec (s : State) {cause : Nat} (hcause : cause < 16) : s.WarmReset cause (s.warmReset cause) := by
  unfold State.warmReset
  extract_lets +onlyGivenNames _ u1 _ u3
  have h1 : s.ColdKept u1 := State.ColdKept.dropRelays (.traceLost (.dropRegions ⟨fun _ _ _ => rfl, rfl, rfl, rfl, rfl⟩))
  have h3 : s.WarmCleared u3 := h1.warmCleared
  clear_value u3
  obtain ⟨u3, h3, rfl⟩ := h3.generalized
  extract_lets +onlyGivenNames _ _ _ _ _ u4 _ u5
  exact h3.noted (v := u5) hcause rfl rfl rfl ⟨rfl, rfl, rfl⟩

/-! ### When a cause takes effect -/

theorem State.warmArises_held (s : State) (cause : Nat) (hc : s.rst.cold = false) (hs : s.sag = true) :
    (s.warmArises cause).rst.warmPending = some (s.rst.warmPending.getD cause) ∧ (s.warmArises cause).rst.warm = s.rst.warm ∧
    (s.warmArises cause).ph = s.ph ∧ ∀ x, Fld.Apart F.GOV_RESET_STATUS 0 x 0 → (s.warmArises cause).on x = s.on x := by
  unfold State.warmArises
  rw [if_neg (by simp [hc]), if_pos hs]
  dsimp only
  split
  · exact ⟨rfl, rfl, rfl, fun x hx => (State.on_of_regs (s := s.setf F.GOV_RESET_STATUS 0 1) rfl x 0).trans
      (State.on_setf_apart _ _ hx)⟩
  · exact ⟨rfl, rfl, rfl, fun _ _ => rfl⟩

theorem State.warmArises_extends (s : State) (cause : Nat) (hc : s.rst.cold = false) (hs : s.sag = false) (hw : s.rst.warm = true) :
    (s.warmArises cause).rst.warm = true ∧ (s.warmArises cause).rst.warmAt = s.now ∧ (s.warmArises cause).ph = s.ph ∧
    ∀ x, Fld.Apart F.GOV_RESET_STATUS 0 x 0 → (s.warmArises cause).on x = s.on x := by
  have hnow : (s.setf F.GOV_RESET_STATUS 0 2).now = s.now := by
    unfold State.now State.started
    rw [State.on_setf_apart _ _ (by decide)]
    rfl
  unfold State.warmArises
  rw [if_neg (by simp [hc]), if_neg (by simp [hs]), if_pos hw]
  dsimp only
  split
  · exact ⟨hw, hnow, rfl, fun x hx => (State.on_of_regs (s := s.setf F.GOV_RESET_STATUS 0 2) rfl x 0).trans
      (State.on_setf_apart _ _ hx)⟩
  · exact ⟨hw, rfl, rfl, fun _ _ => rfl⟩

theorem State.warmArises_begins (s : State) {cause : Nat} (hc : s.rst.cold = false) (hs : s.sag = false) (hw : s.rst.warm = false)
    (h : cause < 16) : s.WarmReset cause (s.warmArises cause) := by
  unfold State.warmArises
  rw [if_neg (by simp [hc]), if_neg (by simp [hs]), if_neg (by simp [hw])]
  exact s.warmReset_spec h

/-- The write of 1 in WARM, before its cause arises. -/
def State.warmAsked (s : State) : State := s.setb F.GOV_RESET_WARM 0 true

theorem govResetWrite_arises {s : State} {w : Word} (hp : s.portTakes R.GOV_RESET 0 = true) (hw : w.getLsbD 0 = true) :
    exec (.govResetWrite true w) s = .next ((s.warmAsked.warmArises 2).respond false) := by
  have hq : writeGovReset w s = (s.warmAsked.warmArises 2, false) := by
    unfold writeGovReset State.warmAsked
    rw [hw]
    rfl
  refine congrArg Host.Outcome.next ((State.cfgWrite_takes _ hp).trans ?_)
  rw [hq]

/-- Asking is a write of one field of GOV_RESET. -/
theorem State.warmReset_of_asked {s t : State} {cause : Nat} (h : s.warmAsked.WarmReset cause t) : s.WarmReset cause t := by
  have hrd (r : Reg) (j : Nat) (hr : r.at j ≠ R.GOV_RESET.at 0) : s.warmAsked.rd r j = s.rd r j := State.rd_wr_other _ _ hr
  have hnow : s.warmAsked.now = s.now := by
    unfold State.now State.started State.on State.f
    rw [hrd _ _ (by decide)]
    rfl
  have hgov : findReg (R.GOV_RESET.at 0) = some (R.GOV_RESET, 0) := rfl
  refine ⟨h.warm, h.cause_eq, h.at_eq.trans hnow, h.last, ?_, h.mram, h.ph, h.cleared, ?_, ?_⟩
  · rw [h.count, show s.warmAsked.f F.GOV_RESET_COUNT = s.f F.GOV_RESET_COUNT from State.f_setb_apart _ _ (by decide)]
  · intro r j hr hd hne hng
    exact (h.kept r j hr hd hne hng).trans (hrd _ _ (at_ne_of_off hr hgov hng))
  · intro d hd
    refine (h.steps d hd).trans (congrArg (fun w => getBits w _ _) (hrd _ _ ?_))
    exact (at_ne_domStatus hgov (by decide) hd).symm

/-- A state and its response. -/
theorem State.WarmReset.respond {s t : State} {cause : Nat} (h : s.WarmReset cause t) (e : Bool) : s.WarmReset cause (t.respond e) :=
  ⟨h.warm, h.cause_eq, h.at_eq, h.last, h.count, h.mram, h.ph, h.cleared, h.kept, h.steps⟩

/-- The two requests that firmware and board can make: GOV_RST_N, and WARM. -/
theorem warmRequest_arises {s : State} {i : Instr} {cause : Nat} (h : (i = .warmReset ∧ cause = 1) ∨
    (s.portTakes R.GOV_RESET 0 = true ∧ ∃ w : Word, w.getLsbD 0 = true ∧ i = .govResetWrite true w ∧ cause = 2)) :
    cause < 16 ∧ (exec i s = .next (s.warmArises cause) ∨ exec i s = .next ((s.warmAsked.warmArises cause).respond false)) := by
  obtain ⟨rfl, rfl⟩ | ⟨hp, w, hw, rfl, rfl⟩ := h
  · exact ⟨by decide, .inl rfl⟩
  · exact ⟨by decide, .inr (govResetWrite_arises hp hw)⟩

theorem warmRequest_waits_extends_or_resets (s : State) (i : Instr) (cause : Nat) (hi : (i = .warmReset ∧ cause = 1) ∨
    (s.portTakes R.GOV_RESET 0 = true ∧ ∃ w : Word, w.getLsbD 0 = true ∧ i = .govResetWrite true w ∧ cause = 2))
    (hc : s.rst.cold = false) :
    (s.sag = true → Completes i s fun t => t.rst.warmPending = some (s.rst.warmPending.getD cause) ∧ t.rst.warm = s.rst.warm) ∧
    (s.sag = false → s.rst.warm = true → Completes i s fun t => t.rst.warm = true ∧ t.rst.warmAt = s.now) ∧
    (s.sag = false → s.rst.warm = false → Completes i s (s.WarmReset cause)) := by
  obtain ⟨hlt, hnext | hnext⟩ := warmRequest_arises hi
  · refine ⟨fun hs => ?_, fun hs hw => ?_, fun hs hw => ⟨_, hnext, s.warmArises_begins hc hs hw hlt⟩⟩
    · obtain ⟨hp, hw, -, -⟩ := s.warmArises_held cause hc hs
      exact ⟨_, hnext, hp, hw⟩
    · obtain ⟨hw, hat, -, -⟩ := s.warmArises_extends cause hc hs hw
      exact ⟨_, hnext, hw, hat⟩
  · have hsag : s.warmAsked.sag = s.sag := State.on_setb_apart _ _ (by decide)
    have hnow : s.warmAsked.now = s.now := by
      unfold State.now State.started
      rw [show s.warmAsked.on F.TIME_STATUS_STARTED = s.on F.TIME_STATUS_STARTED from State.on_setb_apart _ _ (by decide)]
      rfl
    refine ⟨fun hs => ?_, fun hs hw => ?_, fun hs hw => ?_⟩
    · obtain ⟨hp, hw, -, -⟩ := s.warmAsked.warmArises_held cause hc (hsag.trans hs)
      exact ⟨_, hnext, hp, hw⟩
    · obtain ⟨hw, hat, -, -⟩ := s.warmAsked.warmArises_extends cause hc (hsag.trans hs) hw
      exact ⟨_, hnext, hw, hat.trans hnow⟩
    · exact ⟨_, hnext, (State.warmReset_of_asked (s.warmAsked.warmArises_begins hc (hsag.trans hs) hw hlt)).respond false⟩

/-! ### The base-die supplies -/

theorem State.forcePhases_off (s : State) : ∀ e ∈ s.forcePhases.ph.ph, e.2.en = false ∧ e.2.pwm = false := by
  intro e he
  obtain ⟨x, -, rfl⟩ := List.mem_map.1 he
  cases hx : x.2.en
  · simpa using hx
  · simp

theorem govSupplyLoss_forces_phases (s : State) (hc : s.rst.cold = false) (hv : s.vgov = true) :
    Completes .govSupplyLoss s fun t => t.vgov = false ∧
    (∀ e ∈ t.ph.ph, e.2.en = false ∧ e.2.pwm = false) ∧ (s.sag = true → t.rst.warmPending = some (s.rst.warmPending.getD 4)) ∧
    (s.sag = false → t.rst.warm = true) := by
  have hg : (!s.rst.cold && s.vgov) = true := by simp [hc, hv]
  obtain ⟨u, hu⟩ : ∃ u, u = s.forcePhases.setf F.GOV_BOOT_VGOV_OK 0 0 := ⟨_, rfl⟩
  have hnext : exec .govSupplyLoss s = .next (u.warmArises 4) := by
    rw [hu]
    exact congrArg Host.Outcome.next (if_pos hg)
  have hrst : u.rst = s.rst := by rw [hu]; rfl
  have hph : ∀ e ∈ u.ph.ph, e.2.en = false ∧ e.2.pwm = false := by rw [hu]; exact s.forcePhases_off
  have hvg : u.vgov = false := by rw [hu]; exact State.on_setf_same _ _ _ _ (by decide)
  have hsag : u.sag = s.sag := by rw [hu]; exact State.on_setf_apart _ _ (by decide)
  have hcu : u.rst.cold = false := by rw [hrst, hc]
  clear hu
  refine ⟨_, hnext, ?_⟩
  cases hs : s.sag with
  | true =>
    obtain ⟨hp, -, hph', hon⟩ := u.warmArises_held 4 hcu (hsag.trans hs)
    exact ⟨(hon _ (by decide)).trans hvg, by rw [hph']; exact hph, fun _ => by rw [hp, hrst], nofun⟩
  | false =>
    cases hw : s.rst.warm with
    | true =>
      obtain ⟨hw', -, hph', hon⟩ := u.warmArises_extends 4 hcu (hsag.trans hs) (by rw [hrst, hw])
      exact ⟨(hon _ (by decide)).trans hvg, by rw [hph']; exact hph, nofun, fun _ => hw'⟩
    | false =>
      have h := u.warmArises_begins (cause := 4) hcu (hsag.trans hs) (by rw [hrst, hw]) (by decide)
      refine ⟨?_, by rw [h.ph]; exact hph, nofun, fun _ => h.warm⟩
      exact (congrArg (fun w => getBits w _ _ == 1) (h.kept R.GOV_BOOT 0 rfl rfl (by decide) (by decide))).trans hvg

end Sys2Proof.Machine
end

section
/-! SUPPORT. The die reset and its end. -/
namespace Sys2Proof.Machine
open Sys2Proof

/-! ### The die reset -/

/-- From `s` to `t` the registers, the resets and the records of Tread are the same. -/
def State.SameRegs (s t : State) : Prop := t.regs = s.regs ∧ t.rst = s.rst ∧ t.trd = s.trd

theorem State.sameRegs_applyCaps {s t : State} (h : s.SameRegs t) (c : Nat) : s.SameRegs (t.applyCaps c) := by
  unfold State.applyCaps
  refine List.foldlRecOn _ _ h fun t ht n _ => ?_
  dsimp only
  split
  · exact ht
  · exact ht

theorem State.sameRegs_applyAllCaps (s : State) : s.SameRegs s.applyAllCaps :=
  List.foldlRecOn (motive := s.SameRegs) allClusters _ ⟨rfl, rfl, rfl⟩ fun _ ht c _ => State.sameRegs_applyCaps ht c

theorem State.sameRegs_markLost (s : State) : s.SameRegs s.markLost := ⟨rfl, rfl, rfl⟩

/-- The clamp line is rebuilt: one register. -/
theorem State.rebuildClamp_keeps (s : State) (reqs : Tab Bool) : (s.rebuildClamp reqs).rst = s.rst ∧
    (s.rebuildClamp reqs).trd = s.trd ∧
    ∀ a w, a ≠ R.CRD_CLAMP_STATUS.at 0 → Tab.get w (s.rebuildClamp reqs).regs a = Tab.get w s.regs a := by
  unfold State.rebuildClamp
  extract_lets keep bits _ u
  split
  · exact ⟨rfl, rfl, fun _ _ _ => rfl⟩
  · refine ⟨rfl, rfl, fun a w ha => ?_⟩
    rw [State.get_setf_other _ F.CRD_CLAMP_STATUS_ACTIVE _ _ ha w, State.get_setf_other u ⟨R.CRD_CLAMP_STATUS, 0, 6⟩ 0 bits ha w]

/-- The clamp line rebuilt, the caps and the loss marks: one register and no record of Tread. -/
theorem State.dieTail_keeps (s : State) (reqs : Tab Bool) : (((s.rebuildClamp reqs).applyAllCaps).markLost).rst = s.rst ∧
    (((s.rebuildClamp reqs).applyAllCaps).markLost).trd = s.trd ∧ ∀ a w, a ≠ R.CRD_CLAMP_STATUS.at 0 →
      Tab.get w (((s.rebuildClamp reqs).applyAllCaps).markLost).regs a = Tab.get w s.regs a := by
  obtain ⟨hregs, hrst, htrd⟩ := (s.rebuildClamp reqs).sameRegs_applyAllCaps
  obtain ⟨hrst', htrd', hget⟩ := s.rebuildClamp_keeps reqs
  obtain ⟨hregs2, hrst2, htrd2⟩ := (s.rebuildClamp reqs).applyAllCaps.sameRegs_markLost
  refine ⟨by rw [hrst2, hrst, hrst'], by rw [htrd2, htrd, htrd'], fun a w ha => by rw [hregs2, hregs, hget a w ha]⟩

/-- The register at an offset is not one of the compute die. -/
def offDie (a : Nat) : Bool :=
  match findReg a with
  | some (r, _) => decide (r.dom ≠ Dom.die)
  | none => true

theorem offDie_of_findReg {a : Nat} {r : Reg} {i : Nat} (h : findReg a = some (r, i)) : offDie a = decide (r.dom ≠ Dom.die) := by
  unfold offDie
  rw [h]

theorem State.teleZero_trd (s : State) (gone : Nat → Bool) : (s.teleZero gone).trd = s.trd := by
  refine List.foldlRecOn (motive := fun t => State.trd t = s.trd) _ _ rfl fun t ht k _ => ?_
  split
  · exact ht
  · exact ht

theorem State.dieReset_spec (s : State) : s.dieReset.rst.die = true ∧
    (∀ (r : Reg) (j : Nat), findReg (r.at j) = some (r, j) → r.dom = .die → r.off ≠ R.CRD_CLAMP_STATUS.off →
      s.dieReset.rd r j = r.rst j) ∧
    (∀ (r : Reg) (j : Nat), findReg (r.at j) = some (r, j) → r.dom ≠ .die → s.dieReset.rd r j = s.rd r j) ∧
    (9 ≤ s.f F.GOV_BOOT_STAGE → s.dieReset.trd.guards = s.guardBytes) := by
  have hclamp : findReg (R.CRD_CLAMP_STATUS.at 0) = some (R.CRD_CLAMP_STATUS, 0) := rfl
  unfold State.dieReset
  extract_lets reqs _ u1 u2 u3 _ _ _ u4
  have hregs1 : u1.regs = s.regs := by
    unfold u1
    split
    · rfl
    · rfl
  have hguards1 : 9 ≤ s.f F.GOV_BOOT_STAGE → u1.trd.guards = s.guardBytes := fun h => by
    unfold u1
    rw [if_pos h]
  have hget2 (a : Nat) (w : Word) : Tab.get w u2.regs a = if offDie a then Tab.get w s.regs a else w :=
    (Tab.get_filter w u1.regs _ offDie (fun _ => rfl) a).trans (by rw [hregs1])
  have hregs3 : u3.regs = u2.regs := State.teleZero_regs ..
  have htrd3 : u3.trd = u1.trd := State.teleZero_trd ..
  obtain ⟨hrst, htrd, hget⟩ := u4.dieTail_keeps reqs
  refine ⟨by rw [hrst], fun r j hr hd hn => ?_, fun r j hr hd => ?_, fun h => ?_⟩
  · refine (hget _ _ (at_ne_of_off hr hclamp hn)).trans ((congrArg (fun l => Tab.get _ l _) hregs3).trans ((hget2 _ _).trans (if_neg ?_)))
    rw [offDie_of_findReg hr]
    simp [hd]
  · have hne : r.at j ≠ R.CRD_CLAMP_STATUS.at 0 := by
      intro he
      rw [he, hclamp] at hr
      cases hr
      exact hd rfl
    refine (hget _ _ hne).trans ((congrArg (fun l => Tab.get _ l _) hregs3).trans ((hget2 _ _).trans (if_pos ?_)))
    rw [offDie_of_findReg hr]
    simp [hd]
  · rw [htrd]
    exact (congrArg TrdSt.guards htrd3).trans (hguards1 h)

theorem dieReset_resets_die (s : State) (hc : s.rst.cold = false) (hw : s.rst.warm = false) (hd : s.rst.die = false) :
    Completes .dieReset s fun t => t.rst.die = true ∧
    (∀ (r : Reg) (j : Nat), findReg (r.at j) = some (r, j) → r.dom = .die → r.off ≠ R.CRD_CLAMP_STATUS.off →
      t.rd r j = r.rst j) ∧
    (∀ (r : Reg) (j : Nat), findReg (r.at j) = some (r, j) → r.dom ≠ .die → t.rd r j = s.rd r j) ∧
    (9 ≤ s.f F.GOV_BOOT_STAGE → t.trd.guards = s.guardBytes) :=
  Completes.of_next (u := s.dieReset) rfl (if_neg (by simp [hc, hw, hd])) s.dieReset_spec

/-! ### The end of the die reset -/

theorem State.stormsFrom_keeps (s : State) (e : Nat) : (s.stormsFrom e).regs = s.regs ∧ (s.stormsFrom e).rst = s.rst ∧
    (s.stormsFrom e).eye = s.eye ∧ (s.stormsFrom e).trd = s.trd :=
  List.foldlRecOn (motive := fun t => State.regs t = s.regs ∧ State.rst t = s.rst ∧ State.eye t = s.eye ∧ State.trd t = s.trd)
    allClusters _ ⟨rfl, rfl, rfl, rfl⟩ fun _ ht _ _ => ht

/-- The parts run again: FROZEN follows safe state, and the storm accounts start. -/
def State.dieRuns (s : State) : State :=
  let s := { s with rst := { s.rst with die := false } }
  (s.setb F.CRD_CTRL_FROZEN 0 s.safe).stormsFrom s.epoch

theorem State.dieRuns_spec (s : State) : s.dieRuns.fwHoldsPlan = s.fwHoldsPlan ∧ s.dieRuns.rst.die = false ∧
    s.dieRuns.on F.CRD_CTRL_FROZEN = s.safe ∧ s.dieRuns.trd = s.trd ∧ ∀ c, s.dieRuns.rd R.WELTc_GUARD c = s.rd R.WELTc_GUARD c := by
  unfold State.dieRuns
  extract_lets _ u
  obtain ⟨hregs, hrst, heye, htrd⟩ := (u.setb F.CRD_CTRL_FROZEN 0 u.safe).stormsFrom_keeps u.epoch
  refine ⟨?_, by rw [hrst]; rfl, ?_, htrd, fun c => ?_⟩
  · unfold State.fwHoldsPlan State.vgov State.stage
    rw [State.on_of_regs hregs, State.f_of_regs hregs, heye, State.on_setb_apart _ _ (by decide), State.f_setb_apart _ _ (by decide)]
    rfl
  · rw [State.on_of_regs hregs, State.on_setb_same _ _ _ _ (by decide)]
    rfl
  · rw [State.rd_of_regs hregs]
    have hne : R.WELTc_GUARD.at c ≠ R.CRD_CTRL.at 0 := by
      have h1 : R.WELTc_GUARD.at c = 0x0C104 + 0x20 * c := rfl
      have h2 : R.CRD_CTRL.at 0 = 0x10000 := rfl
      omega
    exact State.rd_wr_other u _ hne

theorem dieResetEnd_restores (s : State) (hd : s.rst.die = true) (hw : s.rst.warm = false) (hc : s.rst.cold = false) :
    (s.fwHoldsPlan = true → Completes .dieResetEnd s fun t => t.on F.GOV_LOCK_DIE_VOLT = true ∧ t.trd.guards = []) ∧
    (s.fwHoldsPlan = false → Completes .dieResetEnd s fun t => t.rst.die = false ∧
      t.on F.CRD_CTRL_FROZEN = s.safe ∧ t.trd = s.trd ∧
      ∀ c, c < Config.clusterCount → t.rd R.WELTc_GUARD c = s.rd R.WELTc_GUARD c) := by
  have hg : (s.rst.die && !s.rst.warm && !s.rst.cold) = true := by simp [hd, hw, hc]
  obtain ⟨hplan, hdie, hfrozen, htrd, hguard⟩ := s.dieRuns_spec
  have hnext : exec .dieResetEnd s = .next (if s.dieRuns.fwHoldsPlan then s.dieRuns.restoreDie.setf F.GOV_LOCK_DIE_VOLT 0 1
      else s.dieRuns) := congrArg Host.Outcome.next (if_pos hg)
  rw [hplan] at hnext
  refine ⟨fun h => ?_, fun h => ?_⟩
  · exact Completes.of_next hnext (if_pos h) ⟨State.on_setf_same _ _ _ _ (by decide), rfl⟩
  · exact Completes.of_next hnext (if_neg (by simp [h])) ⟨hdie, hfrozen, htrd, fun c _ => hguard c⟩

end Sys2Proof.Machine
end

section
/-! SUPPORT. The end of a warm reset: each domain found between states goes to OFF. -/
namespace Sys2Proof.Machine
open Sys2Proof

section
variable {s₀ s : State} (h : s₀.Above 0x8000 s)
include h

theorem State.Above.applyJobClear {m : Nat} : s₀.Above 0x8000 (s.applyJobClear m) := by
  unfold State.applyJobClear
  exact .ite h.upd.setPair.telem.setf h

theorem State.Above.chargeJob {m spent : Nat} : s₀.Above 0x8000 (s.chargeJob m spent) := by
  unfold State.chargeJob
  exact .ite h.applyJobClear.setPair.telem h.applyJobClear.setPair

theorem State.Above.settleStation {n : Nat} : s₀.Above 0x8000 (s.settleStation n) := by
  unfold State.settleStation
  exact h.setStation.chargeJob

theorem State.Above.addDrained {g : Nat} : s₀.Above 0x8000 (s.addDrained g) := .ite h.upd h.upd

theorem State.Above.flushStation {n : Nat} : s₀.Above 0x8000 (s.flushStation n) := by
  unfold State.flushStation
  exact h.setFw.setStation.addDrained

theorem State.Above.flushSeams {d : Nat} : s₀.Above 0x8000 (s.flushSeams d) := by
  unfold State.flushSeams
  split
  · exact h
  · extract_lets +onlyGivenNames u
    have hu : s₀.Above 0x8000 u := h.foldl (fun _ _ hs => .ite hs hs.setSeam)
    exact .ite hu.flushStation (.ite hu.setCluster hu)

theorem State.Above.rollEpoch {c : Nat} : s₀.Above 0x8000 (s.rollEpoch c) := by
  unfold State.rollEpoch
  exact .ite h (.ite h.setWelt h.setf.setWelt.upd)

theorem State.Above.noteOn {c : Nat} : s₀.Above 0x8000 (s.noteOn c) := .ite h.setWelt h

/-- CLAMP acts on seams and stations. -/
theorem State.Above.clampStep {d : Nat} : s₀.Above 0x8000 (s.stepAction d 3) := by
  unfold State.stepAction
  refine .ite h ?_
  exact State.Above.setDom (.ite (State.Above.settleStation (.ite h.flushSeams h)) (.ite h.flushSeams h))

end

theorem domStatus_lt {d : Nat} (h : d ∈ allDomains) : R.PWRd_STATUS.at d < 0x8000 := by
  have hd : d < 0x470 := List.mem_range.1 (List.mem_filter.1 h).1
  have ha : R.PWRd_STATUS.at d = 0x05804 + 8 * d := rfl
  omega

theorem domStatus_ne_power (d : Nat) : R.PWRd_STATUS.at d ≠ R.PWR_STATUS.at 0 := by
  have ha : R.PWRd_STATUS.at d = 0x05804 + 8 * d := rfl
  have hb : R.PWR_STATUS.at 0 = 0x05004 := rfl
  omega

/-- A step begins with one write of the domain's word. -/
theorem State.putStep_writes (u : State) (d step : Nat) : ∃ v : State, u.Above 0x8000 v ∧
    (v.setf F.PWRd_STATUS_STEP d step).Above 0x8000 (u.putStep d step) := by
  unfold State.putStep
  split
  · exact ⟨_, State.Above.refl.rollEpoch, State.Above.refl.noteOn⟩
  · refine ⟨u, .refl, ?_⟩
    dsimp only
    exact .ite State.Above.refl.hang .refl

theorem State.beginClamp_writes (u : State) (d : Nat) : ∃ v : State, u.Above 0x8000 v ∧
    (v.setf F.PWRd_STATUS_STEP d 3).Above 0x8000 (u.beginStep d 3) := by
  unfold State.beginStep
  extract_lets x u1
  obtain ⟨v, hv, hp⟩ := u1.putStep_writes d 3
  exact ⟨v, State.Above.refl.setDom.trans hv, hp.clampStep⟩

theorem State.putTarget_writes (u : State) (d n : Nat) : ∃ v : State, u.Above 0x5000 v ∧
    (∀ e, v.rd R.PWRd_STATUS e = u.rd R.PWRd_STATUS e) ∧ u.putTarget d n = v.setf F.PWRd_STATUS_TARGET d n := by
  refine ⟨_, ?_, ?_, rfl⟩
  · exact .ite State.Above.refl.setf (.ite State.Above.refl.setf .refl)
  · intro e
    have hne (k : Nat) : (u.setf F.PWR_STATUS_N_ROUTE 0 k).rd R.PWRd_STATUS e = u.rd R.PWRd_STATUS e :=
      State.rd_wr_other _ _ (domStatus_ne_power e)
    split
    · exact hne _
    · split
      · exact hne _
      · rfl

/-- The domain is on its way to OFF. -/
def State.Settled (s : State) (d : Nat) : Prop := s.domTarget d = 2 ∧ s.domStep d = 3

theorem State.Settled.rest {s : State} {d : Nat} (h : s.Settled d) : s.domRest d = 3 := by
  simp [State.domRest, h.2]

theorem State.above_settleDomain {s : State} (d : Nat) : s.Above 0x5000 (s.settleDomain d) := by
  unfold State.settleDomain
  obtain ⟨v, hv, -, ht⟩ := s.putTarget_writes d 2
  obtain ⟨w, hw, hs⟩ := (s.putTarget d 2).beginClamp_writes d
  refine .ite ?_ .refl
  rw [ht] at hw
  exact ((hv.setf.trans (hw.mono (by decide))).setf).trans (hs.mono (by decide))

theorem State.settled_settleDomain {s : State} {d : Nat} (hd : d ∈ allDomains) (h : s.domRest d = 3) : (s.settleDomain d).Settled d := by
  have hp : domainPresent d = true := (List.mem_filter.1 hd).2
  have hlt := domStatus_lt hd
  unfold State.settleDomain
  rw [if_pos (by simp [hp, h])]
  obtain ⟨v, -, -, ht⟩ := s.putTarget_writes d 2
  obtain ⟨w, hw, hs⟩ := (s.putTarget d 2).beginClamp_writes d
  constructor
  · unfold State.domTarget
    rw [hs.f F.PWRd_STATUS_TARGET d hlt, State.f_setf_field (x := F.PWRd_STATUS_STEP) (y := F.PWRd_STATUS_TARGET) _ _ _ (by decide) rfl
      (by decide), hw.f _ _ hlt, ht, State.f_setf_same _ _ _ _ (by decide)]
    rfl
  · unfold State.domStep
    rw [hs.f F.PWRd_STATUS_STEP d hlt, State.f_setf_same _ _ _ _ (by decide)]
    rfl

theorem State.word_settleDomain (s : State) {d e : Nat} (hd : d ∈ allDomains) (hne : d ≠ e) :
    (s.settleDomain e).rd R.PWRd_STATUS d = s.rd R.PWRd_STATUS d := by
  have hlt := domStatus_lt hd
  have hat : R.PWRd_STATUS.at d ≠ R.PWRd_STATUS.at e := fun h => hne (domStatus_at_inj h)
  unfold State.settleDomain
  split
  · obtain ⟨v, -, hv, ht⟩ := s.putTarget_writes e 2
    obtain ⟨w, hw, hs⟩ := (s.putTarget e 2).beginClamp_writes e
    calc _ = (w.setf F.PWRd_STATUS_STEP e 3).rd R.PWRd_STATUS d := hs.rd _ _ hlt
      _ = w.rd R.PWRd_STATUS d := State.rd_wr_other _ _ hat
      _ = (v.setf F.PWRd_STATUS_TARGET e 2).rd R.PWRd_STATUS d := by rw [← ht]; exact hw.rd _ _ hlt
      _ = v.rd R.PWRd_STATUS d := State.rd_wr_other _ _ hat
      _ = s.rd R.PWRd_STATUS d := hv d
  · rfl

theorem State.settled_foldl {d : Nat} (hd : d ∈ allDomains) (l : List Nat) (s : State) (h : (d ∈ l ∧ s.domRest d = 3) ∨ s.Settled d) :
    (l.foldl State.settleDomain s).Settled d := by
  induction l generalizing s with
  | nil => exact h.resolve_left fun h => List.not_mem_nil h.1
  | cons e l ih =>
    refine ih _ ?_
    have hrest : s.domRest d = 3 := h.elim And.right State.Settled.rest
    by_cases he : d = e
    · exact .inr (he ▸ State.settled_settleDomain hd hrest)
    · have hw := s.word_settleDomain hd he
      have hstep : (s.settleDomain e).domStep d = s.domStep d := congrArg (fun w => getBits w _ _) hw
      have htarget : (s.settleDomain e).domTarget d = s.domTarget d := congrArg (fun w => getBits w _ _) hw
      refine h.imp (fun h => ⟨(List.mem_cons.1 h.1).resolve_left he, ?_⟩) fun h => ⟨htarget.trans h.1, hstep.trans h.2⟩
      unfold State.domRest
      rw [hstep]
      exact hrest

/-- The warm reset is over, and the supplies are in range. -/
def State.warmEnded (s : State) : State :=
  ({ s with rst := { s.rst with warm := false }, lace := { s.lace with startAt := s.now } } : State).setf F.GOV_BOOT_VGOV_OK 0 1

/-- A write below the domains' words leaves what they say. -/
theorem State.domWord_setf (s : State) (x : Fld) (v d : Nat) (h : x.reg.at 0 < R.PWRd_STATUS.off) :
    (s.setf x 0 v).rd R.PWRd_STATUS d = s.rd R.PWRd_STATUS d :=
  State.rd_wr_other _ _ (by have := R.PWRd_STATUS.off_le_at d; omega)

theorem State.Settled.setf {s : State} {d : Nat} (h : s.Settled d) (x : Fld) (v : Nat) (hx : x.reg.at 0 < R.PWRd_STATUS.off) :
    (s.setf x 0 v).Settled d :=
  have hw := s.domWord_setf x v d hx
  ⟨(congrArg (fun w => getBits w _ _) hw).trans h.1, (congrArg (fun w => getBits w _ _) hw).trans h.2⟩

theorem warmResetEnd_settles (s : State) (hw : s.rst.warm = true) (hc : s.rst.cold = false)
    (hp : s.passed s.rst.warmAt (if s.vgov then 10000 else 100000) = true) :
    Completes .warmResetEnd s fun t => t.rst.warm = false ∧ t.stage = 6 ∧ t.vgov = true ∧
      ∀ d ∈ allDomains, domainPresent d = true → s.domRest d = 3 → t.domTarget d = 2 ∧ t.domStep d = 3 := by
  have hg : (s.rst.warm && !s.rst.cold && s.passed s.rst.warmAt (if s.vgov then 10000 else 100000)) = true := by simp [hw, hc, hp]
  obtain ⟨u, hu⟩ : ∃ u, u = allDomains.foldl State.settleDomain s.warmEnded := ⟨_, rfl⟩
  have hnext : exec .warmResetEnd s = .next ((if u.pairFenced u.activePair && !u.pairFenced (1 - u.activePair) then
      u.setf F.EYE_FW_ACTIVE 0 (1 - u.activePair) else u).putStage 6) := by
    rw [hu]
    exact congrArg Host.Outcome.next (if_pos hg)
  have ha : s.warmEnded.Above 0x5000 u := by
    rw [hu]
    exact State.Above.refl.foldl fun s d hs => hs.trans (State.above_settleDomain d)
  have hv : u.vgov = true := (ha.on _ _ (by decide)).trans (State.on_setf_same _ _ _ _ (by decide))
  have hrst : u.rst.warm = false := by rw [ha.rst]; rfl
  have hset : ∀ d ∈ allDomains, s.domRest d = 3 → u.Settled d := by
    intro d hd hr
    rw [hu]
    refine State.settled_foldl hd _ _ (.inl ⟨hd, ?_⟩)
    have hword : s.warmEnded.rd R.PWRd_STATUS d = s.rd R.PWRd_STATUS d := State.domWord_setf _ _ _ _ (by decide)
    unfold State.domRest at hr ⊢
    rw [show s.warmEnded.domStep d = s.domStep d from congrArg (fun w => getBits w _ _) hword]
    exact hr
  clear hu
  refine ⟨_, hnext, ?_⟩
  split
  · exact ⟨hrst, State.stage_putStage _ _ (by decide), (State.on_putStage _ _ (by decide)).trans ((State.on_setf_apart _ _ (by decide)).trans hv),
      fun d hd _ hr => ((hset d hd hr).setf _ _ (by decide)).setf _ _ (by decide)⟩
  · exact ⟨hrst, State.stage_putStage _ _ (by decide), (State.on_putStage _ _ (by decide)).trans hv,
      fun d hd _ hr => (hset d hd hr).setf _ _ (by decide)⟩

end Sys2Proof.Machine
end

section
/-! SUPPORT. The loader's answers (R547). -/
namespace Sys2Proof.Machine
open Sys2Proof

theorem State.mem_enqueue (s : State) (c : Nat) (q : QWord) : q ∈ ((s.enqueue c q).chan c).queue := by
  have hc : (s.enqueue c q).chan c = { s.chan c with queue := (s.chan c).queue ++ [q] } := State.chan_setChan_same ..
  rw [hc]
  exact List.mem_append_right _ (List.mem_singleton_self q)

theorem State.f_reply (s : State) {c : Nat} (w : Word64) {x : Fld} {j : Nat} (h : Fld.Apart F.EYEc_STATUS_RSP_QUEUED c x j) :
    (s.reply c w).f x j = s.f x j := State.f_setf_apart _ _ h

theorem State.on_reply (s : State) {c : Nat} (w : Word64) {x : Fld} {j : Nat} (h : Fld.Apart F.EYEc_STATUS_RSP_QUEUED c x j) :
    (s.reply c w).on x j = s.on x j := State.on_setf_apart _ _ h

/-- The word is held: its register is free again, and the sequence goes on as it stood. -/
theorem State.holdWord_fields (s : State) (w : Word64) : (s.holdWord 0 w).f F.EYEc_STATUS_EXP_SEQ 0 = s.f F.EYEc_STATUS_EXP_SEQ 0 ∧
    (s.holdWord 0 w).on F.EYEc_STATUS_CMD_FULL 0 = false := by
  unfold State.holdWord
  extract_lets _ u1 u2 u3
  have ha : u3.Above 0x5000 (u3.trace 11 0 0 0 (some w.toNat)) := State.Above.refl.trace
  have hregs : u3.regs = (u2.setBitf F.EYE_IRQ_EMPTY 0 0 true).regs := rfl
  have hseq : u3.f F.EYEc_STATUS_EXP_SEQ 0 = s.f F.EYEc_STATUS_EXP_SEQ 0 := by
    rw [State.f_of_regs hregs]
    unfold State.setBitf u2
    rw [State.f_setf_apart _ _ (by decide), State.f_setf_apart _ _ (by decide), State.f_setf_apart _ _ (by decide)]
    rfl
  have hfull : u3.on F.EYEc_STATUS_CMD_FULL 0 = false := by
    rw [State.on_of_regs hregs]
    unfold State.setBitf u2
    rw [State.on_setf_apart _ _ (by decide), State.on_setf_apart _ _ (by decide), State.on_setf_same _ _ _ _ (by decide)]
    rfl
  exact ⟨(ha.f _ _ (by decide)).trans hseq, (ha.on _ _ (by decide)).trans hfull⟩

/-- A word that is not accepted is answered, and the sequence stays. -/
theorem State.notAccepted_fields (s : State) (w : Word64) (status result : Nat) :
    (s.notAccepted 0 w status result).f F.EYEc_STATUS_EXP_SEQ 0 = s.f F.EYEc_STATUS_EXP_SEQ 0 ∧
    (s.notAccepted 0 w status result).on F.EYEc_STATUS_CMD_FULL 0 = s.on F.EYEc_STATUS_CMD_FULL 0 ∧
    ∃ q ∈ ((s.notAccepted 0 w status result).chan 0).queue,
      q.word = replyWord (wOp w) (wSeq w) status false false false result :=
  ⟨(State.f_reply _ _ (by decide)).trans (State.f_incf_apart _ (by decide)),
    (State.on_reply _ _ (by decide)).trans (State.on_incf_apart _ (by decide)), _, State.mem_enqueue .., rfl⟩

/-- A word that is done is answered, and the sequence advances. -/
theorem State.loaderDone_fields (s : State) (w : Word64) (result : Nat) :
    (s.loaderDone w result).on F.EYEc_STATUS_CMD_FULL 0 = s.on F.EYEc_STATUS_CMD_FULL 0 ∧
    (s.loaderDone w result).f F.EYEc_STATUS_EXP_SEQ 0 = (wSeq w + 1) % 2 ^ F.EYEc_STATUS_EXP_SEQ.len ∧
    (s.loaderDone w result).eye.fw = s.eye.fw ∧ ∃ q ∈ ((s.loaderDone w result).chan 0).queue,
      q.word = replyWord (wOp w) (wSeq w) ST_DONE false false false result :=
  ⟨(State.on_reply _ _ (by decide)).trans (State.on_setf_apart _ _ (by decide)),
    (State.f_reply _ _ (by decide)).trans (State.f_setf_same _ _ _ _ (by decide)), rfl, _, State.mem_enqueue .., rfl⟩

theorem bootLoaderWord_answers (s : State) (unread sigOk : Bool) (w : Word64) (hl : s.loaderUp = true)
    (hf : s.on F.EYEc_STATUS_CMD_FULL 0 = true) (hr : s.replyRoom 0 = true) (hw : w = s.cmdWord 0) :
    (wSeq w ≠ s.f F.EYEc_STATUS_EXP_SEQ 0 → Completes (.bootLoaderWord unread sigOk) s fun t =>
      t.f F.EYEc_STATUS_EXP_SEQ 0 = s.f F.EYEc_STATUS_EXP_SEQ 0 ∧ t.on F.EYEc_STATUS_CMD_FULL 0 = false ∧
      ∃ q ∈ (t.chan 0).queue, q.word = replyWord (wOp w) (wSeq w) ST_REFUSED false false false
        (refusedResult RS_SEQ (s.f F.EYEc_STATUS_EXP_SEQ 0))) ∧
    (wSeq w = s.f F.EYEc_STATUS_EXP_SEQ 0 → wOp w = 0xF0 → (s.holdWord 0 w).loaderRefuses w unread = none →
      Completes (.bootLoaderWord unread sigOk) s fun t => t.on F.EYEc_STATUS_CMD_FULL 0 = false ∧
        t.f F.EYEc_STATUS_EXP_SEQ 0 = (wSeq w + 1) % 2 ^ F.EYEc_STATUS_EXP_SEQ.len ∧ t.eye.fw.imgSize = some (wArg w).toNat ∧
        ∃ q ∈ (t.chan 0).queue, q.word = replyWord 0xF0 (wSeq w) ST_DONE false false false 0) := by
  subst hw
  have hg : (s.loaderUp && s.on F.EYEc_STATUS_CMD_FULL 0 && s.replyRoom 0) = true := by simp [hl, hf, hr]
  obtain ⟨hexp, hfull⟩ := s.holdWord_fields (s.cmdWord 0)
  refine ⟨fun hseq => ?_, fun hseq hop hnone => ?_⟩
  · have hn : (s.holdWord 0 (s.cmdWord 0)).loaderWord (s.cmdWord 0) unread sigOk =
        (s.holdWord 0 (s.cmdWord 0)).notAccepted 0 (s.cmdWord 0) ST_REFUSED (refusedResult RS_SEQ (s.f F.EYEc_STATUS_EXP_SEQ 0)) := by
      unfold State.loaderWord
      rw [hexp]
      exact if_pos hseq
    obtain ⟨h1, h2, h3⟩ := (s.holdWord 0 (s.cmdWord 0)).notAccepted_fields (s.cmdWord 0) ST_REFUSED
      (refusedResult RS_SEQ (s.f F.EYEc_STATUS_EXP_SEQ 0))
    exact Completes.of_next rfl ((if_pos hg).trans hn) ⟨h1.trans hexp, h2.trans hfull, h3⟩
  · have hn : (s.holdWord 0 (s.cmdWord 0)).loaderWord (s.cmdWord 0) unread sigOk =
        ((s.holdWord 0 (s.cmdWord 0)).fwBegin (wArg (s.cmdWord 0)).toNat).loaderDone (s.cmdWord 0) 0 := by
      unfold State.loaderWord
      rw [hexp, hnone]
      exact (if_neg (not_not.2 hseq)).trans (if_pos hop)
    obtain ⟨h1, h2, h3, h4⟩ := ((s.holdWord 0 (s.cmdWord 0)).fwBegin (wArg (s.cmdWord 0)).toNat).loaderDone_fields (s.cmdWord 0) 0
    refine Completes.of_next rfl ((if_pos hg).trans hn) ⟨h1.trans hfull, h2, ?_, hop ▸ h4⟩
    rw [h3]
    rfl

end Sys2Proof.Machine
end

section
/-! SUPPORT. FIRMWARE_READY: the locks, the RESTART notice, and what comes after them. -/
namespace Sys2Proof.Machine
open Sys2Proof

/-! ### Notices -/

theorem State.Above.enqueue {s₀ s : State} (h : s₀.Above 0x1010 s) {c : Nat} {q : QWord} : s₀.Above 0x1010 (s.enqueue c q) := by
  unfold State.enqueue
  exact h.setChan.setf

theorem State.Above.notice {s₀ s : State} (h : s₀.Above 0x1010 s) {kind subject arg : Nat} :
    s₀.Above 0x1010 (s.notice kind subject arg) := by
  unfold State.notice
  refine .ite h.incf (.ite ?_ ?_)
  · exact h.incf.eye
  · extract_lets w u1 u2
    have hu2 : s₀.Above 0x1010 u2 := h.log.incf
    exact hu2.enqueue

theorem State.queue_enqueue (s : State) (c d : Nat) (q x : QWord) (h : x ∈ (s.chan d).queue) : x ∈ ((s.enqueue c q).chan d).queue := by
  by_cases hd : d = c
  · subst hd
    have hc : (s.enqueue d q).chan d = { s.chan d with queue := (s.chan d).queue ++ [q] } := State.chan_setChan_same ..
    rw [hc]
    exact List.mem_append_left _ h
  · have hc : (s.enqueue c q).chan d = s.chan d := State.chan_setChan_other _ _ hd
    rw [hc]
    exact h

theorem State.log_eye (s : State) (code unit arg : Nat) : (s.log code unit arg).eye = s.eye := by
  unfold State.log State.logAt
  extract_lets _ _ u1 u2 u3
  have hu1 : u1.eye = s.eye := State.setPair_eye ..
  have hu2 : u2.eye = s.eye := by
    unfold u2
    split
    · rw [State.setf_eye, hu1]
    · exact hu1
  have hu3 : u3.eye = s.eye := (State.setf_eye ..).trans hu2
  exact hu3

theorem State.queue_notice (s : State) (kind subject arg d : Nat) (x : QWord) (h : x ∈ (s.chan d).queue) :
    x ∈ ((s.notice kind subject arg).chan d).queue := by
  unfold State.notice
  split
  · exact h
  · split
    · exact h
    · extract_lets w u1 u2
      have he : u2.eye = s.eye := (State.incf_eye ..).trans (s.log_eye ..)
      refine State.queue_enqueue u2 _ _ _ _ ?_
      unfold State.chan
      rw [he]
      exact h

theorem noticeWord_head (kind subject : Nat) (w : Word) :
    (noticeWord kind subject w).toNat / 2 ^ 32 = kind % 256 * 65536 + subject % 65536 := by
  have hw := w.isLt
  unfold noticeWord
  rw [BitVec.toNat_ofNat]
  omega

theorem State.noticed_notice (s : State) (kind subject arg : Nat) (hr : s.relayOwns s.noticeCh = false)
    (hq : s.f F.EYE_NOTICE_QUEUED < 256) : (s.notice kind subject arg).noticed kind subject := by
  have hch : (s.notice kind subject arg).noticeCh = s.noticeCh := by
    unfold State.noticeCh
    rw [State.Above.refl.notice.f (s₀ := s) F.EYE_CTRL_NOTICE_CH 0 (by decide)]
  unfold State.noticed
  rw [hch]
  unfold State.notice
  rw [if_neg (by simp [hr]), if_neg (by omega)]
  extract_lets w u1 u2
  have hu : u2.noticeCh = s.noticeCh := by
    have ha : s.Above 0x1010 u2 := State.Above.refl.log.incf
    unfold State.noticeCh
    rw [ha.f F.EYE_CTRL_NOTICE_CH 0 (by decide)]
  rw [← hu]
  exact ⟨_, State.mem_enqueue .., rfl, noticeWord_head ..⟩

/-! ### FIRMWARE_READY -/

/-- The locks are set, at most three words change, and the standby is ready unless its pair is fenced. -/
theorem State.bootLocks_spec (s : State) : s.bootLocks.rd R.GOV_LOCK = 7 ∧ s.bootLocks.eye = s.eye ∧
    s.bootLocks.on F.EYE_FW_STANDBY_READY = (!s.pairFenced (1 - s.activePair)) ∧
    ∀ a w, a ≠ R.GOV_LOCK.at 0 → a ≠ R.GOV_LOCK_DIE.at 0 → a ≠ R.EYE_FW.at 0 →
      Tab.get w s.bootLocks.regs a = Tab.get w s.regs a := by
  obtain ⟨u, hu⟩ : ∃ u, u = (if (s.wr R.GOV_LOCK 0 7).dieUp then (s.wr R.GOV_LOCK 0 7).setf F.GOV_LOCK_DIE_VOLT 0 1
      else s.wr R.GOV_LOCK 0 7) := ⟨_, rfl⟩
  obtain ⟨v, hv⟩ : ∃ v, v = (u.setf F.EYE_FW_FW_MAJOR 0 4).setf F.EYE_FW_FW_MINOR 0 1 := ⟨_, rfl⟩
  have hb : s.bootLocks = v.setb F.EYE_FW_STANDBY_READY 0 (!v.pairFenced (1 - v.activePair)) := by
    rw [hv, hu]
    rfl
  have hget (a : Nat) (w : Word) (h1 : a ≠ R.GOV_LOCK.at 0) (h2 : a ≠ R.GOV_LOCK_DIE.at 0) : Tab.get w u.regs a = Tab.get w s.regs a := by
    have hw : Tab.get w (s.wr R.GOV_LOCK 0 7).regs a = Tab.get w s.regs a := s.get_wr_other _ _ _ h1 w
    rw [hu]
    split
    · exact (State.get_setf_other _ _ _ _ h2 w).trans hw
    · exact hw
  have hlock : u.rd R.GOV_LOCK = 7 := by
    rw [hu]
    split
    · exact (State.rd_wr_other _ _ (by decide)).trans (State.rd_wr_same ..)
    · exact State.rd_wr_same ..
  have heye : u.eye = s.eye := by
    rw [hu]
    split
    · rfl
    · rfl
  have hfw (x : Fld) (hr : x.reg = R.EYE_FW) (hx : x.lo + x.len ≤ 16) : v.f x = s.f x := by
    have h1 : v.f x = u.f x := by
      rw [hv, State.f_setf_field _ _ _ (by decide) hr (.inl hx), State.f_setf_field _ _ _ (by decide) hr (.inl ?_)]
      exact hx.trans (by decide)
    rw [h1]
    unfold State.f State.rd
    rw [hget _ _ (by rw [hr]; decide) (by rw [hr]; decide)]
  have hpair : (!v.pairFenced (1 - v.activePair)) = (!s.pairFenced (1 - s.activePair)) := by
    unfold State.pairFenced State.activePair State.on
    rw [hfw F.EYE_FW_ACTIVE rfl (by decide), hfw F.EYE_FW_FENCED_A rfl (by decide), hfw F.EYE_FW_FENCED_B rfl (by decide)]
  rw [hb]
  refine ⟨?_, ?_, (State.on_setb_same _ _ _ _ (by decide)).trans hpair, fun a w h1 h2 h3 => ?_⟩
  · rw [hv]
    exact (State.rd_wr_other _ _ (by decide)).trans ((State.rd_wr_other _ _ (by decide)).trans ((State.rd_wr_other _ _ (by decide)).trans hlock))
  · rw [hv]
    exact heye
  · rw [hv]
    exact (State.get_setf_other _ _ _ _ h3 w).trans ((State.get_setf_other _ _ _ _ h3 w).trans
      ((State.get_setf_other _ _ _ _ h3 w).trans (hget a w h1 h2)))

/-- From `s` to `t` the locks, the firmware's words and whether it runs are the same, and no queued word is lost. -/
structure State.ReadyKept (s t : State) : Prop where
  lock : t.rd R.GOV_LOCK = s.rd R.GOV_LOCK
  fw : t.rd R.EYE_FW = s.rd R.EYE_FW
  ctrl : t.rd R.EYE_CTRL = s.rd R.EYE_CTRL
  running : t.eye.fw.running = s.eye.fw.running
  queue : ∀ c, ∀ q ∈ (s.chan c).queue, q ∈ (t.chan c).queue

theorem State.ReadyKept.refl {s : State} : s.ReadyKept s := ⟨rfl, rfl, rfl, rfl, fun _ _ h => h⟩

theorem State.ReadyKept.trans {s t u : State} (h : s.ReadyKept t) (g : t.ReadyKept u) : s.ReadyKept u :=
  ⟨g.lock.trans h.lock, g.fw.trans h.fw, g.ctrl.trans h.ctrl, g.running.trans h.running, fun c q hq => g.queue c q (h.queue c q hq)⟩

theorem State.ReadyKept.noticed {s t : State} (h : s.ReadyKept t) {kind subject : Nat} (hn : s.noticed kind subject) :
    t.noticed kind subject := by
  have hch : t.noticeCh = s.noticeCh := by
    unfold State.noticeCh State.f
    rw [show t.rd F.EYE_CTRL_NOTICE_CH.reg 0 = s.rd F.EYE_CTRL_NOTICE_CH.reg 0 from h.ctrl]
  obtain ⟨q, hq, hn⟩ := hn
  unfold State.noticed
  rw [hch]
  exact ⟨q, h.queue _ q hq, hn⟩

theorem State.readyKept_notice (s : State) (kind subject arg : Nat) : s.ReadyKept (s.notice kind subject arg) := by
  have ha : s.Above 0x1010 (s.notice kind subject arg) := State.Above.refl.notice
  exact ⟨ha.rd _ _ (by decide), ha.rd _ _ (by decide), ha.rd _ _ (by decide), ha.running, fun _ _ h => s.queue_notice _ _ _ _ _ h⟩

theorem State.readyKept_setf (s : State) (x : Fld) (v : Nat) (h1 : R.GOV_LOCK.at 0 ≠ x.reg.at 0) (h2 : R.EYE_FW.at 0 ≠ x.reg.at 0)
    (h3 : R.EYE_CTRL.at 0 ≠ x.reg.at 0) : s.ReadyKept (s.setf x 0 v) :=
  ⟨State.rd_wr_other _ _ h1, State.rd_wr_other _ _ h2, State.rd_wr_other _ _ h3, rfl, fun _ _ h => h⟩

theorem State.readyKept_raiseCounter (s : State) : s.ReadyKept s.raiseCounter := by
  unfold State.raiseCounter
  split
  · unfold State.putBoot
    extract_lets b seq _ u
    have hu : s.ReadyKept u := ⟨rfl, rfl, rfl, rfl, fun _ _ h => h⟩
    exact hu.trans (u.readyKept_setf _ _ (by decide) (by decide) (by decide))
  · exact .refl

theorem State.readyKept_bootPhases (s : State) : s.ReadyKept s.bootPhases := by
  unfold State.bootPhases
  extract_lets n
  split
  · exact .refl
  · exact s.readyKept_notice _ _ _

theorem State.resumeDone_cases (s : State) : s.resumeDone = s ∨ s.resumeDone = s.setFw { s.eye.fw with resuming := false } := by
  unfold State.resumeDone
  split
  · exact .inr rfl
  · exact .inl rfl

theorem State.readyKept_resumeDone (s : State) : s.ReadyKept s.resumeDone := by
  obtain h | h := s.resumeDone_cases
  · rw [h]
    exact .refl
  · rw [h]
    exact ⟨rfl, rfl, rfl, rfl, fun _ _ h => h⟩

theorem State.stage_resumeDone (s : State) : s.resumeDone.stage = s.stage := by
  obtain h | h := s.resumeDone_cases
  · rw [h]
  · rw [h]
    rfl

theorem State.answerActivate_none {s : State} (h : s.eye.fw.activating = none) : s.answerActivate = s := by
  unfold State.answerActivate
  rw [h]

/-- The last of FIRMWARE_READY: the counter, the phases and the stage. -/
theorem State.readyKept_tail (s : State) : s.ReadyKept ((s.raiseCounter.bootPhases.putStage 10).resumeDone) :=
  s.readyKept_raiseCounter.trans (s.raiseCounter.readyKept_bootPhases.trans
    ((s.raiseCounter.bootPhases.readyKept_setf _ _ (by decide) (by decide) (by decide)).trans (State.readyKept_resumeDone _)))

theorem State.enqueue_fw (s : State) (c : Nat) (q : QWord) : (s.enqueue c q).eye.fw = s.eye.fw := rfl

theorem State.notice_activating (s : State) (kind subject arg : Nat) :
    (s.notice kind subject arg).eye.fw.activating = s.eye.fw.activating := by
  unfold State.notice
  split
  · rw [State.incf_eye]
  · split
    · dsimp only
      rw [State.incf_eye]
    · extract_lets w u1 u2
      have he : u2.eye = s.eye := (State.incf_eye ..).trans (s.log_eye ..)
      rw [State.enqueue_fw, he]

theorem firmwareReady_runs (s : State) (hs : s.stage = 9) (hv : s.vgov = true) (hw : s.rst.warm = false) (hc : s.rst.cold = false) :
    Completes .firmwareReady s fun t => t.stage = 10 ∧
    (s.eye.fw.resuming = false → s.eye.fw.activating = none → t.rd R.GOV_LOCK = 7 ∧
      t.eye.fw.running = true ∧ t.on F.EYE_FW_STANDBY_READY = (!s.pairFenced (1 - s.activePair)) ∧
      (s.relayOwns s.noticeCh = false → s.f F.EYE_NOTICE_QUEUED < 256 → t.noticed 1 s.eye.fw.restartKind)) := by
  have hg : (s.stage == 9 && s.vgov && !s.rst.warm && !s.rst.cold) = true := by simp [hs, hv, hw, hc]
  refine Completes.of_next (u := (s.bootLocks.restart.answerActivate.raiseCounter.bootPhases.putStage 10).resumeDone) rfl (if_pos hg)
    ⟨(State.stage_resumeDone _).trans (State.stage_putStage _ _ (by decide)), fun hres hact => ?_⟩
  obtain ⟨hlock, heye, hready, hget⟩ := s.bootLocks_spec
  obtain ⟨u, hu⟩ : ∃ u, u = s.bootLocks.setFw { s.eye.fw with running := true, unitCmds := [] } := ⟨_, rfl⟩
  have hrestart : s.bootLocks.restart = u.notice 1 s.eye.fw.restartKind s.eye.fw.reported := by
    unfold State.restart
    rw [heye, hu]
    exact if_neg (by simp [hres])
  have hact' : (u.notice 1 s.eye.fw.restartKind s.eye.fw.reported).eye.fw.activating = none := by
    rw [State.notice_activating, hu]
    exact hact
  have hregs : u.regs = s.bootLocks.regs := by rw [hu]; rfl
  have hkept := (u.readyKept_notice 1 s.eye.fw.restartKind s.eye.fw.reported).trans (State.readyKept_tail _)
  rw [hrestart, State.answerActivate_none hact']
  refine ⟨hkept.lock.trans ((State.rd_of_regs hregs _ _).trans hlock), hkept.running.trans (by rw [hu]; rfl), ?_, fun hr hq => ?_⟩
  · exact (congrArg (fun w => getBits w _ _ == 1) hkept.fw).trans ((State.on_of_regs hregs F.EYE_FW_STANDBY_READY 0).trans hready)
  · have hf (x : Fld) (h1 : x.reg.at 0 ≠ R.GOV_LOCK.at 0) (h2 : x.reg.at 0 ≠ R.GOV_LOCK_DIE.at 0) (h3 : x.reg.at 0 ≠ R.EYE_FW.at 0) :
        u.f x = s.f x := by
      rw [State.f_of_regs hregs]
      exact congrArg (fun w => getBits w _ _) (hget _ _ h1 h2 h3)
    refine (State.readyKept_tail _).noticed (u.noticed_notice _ _ _ ?_ ?_)
    · unfold State.relayOwns State.noticeCh State.on at hr ⊢
      rw [hf F.LACE_CTRL_EN (by decide) (by decide) (by decide), hf F.LACE_CTRL_RELAY_EN (by decide) (by decide) (by decide),
        hf F.LACE_ID_MEMBER (by decide) (by decide) (by decide), hf F.LACE_ID_IS_HEAD (by decide) (by decide) (by decide),
        hf F.LACE_CTRL_RELAY_CH (by decide) (by decide) (by decide), hf F.EYE_CTRL_NOTICE_CH (by decide) (by decide) (by decide)]
      exact hr
    · rw [hf F.EYE_NOTICE_QUEUED (by decide) (by decide) (by decide)]
      exact hq

end Sys2Proof.Machine
end

section
/-! SUPPORT. FIRMWARE_BOOT: the adopted hold, the boot record, and a plan that the boot cannot take (R564, R567). -/
namespace Sys2Proof.Machine
open Sys2Proof

/-! ### PRED_CTRL -/

section
variable {lim : Nat} {s₀ s : State} (h : s₀.Above lim s)
include h

theorem State.Above.clrAll {r : Reg} (hr : lim ≤ r.off := by decide) : s₀.Above lim (s.clrAll r) := by
  refine ⟨fun a ha d => ?_, h.time, h.mram, h.newest, h.rst, h.booted, h.running⟩
  have hlt : ¬ r.off ≤ a := by omega
  have hf : Tab.get d (s.clrAll r).regs a = Tab.get d s.regs a :=
    (Tab.get_filter d s.regs _ (fun a => !(decide (r.off ≤ a) && (a - r.off) % r.stride == 0 &&
      decide ((a - r.off) / r.stride < r.count))) (fun _ => rfl) a).trans (if_pos (by simp [hlt]))
  exact hf.trans (h.get a ha d)

theorem State.Above.setPred {x : PredSt} : s₀.Above lim (s.setPred x) := h.upd

end

section
variable {s₀ s : State} (h : s₀.Above 0x5000 s)
include h

theorem State.Above.predEn {en : Bool} : s₀.Above 0x5000 (s.predEn en) := by
  unfold State.predEn
  exact h.setPred.clrAll.setf

theorem State.Above.writePredCtrl {b : Writer} {w : Word} : s₀.Above 0x5000 (writePredCtrl b w s).1 := by
  unfold Machine.writePredCtrl
  extract_lets en hold q u p v
  have hu : s₀.Above 0x5000 u := h.wr
  have hv : s₀.Above 0x5000 v := .ite hu.setPred (.ite hu.setPred hu)
  exact .ite hv hv.predEn

theorem State.Above.predCtrlField {lo len v : Nat} : s₀.Above 0x5000 (s.predCtrlField lo len v) := by
  have hf : findReg 0x60000 = some (R.PRED_CTRL, 0) := rfl
  unfold State.predCtrlField State.fwWrite
  rw [hf]
  exact .ite_fst h h.writePredCtrl

theorem State.Above.takeFwTiles : s₀.Above 0x5000 s.takeFwTiles := by
  unfold State.takeFwTiles
  exact h.upd.foldl fun _ _ hs => .ite hs.recopyFw hs

end

/-! ### The report of a cold start -/

theorem State.Above.reportLoss {s₀ s : State} (h : s₀.Above 0x1010 s) {e : JEnt} : s₀.Above 0x1010 (s.reportLoss e) := by
  unfold State.reportLoss
  exact .ite h.enqueue h.jmod.enqueue

theorem State.heelNext_of_newest {s t : State} (h : t.flt.newest = s.flt.newest) : t.heelNext.1 = s.heelNext.1 := by
  unfold State.heelNext
  rw [h]
  cases s.flt.newest with
  | none => rfl
  | some b => rfl

/-- The boot record leaves the adopted hold, and is the newest record once an attempt at its write succeeds. -/
theorem State.bootRecordWrite_fields (s : State) (ok1 ok2 : Bool) :
    (s.bootRecordWrite ok1 ok2).f F.GOV_ADOPT_STATUS = s.f F.GOV_ADOPT_STATUS ∧
    (ok1 = true ∨ ok2 = true → (s.bootRecordWrite ok1 ok2).flt.newest = some s.heelNext.1) := by
  unfold State.bootRecordWrite
  extract_lets n l u
  have hu : s.Above 0x1010 u := .ite .refl State.Above.refl.setf
  have hadopt : u.f F.GOV_ADOPT_STATUS = s.f F.GOV_ADOPT_STATUS := hu.f _ _ (by decide)
  clear_value u l
  split
  · next hok =>
    obtain ⟨v, hv⟩ : ∃ v, v = ({ u.putHeel n.1 l with flt := { (u.putHeel n.1 l).flt with newest := some n.1 } } : State) := ⟨_, rfl⟩
    have hva : v.f F.GOV_ADOPT_STATUS = u.f F.GOV_ADOPT_STATUS := State.f_of_regs (hv ▸ rfl) _ _
    have hw : u.heelWritten n.1 l = (v.setf F.FLT_HEEL_SEQ_SEQNUM 0 (leAt l 4 4)).setb F.FLT_SAG_SLOT 0 n.1 := hv ▸ rfl
    refine ⟨?_, fun _ => ?_⟩
    · rw [hw, State.f_setb_apart _ _ (by decide), State.f_setf_apart _ _ (by decide), hva, hadopt]
    · rw [hw, State.setb_flt, State.setf_flt, hv]
  · next hok =>
    refine ⟨?_, fun h => absurd h (by simpa using hok)⟩
    obtain ⟨v, hv⟩ : ∃ v, v = ((u.putHeel n.1 (brokenImage l)).setf F.FLT_SAG_HEEL_FAIL 0 1).setb F.FLT_SAG_SLOT 0 n.1 := ⟨_, rfl⟩
    have hva : v.f F.GOV_ADOPT_STATUS = u.f F.GOV_ADOPT_STATUS := by
      rw [hv, State.f_setb_apart _ _ (by decide), State.f_setf_apart _ _ (by decide)]
      exact State.f_of_regs rfl _ _
    have hf : v.Above 0x1010 (v.fault 0x0C 0) := State.Above.refl.fault
    rw [← hv, hf.f _ _ (by decide), hva, hadopt]

theorem State.coldStartReports_fields (s : State) (ok1 ok2 : Bool) :
    (s.coldStartReports ok1 ok2).f F.GOV_ADOPT_STATUS = s.f F.GOV_ADOPT_STATUS ∧
    (s.coldStartReports ok1 ok2).eye.fw.booted = true ∧
    (ok1 = true ∨ ok2 = true → (s.coldStartReports ok1 ok2).flt.newest = some s.heelNext.1) := by
  unfold State.coldStartReports
  extract_lets todo u v kind w
  have hv : s.Above 0x1010 v :=
    (State.Above.refl.takeFwTiles.mono (by decide)).foldl fun _ _ hs => hs.reportLoss
  obtain ⟨hf, hn⟩ := v.bootRecordWrite_fields ok1 ok2
  refine ⟨hf.trans (hv.f _ _ (by decide)), rfl, fun hok => (hn hok).trans ?_⟩
  rw [State.heelNext_of_newest hv.newest]

/-! ### FIRMWARE_BOOT -/

theorem State.bootPlan_bad {s : State} {e : Nat × Nat} (h : s.planBad (s.planTiles false) = some e) : s.Above 0x1010 s.bootPlan := by
  unfold State.bootPlan
  extract_lets tiles
  rw [show s.planBad tiles = some e from h]
  have hu : s.Above 0x1010 (if (badCal tiles).isSome then s.predCtrlField 29 1 1 else s) :=
    .ite (State.Above.refl.predCtrlField.mono (by decide)) .refl
  exact hu.fault.notice

/-- The state in which FIRMWARE_BOOT looks at the plan. -/
def State.bootReported (s : State) (ok1 ok2 : Bool) : State :=
  if s.eye.fw.booted then (writeGovAdopt 1 s).1 else (writeGovAdopt 1 s).1.coldStartReports ok1 ok2

theorem writeGovAdopt_one (s : State) : (writeGovAdopt 1 s).1.f F.GOV_ADOPT_STATUS = 2 ∧ (writeGovAdopt 1 s).1.eye = s.eye ∧
    (writeGovAdopt 1 s).1.flt = s.flt :=
  ⟨State.f_setf_same _ _ _ _ (by decide), rfl, rfl⟩

theorem State.bootReported_fields (s : State) (ok1 ok2 : Bool) : (s.bootReported ok1 ok2).f F.GOV_ADOPT_STATUS = 2 ∧
    (s.bootReported ok1 ok2).eye.fw.booted = true ∧
    (s.eye.fw.booted = false → ok1 = true ∨ ok2 = true → (s.bootReported ok1 ok2).flt.newest = some s.heelNext.1) := by
  obtain ⟨hadopt, heye, hflt⟩ := writeGovAdopt_one s
  unfold State.bootReported
  generalize (writeGovAdopt 1 s).1 = v at hadopt heye hflt
  split
  · next hb => exact ⟨hadopt, heye ▸ hb, fun h => absurd hb (by simp [h])⟩
  · next hb =>
    obtain ⟨hf, hbooted, hn⟩ := v.coldStartReports_fields ok1 ok2
    refine ⟨hf.trans hadopt, hbooted, fun _ hok => (hn hok).trans ?_⟩
    rw [State.heelNext_of_newest (congrArg FltSt.newest hflt)]

theorem firmwareBoot_adopts (s : State) (ok1 ok2 : Bool) (hs : s.stage = 8) (hv : s.vgov = true) (hw : s.rst.warm = false)
    (hc : s.rst.cold = false) : Completes (.firmwareBoot ok1 ok2) s fun t => t.stage = 9 ∧ ∀ u e,
      u = (if s.eye.fw.booted then (writeGovAdopt 1 s).1 else (writeGovAdopt 1 s).1.coldStartReports ok1 ok2) →
      u.planBad (u.planTiles false) = some e → t.holding = false ∧ t.eye.fw.booted = true ∧
        (s.eye.fw.booted = false → ok1 = true ∨ ok2 = true → t.flt.newest = some s.heelNext.1) := by
  have hg : (s.stage == 8 && s.vgov && !s.rst.warm && !s.rst.cold) = true := by simp [hs, hv, hw, hc]
  refine Completes.of_next (u := (s.bootReported ok1 ok2).bootPlan.putStage 9) rfl (if_pos hg)
    ⟨State.stage_putStage _ _ (by decide), ?_⟩
  rintro u e hu he
  obtain ⟨hadopt, hbooted, hnewest⟩ := s.bootReported_fields ok1 ok2
  rw [show s.bootReported ok1 ok2 = u from hu.symm] at hadopt hbooted hnewest ⊢
  have hp := State.bootPlan_bad he
  refine ⟨?_, hp.booted.trans hbooted, fun hb hok => hp.newest.trans (hnewest hb hok)⟩
  unfold State.holding
  rw [State.f_putStage _ _ (by decide), hp.f _ _ (by decide), hadopt]
  rfl

end Sys2Proof.Machine
end

section
/-! SUPPORT. HEEL_LOAD: what the newest Heel record brings back (R461). -/
namespace Sys2Proof.Machine
open Sys2Proof

/-! ### What the record leaves of the count and of the uncleared rows -/

/-- A word that is neither TIME_STATUS nor a fault row's status. -/
abbrev offRows (a : Nat) : Prop := a ≠ R.TIME_STATUS.at 0 ∧ (a < R.FLTRr_STATUS.at 0 ∨ R.FLTRr_STATUS.at 256 ≤ a)

/-- From `s` to `t` the count and TIME_STATUS are the same, and no row got cleared. -/
structure State.RowsKept (s t : State) : Prop where
  time : t.time = s.time
  status : t.rd R.TIME_STATUS = s.rd R.TIME_STATUS
  rows : ∀ r, r < 256 → s.uncleared r = true → t.uncleared r = true

theorem State.RowsKept.refl {s : State} : s.RowsKept s := ⟨rfl, rfl, fun _ _ h => h⟩

theorem rowStatus_ne {a r : Nat} (ha : offRows a) (hr : r < 256) : R.FLTRr_STATUS.at r ≠ a := by
  have h0 : R.FLTRr_STATUS.at 0 = 0x03404 := rfl
  have h256 : R.FLTRr_STATUS.at 256 = 0x04404 := rfl
  have hat : R.FLTRr_STATUS.at r = 0x03404 + 0x10 * r := rfl
  obtain ⟨-, hlt⟩ := ha
  omega

section
variable {s₀ s : State} (h : s₀.RowsKept s)
include h

theorem State.RowsKept.trans {t : State} (g : s.RowsKept t) : s₀.RowsKept t :=
  ⟨g.time.trans h.time, g.status.trans h.status, fun r hr hu => g.rows r hr (h.rows r hr hu)⟩

/-- The registers stay as they are. -/
theorem State.RowsKept.of_regs {t : State} (hr : t.regs = s.regs) (ht : t.time = s.time) : s₀.RowsKept t :=
  h.trans ⟨ht, State.rd_of_regs hr _ _, fun r _ hu => (State.on_of_regs hr F.FLTRr_STATUS_UNCLEARED r).trans hu⟩

theorem State.RowsKept.wr {r : Reg} {i : Nat} {w : Word} (hr : offRows (r.at i)) : s₀.RowsKept (s.wr r i w) := by
  refine h.trans ⟨rfl, State.rd_wr_other _ _ hr.1.symm, fun k hk hu => ?_⟩
  have hne : (s.wr r i w).on F.FLTRr_STATUS_UNCLEARED k = s.on F.FLTRr_STATUS_UNCLEARED k :=
    congrArg (fun w => getBits w _ _ == 1) (State.rd_wr_other (q := R.FLTRr_STATUS) (j := k) s w (rowStatus_ne hr hk))
  exact hne.trans hu

theorem State.RowsKept.setf {x : Fld} {i v : Nat} (hr : offRows (x.reg.at i) := by decide) : s₀.RowsKept (s.setf x i v) := h.wr hr

theorem State.RowsKept.setb {x : Fld} {i : Nat} {v : Bool} (hr : offRows (x.reg.at i) := by decide) : s₀.RowsKept (s.setb x i v) := h.wr hr

theorem State.RowsKept.foldl {β : Type} {f : State → β → State} {l : List β}
    (hf : ∀ s x, x ∈ l → s₀.RowsKept s → s₀.RowsKept (f s x)) : s₀.RowsKept (l.foldl f s) :=
  List.foldlRecOn l f h fun _ hs x hx => hf _ x hx hs

end

/-- The status of another row. -/
theorem rowStatus_inj {r k : Nat} (h : R.FLTRr_STATUS.at r = R.FLTRr_STATUS.at k) : r = k := by
  have hr : R.FLTRr_STATUS.at r = 0x03404 + 0x10 * r := rfl
  have hk : R.FLTRr_STATUS.at k = 0x03404 + 0x10 * k := rfl
  omega

theorem rowStatus_ne_time (r : Nat) : R.TIME_STATUS.at 0 ≠ R.FLTRr_STATUS.at r := by
  have hr : R.FLTRr_STATUS.at r = 0x03404 + 0x10 * r := rfl
  have ht : R.TIME_STATUS.at 0 = 0x02010 := rfl
  omega

theorem State.rowsKept_putUncleared (s : State) {row : Nat} (hrow : row < 256) :
    s.RowsKept (s.putUncleared row true) ∧ (s.putUncleared row true).uncleared row = true := by
  unfold State.putUncleared
  split
  · next h => exact ⟨.refl, h⟩
  · extract_lets n u
    obtain ⟨v, hv⟩ : ∃ v, v = s.setb F.FLTRr_STATUS_UNCLEARED row true := ⟨_, rfl⟩
    have hself : v.uncleared row = true := hv ▸ State.on_setb_same _ _ _ _ (by decide)
    have hk : s.RowsKept v := by
      rw [hv]
      refine ⟨rfl, State.rd_wr_other _ _ (rowStatus_ne_time row), fun k hk hu => ?_⟩
      by_cases he : k = row
      · subst he
        exact hv ▸ hself
      · exact (State.on_setb_apart _ _ (.inl fun e => he (rowStatus_inj e))).trans hu
    have hmask : offRows (R.FLT_UNCLEAREDk.at (row / 32)) := by
      have ha : R.FLT_UNCLEAREDk.at (row / 32) = 0x03010 + 0x4 * (row / 32) := rfl
      have h0 : R.FLTRr_STATUS.at 0 = 0x03404 := rfl
      have ht : R.TIME_STATUS.at 0 = 0x02010 := rfl
      constructor <;> omega
    have hu : v.RowsKept u := by
      have hset : v.RowsKept (v.setBitf F.FLT_UNCLEAREDk_ROWS (row / 32) (row % 32) true) := State.RowsKept.refl.setf hmask
      rw [hv] at hset ⊢
      exact hset
    have hend : v.RowsKept ((u.setf F.FLT_STATUS_N_UNCLEARED 0 (if true then n + 1 else n - 1)).showPins) := hu.setf.of_regs rfl rfl
    exact ⟨hk.trans hend, hend.rows row hrow hself⟩

theorem rowCount_apart (r : Nat) : Fld.Apart F.FLTRr_STATUS_SEVERE r F.FLTRr_STATUS_UNCLEARED r :=
  .inr ⟨rfl, by decide, .inr (by decide)⟩

theorem State.rowsKept_countRow (s : State) (row n : Nat) : s.RowsKept (s.incf F.FLTRr_STATUS_SEVERE row n) := by
  refine ⟨rfl, State.rd_wr_other _ _ (rowStatus_ne_time row), fun k _ hu => ?_⟩
  by_cases he : k = row
  · subst he
    exact (State.on_incf_apart _ (rowCount_apart k)).trans hu
  · exact (State.on_incf_apart _ (.inl fun e => he (rowStatus_inj e))).trans hu

/-- A row of the record: its bit 15 marks the row, its count changes no mark. -/
theorem State.rowsKept_restoreRow (s : State) (l : List Byte) {row : Nat} (hrow : row < 256) :
    s.RowsKept (s.restoreRow l row) ∧ (faultRowUsed row = true → (leAt l (128 + 2 * row) 2).testBit 15 = true →
      (s.restoreRow l row).uncleared row = true) := by
  unfold State.restoreRow
  extract_lets w u n _ v
  obtain ⟨hset, hself⟩ := s.rowsKept_putUncleared hrow
  have hu : s.RowsKept u ∧ (w.testBit 15 = true → u.uncleared row = true) := by
    unfold u
    split
    · exact ⟨hset, fun _ => hself⟩
    · next hb => exact ⟨.refl, fun h => absurd h hb⟩
  have hv : u.RowsKept v := State.RowsKept.refl.of_regs rfl rfl
  have hend := v.rowsKept_countRow row n
  have hlast := hu.1.trans (hv.trans hend)
  split
  · next hused => exact ⟨.refl, fun h => absurd h (by simpa using hused)⟩
  · exact ⟨hlast, fun _ hb => (hv.trans hend).rows row hrow (hu.2 hb)⟩

/-- The record's rows, up to a row. -/
theorem State.rowsKept_restoreRows (s : State) (l : List Byte) {n : Nat} (hn : n ≤ 256) :
    s.RowsKept ((List.range n).foldl (fun (s : State) r => s.restoreRow l r) s) ∧
    ∀ r, r < n → faultRowUsed r = true → (leAt l (128 + 2 * r) 2).testBit 15 = true →
      ((List.range n).foldl (fun (s : State) r => s.restoreRow l r) s).uncleared r = true := by
  induction n with
  | zero => exact ⟨.refl, fun r hr => absurd hr (Nat.not_lt_zero r)⟩
  | succ n ih =>
    obtain ⟨hk, hr⟩ := ih (by omega)
    rw [List.range_succ, List.foldl_append]
    obtain ⟨hk', hself⟩ := State.rowsKept_restoreRow ((List.range n).foldl (fun (s : State) r => s.restoreRow l r) s) l
      (row := n) (by omega)
    refine ⟨hk.trans hk', fun r hlt hused hb => ?_⟩
    obtain hlt | rfl := Nat.lt_succ_iff_lt_or_eq.1 hlt
    · exact hk'.rows r (by omega) (hr r hlt hused hb)
    · exact hself hused hb

theorem offRows_channel {c : Nat} (hc : c < 9) : offRows (R.EYEc_STATUS.at c) := by
  have ha : R.EYEc_STATUS.at c = 0x01110 + 0x20 * c := rfl
  have h0 : R.FLTRr_STATUS.at 0 = 0x03404 := rfl
  have ht : R.TIME_STATUS.at 0 = 0x02010 := rfl
  constructor <;> omega

section
variable {s₀ s : State} (h : s₀.RowsKept s)
include h

theorem State.RowsKept.restorePairs {flags : Nat} : s₀.RowsKept (s.restorePairs flags) :=
  have h0 : s₀.RowsKept (s.putPairFenced 0 (flags.testBit 1)) := h.setb (x := F.EYE_FW_FENCED_A)
  have h1 : s₀.RowsKept ((s.putPairFenced 0 (flags.testBit 1)).putPairFenced 1 (flags.testBit 2)) := h0.setb (x := F.EYE_FW_FENCED_B)
  h1.setf

theorem State.RowsKept.restoreLog {l : List Byte} : s₀.RowsKept (s.restoreLog l) := by
  unfold State.restoreLog
  extract_lets n t old c u1 u2
  have hu1 : s₀.RowsKept u1 := (h.wr (r := R.LOG_COUNT_LO) (i := 0) (by decide)).wr (r := R.LOG_COUNT_HI) (i := 0) (by decide)
  have hu2 : s₀.RowsKept u2 := hu1.setf
  exact hu2.of_regs rfl rfl

theorem State.RowsKept.restoreJournal {l : List Byte} : s₀.RowsKept (s.restoreJournal l) := by
  unfold State.restoreJournal
  extract_lets j _ u1 u2
  have hu1 : s₀.RowsKept u1 := h.of_regs rfl rfl
  have hu2 : s₀.RowsKept u2 := (hu1.setf (x := F.EYE_JOURNAL_USED)).setf (x := F.EYE_JOURNAL_OPEN)
  exact hu2.foldl fun _ c hc hs => hs.setf (offRows_channel (List.mem_range.1 hc))

end

/-! ### The safe state -/

/-- SAFE is set; below the power domains only FLT_STATUS changes, and the count runs on. -/
theorem State.safeEnter_fields (s : State) (row : Nat) : (s.safeEnter row).safe = true ∧ (s.safeEnter row).time = s.time ∧
    ∀ (r : Reg) (i : Nat), r.at i < 0x5000 → r.at i ≠ R.FLT_STATUS.at 0 → (s.safeEnter row).rd r i = s.rd r i := by
  unfold State.safeEnter
  split
  · next hs =>
    have ha : s.Above 0x5000 (s.log 0x0201 0 (s.f F.FLT_STATUS_SAFE_CAUSE)) := State.Above.refl.log
    exact ⟨(ha.on _ _ (by decide)).trans hs, ha.time, fun r i hr _ => ha.rd r i hr⟩
  · obtain ⟨v, hv⟩ : ∃ v, v = (s.setf F.FLT_STATUS_SAFE 0 1).setf F.FLT_STATUS_SAFE_CAUSE 0 row := ⟨_, rfl⟩
    have hsafe : v.safe = true := by
      rw [hv]
      exact (State.on_setf_apart _ _ (by decide)).trans (State.on_setf_same _ _ _ _ (by decide))
    have hrd (r : Reg) (i : Nat) (hne : r.at i ≠ R.FLT_STATUS.at 0) : v.rd r i = s.rd r i := by
      rw [hv]
      exact (State.rd_wr_other _ _ hne).trans (State.rd_wr_other _ _ hne)
    have htime : v.time = s.time := by rw [hv]; rfl
    rw [← hv]
    clear hv
    extract_lets _ _ u1 u2 u3 u4 u5
    have hu1 : v.Above 0x5000 u1 := State.Above.refl.flt.showPins
    have hu3 : v.Above 0x5000 u3 := hu1.log.trigger.clampSet
    have ha : v.Above 0x5000 u5.showWakeHeld := hu3.railsSafe.winClose.setf.showWakeHeld
    exact ⟨(ha.on _ _ (by decide)).trans hsafe, ha.time.trans htime, fun r i hr hne => (ha.rd r i hr).trans (hrd r i hne)⟩

/-! ### The record -/

theorem leNat_lt (l : List Byte) : leNat l < 256 ^ l.length := by
  induction l with
  | nil => decide
  | cons b r ih =>
    have hb := b.isLt
    have hc : leNat (b :: r) = b.toNat + 256 * leNat r := rfl
    rw [hc, List.length_cons, pow_succ]
    omega

theorem leAt_lt (l : List Byte) (a n : Nat) : leAt l a n < 256 ^ n := by
  have h := leNat_lt (bytesAt l a n)
  rwa [show (bytesAt l a n).length = n from (List.length_map ..).trans List.length_range] at h

/-- A record written in the safe state brings it back, and leaves the rest of what the record said. -/
theorem State.fromSafe_fields (s : State) (b : Bool) (cause : Nat) {t : State}
    (ht : t = if b then (s.setf F.FLT_BOOT_FROM_SAFE 0 1).safeEnter cause else s) :
    s.RowsKept t ∧ t.on F.FLT_BOOT_LOADED = s.on F.FLT_BOOT_LOADED ∧ t.f F.FLT_HEEL_SEQ_SEQNUM = s.f F.FLT_HEEL_SEQ_SEQNUM ∧
    (b = true → t.on F.FLT_BOOT_FROM_SAFE = true ∧ t.safe = true) := by
  cases b with
  | false => subst ht; exact ⟨.refl, rfl, rfl, nofun⟩
  | true =>
    obtain ⟨u, hu⟩ : ∃ u, u = s.setf F.FLT_BOOT_FROM_SAFE 0 1 := ⟨_, rfl⟩
    have hku : s.RowsKept u := hu ▸ State.RowsKept.refl.setf
    have hself : u.on F.FLT_BOOT_FROM_SAFE = true := hu ▸ State.on_setf_same _ _ _ _ (by decide)
    have hloaded : u.on F.FLT_BOOT_LOADED = s.on F.FLT_BOOT_LOADED := hu ▸ State.on_setf_apart _ _ (by decide)
    have hseq : u.f F.FLT_HEEL_SEQ_SEQNUM = s.f F.FLT_HEEL_SEQ_SEQNUM := hu ▸ State.f_setf_apart _ _ (by decide)
    obtain ⟨hsafe, htime, hrd⟩ := u.safeEnter_fields cause
    have ht : t = u.safeEnter cause := by rw [ht, hu]; rfl
    rw [← ht] at hsafe htime hrd
    have hf (x : Fld) (i : Nat) (hx : x.reg.at i < 0x5000) (hn : x.reg.at i ≠ R.FLT_STATUS.at 0) : t.f x i = u.f x i :=
      congrArg (fun w => getBits w _ _) (hrd _ _ hx hn)
    have hon (x : Fld) (i : Nat) (hx : x.reg.at i < 0x5000) (hn : x.reg.at i ≠ R.FLT_STATUS.at 0) : t.on x i = u.on x i :=
      congrArg (· == 1) (hf x i hx hn)
    refine ⟨hku.trans ⟨htime, hrd _ _ (by decide) (by decide), fun r hr hur => ?_⟩, (hon _ _ (by decide) (by decide)).trans hloaded,
      (hf _ _ (by decide) (by decide)).trans hseq, fun _ => ⟨(hon _ _ (by decide) (by decide)).trans hself, hsafe⟩⟩
    have ha : R.FLTRr_STATUS.at r = 0x03404 + 0x10 * r := rfl
    have hs : R.FLT_STATUS.at 0 = 0x03004 := rfl
    exact (hon F.FLTRr_STATUS_UNCLEARED r (by change R.FLTRr_STATUS.at r < _; omega)
      (by change R.FLTRr_STATUS.at r ≠ _; omega)).trans hur

/-- What the record leaves in the registers. -/
structure State.RecordLoaded (l : List Byte) (t : State) : Prop where
  loaded : t.on F.FLT_BOOT_LOADED = true
  seq : t.f F.FLT_HEEL_SEQ_SEQNUM = leAt l 4 4
  rows : ∀ r, r < 256 → faultRowUsed r = true → (leAt l (128 + 2 * r) 2).testBit 15 = true → t.uncleared r = true
  fromSafe : (leAt l 25 1).testBit 0 = true → t.on F.FLT_BOOT_FROM_SAFE = true ∧ t.safe = true

theorem State.loadRecord_fields (s : State) (slot : Bool) (l : List Byte) : s.RowsKept (s.loadRecord slot l) ∧
    (s.loadRecord slot l).RecordLoaded l := by
  unfold State.loadRecord
  extract_lets u1 u2 u3 u4 u5
  obtain ⟨hk1, hrows⟩ := s.rowsKept_restoreRows l (n := 256) le_rfl
  have hk3 : u1.RowsKept u3 := State.RowsKept.refl.restorePairs.restoreLog.restoreJournal
  have hk5 : u3.RowsKept u5 := State.RowsKept.refl.setf.setb.setf.setf
  have hloaded : u5.on F.FLT_BOOT_LOADED = true := by
    unfold u5 u4
    rw [State.on_setf_apart _ _ (by decide), State.on_setf_apart _ _ (by decide), State.on_setb_apart _ _ (by decide)]
    exact State.on_setf_same _ _ _ _ (by decide)
  have hseq : u5.f F.FLT_HEEL_SEQ_SEQNUM = leAt l 4 4 :=
    (State.f_setf_same _ _ _ _ (by decide)).trans (Nat.mod_eq_of_lt (leAt_lt l 4 4))
  have hk15 := hk3.trans hk5
  clear_value u5
  obtain ⟨hk, hl, hs, hsafe⟩ := u5.fromSafe_fields ((leAt l 25 1).testBit 0) (leAt l 26 1) rfl
  have hk1t := hk15.trans hk
  exact ⟨hk1.trans hk1t, hl.trans hloaded, hs.trans hseq, fun r hr hused hb => hk1t.rows r hr (hrows r hr hused hb), hsafe⟩

/-! ### The load -/

theorem State.Above.treadStart {s₀ s : State} (h : s₀.Above 0x5000 s) {heel : Option (List Byte)} :
    s₀.Above 0x5000 (s.treadStart heel) := by
  unfold State.treadStart
  extract_lets ck ckSec sec _ u
  have hu : s₀.Above 0x5000 u := h.upd
  clear_value u sec
  cases sec with
  | none => exact hu
  | some l => exact hu.takeSection

theorem State.heelNewest_of_mram {s t : State} (h : t.flt.mram = s.flt.mram) : t.heelNewest = s.heelNewest := by
  unfold State.heelNewest State.heelValid State.heelSeq State.heelMagic
  rw [h]

theorem State.startCount_regs (s : State) (b : Word64) (resumed : Bool) :
    (s.startCount b resumed).regs = ((s.setf F.TIME_STATUS_STARTED 0 1).setb F.TIME_STATUS_RESUMED 0 resumed).regs := rfl

theorem State.startCount_fields (s : State) (b : Word64) (resumed : Bool) :
    (s.startCount b resumed).time.count = b + s.time.boot ∧ (s.startCount b resumed).started = true ∧
    (s.startCount b resumed).on F.TIME_STATUS_RESUMED = resumed := by
  refine ⟨rfl, ?_, ?_⟩
  · unfold State.started
    rw [State.on_of_regs (s.startCount_regs b resumed), State.on_setb_apart _ _ (by decide), State.on_setf_same _ _ _ _ (by decide)]
    rfl
  · rw [State.on_of_regs (s.startCount_regs b resumed), State.on_setb_same _ _ _ _ (by decide)]

/-- The state at the start of the load. -/
def State.mramReady (s : State) : State := { s with rst := { s.rst with mramReset := true } }

/-- What the newest record, or its absence, brings. -/
def State.heelTaken (s : State) : Option Bool → State
  | some b =>
    let l := memBytes s.flt.mram (heelAddr b) 8192
    ((s.startCount (BitVec.ofNat 64 (leAt l 8 8 + 1)) true).loadRecord b l).treadStart (some (bytesAt l 640 1024))
  | none => ((s.startCount 0 false).setb F.FLT_BOOT_EXPECTED_BAD 0 s.heelExpected).treadStart none

/-- The pins take up what was loaded. -/
def State.loadEnd (s : State) (newest : Option Bool) : State :=
  ({ s with flt := { s.flt with newest := newest, armed := true, pinHold := false } } : State).showPins.putStage 5

theorem State.heelLoad_eq (s : State) : s.heelLoad = (s.mramReady.heelTaken s.heelNewest).loadEnd s.heelNewest := rfl

theorem State.loadEnd_f (s : State) (newest : Option Bool) {x : Fld} {i : Nat} (h : Fld.Apart F.GOV_BOOT_STAGE 0 x i) :
    (s.loadEnd newest).f x i = s.f x i := (State.f_setf_apart _ _ h).trans (State.f_of_regs rfl _ _)

theorem State.loadEnd_on (s : State) (newest : Option Bool) {x : Fld} {i : Nat} (h : Fld.Apart F.GOV_BOOT_STAGE 0 x i) :
    (s.loadEnd newest).on x i = s.on x i := by
  unfold State.on
  rw [s.loadEnd_f newest h]

theorem State.loadEnd_time (s : State) (newest : Option Bool) : (s.loadEnd newest).time = s.time := rfl

/-- No record: the count starts at 0, and EXPECTED_BAD says whether there was to be one. -/
theorem State.heelTaken_none (s : State) : (s.heelTaken none).time.count = s.time.boot ∧ (s.heelTaken none).started = true ∧
    (s.heelTaken none).on F.TIME_STATUS_RESUMED = false ∧ (s.heelTaken none).on F.FLT_BOOT_EXPECTED_BAD = s.heelExpected := by
  obtain ⟨hcount, hstart, hres⟩ := s.startCount_fields 0 false
  have heq : s.heelTaken none = ((s.startCount 0 false).setb F.FLT_BOOT_EXPECTED_BAD 0 s.heelExpected).treadStart none := rfl
  generalize s.startCount 0 false = u at hcount hstart hres heq
  have ha : (u.setb F.FLT_BOOT_EXPECTED_BAD 0 s.heelExpected).Above 0x5000 (s.heelTaken none) := heq ▸ State.Above.refl.treadStart
  refine ⟨?_, ?_, ?_, (ha.on _ _ (by decide)).trans (State.on_setb_same _ _ _ _ (by decide))⟩
  · rw [ha.time, State.setb_time, hcount, zero_add]
  · exact (ha.on _ _ (by decide)).trans ((State.on_setb_apart _ _ (by decide)).trans hstart)
  · exact (ha.on _ _ (by decide)).trans ((State.on_setb_apart _ _ (by decide)).trans hres)

theorem State.RecordLoaded.above {l : List Byte} {s t : State} (h : s.RecordLoaded l) (ha : s.Above 0x5000 t) : t.RecordLoaded l := by
  refine ⟨(ha.on _ _ (by decide)).trans h.loaded, (ha.f _ _ (by decide)).trans h.seq, fun r hr hused hb => ?_, fun hb => ?_⟩
  · have hat : R.FLTRr_STATUS.at r = 0x03404 + 0x10 * r := rfl
    exact (ha.on F.FLTRr_STATUS_UNCLEARED r (by change R.FLTRr_STATUS.at r < _; omega)).trans (h.rows r hr hused hb)
  · obtain ⟨hfrom, hsafe⟩ := h.fromSafe hb
    exact ⟨(ha.on _ _ (by decide)).trans hfrom, (ha.on _ _ (by decide)).trans hsafe⟩

/-- A record: the count goes on after it, and its rows are marked again. -/
theorem State.heelTaken_some (s : State) {b : Bool} {l : List Byte} (hl : l = memBytes s.flt.mram (heelAddr b) 8192) :
    (s.heelTaken (some b)).time.count = BitVec.ofNat 64 (leAt l 8 8 + 1) + s.time.boot ∧ (s.heelTaken (some b)).started = true ∧
    (s.heelTaken (some b)).on F.TIME_STATUS_RESUMED = true ∧ (s.heelTaken (some b)).RecordLoaded l := by
  obtain ⟨hcount, hstart, hres⟩ := s.startCount_fields (BitVec.ofNat 64 (leAt l 8 8 + 1)) true
  have heq : s.heelTaken (some b) =
      ((s.startCount (BitVec.ofNat 64 (leAt l 8 8 + 1)) true).loadRecord b l).treadStart (some (bytesAt l 640 1024)) := hl ▸ rfl
  generalize s.startCount (BitVec.ofNat 64 (leAt l 8 8 + 1)) true = u at hcount hstart hres heq
  obtain ⟨hk, hrec⟩ := u.loadRecord_fields b l
  have ha : (u.loadRecord b l).Above 0x5000 (s.heelTaken (some b)) := heq ▸ State.Above.refl.treadStart
  have hon (x : Fld) (hx : x.reg = R.TIME_STATUS) : (s.heelTaken (some b)).on x = u.on x := by
    rw [ha.on _ _ (by rw [hx]; decide)]
    unfold State.on State.f
    rw [hx, hk.status]
  refine ⟨?_, (hon _ rfl).trans hstart, (hon _ rfl).trans hres, hrec.above ha⟩
  rw [ha.time, hk.time, hcount]

theorem State.RecordLoaded.loadEnd {l : List Byte} {s : State} (h : s.RecordLoaded l) (newest : Option Bool) :
    (s.loadEnd newest).RecordLoaded l := by
  refine ⟨(s.loadEnd_on _ (by decide)).trans h.loaded, (s.loadEnd_f _ (by decide)).trans h.seq, fun r hr hused hb => ?_, fun hb => ?_⟩
  · have hat : R.FLTRr_STATUS.at r = 0x03404 + 0x10 * r := rfl
    have hb' : R.GOV_BOOT.at 0 = 0x00028 := rfl
    exact (s.loadEnd_on _ (.inl (by change R.FLTRr_STATUS.at r ≠ R.GOV_BOOT.at 0; omega))).trans (h.rows r hr hused hb)
  · obtain ⟨hfrom, hsafe⟩ := h.fromSafe hb
    exact ⟨(s.loadEnd_on _ (by decide)).trans hfrom, (s.loadEnd_on _ (by decide)).trans hsafe⟩

/-- The state in which HOLD is charged. -/
def State.holdReady (s : State) (vshk hold : Nat) : State := (s.putHold vshk hold).setf F.GOV_BOOT_HOLD_OK 0 1

theorem heelLoad_loads (s : State) (vshk hold : Nat) (hc : s.rst.cold = false) (hs : s.stage = 3) (hlo : 3135 ≤ vshk)
    (hhi : vshk ≤ 3465) (hhold : vshk ≤ hold + 60) :
    Completes (.heelLoad vshk hold) s fun t => t.stage = 5 ∧ t.flt.armed = true ∧ t.flt.pinHold = false ∧ t.started = true ∧
      t.flt.newest = s.heelNewest ∧
      (s.heelNewest = none → t.time.count = s.time.boot ∧ t.on F.TIME_STATUS_RESUMED = false ∧
        t.on F.FLT_BOOT_EXPECTED_BAD = s.heelExpected) ∧
      (∀ b l, s.heelNewest = some b → l = memBytes s.flt.mram (heelAddr b) 8192 →
        t.time.count = BitVec.ofNat 64 (leAt l 8 8 + 1) + s.time.boot ∧ t.on F.TIME_STATUS_RESUMED = true ∧
        t.on F.FLT_BOOT_LOADED = true ∧ t.f F.FLT_HEEL_SEQ_SEQNUM = leAt l 4 4 ∧
        (∀ r, r < 256 → faultRowUsed r = true → (leAt l (128 + 2 * r) 2).testBit 15 = true → t.uncleared r = true) ∧
        ((leAt l 25 1).testBit 0 = true → t.on F.FLT_BOOT_FROM_SAFE = true ∧ t.safe = true)) := by
  have hg : (!s.rst.cold && s.stage == 3 && decide (3135 ≤ vshk) && decide (vshk ≤ 3465) && decide (vshk ≤ hold + 60)) = true := by
    simp [hc, hs, hlo, hhi, hhold]
  obtain ⟨u, hu⟩ : ∃ u, u = (s.holdReady vshk hold).mramReady := ⟨_, rfl⟩
  have hflt : u.flt = s.flt := by rw [hu]; rfl
  have htime : u.time = s.time := by rw [hu]; rfl
  have hexpected : u.heelExpected = s.heelExpected := by
    unfold State.heelExpected State.heelMagic
    rw [State.heelNewest_of_mram (congrArg FltSt.mram hflt), hflt]
  have heq : (s.holdReady vshk hold).heelLoad = (u.heelTaken s.heelNewest).loadEnd s.heelNewest := by
    rw [State.heelLoad_eq, ← hu]
    rfl
  have hstart : (u.heelTaken s.heelNewest).started = true := by
    cases s.heelNewest with
    | none => exact u.heelTaken_none.2.1
    | some b => exact (u.heelTaken_some rfl).2.1
  refine Completes.of_next rfl ((if_pos hg).trans heq) ⟨State.stage_putStage _ _ (by decide), rfl, rfl,
    (State.loadEnd_on _ _ (by decide)).trans hstart, rfl, fun hn => ?_, fun b l hn hl => ?_⟩
  · obtain ⟨hcount, -, hres, hexp⟩ := u.heelTaken_none
    rw [hn]
    refine ⟨?_, (State.loadEnd_on _ _ (by decide)).trans hres, (State.loadEnd_on _ _ (by decide)).trans (hexp.trans hexpected)⟩
    rw [State.loadEnd_time, hcount, htime]
  · obtain ⟨hcount, -, hres, hrec⟩ := u.heelTaken_some (b := b) (l := l) (by rw [hflt, hl])
    rw [hn]
    obtain ⟨hloaded, hseq, hrows, hfrom⟩ := hrec.loadEnd (some b)
    refine ⟨?_, (State.loadEnd_on _ _ (by decide)).trans hres, hloaded, hseq, hrows, hfrom⟩
    rw [State.loadEnd_time, hcount, htime]

end Sys2Proof.Machine
end

section
namespace Sys2Proof.Machine
open Sys2Proof

/-- Settles O60: each clause is the theorem on its command, and a warm reset that begins is taken apart into its parts. -/
theorem bootAndResets : Obligations.BootAndResets := by
  unfold Obligations.BootAndResets
  refine ⟨coldReset_keeps_mram, coldResetEnd_samples_straps, insoleTest_stage, heelLoad_loads, bootRomStart_stage,
    bootLoaderWord_answers, firmwareBoot_adopts, firmwareReady_runs, govSupplyLoss_forces_phases, fun s i cause hi hc => ?_,
    warmResetEnd_settles, dieReset_resets_die, dieReset_ignored, dieResetEnd_restores, adopt_ends_hold, govLockWrite_sets,
    jtagInstruction_tap⟩
  obtain ⟨hwaits, hextends, hresets⟩ := warmRequest_waits_extends_or_resets s i cause hi hc
  refine ⟨hwaits, hextends, fun hs hw => ?_⟩
  obtain ⟨t, ht, h⟩ := hresets hs hw
  exact ⟨t, ht, h.warm, h.cause_eq, h.at_eq, h.last, h.count, h.mram, h.cleared, h.kept, h.steps⟩

end Sys2Proof.Machine
end

section
/-! SUPPORT. Operations that write notes only: event-log entries, trace records, fault events and the registers that count
them. Credit, seams, islands, the Eyelet, the hang rings, the clock and the resets stay. -/
namespace Sys2Proof.Machine
open Sys2Proof

/-- From `s₀` to `s` only registers, the event log, trace queues, fault events and free values changed. -/
structure State.Noted (s₀ s : State) : Prop where
  crd : s.crd = s₀.crd
  seams : s.seams = s₀.seams
  islands : s.islands = s₀.islands
  eye : s.eye = s₀.eye
  hang : s.trc.hang = s₀.trc.hang
  time : s.time = s₀.time
  rst : s.rst = s₀.rst

variable {s₀ s : State}

theorem State.Noted.refl : s.Noted s := ⟨rfl, rfl, rfl, rfl, rfl, rfl, rfl⟩

theorem State.Noted.ite {c : Prop} [Decidable c] {t : State} (hs : s₀.Noted s) (ht : s₀.Noted t) :
    s₀.Noted (if c then s else t) := by
  split
  · exact hs
  · exact ht

theorem State.Noted.foldl {β : Type} {f : State → β → State} {l : List β} (h : s₀.Noted s)
    (hf : ∀ s x, s₀.Noted s → s₀.Noted (f s x)) : s₀.Noted (l.foldl f s) :=
  List.foldlRecOn (motive := s₀.Noted) l f h fun s hs x _ => hf s x hs

section
variable (h : s₀.Noted s)
include h

theorem State.Noted.wr {r : Reg} {i : Nat} {w : Word} : s₀.Noted (s.wr r i w) :=
  ⟨h.crd, h.seams, h.islands, h.eye, h.hang, h.time, h.rst⟩

theorem State.Noted.setf {x : Fld} {i v : Nat} : s₀.Noted (s.setf x i v) := h.wr

theorem State.Noted.incf {x : Fld} {i v : Nat} : s₀.Noted (s.incf x i v) := h.wr

theorem State.Noted.setPair {lo hi : Reg} {i v : Nat} : s₀.Noted (s.setPair lo hi i v) := h.wr.wr

theorem State.Noted.setSrc {k : Nat} {x : SrcSt} : s₀.Noted (s.setSrc k x) :=
  ⟨h.crd, h.seams, h.islands, h.eye, h.hang, h.time, h.rst⟩

theorem State.Noted.log {code unit arg : Nat} : s₀.Noted (s.log code unit arg) := by
  unfold State.log State.logAt
  extract_lets _ _ u1 u2 u3
  have hu1 : s₀.Noted u1 := h.setPair
  have hu3 : s₀.Noted u3 := (State.Noted.ite hu1.setf hu1).setf
  exact ⟨hu3.crd, hu3.seams, hu3.islands, hu3.eye, hu3.hang, hu3.time, hu3.rst⟩

theorem State.Noted.sysRec {typ idx value : Nat} {ext : Option Nat} : s₀.Noted (s.sysRec typ idx value ext) := by
  unfold State.sysRec
  exact .ite (.ite h.setSrc.incf h.setSrc) h

theorem State.Noted.faultA {row unit : Nat} {awl : Bool} : s₀.Noted (s.faultA row unit awl) := by
  unfold State.faultA
  refine .ite ?_ h
  extract_lets _ u1 _ _ u2 u3
  have hu2 : s₀.Noted u2 := ⟨h.crd, h.seams, h.islands, h.eye, h.hang, h.time, h.rst⟩
  have hu3 : s₀.Noted u3 := hu2.log
  clear_value u3
  exact hu3.sysRec

theorem State.Noted.fault {row unit : Nat} : s₀.Noted (s.fault row unit) := h.faultA

theorem State.Noted.awlUsed : s₀.Noted s.awlUsed := by
  unfold State.awlUsed
  exact .ite h.incf h.incf.setf

theorem State.Noted.queueRec {k : Nat} {r : TraceRec} : s₀.Noted (s.queueRec k r) := by
  unfold State.queueRec
  exact .ite h.setSrc h.setSrc.setPair

theorem State.Noted.trace {k typ idx value : Nat} {ext : Option Nat} : s₀.Noted (s.trace k typ idx value ext) := by
  unfold State.trace State.traceMany
  refine .ite (.ite h.setSrc ?_) h
  exact .ite h.setSrc.setSrc.setPair (.ite h.setSrc.setSrc (h.setSrc.foldl fun _ _ hs => hs.queueRec))

/-! ### What reads the same after notes -/

theorem State.Noted.station (n : Nat) : s.station n = s₀.station n := by
  unfold State.station
  rw [h.crd]

theorem State.Noted.cluster (c : Nat) : s.cluster c = s₀.cluster c := by
  unfold State.cluster
  rw [h.crd]

theorem State.Noted.seam (k : Nat) : s.seam k = s₀.seam k := by
  unfold State.seam
  rw [h.seams]

end

/-- The words in flight are in the stations, the clusters and the firmware's list of unit messages. -/
theorem State.inFlight_congr (src dst unit : Nat) (hs : ∀ n, s.station n = s₀.station n)
    (hc : ∀ c, s.cluster c = s₀.cluster c) (he : s.eye = s₀.eye) : s.inFlight src dst unit = s₀.inFlight src dst unit := by
  unfold State.inFlight
  rw [hs, hc, he]

theorem State.Noted.inFlight (h : s₀.Noted s) (src dst unit : Nat) : s.inFlight src dst unit = s₀.inFlight src dst unit :=
  State.inFlight_congr src dst unit h.station h.cluster h.eye

/-- A fault event of a row that the table assigns waits for the collector, injected or not. -/
theorem State.reported_faultA (s : State) {row : Nat} (unit : Nat) (awl : Bool) (h : faultRowUsed row = true) :
    (s.faultA row unit awl).reported row unit := by
  unfold State.faultA
  rw [if_pos h]
  extract_lets arg u1 e _ u2 u3
  unfold State.reported
  rw [State.sysRec_flt, show u3.flt = u2.flt from State.log_flt ..]
  exact mem_addFault u1.flt.pend e

end Sys2Proof.Machine
end

section
/-! SUPPORT. One tick of the tick generator (R33, R36, R574), and the pre-allocations at the opening of an epoch (R280). -/
namespace Sys2Proof.Machine
open Sys2Proof

/-- The clock after a tick that advances the count, or the boot count before the start, by `d`. -/
def State.clockAfter (s : State) (d : Nat) : TimeSt :=
  if s.started then { s.time with count := s.time.count + BitVec.ofNat 64 d, phase := s.nextPhase.1, acc := s.nextPhase.2 }
  else { s.time with boot := s.time.boot + BitVec.ofNat 64 d, phase := s.nextPhase.1, acc := s.nextPhase.2 }

theorem State.clockAfter_started {s : State} (h : s.started = true) (d : Nat) :
    (s.clockAfter d).count = s.time.count + BitVec.ofNat 64 d ∧ (s.clockAfter d).boot = s.time.boot := by
  unfold State.clockAfter
  rw [if_pos h]
  exact ⟨rfl, rfl⟩

theorem State.clockAfter_unstarted {s : State} (h : s.started = false) (d : Nat) :
    (s.clockAfter d).boot = s.time.boot + BitVec.ofNat 64 d ∧ (s.clockAfter d).count = s.time.count := by
  unfold State.clockAfter
  rw [h]
  exact ⟨rfl, rfl⟩

/-! ### The opening of an epoch -/

theorem State.openEpoch_pre (s : State) : ∃ p, s.openEpoch = { s with crd := { s.crd with pre := p } } := by
  unfold State.openEpoch State.sendPre
  split
  · exact ⟨_, rfl⟩
  · exact ⟨s.crd.pre, rfl⟩

theorem State.openEpoch_of_not {s : State} (h : ¬ (s.started = true ∧ s.now.toNat % 1000 = 0)) : s.openEpoch = s := by
  unfold State.openEpoch
  refine if_neg fun hc => h ?_
  simp only [Bool.and_eq_true, beq_iff_eq] at hc
  exact hc.1.1

theorem State.Above.openEpoch {lim : Nat} {s₀ s : State} (h : s₀.Above lim s) : s₀.Above lim s.openEpoch := by
  obtain ⟨p, hp⟩ := s.openEpoch_pre
  rw [hp]
  exact h.upd

/-! ### The tick -/

theorem State.tick_cold {s : State} (h : s.rst.cold = true) : s.tick = s := if_pos h

/-- An ordinary tick: no step of the count is pending. -/
theorem State.tick_ordinary {s : State} (hc : s.rst.cold = false) (hs : s.f F.TIME_STEP_STATUS ≠ 1) :
    s.tick = ({ s with time := s.clockAfter 1 } : State).openEpoch := by
  have hstep : (s.f F.TIME_STEP_STATUS == 1) = false := beq_false_of_ne hs
  unfold State.tick
  rw [if_neg (by rw [hc]; exact Bool.false_ne_true)]
  simp only [hstep, Bool.false_and, Bool.false_eq_true, if_false]
  rfl

section
variable {s₀ s : State} (h : s₀.Above 0x8000 s)
include h

theorem State.Above.jumpStorms {e : Nat} : s₀.Above 0x8000 (s.jumpStorms e) :=
  (h.foldl fun _ _ hs => hs.rollEpoch).foldl fun _ _ hs => hs.setWelt

theorem State.Above.stepOver {a b : Nat} : s₀.Above 0x8000 (s.stepOver a b) := by
  unfold State.stepOver
  exact .ite h.upd (.ite h.upd.jumpStorms h.upd.jumpStorms.upd)

end

/-- The state before the clock of a tick that steps: the boundaries that the step jumps over are dealt with. -/
def State.steppedOver (s : State) : State :=
  if s.started && decide (1 < s.f F.TIME_STEP_STEP_NS + 1) then
    s.stepOver s.time.count.toNat (s.time.count.toNat + (s.f F.TIME_STEP_STEP_NS + 1)) else s

theorem State.above_steppedOver (s : State) : s.Above 0x8000 s.steppedOver := .ite State.Above.refl.stepOver .refl

theorem State.started_steppedOver (s : State) : s.steppedOver.started = s.started := s.above_steppedOver.on _ _ (by decide)

/-- A tick that applies a pending step: the clock advances by STEP_NS + 1, and the step is done and logged. -/
theorem State.tick_stepping {s : State} (hc : s.rst.cold = false) (hs : s.f F.TIME_STEP_STATUS = 1) :
    s.tick = ((({ s.steppedOver with time := s.clockAfter (s.f F.TIME_STEP_STEP_NS + 1) } : State).setf F.TIME_STEP_STATUS 0 2).log
      0x0003 0 (s.f F.TIME_STEP_STEP_NS)).openEpoch := by
  have hstep : (s.f F.TIME_STEP_STATUS == 1) = true := beq_iff_eq.2 hs
  unfold State.clockAfter
  rw [← s.started_steppedOver]
  unfold State.tick
  rw [if_neg (by rw [hc]; exact Bool.false_ne_true)]
  simp only [hstep, Bool.true_and, if_true]
  rfl

/-- The count jumps by STEP_NS + 1, and the step is done. -/
theorem State.tick_step {s : State} (hc : s.rst.cold = false) (hs : s.f F.TIME_STEP_STATUS = 1) (hst : s.started = true) :
    s.tick.time.count = s.time.count + BitVec.ofNat 64 (s.f F.TIME_STEP_STEP_NS + 1) ∧ s.tick.f F.TIME_STEP_STATUS = 2 := by
  rw [State.tick_stepping hc hs]
  generalize hv : ({ s.steppedOver with time := s.clockAfter (s.f F.TIME_STEP_STEP_NS + 1) } : State) = v
  have ht := ((State.Above.refl (lim := 0x7E000) (s := v.setf F.TIME_STEP_STATUS 0 2)).log
    (code := 0x0003) (unit := 0) (arg := s.f F.TIME_STEP_STEP_NS)).openEpoch
  refine ⟨?_, ?_⟩
  · rw [ht.time, State.setf_time, ← hv]
    exact (State.clockAfter_started hst _).1
  · rw [ht.f _ _ (by decide), State.f_setf_same _ _ _ _ (by decide)]
    rfl

/-- The count after an ordinary tick, as a number. -/
theorem State.now_clockAfter {s : State} (hst : s.started = true) :
    ({ s with time := s.clockAfter 1 } : State).now = s.now + 1 := by
  unfold State.now
  rw [show ({ s with time := s.clockAfter 1 } : State).started = s.started from rfl, if_pos hst, if_pos hst]
  exact (State.clockAfter_started hst 1).1

/-- Settles O2: a tick is the clock's advance followed by the opening of an epoch, which sends pre-allocations alone. -/
theorem idleStepIsOneTick : Obligations.IdleStepIsOneTick := by
  refine ⟨fun s h => ?_, fun s h => State.tick_cold h, fun s hc hs hst => ?_, fun s hc hs hst => ?_,
    fun s hc hs hst => State.tick_step hc hs hst⟩
  case refine_1 =>
    unfold step
    rw [h]
  case refine_2 =>
    obtain ⟨hcount, hboot⟩ := State.clockAfter_started hst 1
    obtain ⟨p, hp⟩ := ({ s with time := s.clockAfter 1 } : State).openEpoch_pre
    rw [State.tick_ordinary hc hs]
    refine ⟨by rw [hp]; exact hcount, by rw [hp]; exact hboot, by rw [hp], by rw [hp], fun hm hlt => ?_⟩
    rw [State.openEpoch_of_not]
    rintro ⟨-, h0⟩
    rw [State.now_clockAfter hst, BitVec.toNat_add] at h0
    exact hm ((congrArg (· % 1000) (Nat.mod_eq_of_lt hlt)).symm.trans h0)
  case refine_3 =>
    obtain ⟨hboot, hcount⟩ := State.clockAfter_unstarted hst 1
    have hopen : ({ s with time := s.clockAfter 1 } : State).openEpoch = { s with time := s.clockAfter 1 } :=
      State.openEpoch_of_not fun h => Bool.false_ne_true (hst.symm.trans h.1)
    rw [State.tick_ordinary hc hs, hopen]
    exact ⟨hboot, hcount, rfl⟩

end Sys2Proof.Machine
end

section
/-! SUPPORT. The time base commands: TIME_TRIM, TIME_STEP, and the loss and return of REFCLK (R33 to R35, R574, R575). -/
namespace Sys2Proof.Machine
open Sys2Proof

/-! ### TIME_TRIM (R34) -/

theorem clampInt_of_mem {lo hi v : Int} (h1 : lo ≤ v) (h2 : v ≤ hi) : clampInt lo hi v = v := by
  unfold clampInt
  rw [if_neg (by omega), if_neg (by omega)]

/-- The trim register with a value, before what the clamping of it leaves. -/
def State.trimmed (s : State) (v : Int) : State := s.wr R.TIME_TRIM 0 (BitVec.ofInt 32 (clampInt (-8589935) 8589935 v))

theorem State.setTrim_inside (s : State) {v : Int} (h : -8589935 ≤ v ∧ v ≤ 8589935) : s.setTrim v = s.trimmed v := by
  unfold State.trimmed
  rw [clampInt_of_mem h.1 h.2]
  exact if_neg (by omega)

theorem State.setTrim_outside (s : State) {v : Int} (h : v < -8589935 ∨ 8589935 < v) :
    s.setTrim v = ((s.trimmed v).setf F.TIME_STATUS_TRIM_CLAMPED 0 1).log 0x0004 0 (BitVec.ofInt 32 v).toNat := if_pos h

theorem State.rd_trimmed (s : State) (v : Int) :
    (s.trimmed v).rd R.TIME_TRIM = BitVec.ofInt 32 (clampInt (-8589935) 8589935 v) := State.rd_wr_same ..

theorem State.setTrim_fields (s : State) (v : Int) :
    (s.setTrim v).rd R.TIME_TRIM = BitVec.ofInt 32 (clampInt (-8589935) 8589935 v) ∧ (s.setTrim v).time = s.time ∧
    (v < -8589935 ∨ 8589935 < v → (s.setTrim v).on F.TIME_STATUS_TRIM_CLAMPED = true) ∧
    (-8589935 ≤ v ∧ v ≤ 8589935 → (s.setTrim v).on F.TIME_STATUS_TRIM_CLAMPED = s.on F.TIME_STATUS_TRIM_CLAMPED) := by
  by_cases h : -8589935 ≤ v ∧ v ≤ 8589935
  · rw [s.setTrim_inside h]
    refine ⟨s.rd_trimmed v, rfl, fun hout => by omega, fun _ => ?_⟩
    unfold State.on
    rw [State.f, State.f, State.trimmed, State.rd_wr_other _ _ (by decide)]
  · rw [s.setTrim_outside (by omega)]
    have hl := (State.Above.refl (lim := 0x7E000) (s := (s.trimmed v).setf F.TIME_STATUS_TRIM_CLAMPED 0 1)).log
      (code := 0x0004) (unit := 0) (arg := (BitVec.ofInt 32 v).toNat)
    refine ⟨?_, by rw [hl.time]; rfl, fun _ => ?_, fun hin => absurd hin h⟩
    · rw [hl.rd _ _ (by decide), ← s.rd_trimmed v]
      exact State.rd_wr_other _ _ (by decide)
    · rw [hl.on _ _ (by decide), State.on_setf_same _ _ _ _ (by decide)]
      rfl

theorem timeTrimWrite_clamps (s : State) (w : Word) (h : s.portTakes R.TIME_TRIM 0 = true) :
    Completes (.timeTrimWrite true w) s fun t =>
      t.rd R.TIME_TRIM = BitVec.ofInt 32 (clampInt (-8589935) 8589935 w.toInt) ∧ t.rsp.err = false ∧ t.time = s.time ∧
      (w.toInt < -8589935 ∨ 8589935 < w.toInt → t.on F.TIME_STATUS_TRIM_CLAMPED = true) ∧
      (-8589935 ≤ w.toInt ∧ w.toInt ≤ 8589935 → t.on F.TIME_STATUS_TRIM_CLAMPED = s.on F.TIME_STATUS_TRIM_CLAMPED) := by
  obtain ⟨htrim, htime, hout, hin⟩ := s.setTrim_fields w.toInt
  exact .of_next rfl (State.cfgWrite_takes _ h) ⟨htrim, rfl, htime, hout, hin⟩

/-! ### TIME_STEP (R574, R575) -/

theorem writeTimeStep_pending {s : State} (w : Word) (h : s.f F.TIME_STEP_STATUS = 1) : writeTimeStep w s = (s, true) := if_pos h

theorem getBits_zero (w : Word) (len : Nat) : getBits w 0 len = w.toNat % 2 ^ len := by
  unfold getBits
  rw [BitVec.extractLsb'_toNat, Nat.shiftRight_zero]

/-- What a write of TIME_STEP leaves where no step is pending. -/
def State.stepWritten (s : State) (w : Word) : State :=
  (s.setf F.TIME_STEP_STEP_NS 0 (getBits w 0 30)).setf F.TIME_STEP_STATUS 0 (if s.on F.TIME_STATUS_ON_OSC then 3 else 1)

theorem writeTimeStep_idle {s : State} (w : Word) (h : s.f F.TIME_STEP_STATUS ≠ 1) :
    writeTimeStep w s = (s.stepWritten w, false) := by
  unfold writeTimeStep State.stepWritten
  rw [if_neg h]
  dsimp only
  rw [State.on_setf_apart _ _ (by decide)]

theorem State.stepWritten_fields (s : State) (w : Word) :
    (s.stepWritten w).f F.TIME_STEP_STATUS = (if s.on F.TIME_STATUS_ON_OSC then 3 else 1) ∧
    (s.stepWritten w).f F.TIME_STEP_STEP_NS = w.toNat % 2 ^ 30 := by
  unfold State.stepWritten
  constructor
  · rw [State.f_setf_same _ _ _ _ (by decide)]
    split <;> rfl
  · rw [State.f_setf_apart _ _ (by decide), State.f_setf_same _ _ _ _ (by decide), getBits_zero]
    exact Nat.mod_mod _ _

theorem timeStepWrite_pends (s : State) (w : Word) (h : s.portTakes R.TIME_STEP 0 = true) (hs : s.f F.TIME_STEP_STATUS ≠ 1) :
    Completes (.timeStepWrite true w) s fun t =>
      t.f F.TIME_STEP_STATUS = (if s.on F.TIME_STATUS_ON_OSC then 3 else 1) ∧ t.f F.TIME_STEP_STEP_NS = w.toNat % 2 ^ 30 ∧
      t.rsp.err = false ∧ { t with regs := s.regs, rsp := s.rsp } = s := by
  obtain ⟨hstatus, hns⟩ := s.stepWritten_fields w
  exact .of_next (u := (s.stepWritten w).respond false) rfl
    ((State.cfgWrite_takes _ h).trans (by rw [writeTimeStep_idle w hs])) ⟨hstatus, hns, rfl, rfl⟩

/-! ### REFCLK (R35) -/

theorem State.noticeCh_le (s : State) : s.noticeCh ≤ 7 := by
  unfold State.noticeCh
  dsimp only
  split <;> omega

/-- A notice writes the log's registers, those of its channel and its counters: none of the time base. -/
theorem State.timeStatus_notice (s : State) (kind subject arg : Nat) :
    (s.notice kind subject arg).rd R.TIME_STATUS = s.rd R.TIME_STATUS := by
  unfold State.notice
  split
  · exact State.rd_wr_other _ _ (by decide)
  · split
    · exact State.rd_wr_other _ _ (by decide)
    · extract_lets w u1 u2
      have hlog : u1.rd R.TIME_STATUS = s.rd R.TIME_STATUS :=
        ((State.Above.refl (lim := 0x7E000)).log).rd _ _ (by decide)
      have hqueued : u2.rd R.TIME_STATUS = u1.rd R.TIME_STATUS := State.rd_wr_other _ _ (by decide)
      have hch := u2.noticeCh_le
      have hat : R.TIME_STATUS.at 0 ≠ R.EYEc_STATUS.at u2.noticeCh := by
        have h1 : R.TIME_STATUS.at 0 = 0x02010 := rfl
        have h2 : R.EYEc_STATUS.at u2.noticeCh = 0x01110 + 0x20 * u2.noticeCh := rfl
        omega
      exact ((State.rd_wr_other _ _ hat).trans hqueued).trans hlog

theorem State.clearAligned_above (s : State) : s.Above 0x1010 s.clearAligned := by
  unfold State.clearAligned State.peer
  exact .ite State.Above.refl.upd.setf.notice State.Above.refl.upd

theorem State.timeStatus_clearAligned (s : State) : s.clearAligned.rd R.TIME_STATUS = s.rd R.TIME_STATUS := by
  unfold State.clearAligned State.peer
  dsimp only
  split
  · rw [State.timeStatus_notice]
    exact State.rd_wr_other _ _ (by decide)
  · rfl

/-- What follows the ticks that are left when REFCLK is lost, before the loss is reported. -/
def State.onOsc (s : State) : State :=
  { (((s.setf F.TIME_STATUS_ON_OSC 0 1).setf F.TIME_STATUS_REFCLK_LOST 0 1).setf F.GOV_BOOT_REFCLK_OK 0 0) with
    time := { s.time with phase := 0 } }

theorem State.onOsc_fields (s : State) : s.onOsc.on F.TIME_STATUS_ON_OSC = true ∧
    s.onOsc.on F.TIME_STATUS_REFCLK_LOST = true ∧ s.onOsc.on F.GOV_BOOT_REFCLK_OK = false := by
  have hregs : s.onOsc.regs =
      (((s.setf F.TIME_STATUS_ON_OSC 0 1).setf F.TIME_STATUS_REFCLK_LOST 0 1).setf F.GOV_BOOT_REFCLK_OK 0 0).regs := rfl
  simp only [State.on_of_regs hregs]
  refine ⟨?_, ?_, ?_⟩
  · rw [State.on_setf_apart _ _ (by decide), State.on_setf_apart _ _ (by decide), State.on_setf_same _ _ _ _ (by decide)]
    rfl
  · rw [State.on_setf_apart _ _ (by decide), State.on_setf_same _ _ _ _ (by decide)]
    rfl
  · rw [State.on_setf_same _ _ _ _ (by decide)]
    rfl

theorem execRefclkLost_eq {s : State} (hc : s.rst.cold = false) (ho : s.on F.TIME_STATUS_ON_OSC = false) :
    execRefclkLost s = .next (((s.ticks s.phasesLeft).onOsc.clearAligned.log 0x0001 0 0).fault 0x0A 0) := by
  unfold execRefclkLost
  rw [if_pos (by rw [hc, ho]; rfl)]
  rfl

theorem refclkLost_fields (s : State) (hc : s.rst.cold = false) (ho : s.on F.TIME_STATUS_ON_OSC = false) :
    Completes .refclkLost s fun t =>
      t.on F.TIME_STATUS_ON_OSC = true ∧ t.on F.TIME_STATUS_REFCLK_LOST = true ∧ t.on F.GOV_BOOT_REFCLK_OK = false ∧
      t.reported 0x0A 0 ∧ t.time.count = (s.ticks (9 - s.time.phase)).time.count ∧
      t.time.boot = (s.ticks (9 - s.time.phase)).time.boot ∧ t.time.phase = 0 := by
  refine .of_next (execRefclkLost_eq hc ho) rfl ?_
  change _ ∧ _ ∧ _ ∧ _ ∧ _ = (s.ticks s.phasesLeft).time.count ∧ _ = (s.ticks s.phasesLeft).time.boot ∧ _
  generalize s.ticks s.phasesLeft = u
  obtain ⟨hosc, hlost, hok⟩ := u.onOsc_fields
  have ha := u.onOsc.clearAligned_above
  have hst := u.onOsc.timeStatus_clearAligned
  have htime : u.onOsc.time = { u.time with phase := 0 } := rfl
  generalize u.onOsc = v at hosc hlost hok ha hst htime
  have ht : v.clearAligned.Above 0x7E000 ((v.clearAligned.log 0x0001 0 0).fault 0x0A 0) := State.Above.refl.log.fault
  have hon (x : Fld) (hx : x.reg = R.TIME_STATUS) :
      ((v.clearAligned.log 0x0001 0 0).fault 0x0A 0).on x = v.on x := by
    rw [ht.on _ _ (by rw [hx]; decide)]
    unfold State.on State.f
    rw [hx, hst]
  have hclock := ht.time.trans (ha.time.trans htime)
  refine ⟨(hon _ rfl).trans hosc, (hon _ rfl).trans hlost, ?_, State.reported_fault _ _ (by decide), ?_, ?_, ?_⟩
  · exact (ht.on _ _ (by decide)).trans ((ha.on _ _ (by decide)).trans hok)
  · rw [hclock]
  · rw [hclock]
  · rw [hclock]

/-- What the return of REFCLK leaves, before it is logged. -/
def State.onRefclk (s : State) : State :=
  { ((s.setf F.TIME_STATUS_ON_OSC 0 0).setf F.GOV_BOOT_REFCLK_OK 0 1) with time := { s.time with phase := 0 } }

theorem State.onRefclk_fields (s : State) : s.onRefclk.on F.TIME_STATUS_ON_OSC = false ∧
    s.onRefclk.on F.GOV_BOOT_REFCLK_OK = true ∧
    s.onRefclk.on F.TIME_STATUS_REFCLK_LOST = s.on F.TIME_STATUS_REFCLK_LOST := by
  have hregs : s.onRefclk.regs = ((s.setf F.TIME_STATUS_ON_OSC 0 0).setf F.GOV_BOOT_REFCLK_OK 0 1).regs := rfl
  simp only [State.on_of_regs hregs]
  refine ⟨?_, ?_, ?_⟩
  · rw [State.on_setf_apart _ _ (by decide), State.on_setf_same _ _ _ _ (by decide)]
    rfl
  · rw [State.on_setf_same _ _ _ _ (by decide)]
    rfl
  · rw [State.on_setf_apart _ _ (by decide), State.on_setf_apart _ _ (by decide)]

theorem execRefclkRestored_eq {s : State} (hc : s.rst.cold = false) (ho : s.on F.TIME_STATUS_ON_OSC = true) :
    execRefclkRestored s = .next (s.onRefclk.log 0x0002 0 0) := by
  unfold execRefclkRestored
  rw [if_pos (by rw [hc, ho]; rfl)]
  rfl

theorem refclkRestored_fields (s : State) (hc : s.rst.cold = false) (ho : s.on F.TIME_STATUS_ON_OSC = true) :
    Completes .refclkRestored s fun t =>
      t.on F.TIME_STATUS_ON_OSC = false ∧ t.on F.GOV_BOOT_REFCLK_OK = true ∧ t.time.count = s.time.count ∧
      t.on F.TIME_STATUS_REFCLK_LOST = s.on F.TIME_STATUS_REFCLK_LOST := by
  obtain ⟨hosc, hok, hlost⟩ := s.onRefclk_fields
  have ht : s.onRefclk.Above 0x7E000 (s.onRefclk.log 0x0002 0 0) := State.Above.refl.log
  refine .of_next (execRefclkRestored_eq hc ho) rfl ⟨?_, ?_, by rw [ht.time]; rfl, ?_⟩
  · exact (ht.on _ _ (by decide)).trans hosc
  · exact (ht.on _ _ (by decide)).trans hok
  · exact (ht.on _ _ (by decide)).trans hlost

/-- Settles O10: each clause is the theorem on its command; a pending step is applied by the tick that steps. -/
theorem timeBaseCommands : Obligations.TimeBaseCommands := by
  refine ⟨timeTrimWrite_clamps, fun s w h hs => ?_, timeStepWrite_pends, fun s hc hst hs => ?_, refclkLost_fields,
    refclkRestored_fields⟩
  · exact congrArg _ ((State.cfgWrite_takes _ h).trans (by rw [writeTimeStep_pending w hs]))
  · exact .of_next rfl (if_pos hs) (State.tick_step hc hs hst)

end Sys2Proof.Machine
end

section
/-! SUPPORT. GRANT_RECEIVE: what a grant does to a station's bucket and to the credit it returns (R28, R82, R83). -/
namespace Sys2Proof.Machine
open Sys2Proof

/-! ### Buckets (R60) -/

/-- A write of another register leaves a station's buckets. -/
theorem State.bucket_setf_reg (s : State) {x : Fld} {i n : Nat} (p v : Nat) (h : R.CRDSn_BUCKET.at n ≠ x.reg.at i) :
    (s.setf x i v).bucket n p = s.bucket n p := by
  unfold State.bucket
  rw [State.f_setf_reg (y := F.CRDSn_BUCKET_BUCKET0) _ _ h, State.f_setf_reg (y := F.CRDSn_BUCKET_BUCKET1) _ _ h]

section
variable (s : State) (n v : Nat) {p : Nat}

theorem State.bucket_setBucket_same (hv : v < 65536) : (s.setBucket n p v).bucket n p = v := by
  unfold State.setBucket State.bucket
  split
  · rw [State.f_setf_same _ _ _ _ (by decide)]
    exact Nat.mod_eq_of_lt hv
  · rw [State.f_setf_same _ _ _ _ (by decide)]
    exact Nat.mod_eq_of_lt hv

theorem State.bucket_setBucket_other {q : Nat} (h : (p = 0) ≠ (q = 0)) : (s.setBucket n p v).bucket n q = s.bucket n q := by
  unfold State.setBucket State.bucket
  by_cases hp : p = 0
  · have hq : q ≠ 0 := fun hq => h (by rw [hp, hq])
    rw [if_pos hp, if_neg hq, if_neg hq]
    exact State.f_setf_field _ _ _ (by decide) rfl (by decide)
  · have hq : q = 0 := by
      by_contra hq
      exact h (by simp [hp, hq])
    rw [if_neg hp, if_pos hq, if_pos hq]
    exact State.f_setf_field _ _ _ (by decide) rfl (by decide)

theorem State.setBucket_crd : (s.setBucket n p v).crd = s.crd := by
  unfold State.setBucket
  split <;> rfl

theorem State.station_setBucket (m : Nat) : (s.setBucket n p v).station m = s.station m := by
  unfold State.station
  rw [State.setBucket_crd]

theorem State.cap_setBucket : (s.setBucket n p v).cap n = s.cap n := by
  have hat : R.CRDSn_CFG.at n ≠ R.CRDSn_BUCKET.at n := by
    have h1 : R.CRDSn_CFG.at n = 0x11000 + 0x20 * n := rfl
    have h2 : R.CRDSn_BUCKET.at n = 0x11008 + 0x20 * n := rfl
    omega
  unfold State.setBucket State.cap
  split
  · rw [State.f_setf_reg (x := F.CRDSn_BUCKET_BUCKET0) (y := F.CRDSn_CFG_CAP) _ _ hat]
  · rw [State.f_setf_reg (x := F.CRDSn_BUCKET_BUCKET1) (y := F.CRDSn_CFG_CAP) _ _ hat]

/-- A cap fits the bucket's field. -/
theorem State.capOf_lt : s.capOf n < 65536 := by
  have h : s.f F.CRDSn_CFG_CAP n < 2 ^ 12 := getBits_lt ..
  unfold State.capOf State.cap
  split <;> omega

end

/-! ### A grant is added (R82) -/

theorem State.addGrant_zero (s : State) (n p : Nat) : s.addGrant n p 0 = s := by
  unfold State.addGrant
  exact if_pos rfl

/-- A grant of some credit fills a bucket up to its cap; the excess is to be returned. -/
theorem State.addGrant_bucket (s : State) (n p : Nat) {g : Nat} (hg : 0 < g) :
    (s.addGrant n p g).bucket n p = min (s.bucket n p + g) (s.capOf n) := by
  have hcap := s.capOf_lt n
  unfold State.addGrant
  dsimp only
  rw [if_neg (by omega)]
  split
  · rw [State.bucket_setBucket_same _ _ _ hcap]
    omega
  · rw [State.bucket_setBucket_same _ _ _ (by omega)]
    omega

theorem State.addGrant_station (s : State) (n p : Nat) {g : Nat} (hg : 0 < g) : (s.addGrant n p g).station n =
    { s.station n with toReturn := (s.station n).toReturn + (s.bucket n p + g - s.capOf n) } := by
  unfold State.addGrant
  dsimp only
  rw [if_neg (by omega)]
  split
  · rw [State.station_setBucket, State.station_setStation_same]
  · rw [State.station_setBucket, show s.bucket n p + g - s.capOf n = 0 by omega]
    rfl

/-- A grant leaves the other sub-bucket, the other stations and the caps. -/
theorem State.addGrant_frame (s : State) (n p g : Nat) :
    (∀ q, (p = 0) ≠ (q = 0) → (s.addGrant n p g).bucket n q = s.bucket n q) ∧
    (∀ m, m ≠ n → (s.addGrant n p g).station m = s.station m) ∧ (s.addGrant n p g).cap n = s.cap n := by
  unfold State.addGrant
  dsimp only
  split
  · exact ⟨fun _ _ => rfl, fun _ _ => rfl, rfl⟩
  · split
    · refine ⟨fun q hq => ?_, fun m hm => ?_, State.cap_setBucket ..⟩
      · exact State.bucket_setBucket_other _ _ _ hq
      · rw [State.station_setBucket, State.station_setStation_other _ _ hm]
    · exact ⟨fun q hq => State.bucket_setBucket_other _ _ _ hq, fun m _ => State.station_setBucket .., State.cap_setBucket ..⟩

/-! ### A grant is discarded (R83) -/

theorem State.discardGrant_fields (s : State) (n g : Nat) :
    (s.discardGrant n g).station n = { s.station n with toReturn := (s.station n).toReturn + g, stale := true } ∧
    (∀ m, m ≠ n → (s.discardGrant n g).station m = s.station m) ∧ (∀ p, (s.discardGrant n g).bucket n p = s.bucket n p) ∧
    (s.discardGrant n g).f F.CRD_STALE_COUNT_GRANT = (s.f F.CRD_STALE_COUNT_GRANT + 1) % 65536 := by
  have hbucket : R.CRDSn_BUCKET.at n = 0x11008 + 0x20 * n := rfl
  have hstatus : R.CRDSn_STATUS.at n = 0x1100C + 0x20 * n := rfl
  have hcount : R.CRD_STALE_COUNT.at 0 = 0x1002C := rfl
  unfold State.discardGrant State.incf
  refine ⟨State.station_setStation_same .., fun m hm => State.station_setStation_other _ _ hm, fun p => ?_, ?_⟩
  · rw [State.bucket_setf_reg _ _ _ (by change _ ≠ R.CRDSn_STATUS.at n; omega),
      State.bucket_setf_reg _ _ _ (by change _ ≠ R.CRD_STALE_COUNT.at 0; omega)]
    rfl
  · rw [State.f_setf_reg _ _ (by change R.CRD_STALE_COUNT.at 0 ≠ R.CRDSn_STATUS.at n; omega),
      State.f_setf_same _ _ _ _ (by decide)]
    rfl

/-! ### The grant word reaches its station (R28) -/

/-- The station has taken its oldest grant word from the seam. -/
def State.grantTaken (s : State) (n : Nat) (rest : List Word64) : State :=
  s.setStation n { s.station n with grants := rest }

/-- The credit of a grant word is added, whole or in its two parts. -/
def State.grantAdded (s : State) (n : Nat) (split : Bool) (w : Word64) : State :=
  if split then (s.addGrant n 0 (w.toNat % 65536)).addGrant n 1 (w.toNat / 65536 % 65536)
  else s.addGrant n 0 (w.toNat % 65536 + w.toNat / 65536 % 65536)

section
variable {s : State} {n : Nat} {w : Word64} {rest : List Word64}

theorem State.station_grantTaken : (s.grantTaken n rest).station n = { s.station n with grants := rest } :=
  State.station_setStation_same ..

theorem State.station_grantTaken_other {m : Nat} (h : m ≠ n) : (s.grantTaken n rest).station m = s.station m :=
  State.station_setStation_other _ _ h

variable (hw : (s.station n).grants = w :: rest) (hup : s.coreUp n = true) (hfree : s.seamFree 1 2 n = true)
include hw hup hfree

theorem execGrantReceive_stale (h : w.toNat / 2 ^ 54 % 256 ≠ s.roleEpoch n ∨ w.toNat / 2 ^ 48 % 64 ≠ s.epoch % 64 ∨
      (s.station n).reported = false) :
    execGrantReceive n s = .next ((s.grantTaken n rest).discardGrant n (w.toNat % 65536 + w.toNat / 65536 % 65536)) := by
  unfold execGrantReceive
  dsimp only
  rw [hw]
  dsimp only
  rw [if_pos (by rw [hup, hfree]; rfl)]
  exact congrArg _ (if_pos h)

theorem execGrantReceive_current (h1 : w.toNat / 2 ^ 54 % 256 = s.roleEpoch n) (h2 : w.toNat / 2 ^ 48 % 64 = s.epoch % 64)
    (h3 : (s.station n).reported = true) :
    execGrantReceive n s = .next (((s.grantTaken n rest).grantAdded n (s.station n).split w).hang n 0x01
      (min ((w.toNat % 65536 + w.toNat / 65536 % 65536) / 16) 255)) := by
  have h : ¬ (w.toNat / 2 ^ 54 % 256 ≠ s.roleEpoch n ∨ w.toNat / 2 ^ 48 % 64 ≠ s.epoch % 64 ∨ (s.station n).reported = false) := by
    rw [h3]
    exact fun h => h.elim (· h1) fun h => h.elim (· h2) fun h => Bool.false_ne_true h.symm
  unfold execGrantReceive
  dsimp only
  rw [hw]
  dsimp only
  rw [if_pos (by rw [hup, hfree]; rfl)]
  exact congrArg _ (if_neg h)

end

/-- A whole grant. -/
theorem State.grantAdded_whole (s : State) (n : Nat) {w : Word64} (hs : (s.station n).split = false)
    (hg : 0 < w.toNat % 65536 + w.toNat / 65536 % 65536) :
    (s.grantAdded n false w).bucket n 0 = min (s.bucket n 0 + (w.toNat % 65536 + w.toNat / 65536 % 65536)) (s.cap n) ∧
    (s.grantAdded n false w).station n = { s.station n with toReturn := (s.station n).toReturn +
      (s.bucket n 0 + (w.toNat % 65536 + w.toNat / 65536 % 65536) - s.cap n) } ∧
    ∀ m, m ≠ n → (s.grantAdded n false w).station m = s.station m := by
  have hcap : s.capOf n = s.cap n := by
    unfold State.capOf
    rw [hs]
    rfl
  unfold State.grantAdded
  rw [if_neg Bool.false_ne_true, ← hcap]
  exact ⟨s.addGrant_bucket n 0 hg, s.addGrant_station n 0 hg, (s.addGrant_frame n 0 _).2.1⟩

/-- The two parts of a grant: the second meets the first's sub-bucket filled, and the cap unchanged. -/
theorem State.grantAdded_split (s : State) (n : Nat) {w : Word64} (hs : (s.station n).split = true) (h0 : 0 < w.toNat % 65536)
    (h1 : 0 < w.toNat / 65536 % 65536) :
    (s.grantAdded n true w).bucket n 0 = min (s.bucket n 0 + w.toNat % 65536) (s.cap n / 2) ∧
    (s.grantAdded n true w).bucket n 1 = min (s.bucket n 1 + w.toNat / 65536 % 65536) (s.cap n / 2) ∧
    (s.grantAdded n true w).station n = { s.station n with toReturn := (s.station n).toReturn +
      (s.bucket n 0 + w.toNat % 65536 - s.cap n / 2) + (s.bucket n 1 + w.toNat / 65536 % 65536 - s.cap n / 2) } := by
  have hcap : s.capOf n = s.cap n / 2 := if_pos hs
  obtain ⟨hother, -, hkeep⟩ := s.addGrant_frame n 0 (w.toNat % 65536)
  have hb0 := s.addGrant_bucket n 0 h0
  have hst := s.addGrant_station n 0 h0
  have hb1 := hother 1 (by decide)
  unfold State.grantAdded
  rw [if_pos rfl]
  generalize s.addGrant n 0 (w.toNat % 65536) = u at *
  have hcap' : u.capOf n = s.cap n / 2 := by
    unfold State.capOf
    rw [hst, hkeep]
    exact if_pos hs
  obtain ⟨hother', -, -⟩ := u.addGrant_frame n 1 (w.toNat / 65536 % 65536)
  refine ⟨?_, ?_, ?_⟩
  · rw [hother' 0 (by decide), hb0, hcap]
  · rw [u.addGrant_bucket n 1 h1, hb1, hcap']
  · rw [u.addGrant_station n 1 h1, hst, hb1, hcap, hcap']

theorem State.grantAdded_nothing (s : State) (n : Nat) (split : Bool) {w : Word64} (h0 : w.toNat % 65536 = 0)
    (h1 : w.toNat / 65536 % 65536 = 0) : s.grantAdded n split w = s := by
  unfold State.grantAdded
  rw [h0, h1, State.addGrant_zero, State.addGrant_zero, ite_self]

/-- Settles O17: a current grant is added, whole, in two parts or with nothing in it; any other is discarded. -/
theorem grantsReachStations : Obligations.GrantsReachStations := by
  intro s n w rest hw hup hfree
  have hst : (s.grantTaken n rest).station n = { s.station n with grants := rest } := State.station_grantTaken
  have hrest : ∀ m, m ≠ n → (s.grantTaken n rest).station m = s.station m := fun m hm => State.station_grantTaken_other hm
  refine ⟨fun h1 h2 h3 hs hg => ?_, fun h1 h2 h3 hs h0 h0' => ?_, fun h1 h2 h3 h0 h0' => ?_, fun h => ?_⟩
  case refine_1 =>
    obtain ⟨hb, hn, hm⟩ := (s.grantTaken n rest).grantAdded_whole n (w := w) (by rw [hst]; exact hs) hg
    refine .of_next (execGrantReceive_current hw hup hfree h1 h2 h3) rfl ?_
    rw [hs]
    refine ⟨?_, fun m h => (hm m h).trans (hrest m h), hb, ?_⟩
    · exact (congrArg StationSt.grants hn).trans (congrArg StationSt.grants hst)
    · refine (congrArg StationSt.toReturn hn).trans ?_
      rw [hst]
      rfl
  case refine_2 =>
    obtain ⟨hb, hb', hn⟩ := (s.grantTaken n rest).grantAdded_split n (w := w) (by rw [hst]; exact hs) h0 h0'
    refine .of_next (execGrantReceive_current hw hup hfree h1 h2 h3) rfl ?_
    rw [hs]
    refine ⟨?_, hb, hb', ?_⟩
    · exact (congrArg StationSt.grants hn).trans (congrArg StationSt.grants hst)
    · refine (congrArg StationSt.toReturn hn).trans ?_
      rw [hst]
      rfl
  case refine_3 =>
    refine .of_next (execGrantReceive_current hw hup hfree h1 h2 h3) rfl ?_
    rw [State.grantAdded_nothing _ _ _ h0 h0']
    exact ⟨congrArg StationSt.grants hst, rfl, rfl, (congrArg StationSt.toReturn hst).trans rfl⟩
  case refine_4 =>
    obtain ⟨hn, hm, hb, hcount⟩ := (s.grantTaken n rest).discardGrant_fields n (w.toNat % 65536 + w.toNat / 65536 % 65536)
    rw [hst] at hn
    refine .of_next (execGrantReceive_stale hw hup hfree h) rfl ⟨?_, hb 0, hb 1, ?_, fun m h => (hm m h).trans (hrest m h), ?_, hcount⟩
    all_goals rw [hn]

end Sys2Proof.Machine
end

section
/-! SUPPORT. Ramp allowances: the word sent for the next window, the word received, and the start of a window (R28, R86 to R90,
R92). -/
namespace Sys2Proof.Machine
open Sys2Proof

/-! ### The allowance of the next window (R86, R92) -/

/-- The allowance and pacing of the next window are on their way to the cluster's stations. -/
def State.allowanceSent (s : State) (c : Nat) : State :=
  s.setCluster c { s.cluster c with
    forWindow := s.window + 2, pace := (s.paceAfter c (s.allowance c)).1, paceRun := (s.paceAfter c (s.allowance c)).2,
    words := (s.cluster c).words ++ [rampWord ((s.window + 1) % 256) (s.paceAfter c (s.allowance c)).1 (s.allowance c)] }

/-- The allowance is sent, and traced where the cluster is the selected one. -/
theorem execRampAllowanceCompute_sends {s : State} {c : Nat} (hc : c < Config.clusterCount) (hd : s.dieUp = true)
    (hst : s.started = true) (hw : (s.cluster c).forWindow < s.window + 2) :
    ∃ t, execRampAllowanceCompute c s = .next t ∧ (s.allowanceSent c).Noted t := by
  have hg : (decide (c < Config.clusterCount) && s.dieUp && s.started && decide ((s.cluster c).forWindow < s.window + 1 + 1)) = true := by
    simp [hc, hd, hst, hw]
  unfold execRampAllowanceCompute
  dsimp only
  rw [if_pos hg]
  exact ⟨_, rfl, .ite State.Noted.refl.trace .refl⟩

theorem rampAllowanceCompute_sends (s : State) (c : Nat) (hc : c < Config.clusterCount) (hd : s.dieUp = true)
    (hst : s.started = true) (hw : (s.cluster c).forWindow < s.window + 2) : Completes (.rampAllowanceCompute c) s fun t =>
      (t.cluster c).words = (s.cluster c).words ++ [rampWord ((s.window + 1) % 256) (s.paceAfter c (s.allowance c)).1 (s.allowance c)] ∧
      (t.cluster c).pace = (s.paceAfter c (s.allowance c)).1 ∧ (t.cluster c).paceRun = (s.paceAfter c (s.allowance c)).2 ∧
      (t.cluster c).forWindow = s.window + 2 ∧ (t.cluster c).pool = (s.cluster c).pool ∧
      (∀ d, d ≠ c → t.cluster d = s.cluster d) ∧ ∀ n, t.station n = s.station n := by
  obtain ⟨t, ht, hn⟩ := execRampAllowanceCompute_sends hc hd hst hw
  have hcl := (hn.cluster c).trans (State.cluster_setCluster_same ..)
  refine .of_next ht rfl ⟨?_, ?_, ?_, ?_, ?_, fun d h => (hn.cluster d).trans (State.cluster_setCluster_other _ _ h), hn.station⟩
  all_goals rw [hcl]

theorem execRampAllowanceCompute_sent {s : State} {c : Nat} (h : s.window + 2 ≤ (s.cluster c).forWindow) :
    execRampAllowanceCompute c s = .next s := by
  unfold execRampAllowanceCompute
  refine congrArg _ (if_neg ?_)
  have hn : ¬ (s.cluster c).forWindow < s.window + 1 + 1 := by omega
  rw [decide_eq_false hn, Bool.and_false]
  exact Bool.false_ne_true

/-! ### An allowance arrives (R28, R87) -/

theorem State.showRamp_fields (s : State) (c a pace : Nat) : (s.showRamp c a pace).f F.CRDCc_STATUS_ALLOW c = a % 65536 ∧
    (s.showRamp c a pace).f F.CRDCc_STATUS_PACE_EFF c = pace % 4 := by
  unfold State.showRamp
  constructor
  · rw [State.f_setf_field (x := F.CRDCc_STATUS_PACE_EFF) (y := F.CRDCc_STATUS_ALLOW) _ _ _ (by decide) rfl (by decide),
      State.f_setf_same _ _ _ _ (by decide)]
    rfl
  · rw [State.f_setf_same _ _ _ _ (by decide)]
    rfl

/-- What the oldest allowance word does to its cluster: it leaves the seam, and opens or waits for the window of its tag. -/
def State.allowanceTaken (s : State) (c : Nat) (w : Word64) (rest : List Word64) : State :=
  let k := s.cluster c
  if w.toNat / 2 ^ 48 % 256 = s.window % 256 then
    (s.setCluster c { k with words := rest, pool := w.toNat % 65536 }).showRamp c (w.toNat % 65536) (w.toNat / 2 ^ 18 % 4)
  else if w.toNat / 2 ^ 48 % 256 = (s.window + 1) % 256 then
    s.setCluster c { k with words := rest, next := some (w.toNat / 2 ^ 48 % 256, w.toNat % 65536, w.toNat / 2 ^ 18 % 4) }
  else s.setCluster c { k with words := rest }

theorem execRampAllowanceReceive_eq {s : State} {c : Nat} {w : Word64} {rest : List Word64} (hw : (s.cluster c).words = w :: rest)
    (hc : c < Config.clusterCount) (hd : s.dieUp = true) (hf : s.seamFree 1 2 (0x400 + c) = true) :
    execRampAllowanceReceive c s = .next (s.allowanceTaken c w rest) := by
  unfold execRampAllowanceReceive
  dsimp only
  rw [hw]
  dsimp only
  rw [if_pos (by simp [hc, hd, hf])]
  rfl

/-- A cluster's account after its word is taken; every other account and every station stays. -/
theorem State.allowanceTaken_frame (s : State) (c : Nat) (w : Word64) (rest : List Word64) :
    ((s.allowanceTaken c w rest).cluster c).words = rest ∧ (∀ d, d ≠ c → (s.allowanceTaken c w rest).cluster d = s.cluster d) ∧
    ∀ n, (s.allowanceTaken c w rest).station n = s.station n := by
  have hset (u : State) (x : ClusterSt) (hu : u.crd = (s.setCluster c x).crd) : (u.cluster c).words = x.words ∧
      (∀ d, d ≠ c → u.cluster d = s.cluster d) ∧ ∀ n, u.station n = s.station n := by
    unfold State.cluster State.station
    rw [hu]
    exact ⟨congrArg ClusterSt.words (State.cluster_setCluster_same s c x), fun d h => State.cluster_setCluster_other s x h,
      fun _ => rfl⟩
  unfold State.allowanceTaken
  dsimp only
  split
  · exact hset _ _ rfl
  · split
    · exact hset _ _ rfl
    · exact hset _ _ rfl

theorem State.allowanceTaken_present (s : State) (c : Nat) {w : Word64} (rest : List Word64)
    (h : w.toNat / 2 ^ 48 % 256 = s.window % 256) :
    ((s.allowanceTaken c w rest).cluster c).pool = w.toNat % 65536 ∧
    (s.allowanceTaken c w rest).f F.CRDCc_STATUS_ALLOW c = w.toNat % 65536 ∧
    (s.allowanceTaken c w rest).f F.CRDCc_STATUS_PACE_EFF c = w.toNat / 2 ^ 18 % 4 ∧
    ((s.allowanceTaken c w rest).cluster c).next = (s.cluster c).next := by
  unfold State.allowanceTaken
  dsimp only
  rw [if_pos h]
  generalize hu : s.setCluster c { s.cluster c with words := rest, pool := w.toNat % 65536 } = u
  have hcl : u.cluster c = { s.cluster c with words := rest, pool := w.toNat % 65536 } := hu ▸ State.cluster_setCluster_same ..
  obtain ⟨ha, hp⟩ := u.showRamp_fields c (w.toNat % 65536) (w.toNat / 2 ^ 18 % 4)
  refine ⟨(congrArg ClusterSt.pool hcl).trans rfl, ?_, ?_, (congrArg ClusterSt.next hcl).trans rfl⟩
  · rw [ha, Nat.mod_mod]
  · rw [hp, Nat.mod_mod]

theorem State.allowanceTaken_later (s : State) (c : Nat) {w : Word64} (rest : List Word64)
    (h : w.toNat / 2 ^ 48 % 256 ≠ s.window % 256) :
    ((s.allowanceTaken c w rest).cluster c).pool = (s.cluster c).pool ∧ (s.allowanceTaken c w rest).regs = s.regs ∧
    ((s.allowanceTaken c w rest).cluster c).next = if w.toNat / 2 ^ 48 % 256 = (s.window + 1) % 256 then
      some (w.toNat / 2 ^ 48 % 256, w.toNat % 65536, w.toNat / 2 ^ 18 % 4) else (s.cluster c).next := by
  unfold State.allowanceTaken
  dsimp only
  rw [if_neg h]
  split
  · rw [State.cluster_setCluster_same]
    exact ⟨rfl, rfl, rfl⟩
  · rw [State.cluster_setCluster_same]
    exact ⟨rfl, rfl, rfl⟩

/-! ### A window starts (R87, R88, R90) -/

theorem mem_coresOf {n c : Nat} : n ∈ coresOf c ↔ clusterOf n = c := by
  unfold coresOf clusterOf
  simp only [List.mem_map, List.mem_range]
  constructor
  · rintro ⟨i, hi, rfl⟩
    omega
  · intro h
    exact ⟨n % 16, by omega, by omega⟩

theorem nodup_coresOf (c : Nat) : (coresOf c).Nodup :=
  List.nodup_range.map fun i j h => by simpa using h

/-- Every station of a list starts a window. -/
def State.startWindows (s : State) (l : List Nat) (free : Nat) : State :=
  l.foldl (fun s n => s.setStation n ((s.station n).newWindow free)) s

theorem State.startWindows_frame (s : State) (l : List Nat) (free : Nat) : (s.startWindows l free).regs = s.regs ∧
    (s.startWindows l free).time = s.time ∧ (s.startWindows l free).crd.clusters = s.crd.clusters :=
  List.foldlRecOn (motive := fun t => State.regs t = s.regs ∧ State.time t = s.time ∧ t.crd.clusters = s.crd.clusters)
    l _ ⟨rfl, rfl, rfl⟩ fun _ ht _ _ => ht

theorem State.station_startWindows (s : State) {l : List Nat} (hl : l.Nodup) (free n : Nat) :
    (s.startWindows l free).station n = if n ∈ l then (s.station n).newWindow free else s.station n := by
  induction l generalizing s with
  | nil => rfl
  | cons m l ih =>
    obtain ⟨hm, hl⟩ := List.nodup_cons.1 hl
    refine (ih (s.setStation m ((s.station m).newWindow free)) hl).trans ?_
    by_cases hn : n = m
    · subst hn
      rw [if_neg hm, if_pos List.mem_cons_self, State.station_setStation_same]
    · rw [State.station_setStation_other _ _ hn]
      simp only [List.mem_cons, hn, false_or]

/-- The allowance and pacing that wait for the window that starts: no allowance where none arrived for it. -/
def State.windowAllowance (s : State) (c : Nat) : Nat × Nat :=
  match (s.cluster c).next with
  | some (tag, a, p) => if tag = s.window % 256 then (a, p) else (0, s.f F.CRDCc_STATUS_PACE_EFF c)
  | none => (0, s.f F.CRDCc_STATUS_PACE_EFF c)

/-- The stations of the cluster have started the window, and the boundary is served. -/
def State.windowStations (s : State) (c : Nat) : State :=
  (s.serve 2 c).startWindows (coresOf c) (s.f F.CRD_RAMP_RAMP_FREE)

theorem State.windowStations_fields (s : State) (c : Nat) : (s.windowStations c).window = s.window ∧
    (s.windowStations c).f F.CRDCc_STATUS_PACE_EFF c = s.f F.CRDCc_STATUS_PACE_EFF c ∧
    (∀ d, (s.windowStations c).cluster d = s.cluster d) ∧
    (∀ n, clusterOf n = c → (s.windowStations c).station n = (s.station n).newWindow (s.f F.CRD_RAMP_RAMP_FREE)) ∧
    ∀ n, clusterOf n ≠ c → (s.windowStations c).station n = s.station n := by
  obtain ⟨hregs, htime, hcl⟩ : (s.windowStations c).regs = s.regs ∧ (s.windowStations c).time = s.time ∧
      (s.windowStations c).crd.clusters = s.crd.clusters := (s.serve 2 c).startWindows_frame ..
  have hst := (s.serve 2 c).station_startWindows (nodup_coresOf c) (s.f F.CRD_RAMP_RAMP_FREE)
  refine ⟨?_, State.f_of_regs hregs _ _, fun d => ?_, fun n h => ?_, fun n h => ?_⟩
  · unfold State.window State.now State.started
    rw [State.on_of_regs hregs, htime]
  · unfold State.cluster
    rw [hcl]
  · exact (hst n).trans (if_pos (mem_coresOf.2 h))
  · exact (hst n).trans (if_neg (mt mem_coresOf.1 h))

/-- The cluster's pool and what CRDCc_STATUS shows, for a window that starts with an allowance and a pacing. -/
def State.openPool (s : State) (c : Nat) (q : Nat × Nat) : State :=
  (s.setCluster c { s.cluster c with next := none, pool := q.1 }).showRamp c q.1 q.2

theorem execRampWindowStart_eq {s : State} {c : Nat} (hc : c < Config.clusterCount) (hd : s.dieUp = true)
    (hdue : s.due 2 c 100 0 = true) :
    execRampWindowStart c s = .next ((s.windowStations c).openPool c (s.windowAllowance c)) := by
  obtain ⟨hwin, hpace, hcl, -⟩ := s.windowStations_fields c
  have hmodel : execRampWindowStart c s = .next ((s.windowStations c).openPool c ((s.windowStations c).windowAllowance c)) := by
    unfold execRampWindowStart
    rw [if_pos (by simp [hc, hd, hdue])]
    extract_lets _ _ u k
    have hu : s.windowStations c = u := rfl
    have hk : k = u.cluster c := rfl
    rw [hu]
    clear_value k u
    subst hk
    unfold State.openPool State.windowAllowance
    cases (u.cluster c).next with
    | none => rfl
    | some q =>
      obtain ⟨tag, a, p⟩ := q
      dsimp only
      split
      · rfl
      · rfl
  have hallow : (s.windowStations c).windowAllowance c = s.windowAllowance c := by
    unfold State.windowAllowance
    rw [hwin, hpace, hcl]
  rw [hmodel, hallow]

theorem execRampWindowStart_not_due {s : State} {c : Nat} (h : s.due 2 c 100 0 = false) : execRampWindowStart c s = .next s := by
  unfold execRampWindowStart
  rw [h, Bool.and_false]
  rfl

/-- Settles O18: the allowance sent, the word taken, and the window's start, each by what its command leaves. -/
theorem rampTokens : Obligations.RampTokens := by
  refine ⟨rampAllowanceCompute_sends, fun s c h => execRampAllowanceCompute_sent h, fun s c w rest hw hc hd hf => ?_,
    fun s c hc hd hdue => ?_, fun s c h => execRampWindowStart_not_due h⟩
  · obtain ⟨hwords, hother, hstation⟩ := s.allowanceTaken_frame c w rest
    exact .of_next (execRampAllowanceReceive_eq hw hc hd hf) rfl ⟨hwords, s.allowanceTaken_present c rest,
      s.allowanceTaken_later c rest, hother, hstation⟩
  · obtain ⟨-, -, hcl, hin, hout⟩ := s.windowStations_fields c
    refine .of_next (execRampWindowStart_eq hc hd hdue) rfl ?_
    generalize s.windowStations c = u at hcl hin hout
    have hsame : (u.openPool c (s.windowAllowance c)).cluster c = { u.cluster c with next := none, pool := (s.windowAllowance c).1 } :=
      State.cluster_setCluster_same ..
    refine ⟨hin, hout, (congrArg ClusterSt.next hsame).trans rfl, ?_, fun d h => ?_, fun a p h => ?_⟩
    · refine (congrArg ClusterSt.words hsame).trans ?_
      rw [← hcl c]
    · exact (State.cluster_setCluster_other u _ h).trans (hcl d)
    · have hq : s.windowAllowance c = (a, p) := h.symm
      rw [hq] at hsame ⊢
      obtain ⟨ha, hp⟩ := (u.setCluster c { u.cluster c with next := none, pool := a }).showRamp_fields c a p
      exact ⟨(congrArg ClusterSt.pool hsame).trans rfl, ha, hp⟩

end Sys2Proof.Machine
end

section
/-! SUPPORT. Seams and islands: a word that fails its code, its one resend, and islands that stop and restart (R26 to R31, R40,
R510, R511). -/
namespace Sys2Proof.Machine
open Sys2Proof

/-! ### A code error (R26, R27) -/

/-- An injected check is counted. -/
def State.seamChecked (s : State) (dst : Nat) : State := if s.awlFires 3 dst then s.awlUsed else s

/-- A word waits on its seam for its resend. -/
def State.wordWaits (s : State) (src dst unit : Nat) (w : Word64) : State :=
  s.setSeam (seamKey src dst unit) { s.seam (seamKey src dst unit) with retry := some w }

theorem State.noted_seamChecked (s : State) (dst : Nat) : s.Noted (s.seamChecked dst) := .ite State.Noted.refl.awlUsed .refl

theorem execSeamCodeError_eq {s : State} {src dst unit : Nat} {w : Word64} (hc : s.rst.cold = false)
    (hk : seamOk src dst unit = true) (hr : (s.seam (seamKey src dst unit)).retry = none)
    (hw : s.onSeam src dst unit w = true) : execSeamCodeError src dst unit w s =
      .next (((s.seamChecked dst).wordWaits src dst unit w).faultA 0x06 dst (s.awlFires 3 dst)) := by
  unfold execSeamCodeError
  exact congrArg _ (if_pos (by simp [hc, hk, hr, hw]))

/-- The word that failed waits for its resend; nothing in flight moves, and the error is reported. -/
theorem seamCodeError_waits (s : State) (src dst unit : Nat) (w : Word64) (hc : s.rst.cold = false)
    (hk : seamOk src dst unit = true) (hr : (s.seam (seamKey src dst unit)).retry = none)
    (hw : s.onSeam src dst unit w = true) : Completes (.seamCodeError src dst unit w) s fun t =>
      (t.seam (seamKey src dst unit)).retry = some w ∧ t.reported 0x06 dst ∧ ∀ a b u, t.inFlight a b u = s.inFlight a b u := by
  have ht := (State.Noted.refl (s := (s.seamChecked dst).wordWaits src dst unit w)).faultA
    (row := 0x06) (unit := dst) (awl := s.awlFires 3 dst)
  refine .of_next (execSeamCodeError_eq hc hk hr hw) rfl ⟨?_, State.reported_faultA _ _ _ (by decide), fun a b u => ?_⟩
  · rw [ht.seam]
    exact congrArg SeamSt.retry (State.seam_setSeam_same ..)
  · exact (ht.inFlight a b u).trans ((s.noted_seamChecked dst).inFlight a b u)

/-! ### A seam that waits delivers nothing (R27, R28) -/

section
variable {s : State} {n : Nat}

theorem execGrantReceive_waits (h : s.seamFree 1 2 n = false) : execGrantReceive n s = .next s := by
  unfold execGrantReceive
  dsimp only
  rw [h, Bool.and_false]
  split <;> rfl

theorem execRampAllowanceReceive_waits (h : s.seamFree 1 2 (0x400 + n) = false) : execRampAllowanceReceive n s = .next s := by
  unfold execRampAllowanceReceive
  dsimp only
  rw [h, Bool.and_false]
  split <;> rfl

theorem execDemandReport_waits (h : s.seamFree 2 1 n = false) : execDemandReport n s = .next s := by
  unfold execDemandReport
  dsimp only
  rw [h, Bool.and_false]
  split <;> rfl

theorem execUnitMessage_waits {w : Word64} {pf : Nat} (h : s.seamFree 5 2 n = false) : execUnitMessage ⟨n, pf⟩ w s = .next s := by
  unfold execUnitMessage
  dsimp only
  rw [h, Bool.and_false]
  rfl

end

/-! ### The resend (R27, R30, R31) -/

/-- The word no longer waits on its seam. -/
def State.resent (s : State) (src dst unit : Nat) : State :=
  s.setSeam (seamKey src dst unit) { s.seam (seamKey src dst unit) with retry := none }

section
variable {s : State} {src dst unit : Nat} {w : Word64}

theorem State.seam_resent : (s.resent src dst unit).seam (seamKey src dst unit) =
    { s.seam (seamKey src dst unit) with retry := none } := State.seam_setSeam_same ..

/-- The destination's domain is off. -/
def State.domainOff (s : State) (dst unit : Nat) : Bool :=
  match islandDomain dst unit with
  | some d => s.f F.PWRd_STATUS_STEP d == 7
  | none => false

theorem State.domainOff_of_some {d : Nat} (h : islandDomain dst unit = some d) (h7 : s.f F.PWRd_STATUS_STEP d = 7) :
    s.domainOff dst unit = true := by
  unfold State.domainOff
  rw [h]
  exact beq_iff_eq.2 h7

theorem State.domainOff_of_forall (h : ∀ d, islandDomain dst unit = some d → s.f F.PWRd_STATUS_STEP d ≠ 7) :
    s.domainOff dst unit = false := by
  unfold State.domainOff
  split
  · next d hd => exact beq_false_of_ne (h d hd)
  · rfl

/-- The word's arrival, after a good resend, at a destination whose words the spec does not lay out. -/
def State.seamArrive (s : State) (src dst unit : Nat) (w : Word64) : State :=
  let k := seamKey src dst unit
  let x := s.seam k
  if s.domainOff dst unit then s.setSeam k { x with flushed := x.flushed + 1 }
  else if (s.island dst unit).stopped then s.setSeam k { x with held := x.held ++ [w] }
  else if src = 4 ∧ dst = 1 then (s.setSeam k { x with delivered := [w] }).preArrive else s.setSeam k { x with delivered := [w] }

variable (hr : (s.seam (seamKey src dst unit)).retry = some w)
include hr

theorem execSeamResend_inFlight (hf : (s.inFlight src dst unit).isSome = true) :
    execSeamResend src dst unit true s = .next (s.resent src dst unit) := by
  unfold execSeamResend
  dsimp only
  rw [hr]
  exact congrArg _ ((if_pos rfl).trans (if_pos hf))

theorem execSeamResend_arrives (hf : s.inFlight src dst unit = none) :
    execSeamResend src dst unit true s = .next ((s.resent src dst unit).seamArrive src dst unit w) := by
  have hn : ¬ ((s.resent src dst unit).inFlight src dst unit).isSome = true := by
    rw [show (s.resent src dst unit).inFlight src dst unit = s.inFlight src dst unit from rfl, hf]
    exact Bool.false_ne_true
  unfold execSeamResend
  dsimp only
  rw [hr]
  exact congrArg _ ((if_pos rfl).trans (if_neg hn))

theorem execSeamResend_fails :
    execSeamResend src dst unit false s = .next (((s.resent src dst unit).wordLost src dst unit w).fault 0x07 dst) := by
  unfold execSeamResend
  dsimp only
  rw [hr]
  rfl

end

/-- A word that arrives leaves the state beside the seams, and the Clicker's pre-allocations that waited with it. -/
theorem State.seamArrive_delivered (s : State) {src dst unit : Nat} (w : Word64) (hd : s.domainOff dst unit = false)
    (hs : (s.island dst unit).stopped = false) :
    (s.seamArrive src dst unit w).seam (seamKey src dst unit) = { s.seam (seamKey src dst unit) with delivered := [w] } ∧
    ({ s.seamArrive src dst unit w with seams := s.seams, crd := s.crd } : State) = s := by
  unfold State.seamArrive
  dsimp only
  rw [if_neg (by rw [hd]; exact Bool.false_ne_true), if_neg (by rw [hs]; exact Bool.false_ne_true)]
  split
  · unfold State.preArrive
    dsimp only
    split
    · exact ⟨State.seam_setSeam_same .., rfl⟩
    · exact ⟨State.seam_setSeam_same .., rfl⟩
  · exact ⟨State.seam_setSeam_same .., rfl⟩

theorem State.seamArrive_held (s : State) {src dst unit : Nat} (w : Word64) (hd : s.domainOff dst unit = false)
    (hs : (s.island dst unit).stopped = true) : s.seamArrive src dst unit w = s.setSeam (seamKey src dst unit)
      { s.seam (seamKey src dst unit) with held := (s.seam (seamKey src dst unit)).held ++ [w] } := by
  unfold State.seamArrive
  exact (if_neg (by rw [hd]; exact Bool.false_ne_true)).trans (if_pos hs)

theorem State.seamArrive_flushed (s : State) {src dst unit : Nat} (w : Word64) (hd : s.domainOff dst unit = true) :
    s.seamArrive src dst unit w = s.setSeam (seamKey src dst unit)
      { s.seam (seamKey src dst unit) with flushed := (s.seam (seamKey src dst unit)).flushed + 1 } := if_pos hd

/-! ### The second failure (R27) -/

theorem State.addDrained_keeps (s : State) (g : Nat) : (s.addDrained g).crd.stations = s.crd.stations ∧
    (s.addDrained g).seams = s.seams := by
  unfold State.addDrained
  split
  · exact ⟨rfl, rfl⟩
  · exact ⟨rfl, rfl⟩

/-- A lost word leaves the seams. -/
theorem State.wordLost_seams (s : State) (src dst unit : Nat) (w : Word64) : (s.wordLost src dst unit w).seams = s.seams := by
  unfold State.wordLost
  split
  · split
    · exact (State.addDrained_keeps ..).2
    · rfl
  · split
    · rfl
    · split
      · rfl
      · split
        · rfl
        · rfl

theorem State.inFlight_station (s : State) {unit : Nat} (h : unit < 0x400) :
    s.inFlight 1 2 unit = some (s.station unit).grants := (if_pos ⟨rfl, rfl⟩).trans (if_pos h)

theorem State.inFlight_cluster (s : State) {unit : Nat} (h : ¬ unit < 0x400) :
    s.inFlight 1 2 unit = some (s.cluster (unit - 0x400)).words := (if_pos ⟨rfl, rfl⟩).trans (if_neg h)

/-- A grant or an allowance that is lost leaves its seam. -/
theorem State.inFlight_wordLost (s : State) (unit : Nat) (w : Word64) :
    (s.wordLost 1 2 unit w).inFlight 1 2 unit = (s.inFlight 1 2 unit).map List.tail := by
  by_cases h : unit < 0x400
  · have hlost : s.wordLost 1 2 unit w =
        (s.setStation unit { s.station unit with grants := (s.station unit).grants.tail }).addDrained (Machine.grantOf w) :=
      (if_pos ⟨rfl, rfl⟩).trans (if_pos h)
    rw [State.inFlight_station _ h, State.inFlight_station _ h, hlost]
    unfold State.station
    rw [(State.addDrained_keeps ..).1]
    exact congrArg (some ∘ StationSt.grants) (State.station_setStation_same ..)
  · have hlost : s.wordLost 1 2 unit w = s.setCluster (unit - 0x400)
        { s.cluster (unit - 0x400) with words := (s.cluster (unit - 0x400)).words.tail } :=
      (if_pos ⟨rfl, rfl⟩).trans (if_neg h)
    rw [State.inFlight_cluster _ h, State.inFlight_cluster _ h, hlost, State.cluster_setCluster_same]
    rfl

theorem State.report_wordLost (s : State) (unit : Nat) (w : Word64) : ((s.wordLost 2 1 unit w).station unit).report = none :=
  congrArg StationSt.report (State.station_setStation_same ..)

theorem seamResend_loses (s : State) (src dst unit : Nat) (w : Word64) (hr : (s.seam (seamKey src dst unit)).retry = some w) :
    Completes (.seamResend src dst unit false) s fun t => (t.seam (seamKey src dst unit)).retry = none ∧ t.reported 0x07 dst ∧
      (src = 1 → dst = 2 → t.inFlight 1 2 unit = (s.inFlight 1 2 unit).map List.tail) ∧
      (src = 2 → dst = 1 → (t.station unit).report = none) := by
  have ht := (State.Noted.refl (s := (s.resent src dst unit).wordLost src dst unit w)).fault (row := 0x07) (unit := dst)
  refine .of_next (execSeamResend_fails hr) rfl ⟨?_, State.reported_fault _ _ (by decide), ?_, ?_⟩
  · rw [ht.seam]
    unfold State.seam
    rw [State.wordLost_seams]
    exact congrArg SeamSt.retry State.seam_resent
  · rintro rfl rfl
    exact (ht.inFlight ..).trans (State.inFlight_wordLost ..)
  · rintro rfl rfl
    rw [ht.station]
    exact State.report_wordLost ..

/-! ### Islands (R40, R510, R511) -/

/-- The newest entry of a ring is the one just written. -/
theorem State.hangTop_hang (s : State) (ring code arg : Nat) :
    (s.hang ring code arg).hangTop ring = some { t := s.now, code := code, arg := arg % 256 } := by
  unfold State.hang State.hangAt State.hangTop
  dsimp only
  rw [Tab.get_set_same]
  rfl

theorem State.island_setIsland (s : State) (isl unit : Nat) (x : IslandSt) : (s.setIsland isl unit x).island isl unit = x :=
  Tab.get_set_same ..

theorem islandStop_stamps (s : State) (isl unit : Nat) (hc : s.rst.cold = false) (hk : islandOk isl unit = true) (h0 : isl ≠ 0)
    (hs : (s.island isl unit).stopped = false) : Completes (.islandStop isl unit) s fun t =>
      (t.island isl unit).stopped = true ∧ (t.island isl unit).stopAt = s.now ∧
      t.hangTop (islandRing isl unit) = some { t := s.now, code := 0xFE, arg := 0 } ∧
      { t with islands := s.islands, trc := s.trc } = s := by
  have hisl := s.island_setIsland isl unit { stopped := true, stopAt := s.now }
  refine .of_next rfl (if_pos (by simp [hc, hk, h0, hs])) ⟨?_, ?_, State.hangTop_hang .., rfl⟩
  · exact congrArg IslandSt.stopped hisl
  · exact congrArg IslandSt.stopAt hisl

/-- The seam from one source into an island delivers the words it holds. -/
def State.deliverSeam (s : State) (i unit src : Nat) : State :=
  let x := s.seam (seamKey src i unit)
  if x.held = [] then s else s.setSeam (seamKey src i unit) { x with held := [], delivered := x.held.reverse }

theorem State.deliverHeld_eq (s : State) (i unit : Nat) :
    s.deliverHeld i unit = (List.range 8).foldl (fun s src => s.deliverSeam i unit src) s := rfl

theorem State.held_deliverSeam_same (s : State) (i unit src : Nat) :
    ((s.deliverSeam i unit src).seam (seamKey src i unit)).held = [] := by
  unfold State.deliverSeam
  dsimp only
  split
  · assumption
  · rw [State.seam_setSeam_same]

theorem State.held_deliverSeam_other (s : State) (i unit : Nat) {src j : Nat} (h : j ≠ src) :
    ((s.deliverSeam i unit src).seam (seamKey j i unit)).held = (s.seam (seamKey j i unit)).held := by
  have hk : seamKey j i unit ≠ seamKey src i unit := by
    unfold seamKey
    omega
  unfold State.deliverSeam
  dsimp only
  split
  · rfl
  · rw [State.seam_setSeam_other _ _ hk]

/-- A seam that has delivered, or is still to deliver, ends with nothing held. -/
theorem State.held_deliverSeams (i unit j : Nat) (l : List Nat) (s : State)
    (h : j ∈ l ∨ (s.seam (seamKey j i unit)).held = []) :
    ((l.foldl (fun s src => s.deliverSeam i unit src) s).seam (seamKey j i unit)).held = [] := by
  induction l generalizing s with
  | nil => exact h.resolve_left List.not_mem_nil
  | cons src l ih =>
    refine ih _ ?_
    by_cases hj : j = src
    · subst hj
      exact .inr (s.held_deliverSeam_same i unit j)
    · rw [s.held_deliverSeam_other i unit hj]
      exact h.imp_left fun hm => (List.mem_cons.1 hm).resolve_left hj

theorem State.deliverHeld_frame (s : State) (i unit : Nat) : (s.deliverHeld i unit).islands = s.islands ∧
    (s.deliverHeld i unit).trc = s.trc := by
  rw [s.deliverHeld_eq]
  refine List.foldlRecOn (motive := fun t => State.islands t = s.islands ∧ State.trc t = s.trc) _ _ ⟨rfl, rfl⟩ fun t ht src _ => ?_
  unfold State.deliverSeam
  dsimp only
  split
  · exact ht
  · exact ht

/-- The island runs again, and its hang ring has the restart. -/
def State.islandRuns (s : State) (isl unit : Nat) : State := (s.setIsland isl unit {}).hang (islandRing isl unit) 0xFF 0

theorem State.islandRuns_fields (s : State) (isl unit : Nat) : ((s.islandRuns isl unit).island isl unit).stopped = false ∧
    (s.islandRuns isl unit).hangTop (islandRing isl unit) = some { t := s.now, code := 0xFF, arg := 0 } :=
  ⟨congrArg IslandSt.stopped (s.island_setIsland isl unit {}), State.hangTop_hang ..⟩

theorem execIslandRestart_eq {s : State} {isl unit : Nat} (hc : s.rst.cold = false) (hk : islandOk isl unit = true)
    (hs : (s.island isl unit).stopped = true) : execIslandRestart isl unit s =
      .next (((s.islandRuns isl unit).sysRec 3 (if isl = 2 then 0x100 + unit else isl) 0
        (some (s.island isl unit).stopAt.toNat)).deliverHeld isl unit) := by
  unfold execIslandRestart
  exact congrArg _ (if_pos (by simp [hc, hk, hs]))

theorem islandRestart_clears (s : State) (isl unit : Nat) (hc : s.rst.cold = false) (hk : islandOk isl unit = true)
    (hs : (s.island isl unit).stopped = true) : Completes (.islandRestart isl unit) s fun t =>
      (t.island isl unit).stopped = false ∧
      t.hangTop (islandRing isl unit) = some { t := s.now, code := 0xFF, arg := 0 } ∧
      ∀ src < 8, (t.seam (seamKey src isl unit)).held = [] := by
  obtain ⟨hstopped, htop⟩ := s.islandRuns_fields isl unit
  refine .of_next (execIslandRestart_eq hc hk hs) rfl ?_
  have hrec : (s.islandRuns isl unit).Noted ((s.islandRuns isl unit).sysRec 3 (if isl = 2 then 0x100 + unit else isl) 0
    (some (s.island isl unit).stopAt.toNat)) := State.Noted.refl.sysRec
  generalize (s.islandRuns isl unit).sysRec 3 _ 0 _ = u at hrec
  obtain ⟨hislands, htrc⟩ := u.deliverHeld_frame isl unit
  refine ⟨?_, ?_, fun src hsrc => ?_⟩
  · unfold State.island at hstopped ⊢
    rw [hislands, hrec.islands]
    exact hstopped
  · unfold State.hangTop at htop ⊢
    rw [htrc, hrec.hang]
    exact htop
  · rw [u.deliverHeld_eq]
    exact State.held_deliverSeams isl unit src _ u (.inl (List.mem_range.2 hsrc))

/-- Settles O9: each clause is the theorem on its command; a good resend is taken, delivered, held or flushed. -/
theorem seamsAndIslands : Obligations.SeamsAndIslands := by
  refine ⟨seamCodeError_waits, fun s n h => execGrantReceive_waits h, fun s c h => execRampAllowanceReceive_waits h,
    fun s n h => execDemandReport_waits h, fun s n w pf h => execUnitMessage_waits h,
    fun s src dst unit w hr hf => execSeamResend_inFlight hr hf, fun s src dst unit w hr hf hd hs => ?_,
    fun s src dst unit w hr hf hd hs => ?_, fun s src dst unit w d hr hf hd h7 => ?_, seamResend_loses, islandStop_stamps,
    islandRestart_clears⟩
  case refine_1 =>
    obtain ⟨hseam, hrest⟩ := (s.resent src dst unit).seamArrive_delivered (src := src) w (State.domainOff_of_forall hd) hs
    rw [State.seam_resent] at hseam
    refine .of_next (execSeamResend_arrives hr hf) rfl ⟨?_, ?_, ?_⟩
    · rw [hseam]
    · rw [hseam]
    · exact congrArg (fun t : State => { t with seams := s.seams }) hrest
  case refine_2 =>
    refine .of_next (execSeamResend_arrives hr hf) (State.seamArrive_held _ w (State.domainOff_of_forall hd) hs) ?_
    rw [State.seam_setSeam_same, State.seam_resent]
    exact ⟨rfl, rfl, rfl⟩
  case refine_3 =>
    refine .of_next (execSeamResend_arrives hr hf) (State.seamArrive_flushed _ w (State.domainOff_of_some hd h7)) ?_
    rw [State.seam_setSeam_same, State.seam_resent]
    exact ⟨rfl, rfl, rfl⟩

end Sys2Proof.Machine
end

section
/-! SUPPORT. The water filling of the refill: what it pays, class by class (R80). -/
namespace Sys2Proof.Machine
open Sys2Proof

/-! ### The level of a class -/

/-- A level of 0 takes nothing from the pool. -/
theorem classSum_zero (l : List Entrant) (c : Nat) : classSum l c 0 = 0 := by
  unfold classSum
  exact List.sum_eq_zero fun x hx => by
    obtain ⟨e, -, rfl⟩ := List.mem_map.1 hx
    rw [Nat.zero_mul, Nat.min_zero]

/-- The level found for a class takes no more than the pool: it starts at 0 and rises only while the sum fits. -/
theorem classSum_fillLevel_le (l : List Entrant) (c pool : Nat) : classSum l c (fillLevel l c pool) ≤ pool := by
  unfold fillLevel
  refine List.foldlRecOn (motive := fun lv => classSum l c lv ≤ pool) _ _ ?_ fun lv h b _ => ?_
  · rw [classSum_zero]
    exact Nat.zero_le _
  · dsimp only
    split
    · next hfit => exact hfit.2
    · exact h

/-! ### One class is paid -/

/-- The entrants of class `k` that want credit are granted `g` of themselves. -/
def payClass (k : Nat) (g : Entrant → Nat) (l : List Entrant) : List Entrant :=
  l.map fun e => if e.cls = k ∧ 0 < e.want then { e with grant := g e } else e

section
variable {l : List Entrant} {k : Nat} {g : Entrant → Nat}

/-- A paid entrant, or one that the class does not pay. -/
theorem mem_payClass {e : Entrant} : e ∈ payClass k g l ↔
    (∃ x ∈ l, x.cls = k ∧ 0 < x.want ∧ e = { x with grant := g x }) ∨ (e ∈ l ∧ ¬(e.cls = k ∧ 0 < e.want)) := by
  unfold payClass
  rw [List.mem_map]
  constructor
  · rintro ⟨x, hx, rfl⟩
    by_cases h : x.cls = k ∧ 0 < x.want
    · exact .inl ⟨x, hx, h.1, h.2, if_pos h⟩
    · rw [if_neg h]
      exact .inr ⟨hx, h⟩
  · rintro (⟨x, hx, hk, hw, rfl⟩ | ⟨he, h⟩)
    · exact ⟨x, hx, if_pos ⟨hk, hw⟩⟩
    · exact ⟨e, he, if_neg h⟩

/-- Only the grant of an entrant changes. -/
theorem forget_payClass : (payClass k g l).map (fun e => { e with grant := 0 }) = l.map (fun e => { e with grant := 0 }) := by
  unfold payClass
  rw [List.map_map]
  refine List.map_congr_left fun e _ => ?_
  rw [Function.comp_apply]
  split <;> rfl

/-- What a class is paid comes on top of the grants, where those that want credit had none. -/
theorem sum_grant_payClass (hl : ∀ e ∈ l, e.cls = k → 0 < e.want → e.grant = 0) (hg : ∀ e, e.want = 0 → g e = 0) :
    ((payClass k g l).map (·.grant)).sum = (l.map (·.grant)).sum + ((l.filter (fun e => e.cls = k)).map g).sum := by
  induction l with
  | nil => rfl
  | cons e l ih =>
    have ih := ih fun x hx => hl x (List.mem_cons_of_mem _ hx)
    have he := hl e List.mem_cons_self
    unfold payClass at ih ⊢
    by_cases hk : e.cls = k
    · rw [List.filter_cons_of_pos (by simpa using hk)]
      by_cases hw : 0 < e.want
      · simp only [List.map_cons, List.sum_cons, if_pos (And.intro hk hw), he hk hw, ih]
        omega
      · have hz : g e = 0 := hg e (by omega)
        simp only [List.map_cons, List.sum_cons, if_neg (fun h : e.cls = k ∧ 0 < e.want => hw h.2), hz, ih]
        omega
    · rw [List.filter_cons_of_neg (by simpa using hk)]
      simp only [List.map_cons, List.sum_cons, if_neg (fun h : e.cls = k ∧ 0 < e.want => hk h.1), ih]
      omega

end

/-! ### The classes in turn -/

/-- What a class wants in all. -/
def classWant (l : List Entrant) (k : Nat) : Nat := ((l.filter (fun e => e.cls = k)).map (·.want)).sum

theorem fillClasses_fits {l : List Entrant} {k pool : Nat} (h : classWant l k ≤ pool) :
    fillClasses l (k + 1) pool = fillClasses (payClass k (·.want) l) k (pool - classWant l k) := if_pos h

theorem fillClasses_short {l : List Entrant} {k pool : Nat} (h : ¬classWant l k ≤ pool) :
    fillClasses l (k + 1) pool =
      (payClass k (fun e => min e.want (fillLevel l k pool * e.weight)) l, pool - classSum l k (fillLevel l k pool)) := if_neg h

/-- The entrants below class `c` that want credit have no grant yet. -/
def Unpaid (l : List Entrant) (c : Nat) : Prop := ∀ e ∈ l, e.cls < c → 0 < e.want → e.grant = 0

theorem Unpaid.payClass {l : List Entrant} {k : Nat} {g : Entrant → Nat} (h : Unpaid l (k + 1)) :
    Unpaid (payClass k g l) k := by
  intro e he hc hw
  obtain ⟨x, -, hk, -, rfl⟩ | ⟨he, -⟩ := mem_payClass.1 he
  · exact absurd hk (Nat.ne_of_lt hc)
  · exact h e he (Nat.lt_succ_of_lt hc) hw

/-- Filling changes grants alone. -/
theorem forget_fillClasses (l : List Entrant) (c pool : Nat) :
    (fillClasses l c pool).1.map (fun e => { e with grant := 0 }) = l.map (fun e => { e with grant := 0 }) := by
  induction c generalizing l pool with
  | zero => rfl
  | succ k ih =>
    by_cases h : classWant l k ≤ pool
    · rw [fillClasses_fits h, ih]
      exact forget_payClass
    · rw [fillClasses_short h]
      exact forget_payClass

theorem length_fillClasses (l : List Entrant) (c pool : Nat) : (fillClasses l c pool).1.length = l.length := by
  have h := congrArg List.length (forget_fillClasses l c pool)
  rwa [List.length_map, List.length_map] at h

/-- The grants added are what left the pool. -/
theorem fillClasses_conserves {l : List Entrant} {c : Nat} (pool : Nat) (h : Unpaid l c) :
    ((fillClasses l c pool).1.map (·.grant)).sum + (fillClasses l c pool).2 = pool + (l.map (·.grant)).sum := by
  induction c generalizing l pool with
  | zero => exact Nat.add_comm ..
  | succ k ih =>
    have hk : ∀ e ∈ l, e.cls = k → 0 < e.want → e.grant = 0 := fun e he hc => h e he (by omega)
    by_cases hfit : classWant l k ≤ pool
    · have hsum : ((payClass k (·.want) l).map (·.grant)).sum = (l.map (·.grant)).sum + classWant l k :=
        sum_grant_payClass hk fun _ hw => hw
      rw [fillClasses_fits hfit, ih _ h.payClass, hsum]
      omega
    · have hsum : ((payClass k (fun e => min e.want (fillLevel l k pool * e.weight)) l).map (·.grant)).sum =
          (l.map (·.grant)).sum + classSum l k (fillLevel l k pool) :=
        sum_grant_payClass hk fun e hw => by rw [hw, Nat.zero_min]
      have hle := classSum_fillLevel_le l k pool
      rw [fillClasses_short hfit, hsum]
      omega

/-- An entrant of class `c` or above is none of those that the classes below `c` pay. -/
theorem mem_of_mem_fillClasses {l : List Entrant} {c pool : Nat} {e : Entrant} (he : e ∈ (fillClasses l c pool).1)
    (hc : c ≤ e.cls) : e ∈ l := by
  induction c generalizing l pool with
  | zero => exact he
  | succ k ih =>
    have hpaid {g : Entrant → Nat} (he : e ∈ payClass k g l) : e ∈ l := by
      obtain ⟨x, -, hk, -, rfl⟩ | ⟨he, -⟩ := mem_payClass.1 he
      · exact absurd hk (Nat.ne_of_gt hc)
      · exact he
    by_cases hfit : classWant l k ≤ pool
    · rw [fillClasses_fits hfit] at he
      exact hpaid (ih he (Nat.le_of_succ_le hc))
    · rw [fillClasses_short hfit] at he
      exact hpaid he

/-- No entrant of the classes filled is granted more than it wants. -/
theorem fillClasses_grant_le {l : List Entrant} {c : Nat} (pool : Nat) (h : Unpaid l c) {e : Entrant}
    (he : e ∈ (fillClasses l c pool).1) (hc : e.cls < c) (hw : 0 < e.want) : e.grant ≤ e.want := by
  induction c generalizing l pool with
  | zero => exact absurd hc (Nat.not_lt_zero _)
  | succ k ih =>
    have hpaid {g : Entrant → Nat} (hg : ∀ x, g x ≤ x.want) (he : e ∈ payClass k g l) : e.grant ≤ e.want := by
      obtain ⟨x, -, -, -, rfl⟩ | ⟨he, -⟩ := mem_payClass.1 he
      · exact hg x
      · rw [h e he hc hw]
        exact Nat.zero_le _
    by_cases hfit : classWant l k ≤ pool
    · rw [fillClasses_fits hfit] at he
      by_cases hk : e.cls < k
      · exact ih _ h.payClass he hk
      · exact hpaid (fun _ => Nat.le_refl _) (mem_of_mem_fillClasses he (Nat.le_of_not_lt hk))
    · rw [fillClasses_short hfit] at he
      exact hpaid (fun _ => Nat.min_le_left ..) he

/-- A class that gets credit leaves no higher class short: the filling stops at the first class that does not fit. -/
theorem fillClasses_priority {l : List Entrant} {c : Nat} (pool : Nat) (h : Unpaid l c) {e e' : Entrant}
    (he : e ∈ (fillClasses l c pool).1) (he' : e' ∈ (fillClasses l c pool).1) (hc : e.cls < c) (hlow : e'.cls < e.cls)
    (hw' : 0 < e'.want) (hg' : 0 < e'.grant) (hw : 0 < e.want) : e.grant = e.want := by
  induction c generalizing l pool with
  | zero => exact absurd hc (Nat.not_lt_zero _)
  | succ k ih =>
    by_cases hfit : classWant l k ≤ pool
    · rw [fillClasses_fits hfit] at he he'
      by_cases hk : e.cls < k
      · exact ih _ h.payClass he he' hk
      · have hek : e.cls = k := by omega
        obtain ⟨x, -, -, -, rfl⟩ | ⟨-, hn⟩ := mem_payClass.1 (mem_of_mem_fillClasses he (Nat.le_of_not_lt hk))
        · rfl
        · exact absurd ⟨hek, hw⟩ hn
    · rw [fillClasses_short hfit] at he'
      have hlt : e'.cls < k := by omega
      exact absurd (Unpaid.payClass h e' he' hlt hw') (Nat.ne_of_gt hg')

/-- Settles O15: each part by induction on the classes, with the entrants below the present class unpaid. -/
theorem refillCreatesNoCredit : Obligations.RefillCreatesNoCredit := by
  intro l pool hl
  have h : Unpaid l 4 := fun e he _ => (hl e he).2
  have hcls : ∀ e ∈ (fillClasses l 4 pool).1, e.cls < 4 := fun e he => by
    by_contra hge
    exact hge (hl e (mem_of_mem_fillClasses he (Nat.le_of_not_lt hge))).1
  exact ⟨fillClasses_conserves pool h, length_fillClasses l 4 pool, fun e he => fillClasses_grant_le pool h he (hcls e he),
    fun e he e' he' => fillClasses_priority pool h he he' (hcls e he)⟩

end Sys2Proof.Machine
end

section
/-! SUPPORT. What log entries, hang rings, fault events, trace records and triggers leave: everything but the registers from
0x78000 on, the trace island, the Insole and the events that wait for the collector. -/
namespace Sys2Proof.Machine
open Sys2Proof

-- The side conditions found by tactics wait for the laws before them: one after another, they hold no thread each.
set_option Elab.async false

/-! ### Offsets of register instances (R568) -/

/-- Two registers of one stride never meet in one instance where their first ones do not. -/
theorem Reg.at_ne_of_off {r q : Reg} {i : Nat} (hs : r.stride = q.stride) (h : r.off ≠ q.off) : r.at i ≠ q.at i := by
  unfold Reg.at
  rw [hs]
  omega

/-- A register below the first instance of another. -/
theorem Reg.at_ne_of_lt {r q : Reg} {i j : Nat} (h : q.at j < r.off) : q.at j ≠ r.at i :=
  Nat.ne_of_lt (Nat.lt_of_lt_of_le h (r.off_le_at i))

/-- Instances up to `k` lie below a bound. -/
theorem Reg.at_lt_of_le {r : Reg} {i k lim : Nat} (hi : i ≤ k) (h : r.off + r.stride * k < lim) : r.at i < lim :=
  Nat.lt_of_le_of_lt (Nat.add_le_add_left (Nat.mul_le_mul_left _ hi) _) h

/-! ### Traces of what happened -/

/-- From `s₀` to `s` only what is logged, traced and reported changed: registers from 0x78000 on, the trace island, the Insole
tiles of its regions, the free values taken and the fault events that wait. -/
structure State.Traced (s₀ s : State) : Prop where
  get : ∀ a, a < 0x78000 → ∀ d, Tab.get d s.regs a = Tab.get d s₀.regs a
  rest : { s with regs := s₀.regs, free := s₀.free, trc := s₀.trc, flt := { s.flt with pend := s₀.flt.pend },
                  pwr := { s.pwr with insole := s₀.pwr.insole } } = s₀

variable {s₀ s : State}

theorem State.Traced.refl : s.Traced s := ⟨fun _ _ _ => rfl, rfl⟩

theorem State.Traced.trans {t : State} (h : s₀.Traced s) (g : s.Traced t) : s₀.Traced t :=
  ⟨fun a ha d => (g.get a ha d).trans (h.get a ha d),
    (congrArg (fun u : State => { u with regs := s₀.regs, free := s₀.free, trc := s₀.trc, flt := { u.flt with pend := s₀.flt.pend },
                                         pwr := { u.pwr with insole := s₀.pwr.insole } }) g.rest).trans h.rest⟩

theorem State.Traced.ite {c : Prop} [Decidable c] {t : State} (hs : s₀.Traced s) (ht : s₀.Traced t) :
    s₀.Traced (if c then s else t) := by
  split
  · exact hs
  · exact ht

theorem State.Traced.foldl {β : Type} {f : State → β → State} {l : List β} (h : s₀.Traced s)
    (hf : ∀ s x, s₀.Traced s → s₀.Traced (f s x)) : s₀.Traced (l.foldl f s) :=
  List.foldlRecOn (motive := s₀.Traced) l f h fun s hs x _ => hf s x hs

section
variable (h : s₀.Traced s)
include h

/-! ### What reads the same -/

theorem State.Traced.rd {r : Reg} {i : Nat} (hr : r.at i < 0x78000) : s.rd r i = s₀.rd r i := h.get _ hr _

theorem State.Traced.f {x : Fld} {i : Nat} (hr : x.reg.at i < 0x78000) : s.f x i = s₀.f x i := by
  unfold State.f
  rw [h.rd hr]

theorem State.Traced.on {x : Fld} {i : Nat} (hr : x.reg.at i < 0x78000) : s.on x i = s₀.on x i := by
  unfold State.on
  rw [h.f hr]

theorem State.Traced.crd : s.crd = s₀.crd := (congrArg State.crd h.rest :)

theorem State.Traced.eye : s.eye = s₀.eye := (congrArg State.eye h.rest :)

theorem State.Traced.time : s.time = s₀.time := (congrArg State.time h.rest :)

theorem State.Traced.station (n : Nat) : s.station n = s₀.station n := by
  unfold State.station
  rw [h.crd]

theorem State.Traced.cluster (c : Nat) : s.cluster c = s₀.cluster c := by
  unfold State.cluster
  rw [h.crd]

/-! ### Registers of the log and of the trace island -/

theorem State.Traced.wr {r : Reg} {i : Nat} {w : Word} (hr : 0x78000 ≤ r.off := by decide) : s₀.Traced (s.wr r i w) :=
  ⟨fun a ha d => (Tab.get_set_other _ _ _ _ (by have := r.off_le_at i; omega)).trans (h.get a ha d), h.rest⟩

theorem State.Traced.setf {x : Fld} {i v : Nat} (hr : 0x78000 ≤ x.reg.off := by decide) : s₀.Traced (s.setf x i v) := h.wr hr

theorem State.Traced.incf {x : Fld} {i v : Nat} (hr : 0x78000 ≤ x.reg.off := by decide) : s₀.Traced (s.incf x i v) := h.wr hr

theorem State.Traced.setb {x : Fld} {i : Nat} {b : Bool} (hr : 0x78000 ≤ x.reg.off := by decide) :
    s₀.Traced (s.setb x i b) := h.wr hr

theorem State.Traced.clr {r : Reg} {i : Nat} (hr : 0x78000 ≤ r.off := by decide) : s₀.Traced (s.clr r i) := h.wr hr

theorem State.Traced.setPair {lo hi : Reg} {i v : Nat} (hl : 0x78000 ≤ lo.off := by decide)
    (hh : 0x78000 ≤ hi.off := by decide) : s₀.Traced (s.setPair lo hi i v) := (h.wr hl).wr hh

/-! ### The log, the hang rings and fault events -/

theorem State.Traced.trc {x : TrcSt} : s₀.Traced { s with trc := x } := ⟨h.get, h.rest⟩

theorem State.Traced.setSrc {k : Nat} {x : SrcSt} : s₀.Traced (s.setSrc k x) := h.trc

theorem State.Traced.hang {ring code arg : Nat} : s₀.Traced (s.hang ring code arg) := h.trc

theorem State.Traced.hangStations {code : Nat} : s₀.Traced (s.hangStations code) := h.foldl fun _ _ hs => hs.hang

theorem State.Traced.log {code unit arg : Nat} : s₀.Traced (s.log code unit arg) := by
  unfold State.log State.logAt
  extract_lets _ _ u1 u2
  have hu1 : s₀.Traced u1 := h.setPair
  have hu2 : s₀.Traced u2 := .ite hu1.setf hu1
  exact hu2.setf.trc

theorem State.Traced.sysRec {typ idx value : Nat} {ext : Option Nat} : s₀.Traced (s.sysRec typ idx value ext) := by
  unfold State.sysRec
  exact .ite (.ite h.setSrc.incf h.setSrc) h

theorem State.Traced.fault {row unit : Nat} : s₀.Traced (s.fault row unit) := by
  unfold State.fault State.faultA
  refine .ite ?_ h
  extract_lets _ u1 _ _ u2 u3
  have hu2 : s₀.Traced u2 := ⟨h.get, h.rest⟩
  have hu3 : s₀.Traced u3 := hu2.log
  clear_value u3
  exact hu3.sysRec

/-! ### Trace records, the buffer and triggers -/

theorem State.Traced.queueRec {k : Nat} {r : TraceRec} : s₀.Traced (s.queueRec k r) := by
  unfold State.queueRec
  exact .ite h.setSrc h.setSrc.setPair

theorem State.Traced.trace {k typ idx value : Nat} {ext : Option Nat} : s₀.Traced (s.trace k typ idx value ext) := by
  unfold State.trace State.traceMany
  refine .ite (.ite h.setSrc ?_) h
  exact .ite h.setSrc.setSrc.setPair (.ite h.setSrc.setSrc (h.setSrc.foldl fun _ _ hs => hs.queueRec))

theorem State.Traced.putTile {t : Nat} {l : List Byte} : s₀.Traced (s.putTile t l) := ⟨h.get, h.rest⟩

theorem State.Traced.placeTile {l : List Byte} : s₀.Traced (s.placeTile l) := by
  unfold State.placeTile
  split
  · exact h
  · exact h.putTile

theorem State.Traced.patchTile {typ index i : Nat} {l : List Byte} : s₀.Traced (s.patchTile typ index i l) := by
  unfold State.patchTile
  split
  · exact h
  · exact h.putTile

theorem State.Traced.trcPressure : s₀.Traced s.trcPressure := by
  unfold State.trcPressure
  exact h.setf.setf

theorem State.Traced.putPos {p : Nat} {v : BitVec 128} : s₀.Traced (s.putPos p v) := by
  unfold State.putPos
  extract_lets +onlyGivenNames _ _ u1 u2
  have hu1 : s₀.Traced u1 := h.trc
  have hu2 : s₀.Traced u2 := .ite hu1.setf hu1
  exact hu2.setf.trcPressure

theorem State.Traced.stopPost : s₀.Traced s.stopPost := h.trc

theorem State.Traced.trcSeek : s₀.Traced s.trcSeek := by
  unfold State.trcSeek
  refine .ite h ?_
  extract_lets u1 u2
  have hu2 : s₀.Traced u2 := .ite h.stopPost.setf h.stopPost
  exact hu2.setf

/-- A record is put in place where there is room: the free position is sought, and one or two positions are written. -/
theorem State.Traced.putRec {r : TraceRec} {t : State} (e : s.putRec r = some t) : s₀.Traced t := by
  replace h := h.trcSeek
  simp only [State.putRec] at e
  generalize s.trcSeek = v at e h
  split at e
  · exact Option.some.inj e ▸ h
  · split at e
    · exact Option.some.inj e ▸ h.putPos
    · cases e
  · split at e
    · cases e
    · next u hu =>
      replace hu : s₀.Traced u := by
        split at hu
        · split at hu
          · exact Option.some.inj hu ▸ h.putPos.trcSeek
          · cases hu
        · exact Option.some.inj hu ▸ h
      split at e
      · exact Option.some.inj e ▸ hu.putPos.putPos
      · cases e

theorem State.Traced.showRegions : s₀.Traced s.showRegions := by
  unfold State.showRegions
  refine State.Traced.setf (h.foldl fun _ _ hs => ?_)
  split
  · exact hs.clr.clr
  · exact hs.setf.setb.setf.setf.setf

theorem State.Traced.completeRegions : s₀.Traced s.completeRegions := by
  unfold State.completeRegions
  exact (State.Traced.trc (h.foldl fun _ _ hs => hs.patchTile)).showRegions

theorem State.Traced.trigger {cause bit tag : Nat} : s₀.Traced (s.trigger cause bit tag) := by
  unfold State.trigger
  refine .ite ?_ h
  extract_lets u1 u2 _ _ put
  have hu2 : s₀.Traced u2 := h.completeRegions.incf
  have hput : ∀ s r, s₀.Traced s → s₀.Traced (put s r) := fun s r hs => by
    simp only [put]
    split
    · next e => exact hs.putRec e
    · exact hs.setSrc
  clear_value u2 put
  refine .ite (hput _ _ hu2) (.ite ?_ (hput _ _ hu2.setf))
  exact (hput _ _ hu2.trcSeek.trc.placeTile).showRegions.trcPressure

end

end Sys2Proof.Machine
end

section
/-! SUPPORT. What the records and registers of the credit economy read as after an update: each update of one kind, each reading
of another. -/
namespace Sys2Proof.Machine
open Sys2Proof

variable (s : State)

/-! ### Stations, accounts and clusters after other updates -/

theorem State.station_of_crd {s t : State} (h : t.crd.stations = s.crd.stations) (n : Nat) : t.station n = s.station n := by
  unfold State.station
  rw [h]

theorem State.click_of_crd {s t : State} (h : t.crd.clicks = s.crd.clicks) (n : Nat) : t.click n = s.click n := by
  unfold State.click
  rw [h]

theorem State.cluster_of_crd {s t : State} (h : t.crd.clusters = s.crd.clusters) (c : Nat) : t.cluster c = s.cluster c := by
  unfold State.cluster
  rw [h]

section
variable (r lo hi : Reg) (x : Fld) (i v n m : Nat) (w : Word) (b : Bool)

@[simp] theorem State.station_wr : (s.wr r i w).station m = s.station m := State.station_of_crd rfl m
@[simp] theorem State.station_setf : (s.setf x i v).station m = s.station m := State.station_of_crd rfl m
@[simp] theorem State.station_setPair : (s.setPair lo hi i v).station m = s.station m := State.station_of_crd rfl m
@[simp] theorem State.station_hang (code arg : Nat) : (s.hang n code arg).station m = s.station m := State.station_of_crd rfl m
@[simp] theorem State.station_setClick (k : ClickSt) : (s.setClick n k).station m = s.station m := State.station_of_crd rfl m
@[simp] theorem State.station_setCluster (k : ClusterSt) : (s.setCluster n k).station m = s.station m :=
  State.station_of_crd rfl m

@[simp] theorem State.click_setf : (s.setf x i v).click m = s.click m := State.click_of_crd rfl m

@[simp] theorem State.cluster_setStation (k : StationSt) : (s.setStation n k).cluster m = s.cluster m :=
  State.cluster_of_crd rfl m

/-! ### Registers after updates of records -/

@[simp] theorem State.f_setStation (k : StationSt) : (s.setStation n k).f x i = s.f x i := State.f_of_regs rfl x i
@[simp] theorem State.f_hang (code arg : Nat) : (s.hang n code arg).f x i = s.f x i := State.f_of_regs rfl x i

@[simp] theorem State.on_setStation (k : StationSt) : (s.setStation n k).on x i = s.on x i := State.on_of_regs rfl x i
@[simp] theorem State.on_hang (code arg : Nat) : (s.hang n code arg).on x i = s.on x i := State.on_of_regs rfl x i

@[simp] theorem State.rd_setStation (k : StationSt) : (s.setStation n k).rd r i = s.rd r i := State.rd_of_regs rfl r i
@[simp] theorem State.rd_setClick (k : ClickSt) : (s.setClick n k).rd r i = s.rd r i := State.rd_of_regs rfl r i
@[simp] theorem State.rd_setCluster (k : ClusterSt) : (s.setCluster n k).rd r i = s.rd r i := State.rd_of_regs rfl r i
@[simp] theorem State.rd_hang (code arg : Nat) : (s.hang n code arg).rd r i = s.rd r i := State.rd_of_regs rfl r i
@[simp] theorem State.rd_telem (z : Int) : (s.telem n z).rd r i = s.rd r i := State.rd_of_regs rfl r i

end

/-! ### A field of the same instance -/

section
variable {x y : Fld} (i v : Nat)

/-- Another field of the same register. -/
abbrev Fld.Beside (x y : Fld) : Prop := x.ok ∧ (y.lo + y.len ≤ x.lo ∨ x.lo + x.len ≤ y.lo)

/-- A field of another register of the same block of instances. -/
abbrev Fld.Elsewhere (x y : Fld) : Prop := y.reg.stride = x.reg.stride ∧ y.reg.off ≠ x.reg.off

theorem State.rd_setf_other {q : Reg} {j : Nat} (h : q.at j ≠ x.reg.at i) : (s.setf x i v).rd q j = s.rd q j :=
  State.rd_wr_other _ _ h

theorem State.f_setf_beside (hr : y.reg = x.reg := by rfl) (h : Fld.Beside x y := by decide) : (s.setf x i v).f y i = s.f y i :=
  State.f_setf_field _ _ _ h.1 hr h.2

theorem State.f_setf_elsewhere (h : Fld.Elsewhere x y := by decide) : (s.setf x i v).f y i = s.f y i :=
  State.f_setf_reg _ _ (Reg.at_ne_of_off h.1 h.2)

theorem State.on_setf_beside (hr : y.reg = x.reg := by rfl) (h : Fld.Beside x y := by decide) : (s.setf x i v).on y i = s.on y i := by
  unfold State.on
  rw [State.f_setf_beside s i v hr h]

theorem State.on_setf_elsewhere (h : Fld.Elsewhere x y := by decide) : (s.setf x i v).on y i = s.on y i := by
  unfold State.on
  rw [State.f_setf_elsewhere s i v h]

end

/-! ### A station's buckets (R60) -/

/-- A station's buckets are read from their own register. -/
theorem State.bucket_of_rd {s t : State} {n : Nat} (h : t.rd R.CRDSn_BUCKET n = s.rd R.CRDSn_BUCKET n) (p : Nat) :
    t.bucket n p = s.bucket n p := by
  unfold State.bucket State.f
  rw [show F.CRDSn_BUCKET_BUCKET0.reg = R.CRDSn_BUCKET from rfl, show F.CRDSn_BUCKET_BUCKET1.reg = R.CRDSn_BUCKET from rfl, h]

/-- Partitions' bits are read from the status register. -/
theorem State.frozen_of_rd {s t : State} {n : Nat} (h : t.rd R.CRDSn_STATUS n = s.rd R.CRDSn_STATUS n) (p : Nat) :
    t.frozen n p = s.frozen n p := by
  unfold State.frozen State.on State.f
  rw [show F.CRDSn_STATUS_PART0_FROZEN.reg = R.CRDSn_STATUS from rfl,
    show F.CRDSn_STATUS_PART1_FROZEN.reg = R.CRDSn_STATUS from rfl, h]

/-- The registers of a present core's station lie below the log and the trace island. -/
theorem Reg.at_core_lt {r : Reg} {n : Nat} (hn : n < Config.coreCount) (h : r.off + r.stride * Config.coreCount < 0x78000 := by decide) :
    r.at n < 0x78000 := Reg.at_lt_of_le (Nat.le_of_lt hn) h

end Sys2Proof.Machine
end

section
/-! SUPPORT. The token queue of a station: posts, rejects and completions (R61, R65 to R67, R339, R342, R553). -/
namespace Sys2Proof.Machine
open Sys2Proof

set_option Elab.async false

variable {s : State} {n : Nat}

/-! ### A station whose island runs -/

theorem State.lt_coreCount_of_coreUp (h : s.coreUp n = true) : n < Config.coreCount := by
  unfold State.coreUp at h
  simp only [Bool.and_eq_true, decide_eq_true_eq] at h
  exact h.1.1.1

/-- While a core's clocks run and its domain is not ON, the domain is between states. -/
theorem State.domRest_of_coreUp (h : s.coreUp n = true) (hs : s.domStep n ≠ 0) : s.domRest n = 3 := by
  have hruns : s.domRuns n = true := by
    unfold State.coreUp at h
    simp only [Bool.and_eq_true] at h
    exact h.1.2
  unfold State.domRuns at hruns
  simp only [Bool.or_eq_true, decide_eq_true_eq] at hruns
  unfold State.domRest
  unfold State.domStep at hs ⊢
  have hcases : s.f F.PWRd_STATUS_STEP n = 1 ∨ s.f F.PWRd_STATUS_STEP n = 2 ∨ s.f F.PWRd_STATUS_STEP n = 0xB := by omega
  rcases hcases with h | h | h
  all_goals
    rw [h]
    rfl

/-! ### Posts -/

/-- The station has queued a token with its cost. -/
def State.tokenQueued (s : State) (n : Nat) (tok : Word64) : State :=
  s.setStation n { s.station n with queue := (s.station n).queue ++ [{ raw := tok, cost := s.costOf n tok }] }

theorem execTokenPost_full (tok : Word64) (h : 8 ≤ (s.station n).queue.length) : execTokenPost n tok s = .next s := by
  unfold execTokenPost
  refine congrArg _ (if_neg ?_)
  rw [decide_eq_false (Nat.not_lt.2 h), Bool.and_false]
  exact Bool.false_ne_true

section
variable {tok : Word64} (hup : s.coreUp n = true) (hq : (s.station n).queue.length < 8)
include hup hq

theorem execTokenPost_quiet (h : s.domStep n = 0 ∨ s.on F.PWRd_CTRL_LINK_WAKE n = false) :
    execTokenPost n tok s = .next (s.tokenQueued n tok) := by
  unfold execTokenPost
  refine congrArg _ ((if_pos (by rw [hup, decide_eq_true hq]; rfl)).trans (if_neg ?_))
  rintro ⟨hstep, -, -, hlink⟩
  exact h.elim hstep fun h => Bool.false_ne_true (h.symm.trans hlink)

theorem execTokenPost_wakes (hs : s.domStep n ≠ 0) (hv : s.vgov = true) (hw : s.rst.warm = false)
    (hl : s.on F.PWRd_CTRL_LINK_WAKE n = true) :
    execTokenPost n tok s = .next ((s.tokenQueued n tok).domRequest n 0 1 none false) := by
  unfold execTokenPost
  refine congrArg _ ((if_pos (by rw [hup, decide_eq_true hq]; rfl)).trans (if_pos ⟨hs, hv, ?_, hl⟩))
  change (!s.rst.warm) = true
  rw [hw]
  rfl

end

/-! ### A request that meets a domain between states (R336) -/

theorem State.slotOutcome_eq (s : State) (slot : Option Nat) (v : Nat) : ∃ fw, s.slotOutcome slot v = s.setFw fw := by
  unfold State.slotOutcome
  split
  · exact ⟨s.eye.fw, rfl⟩
  · exact ⟨_, rfl⟩

/-- A pending target is shown, and whether it waits for safe state to end. -/
theorem State.pendingShown_fields (s : State) (d target : Nat) :
    ((s.putPending d target).showWakeHeld).domPending d = target % 4 ∧
    ((s.putPending d target).showWakeHeld).domStep d = s.domStep d ∧
    ((s.putPending d target).showWakeHeld).f F.PWRd_CTRL_REQ_STATUS d = s.f F.PWRd_CTRL_REQ_STATUS d := by
  have hheld (x : Fld) (hx : R.PWR_STATUS.at 0 < x.reg.off) :
      ((s.putPending d target).showWakeHeld).f x d = (s.putPending d target).f x d :=
    State.f_setb_apart _ _ (.inl (Reg.at_ne_of_lt hx).symm)
  unfold State.domPending State.domStep
  rw [hheld _ (by decide), hheld _ (by decide), hheld _ (by decide)]
  unfold State.putPending State.setb
  refine ⟨?_, ?_, ?_⟩
  · rw [State.f_setf_beside, State.f_setf_same _ _ _ _ (by decide)]
    rfl
  · rw [State.f_setf_beside, State.f_setf_beside]
  · rw [State.f_setf_elsewhere, State.f_setf_elsewhere]

/-- A request that meets a domain between states puts its target in the pending slot; besides, it notes outcomes of commands. -/
theorem State.domRequest_joins {d : Nat} (target src : Nat) (slot : Option Nat) (hold : Bool) (h : s.domRest d = 3) :
    ∃ (u : State) (x : DomSt), s.domRequest d target src slot hold = ((u.setDom d x).putPending d target).showWakeHeld ∧
      u.regs = (s.setf F.PWRd_CTRL_REQ_STATUS d 1).regs ∧
      { u with regs := s.regs, pwr := s.pwr, eye := s.eye } = s := by
  unfold State.domRequest
  extract_lets u1 x1 u2 u3 x3 u4
  obtain ⟨fw2, h2⟩ : ∃ fw, u2 = u1.setFw fw := State.slotOutcome_eq ..
  obtain ⟨fw4, h4⟩ : ∃ fw, u4 = u3.setFw fw := State.slotOutcome_eq ..
  have hbetween : u3.domRest d = 3 := by
    have hst : u3.domStep d = s.domStep d :=
      (State.f_of_regs (congrArg State.regs h2 :) _ _).trans (State.f_setf_elsewhere s _ _)
    unfold State.domRest at h ⊢
    rwa [hst]
  refine ⟨u4, { x3 with pendSrc := src, pendSlot := slot }, if_pos hbetween, ?_, ?_⟩
  · rw [h4]
    exact (congrArg State.regs h2 :)
  · rw [h4]
    change { u2 with regs := s.regs, pwr := s.pwr, eye := s.eye } = s
    rw [h2]
    rfl

theorem State.domRequest_between {d : Nat} (target src : Nat) (slot : Option Nat) (hold : Bool) (h : s.domRest d = 3) :
    (s.domRequest d target src slot hold).domPending d = target % 4 ∧
    (s.domRequest d target src slot hold).f F.PWRd_CTRL_REQ_STATUS d = 1 ∧
    (s.domRequest d target src slot hold).domStep d = s.domStep d ∧
    { s.domRequest d target src slot hold with regs := s.regs, pwr := s.pwr, eye := s.eye } = s := by
  obtain ⟨u, x, e, hregs, hrest⟩ := s.domRequest_joins target src slot hold h
  obtain ⟨hpend, hstep, hreq⟩ := (u.setDom d x).pendingShown_fields d target
  rw [e]
  refine ⟨hpend, ?_, ?_, hrest⟩
  · exact hreq.trans ((State.f_of_regs hregs _ _).trans (State.f_setf_same _ _ _ _ (by decide)))
  · exact hstep.trans ((State.f_of_regs hregs _ _).trans (State.f_setf_elsewhere s _ _))

/-! ### Rejects -/

/-- A rejected head leaves the queue; what the station answers is shown, and its registers but for the status stay. -/
theorem State.reject_fields (s : State) (n a : Nat) :
    (s.reject n a).station n = { s.station n with queue := (s.station n).queue.tail, headStalled := false, answer := a } ∧
    (∀ {r i}, r.at i ≠ R.CRDSn_STATUS.at n → (s.reject n a).rd r i = s.rd r i) ∧
    (s.reject n a).f F.CRDSn_STATUS_STALE_CNT n = s.f F.CRDSn_STATUS_STALE_CNT n ∧
    { s.reject n a with regs := s.regs, crd := s.crd, trc := s.trc } = s := by
  unfold State.reject
  dsimp only
  refine ⟨?_, fun h => ?_, ?_, rfl⟩
  · rw [State.station_hang, State.station_setf, State.station_setf, State.station_setStation_same]
  · rw [State.rd_hang, State.rd_setf_other (x := F.CRDSn_STATUS_STALLED) _ _ _ h,
      State.rd_setf_other (x := F.CRDSn_STATUS_CLASS_WAIT) _ _ _ h, State.rd_setStation]
  · rw [State.f_hang, State.f_setf_beside, State.f_setf_beside, State.f_setStation]

theorem tokenReject_drops (s : State) (n : Nat) (tk : Token) (hh : s.head n = some tk) (hup : s.coreUp n = true)
    (hm : s.malformed n tk.raw = true) : Completes (.tokenReject n) s fun t =>
      (t.station n).queue = (s.station n).queue.tail ∧ (t.station n).answer = 2 ∧ t.reported 0x40 n ∧
      t.bucket n 0 = s.bucket n 0 ∧ t.bucket n 1 = s.bucket n 1 := by
  obtain ⟨hst, hrd, -, -⟩ := s.reject_fields n 2
  have ht : (s.reject n 2).Traced ((s.reject n 2).fault 0x40 n) := State.Traced.refl.fault
  have hb : ((s.reject n 2).fault 0x40 n).rd R.CRDSn_BUCKET n = s.rd R.CRDSn_BUCKET n :=
    (ht.rd (Reg.at_core_lt (State.lt_coreCount_of_coreUp hup))).trans (hrd (Reg.at_ne_of_off rfl (by decide)))
  refine .of_next (t := (s.reject n 2).fault 0x40 n) ?_ rfl ⟨?_, ?_, State.reported_fault _ _ (by decide),
    State.bucket_of_rd hb 0, State.bucket_of_rd hb 1⟩
  · change execTokenReject n s = _
    unfold execTokenReject
    rw [hh]
    exact congrArg _ (if_pos (by rw [hup, hm]; rfl))
  · rw [ht.station, hst]
  · rw [ht.station, hst]

theorem tokenStaleReject_drops (s : State) (n : Nat) (tk : Token) (hh : s.head n = some tk) (hup : s.coreUp n = true)
    (hm : s.malformed n tk.raw = false) (hs : s.staleTok n tk.raw = true) : Completes (.tokenStaleReject n) s fun t =>
      (t.station n).queue = (s.station n).queue.tail ∧ (t.station n).answer = 3 ∧
      t.f F.CRDSn_STATUS_STALE_CNT n = (s.f F.CRDSn_STATUS_STALE_CNT n + 1) % 256 ∧
      { t with regs := s.regs, crd := s.crd, trc := s.trc } = s := by
  obtain ⟨hst, -, hcnt, hkeep⟩ := s.reject_fields n 3
  refine .of_next (t := (s.reject n 3).incf F.CRDSn_STATUS_STALE_CNT n) ?_ rfl ⟨?_, ?_, ?_, hkeep⟩
  · change execTokenStaleReject n s = _
    unfold execTokenStaleReject
    rw [hh]
    exact congrArg _ (if_pos (by rw [hup, hm, hs]; rfl))
  · exact (congrArg StationSt.queue hst).trans rfl
  · exact (congrArg StationSt.answer hst).trans rfl
  · unfold State.incf
    rw [State.f_setf_same _ _ _ _ (by decide), hcnt]
    rfl

/-- Settles O11: each clause is the theorem on its command; a post between states is the queued token and the domain's
request. -/
theorem stationTokens : Obligations.StationTokens := by
  refine ⟨fun s n tok hup hq hquiet => ?_, fun s n tok h => execTokenPost_full tok h, tokenReject_drops, tokenStaleReject_drops,
    fun s n hup => ?_, fun s n tok hup hq hs hv hw hl => ?_⟩
  case refine_1 =>
    exact .of_next (execTokenPost_quiet hup hq hquiet) rfl ⟨congrArg StationSt.queue (State.station_setStation_same ..),
      fun m hm => State.station_setStation_other _ _ hm, rfl⟩
  case refine_2 =>
    exact .of_next (congrArg Host.Outcome.next (if_pos hup)) rfl ⟨congrArg StationSt.running (State.station_setStation_same ..),
      fun m hm => State.station_setStation_other _ _ hm, rfl⟩
  case refine_3 =>
    have hrest : (s.tokenQueued n tok).domRest n = 3 := State.domRest_of_coreUp hup hs
    obtain ⟨hpend, hreq, hstep, hkeep⟩ := State.domRequest_between 0 1 none false hrest
    have hcrd : ((s.tokenQueued n tok).domRequest n 0 1 none false).crd = (s.tokenQueued n tok).crd :=
      (congrArg State.crd hkeep :)
    have hstation (m : Nat) : ((s.tokenQueued n tok).domRequest n 0 1 none false).station m = (s.tokenQueued n tok).station m := by
      unfold State.station
      rw [hcrd]
    refine .of_next (execTokenPost_wakes hup hq hs hv hw hl) rfl ⟨?_, hpend, hreq, hstep, fun m hm => ?_, ?_⟩
    · exact congrArg StationSt.queue ((hstation n).trans (State.station_setStation_same ..))
    · exact (hstation m).trans (State.station_setStation_other _ _ hm)
    · exact (congrArg (fun u : State => { u with crd := s.crd }) hkeep :)

end Sys2Proof.Machine
end

section
/-! SUPPORT. The core cycles of a station: a tile is admitted and paid for, or a stall is counted for one reason (R70 to R73, R88,
R473). -/
namespace Sys2Proof.Machine
open Sys2Proof

set_option Elab.async false

variable {s : State} {n : Nat}

/-! ### Registers and the credit economy alone -/

/-- From `s` to `t` nothing but registers and the records of the credit economy changed. -/
def State.CreditOnly (s t : State) : Prop := { t with regs := s.regs, crd := s.crd } = s

theorem State.CreditOnly.refl : s.CreditOnly s := rfl

theorem State.CreditOnly.trans {t u : State} (h : s.CreditOnly t) (g : t.CreditOnly u) : s.CreditOnly u := by
  unfold State.CreditOnly at h g ⊢
  exact (congrArg (fun v : State => { v with regs := s.regs, crd := s.crd }) g).trans h

section
variable {t : State} (h : s.CreditOnly t)
include h

theorem State.CreditOnly.wr {r : Reg} {i : Nat} {w : Word} : s.CreditOnly (t.wr r i w) := h

theorem State.CreditOnly.setf {x : Fld} {i v : Nat} : s.CreditOnly (t.setf x i v) := h.wr

theorem State.CreditOnly.setPair {lo hi : Reg} {i v : Nat} : s.CreditOnly (t.setPair lo hi i v) := h.wr.wr

theorem State.CreditOnly.setStation {m : Nat} {x : StationSt} : s.CreditOnly (t.setStation m x) := h

theorem State.CreditOnly.coreCycles {m k : Nat} : s.CreditOnly (t.coreCycles m k) := h.setStation

end

/-! ### Core cycles pass (R74, R95) -/

/-- The counts of core cycles are all that `k` cycles change. -/
theorem State.station_coreCycles (s : State) (n k : Nat) : (s.coreCycles n k).station n =
    { s.station n with
      gateCnt := (s.gateCount n + k) % 720720, gateGen := s.crd.gateGen, skipCnt := ((s.station n).skipCnt + k) % 16,
      stretchLeft := (s.station n).stretchLeft - k * s.divRatio n } := State.station_setStation_same ..

theorem State.station_coreCycles_other {m : Nat} (k : Nat) (h : m ≠ n) : (s.coreCycles n k).station m = s.station m :=
  State.station_setStation_other _ _ h

theorem State.coreCycles_regs (s : State) (n k : Nat) : (s.coreCycles n k).regs = s.regs := rfl

theorem State.cluster_coreCycles (s : State) (n k c : Nat) : (s.coreCycles n k).cluster c = s.cluster c :=
  State.cluster_setStation ..

theorem State.bucket_coreCycles (s : State) (n k p : Nat) : (s.coreCycles n k).bucket n p = s.bucket n p :=
  State.bucket_of_rd (State.rd_setStation ..) p

theorem State.capOf_of_station {t : State} (hr : t.regs = s.regs) (hs : (t.station n).split = (s.station n).split) :
    t.capOf n = s.capOf n := by
  unfold State.capOf State.cap
  rw [hs, State.f_of_regs hr]

/-! ### A stall is counted (R73) -/

theorem State.pair_of_rd {t : State} {lo hi : Reg} {i : Nat} (hlo : t.rd lo i = s.rd lo i) (hhi : t.rd hi i = s.rd hi i) :
    t.pair lo hi i = s.pair lo hi i := by
  unfold State.pair
  rw [hlo, hhi]

/-- A pair of counters leaves every other register. -/
theorem State.rd_setPair_other {lo hi q : Reg} {i j v : Nat} (hlo : q.at j ≠ lo.at i) (hhi : q.at j ≠ hi.at i) :
    (s.setPair lo hi i v).rd q j = s.rd q j :=
  (State.rd_wr_other _ _ hhi).trans (State.rd_wr_other _ _ hlo)

/-- A stall cycle is counted for a reason, the station shows that it is stalled, and the cycle passes. -/
def State.stallNoted (s : State) (n : Nat) (r lo hi : Reg) : State :=
  ((s.countStall n r lo hi).setf F.CRDSn_STATUS_STALLED n 1).tickGate n

/-- The registers of a reason: a counter of each station, and a pair for the chip. -/
structure StallRegs (r lo hi : Reg) : Prop where
  stride : r.stride = 0x20
  above : 0x11000 ≤ r.off
  status : r.off ≠ R.CRDSn_STATUS.off
  low : lo.at 0 < 0x11000
  high : hi.at 0 < 0x11000
  apart : lo.at 0 ≠ hi.at 0

section
variable {r lo hi : Reg} (h : StallRegs r lo hi)
include h

theorem StallRegs.at_status : r.at n ≠ R.CRDSn_STATUS.at n := Reg.at_ne_of_off h.stride h.status

theorem State.stallNoted_counts (s : State) (n : Nat) : (s.stallNoted n r lo hi).rd r n = s.rd r n + 1 ∧
    (s.stallNoted n r lo hi).pair lo hi = (s.pair lo hi + 1) % 2 ^ 64 ∧
    (s.stallNoted n r lo hi).on F.CRDSn_STATUS_STALLED n = true := by
  have hlo : lo.at 0 ≠ r.at n := Reg.at_ne_of_lt (Nat.lt_of_lt_of_le h.low h.above)
  have hhi : hi.at 0 ≠ r.at n := Reg.at_ne_of_lt (Nat.lt_of_lt_of_le h.high h.above)
  have hslo : lo.at 0 ≠ R.CRDSn_STATUS.at n := Reg.at_ne_of_lt (Nat.lt_of_lt_of_le h.low (by decide))
  have hshi : hi.at 0 ≠ R.CRDSn_STATUS.at n := Reg.at_ne_of_lt (Nat.lt_of_lt_of_le h.high (by decide))
  unfold State.stallNoted State.tickGate State.countStall
  dsimp only
  refine ⟨?_, ?_, ?_⟩
  · rw [State.rd_of_regs (State.coreCycles_regs ..), State.rd_setf_other (x := F.CRDSn_STATUS_STALLED) _ _ _ h.at_status,
      State.rd_setPair_other hlo.symm hhi.symm, State.rd_wr_same]
  · rw [State.pair_of_rd (State.rd_of_regs (State.coreCycles_regs ..) _ _) (State.rd_of_regs (State.coreCycles_regs ..) _ _),
      State.pair_of_rd (State.rd_setf_other (x := F.CRDSn_STATUS_STALLED) _ _ _ hslo)
        (State.rd_setf_other (x := F.CRDSn_STATUS_STALLED) _ _ _ hshi), State.pair_setPair_same _ _ _ _ _ h.apart,
      State.pair_of_rd (State.rd_wr_other _ _ hlo) (State.rd_wr_other _ _ hhi)]
  · rw [State.on_of_regs (State.coreCycles_regs ..), State.on_setf_same _ _ _ _ (by decide)]
    rfl

/-- The counters of the other reasons and the queue stay. -/
theorem State.stallNoted_frame (s : State) (n : Nat) :
    (∀ {q : Reg}, q.stride = 0x20 → 0x11000 ≤ q.off → q.off ≠ R.CRDSn_STATUS.off → q.off ≠ r.off →
      (s.stallNoted n r lo hi).rd q n = s.rd q n) ∧
    ((s.stallNoted n r lo hi).station n).queue = (s.station n).queue ∧ s.CreditOnly (s.stallNoted n r lo hi) := by
  refine ⟨fun hq ha hst hne => ?_, ?_, State.CreditOnly.refl.wr.setPair.setf.coreCycles⟩
  · unfold State.stallNoted State.tickGate State.countStall
    dsimp only
    rw [State.rd_of_regs (State.coreCycles_regs ..),
      State.rd_setf_other (x := F.CRDSn_STATUS_STALLED) _ _ _ (Reg.at_ne_of_off hq hst),
      State.rd_setPair_other (Reg.at_ne_of_lt (Nat.lt_of_lt_of_le h.low ha)).symm
        (Reg.at_ne_of_lt (Nat.lt_of_lt_of_le h.high ha)).symm,
      State.rd_wr_other _ _ (Reg.at_ne_of_off (hq.trans h.stride.symm) hne)]
  · unfold State.stallNoted State.tickGate State.countStall
    rw [State.station_coreCycles, State.station_setf, State.station_setPair, State.station_wr]

end

/-- A reason for which a stall cycle is counted, with its registers (R73). -/
def StallReason (why : StallWhy) (r lo hi : Reg) : Prop :=
  (why = .clamp ∧ r = R.CRDSn_STALL_CLAMP ∧ lo = R.CRD_LOST_CLAMP_LO ∧ hi = R.CRD_LOST_CLAMP_HI) ∨
  (why = .other ∧ r = R.CRDSn_STALL_OTHER ∧ lo = R.CRD_LOST_OTHER_LO ∧ hi = R.CRD_LOST_OTHER_HI) ∨
  (why = .ramp ∧ r = R.CRDSn_STALL_RAMP ∧ lo = R.CRD_LOST_RAMP_LO ∧ hi = R.CRD_LOST_RAMP_HI) ∨
  (why = .credit ∧ r = R.CRDSn_STALL_CREDIT ∧ lo = R.CRD_LOST_CREDIT_LO ∧ hi = R.CRD_LOST_CREDIT_HI)

theorem StallReason.regs {why : StallWhy} {r lo hi : Reg} (h : StallReason why r lo hi) : StallRegs r lo hi := by
  rcases h with ⟨-, rfl, rfl, rfl⟩ | ⟨-, rfl, rfl, rfl⟩ | ⟨-, rfl, rfl, rfl⟩ | ⟨-, rfl, rfl, rfl⟩
  all_goals exact ⟨by decide, by decide, by decide, by decide, by decide, by decide⟩

/-- A stall cycle is counted on a state in which the idle cycles have passed and, for credit, the head token's want is noted. -/
theorem execStallCycle_notes {idle rivals : Nat} {tk : Token} {r lo hi : Reg} (hh : s.head n = some tk)
    (hup : s.coreUp n = true) (h : StallReason ((s.coreCycles n idle).whyStall n tk rivals) r lo hi) :
    ∃ u : State, execStallCycle ⟨n, idle, rivals⟩ s = .next (u.stallNoted n r lo hi) ∧ u.regs = s.regs ∧
      (u.station n).queue = (s.station n).queue ∧ s.CreditOnly u := by
  have hidle : s.CreditOnly (s.coreCycles n idle) := State.CreditOnly.refl.coreCycles
  have hq : ((s.coreCycles n idle).station n).queue = (s.station n).queue := by rw [State.station_coreCycles]
  unfold execStallCycle
  dsimp only
  rw [hh]
  dsimp only
  rw [if_pos hup]
  rcases h with ⟨hw, rfl, rfl, rfl⟩ | ⟨hw, rfl, rfl, rfl⟩ | ⟨hw, rfl, rfl, rfl⟩ | ⟨hw, rfl, rfl, rfl⟩
  case inr.inr.inr =>
    rw [hw]
    dsimp only
    split
    · exact ⟨_, rfl, rfl, hq, hidle⟩
    · refine ⟨_, rfl, rfl, ?_, hidle.setStation⟩
      rw [State.station_setStation_same]
      exact hq
  all_goals
    rw [hw]
    exact ⟨_, rfl, rfl, hq, hidle⟩

/-- Settles O13: the reason's registers are those of one stall counter, which nothing else of the cycle writes. -/
theorem stallCyclesCountOneReason : Obligations.StallCyclesCountOneReason := by
  intro s n idle rivals tk r lo hi hh hup h
  have hregs : StallRegs r lo hi := StallReason.regs h
  obtain ⟨u, hexec, hu, hqueue, hrest⟩ := execStallCycle_notes hh hup h
  obtain ⟨hcount, hchip, hstalled⟩ := u.stallNoted_counts hregs n
  obtain ⟨hother, hq, hkeep⟩ := u.stallNoted_frame hregs n
  refine .of_next hexec rfl ⟨?_, ?_, hstalled, hq.trans hqueue, fun q hmem hne => ?_, hrest.trans hkeep⟩
  · rw [hcount, State.rd_of_regs hu]
  · rw [hchip, State.pair_of_rd (State.rd_of_regs hu _ _) (State.rd_of_regs hu _ _)]
  · have hstall : q.stride = 0x20 ∧ 0x11000 ≤ q.off ∧ q.off ≠ R.CRDSn_STATUS.off := by
      simp only [List.mem_cons, List.not_mem_nil, or_false] at hmem
      rcases hmem with rfl | rfl | rfl | rfl
      all_goals decide
    obtain ⟨hstride, habove, hstatus⟩ := hstall
    rw [hother hstride habove hstatus hne, State.rd_of_regs hu]

end Sys2Proof.Machine
end

section
/-! SUPPORT. A tile is admitted: what the station pays, and what the admission writes (R70 to R72, R88, R473). -/
namespace Sys2Proof.Machine
open Sys2Proof

set_option Elab.async false

variable {s : State} {n : Nat}

/-! ### Operations that leave the credit economy -/

/-- From `s₀` to `s` the registers of the credit economy and its records are the same. -/
structure State.CreditKept (s₀ s : State) : Prop where
  get : ∀ a, 0x10000 ≤ a → a < 0x20000 → ∀ d, Tab.get d s.regs a = Tab.get d s₀.regs a
  crd : s.crd = s₀.crd

theorem State.CreditKept.refl : s.CreditKept s := ⟨fun _ _ _ _ => rfl, rfl⟩

theorem State.CreditKept.trans {t u : State} (h : s.CreditKept t) (g : t.CreditKept u) : s.CreditKept u :=
  ⟨fun a ha hb d => (g.get a ha hb d).trans (h.get a ha hb d), g.crd.trans h.crd⟩

theorem State.CreditKept.ite {c : Prop} [Decidable c] {s₀ t : State} (hs : s₀.CreditKept s) (ht : s₀.CreditKept t) :
    s₀.CreditKept (if c then s else t) := by
  split
  · exact hs
  · exact ht

section
variable {t : State} (h : s.CreditKept t)
include h

theorem State.CreditKept.rd {r : Reg} {i : Nat} (h1 : 0x10000 ≤ r.at i) (h2 : r.at i < 0x20000) : t.rd r i = s.rd r i :=
  h.get _ h1 h2 _

theorem State.CreditKept.traced {u : State} (g : t.Traced u) : s.CreditKept u :=
  ⟨fun a ha hb d => (g.get a (by omega) d).trans (h.get a ha hb d), g.crd.trans h.crd⟩

/-- A register of the clusters' Welts. -/
theorem State.CreditKept.setf {x : Fld} {i v : Nat} (hr : x.reg.at i < 0x10000) : s.CreditKept (t.setf x i v) :=
  ⟨fun a ha hb d => (Tab.get_set_other _ _ _ _ (by omega)).trans (h.get a ha hb d), h.crd⟩

theorem State.CreditKept.welt {x : WeltAll} : s.CreditKept { t with welt := x } := ⟨h.get, h.crd⟩

theorem State.CreditKept.setLast {l : Nat} {x : LastSt} : s.CreditKept (t.setLast l x) := ⟨h.get, h.crd⟩

end

/-- A marker is taken by the Lasts alone. -/
theorem State.noteStep_creditKept (s : State) (c : Nat) : s.CreditKept (s.noteStep c) := by
  unfold State.noteStep
  refine List.foldlRecOn (motive := s.CreditKept) _ _ .refl fun u hu l _ => ?_
  exact .ite hu.setLast hu

/-- The cluster's class account is registers and records of the Welts. -/
theorem State.noteTile_creditKept (s : State) {c : Nat} (cls : Nat) (hc : c < Config.clusterCount) :
    s.CreditKept (s.noteTile c cls) := by
  have hat : R.WELTc_STATUS.at c < 0x10000 := Reg.at_lt_of_le (Nat.le_of_lt hc) (by decide)
  have hadmit : s.CreditKept (s.noteAdmit c cls) := by
    unfold State.noteAdmit
    extract_lets w t w' w'' u1 u2
    have hu1 : s.CreditKept u1 := State.CreditKept.refl.welt
    have hu2 : s.CreditKept u2 := .ite ((hu1.setf hat).traced State.Traced.refl.trace) hu1
    exact .ite (hu2.setf hat) hu2
  unfold State.noteTile
  exact .ite hadmit hadmit.welt

/-! ### The payment (R71, R72) -/

theorem State.bucket_lt (s : State) (n p : Nat) : s.bucket n p < 65536 := by
  unfold State.bucket
  split
  all_goals exact getBits_lt ..

theorem State.cluster_setBucket (s : State) (n p v c : Nat) : (s.setBucket n p v).cluster c = s.cluster c :=
  State.cluster_of_crd (congrArg CrdSt.clusters (State.setBucket_crd ..)) c

section
variable {tk : Token}

theorem State.payTile_afforded (h : tk.cost ≤ s.capOf n) :
    s.payTile n tk = s.setBucket n (tokPart tk.raw) (s.bucket n (tokPart tk.raw) - tk.cost) := if_neg (Nat.not_lt.2 h)

theorem State.payTile_short (h : s.capOf n < tk.cost) :
    s.payTile n tk = (s.setStation n { s.station n with
      shortfall := min ((s.station n).shortfall + (tk.cost - s.capOf n)) 65535 }).setBucket n (tokPart tk.raw) 0 := if_pos h

/-- A tile that the cap covers is paid from the bucket. -/
theorem State.payTile_afforded_fields (h : tk.cost ≤ s.capOf n) :
    (s.payTile n tk).bucket n (tokPart tk.raw) = s.bucket n (tokPart tk.raw) - tk.cost ∧
    ∀ m, (s.payTile n tk).station m = s.station m := by
  have hlt := s.bucket_lt n (tokPart tk.raw)
  rw [State.payTile_afforded h]
  exact ⟨State.bucket_setBucket_same _ _ _ (by omega), fun m => State.station_setBucket ..⟩

/-- A tile that costs more than the cap takes the whole bucket; the rest is noted. -/
theorem State.payTile_short_fields (h : s.capOf n < tk.cost) :
    (s.payTile n tk).bucket n (tokPart tk.raw) = 0 ∧
    (s.payTile n tk).station n =
      { s.station n with shortfall := min ((s.station n).shortfall + (tk.cost - s.capOf n)) 65535 } ∧
    ∀ m, m ≠ n → (s.payTile n tk).station m = s.station m := by
  rw [State.payTile_short h]
  refine ⟨State.bucket_setBucket_same _ _ _ (by decide), ?_, fun m hm => ?_⟩
  · rw [State.station_setBucket, State.station_setStation_same]
  · rw [State.station_setBucket, State.station_setStation_other _ _ hm]

theorem State.cluster_payTile (s : State) (n c : Nat) (tk : Token) : (s.payTile n tk).cluster c = s.cluster c := by
  unfold State.payTile
  dsimp only
  split
  · rw [State.cluster_setBucket, State.cluster_setStation]
  · exact State.cluster_setBucket ..

end

/-- The ramp tokens that an admission takes leave the cluster's pool. -/
def State.rampTaken (s : State) (n : Nat) (t : Token) : State :=
  let k := s.cluster (clusterOf n)
  let need := rampNeed (s.station n) t.cost
  s.setCluster (clusterOf n) { k with pool := k.pool - need, rr := if need = 0 then k.rr else n % 16 }

/-- What an admission takes: ramp tokens and credit, with EN at 1 (R71, R74, R473). -/
def State.admitPaid (s : State) (n : Nat) (t : Token) : State :=
  if s.on F.CRD_CTRL_EN then (if isDummy t then s.rampTaken n t else (s.rampTaken n t).payTile n t) else s

/-- A payment keeps the station but for its shortfall, and every other station. -/
theorem State.admitPaid_station (s : State) (n : Nat) (tk : Token) :
    (∃ f, (s.admitPaid n tk).station n = { s.station n with shortfall := f }) ∧
    ∀ m, m ≠ n → (s.admitPaid n tk).station m = s.station m := by
  have hramp (m : Nat) : (s.rampTaken n tk).station m = s.station m := State.station_setCluster ..
  unfold State.admitPaid
  split
  · split
    · exact ⟨⟨_, hramp n⟩, fun m _ => hramp m⟩
    · by_cases h : tk.cost ≤ (s.rampTaken n tk).capOf n
      · obtain ⟨-, hst⟩ := State.payTile_afforded_fields h
        exact ⟨⟨_, (hst n).trans (hramp n)⟩, fun m _ => (hst m).trans (hramp m)⟩
      · obtain ⟨-, hn, hm⟩ := State.payTile_short_fields (Nat.lt_of_not_le h)
        rw [hramp] at hn
        exact ⟨⟨_, hn⟩, fun m h => (hm m h).trans (hramp m)⟩
  · exact ⟨⟨_, rfl⟩, fun _ _ => rfl⟩

theorem State.admitPaid_pool (tk : Token) (he : s.on F.CRD_CTRL_EN = true) : ((s.admitPaid n tk).cluster (clusterOf n)).pool =
    (s.cluster (clusterOf n)).pool - rampNeed (s.station n) tk.cost := by
  have hramp : ((s.rampTaken n tk).cluster (clusterOf n)).pool =
      (s.cluster (clusterOf n)).pool - rampNeed (s.station n) tk.cost :=
    congrArg ClusterSt.pool (State.cluster_setCluster_same ..)
  unfold State.admitPaid
  rw [if_pos he]
  split
  · exact hramp
  · rw [State.cluster_payTile]
    exact hramp

theorem State.capOf_rampTaken (s : State) (n : Nat) (tk : Token) : (s.rampTaken n tk).capOf n = s.capOf n :=
  State.capOf_of_station rfl (congrArg StationSt.split (State.station_setCluster ..))

theorem State.bucket_rampTaken (s : State) (n p : Nat) (tk : Token) : (s.rampTaken n tk).bucket n p = s.bucket n p :=
  State.bucket_of_rd (State.rd_setCluster ..) p

section
variable {tk : Token} (he : s.on F.CRD_CTRL_EN = true) (hd : isDummy tk = false)
include he hd

theorem State.admitPaid_credit : s.admitPaid n tk = (s.rampTaken n tk).payTile n tk := by
  unfold State.admitPaid
  rw [if_pos he, hd]
  exact if_neg Bool.false_ne_true

theorem State.admitPaid_afforded (h : tk.cost ≤ s.capOf n) :
    (s.admitPaid n tk).bucket n (tokPart tk.raw) = s.bucket n (tokPart tk.raw) - tk.cost ∧
    ((s.admitPaid n tk).station n).shortfall = (s.station n).shortfall := by
  rw [← State.capOf_rampTaken s n tk] at h
  obtain ⟨hb, hst⟩ := State.payTile_afforded_fields h
  rw [State.admitPaid_credit he hd, hb, hst, State.bucket_rampTaken]
  exact ⟨rfl, congrArg StationSt.shortfall (State.station_setCluster ..)⟩

theorem State.admitPaid_short (h : s.capOf n < tk.cost) :
    (s.admitPaid n tk).bucket n (tokPart tk.raw) = 0 ∧
    ((s.admitPaid n tk).station n).shortfall = min ((s.station n).shortfall + (tk.cost - s.capOf n)) 65535 := by
  have hcap := State.capOf_rampTaken s n tk
  rw [← hcap] at h
  obtain ⟨hb, hst, -⟩ := State.payTile_short_fields h
  rw [State.admitPaid_credit he hd, hb, hst, hcap]
  refine ⟨rfl, ?_⟩
  change min (((s.rampTaken n tk).station n).shortfall + _) 65535 = _
  rw [show (s.rampTaken n tk).station n = s.station n from State.station_setCluster ..]

end

/-- Without EN, and for a dummy tile, no credit is taken. -/
theorem State.admitPaid_free {tk : Token} (h : s.on F.CRD_CTRL_EN = false ∨ isDummy tk = true) (p : Nat) :
    (s.admitPaid n tk).bucket n p = s.bucket n p := by
  unfold State.admitPaid
  split
  · next he =>
    rw [if_pos (h.resolve_left (ne_false_of_eq_true he))]
    exact State.bucket_rampTaken ..
  · rfl

/-! ### The rest of the admission -/

/-- The head token runs. -/
def StationSt.ran (x : StationSt) (t : Token) : StationSt :=
  { x with queue := x.queue.tail, running := x.running ++ [t], x := x.x + t.cost,
           spent := if isDummy t then x.spent else x.spent + t.cost, headStalled := false, answer := 1 }

/-- The counters of an admission: the window spend, and the core's station no longer stalled (R71, R473). -/
def State.tileCounted (s : State) (n : Nat) (t : Token) : State :=
  let total := (s.pair R.CRD_SPENT_LO R.CRD_SPENT_HI + t.cost) % 2 ^ 64
  let s := (s.setPair R.CRD_SPENT_LO R.CRD_SPENT_HI 0 total).telem 0x10040 total
  let s := s.setf F.CRDSn_STATUS_STALLED n 0
  s.setf F.CRDSn_STATUS_CLASS_WAIT n 0

/-- A tile outside the credit economy is counted in CRD_UNMETERED (R71). -/
def State.unmeteredCounted (s : State) (t : Token) : State :=
  if isDummy t then
    s.setPair R.CRD_UNMETERED_LO R.CRD_UNMETERED_HI 0 (s.pair R.CRD_UNMETERED_LO R.CRD_UNMETERED_HI + t.cost)
  else s

/-- What follows the payment of an admission (R71, R473). -/
def State.tileStarted (s : State) (n : Nat) (t : Token) : State :=
  let s := s.unmeteredCounted t
  let s := (s.setStation n ((s.station n).ran t)).tileCounted n t
  let s := if tokStep t.raw then s.noteStep (clusterOf n) else s
  s.noteTile (clusterOf n) t.cls

theorem State.admitTile_eq (s : State) (n : Nat) (t : Token) : s.admitTile n t = (s.admitPaid n t).tileStarted n t := rfl

/-- The buckets and the records of the credit economy are the same. -/
structure State.BucketsKept (s t : State) : Prop where
  bucket : ∀ n, t.rd R.CRDSn_BUCKET n = s.rd R.CRDSn_BUCKET n
  crd : t.crd = s.crd

section
variable {t : State} (h : s.BucketsKept t)
include h

theorem State.BucketsKept.setPair {lo hi : Reg} {v : Nat} (hlo : lo.at 0 < R.CRDSn_BUCKET.off)
      (hhi : hi.at 0 < R.CRDSn_BUCKET.off) :
    s.BucketsKept (t.setPair lo hi 0 v) where
  bucket m := (State.rd_setPair_other (q := R.CRDSn_BUCKET) (Reg.at_ne_of_lt hlo).symm (Reg.at_ne_of_lt hhi).symm).trans
    (h.bucket m)
  crd := h.crd

theorem State.BucketsKept.telem {a v : Nat} : s.BucketsKept (t.telem a v) := ⟨h.bucket, h.crd⟩

theorem State.BucketsKept.setf {x : Fld} {i v : Nat} (hne : ∀ j, R.CRDSn_BUCKET.at j ≠ x.reg.at i) : s.BucketsKept (t.setf x i v) :=
  ⟨fun m => (State.rd_setf_other t i v (hne m)).trans (h.bucket m), h.crd⟩

end

theorem State.unmeteredCounted_kept (s : State) (tk : Token) : s.BucketsKept (s.unmeteredCounted tk) := by
  unfold State.unmeteredCounted
  have hself : s.BucketsKept s := ⟨fun _ => rfl, rfl⟩
  split
  · exact hself.setPair (by decide) (by decide)
  · exact hself

theorem State.tileCounted_kept (s : State) (n : Nat) (tk : Token) : s.BucketsKept (s.tileCounted n tk) := by
  have hself : s.BucketsKept s := ⟨fun _ => rfl, rfl⟩
  have hne (j : Nat) : R.CRDSn_BUCKET.at j ≠ R.CRDSn_STATUS.at n := by
    change 0x11008 + 0x20 * j ≠ 0x1100C + 0x20 * n
    omega
  exact ((hself.setPair (by decide) (by decide)).telem.setf hne).setf hne

theorem State.tileCounted_stalled (s : State) (n : Nat) (tk : Token) :
    (s.tileCounted n tk).on F.CRDSn_STATUS_STALLED n = false := by
  unfold State.tileCounted
  dsimp only
  rw [State.on_setf_beside, State.on_setf_same _ _ _ _ (by decide)]
  rfl

theorem State.clusterOf_lt {n : Nat} (hn : n < Config.coreCount) : clusterOf n < Config.clusterCount := by
  unfold clusterOf
  change n < 512 at hn
  change n / 16 < 32
  omega

/-- The step marker and the class account leave the credit economy. -/
theorem State.noted_creditKept (s : State) {c : Nat} (tk : Token) (hc : c < Config.clusterCount) :
    s.CreditKept ((if tokStep tk.raw then s.noteStep c else s).noteTile c tk.cls) :=
  .trans (.ite (s.noteStep_creditKept _) .refl) (State.noteTile_creditKept _ _ hc)

/-- The start of a tile moves it from the queue and shows the station not stalled; buckets, pools and other stations stay. -/
theorem State.tileStarted_fields (s : State) {n : Nat} (tk : Token) (hn : n < Config.coreCount) :
    (s.tileStarted n tk).station n = (s.station n).ran tk ∧
    (∀ m, m ≠ n → (s.tileStarted n tk).station m = s.station m) ∧
    (∀ c, (s.tileStarted n tk).cluster c = s.cluster c) ∧ (∀ p, (s.tileStarted n tk).bucket n p = s.bucket n p) ∧
    (s.tileStarted n tk).on F.CRDSn_STATUS_STALLED n = false := by
  unfold State.tileStarted
  extract_lets u1 u2 u3
  have h1 : s.BucketsKept u1 := s.unmeteredCounted_kept tk
  have h2 := (u1.setStation n ((u1.station n).ran tk)).tileCounted_kept n tk
  have hon2 : u2.on F.CRDSn_STATUS_STALLED n = false := State.tileCounted_stalled ..
  have h3 : u2.CreditKept (u3.noteTile (clusterOf n) tk.cls) := u2.noted_creditKept tk (State.clusterOf_lt hn)
  change State.BucketsKept _ u2 at h2
  clear_value u3 u2 u1
  have hcrd := h3.crd.trans h2.crd
  have hbucket := (h3.rd (r := R.CRDSn_BUCKET) (i := n) (Nat.le_trans (by decide) (Reg.off_le_at _ _))
    (Reg.at_lt_of_le (Nat.le_of_lt hn) (by decide))).trans
      ((h2.bucket n).trans ((State.rd_setStation ..).trans (h1.bucket n)))
  have hstatus := h3.rd (r := R.CRDSn_STATUS) (i := n) (Nat.le_trans (by decide) (Reg.off_le_at _ _))
    (Reg.at_lt_of_le (Nat.le_of_lt hn) (by decide))
  have hstation (m : Nat) : (u3.noteTile (clusterOf n) tk.cls).station m =
      (u1.setStation n ((u1.station n).ran tk)).station m := State.station_of_crd (congrArg CrdSt.stations hcrd) m
  have hstation1 (m : Nat) : u1.station m = s.station m := State.station_of_crd (congrArg CrdSt.stations h1.crd) m
  refine ⟨?_, fun m hm => ?_, fun c => ?_, fun p => State.bucket_of_rd hbucket p, ?_⟩
  · rw [hstation, ← hstation1]
    exact State.station_setStation_same ..
  · rw [hstation, ← hstation1]
    exact State.station_setStation_other _ _ hm
  · rw [State.cluster_of_crd (congrArg CrdSt.clusters hcrd), ← State.cluster_of_crd (congrArg CrdSt.clusters h1.crd)]
    exact State.cluster_setStation ..
  · have hfield := congrArg (fun v => getBits v F.CRDSn_STATUS_STALLED.lo F.CRDSn_STATUS_STALLED.len) hstatus
    exact (congrArg (· == 1) hfield).trans hon2

theorem execTileAdmit_admits {idle rivals : Nat} {tk : Token} (hh : s.head n = some tk) (hup : s.coreUp n = true)
    (hstep : s.f F.PWRd_STATUS_STEP n = 0) (hw : (s.coreCycles n idle).whyStall n tk rivals = .none) :
    execTileAdmit ⟨n, idle, rivals⟩ s = .next (((s.coreCycles n idle).admitTile n tk).tickGate n) := by
  unfold execTileAdmit
  dsimp only
  rw [hh]
  exact congrArg _ (if_pos (by rw [hup, hstep, hw]; rfl))

/-- Settles O12: after the idle cycles the tile is paid for, it starts, and the cycle of the admission passes. -/
theorem tileAdmission : Obligations.TileAdmission := by
  intro s n idle rivals tk hh hup hstep hw
  have hn := State.lt_coreCount_of_coreUp hup
  have hidle := s.station_coreCycles n idle
  have hidle' (m : Nat) (hm : m ≠ n) := State.station_coreCycles_other (s := s) idle hm
  have hbucket (p : Nat) := s.bucket_coreCycles n idle p
  have hcap : (s.coreCycles n idle).capOf n = s.capOf n := State.capOf_of_station rfl (by rw [hidle])
  have hen : (s.coreCycles n idle).on F.CRD_CTRL_EN = s.on F.CRD_CTRL_EN := State.on_of_regs (State.coreCycles_regs ..) _ _
  have hpool := s.cluster_coreCycles n idle (clusterOf n)
  have hneed : rampNeed ((s.coreCycles n idle).station n) tk.cost = rampNeed (s.station n) tk.cost := by rw [hidle]; rfl
  have hshort : ((s.coreCycles n idle).station n).shortfall = (s.station n).shortfall := by rw [hidle]
  refine .of_next (execTileAdmit_admits hh hup hstep hw) rfl ?_
  rw [State.admitTile_eq]
  generalize s.coreCycles n idle = u at *
  obtain ⟨⟨f, hpaid⟩, hpaid'⟩ := u.admitPaid_station n tk
  obtain ⟨hst, hst', hcl, hbk, hon⟩ := (u.admitPaid n tk).tileStarted_fields tk hn
  have htick := ((u.admitPaid n tk).tileStarted n tk).station_coreCycles n 1
  have htick' {m : Nat} (hm : m ≠ n) := State.station_coreCycles_other (s := (u.admitPaid n tk).tileStarted n tk) 1 hm
  have hcl' := ((u.admitPaid n tk).tileStarted n tk).cluster_coreCycles n 1 (clusterOf n)
  have hbk' := ((u.admitPaid n tk).tileStarted n tk).bucket_coreCycles n 1
  have hon' := State.on_of_regs (((u.admitPaid n tk).tileStarted n tk).coreCycles_regs n 1) F.CRDSn_STATUS_STALLED n
  unfold State.tickGate
  rw [htick, hst, hon', hon, hcl', hcl]
  simp only [hbk', hbk]
  refine ⟨fun m hm => ?_, ?_, ?_, rfl, ?_, trivial, fun he => ?_, fun he hd hc => ?_, fun he hd hc => ?_, fun h => ⟨?_, ?_⟩⟩
  · rw [htick' hm, hst' m hm, hpaid' m hm, hidle' m hm]
  · change ((u.admitPaid n tk).station n).queue.tail = _
    rw [hpaid, hidle]
  · change ((u.admitPaid n tk).station n).running ++ [tk] = _
    rw [hpaid, hidle]
  · change ((u.admitPaid n tk).station n).x + tk.cost = _
    rw [hpaid, hidle]
  · rw [State.admitPaid_pool tk (hen.trans he), hpool, hneed]
  · obtain ⟨hb, hs⟩ := State.admitPaid_afforded (hen.trans he) hd (by rw [hcap]; exact hc)
    exact ⟨hb.trans (by rw [hbucket]), hs.trans hshort⟩
  · obtain ⟨hb, hs⟩ := State.admitPaid_short (hen.trans he) hd (by rw [hcap]; exact hc)
    exact ⟨hb, hs.trans (by rw [hshort, hcap])⟩
  · rw [State.admitPaid_free (by rwa [hen]), hbucket]
  · rw [State.admitPaid_free (by rwa [hen]), hbucket]

end Sys2Proof.Machine
end

section
/-! SUPPORT. The epoch boundary at a station, and the reception of its report by the Clicker (R75, R76, R80, R107). -/
namespace Sys2Proof.Machine
open Sys2Proof

set_option Elab.async false

variable {s : State} {n : Nat}

/-! ### What the boundary's returns, SPLIT and role leave of the station -/

/-- A station but for what the boundary's returns, its SPLIT and its role change. -/
def StationSt.reportable (x : StationSt) : StationSt :=
  { x with toReturn := 0, split := false, roleChanged := false, pendRole := 0, pendSlot := none }

/-- From `s` to `t` the station keeps what its report tells of the epoch, its JOB register, its domain's step and the time. -/
structure State.Reportable (n : Nat) (s t : State) : Prop where
  station : (t.station n).reportable = (s.station n).reportable
  step : t.f F.PWRd_STATUS_STEP n = s.f F.PWRd_STATUS_STEP n
  job : t.f F.CRDSn_ROLE_JOB n = s.f F.CRDSn_ROLE_JOB n
  split : t.on F.CRDSn_CFG_SPLIT n = s.on F.CRDSn_CFG_SPLIT n
  epoch : t.epoch = s.epoch

theorem State.epoch_of_rd {s t : State} (ht : t.time = s.time) (hr : t.rd R.TIME_STATUS = s.rd R.TIME_STATUS) : t.epoch = s.epoch := by
  unfold State.epoch State.now State.started State.on State.f
  rw [ht, show F.TIME_STATUS_STARTED.reg = R.TIME_STATUS from rfl, hr]

theorem State.Reportable.ite {c : Prop} [Decidable c] {s₀ t : State} (hs : s₀.Reportable n s) (ht : s₀.Reportable n t) :
    s₀.Reportable n (if c then s else t) := by
  split
  · exact hs
  · exact ht

section
variable {s₀ : State} (h : s₀.Reportable n s)
include h

theorem State.Reportable.serve {k i : Nat} : s₀.Reportable n (s.serve k i) := ⟨h.station, h.step, h.job, h.split, h.epoch⟩

theorem State.Reportable.setFw {x : FwSt} : s₀.Reportable n (s.setFw x) := ⟨h.station, h.step, h.job, h.split, h.epoch⟩

theorem State.Reportable.hang {ring code arg : Nat} : s₀.Reportable n (s.hang ring code arg) :=
  ⟨h.station, h.step, h.job, h.split, h.epoch⟩

theorem State.Reportable.setStation {x : StationSt} (hx : x.reportable = (s.station n).reportable := by rfl) :
    s₀.Reportable n (s.setStation n x) where
  station := (congrArg StationSt.reportable (State.station_setStation_same ..)).trans (hx.trans h.station)
  step := h.step
  job := h.job
  split := h.split
  epoch := h.epoch

/-- A field of the station's registers beside its JOB and SPLIT. -/
theorem State.Reportable.setf {x : Fld} {v : Nat} (hlow : 0x10000 ≤ x.reg.off) (hn : n < Config.coreCount)
    (hjob : ∀ u : State, (u.setf x n v).f F.CRDSn_ROLE_JOB n = u.f F.CRDSn_ROLE_JOB n)
    (hsplit : ∀ u : State, (u.setf x n v).on F.CRDSn_CFG_SPLIT n = u.on F.CRDSn_CFG_SPLIT n) :
    s₀.Reportable n (s.setf x n v) where
  station := h.station
  step := by
    have hlt : R.PWRd_STATUS.at n < x.reg.off :=
      Nat.lt_of_lt_of_le (Reg.at_lt_of_le (k := Config.coreCount) (Nat.le_of_lt hn) (by decide)) hlow
    exact (State.f_setf_reg _ _ (Reg.at_ne_of_lt hlt)).trans h.step
  job := (hjob s).trans h.job
  split := (hsplit s).trans h.split
  epoch := by
    have hlt : R.TIME_STATUS.at 0 < x.reg.off := Nat.lt_of_lt_of_le (by decide) hlow
    exact (State.epoch_of_rd (s := s) (t := s.setf x n v) rfl (State.rd_setf_other _ _ _ (Reg.at_ne_of_lt hlt))).trans h.epoch

section
variable (hn : n < Config.coreCount)
include hn

theorem State.Reportable.setBucket {p v : Nat} : s₀.Reportable n (s.setBucket n p v) := by
  unfold State.setBucket
  refine .ite (h.setf (by decide) hn (fun u => ?_) (fun u => ?_)) (h.setf (by decide) hn (fun u => ?_) (fun u => ?_))
  · exact State.f_setf_elsewhere ..
  · exact State.on_setf_elsewhere ..
  · exact State.f_setf_elsewhere ..
  · exact State.on_setf_elsewhere ..

theorem State.Reportable.setPending {v : Nat} : s₀.Reportable n (s.setf F.CRDSn_ROLE_PENDING n v) :=
  h.setf (by decide) hn (fun u => State.f_setf_beside ..) (fun u => State.on_setf_elsewhere ..)

theorem State.Reportable.changeRole {role : Nat} : s₀.Reportable n (s.changeRole n role) := by
  unfold State.changeRole
  extract_lets x u1 u2
  have hu1 : s₀.Reportable n u1 :=
    h.setf (by decide) hn (fun u => State.f_setf_beside ..) (fun u => State.on_setf_elsewhere ..)
  have hu2 : s₀.Reportable n u2 :=
    hu1.setf (by decide) hn (fun u => State.f_setf_beside ..) (fun u => State.on_setf_elsewhere ..)
  exact hu2.setStation.hang

/-- The frozen partitions' balance is returned. -/
theorem State.Reportable.returnFrozen : s₀.Reportable n (s.returnFrozen n) :=
  List.foldlRecOn (motive := s₀.Reportable n) _ _ h fun _ hu _ _ => .ite (hu.setStation.setBucket hn) hu

theorem State.Reportable.applySplit : s₀.Reportable n (s.applySplit n) := by
  unfold State.applySplit
  have hset : s₀.Reportable n (s.setStation n { s.station n with split := s.on F.CRDSn_CFG_SPLIT n }) := h.setStation
  exact .ite h (.ite ((hset.setBucket hn).setBucket hn) ((hset.setBucket hn).setBucket hn))

theorem State.Reportable.returnExcess {p : Nat} : s₀.Reportable n (s.returnExcess n p) := by
  unfold State.returnExcess
  exact .ite (h.setStation.setBucket hn) h

theorem State.Reportable.applyPendingRole : s₀.Reportable n (s.applyPendingRole n) := by
  unfold State.applyPendingRole
  have hset : s₀.Reportable n (s.setStation n { s.station n with roleChanged := false }) := h.setStation
  exact .ite ((hset.setStation.setPending hn).changeRole hn) hset

end

end

/-! ### The boundary -/

/-- The returns of an awake station's boundary, its SPLIT and its role (R75, R99, R104). -/
def State.boundaryApplied (s : State) (n : Nat) : State :=
  ((((((s.serve 1 n).returnFrozen n).applySplit n).returnExcess n 0).returnExcess n 1).returnFrozen n).applyPendingRole n

/-- The words of a station's report (R76). -/
def State.reportWords (u : State) (n : Nat) : Word64 × Word64 :=
  let x := u.station n
  (reportA (u.bucket n 0) (u.bucket n 1) x.stalled (u.roleEpoch n) (u.epoch % 64) x.split x.stale,
    reportB (min x.toReturn 65535) (min x.spent 65535) x.job (min x.stretches 255) x.shortfall)

/-- The station starts the epoch, its report on the way (R75, R76). -/
def State.reportSent (u : State) (n : Nat) : State :=
  let x := u.station n
  (u.setStation n { x with spent := 0, stalled := 0, headStalled := false, shortfall := 0, stretches := 0,
                           toReturn := x.toReturn - min x.toReturn 65535, stale := false,
                           reported := x.reported || u.f F.PWRd_STATUS_STEP n == 0,
                           reportFz := u.frozenBits n, report := some (u.reportWords n) }).latchJob n

theorem State.boundaryApplied_reportable (hn : n < Config.coreCount) : s.Reportable n (s.boundaryApplied n) := by
  have hself : s.Reportable n s := ⟨rfl, rfl, rfl, rfl, rfl⟩
  exact (((((hself.serve.returnFrozen hn).applySplit hn).returnExcess hn).returnExcess hn).returnFrozen hn).applyPendingRole hn

theorem State.station_latchJob (u : State) (n : Nat) :
    (u.latchJob n).station n = { u.station n with job := u.f F.CRDSn_ROLE_JOB n } := State.station_setStation_same ..

/-- An awake station's boundary: the report is sent, and at the traced core recorded. -/
theorem execEpochBoundaryReport_awake (hup : s.coreUp n = true) (hdue : s.due 1 n 1000 0 = true) :
    ∃ t, execEpochBoundaryReport n s = .next t ∧ ((s.boundaryApplied n).reportSent n).Traced t := by
  have hn := State.lt_coreCount_of_coreUp hup
  have hdie : s.dieUp = true := by
    unfold State.coreUp at hup
    simp only [Bool.and_eq_true] at hup
    exact hup.1.1.2
  have hup' : (s.serve 1 n).coreUp n = true := hup
  have hgo : (decide (n < Config.coreCount) && s.dieUp && s.due 1 n 1000 0) = true := by simp [hn, hdie, hdue]
  refine ⟨_, (congrArg Host.Outcome.next (if_pos hgo)).trans (congrArg Host.Outcome.next
    (if_neg (by rw [hup']; exact Bool.false_ne_true))), ?_⟩
  exact .ite State.Traced.refl.trace .refl

/-- A station whose clock stands still: SPLIT, role and JOB alone. -/
theorem execEpochBoundaryReport_still (hn : n < Config.coreCount) (hdie : s.dieUp = true) (hup : s.coreUp n = false)
    (hdue : s.due 1 n 1000 0 = true) :
    execEpochBoundaryReport n s = .next ((((s.serve 1 n).applySplit n).applyPendingRole n).latchJob n) := by
  have hup' : (s.serve 1 n).coreUp n = false := hup
  have hgo : (decide (n < Config.coreCount) && s.dieUp && s.due 1 n 1000 0) = true := by simp [hn, hdie, hdue]
  exact (congrArg Host.Outcome.next (if_pos hgo)).trans (congrArg Host.Outcome.next (if_pos (by rw [hup']; rfl)))

/-- An awake station's boundary, in the terms of the state before it. -/
theorem epochBoundaryReport_awake (hup : s.coreUp n = true) (hstep : s.f F.PWRd_STATUS_STEP n = 0)
    (hdue : s.due 1 n 1000 0 = true) : Completes (.epochBoundaryReport n) s fun t =>
      (t.station n).report.map Prod.fst = some (reportA (t.bucket n 0) (t.bucket n 1) (s.station n).stalled (t.roleEpoch n)
        (s.epoch % 64) (t.station n).split (s.station n).stale) ∧
      (∃ ret, ret ≤ 65535 ∧ (t.station n).report.map Prod.snd = some (reportB ret (min (s.station n).spent 65535) (s.station n).job
        (min (s.station n).stretches 255) (s.station n).shortfall)) ∧
      (t.station n).spent = 0 ∧ (t.station n).stalled = 0 ∧ (t.station n).shortfall = 0 ∧ (t.station n).reported = true ∧
      (t.station n).job = s.f F.CRDSn_ROLE_JOB n := by
  have hn := State.lt_coreCount_of_coreUp hup
  obtain ⟨t, ht, htr⟩ := execEpochBoundaryReport_awake hup hdue
  have hkept : s.Reportable n (s.boundaryApplied n) := State.boundaryApplied_reportable hn
  refine .of_next ht rfl ?_
  generalize s.boundaryApplied n = u at *
  have hst : t.station n = (u.reportSent n).station n := htr.station n
  unfold State.reportSent at hst
  rw [State.station_latchJob, State.station_setStation_same] at hst
  have hbk (p : Nat) : t.bucket n p = u.bucket n p :=
    State.bucket_of_rd ((htr.rd (Reg.at_core_lt hn)).trans (State.rd_setStation ..)) p
  have hrole : t.roleEpoch n = u.roleEpoch n := htr.f (Reg.at_core_lt hn)
  have hstalled : (u.station n).stalled = (s.station n).stalled := (congrArg StationSt.stalled hkept.station :)
  have hstale : (u.station n).stale = (s.station n).stale := (congrArg StationSt.stale hkept.station :)
  have hspent : (u.station n).spent = (s.station n).spent := (congrArg StationSt.spent hkept.station :)
  have hjob : (u.station n).job = (s.station n).job := (congrArg StationSt.job hkept.station :)
  have hstretch : (u.station n).stretches = (s.station n).stretches := (congrArg StationSt.stretches hkept.station :)
  have hshort : (u.station n).shortfall = (s.station n).shortfall := (congrArg StationSt.shortfall hkept.station :)
  rw [hst, hbk, hbk, hrole, ← hstalled, ← hstale, ← hspent, ← hjob, ← hstretch, ← hshort, ← hkept.epoch, ← hkept.job]
  refine ⟨rfl, ⟨_, Nat.min_le_right _ _, rfl⟩, rfl, rfl, rfl, ?_, rfl⟩
  change ((u.station n).reported || u.f F.PWRd_STATUS_STEP n == 0) = true
  rw [hkept.step, hstep]
  exact Bool.or_true _

theorem State.applySplit_split (s : State) (n : Nat) : ((s.applySplit n).station n).split = s.on F.CRDSn_CFG_SPLIT n := by
  unfold State.applySplit
  by_cases h : s.on F.CRDSn_CFG_SPLIT n = (s.station n).split
  · rw [if_pos h, h]
  · rw [if_neg h]
    split
    all_goals
      rw [State.station_setBucket, State.station_setBucket, State.station_setStation_same]

/-- A change of the role: what the station and its ROLE register read after it. -/
theorem State.changeRole_fields (s : State) (n role : Nat) :
    (s.changeRole n role).station n = { s.station n with roleChanged := true } ∧
    (s.changeRole n role).f F.CRDSn_ROLE_ACTIVE_ROLE n = role % 4 ∧
    (s.changeRole n role).roleEpoch n = (s.roleEpoch n + 1) % 256 ∧
    (s.changeRole n role).f F.CRDSn_ROLE_JOB n = s.f F.CRDSn_ROLE_JOB n ∧
    (s.changeRole n role).on F.CRDSn_ROLE_PENDING n = s.on F.CRDSn_ROLE_PENDING n := by
  unfold State.changeRole State.roleEpoch State.incf
  simp only [State.f_hang, State.on_hang, State.station_hang, State.f_setStation, State.on_setStation]
  refine ⟨?_, ?_, ?_, ?_, ?_⟩
  · rw [State.station_setStation_same]
  · rw [State.f_setf_beside, State.f_setf_same _ _ _ _ (by decide)]
    rfl
  · rw [State.f_setf_same _ _ _ _ (by decide), State.f_setf_beside]
    rfl
  · rw [State.f_setf_beside, State.f_setf_beside]
  · rw [State.on_setf_beside, State.on_setf_beside]

/-- A pending role write takes effect at the boundary, and none is left. -/
theorem State.applyPendingRole_fields (s : State) (n : Nat) :
    ((s.applyPendingRole n).station n).split = (s.station n).split ∧
    (s.applyPendingRole n).on F.CRDSn_ROLE_PENDING n = false := by
  unfold State.applyPendingRole
  extract_lets x u1 y u2
  have hu1 : (u1.station n).split = (s.station n).split :=
    (congrArg StationSt.split (s.station_setStation_same n _) :)
  have hu2 : (u2.station n).split = (u1.station n).split :=
    (congrArg StationSt.split ((State.station_setf ..).trans (u1.station_setStation_same n _)) :)
  have hpend : u2.on F.CRDSn_ROLE_PENDING n = false := State.on_setf_same _ _ _ _ (by decide)
  clear_value u2 u1
  split
  · obtain ⟨hst, -, -, -, hon⟩ := u2.changeRole_fields n y.pendRole
    rw [hst, hon]
    exact ⟨hu2.trans hu1, hpend⟩
  · next h => exact ⟨hu1, Bool.eq_false_of_not_eq_true h⟩

/-- The boundary of a station whose clock stands still. -/
theorem epochBoundaryReport_still (hn : n < Config.coreCount) (hdie : s.dieUp = true) (hup : s.coreUp n = false)
    (hdue : s.due 1 n 1000 0 = true) : Completes (.epochBoundaryReport n) s fun t =>
      (t.station n).report = (s.station n).report ∧ (t.station n).job = s.f F.CRDSn_ROLE_JOB n ∧
      (t.station n).split = s.on F.CRDSn_CFG_SPLIT n ∧ t.on F.CRDSn_ROLE_PENDING n = false := by
  have hself : s.Reportable n s := ⟨rfl, rfl, rfl, rfl, rfl⟩
  have hkept := (hself.serve (k := 1) (i := n)).applySplit hn |>.applyPendingRole hn
  refine .of_next (execEpochBoundaryReport_still hn hdie hup hdue) rfl ?_
  rw [State.station_latchJob]
  refine ⟨(congrArg StationSt.report hkept.station :), hkept.job, ?_, ?_⟩
  · exact (State.applyPendingRole_fields ..).1.trans (State.applySplit_split ..)
  · exact (State.on_setStation ..).trans (State.applyPendingRole_fields ..).2

/-! ### The reception (R80, R107) -/

/-- A charge to an enabled meter. -/
def State.meterCharged (s : State) (m v : Nat) : State :=
  (s.setPair R.JOBm_EC_LO R.JOBm_EC_HI m v).telem (0x1A008 + 16 * m) v

theorem State.meterCharged_crd (s : State) (m v : Nat) : (s.meterCharged m v).crd = s.crd := rfl

theorem State.meterCharged_pair (s : State) (m v : Nat) :
    (s.meterCharged m v).pair R.JOBm_EC_LO R.JOBm_EC_HI m = v % 2 ^ 64 := by
  unfold State.meterCharged
  rw [State.pair_of_rd (State.rd_telem ..) (State.rd_telem ..)]
  exact State.pair_setPair_same _ _ _ _ _ (Reg.at_ne_of_off (r := R.JOBm_EC_LO) (q := R.JOBm_EC_HI) rfl (by decide))

theorem State.meterCharged_rd (s : State) (m v : Nat) {q : Reg} {j : Nat} (h : q.at j < R.JOBm_EC_LO.off) :
    (s.meterCharged m v).rd q j = s.rd q j := by
  unfold State.meterCharged
  rw [State.rd_telem]
  exact State.rd_setPair_other (Reg.at_ne_of_lt h) (Reg.at_ne_of_lt (Nat.lt_trans h (by decide)))

/-- Without a pending clear the spend is charged to an enabled meter, or to CRD_UNMETERED. -/
theorem State.chargeJob_eq {m spent : Nat} (h : Tab.get 0 s.crd.jobClear m = 0) : s.chargeJob m spent =
    if s.on F.JOBm_CTRL_EN m then
      s.meterCharged m ((s.pair R.JOBm_EC_LO R.JOBm_EC_HI m + spent) % 2 ^ 64)
    else s.setPair R.CRD_UNMETERED_LO R.CRD_UNMETERED_HI 0 (s.pair R.CRD_UNMETERED_LO R.CRD_UNMETERED_HI + spent) := by
  have hclear : s.applyJobClear m = s := if_neg fun hc => hc.1 h
  unfold State.chargeJob
  rw [hclear]
  rfl

/-- A charge changes the pairs of the meters and of CRD_UNMETERED alone. -/
theorem State.chargeJob_fields {m spent : Nat} (h : Tab.get 0 s.crd.jobClear m = 0) :
    (s.chargeJob m spent).crd = s.crd ∧
    (∀ q j, R.CRD_UNMETERED_HI.off < q.at j → q.at j < R.JOBm_EC_LO.off → (s.chargeJob m spent).rd q j = s.rd q j) ∧
    (s.on F.JOBm_CTRL_EN m = true → (s.chargeJob m spent).pair R.JOBm_EC_LO R.JOBm_EC_HI m =
      (s.pair R.JOBm_EC_LO R.JOBm_EC_HI m + spent) % 2 ^ 64) ∧
    (s.on F.JOBm_CTRL_EN m = false → (s.chargeJob m spent).pair R.CRD_UNMETERED_LO R.CRD_UNMETERED_HI =
      (s.pair R.CRD_UNMETERED_LO R.CRD_UNMETERED_HI + spent) % 2 ^ 64) := by
  rw [State.chargeJob_eq h]
  by_cases he : s.on F.JOBm_CTRL_EN m = true
  · rw [if_pos he]
    refine ⟨State.meterCharged_crd .., fun q j _ hlt => State.meterCharged_rd _ _ _ hlt, fun _ => ?_, fun hf => ?_⟩
    · exact (State.meterCharged_pair ..).trans (Nat.mod_mod ..)
    · exact absurd he (Bool.not_eq_true _ ▸ hf)
  · rw [if_neg he]
    refine ⟨State.setPair_crd .., fun q j hlt _ => ?_, fun ht => absurd ht he, fun _ => ?_⟩
    · exact State.rd_setPair_other (Nat.ne_of_gt (Nat.lt_trans (by decide) hlt)) (Nat.ne_of_gt hlt)
    · exact State.pair_setPair_same _ _ _ _ _ (by decide)

/-- The report leaves the station for the Clicker, and its shortfall becomes debt. -/
def State.reportTaken (s : State) (n : Nat) (r : Word64 × Word64) : State :=
  ((s.setStation n { s.station n with report := none }).setClick n { s.click n with report := some r, fz := (s.station n).reportFz }).setf
    F.CRDSn_STATUS_DEBT n (min (s.f F.CRDSn_STATUS_DEBT n + repDebt r) 65535)

theorem execDemandReport_takes {r : Word64 × Word64} (hr : (s.station n).report = some r) (hn : n < Config.coreCount)
    (hdie : s.dieUp = true) (hseam : s.seamFree 2 1 n = true) :
    execDemandReport n s = .next ((s.reportTaken n r).chargeJob (repJob r) (repSpent r)) := by
  unfold execDemandReport
  dsimp only
  rw [hr]
  exact congrArg Host.Outcome.next (if_pos (by simp [hn, hdie, hseam]))

theorem demandReport_takes {r : Word64 × Word64} (hr : (s.station n).report = some r) (hn : n < Config.coreCount)
    (hdie : s.dieUp = true) (hseam : s.seamFree 2 1 n = true) (hclear : Tab.get 0 s.crd.jobClear (repJob r) = 0) :
    Completes (.demandReport n) s fun t => (t.station n).report = none ∧ (t.click n).report = some r ∧
      t.f F.CRDSn_STATUS_DEBT n = min (s.f F.CRDSn_STATUS_DEBT n + repDebt r) 65535 ∧
      (s.on F.JOBm_CTRL_EN (repJob r) = true → t.pair R.JOBm_EC_LO R.JOBm_EC_HI (repJob r) =
        (s.pair R.JOBm_EC_LO R.JOBm_EC_HI (repJob r) + repSpent r) % 2 ^ 64) ∧
      (s.on F.JOBm_CTRL_EN (repJob r) = false → t.pair R.CRD_UNMETERED_LO R.CRD_UNMETERED_HI =
        (s.pair R.CRD_UNMETERED_LO R.CRD_UNMETERED_HI + repSpent r) % 2 ^ 64) := by
  have hjob : (s.reportTaken n r).crd.jobClear = s.crd.jobClear := rfl
  obtain ⟨hcrd, hrd, hmeter, hun⟩ := (s.reportTaken n r).chargeJob_fields (spent := repSpent r) (hjob ▸ hclear)
  have hlt : R.CRDSn_STATUS.at n < R.JOBm_TAG.off := Reg.at_lt_of_le (Nat.le_of_lt hn) (by decide)
  have hother {q : Reg} {j : Nat} (hq : q.at j ≠ R.CRDSn_STATUS.at n) : (s.reportTaken n r).rd q j = s.rd q j :=
    (State.rd_setf_other (x := F.CRDSn_STATUS_DEBT) _ _ _ hq).trans ((State.rd_setClick ..).trans (State.rd_setStation ..))
  have hen : (s.reportTaken n r).on F.JOBm_CTRL_EN (repJob r) = s.on F.JOBm_CTRL_EN (repJob r) :=
    congrArg (fun w : Word => getBits w F.JOBm_CTRL_EN.lo F.JOBm_CTRL_EN.len == 1)
      (hother (q := R.JOBm_CTRL) (Reg.at_ne_of_lt (Nat.lt_trans hlt (by decide))).symm)
  refine .of_next (execDemandReport_takes hr hn hdie hseam) rfl ⟨?_, ?_, ?_, fun he => ?_, fun he => ?_⟩
  · rw [State.station_of_crd (congrArg CrdSt.stations hcrd)]
    unfold State.reportTaken
    rw [State.station_setf, State.station_setClick, State.station_setStation_same]
  · rw [State.click_of_crd (congrArg CrdSt.clicks hcrd)]
    unfold State.reportTaken
    rw [State.click_setf, State.click_setClick_same]
  · have hdebt : ((s.reportTaken n r).chargeJob (repJob r) (repSpent r)).f F.CRDSn_STATUS_DEBT n =
        (s.reportTaken n r).f F.CRDSn_STATUS_DEBT n :=
      congrArg (fun w : Word => getBits w F.CRDSn_STATUS_DEBT.lo F.CRDSn_STATUS_DEBT.len)
        (hrd R.CRDSn_STATUS n (Nat.lt_of_lt_of_le (by decide) (Reg.off_le_at _ _)) (Nat.lt_trans hlt (by decide)))
    refine hdebt.trans ((State.f_setf_same _ F.CRDSn_STATUS_DEBT _ _ (by decide)).trans (Nat.mod_eq_of_lt ?_))
    exact Nat.lt_succ_of_le (Nat.min_le_right ..)
  · rw [hmeter (hen.trans he), State.pair_of_rd (s := s)]
    · exact hother (q := R.JOBm_EC_LO) (Reg.at_ne_of_lt (Nat.lt_trans hlt (by decide))).symm
    · exact hother (q := R.JOBm_EC_HI) (Reg.at_ne_of_lt (Nat.lt_trans hlt (by decide))).symm
  · rw [hun (hen.trans he), State.pair_of_rd (s := s)]
    · exact hother (Reg.at_ne_of_lt (by decide))
    · exact hother (Reg.at_ne_of_lt (by decide))

/-- Settles O14: the boundary keeps what the epoch's report tells until it is sent; the reception charges it. -/
theorem demandReports : Obligations.DemandReports :=
  ⟨fun _ _ hup hstep hdue => epochBoundaryReport_awake hup hstep hdue,
    fun _ _ hn hdie hup hdue => epochBoundaryReport_still hn hdie hup hdue,
    fun _ _ _ hr hn hdie hseam hclear => demandReport_takes hr hn hdie hseam hclear⟩

end Sys2Proof.Machine
end

section
/-! SUPPORT. The refill takes the pending clears of the meters, and a bucket without a station is read from a meter's register
(R80, R108). -/
namespace Sys2Proof.Machine
open Sys2Proof

set_option Elab.async false

variable {s : State}

/-- A field is read from its register. -/
theorem State.f_of_rd {s t : State} {x : Fld} {i : Nat} (h : t.rd x.reg i = s.rd x.reg i) : t.f x i = s.f x i := by
  unfold State.f
  rw [h]

theorem State.on_of_rd {s t : State} {x : Fld} {i : Nat} (h : t.rd x.reg i = s.rd x.reg i) : t.on x i = s.on x i := by
  unfold State.on
  rw [State.f_of_rd h]

/-- The register of bucket 1152, of no station, is that of meter 0 (R568). -/
theorem State.rd_bucket_beyond (s : State) : s.rd R.CRDSn_BUCKET 1152 = s.rd R.JOBm_EC_LO 0 := rfl

/-- A clear of meter 0 is due, and EN is 0. -/
structure State.ClearDue (s : State) : Prop where
  pending : Tab.get 0 s.crd.jobClear 0 ≠ 0
  due : Tab.get 0 s.crd.jobClear 0 < s.epoch + 1
  en : s.on F.CRD_CTRL_EN = false

/-- Meter 0 is cleared, and EN is 0. -/
structure State.MeterEmpty (s : State) : Prop where
  empty : s.rd R.JOBm_EC_LO 0 = 0
  en : s.on F.CRD_CTRL_EN = false

/-! ### Before the clears -/

theorem State.ClearDue.of_parts {t : State} (h : s.ClearDue) (hcrd : t.crd = s.crd) (htime : t.time = s.time)
    (hregs : t.regs = s.regs) : t.ClearDue where
  pending := hcrd ▸ h.pending
  due := by
    rw [hcrd, State.epoch_of_rd htime (State.rd_of_regs hregs _ _)]
    exact h.due
  en := (State.on_of_regs hregs _ _).trans h.en

theorem State.ClearDue.post (h : s.ClearDue) {sel : Nat} {v : Int} : (s.post sel v).ClearDue := h.of_parts rfl rfl rfl

theorem State.ClearDue.noteStalled (h : s.ClearDue) : s.noteStalled.ClearDue := by
  unfold State.noteStalled
  extract_lets v
  exact h.of_parts rfl rfl rfl

theorem State.ClearDue.setf (h : s.ClearDue) {x : Fld} {i v : Nat} (ht : R.TIME_STATUS.at 0 ≠ x.reg.at i)
    (hc : R.CRD_CTRL.at 0 ≠ x.reg.at i) : (s.setf x i v).ClearDue where
  pending := h.pending
  due := by
    have hepoch : (s.setf x i v).epoch = s.epoch := State.epoch_of_rd rfl (State.rd_setf_other s i v ht)
    exact hepoch ▸ h.due
  en := (State.on_of_rd (State.rd_setf_other s i v hc)).trans h.en

theorem State.ClearDue.refReserve (h : s.ClearDue) : s.refReserve.ClearDue := h.setf (by decide) (by decide)

theorem State.ClearDue.postSpent (h : s.ClearDue) {l : Nat} : (s.postSpent l).ClearDue := by
  unfold State.postSpent
  dsimp only
  split
  · split
    · exact h
    · exact h.post
  · exact h

/-! ### The clears -/

/-- What a clear writes: the meter's count and its state. -/
theorem State.applyJobClear_of_due {m : Nat} (h₀ : Tab.get 0 s.crd.jobClear m ≠ 0) (h₁ : Tab.get 0 s.crd.jobClear m < s.epoch + 1) :
    (s.applyJobClear m).regs =
      ((s.setPair R.JOBm_EC_LO R.JOBm_EC_HI m 0).setf F.JOBm_CTRL_STATUS m 2).regs := by
  unfold State.applyJobClear
  dsimp only
  rw [if_pos ⟨h₀, h₁⟩]
  rfl

theorem State.applyJobClear_of_not_due {m : Nat}
    (h : ¬ (Tab.get 0 s.crd.jobClear m ≠ 0 ∧ Tab.get 0 s.crd.jobClear m < s.epoch + 1)) : s.applyJobClear m = s := if_neg h

theorem State.on_en_cleared (s : State) (m : Nat) :
    ((s.setPair R.JOBm_EC_LO R.JOBm_EC_HI m 0).setf F.JOBm_CTRL_STATUS m 2).on F.CRD_CTRL_EN = s.on F.CRD_CTRL_EN := by
  have hpair : (s.setPair R.JOBm_EC_LO R.JOBm_EC_HI m 0).rd R.CRD_CTRL = s.rd R.CRD_CTRL :=
    State.rd_setPair_other (Reg.at_ne_of_lt (by decide)) (Reg.at_ne_of_lt (by decide))
  have hstatus : R.CRD_CTRL.at 0 ≠ R.JOBm_CTRL.at m := Reg.at_ne_of_lt (by decide)
  exact State.on_of_rd ((State.rd_setf_other (x := F.JOBm_CTRL_STATUS) _ _ _ hstatus).trans hpair)

/-- After a clear of meter `m`, meter 0 reads 0 where it is this one, or read 0 before. -/
theorem State.rd_meter_cleared {m : Nat} (h : m = 0 ∨ s.rd R.JOBm_EC_LO 0 = 0) :
    ((s.setPair R.JOBm_EC_LO R.JOBm_EC_HI m 0).setf F.JOBm_CTRL_STATUS m 2).rd R.JOBm_EC_LO 0 = 0 := by
  have hstatus : R.JOBm_EC_LO.at 0 ≠ R.JOBm_CTRL.at m := by
    change 0x1A008 + 0x10 * 0 ≠ 0x1A004 + 0x10 * m
    omega
  have hhigh : R.JOBm_EC_LO.at 0 ≠ R.JOBm_EC_HI.at m := Reg.at_ne_of_lt (by decide)
  rw [State.rd_setf_other _ _ _ hstatus]
  unfold State.setPair
  rw [State.rd_wr_other _ _ hhigh]
  by_cases hm : m = 0
  · subst hm
    exact State.rd_wr_same ..
  · refine (State.rd_wr_other _ _ ?_).trans (h.resolve_left hm)
    change 0x1A008 + 0x10 * 0 ≠ 0x1A008 + 0x10 * m
    omega

theorem State.ClearDue.applyJobClear (h : s.ClearDue) : (s.applyJobClear 0).MeterEmpty where
  empty := (State.rd_of_regs (State.applyJobClear_of_due h.pending h.due) _ _).trans (State.rd_meter_cleared (.inl rfl))
  en := (State.on_of_regs (State.applyJobClear_of_due h.pending h.due) _ _).trans ((State.on_en_cleared ..).trans h.en)

theorem State.MeterEmpty.applyJobClear (h : s.MeterEmpty) {m : Nat} : (s.applyJobClear m).MeterEmpty := by
  by_cases hd : Tab.get 0 s.crd.jobClear m ≠ 0 ∧ Tab.get 0 s.crd.jobClear m < s.epoch + 1
  · obtain ⟨h₀, h₁⟩ := hd
    exact ⟨(State.rd_of_regs (State.applyJobClear_of_due h₀ h₁) _ _).trans (State.rd_meter_cleared (.inr h.empty)),
      (State.on_of_regs (State.applyJobClear_of_due h₀ h₁) _ _).trans ((State.on_en_cleared ..).trans h.en)⟩
  · rw [State.applyJobClear_of_not_due hd]
    exact h

theorem State.ClearDue.clearAll (h : s.ClearDue) : ((List.range 64).foldl State.applyJobClear s).MeterEmpty := by
  have hrange : List.range 64 = 0 :: List.range' 1 63 := by decide
  rw [hrange, List.foldl_cons]
  exact List.foldlRecOn (motive := State.MeterEmpty) _ _ h.applyJobClear fun _ hu _ _ => hu.applyJobClear

/-! ### The refill -/

/-- A refill with EN at 0 takes a clear that is due: meter 0 is empty after it. -/
theorem clickerRefill_empties_meter (h : s.ClearDue) (hdie : s.dieUp = true) (hstart : s.started = true)
    (hlate : s.crd.refilled < s.epoch + 1) : Completes .clickerRefill s fun t => t.rd R.JOBm_EC_LO 0 = 0 := by
  refine ⟨_, congrArg Host.Outcome.next (if_pos (by simp [hstart, hlate])), ?_⟩
  extract_lets c1 u1 u2 u3 u4
  have hdie1 : u1.dieUp = true := hdie
  have hu1 : u1.ClearDue := ⟨h.pending, h.due, h.en⟩
  have hu3 : u3.ClearDue :=
    List.foldlRecOn (motive := State.ClearDue) _ _ hu1.noteStalled.refReserve.post fun _ hu _ _ => hu.postSpent
  have hu4 : u4.MeterEmpty := hu3.clearAll
  clear_value u4 u3 u2 u1 c1
  have hset (v : Nat) : (u4.clearReports.setf F.CRD_CTRL_FROZEN 0 v).rd R.JOBm_EC_LO 0 = 0 :=
    (State.rd_setf_other (x := F.CRD_CTRL_FROZEN) _ _ _ (by decide)).trans hu4.empty
  rw [hdie1, hu4.en]
  change State.rd (if u4.safe = true then _ else _) _ _ = _
  split
  · exact hset 1
  · exact hset 0

/-- At epoch 1 a clear of meter 0 is due, and the meter holds 5. -/
def State.meterToClear : State :=
  let s := { State.reset with rst := { State.reset.rst with cold := false, die := false } }
  let s := (s.setf F.TIME_STATUS_STARTED 0 1).wr R.JOBm_EC_LO 0 5
  { s with time := { s.time with count := 1000 }, crd := { s.crd with jobClear := [(0, 1)] } }

theorem State.meterToClear_due : State.meterToClear.ClearDue := ⟨by decide, by decide, by decide⟩

/-- Refutes O16: "no bucket changes" speaks of every number, and the register of bucket 1152, of no station, is that of meter 0,
which the refill clears. -/
theorem not_clickerRefill : ¬ Obligations.ClickerRefill := by
  rintro ⟨-, -, hoff, -⟩
  have hlate : State.meterToClear.crd.refilled < State.meterToClear.epoch + 1 := by decide
  obtain ⟨t, ht, -, -, -, -, hbucket⟩ := hoff State.meterToClear (by decide) (by decide) hlate (by decide)
  obtain ⟨u, hu, hempty⟩ := clickerRefill_empties_meter State.meterToClear_due (by decide) (by decide) hlate
  obtain rfl : t = u := Host.Outcome.next.inj (ht.symm.trans hu)
  have hzero : t.bucket 1152 0 = 0 :=
    congrArg (fun w : Word => getBits w F.CRDSn_BUCKET_BUCKET0.lo F.CRDSn_BUCKET_BUCKET0.len) (t.rd_bucket_beyond.trans hempty)
  have hfive : State.meterToClear.bucket 1152 0 = 5 := by decide
  exact absurd (hzero.symm.trans ((hbucket 1152 0).trans hfive)) (by decide)

end Sys2Proof.Machine
end

section
/-! SUPPORT. What a register write makes of a whole field (R13, R16, R17). -/
namespace Sys2Proof.Machine
open Sys2Proof

set_option Elab.async false

variable {s : State} {b : Writer} {r : Reg} {i : Nat} {fs : List WField} {w : Word}

/-- A RW field takes the written value. -/
theorem writeFields_f_written {x : Fld} (hfs : fieldsOk fs) (hx : ⟨x.lo + x.len - 1, x.lo, .rw⟩ ∈ fs) (hlen : 0 < x.len) :
    (writeFields s b x.reg i fs w).1.f x i = getBits w x.lo x.len := by
  obtain ⟨hin, -, -⟩ := merge_spec (s := s) (b := b) (new := w) fs hfs (s.rd x.reg i) false
  unfold writeFields State.f
  rw [State.rd_wr_same, getBits_eq_iff]
  exact fun k h1 h2 => hin _ hx k h1 (by change k ≤ x.lo + x.len - 1; omega)

/-- A field that shares no bit with a written one keeps its value. -/
theorem writeFields_f_kept {x : Fld} (hfs : fieldsOk fs) (hx : ∀ y ∈ fs, x.lo + x.len ≤ y.lo ∨ y.hi < x.lo) :
    (writeFields s b x.reg i fs w).1.f x i = s.f x i := by
  obtain ⟨-, hout, -⟩ := merge_spec (s := s) (b := b) (new := w) fs hfs (s.rd x.reg i) false
  unfold writeFields State.f
  rw [State.rd_wr_same, getBits_eq_iff]
  refine fun k h1 h2 => hout k fun y hy => ?_
  have := hx y hy
  omega

/-- Without a locked field a write draws no error. -/
theorem writeFields_err (hfs : fieldsOk fs) (h : fs.all (fun x => decide (x.acc = .rw)) = true) :
    (writeFields s b r i fs w).2 = false := by
  obtain ⟨-, -, herr⟩ := merge_spec (s := s) (b := b) (new := w) fs hfs (s.rd r i) false
  refine herr.trans ((Bool.false_or _).trans (List.any_eq_false.2 fun x hx => ?_))
  have hrw : x.acc = .rw := of_decide_eq_true (List.all_eq_true.1 h x hx)
  unfold refusedField
  rw [hrw]
  exact Bool.false_ne_true

/-- A write of one register leaves the others. -/
theorem writeFields_rd_other {q : Reg} {j : Nat} (h : q.at j ≠ r.at i) : (writeFields s b r i fs w).1.rd q j = s.rd q j :=
  State.rd_wr_other _ _ h

/-- A one-bit field of a word. -/
theorem getBits_one (w : Word) (k : Nat) : (getBits w k 1 == 1) = w.getLsbD k := by
  unfold getBits
  have h : (w.extractLsb' k 1).toNat = (w.getLsbD k).toNat := by
    rw [← BitVec.toNat_ofBool]
    refine congrArg BitVec.toNat (BitVec.eq_of_getLsbD_eq fun j hj => ?_)
    obtain rfl : j = 0 := by omega
    simp
  rw [h]
  cases w.getLsbD k <;> rfl

/-- A field that is the whole word. -/
theorem getBits_whole (w : Word) : getBits w 0 32 = w.toNat := by
  unfold getBits
  refine congrArg BitVec.toNat (BitVec.eq_of_getLsbD_eq fun k hk => ?_)
  simp [hk]

/-- Counting in a field that is the whole register. -/
theorem State.rd_incf_whole (s : State) {x : Fld} (i : Nat) (hlo : x.lo = 0) (hlen : x.len = 32) :
    (s.incf x i).rd x.reg i = s.rd x.reg i + 1 := by
  unfold State.incf State.setf State.f
  rw [State.rd_wr_same, hlo, hlen, getBits_whole]
  refine BitVec.eq_of_toNat_eq ?_
  rw [← getBits_whole, getBits_putBits_same _ _ _ _ (by decide) (by decide), BitVec.toNat_add]
  rfl

end Sys2Proof.Machine
end

section
/-! SUPPORT. The clamp line: a source asserts, and the line is released (R94, R96, R97). -/
namespace Sys2Proof.Machine
open Sys2Proof

variable {s : State} {bit unit : Nat}

/-- The sources' sticky bits. -/
def Fld.clampSticky : Fld := ⟨R.CRD_CLAMP_STATUS, 0, 6⟩

/-- A bit set in a bitmap field. -/
theorem State.bitf_setBitf_same (s : State) {x : Fld} {i k : Nat} (hx : x.ok) (hk : k < x.len) :
    (s.setBitf x i k true).bitf x i k = true := by
  unfold State.setBitf State.bitf setBit
  rw [State.f_setf_same _ _ _ _ hx, Nat.testBit_mod_two_pow, if_pos rfl, Nat.testBit_or, Nat.testBit_shiftLeft]
  simp [hk]

/-- The source is asserted and its sticky bit is set; the hold starts again. -/
def State.clampAsserted (s : State) (bit unit : Nat) : State :=
  let s := { s with crd := { s.crd with
    clampReq := Tab.set false s.crd.clampReq (4096 * bit + unit) true, clampOff := none } }
  s.setBitf Fld.clampSticky 0 bit true

/-- The line rises: it is counted. -/
def State.clampRaised (s : State) : State :=
  let s := (s.setf F.CRD_CLAMP_STATUS_ACTIVE 0 1).incf F.CRD_CLAMP_COUNT_COUNT 0
  { s with crd := { s.crd with gateGen := s.crd.gateGen + 1 } }

theorem State.clampOn_of_clamped (h : s.clamped = true) : s.clampOn bit unit = s.clampAsserted bit unit := by
  have hc : (s.clampAsserted bit unit).clamped = s.clamped := State.on_setf_beside ..
  exact if_pos (hc.trans h)

theorem State.clampOn_of_not_clamped (h : s.clamped = false) : (s.clampAsserted bit unit).clampRaised.Traced (s.clampOn bit unit) := by
  have hc : ¬ (s.clampAsserted bit unit).clamped = true := by
    rw [show (s.clampAsserted bit unit).clamped = s.clamped from State.on_setf_beside .., h]
    exact Bool.false_ne_true
  have heq : s.clampOn bit unit = (((s.clampAsserted bit unit).clampRaised.log 0x0101 0
    ((s.clampAsserted bit unit).clampRaised.f Fld.clampSticky)).hangStations 0x02).trigger 0x03 2 0 := if_neg hc
  rw [heq]
  exact State.Traced.refl.log.hangStations.trigger

theorem State.clampRaised_regs (s : State) :
    s.clampRaised.regs = ((s.setf F.CRD_CLAMP_STATUS_ACTIVE 0 1).incf F.CRD_CLAMP_COUNT_COUNT 0).regs := rfl

/-- The line is up, its rise is counted, and the sticky bits stay. -/
theorem State.clampRaised_fields (s : State) : s.clampRaised.on F.CRD_CLAMP_STATUS_ACTIVE = true ∧
    s.clampRaised.f Fld.clampSticky = s.f Fld.clampSticky ∧
    s.clampRaised.rd R.CRD_CLAMP_COUNT = s.rd R.CRD_CLAMP_COUNT + 1 ∧
    s.clampRaised.crd.clampReq = s.crd.clampReq ∧ s.clampRaised.crd.clampOff = s.crd.clampOff := by
  rw [State.on_of_regs s.clampRaised_regs, State.f_of_regs s.clampRaised_regs, State.rd_of_regs s.clampRaised_regs]
  refine ⟨?_, ?_, ?_, rfl, rfl⟩
  · unfold State.incf
    rw [State.on_setf_elsewhere]
    exact State.on_setf_same _ _ _ _ (by decide)
  · unfold State.incf
    rw [State.f_setf_elsewhere, State.f_setf_beside]
  · refine (State.rd_incf_whole (x := F.CRD_CLAMP_COUNT_COUNT) _ 0 rfl rfl).trans (congrArg (· + 1) ?_)
    exact State.rd_setf_other (x := F.CRD_CLAMP_STATUS_ACTIVE) _ _ _ (by decide)

/-- The source and its sticky bit stand, and the line is as before. -/
theorem State.clampAsserted_fields (s : State) {bit : Nat} (unit : Nat) (hbit : bit < 6) :
    (s.clampAsserted bit unit).clampSrc bit unit = true ∧ (s.clampAsserted bit unit).crd.clampOff = none ∧
    (s.clampAsserted bit unit).bitf Fld.clampSticky 0 bit = true ∧ (s.clampAsserted bit unit).clamped = s.clamped ∧
    (s.clampAsserted bit unit).rd R.CRD_CLAMP_COUNT = s.rd R.CRD_CLAMP_COUNT := by
  refine ⟨?_, rfl, State.bitf_setBitf_same _ (by decide) hbit, State.on_setf_beside .., ?_⟩
  · exact (Tab.get_set_same false s.crd.clampReq (4096 * bit + unit) true :)
  · exact State.rd_setf_other (x := Fld.clampSticky) _ _ _ (by decide)

/-- After a source asserts, the line is up, the source and its sticky bit stand, and a rise is counted. -/
theorem State.clampOn_fields (hbit : bit < 6) :
    (s.clampOn bit unit).clamped = true ∧ (s.clampOn bit unit).clampSrc bit unit = true ∧
    (s.clampOn bit unit).crd.clampOff = none ∧ (s.clampOn bit unit).bitf Fld.clampSticky 0 bit = true ∧
    (s.clamped = false → (s.clampOn bit unit).rd R.CRD_CLAMP_COUNT = s.rd R.CRD_CLAMP_COUNT + 1) := by
  obtain ⟨hsrc, hoff, hsticky, hline, hcount⟩ := s.clampAsserted_fields unit hbit
  by_cases hc : s.clamped = true
  · rw [State.clampOn_of_clamped hc]
    exact ⟨hline.trans hc, hsrc, hoff, hsticky, fun h => absurd hc (by rw [h]; exact Bool.false_ne_true)⟩
  · have htr := State.clampOn_of_not_clamped (bit := bit) (unit := unit) (Bool.eq_false_of_not_eq_true hc)
    obtain ⟨hup, hsame, hrise, hreq, hoff'⟩ := (s.clampAsserted bit unit).clampRaised_fields
    generalize s.clampAsserted bit unit = u at *
    refine ⟨(htr.on (by decide)).trans hup, ?_, ?_, ?_, fun _ => ?_⟩
    · unfold State.clampSrc at hsrc ⊢
      rw [htr.crd, hreq]
      exact hsrc
    · rw [htr.crd, hoff']
      exact hoff
    · unfold State.bitf at hsticky ⊢
      rw [htr.f (by decide), hsame]
      exact hsticky
    · rw [htr.rd (by decide), hrise, hcount]

theorem State.bit_lt_of_clampCause (h : s.clampCause bit unit = true) : bit < 6 := by
  by_contra hb
  obtain ⟨k, rfl⟩ : ∃ k, bit = k + 6 := ⟨bit - 6, by omega⟩
  have hnone : s.clampCause (k + 6) unit = false := rfl
  exact absurd h (by rw [hnone]; exact Bool.false_ne_true)

/-- The line falls. -/
def State.clampDropped (s : State) : State :=
  { s with crd := { s.crd with clampOff := none, gateGen := s.crd.gateGen + 1 } }.setf F.CRD_CLAMP_STATUS_ACTIVE 0 0

theorem execClampRelease_releases {u : Word64} (hu : s.crd.clampOff = some u) (hc : s.clamped = true) (hany : s.clampAny = false)
    (hp : s.passed u (s.f F.CRD_CLAMP_HOLD_US * 1000) = true) : ∃ v t : State, execClampRelease s = .next t ∧
      v.regs = s.clampDropped.regs ∧ v.crd = s.clampDropped.crd ∧ v.Traced t := by
  unfold execClampRelease
  rw [hu]
  refine ⟨_, _, congrArg _ (if_pos (by rw [hc, hany, hp]; rfl)), ?_, ?_, State.Traced.refl.log.hangStations⟩
  · rfl
  · rfl

theorem execClampRelease_waits (h : s.clampAny = true ∨ s.crd.clampOff = none ∨
    ∃ u, s.crd.clampOff = some u ∧ s.passed u (s.f F.CRD_CLAMP_HOLD_US * 1000) = false) : execClampRelease s = .next s := by
  unfold execClampRelease
  refine congrArg Host.Outcome.next ?_
  rcases h with hany | hoff | ⟨u, hu, hp⟩
  · split
    · exact if_neg (by simp [hany])
    · rfl
  · rw [hoff]
  · rw [hu]
    exact if_neg (by simp [hp])

/-! ### FORCE (R94) -/

theorem State.clampOffSrc_fields : (s.clampOffSrc bit unit).clampSrc bit unit = false ∧
    (s.clampOffSrc bit unit).regs = s.regs := by
  unfold State.clampOffSrc
  by_cases h : s.clampSrc bit unit = true
  · rw [if_pos h]
    dsimp only
    have hset : Tab.get false (Tab.set false s.crd.clampReq (4096 * bit + unit) false) (4096 * bit + unit) = false :=
      Tab.get_set_same _ _ _ _
    split
    · exact ⟨hset, rfl⟩
    · exact ⟨hset, rfl⟩
  · rw [if_neg h]
    exact ⟨Bool.eq_false_of_not_eq_true h, rfl⟩

theorem clampFieldsOk : fieldsOk R.CRD_CLAMP.wf := fieldsOk_of_findReg (off := 0x10020) rfl

/-- What a write of CRD_CLAMP makes of FORCE. -/
theorem writeReg_clampForce (s : State) (w : Word) :
    (writeReg s .cfg R.CRD_CLAMP 0 w).1.on F.CRD_CLAMP_FORCE = w.getLsbD 31 :=
  (congrArg (· == 1) (writeFields_f_written (x := F.CRD_CLAMP_FORCE) clampFieldsOk (by decide) (by decide))).trans
    (getBits_one w 31)

theorem clampForceWrite_on {w : Word} (hp : s.portTakes R.CRD_CLAMP 0 = true) (hw : w.getLsbD 31 = true) :
    Completes (.clampForceWrite true w) s fun t =>
      t.clampSrc 5 0 = true ∧ (s.clampSrc 5 0 = false → t.clamped = true) ∧ t.rsp.err = false := by
  refine .of_next (congrArg Host.Outcome.next (State.cfgWrite_takes _ hp)) rfl ?_
  have hon := (writeReg_clampForce s w).trans hw
  have hq : (writeCrdClamp .cfg w s).1 = (writeReg s .cfg R.CRD_CLAMP 0 w).1.clampSet 5 0 true :=
    congrArg (State.clampSet _ 5 0) hon
  have herr : (writeCrdClamp .cfg w s).2 = false := writeFields_err clampFieldsOk (by decide)
  have hcrd : (writeReg s .cfg R.CRD_CLAMP 0 w).1.crd = s.crd := rfl
  rw [herr, hq]
  generalize (writeReg s .cfg R.CRD_CLAMP 0 w).1 = u at *
  unfold State.clampSet
  rw [if_pos rfl]
  by_cases hs : u.clampSrc 5 0 = true
  · rw [if_pos hs]
    have hs' : s.clampSrc 5 0 = true := by
      unfold State.clampSrc at hs ⊢
      rwa [hcrd] at hs
    exact ⟨hs, fun h => absurd hs' (by rw [h]; exact Bool.false_ne_true), rfl⟩
  · rw [if_neg hs]
    obtain ⟨hc, hsrc, -⟩ := u.clampOn_fields (bit := 5) (unit := 0) (by decide)
    exact ⟨hsrc, fun _ => hc, rfl⟩

theorem clampForceWrite_off {w : Word} (hp : s.portTakes R.CRD_CLAMP 0 = true) (hw : w.getLsbD 31 = false) :
    Completes (.clampForceWrite true w) s fun t =>
      t.clampSrc 5 0 = false ∧ t.clamped = s.clamped ∧ t.rsp.err = false := by
  refine .of_next (congrArg Host.Outcome.next (State.cfgWrite_takes _ hp)) rfl ?_
  have hon := (writeReg_clampForce s w).trans hw
  have hq : (writeCrdClamp .cfg w s).1 = (writeReg s .cfg R.CRD_CLAMP 0 w).1.clampSet 5 0 false :=
    congrArg (State.clampSet _ 5 0) hon
  have herr : (writeCrdClamp .cfg w s).2 = false := writeFields_err clampFieldsOk (by decide)
  have hkept : (writeReg s .cfg R.CRD_CLAMP 0 w).1.clamped = s.clamped :=
    State.on_of_rd (writeFields_rd_other (q := R.CRD_CLAMP_STATUS) (by decide))
  rw [herr, hq, ← hkept]
  generalize (writeReg s .cfg R.CRD_CLAMP 0 w).1 = u at *
  obtain ⟨hsrc, hregs⟩ := u.clampOffSrc_fields (bit := 5) (unit := 0)
  exact ⟨hsrc, State.on_of_regs hregs _ _, rfl⟩

/-- Settles O19: a source raises the line through one update, and the release waits for the hold. -/
theorem toeCapClamp : Obligations.ToeCapClamp := by
  refine ⟨fun s bit unit h => ?_, fun s bit unit h => ?_, fun s u hu hc hany hp => ?_, fun s h => ?_, fun s w hp hw => ?_,
    fun s w hp hw => ?_⟩
  · exact .of_next (congrArg Host.Outcome.next (if_pos h)) rfl (State.clampOn_fields (State.bit_lt_of_clampCause h))
  · exact congrArg Host.Outcome.next (if_neg (by rw [h]; exact Bool.false_ne_true))
  · obtain ⟨v, t, ht, hregs, hcrd, htr⟩ := execClampRelease_releases hu hc hany hp
    refine .of_next ht rfl ⟨(htr.on (by decide)).trans ((State.on_of_regs hregs _ _).trans ?_), ?_⟩
    · exact State.on_setf_same _ _ _ _ (by decide)
    · rw [htr.crd, hcrd]
      rfl
  · exact execClampRelease_waits h
  · exact clampForceWrite_on hp hw
  · exact clampForceWrite_off hp hw

end Sys2Proof.Machine
end

section
/-! SUPPORT. Partitions freeze and are re-admitted; roles change (R100, R102 to R104). -/
namespace Sys2Proof.Machine
open Sys2Proof

set_option Elab.async false

variable {s : State} {n : Nat}

/-! ### Frozen bits -/

section
variable (s : State) (n : Nat) {p q : Nat}

theorem State.frozen_setFrozen_same (b : Bool) : (s.setFrozen n p b).frozen n p = b := by
  unfold State.setFrozen State.frozen
  split
  · exact State.on_setb_same _ _ _ _ (by decide)
  · exact State.on_setb_same _ _ _ _ (by decide)

theorem State.frozen_setFrozen_other (b : Bool) (h : (p = 0) ≠ (q = 0)) : (s.setFrozen n p b).frozen n q = s.frozen n q := by
  unfold State.setFrozen State.frozen State.setb
  by_cases hp : p = 0
  · have hq : q ≠ 0 := fun hq => h (by rw [hp, hq])
    rw [if_pos hp, if_neg hq, if_neg hq]
    exact State.on_setf_beside ..
  · have hq : q = 0 := by
      by_contra hq
      exact h (by simp [hp, hq])
    rw [if_neg hp, if_pos hq, if_pos hq]
    exact State.on_setf_beside ..

/-- The frozen bits stand in the status register. -/
theorem State.rd_setFrozen_other (b : Bool) {r : Reg} {j : Nat} (h : r.at j ≠ R.CRDSn_STATUS.at n) :
    (s.setFrozen n p b).rd r j = s.rd r j := by
  unfold State.setFrozen
  split
  · exact State.rd_setf_other _ _ _ h
  · exact State.rd_setf_other _ _ _ h

theorem State.setFrozen_crd (b : Bool) : (s.setFrozen n p b).crd = s.crd := by
  unfold State.setFrozen
  split
  · rfl
  · rfl

theorem State.rd_setBucket_other (v : Nat) {r : Reg} {j : Nat} (h : r.at j ≠ R.CRDSn_BUCKET.at n) :
    (s.setBucket n p v).rd r j = s.rd r j := by
  unfold State.setBucket
  split
  · exact State.rd_setf_other _ _ _ h
  · exact State.rd_setf_other _ _ _ h

end

theorem Reg.bucket_at_ne_status (n : Nat) : R.CRDSn_BUCKET.at n ≠ R.CRDSn_STATUS.at n :=
  Reg.at_ne_of_off (r := R.CRDSn_BUCKET) (q := R.CRDSn_STATUS) rfl (by decide)

/-! ### A fault freezes a partition (R100) -/

/-- The core signals the fault. -/
def State.faultSignalled (s : State) (n p : Nat) : State :=
  s.setStation n { s.station n with pfault := setBit (s.station n).pfault p true }

/-- A partition freezes; `split` says whether the Clicker holds the other's reclaim. -/
def State.freezePart (s : State) (n p : Nat) (split : Bool) : State :=
  let s := s.setFrozen n p true
  (s.setClick n { s.click n with heldFor := if split then some (p, s.epoch) else none }).hang n 0x07 p

/-- The partition is frozen, but for the report. -/
def State.partFrozen (s : State) (n p : Nat) : State :=
  if (s.faultSignalled n p).frozen n p then s.faultSignalled n p
  else (s.faultSignalled n p).freezePart n p (s.station n).split

theorem State.freezePart_regs (s : State) (n p : Nat) (split : Bool) :
    (s.freezePart n p split).regs = (s.setFrozen n p true).regs := rfl

theorem State.partFrozen_fields (s : State) (n : Nat) {p : Nat} : (s.partFrozen n p).frozen n p = true ∧
    (s.partFrozen n p).rd R.CRDSn_BUCKET n = s.rd R.CRDSn_BUCKET n ∧
    ∀ q, (p = 0) ≠ (q = 0) → (s.partFrozen n p).frozen n q = s.frozen n q := by
  have hrd : (s.faultSignalled n p).rd R.CRDSn_BUCKET n = s.rd R.CRDSn_BUCKET n := State.rd_setStation ..
  have hfz (q : Nat) : (s.faultSignalled n p).frozen n q = s.frozen n q := State.frozen_of_rd (State.rd_setStation ..) q
  unfold State.partFrozen
  generalize s.faultSignalled n p = u at *
  by_cases hf : u.frozen n p = true
  · rw [if_pos hf]
    exact ⟨hf, hrd, fun q _ => hfz q⟩
  · rw [if_neg hf]
    have hregs (q : Nat) : (u.freezePart n p (s.station n).split).frozen n q = (u.setFrozen n p true).frozen n q :=
      State.frozen_of_rd (State.rd_of_regs (u.freezePart_regs ..) _ _) q
    refine ⟨(hregs p).trans (State.frozen_setFrozen_same ..), ?_, fun q hq => ?_⟩
    · rw [State.rd_of_regs (u.freezePart_regs ..), State.rd_setFrozen_other _ _ _ (Reg.bucket_at_ne_status n), hrd]
    · exact (hregs q).trans ((State.frozen_setFrozen_other _ _ _ hq).trans (hfz q))

theorem execPartitionFault_eq {p : Nat} (hup : s.coreUp n = true) (hp : p < 2) :
    execPartitionFault n p s = .next ((s.partFrozen n p).fault 0x41 n) := by
  unfold State.partFrozen
  rw [apply_ite (fun u : State => u.fault 0x41 n)]
  exact congrArg Host.Outcome.next (if_pos (by simp [hup, hp]))

theorem partitionFault_fields {p : Nat} (hup : s.coreUp n = true) (hp : p < 2) : Completes (.partitionFault n p) s fun t =>
    t.frozen n p = true ∧ t.reported 0x41 n ∧ t.bucket n 0 = s.bucket n 0 ∧ t.bucket n 1 = s.bucket n 1 ∧
    t.frozen n (1 - p) = s.frozen n (1 - p) := by
  have hn := State.lt_coreCount_of_coreUp hup
  refine .of_next (execPartitionFault_eq hup hp) rfl ?_
  obtain ⟨hf, hb, hother⟩ := s.partFrozen_fields n (p := p)
  generalize s.partFrozen n p = u at *
  have htr : u.Traced (u.fault 0x41 n) := State.Traced.refl.fault
  have hbucket := State.bucket_of_rd ((htr.rd (Reg.at_core_lt hn)).trans hb)
  have hfrozen := State.frozen_of_rd (n := n) (htr.rd (Reg.at_core_lt hn))
  refine ⟨(hfrozen p).trans hf, State.reported_fault _ _ rfl, hbucket 0, hbucket 1, (hfrozen _).trans (hother _ ?_)⟩
  obtain rfl | rfl : p = 0 ∨ p = 1 := by omega
  · simp
  · simp

/-! ### Re-admission (R102) -/

theorem State.readmitPart_signalled {p : Nat} (h : (s.station n).pfault.testBit p = true) : s.readmitPart n p = s := if_pos h

/-- A frozen partition whose fault is over is re-admitted empty; its balance is to be returned. -/
theorem State.readmitPart_fields {p : Nat} (h : (s.station n).pfault.testBit p = false) (hf : s.frozen n p = true) :
    (s.readmitPart n p).frozen n p = false ∧ (s.readmitPart n p).bucket n p = 0 ∧
    (s.readmitPart n p).station n = { s.station n with toReturn := (s.station n).toReturn + s.bucket n p } ∧
    (∀ q, (p = 0) ≠ (q = 0) → (s.readmitPart n p).frozen n q = s.frozen n q ∧ (s.readmitPart n p).bucket n q = s.bucket n q) ∧
    ∀ r j, r.at j ≠ R.CRDSn_BUCKET.at n → r.at j ≠ R.CRDSn_STATUS.at n → (s.readmitPart n p).rd r j = s.rd r j := by
  unfold State.readmitPart
  rw [if_neg (by rw [h]; exact Bool.false_ne_true), if_pos hf]
  extract_lets k x u
  have hstatus := (Reg.bucket_at_ne_status n).symm
  refine ⟨?_, State.bucket_setBucket_same _ _ _ (by decide), ?_, fun q hq => ⟨?_, ?_⟩, fun r j hb hs => ?_⟩
  · rw [State.frozen_of_rd (State.rd_setBucket_other _ _ _ hstatus)]
    exact State.frozen_setFrozen_same ..
  · rw [State.station_setBucket, State.station_of_crd (congrArg CrdSt.stations (State.setFrozen_crd ..)), State.station_setClick]
    exact State.station_setStation_same ..
  · rw [State.frozen_of_rd (State.rd_setBucket_other _ _ _ hstatus), State.frozen_setFrozen_other _ _ _ hq]
    exact State.frozen_of_rd ((State.rd_setClick ..).trans (State.rd_setStation ..)) q
  · rw [State.bucket_setBucket_other _ _ _ hq, State.bucket_of_rd (State.rd_setFrozen_other _ _ _ hstatus.symm)]
    exact State.bucket_of_rd ((State.rd_setClick ..).trans (State.rd_setStation ..)) q
  · rw [State.rd_setBucket_other _ _ _ hb, State.rd_setFrozen_other _ _ _ hs]
    exact (State.rd_setClick ..).trans (State.rd_setStation ..)

/-- Two bits of a level. -/
theorem testBit_mod_four {pf p : Nat} (hp : p < 2) : (pf % 4).testBit p = pf.testBit p := by
  rw [show (4 : Nat) = 2 ^ 2 from rfl, Nat.testBit_mod_two_pow]
  simp [hp]

/-- The port takes no write of the registers of an absent core. -/
theorem State.lt_coreCount_of_portTakes {r : Reg} (h : s.portTakes r n = true) (hr : r.pres = .core) : n < Config.coreCount := by
  unfold State.portTakes at h
  rw [hr] at h
  simp only [Bool.and_eq_true] at h
  exact of_decide_eq_true h.1.1.1.1

/-- The level of PFAULT at a write of CRDSn_STATUS. -/
def State.pfaultSeen (s : State) (n pf : Nat) : State := s.setStation n { s.station n with pfault := pf % 4 }

/-- A write of CRDSn_STATUS with PART0_FROZEN alone. -/
theorem execPartitionReadmit_zero {pf : Nat} {w : Word} (hp : s.portTakes R.CRDSn_STATUS n = true) (h4 : w.getLsbD 4 = true)
    (h5 : w.getLsbD 5 = false) :
    execPartitionReadmit true n pf w s = .next (((s.pfaultSeen n pf).readmitPart n 0).respond false) := by
  have hn := State.lt_coreCount_of_portTakes hp rfl
  have hp' : (s.pfaultSeen n pf).portTakes R.CRDSn_STATUS n = true := hp
  unfold execPartitionReadmit
  dsimp only
  rw [if_pos hn]
  refine congrArg Host.Outcome.next ((State.cfgWrite_takes _ hp').trans ?_)
  unfold writeCrdsStatus
  rw [h4, h5]
  rfl

theorem partitionReadmit_frees {pf : Nat} {w : Word} (hp : s.portTakes R.CRDSn_STATUS n = true) (h4 : w.getLsbD 4 = true)
    (h5 : w.getLsbD 5 = false) (hpf : pf % 2 = 0) (hf : s.frozen n 0 = true) :
    Completes (.partitionReadmit true n pf w) s fun t => t.frozen n 0 = false ∧ t.bucket n 0 = 0 ∧
      (t.station n).toReturn = (s.station n).toReturn + s.bucket n 0 ∧ t.frozen n 1 = s.frozen n 1 ∧
      t.bucket n 1 = s.bucket n 1 ∧ t.rsp.err = false := by
  refine .of_next (execPartitionReadmit_zero hp h4 h5) rfl ?_
  have hstation : (s.pfaultSeen n pf).station n = { s.station n with pfault := pf % 4 } := State.station_setStation_same ..
  have hfrozen (p : Nat) : (s.pfaultSeen n pf).frozen n p = s.frozen n p := State.frozen_of_rd (State.rd_setStation ..) p
  have hbucket (p : Nat) : (s.pfaultSeen n pf).bucket n p = s.bucket n p := State.bucket_of_rd (State.rd_setStation ..) p
  have hclear : ((s.pfaultSeen n pf).station n).pfault.testBit 0 = false := by
    rw [hstation, testBit_mod_four (by decide), Nat.testBit_zero]
    simp [hpf]
  obtain ⟨hf0, hb0, hst, hother, -⟩ := State.readmitPart_fields hclear ((hfrozen 0).trans hf)
  obtain ⟨hf1, hb1⟩ := hother 1 (by simp)
  refine ⟨hf0, hb0, ?_, hf1.trans (hfrozen 1), hb1.trans (hbucket 1), rfl⟩
  change (((s.pfaultSeen n pf).readmitPart n 0).station n).toReturn = _
  rw [hst, hstation, hbucket]

theorem partitionReadmit_refused {pf : Nat} {w : Word} (hp : s.portTakes R.CRDSn_STATUS n = true) (h4 : w.getLsbD 4 = true)
    (h5 : w.getLsbD 5 = false) (hpf : pf % 2 = 1) : Completes (.partitionReadmit true n pf w) s fun t =>
      t.frozen n 0 = s.frozen n 0 ∧ t.bucket n 0 = s.bucket n 0 := by
  refine .of_next (execPartitionReadmit_zero hp h4 h5) rfl ?_
  have hset : ((s.pfaultSeen n pf).station n).pfault.testBit 0 = true := by
    rw [show (s.pfaultSeen n pf).station n = { s.station n with pfault := pf % 4 } from State.station_setStation_same ..,
      testBit_mod_four (by decide), Nat.testBit_zero]
    simp [hpf]
  rw [State.readmitPart_signalled hset]
  exact ⟨rfl, rfl⟩

/-! ### Roles (R103, R104) -/

/-- The role write before it takes effect: JOB and ROLE are written. -/
def State.roleWritten (s : State) (n : Nat) (w : Word) : State :=
  (writeFields s .cfg R.CRDSn_ROLE n [⟨21, 16, .rw⟩] w).1.setf F.CRDSn_ROLE_ROLE n (getBits w 8 2)

theorem jobFieldOk : fieldsOk [⟨21, 16, .rw⟩] := ⟨by decide, by decide⟩

/-- JOB takes the written value; what shows the active role stays. -/
theorem State.roleWritten_fields (s : State) (n : Nat) (w : Word) :
    (s.roleWritten n w).f F.CRDSn_ROLE_JOB n = getBits w 16 6 ∧ (s.roleWritten n w).roleEpoch n = s.roleEpoch n ∧
    (s.roleWritten n w).f F.CRDSn_ROLE_ACTIVE_ROLE n = s.f F.CRDSn_ROLE_ACTIVE_ROLE n ∧
    (s.roleWritten n w).station n = s.station n := by
  unfold State.roleWritten State.roleEpoch
  rw [State.f_setf_beside, State.f_setf_beside, State.f_setf_beside]
  refine ⟨?_, ?_, ?_, rfl⟩
  · exact writeFields_f_written (x := F.CRDSn_ROLE_JOB) jobFieldOk (by decide) (by decide)
  · exact writeFields_f_kept (x := F.CRDSn_ROLE_ROLE_EPOCH) jobFieldOk (by decide)
  · exact writeFields_f_kept (x := F.CRDSn_ROLE_ACTIVE_ROLE) jobFieldOk (by decide)

/-- The second new role of an epoch waits. -/
def State.roleHeld (s : State) (n role : Nat) (slot : Option Nat) : State :=
  (s.setStation n { s.station n with pendRole := role, pendSlot := slot }).setf F.CRDSn_ROLE_PENDING n 1

theorem State.roleHeld_fields (s : State) (n role : Nat) (slot : Option Nat) :
    (s.roleHeld n role slot).f F.CRDSn_ROLE_ACTIVE_ROLE n = s.f F.CRDSn_ROLE_ACTIVE_ROLE n ∧
    (s.roleHeld n role slot).roleEpoch n = s.roleEpoch n ∧ (s.roleHeld n role slot).on F.CRDSn_ROLE_PENDING n = true ∧
    ((s.roleHeld n role slot).station n).pendRole = role := by
  unfold State.roleHeld State.roleEpoch
  rw [State.f_setf_beside, State.f_setf_beside, State.on_setf_same _ _ _ _ (by decide), State.station_setf,
    State.station_setStation_same, State.f_setStation, State.f_setStation]
  exact ⟨rfl, rfl, rfl, rfl⟩

/-- A write of another role while none waits: it takes effect, or waits for the boundary. -/
theorem writeCrdsRole_new {slot : Option Nat} {w : Word} (hpend : s.on F.CRDSn_ROLE_PENDING n = false)
    (hnew : getBits w 8 2 ≠ s.f F.CRDSn_ROLE_ACTIVE_ROLE n) : (writeCrdsRole n .cfg w slot s).1 =
      if (s.station n).roleChanged then (s.roleWritten n w).roleHeld n (getBits w 8 2) slot
      else (s.roleWritten n w).changeRole n (getBits w 8 2) := by
  have hpend' : (writeFields s .cfg R.CRDSn_ROLE n [⟨21, 16, .rw⟩] w).1.on F.CRDSn_ROLE_PENDING n = false :=
    (congrArg (· == 1) (writeFields_f_kept (x := F.CRDSn_ROLE_PENDING) jobFieldOk (by decide))).trans hpend
  have hactive : (writeFields s .cfg R.CRDSn_ROLE n [⟨21, 16, .rw⟩] w).1.f F.CRDSn_ROLE_ACTIVE_ROLE n =
      s.f F.CRDSn_ROLE_ACTIVE_ROLE n := writeFields_f_kept (x := F.CRDSn_ROLE_ACTIVE_ROLE) jobFieldOk (by decide)
  unfold writeCrdsRole
  change State.roleWrite _ _ _ _ = _
  unfold State.roleWrite
  dsimp only
  rw [hpend', hactive, if_neg Bool.false_ne_true, if_neg hnew]
  rfl

theorem roleWrite_takes_effect {w : Word} (hp : s.portTakes R.CRDSn_ROLE n = true) (hpend : s.on F.CRDSn_ROLE_PENDING n = false)
    (hnew : getBits w 8 2 ≠ s.f F.CRDSn_ROLE_ACTIVE_ROLE n) (hfirst : (s.station n).roleChanged = false) :
    Completes (.roleWrite true n w) s fun t =>
      t.f F.CRDSn_ROLE_ACTIVE_ROLE n = getBits w 8 2 ∧ t.roleEpoch n = (s.roleEpoch n + 1) % 256 ∧
      (t.station n).roleChanged = true ∧ t.f F.CRDSn_ROLE_JOB n = getBits w 16 6 := by
  refine .of_next (congrArg Host.Outcome.next (State.cfgWrite_takes _ hp)) rfl ?_
  rw [writeCrdsRole_new hpend hnew, hfirst, if_neg Bool.false_ne_true]
  obtain ⟨hjob, hepoch, -, -⟩ := s.roleWritten_fields n w
  obtain ⟨hst, hact, hep, hj, -⟩ := (s.roleWritten n w).changeRole_fields n (getBits w 8 2)
  refine ⟨hact.trans (Nat.mod_eq_of_lt (getBits_lt w 8 2)), hep.trans (by rw [hepoch]), ?_, hj.trans hjob⟩
  exact (congrArg StationSt.roleChanged hst :)

theorem roleWrite_waits {w : Word} (hp : s.portTakes R.CRDSn_ROLE n = true) (hpend : s.on F.CRDSn_ROLE_PENDING n = false)
    (hnew : getBits w 8 2 ≠ s.f F.CRDSn_ROLE_ACTIVE_ROLE n) (hlater : (s.station n).roleChanged = true) :
    Completes (.roleWrite true n w) s fun t =>
      t.f F.CRDSn_ROLE_ACTIVE_ROLE n = s.f F.CRDSn_ROLE_ACTIVE_ROLE n ∧ t.roleEpoch n = s.roleEpoch n ∧
      t.on F.CRDSn_ROLE_PENDING n = true ∧ (t.station n).pendRole = getBits w 8 2 := by
  refine .of_next (congrArg Host.Outcome.next (State.cfgWrite_takes _ hp)) rfl ?_
  rw [writeCrdsRole_new hpend hnew, hlater, if_pos rfl]
  obtain ⟨-, hepoch, hactive, -⟩ := s.roleWritten_fields n w
  obtain ⟨hact, hep, hon, hrole⟩ := (s.roleWritten n w).roleHeld_fields n (getBits w 8 2) none
  exact ⟨hact.trans hactive, hep.trans hepoch, hon, hrole⟩

/-- Settles O20: a fault sets a frozen bit and a re-admission clears it; a new role takes effect or waits. -/
theorem partitionsAndRoles : Obligations.PartitionsAndRoles :=
  ⟨fun _ _ _ hup hp => partitionFault_fields hup hp, fun _ _ _ _ hp h4 h5 hpf hf => partitionReadmit_frees hp h4 h5 hpf hf,
    fun _ _ _ _ hp h4 h5 hpf => partitionReadmit_refused hp h4 h5 hpf,
    fun _ _ _ hp hpend hnew hfirst => roleWrite_takes_effect hp hpend hnew hfirst,
    fun _ _ _ hp hpend hnew hlater => roleWrite_waits hp hpend hnew hlater⟩

end Sys2Proof.Machine
end

section
/-! SUPPORT. Unit messages, meter clears and the cost table (R69, R105, R106, R108). -/
namespace Sys2Proof.Machine
open Sys2Proof

set_option Elab.async false

variable {s : State} {n : Nat} {w : Word64}

/-! ### The fields of a message -/

/-- A field of a message's argument, in its lower 32 bits. -/
theorem getBits_argument (w : Word64) {lo len : Nat} (h : lo + len ≤ 32) :
    getBits (BitVec.ofNat 32 (w.toNat % 2 ^ 48)) lo len = w.toNat / 2 ^ lo % 2 ^ len := by
  unfold getBits
  rw [BitVec.extractLsb'_toNat, BitVec.toNat_ofNat, Nat.mod_mod_of_dvd _ (Nat.pow_dvd_pow 2 (by decide)), Nat.shiftRight_eq_div_pow]
  obtain ⟨k, hk⟩ : ∃ k, 32 = lo + k := ⟨32 - lo, by omega⟩
  rw [hk, Nat.pow_add, Nat.mod_mul_right_div_self]
  exact Nat.mod_mod_of_dvd _ (Nat.pow_dvd_pow 2 (by omega))

/-! ### The answer to a message -/

/-- The outcome of a message is the firmware's: registers and the credit economy stay. -/
theorem State.unitOutcome_kept (s : State) (n msg code : Nat) :
    (s.unitOutcome n msg code).regs = s.regs ∧ (s.unitOutcome n msg code).crd = s.crd ∧
    (s.unitOutcome n msg code).flt = s.flt := by
  unfold State.unitOutcome
  split
  · exact ⟨rfl, rfl, rfl⟩
  · dsimp only
    split
    · exact ⟨rfl, rfl, rfl⟩
    · exact ⟨rfl, rfl, rfl⟩

/-- A message leaves the station's buckets, its frozen bits, and its ROLE and CFG registers. -/
structure State.SettingsKept (n : Nat) (s t : State) : Prop where
  cfg : t.rd R.CRDSn_CFG n = s.rd R.CRDSn_CFG n
  role : t.rd R.CRDSn_ROLE n = s.rd R.CRDSn_ROLE n
  bucket : t.rd R.CRDSn_BUCKET n = s.rd R.CRDSn_BUCKET n
  frozen : ∀ p, t.frozen n p = s.frozen n p

section
variable {s₀ : State} (h : s₀.SettingsKept n s)
include h

theorem State.SettingsKept.roleEpoch : s.roleEpoch n = s₀.roleEpoch n := State.f_of_rd h.role

theorem State.SettingsKept.buckets (p : Nat) : s.bucket n p = s₀.bucket n p := State.bucket_of_rd h.bucket p

theorem State.SettingsKept.of_regs {t : State} (e : t.regs = s.regs) : s₀.SettingsKept n t where
  cfg := (State.rd_of_regs e _ _).trans h.cfg
  role := (State.rd_of_regs e _ _).trans h.role
  bucket := (State.rd_of_regs e _ _).trans h.bucket
  frozen p := (State.frozen_of_rd (State.rd_of_regs e _ _) p).trans (h.frozen p)

theorem State.SettingsKept.traced {t : State} (hn : n < Config.coreCount) (g : s.Traced t) : s₀.SettingsKept n t where
  cfg := (g.rd (Reg.at_core_lt hn)).trans h.cfg
  role := (g.rd (Reg.at_core_lt hn)).trans h.role
  bucket := (g.rd (Reg.at_core_lt hn)).trans h.bucket
  frozen p := (State.frozen_of_rd (g.rd (Reg.at_core_lt hn)) p).trans (h.frozen p)

/-- A register below those of the stations. -/
theorem State.SettingsKept.setf {x : Fld} {i v : Nat} (hx : x.reg.at i < R.CRDSn_CFG.off) : s₀.SettingsKept n (s.setf x i v) where
  cfg := (State.rd_setf_other _ _ _ (Reg.at_ne_of_lt (r := R.CRDSn_CFG) hx).symm).trans h.cfg
  role := (State.rd_setf_other _ _ _ (Reg.at_ne_of_lt (r := R.CRDSn_ROLE) (Nat.lt_trans hx (by decide))).symm).trans h.role
  bucket := (State.rd_setf_other _ _ _ (Reg.at_ne_of_lt (r := R.CRDSn_BUCKET) (Nat.lt_trans hx (by decide))).symm).trans h.bucket
  frozen p := (State.frozen_of_rd (State.rd_setf_other _ _ _
    (Reg.at_ne_of_lt (r := R.CRDSn_STATUS) (Nat.lt_trans hx (by decide))).symm) p).trans (h.frozen p)

theorem State.SettingsKept.staleCounted {v : Nat} : s₀.SettingsKept n (s.setf F.CRDSn_STATUS_STALE_CNT n v) where
  cfg := (State.rd_setf_other (x := F.CRDSn_STATUS_STALE_CNT) _ _ _
    (Reg.at_ne_of_off (r := R.CRDSn_CFG) (q := R.CRDSn_STATUS) rfl (by decide))).trans h.cfg
  role := (State.rd_setf_other (x := F.CRDSn_STATUS_STALE_CNT) _ _ _
    (Reg.at_ne_of_off (r := R.CRDSn_ROLE) (q := R.CRDSn_STATUS) rfl (by decide))).trans h.role
  bucket := (State.rd_setf_other (x := F.CRDSn_STATUS_STALE_CNT) _ _ _ (Reg.bucket_at_ne_status n)).trans h.bucket
  frozen p := by
    refine Eq.trans ?_ (h.frozen p)
    unfold State.frozen
    rw [State.on_setf_beside, State.on_setf_beside]

end

theorem State.SettingsKept.refl : s.SettingsKept n s := ⟨rfl, rfl, rfl, fun _ => rfl⟩

/-- A stale message is counted and answered, and sets nothing. -/
theorem State.staleMessage_fields (s : State) (n : Nat) (w : Word64) : s.SettingsKept n (s.staleMessage n w) ∧
    ((s.staleMessage n w).station n).staleNote = some (w.toNat / 2 ^ 48 % 64, s.roleEpoch n) ∧
    (s.staleMessage n w).f F.CRD_STALE_COUNT_MSG = (s.f F.CRD_STALE_COUNT_MSG + 1) % 65536 ∧
    (s.staleMessage n w).flt = s.flt := by
  unfold State.staleMessage
  extract_lets u v _ x
  have hv : s.SettingsKept n v := (State.SettingsKept.refl.setf (by decide)).staleCounted
  have hcount : v.f F.CRD_STALE_COUNT_MSG = (s.f F.CRD_STALE_COUNT_MSG + 1) % 65536 := by
    have hat : R.CRD_STALE_COUNT.at 0 ≠ R.CRDSn_STATUS.at n := Reg.at_ne_of_lt (by decide)
    exact (State.f_setf_reg (x := F.CRDSn_STATUS_STALE_CNT) (y := F.CRD_STALE_COUNT_MSG) _ _ hat).trans
      (State.f_setf_same _ _ _ _ (by decide))
  have hflt : v.flt = s.flt := rfl
  obtain ⟨hregs, hcrd, hfault⟩ := x.unitOutcome_kept n w.toNat 0x2000
  have hxregs : x.regs = v.regs := rfl
  have hstation : x.station n = { v.station n with staleNote := some (w.toNat / 2 ^ 48 % 64, v.roleEpoch n) } :=
    State.station_setStation_same ..
  have hxflt : x.flt = v.flt := rfl
  clear_value x v u
  refine ⟨hv.of_regs (hregs.trans hxregs), ?_, (State.f_of_regs (hregs.trans hxregs) _ _).trans hcount,
    hfault.trans (hxflt.trans hflt)⟩
  rw [State.station_of_crd (congrArg CrdSt.stations hcrd), hstation, hv.roleEpoch]

/-! ### What a code sets (R105) -/

theorem messageFieldsOk : fieldsOk [⟨7, 4, .rw⟩, ⟨3, 2, .rw⟩] ∧ fieldsOk [⟨31, 20, .rw⟩] :=
  ⟨⟨by decide, by decide⟩, ⟨by decide, by decide⟩⟩

/-- The code's own field takes the argument. -/
theorem State.unitApply_sets (s : State) (n : Nat) (w : Word64) :
    ((s.unitApply n 1 (w.toNat % 2 ^ 48)).1.f F.CRDSn_CFG_PRIO n = w.toNat / 4 % 4 ∧
      (s.unitApply n 1 (w.toNat % 2 ^ 48)).1.f F.CRDSn_CFG_WEIGHT n = w.toNat / 16 % 16) ∧
    (s.unitApply n 2 (w.toNat % 2 ^ 48)).1.f F.CRDSn_ROLE_JOB n = w.toNat / 65536 % 64 ∧
    (s.unitApply n 3 (w.toNat % 2 ^ 48)).1.f F.CRDSn_CFG_CAP n = w.toNat / 2 ^ 20 % 4096 := by
  obtain ⟨hprio, hcap⟩ := messageFieldsOk
  refine ⟨⟨?_, ?_⟩, ?_, ?_⟩
  · exact (writeFields_f_written (x := F.CRDSn_CFG_PRIO) hprio (by decide) (by decide)).trans (getBits_argument w (by decide))
  · exact (writeFields_f_written (x := F.CRDSn_CFG_WEIGHT) hprio (by decide) (by decide)).trans (getBits_argument w (by decide))
  · exact (writeFields_f_written (x := F.CRDSn_ROLE_JOB) jobFieldOk (by decide) (by decide)).trans
      (getBits_argument w (by decide))
  · exact (writeFields_f_written (x := F.CRDSn_CFG_CAP) hcap (by decide) (by decide)).trans (getBits_argument w (by decide))

/-- No code but the re-admission touches buckets and frozen bits. -/
theorem State.unitApply_kept (s : State) (n arg : Nat) {code : Nat} (hc : code ≠ 4) :
    (s.unitApply n code arg).1.rd R.CRDSn_BUCKET n = s.rd R.CRDSn_BUCKET n ∧
    (s.unitApply n code arg).1.rd R.CRDSn_STATUS n = s.rd R.CRDSn_STATUS n := by
  unfold State.unitApply
  dsimp only
  split
  case h_4 => exact absurd rfl hc
  all_goals
    refine ⟨?_, ?_⟩
  case h_1.refine_1 => exact writeFields_rd_other (Reg.at_ne_of_off (r := R.CRDSn_BUCKET) (q := R.CRDSn_CFG) rfl (by decide))
  case h_1.refine_2 => exact writeFields_rd_other (Reg.at_ne_of_off (r := R.CRDSn_STATUS) (q := R.CRDSn_CFG) rfl (by decide))
  case h_2.refine_1 => exact writeFields_rd_other (Reg.at_ne_of_off (r := R.CRDSn_BUCKET) (q := R.CRDSn_ROLE) rfl (by decide))
  case h_2.refine_2 => exact writeFields_rd_other (Reg.at_ne_of_off (r := R.CRDSn_STATUS) (q := R.CRDSn_ROLE) rfl (by decide))
  case h_3.refine_1 => exact writeFields_rd_other (Reg.at_ne_of_off (r := R.CRDSn_BUCKET) (q := R.CRDSn_CFG) rfl (by decide))
  case h_3.refine_2 => exact writeFields_rd_other (Reg.at_ne_of_off (r := R.CRDSn_STATUS) (q := R.CRDSn_CFG) rfl (by decide))
  all_goals rfl

/-- No code touches the count of stale messages. -/
theorem State.unitApply_staleCount (s : State) (n arg code : Nat) :
    (s.unitApply n code arg).1.rd R.CRD_STALE_COUNT = s.rd R.CRD_STALE_COUNT := by
  have hat (r : Reg) (h : R.CRD_STALE_COUNT.at 0 < r.off) : R.CRD_STALE_COUNT.at 0 ≠ r.at n := Reg.at_ne_of_lt h
  unfold State.unitApply
  dsimp only
  split
  · exact writeFields_rd_other (hat R.CRDSn_CFG (by decide))
  · exact writeFields_rd_other (hat R.CRDSn_ROLE (by decide))
  · exact writeFields_rd_other (hat R.CRDSn_CFG (by decide))
  · unfold State.readmitPart
    dsimp only
    split
    · rfl
    · split
      · rw [State.rd_setBucket_other _ _ _ (hat R.CRDSn_BUCKET (by decide)),
          State.rd_setFrozen_other _ _ _ (hat R.CRDSn_STATUS (by decide))]
        rfl
      · rfl
  · rfl
  · rfl

/-! ### The message (R105, R106) -/

/-- The message's code is one of R105. -/
def goodCode (w : Word64) : Bool := decide (0 < w.toNat / 2 ^ 48 % 64) && decide (w.toNat / 2 ^ 48 % 64 < 6)

theorem goodCode_iff (w : Word64) : goodCode w = true ↔ 0 < w.toNat / 2 ^ 48 % 64 ∧ w.toNat / 2 ^ 48 % 64 < 6 := by
  unfold goodCode
  rw [Bool.and_eq_true, decide_eq_true_eq, decide_eq_true_eq]

/-- A reserved code is reported. -/
def State.codeChecked (s : State) (n : Nat) (w : Word64) : State := if goodCode w then s else s.fault 0x47 n

theorem State.codeChecked_traced (s : State) (n : Nat) (w : Word64) : s.Traced (s.codeChecked n w) := .ite .refl State.Traced.refl.fault

theorem State.unitMessage_typ2 (s : State) (n : Nat) (ht : w.toNat / 2 ^ 62 = 2) : s.unitMessage n w =
    if w.toNat / 2 ^ 54 % 256 ≠ (s.codeChecked n w).roleEpoch n then (s.codeChecked n w).staleMessage n w
    else if goodCode w then
      ((s.codeChecked n w).unitApply n (w.toNat / 2 ^ 48 % 64) (w.toNat % 2 ^ 48)).1.unitOutcome n w.toNat 0x1000
    else s.codeChecked n w := if_pos ht

theorem State.unitMessage_typ3 (s : State) (n : Nat) (ht : w.toNat / 2 ^ 62 = 3) : s.unitMessage n w = s.fault 0x47 n := by
  unfold State.unitMessage
  dsimp only
  rw [if_neg (by omega), if_pos ht]

section
variable {pf : Nat} (hup : s.coreUp n = true) (hseam : s.seamFree 5 2 n = true)
include hup hseam

/-- A message outside a save. -/
theorem execUnitMessage_heard (hsag : s.sag = false) :
    execUnitMessage ⟨n, pf⟩ w s = .next ((s.pfaultSeen n pf).unitMessage n w) := by
  have hsag' : (s.pfaultSeen n pf).sag = false := hsag
  exact congrArg Host.Outcome.next ((if_pos (by simp [hup, hseam])).trans
    (if_neg (c := ((s.pfaultSeen n pf).sag && _) = true) (by rw [hsag']; exact Bool.false_ne_true)))

theorem unitMessage_held (hsag : s.sag = true) (hcmd : s.eye.fw.unitCmds.any (fun u => u.core = n ∧ u.word = w.toNat) = true) :
    Completes (.unitMessage ⟨n, pf⟩ w) s fun t =>
      t.flt.heldOps = s.flt.heldOps ++ [.unitMsg n w.toNat] ∧ t.regs = s.regs := by
  have hsag' : (s.pfaultSeen n pf).sag = true := hsag
  refine ⟨_, congrArg Host.Outcome.next ((if_pos (by simp [hup, hseam])).trans
    (if_pos (c := ((s.pfaultSeen n pf).sag && _) = true) (by rw [hsag']; exact hcmd))), rfl, rfl⟩

theorem unitMessage_stale (hsag : s.sag = false) (ht : w.toNat / 2 ^ 62 = 2) (hepoch : w.toNat / 2 ^ 54 % 256 ≠ s.roleEpoch n) :
    Completes (.unitMessage ⟨n, pf⟩ w) s fun t => t.rd R.CRDSn_CFG n = s.rd R.CRDSn_CFG n ∧ t.rd R.CRDSn_ROLE n = s.rd R.CRDSn_ROLE n ∧
      (t.station n).staleNote = some (w.toNat / 2 ^ 48 % 64, s.roleEpoch n) ∧
      (∀ p, t.bucket n p = s.bucket n p) ∧ (∀ p, t.frozen n p = s.frozen n p) ∧
      t.f F.CRD_STALE_COUNT_MSG = (s.f F.CRD_STALE_COUNT_MSG + 1) % 65536 := by
  have hn := State.lt_coreCount_of_coreUp hup
  refine .of_next (execUnitMessage_heard hup hseam hsag) rfl ?_
  have hseen : s.SettingsKept n (s.pfaultSeen n pf) := State.SettingsKept.refl.of_regs rfl
  have htr := (s.pfaultSeen n pf).codeChecked_traced n w
  have hchecked := hseen.traced hn htr
  have hcount : ((s.pfaultSeen n pf).codeChecked n w).f F.CRD_STALE_COUNT_MSG = s.f F.CRD_STALE_COUNT_MSG := htr.f (by decide)
  rw [State.unitMessage_typ2 _ _ ht]
  generalize (s.pfaultSeen n pf).codeChecked n w = u at *
  rw [if_pos (by rw [hchecked.roleEpoch]; exact hepoch)]
  obtain ⟨hkept, hnote, hstale, -⟩ := u.staleMessage_fields n w
  refine ⟨hkept.cfg.trans hchecked.cfg, hkept.role.trans hchecked.role, ?_, fun p => (hkept.buckets p).trans (hchecked.buckets p),
    fun p => (hkept.frozen p).trans (hchecked.frozen p), ?_⟩
  · rw [hnote, hchecked.roleEpoch]
  · rw [hstale, hcount]

theorem unitMessage_present (hsag : s.sag = false) (ht : w.toNat / 2 ^ 62 = 2) (hepoch : w.toNat / 2 ^ 54 % 256 = s.roleEpoch n) :
    Completes (.unitMessage ⟨n, pf⟩ w) s fun t =>
      (w.toNat / 2 ^ 48 % 64 = 1 → t.f F.CRDSn_CFG_PRIO n = w.toNat / 4 % 4 ∧ t.f F.CRDSn_CFG_WEIGHT n = w.toNat / 16 % 16) ∧
      (w.toNat / 2 ^ 48 % 64 = 2 → t.f F.CRDSn_ROLE_JOB n = w.toNat / 65536 % 64) ∧
      (w.toNat / 2 ^ 48 % 64 = 3 → t.f F.CRDSn_CFG_CAP n = w.toNat / 2 ^ 20 % 4096) ∧
      (w.toNat / 2 ^ 48 % 64 = 4 → s.frozen n (w.toNat % 2) = true → pf.testBit (w.toNat % 2) = false →
        t.frozen n (w.toNat % 2) = false ∧ t.bucket n (w.toNat % 2) = 0 ∧
        (t.station n).toReturn = (s.station n).toReturn + s.bucket n (w.toNat % 2)) ∧
      (w.toNat / 2 ^ 48 % 64 ≠ 4 → (∀ p, t.bucket n p = s.bucket n p) ∧ ∀ p, t.frozen n p = s.frozen n p) ∧
      t.f F.CRD_STALE_COUNT_MSG = s.f F.CRD_STALE_COUNT_MSG := by
  have hn := State.lt_coreCount_of_coreUp hup
  refine .of_next (execUnitMessage_heard hup hseam hsag) rfl ?_
  have hseen : s.SettingsKept n (s.pfaultSeen n pf) := State.SettingsKept.refl.of_regs rfl
  have hstation : (s.pfaultSeen n pf).station n = { s.station n with pfault := pf % 4 } := State.station_setStation_same ..
  have htr := (s.pfaultSeen n pf).codeChecked_traced n w
  have hchecked := hseen.traced hn htr
  have hcount : ((s.pfaultSeen n pf).codeChecked n w).rd R.CRD_STALE_COUNT = s.rd R.CRD_STALE_COUNT := htr.rd (by decide)
  have hst := (htr.station n).trans hstation
  rw [State.unitMessage_typ2 _ _ ht]
  generalize (s.pfaultSeen n pf).codeChecked n w = u at *
  rw [if_neg (by rw [hchecked.roleEpoch]; exact not_not_intro hepoch)]
  by_cases hgood : goodCode w = true
  · rw [if_pos hgood]
    obtain ⟨⟨hprio, hweight⟩, hjob, hcap⟩ := u.unitApply_sets n w
    have hstale := u.unitApply_staleCount n (w.toNat % 2 ^ 48) (w.toNat / 2 ^ 48 % 64)
    obtain ⟨hregs, hcrd, -⟩ := (u.unitApply n (w.toNat / 2 ^ 48 % 64) (w.toNat % 2 ^ 48)).1.unitOutcome_kept n w.toNat 0x1000
    have hf (x : Fld) (i : Nat) := State.f_of_regs hregs x i
    refine ⟨fun hc => ?_, fun hc => ?_, fun hc => ?_, fun hc hfz hpf => ?_, fun hc => ?_, ?_⟩
    · rw [hf, hf, hc]
      exact ⟨hprio, hweight⟩
    · rw [hf, hc]
      exact hjob
    · rw [hf, hc]
      exact hcap
    · have hpart : w.toNat % 2 ^ 48 % 2 = w.toNat % 2 := Nat.mod_mod_of_dvd _ (by decide)
      have happly : (u.unitApply n (w.toNat / 2 ^ 48 % 64) (w.toNat % 2 ^ 48)).1 = u.readmitPart n (w.toNat % 2) := by
        rw [hc]
        exact congrArg (u.readmitPart n) hpart
      rw [happly] at hregs hcrd ⊢
      have hclear : (u.station n).pfault.testBit (w.toNat % 2) = false := by
        rw [hst, testBit_mod_four (Nat.mod_lt _ (by decide)), hpf]
      obtain ⟨hfree, hempty, hret, -⟩ := State.readmitPart_fields hclear ((hchecked.frozen _).trans hfz)
      refine ⟨(State.frozen_of_rd (State.rd_of_regs hregs _ _) _).trans hfree,
        (State.bucket_of_rd (State.rd_of_regs hregs _ _) _).trans hempty, ?_⟩
      rw [State.station_of_crd (congrArg CrdSt.stations hcrd), hret, hst, hchecked.buckets]
    · obtain ⟨hbucket, hstatus⟩ := u.unitApply_kept n (w.toNat % 2 ^ 48) hc
      exact ⟨fun p => (State.bucket_of_rd ((State.rd_of_regs hregs _ _).trans hbucket) p).trans (hchecked.buckets p),
        fun p => (State.frozen_of_rd ((State.rd_of_regs hregs _ _).trans hstatus) p).trans (hchecked.frozen p)⟩
    · exact State.f_of_rd ((State.rd_of_regs hregs _ _).trans (hstale.trans hcount))
  · rw [if_neg hgood]
    rw [goodCode_iff] at hgood
    refine ⟨fun hc => ?_, fun hc => ?_, fun hc => ?_, fun hc => ?_, fun _ => ⟨hchecked.buckets, hchecked.frozen⟩,
      State.f_of_rd hcount⟩
    all_goals exact absurd (by rw [hc]; decide) hgood

theorem unitMessage_reserved (hsag : s.sag = false) (ht : w.toNat / 2 ^ 62 = 2)
    (hc : 5 < w.toNat / 2 ^ 48 % 64 ∨ w.toNat / 2 ^ 48 % 64 = 0) : Completes (.unitMessage ⟨n, pf⟩ w) s fun t => t.reported 0x47 n ∧
      t.rd R.CRDSn_CFG n = s.rd R.CRDSn_CFG n ∧ t.rd R.CRDSn_ROLE n = s.rd R.CRDSn_ROLE n := by
  have hn := State.lt_coreCount_of_coreUp hup
  refine .of_next (execUnitMessage_heard hup hseam hsag) rfl ?_
  have hbad : ¬ goodCode w = true := by
    rw [goodCode_iff]
    omega
  have hseen : s.SettingsKept n (s.pfaultSeen n pf) := State.SettingsKept.refl.of_regs rfl
  have hchecked := hseen.traced hn ((s.pfaultSeen n pf).codeChecked_traced n w)
  have hrep : ((s.pfaultSeen n pf).codeChecked n w).reported 0x47 n := by
    rw [show (s.pfaultSeen n pf).codeChecked n w = _ from if_neg hbad]
    exact State.reported_fault _ _ rfl
  rw [State.unitMessage_typ2 _ _ ht]
  generalize (s.pfaultSeen n pf).codeChecked n w = u at *
  by_cases hepoch : w.toNat / 2 ^ 54 % 256 ≠ u.roleEpoch n
  · rw [if_pos hepoch]
    obtain ⟨hkept, -, -, hflt⟩ := u.staleMessage_fields n w
    refine ⟨?_, hkept.cfg.trans hchecked.cfg, hkept.role.trans hchecked.role⟩
    unfold State.reported
    rw [hflt]
    exact hrep
  · rw [if_neg hepoch, if_neg hbad]
    exact ⟨hrep, hchecked.cfg, hchecked.role⟩

theorem unitMessage_typ3 (hsag : s.sag = false) (ht : w.toNat / 2 ^ 62 = 3) : Completes (.unitMessage ⟨n, pf⟩ w) s fun t =>
    t.reported 0x47 n ∧ t.rd R.CRDSn_CFG n = s.rd R.CRDSn_CFG n ∧ t.rd R.CRDSn_ROLE n = s.rd R.CRDSn_ROLE n ∧
    ∀ p, t.bucket n p = s.bucket n p := by
  have hseen : s.SettingsKept n (s.pfaultSeen n pf) := State.SettingsKept.refl.of_regs rfl
  have hkept := hseen.traced (State.lt_coreCount_of_coreUp hup) (State.Traced.refl.fault (row := 0x47) (unit := n))
  refine .of_next (execUnitMessage_heard hup hseam hsag) rfl ?_
  rw [State.unitMessage_typ3 _ _ ht]
  exact ⟨State.reported_fault _ _ rfl, hkept.cfg, hkept.role, hkept.buckets⟩

end

/-! ### Meters and the cost table (R69, R108) -/

/-- The clear of a meter is pending for the next boundary. -/
def State.clearPending (s : State) (m : Nat) : State :=
  { s with crd := { s.crd with jobClear := Tab.set 0 s.crd.jobClear m (s.epoch + 1) } }.setf F.JOBm_CTRL_STATUS m 1

theorem State.clearPending_regs (s : State) (m : Nat) : (s.clearPending m).regs = (s.setf F.JOBm_CTRL_STATUS m 1).regs := rfl

/-- A pending clear is shown, and the meter stays. -/
theorem State.clearPending_fields (s : State) (m : Nat) : (s.clearPending m).f F.JOBm_CTRL_STATUS m = 1 ∧
    Tab.get 0 (s.clearPending m).crd.jobClear m = s.epoch + 1 ∧
    (s.clearPending m).on F.JOBm_CTRL_EN m = s.on F.JOBm_CTRL_EN m ∧
    (s.clearPending m).rd R.JOBm_EC_LO m = s.rd R.JOBm_EC_LO m ∧ (s.clearPending m).rd R.JOBm_EC_HI m = s.rd R.JOBm_EC_HI m := by
  have hlo : R.JOBm_EC_LO.at m ≠ R.JOBm_CTRL.at m := Reg.at_ne_of_off rfl (by decide)
  have hhi : R.JOBm_EC_HI.at m ≠ R.JOBm_CTRL.at m := Reg.at_ne_of_off rfl (by decide)
  rw [State.f_of_regs (s.clearPending_regs m), State.on_of_regs (s.clearPending_regs m), State.rd_of_regs (s.clearPending_regs m),
    State.rd_of_regs (s.clearPending_regs m), State.on_setf_beside, State.rd_setf_other _ _ _ hlo, State.rd_setf_other _ _ _ hhi]
  exact ⟨State.f_setf_same _ _ _ _ (by decide), (Tab.get_set_same 0 s.crd.jobClear m (s.epoch + 1) :), rfl, rfl, rfl⟩

theorem jobClearWrite_pends {m : Nat} {w : Word} (hp : s.portTakes R.JOBm_CTRL m = true) (hw : w.getLsbD 1 = true) :
    Completes (.jobClearWrite true m w) s fun t =>
      t.f F.JOBm_CTRL_STATUS m = 1 ∧ Tab.get 0 t.crd.jobClear m = s.epoch + 1 ∧ t.on F.JOBm_CTRL_EN m = w.getLsbD 0 ∧
      t.pair R.JOBm_EC_LO R.JOBm_EC_HI m = s.pair R.JOBm_EC_LO R.JOBm_EC_HI m := by
  have hq : (writeJobCtrl m .cfg w s).1 = (writeReg s .cfg R.JOBm_CTRL m w).1.clearPending m := if_pos hw
  refine .of_next (congrArg Host.Outcome.next (State.cfgWrite_takes _ hp)) rfl ?_
  rw [hq]
  have hok : fieldsOk R.JOBm_CTRL.wf := ⟨by decide, by decide⟩
  have hen : (writeReg s .cfg R.JOBm_CTRL m w).1.on F.JOBm_CTRL_EN m = w.getLsbD 0 :=
    (congrArg (· == 1) (writeFields_f_written (x := F.JOBm_CTRL_EN) hok (by decide) (by decide))).trans (getBits_one w 0)
  have hepoch : (writeReg s .cfg R.JOBm_CTRL m w).1.epoch = s.epoch :=
    State.epoch_of_rd rfl (writeFields_rd_other (q := R.TIME_STATUS) (Reg.at_ne_of_lt (r := R.JOBm_CTRL) (by decide)))
  have hlo : (writeReg s .cfg R.JOBm_CTRL m w).1.rd R.JOBm_EC_LO m = s.rd R.JOBm_EC_LO m :=
    writeFields_rd_other (Reg.at_ne_of_off (r := R.JOBm_EC_LO) (q := R.JOBm_CTRL) rfl (by decide))
  have hhi : (writeReg s .cfg R.JOBm_CTRL m w).1.rd R.JOBm_EC_HI m = s.rd R.JOBm_EC_HI m :=
    writeFields_rd_other (Reg.at_ne_of_off (r := R.JOBm_EC_HI) (q := R.JOBm_CTRL) rfl (by decide))
  generalize (writeReg s .cfg R.JOBm_CTRL m w).1 = u at *
  obtain ⟨hstatus, hclear, hen', hlo', hhi'⟩ := u.clearPending_fields m
  exact ⟨hstatus, hclear.trans (congrArg (· + 1) hepoch), hen'.trans hen, State.pair_of_rd (hlo'.trans hlo) (hhi'.trans hhi)⟩

/-- The index of the cost table: SET, OPCLASS and FORMAT side by side. -/
def Fld.costIndex : Fld := ⟨R.CRD_COST_ADDR, 0, 11⟩

theorem getBits_toNat (w : Word) (lo len : Nat) : getBits w lo len = w.toNat / 2 ^ lo % 2 ^ len := by
  unfold getBits
  rw [BitVec.extractLsb'_toNat, Nat.shiftRight_eq_div_pow]

theorem State.costIndex_eq (s : State) : s.costIndex = s.f Fld.costIndex := by
  unfold State.costIndex State.f
  simp only [getBits_toNat]
  change 128 * ((s.rd R.CRD_COST_ADDR).toNat / 128 % 16) + 16 * ((s.rd R.CRD_COST_ADDR).toNat / 16 % 8) +
    (s.rd R.CRD_COST_ADDR).toNat / 1 % 16 = (s.rd R.CRD_COST_ADDR).toNat / 1 % 2048
  omega

theorem costDataWrite_sets {w : Word} (hp : s.portTakes R.CRD_COST_DATA 0 = true) : Completes (.costDataWrite true w) s fun t =>
    t.costEntry s.costIndex = w ∧ (∀ k, k ≠ s.costIndex → t.costEntry k = s.costEntry k) ∧
    t.costIndex = (if s.on F.CRD_COST_ADDR_AUTOINC then (s.costIndex + 1) % 2048 else s.costIndex) := by
  refine .of_next (congrArg Host.Outcome.next (State.cfgWrite_takes _ hp)) rfl ?_
  have hcost : (writeCostData w s).1.crd.cost = Tab.set 0 s.crd.cost s.costIndex w := by
    unfold writeCostData
    dsimp only
    split
    · rfl
    · rfl
  refine ⟨?_, fun k hk => ?_, ?_⟩
  · exact (congrArg (fun c => Tab.get 0 c s.costIndex) hcost).trans (Tab.get_set_same ..)
  · exact (congrArg (fun c => Tab.get 0 c k) hcost).trans (Tab.get_set_other _ _ _ _ hk)
  · change (writeCostData w s).1.costIndex = _
    unfold writeCostData
    extract_lets k _ u
    have hauto : u.on F.CRD_COST_ADDR_AUTOINC = s.on F.CRD_COST_ADDR_AUTOINC := rfl
    have hindex : u.costIndex = s.costIndex := rfl
    rw [← hauto, ← hindex]
    split
    · rw [State.costIndex_eq]
      exact State.f_setf_same _ Fld.costIndex _ _ (by decide)
    · rfl

/-- Settles O21: what a message sets is decided by its type, its role epoch and its code, in this order. -/
theorem unitMessagesMetersAndCosts : Obligations.UnitMessagesMetersAndCosts :=
  ⟨fun _ _ _ _ hup hseam hsag ht he => unitMessage_stale hup hseam hsag ht he,
    fun _ _ _ _ hup hseam hsag ht he => unitMessage_present hup hseam hsag ht he,
    fun _ _ _ _ hup hseam hsag ht hc => unitMessage_reserved hup hseam hsag ht hc,
    fun _ _ _ _ hup hseam hsag ht => unitMessage_typ3 hup hseam hsag ht,
    fun _ _ _ _ hup hseam hsag hcmd => unitMessage_held hup hseam hsag hcmd,
    fun _ _ _ hp hw => jobClearWrite_pends hp hw, fun _ _ hp => costDataWrite_sets hp⟩

end Sys2Proof.Machine
end

section
/-! SUPPORT. CommandsTakeEffect: a state in which the reply of AWL_INJECT is filed over its own
effect. A journal entry's channel is any number, and the status register of channel 250 would stand
at 0x1110 + 250 · 0x20 = 0x3050, where FLT_AWL stands: the RSP_QUEUED count of that channel begins
at the bit of REPEAT. -/
namespace Sys2Proof.Machine
open Sys2Proof

set_option Elab.async false

/-- AWL_INJECT of checker 0 with REPEAT at 0, accepted for channel 250. -/
def injectEntry : JEnt := { seq := 5, ch := 250, op := 0x64, arg := 0, slot := 9, accPosted := true }

/-- The chip after boot: no reset held, the count at 1 ms, the firmware running, the injection scope
granted, and `injectEntry` the one command of the journal. -/
def injectState : State :=
  let s := { State.reset with rst := { State.reset.rst with cold := false, die := false } }
  let s := (s.setf F.GOV_BOOT_VGOV_OK 0 1).setf F.GOV_BOOT_STAGE 0 10
  let s := (s.setf F.TIME_STATUS_STARTED 0 1).setBitf F.GOV_SEC_SCOPE 0 2 true
  { s with
    time := { s.time with count := 1000000 }
    eye := { s.eye with journal := [injectEntry], fw := { s.eye.fw with running := true } } }

theorem injectState_runs : injectState.runs 0x64 injectEntry := by
  have h : injectState.commandDue 0x64 = some injectEntry ∧
      injectState.jent? injectEntry.slot = some injectEntry := by decide +kernel
  exact h

theorem injectState_scope : injectState.scopeAwl = true := by decide +kernel

/-- REPEAT reads 1 after the injection, though bit 16 of the argument is 0. -/
theorem injectState_repeat :
    Completes .awlInject injectState fun t => t.on F.FLT_AWL_REPEAT = true := by
  have h : (match exec .awlInject injectState with
      | .next t => t.on F.FLT_AWL_REPEAT
      | _ => false) = true := by decide +kernel
  revert h
  cases hx : exec .awlInject injectState with
  | next t => exact fun h => ⟨t, hx, h⟩
  | _ => intro h; cases h

/-- Refutes O50, by the entry of channel 250 in `injectState`: the count of replies queued there is
written over FLT_AWL's REPEAT bit. -/
theorem not_commandsTakeEffect : ¬ Obligations.CommandsTakeEffect := by
  unfold Obligations.CommandsTakeEffect
  intro h
  obtain ⟨-, -, -, -, -, -, -, -, -, -, hinject, -⟩ := h
  obtain ⟨t, ht, -, -, hrep, -⟩ := hinject injectState injectEntry injectState_runs
    injectState_scope (by decide) (by decide)
  obtain ⟨u, hu, hon⟩ := injectState_repeat
  obtain rfl : t = u := Host.Outcome.next.inj (ht.symm.trans hu)
  exact absurd (hon.symm.trans hrep) (by decide)

end Sys2Proof.Machine
end

section
/-! SUPPORT. The command that runs next, its effect and its final reply (R49, R380, R381, R391). -/
namespace Sys2Proof.Machine
open Sys2Proof

set_option Elab.async false

variable {s t : State} {e : JEnt} {op v : Nat} {b : Bool}

/-! ### The command that runs next -/

/-- A command that runs has neither taken effect nor ended; the firmware runs, and no save holds it. -/
theorem State.runs_iff : s.runs op e ↔ s.nextCommand = some e ∧ s.fwUp = true ∧ s.sag = false ∧ e.op = op ∧
    s.eye.fw.unitCmds.any (fun u => u.slot == e.slot) = false ∧ s.jent? e.slot = some e := by
  unfold State.runs State.commandDue
  split
  · next h => simp [h]
  · next x h =>
    rw [h]
    constructor
    · rintro ⟨hx, hj⟩
      split at hx
      · next hc =>
        obtain rfl := Option.some.inj hx
        simp only [Bool.and_eq_true, Bool.not_eq_true', beq_iff_eq] at hc
        obtain ⟨⟨⟨hup, hsag⟩, hop⟩, hu⟩ := hc
        exact ⟨rfl, hup, hsag, hop, hu, hj⟩
      · cases hx
    · rintro ⟨hx, hup, hsag, hop, hu, hj⟩
      obtain rfl := Option.some.inj hx
      exact ⟨if_pos (by simp [hup, hsag, hop, hu]), hj⟩

section
variable (h : s.runs op e)
include h

theorem State.runs.jent : s.jent? e.slot = some e := h.2

theorem State.runs.fwUp : s.fwUp = true := (State.runs_iff.mp h).2.1

theorem State.runs.sag : s.sag = false := (State.runs_iff.mp h).2.2.1

theorem State.runs.final : e.final = false := by
  have hnext := (State.runs_iff.mp h).1
  have hp := List.find?_some hnext
  simp only [Bool.and_eq_true, Bool.not_eq_true'] at hp
  exact hp.1.2

end

/-- The journal has been resumed, or not yet (R395). -/
def State.resumed (s : State) (b : Bool) : State := s.setFw { s.eye.fw with resuming := b }

theorem State.resumeDone_eq (s : State) : ∃ b, s.resumeDone = s.resumed b := by
  obtain h | h := s.resumeDone_cases
  · exact ⟨s.eye.fw.resuming, h⟩
  · exact ⟨false, h⟩

/-- The next command is its action; whether the journal is resumed then is told by RESUMING alone. -/
theorem Completes.of_command {i : Instr} {act : JEnt → State → State} {P : State → Prop} (hr : s.runs op e)
    (hx : exec i s = .next (s.command op act)) (hp : P (act e s))
    (hres : ∀ u b, P u → P (u.resumed b) := by exact fun _ _ h => h) : Completes i s P := by
  obtain ⟨b, hb⟩ := (act e s).resumeDone_eq
  refine ⟨(act e s).resumed b, ?_, hres _ b hp⟩
  rw [hx, State.command_due act hr.1, hb]

/-! ### Entries of the journal -/

theorem State.jent?_jmod (s : State) (k : Nat) (g : JEnt → JEnt) (hg : ∀ x, (g x).slot = x.slot := by exact fun _ => rfl) :
    (s.jmod k g).jent? k = (s.jent? k).map g := by
  have hslot : ∀ x : JEnt, (if x.slot = k then g x else x).slot = x.slot := fun x => by
    split
    · exact hg x
    · rfl
  have hcomp : (fun x : JEnt => decide (x.slot = k)) ∘ (fun x => if x.slot = k then g x else x) = fun x => decide (x.slot = k) :=
    funext fun x => congrArg (fun n => decide (n = k)) (hslot x)
  unfold State.jent? State.jmod
  rw [List.find?_map, hcomp]
  cases hf : s.eye.journal.find? (fun x => decide (x.slot = k)) with
  | none => rfl
  | some x =>
    have hx : x.slot = k := of_decide_eq_true (List.find?_some hf :)
    simp [hx]

theorem State.jent?_of_journal (h : t.eye.journal = s.eye.journal) (k : Nat) : t.jent? k = s.jent? k := by
  unfold State.jent?
  rw [h]

theorem State.hasEffect_of_journal (h : t.eye.journal = s.eye.journal) (hs : s.hasEffect e b) : t.hasEffect e b := by
  unfold State.hasEffect at hs ⊢
  rwa [State.jent?_of_journal h]

/-! ### Effect -/

theorem State.effect_regs_ne (s : State) {q : Reg} {i : Nat} (k v : Nat) (h : q.at i ≠ R.EYE_CENSUS.at 0) :
    (s.effect k v).rd q i = s.rd q i := State.rd_setf_other _ _ _ h

theorem State.jent?_effect (s : State) (k v : Nat) :
    (s.effect k v).jent? k = (s.jent? k).map fun x => { x with effect := true, result := BitVec.ofNat 32 v } :=
  s.jent?_jmod k _

section
variable (hj : s.jent? e.slot = some e) (hf : e.final = false)
include hj

theorem State.hasEffect_effect (v : Nat) : (s.effect e.slot v).hasEffect e e.final :=
  ⟨_, (s.jent?_effect _ _).trans (congrArg _ hj), rfl, rfl, rfl, rfl⟩

include hf

/-! ### The final reply -/

theorem State.finish_eq (status v : Nat) : s.finish e.slot status v =
    ((((s.jmod e.slot fun x => { x with final := true, partialDone := false, result := BitVec.ofNat 32 v }).setFw
      { s.eye.fw with outcome := Tab.set 0 s.eye.fw.outcome e.slot 0 }).replyOf e status false false false true v).fwChanged) := by
  unfold State.finish
  rw [hj]
  dsimp only
  rw [if_neg (by simp [hf])]
  rfl

end

theorem State.answered_of_chans (h : t.eye.chans = s.eye.chans) {status : Nat} (hs : s.answered e status v) :
    t.answered e status v := by
  unfold State.answered State.chan at hs ⊢
  rwa [h]

theorem State.answered_replyOf (s : State) (e : JEnt) (status v : Nat) :
    (s.replyOf e status false false false true v).answered e status v :=
  ⟨_, by
    unfold State.replyOf State.enqueue State.chan State.setChan State.setf State.wr
    rw [Tab.get_set_same]
    exact List.mem_append_right _ (List.mem_singleton_self _), rfl, rfl, rfl⟩

theorem State.done_finish (hj : s.jent? e.slot = some e) (hf : e.final = false) (he : e.effect = true) (v : Nat) :
    (s.finish e.slot ST_DONE v).done e v := by
  rw [State.finish_eq hj hf]
  have hj' := (s.jent?_jmod e.slot fun x => { x with final := true, partialDone := false, result := BitVec.ofNat 32 v }).trans
    (congrArg _ hj)
  generalize s.jmod e.slot (fun x => { x with final := true, partialDone := false, result := BitVec.ofNat 32 v }) = u at hj'
  generalize { s.eye.fw with outcome := Tab.set 0 s.eye.fw.outcome e.slot 0 } = x
  refine ⟨State.answered_of_chans rfl (State.answered_replyOf (u.setFw x) e ST_DONE v), ?_⟩
  exact State.hasEffect_of_journal (s := u) rfl ⟨_, hj', he, rfl, rfl, rfl⟩

theorem State.done_doneNow (hj : s.jent? e.slot = some e) (hf : e.final = false) (v : Nat) : (s.doneNow e.slot v).done e v :=
  State.done_finish (e := { e with effect := true, result := BitVec.ofNat 32 v })
    ((s.jent?_effect _ _).trans (congrArg _ hj)) hf rfl v

/-- A register beside the channels' status and the census count is as before the reply. -/
theorem State.rd_doneNow (s : State) {q : Reg} {i : Nat} (k v : Nat) (hc : q.at i ≠ R.EYE_CENSUS.at 0)
    (hs : ∀ c, q.at i ≠ R.EYEc_STATUS.at c) : (s.doneNow k v).rd q i = s.rd q i := by
  unfold State.doneNow State.finish
  generalize hu : s.effect k v = u
  have hrd : u.rd q i = s.rd q i := hu ▸ s.effect_regs_ne k v hc
  split
  · exact hrd
  · split
    · exact hrd
    · unfold State.replyOf State.enqueue
      exact ((State.rd_setf_other _ _ _ hc).trans (State.rd_setf_other _ _ _ (hs _))).trans hrd

end Sys2Proof.Machine
end

section
/-! SUPPORT. What the operations under a command leave alone: the journal, and the registers below an offset. -/
namespace Sys2Proof.Machine
open Sys2Proof

set_option Elab.async false

/-- From `s₀` to `s` the journal did not change, nor any register below `lim`. -/
structure State.Stays (lim : Nat) (s₀ s : State) : Prop where
  get : ∀ a, a < lim → ∀ d, Tab.get d s.regs a = Tab.get d s₀.regs a
  journal : s.eye.journal = s₀.eye.journal

variable {lim k : Nat} {s₀ s t : State}

theorem State.Stays.refl : s.Stays lim s := ⟨fun _ _ _ => rfl, rfl⟩

section
variable (h : State.Stays lim s₀ s)
include h

theorem State.Stays.trans (g : s.Stays lim t) : s₀.Stays lim t :=
  ⟨fun a ha d => (g.get a ha d).trans (h.get a ha d), g.journal.trans h.journal⟩

theorem State.Stays.mono (hk : k ≤ lim) : s₀.Stays k s := ⟨fun a ha => h.get a (ha.trans_le hk), h.journal⟩

theorem State.Stays.rd {r : Reg} {i : Nat} (hr : r.at i < lim) : s.rd r i = s₀.rd r i := h.get _ hr _

theorem State.Stays.f {x : Fld} {i : Nat} (hr : x.reg.at i < lim) : s.f x i = s₀.f x i := State.f_of_rd (h.rd hr)

theorem State.Stays.on {x : Fld} {i : Nat} (hr : x.reg.at i < lim) : s.on x i = s₀.on x i := State.on_of_rd (h.rd hr)

/-- An operation that leaves more alone is looked at by itself. -/
theorem State.Stays.within (hk : lim ≤ k) (g : s.Stays k s → s.Stays k t) : s₀.Stays lim t := h.trans ((g .refl).mono hk)

theorem State.Stays.foldl {β : Type} {f : State → β → State} {l : List β} (hf : ∀ s x, s₀.Stays lim s → s₀.Stays lim (f s x)) :
    s₀.Stays lim (l.foldl f s) :=
  List.foldlRecOn (motive := s₀.Stays lim) l f h fun u hu x _ => hf u x hu

end

theorem State.Stays.ite {c : Prop} [Decidable c] (hs : s₀.Stays lim s) (ht : s₀.Stays lim t) :
    s₀.Stays lim (if c then s else t) := by
  split
  · exact hs
  · exact ht

section
variable (h : State.Stays lim s₀ s)
include h

/-! ### Registers -/

section
variable {r lo hi : Reg} {x : Fld} {i v : Nat}

theorem State.Stays.wr {w : Word} (hr : lim ≤ r.off := by decide) : s₀.Stays lim (s.wr r i w) :=
  ⟨fun a ha d => (Tab.get_set_other _ _ _ _ (by have := r.off_le_at i; omega)).trans (h.get a ha d), h.journal⟩

theorem State.Stays.setf (hr : lim ≤ x.reg.off := by decide) : s₀.Stays lim (s.setf x i v) := h.wr hr

theorem State.Stays.setb {b : Bool} (hr : lim ≤ x.reg.off := by decide) : s₀.Stays lim (s.setb x i b) := h.wr hr

theorem State.Stays.incf (hr : lim ≤ x.reg.off := by decide) : s₀.Stays lim (s.incf x i v) := h.wr hr

theorem State.Stays.setBitf {j : Nat} {b : Bool} (hr : lim ≤ x.reg.off := by decide) : s₀.Stays lim (s.setBitf x i j b) := h.wr hr

theorem State.Stays.setfiSat {z : Int} (hr : lim ≤ x.reg.off := by decide) : s₀.Stays lim (s.setfiSat x i z) := h.wr hr

theorem State.Stays.clr (hr : lim ≤ r.off := by decide) : s₀.Stays lim (s.clr r i) := h.wr hr

theorem State.Stays.setPair (hl : lim ≤ lo.off := by decide) (hh : lim ≤ hi.off := by decide) :
    s₀.Stays lim (s.setPair lo hi i v) := (h.wr hl).wr hh

end

/-! ### Records -/

/-- An update of other records. -/
theorem State.Stays.upd {pending shadow free served rsp time seams islands eye flt trc sec rst tele crd welt ph rails loop lasts thm
    pwr lace trd} (hj : eye.journal = s.eye.journal := by rfl) :
    s₀.Stays lim (State.mk pending s.regs shadow free served rsp time seams islands eye flt trc sec rst tele crd welt ph rails loop
      lasts thm pwr lace trd) := ⟨h.get, hj.trans h.journal⟩

theorem State.Stays.setRail {r : Nat} {x : RailSt} : s₀.Stays lim (s.setRail r x) := h.upd

theorem State.Stays.setPhase {p : Nat} {x : PhaseSt} : s₀.Stays lim (s.setPhase p x) := h.upd

theorem State.Stays.setDom {d : Nat} {x : DomSt} : s₀.Stays lim (s.setDom d x) := h.upd

theorem State.Stays.setStation {n : Nat} {x : StationSt} : s₀.Stays lim (s.setStation n x) := h.upd

theorem State.Stays.setCluster {c : Nat} {x : ClusterSt} : s₀.Stays lim (s.setCluster c x) := h.upd

theorem State.Stays.setFw {x : FwSt} : s₀.Stays lim (s.setFw x) := h.upd

theorem State.Stays.setSeq {x : SeqSt} : s₀.Stays lim (s.setSeq x) := h.upd

theorem State.Stays.setSeam {i : Nat} {x : SeamSt} : s₀.Stays lim (s.setSeam i x) := h.upd

theorem State.Stays.setWelt {c : Nat} {x : WeltSt} : s₀.Stays lim (s.setWelt c x) := h.upd

theorem State.Stays.telem {i : Nat} {z : Int} : s₀.Stays lim (s.telem i z) := h.upd

theorem State.Stays.pmbLatch {page reg bit : Nat} : s₀.Stays lim (s.pmbLatch page reg bit) := h.upd

theorem State.Stays.hang {ring code arg : Nat} : s₀.Stays lim (s.hang ring code arg) := h.upd

/-! ### Logs, fault events and triggers -/

theorem State.Stays.traced (g : s.Traced t) (hl : lim ≤ 0x78000 := by decide) : s₀.Stays lim t :=
  h.within hl fun _ => ⟨fun a ha d => g.get a ha d, by rw [g.eye]⟩

theorem State.Stays.log {code unit arg : Nat} (hl : lim ≤ 0x78000 := by decide) : s₀.Stays lim (s.log code unit arg) :=
  h.traced State.Traced.refl.log hl

theorem State.Stays.fault {row unit : Nat} (hl : lim ≤ 0x78000 := by decide) : s₀.Stays lim (s.fault row unit) :=
  h.traced State.Traced.refl.fault hl

theorem State.Stays.trigger {cause bit tag : Nat} (hl : lim ≤ 0x78000 := by decide) : s₀.Stays lim (s.trigger cause bit tag) :=
  h.traced State.Traced.refl.trigger hl

theorem State.Stays.hangStations {code : Nat} (hl : lim ≤ 0x78000 := by decide) : s₀.Stays lim (s.hangStations code) :=
  h.traced State.Traced.refl.hangStations hl

/-! ### The clamp line (R94 to R96) -/

theorem State.Stays.clampOn {bit unit : Nat} (hl : lim ≤ 0x10000 := by decide) : s₀.Stays lim (s.clampOn bit unit) := by
  refine h.within hl fun h => ?_
  unfold State.clampOn
  extract_lets _ _ u
  have hu : s.Stays 0x10000 u := h.upd.setBitf
  clear_value u
  exact .ite hu hu.setf.incf.upd.log.hangStations.trigger

theorem State.Stays.clampSet {bit unit : Nat} {b : Bool} (hl : lim ≤ 0x10000 := by decide) : s₀.Stays lim (s.clampSet bit unit b) := by
  unfold State.clampSet State.clampOffSrc
  exact .ite (.ite h (h.clampOn hl)) (.ite (.ite h.upd h.upd) h)

/-! ### Phases (R156 to R191) -/

section
variable {p r n st : Nat} {l : List Nat} (hl : lim ≤ 0xA000 := by decide)
include hl

theorem State.Stays.endDe : s₀.Stays lim (s.endDe r) := by
  refine h.within hl fun h => ?_
  unfold State.endDe
  exact h.setRail.foldl fun _ _ hs => hs.setf

theorem State.Stays.phPut : s₀.Stays lim (s.phPut p st) := by
  refine h.within hl fun h => ?_
  unfold State.phPut State.notePhase
  exact (State.Stays.ite h.setf.setb.setPhase h.setf.setb.setPhase.setf).log.hang

theorem State.Stays.softStart : s₀.Stays lim (s.softStart p n) := by
  unfold State.softStart
  exact .ite ((h.phPut hl).setPhase.endDe hl) (h.phPut hl).setPhase

omit hl in
theorem State.Stays.toAngle : s₀.Stays lim (s.toAngle p) := h.setPhase

theorem State.Stays.addPhases : s₀.Stays lim (s.addPhases l) :=
  (h.foldl fun _ _ hs => hs.softStart hl).foldl fun _ _ hs => hs.toAngle

theorem State.Stays.showCap : s₀.Stays lim (s.showCap r) := by
  refine h.within hl fun h => ?_
  unfold State.showCap
  exact State.Stays.setf (.ite h h.setf.setRail)

theorem State.Stays.capClamp : s₀.Stays lim (s.capClamp r) := by
  refine h.within hl fun h => ?_
  unfold State.capClamp
  have hcap := h.showCap (r := r)
  have hlow := (hcap.setf (x := F.PHRAILr_STATUS_CAP_LOW) (i := r) (v := 1)).clampSet (bit := 0) (unit := r) (b := true)
  exact .ite hcap.setf.clampSet (.ite (State.Stays.showCap (.ite hlow.addPhases.endDe hlow.addPhases)) hcap.setf.clampSet)

omit hl in
theorem State.Stays.noteRailTemp : s₀.Stays lim (s.noteRailTemp p) := by
  unfold State.noteRailTemp
  extract_lets
  split
  · exact h
  · exact h.telem

theorem State.Stays.phGo : s₀.Stays lim (s.phGo p st) := by
  unfold State.phGo
  exact (State.Stays.noteRailTemp (.ite (h.phPut hl).pmbLatch (h.phPut hl))).capClamp hl

theorem State.Stays.phProbe : s₀.Stays lim (s.phProbe p) := by
  refine h.within hl fun h => ?_
  unfold State.phProbe State.showShare
  exact h.setPhase.phGo.setf.capClamp

theorem State.Stays.phDisable : s₀.Stays lim (s.phDisable p) := by
  refine h.within hl fun h => ?_
  unfold State.phDisable
  exact h.setPhase.setf.setf.phGo

theorem State.Stays.railWentOff : s₀.Stays lim (s.railWentOff r) :=
  (h.foldl fun _ _ hs => hs.phDisable hl).capClamp hl

theorem State.Stays.phasesStart : s₀.Stays lim (s.phasesStart r) :=
  ((h.foldl fun _ _ hs => hs.phPut hl).foldl fun _ _ hs => hs.toAngle).capClamp hl

end

end

end Sys2Proof.Machine
end

section
/-! SUPPORT. What the operations on rails and the sequencer leave alone. -/
namespace Sys2Proof.Machine
open Sys2Proof

set_option Elab.async false

variable {lim : Nat} {s₀ s : State}

section
variable (h : State.Stays lim s₀ s)
include h

/-! ### Rails (R192 to R221) -/

section
variable {r n : Nat} (hl : lim ≤ 0x9000 := by decide)
include hl

theorem State.Stays.showSet : s₀.Stays lim (s.showSet r) := by
  refine h.within hl fun h => ?_
  unfold State.showSet
  exact h.setf.setfiSat

theorem State.Stays.showEff : s₀.Stays lim (s.showEff r) := by
  refine h.within hl fun h => ?_
  unfold State.showEff
  exact .ite h.setf.setf h.setf.setf.setb

theorem State.Stays.hostDone : s₀.Stays lim (s.hostDone r) := by
  refine h.within hl fun h => ?_
  fun_cases State.hostDone
  exacts [h.setRail.setf.setFw, h.setRail.setf, h]

omit hl in
theorem State.Stays.markArrival {t : Option Word64} : s₀.Stays lim (s.markArrival n r t) := by
  induction n generalizing s r with
  | zero => exact h
  | succ n ih =>
    unfold State.markArrival
    extract_lets x u
    have hu : s₀.Stays lim u := .ite h.setRail (.ite h.setRail h)
    exact hu.foldl fun _ _ hs => ih hs

theorem State.Stays.setTarget {z : Int} : s₀.Stays lim (s.setTarget r z) := by
  refine h.within hl fun h => ?_
  unfold State.setTarget
  exact .setb (.ite h h.setRail.markArrival)

theorem State.Stays.recompose : s₀.Stays lim (s.recompose r) := by
  unfold State.recompose
  exact .ite ((h.showEff hl).setTarget hl) (h.showEff hl)

theorem State.Stays.propagate : s₀.Stays lim (s.propagate n r) := by
  refine h.within hl fun hs => ?_
  clear h hl
  induction n generalizing s r with
  | zero => exact hs
  | succ n ih =>
    refine hs.foldl fun u q hu => ?_
    extract_lets lead x k u1 own u2 u3 u4 m
    have ih {t : State} {q : Nat} (ht : s.Stays 0x9000 t) : s.Stays 0x9000 (t.propagate n q) := ht.trans (ih .refl)
    have hu4 : s.Stays 0x9000 u4 := hu.setRail.markArrival.setf.setf.showSet.showEff
    split
    · exact .ite hu (ih hu.setRail.showSet.showEff)
    · exact .ite (.ite (ih (.ite hu4 hu4.hostDone)) (ih hu.setRail.showSet)) (.ite (ih hu.setRail.showSet) hu)

theorem State.Stays.railPut : s₀.Stays lim (s.railPut r n) := by
  refine h.within hl fun h => ?_
  unfold State.railPut State.noteRail
  exact .log (.setRail (.ite h.setf h.setf.setf))

theorem State.Stays.railStart1 : s₀.Stays lim (s.railStart1 r) := by
  refine h.within hl fun h => ?_
  unfold State.railStart1
  exact .phasesStart (.showSet (.ite h.railPut.setRail.setb.setf.showEff h.railPut.setRail.setb.setf.showEff.setTarget))

theorem State.Stays.railStart {b : Bool} : s₀.Stays lim (s.railStart n r b) := by
  induction n generalizing s r with
  | zero => exact h
  | succ n ih => exact ((h.railStart1 hl).foldl fun _ _ hs => .ite (ih hs) hs).propagate hl

theorem State.Stays.railStop : s₀.Stays lim (s.railStop n r) := by
  refine h.within hl fun hs => ?_
  clear h hl
  induction n generalizing s r with
  | zero => exact hs
  | succ n ih =>
    exact .ite (hs.railPut.setRail.setb.setTarget.railWentOff.foldl fun _ _ hu => hu.trans (ih .refl)) hs

theorem State.Stays.railOffNow : s₀.Stays lim (s.railOffNow r) := by
  refine h.within hl fun h => ?_
  unfold State.railOffNow
  exact h.railPut.setRail.setf.setf.setf.showSet.showEff

theorem State.Stays.onWritten1 : s₀.Stays lim (s.onWritten1 r) :=
  h.within hl fun h => .ite h (.ite (.ite h.fault h.setf.railStart) (.ite h.setf.setf h.setf))

theorem State.Stays.onWritten0 : s₀.Stays lim (s.onWritten0 r) := by
  refine h.within hl fun h => ?_
  have hoff : s.Stays 0x9000 ((s.setf F.RAILr_CTRL_ON r 0).offWhenQuiet r) := .ite h.setf.railOffNow h.setf.setRail
  fun_cases State.onWritten0
  exacts [h.setf.railStop, h.setf.railStop, h.setf.setf, hoff, hoff, h.setf]

theorem State.Stays.writeOn {b : Bool} : s₀.Stays lim (s.writeOn r b) := .ite h (.ite (h.onWritten1 hl) (h.onWritten0 hl))

theorem State.Stays.railsSafe : s₀.Stays lim s.railsSafe :=
  h.foldl fun _ _ hs => .ite ((hs.recompose hl).onWritten0 hl) (hs.recompose hl)

end

/-! ### The sequencer (R216 to R219) -/

section
variable {r : Nat} {b : Bool} {slot : Option Nat} (hl : lim ≤ 0x8004 := by decide)
include hl

omit hl in
theorem State.Stays.seqOutcome : s₀.Stays lim (s.seqOutcome slot b) := by
  fun_cases State.seqOutcome
  exacts [h.setFw, h]

theorem State.Stays.seqBegin {t : List Word} {n : Nat} {a : Bool} : s₀.Stays lim (s.seqBegin b t n a slot) := by
  refine h.within hl fun h => ?_
  unfold State.seqBegin
  exact h.setSeq.setf.setf

theorem State.Stays.seqEnd : s₀.Stays lim s.seqEnd := by
  refine h.within hl fun h => ?_
  unfold State.seqEnd
  exact .ite (.ite h.setf.setSeq.seqOutcome (.ite h.setf.setSeq.seqOutcome h)) h

theorem State.Stays.toZero : s₀.Stays lim (s.toZero r) :=
  h.within hl fun h => .ite h.setf.setRail.setTarget h

theorem State.Stays.seqRequest : s₀.Stays lim (s.seqRequest b slot) := by
  refine h.within hl fun h => ?_
  unfold State.seqRequest
  extract_lets +onlyGivenNames _ _ _ u
  have hu : s.Stays 0x8004 u := .ite h.seqOutcome h
  refine .ite h.setf.seqOutcome (.ite ?_ (.ite ?_ ?_))
  · exact .ite h.setf.seqOutcome.setSeq (.ite h.seqOutcome.setSeq h.seqBegin.seqEnd)
  · exact .ite h.setSeq h.seqOutcome.setSeq
  · exact .seqEnd (.ite (hu.seqBegin.foldl fun _ _ hs => hs.toZero) hu.seqBegin)

end

end

end Sys2Proof.Machine
end

section
/-! SUPPORT. What the operations on domains leave alone: none writes the journal or a register below the directory's. -/
namespace Sys2Proof.Machine
open Sys2Proof

set_option Elab.async false

/-- An offset of which a filter keeps every entry reads the same. -/
theorem Tab.get_filter_kept {α : Type} {d : α} {t : Tab α} {p : Nat × α → Bool} {a : Nat} (hp : ∀ v, p (a, v) = true) :
    Tab.get d (t.filter p) a = Tab.get d t a := by
  induction t with
  | nil => rfl
  | cons e r ih =>
    obtain ⟨j, v⟩ := e
    by_cases hj : j = a
    · subst hj
      simp [hp, Tab.get]
    · cases hq : p (j, v) <;> simp [hq, Tab.get, hj, ih]

variable {s₀ s : State}

section
variable (h : State.Stays 0x5000 s₀ s)
include h

/-! ### Stations and clusters in a domain's steps (R74, R85, R137) -/

section
variable {n c v : Nat}

theorem State.Stays.setClick {x : ClickSt} : s₀.Stays 0x5000 (s.setClick n x) := h.upd

theorem State.Stays.addDrained : s₀.Stays 0x5000 (s.addDrained v) := .ite h.upd h.upd

theorem State.Stays.setBucket {p : Nat} : s₀.Stays 0x5000 (s.setBucket n p v) := .ite h.setf h.setf

theorem State.Stays.drainStation : s₀.Stays 0x5000 (s.drainStation n) := by
  unfold State.drainStation
  exact h.setStation.setClick.addDrained.setBucket.setBucket

theorem State.Stays.flushStation : s₀.Stays 0x5000 (s.flushStation n) := by
  unfold State.flushStation
  exact h.setFw.setStation.addDrained

theorem State.Stays.chargeJob {m : Nat} : s₀.Stays 0x5000 (s.chargeJob m v) := by
  have hclear : s₀.Stays 0x5000 (s.applyJobClear m) := by
    unfold State.applyJobClear
    exact .ite h.upd.setPair.telem.setf h
  unfold State.chargeJob
  exact .ite hclear.setPair.telem hclear.setPair

theorem State.Stays.settleStation : s₀.Stays 0x5000 (s.settleStation n) := by
  unfold State.settleStation
  exact h.setStation.chargeJob

theorem State.Stays.wakeStation : s₀.Stays 0x5000 (s.wakeStation n) := by
  unfold State.wakeStation
  exact h.setStation.setClick.setBucket.setBucket

theorem State.Stays.clearWaits : s₀.Stays 0x5000 (s.clearWaits c) := by
  refine h.foldl fun u n hu => ?_
  split
  · exact .ite hu.setf hu
  · exact hu

theorem State.Stays.weltWake : s₀.Stays 0x5000 (s.weltWake c) := by
  unfold State.weltWake
  exact h.setWelt.setf.setf.clearWaits

theorem State.Stays.rollEpoch : s₀.Stays 0x5000 (s.rollEpoch c) := by
  unfold State.rollEpoch
  exact .ite h (.ite h.setWelt h.setf.setWelt.upd)

theorem State.Stays.noteOn : s₀.Stays 0x5000 (s.noteOn c) := .ite h.setWelt h

end

/-! ### Islands that lose their supply (R327, R503) -/

theorem State.Stays.slotOutcome {slot : Option Nat} {v : Nat} : s₀.Stays 0x5000 (s.slotOutcome slot v) := by
  fun_cases State.slotOutcome
  exacts [h, h.setFw]

theorem State.Stays.dropRelays : s₀.Stays 0x5000 s.dropRelays := by
  unfold State.dropRelays
  exact h.upd.foldl fun _ _ hs => hs.slotOutcome

theorem State.Stays.clrIsland {lo hi : Nat} (hlo : 0x5000 ≤ lo := by decide) : s₀.Stays 0x5000 (s.clrIsland lo hi) := by
  refine ⟨fun a ha d => Eq.trans (Tab.get_filter_kept fun v => ?_) (h.get a ha d), h.journal⟩
  simp [show ¬ lo ≤ a by omega]

theorem State.Stays.islandLost {d : Nat} : s₀.Stays 0x5000 (s.islandLost d) := by
  fun_cases State.islandLost
  exacts [h.dropRelays.clrIsland.upd, h.clrIsland.clrIsland.upd, h.clrIsland.upd, h]

theorem State.Stays.dropRegions : s₀.Stays 0x5000 s.dropRegions := by
  have hfree : s₀.Stays 0x5000 (s.freeTiles 0x50 fun n => s.trc.regions.any fun (r : Region) => r.number == n) :=
    h.foldl fun _ _ hs => .ite hs.upd hs
  unfold State.dropRegions
  exact hfree.upd.traced State.Traced.refl.showRegions

/-! ### Requests, routes and steps (R329 to R342) -/

section
variable {d t cp src step : Nat} {slot : Option Nat}

theorem State.Stays.showReq : s₀.Stays 0x5000 (s.showReq d t) := .ite h h.setf

theorem State.Stays.recordRefusal {cause refuser : Nat} {abort : Bool} :
    s₀.Stays 0x5000 (s.recordRefusal d cause refuser abort slot) := by
  fun_cases State.recordRefusal
  exacts [h.showReq.slotOutcome, .setf (.setf (.setb (.ite h.showReq.slotOutcome.incf h.showReq.slotOutcome.incf)))]

theorem State.Stays.putTarget : s₀.Stays 0x5000 (s.putTarget d t) := by
  unfold State.putTarget
  exact .setf (.ite h.setf (.ite h.setf h))

theorem State.Stays.putPending : s₀.Stays 0x5000 (s.putPending d t) := by
  unfold State.putPending
  exact h.setf.setb

theorem State.Stays.showWakeHeld : s₀.Stays 0x5000 s.showWakeHeld := h.setb

theorem State.Stays.flushSeams : s₀.Stays 0x5000 (s.flushSeams d) := by
  unfold State.flushSeams
  split
  · exact h
  · extract_lets +onlyGivenNames u
    have hu : s₀.Stays 0x5000 u := h.foldl fun _ _ hs => .ite hs hs.setSeam
    exact .ite hu.flushStation (.ite hu.setCluster hu)

theorem State.Stays.stepAction : s₀.Stays 0x5000 (s.stepAction d step) := by
  unfold State.stepAction
  extract_lets +onlyGivenNames _ u1 u2 u3
  have hu1 : s₀.Stays 0x5000 u1 := .ite h.drainStation h
  have hu2 : s₀.Stays 0x5000 u2 := .ite h.flushSeams h
  have hu3 : s₀.Stays 0x5000 u3 := .ite hu2.settleStation hu2
  refine .ite (.ite h.writeOn (.ite h.writeOn h)) ?_
  split
  · exact .ite hu1.dropRegions hu1
  · exact hu3.setDom
  · exact h.setDom
  · exact h.flushSeams.setDom
  · exact h.setDom
  · exact h.setDom
  · exact h.setDom
  · exact h

theorem State.Stays.putStep : s₀.Stays 0x5000 (s.putStep d step) := .ite h.rollEpoch.setf.noteOn (.ite h.setf.hang h.setf)

theorem State.Stays.beginStep : s₀.Stays 0x5000 (s.beginStep d step) := by
  unfold State.beginStep
  exact h.setDom.putStep.stepAction

theorem State.Stays.reach : s₀.Stays 0x5000 (s.reach d cp) := by
  unfold State.reach
  extract_lets +onlyGivenNames _ u1 u2 u3 _ u4 u5 _ u6
  have hu1 : s₀.Stays 0x5000 u1 := h.putTarget.putStep
  have hu2 : s₀.Stays 0x5000 u2 := .ite hu1 hu1.showReq
  have hu3 : s₀.Stays 0x5000 u3 := hu2.slotOutcome
  have hu4 : s₀.Stays 0x5000 u4 := .ite hu3.setDom.wakeStation hu3.setDom
  have hu5 : s₀.Stays 0x5000 u5 := .ite hu4.weltWake hu4
  have hu6 : s₀.Stays 0x5000 u6 := .ite hu5.upd hu5
  exact .ite (.ite hu6.upd hu6) hu3.setDom

theorem State.Stays.powerLost : s₀.Stays 0x5000 (s.powerLost d cp) := by
  unfold State.powerLost
  exact .ite (.ite h.islandLost.setDom.setStation h.islandLost.setDom) h.islandLost

theorem State.Stays.wakeSrc : s₀.Stays 0x5000 (s.wakeSrc d src) := .ite h h.setf

theorem State.Stays.startWake : s₀.Stays 0x5000 (s.startWake d slot) := h.setDom.putTarget.beginStep

theorem State.Stays.beginWake {n : Nat} : s₀.Stays 0x5000 (s.beginWake n d src slot) := by
  induction n generalizing s d src slot with
  | zero =>
    unfold State.beginWake
    exact .ite h.wakeSrc.setDom.putPending.showWakeHeld h.wakeSrc.startWake
  | succ k ih =>
    unfold State.beginWake
    extract_lets u1 _ u2
    have hu1 : s₀.Stays 0x5000 u1 := h.wakeSrc
    refine .ite hu1.setDom.putPending.showWakeHeld ?_
    split
    · next e _ =>
      cases e
      have hu2 : s₀.Stays 0x5000 u2 := hu1.setDom.setf
      exact .ite hu1.startWake (.ite hu2.setDom.putPending (.ite hu2 (ih hu2)))
    · exact hu1.startWake

theorem State.Stays.wakeChildren : s₀.Stays 0x5000 (s.wakeChildren d) := h.foldl fun _ _ hs => hs.setf.beginWake

theorem State.Stays.takePending {old : Nat} : s₀.Stays 0x5000 (s.takePending d cp old) := by
  unfold State.takePending
  extract_lets +onlyGivenNames _ _ _ u1 u2 u3
  have hu1 : s₀.Stays 0x5000 u1 := h.putPending.showWakeHeld
  have hu2 : s₀.Stays 0x5000 u2 := hu1.slotOutcome
  have hu3 : s₀.Stays 0x5000 u3 := hu2.setDom.putTarget
  refine .ite h (.ite (.ite hu1.setDom.showReq.slotOutcome hu2.setDom) (.ite hu1.setDom.setf ?_))
  split
  · exact hu1.setDom.recordRefusal
  · exact .ite (State.Stays.wakeSrc hu3.upd).log hu3

theorem State.Stays.proceed : s₀.Stays 0x5000 (s.proceed d cp) := by
  unfold State.proceed
  extract_lets +onlyGivenNames u1 _ _ u2 u3
  have hu1 : s₀.Stays 0x5000 u1 := .ite h.powerLost h
  have hu2 : s₀.Stays 0x5000 u2 := .ite hu1.reach.wakeChildren hu1
  have hu3 : s₀.Stays 0x5000 u3 := hu2.takePending
  refine .ite hu1.setDom.setf (.ite hu1.beginStep (.ite hu3 ?_))
  split
  · exact hu3.beginStep
  · exact hu3.reach

end

theorem State.Stays.resumeHeld : s₀.Stays 0x5000 s.resumeHeld := by
  unfold State.resumeHeld
  refine .ite h ?_
  extract_lets +onlyGivenNames u
  have hu : s₀.Stays 0x5000 u := h.foldl fun _ _ hs => hs.setDom.proceed
  exact .ite hu.setf.showWakeHeld (hu.setf.foldl fun _ _ hs => hs.setDom.putPending.beginWake).showWakeHeld

end

/-! ### Safe state ends (R448) -/

theorem State.safeLeave_stays (s : State) : (s.setf F.FLT_STATUS_SAFE 0 0).Stays 0x5000 s.safeLeave := by
  have h : (s.setf F.FLT_STATUS_SAFE 0 0).Stays 0x5000 (s.setf F.FLT_STATUS_SAFE 0 0) := .refl
  unfold State.safeLeave State.showPins
  exact h.upd.upd.log.clampSet.railsSafe.setf.resumeHeld

theorem State.journal_safeLeave (s : State) : s.safeLeave.eye.journal = s.eye.journal := s.safeLeave_stays.journal

theorem State.safe_safeLeave (s : State) : s.safeLeave.safe = false :=
  (s.safeLeave_stays.on (by decide)).trans (State.on_setf_same _ _ _ _ (by decide))

end Sys2Proof.Machine
end

section
/-! SUPPORT. WINDOW_OPEN, WINDOW_CLOSE and SAFE_EXIT at their execution (R322, R386, R448). -/
namespace Sys2Proof.Machine
open Sys2Proof

set_option Elab.async false

variable {s₀ s : State} {e : JEnt}

/-! ### A reply leaves the registers of the machine alone -/

theorem Reg.at_ne_chanStatus {q : Reg} {i : Nat} (h : q.at i % 32 ≠ 16) (c : Nat) : q.at i ≠ R.EYEc_STATUS.at c := by
  intro heq
  have hc : R.EYEc_STATUS.at c = 0x1110 + 0x20 * c := rfl
  omega

theorem State.f_doneNow (s : State) {x : Fld} {i : Nat} (k v : Nat) (hc : x.reg.at i ≠ R.EYE_CENSUS.at 0 := by decide)
    (hs : x.reg.at i % 32 ≠ 16 := by decide) : (s.doneNow k v).f x i = s.f x i :=
  State.f_of_rd (s.rd_doneNow k v hc (Reg.at_ne_chanStatus hs))

/-! ### The collective window (R322 to R324) -/


theorem State.Stays.coreCaps (h : State.Stays 0x54000 s₀ s) {n : Nat} : s₀.Stays 0x54000 (s.coreCaps n) := by
  unfold State.coreCaps
  exact h.setb.setb.setb.setb

theorem State.Stays.applyAllCaps {lim : Nat} (h : State.Stays lim s₀ s) : s₀.Stays lim s.applyAllCaps :=
  h.foldl fun _ _ hs => hs.upd.foldl fun _ _ hu => .ite hu hu.setStation

/-- The backstops of every core follow the window. -/
def State.backstopped (s : State) : State := allCores.foldl State.coreCaps s.windowClusters

theorem State.Stays.backstopped (s : State) : s.Stays 0x54000 s.backstopped := by
  have hw : s.Stays 0x54000 s.windowClusters := State.Stays.refl.upd
  exact hw.foldl fun _ _ hs => hs.coreCaps

theorem State.Stays.thermalCaps (s : State) : s.Stays 0x50024 s.thermalCaps :=
  ((State.Stays.backstopped s).mono (by decide)).setf.applyAllCaps

theorem State.rd_thermalCaps (s : State) : s.thermalCaps.rd R.THM_WIN_STATUS 0 = s.rd R.THM_WIN_STATUS 0 :=
  calc s.thermalCaps.rd R.THM_WIN_STATUS 0
    _ = s.backstopped.countBackstops.rd R.THM_WIN_STATUS 0 := (State.Stays.refl (lim := 0x54000)).applyAllCaps.rd (by decide)
    _ = s.backstopped.rd R.THM_WIN_STATUS 0 := State.rd_setf_other _ _ _ (by decide)
    _ = s.rd R.THM_WIN_STATUS 0 := (State.Stays.backstopped s).rd (by decide)

/-- The window's new state stands in its register, and the rest of the register is as before. -/
theorem State.winPut_fields (s : State) (st : Nat) : (s.winPut st).f F.THM_WIN_STATUS_STATE = st % 4 ∧
    (s.winPut st).f F.THM_WIN_STATUS_WIN_ID = s.f F.THM_WIN_STATUS_WIN_ID ∧ (s.winPut st).eye.journal = s.eye.journal := by
  have hlog : ((s.setf F.THM_WIN_STATUS_STATE 0 st).log 0x4101 0 (s.f F.THM_WIN_STATUS_WIN_ID)).rd R.THM_WIN_STATUS 0 =
      (s.setf F.THM_WIN_STATUS_STATE 0 st).rd R.THM_WIN_STATUS 0 := (State.Traced.refl.log).rd (by decide)
  have hrd : (s.winPut st).rd R.THM_WIN_STATUS 0 = (s.setf F.THM_WIN_STATUS_STATE 0 st).rd R.THM_WIN_STATUS 0 :=
    (State.rd_thermalCaps _).trans hlog
  have hst : (s.setf F.THM_WIN_STATUS_STATE 0 st).f F.THM_WIN_STATUS_STATE = st % 4 := State.f_setf_same _ _ _ _ (by decide)
  refine ⟨(State.f_of_rd (x := F.THM_WIN_STATUS_STATE) hrd).trans hst,
    (State.f_of_rd (x := F.THM_WIN_STATUS_WIN_ID) hrd).trans (State.f_setf_beside _ _ _), ?_⟩
  have h : s.Stays 0x50024 s := .refl
  have hput : s.Stays 0x50024 (s.winPut st) := State.Stays.trans (State.Stays.log (State.Stays.setf h)) (State.Stays.thermalCaps _)
  exact hput.journal

/-- Another open window is opened under the identifier given (R322). -/
theorem State.winOpen_fields (s : State) (id dur : Nat) (crit : List Nat) (h : s.f F.THM_WIN_STATUS_STATE = 0) :
    (s.winOpen id dur crit).f F.THM_WIN_STATUS_STATE = 1 ∧ (s.winOpen id dur crit).f F.THM_WIN_STATUS_WIN_ID = id % 65536 ∧
      (s.winOpen id dur crit).eye.journal = s.eye.journal := by
  unfold State.winOpen
  rw [h]
  simp only [decide_true, if_true]
  have hcrit : s.Stays 0x50040 ((List.range 32).foldl (fun s k => s.setf F.THM_WIN_CRITk_CRIT k (crit.getD k 0)) s) :=
    State.Stays.refl.foldl fun _ _ hs => hs.setf
  generalize (List.range 32).foldl (fun s k => s.setf F.THM_WIN_CRITk_CRIT k (crit.getD k 0)) s = u at hcrit
  generalize hv : State.setPair _ _ _ _ _ = v
  have hvj : v.eye.journal = s.eye.journal := by
    rw [← hv]
    exact hcrit.upd.setPair.journal
  obtain ⟨hst, hid, hj⟩ := ((v.setf F.THM_WIN_STATUS_WIN_ID 0 id).setf F.THM_WIN_STATUS_SLOW_SENT 0 0).winPut_fields 1
  refine ⟨hst, hid.trans ?_, hj.trans hvj⟩
  exact (State.f_setf_beside _ _ _).trans (State.f_setf_same _ _ _ _ (by decide))

theorem State.windowOpen_completes (hr : s.runs 0x30 e) (h : s.f F.THM_WIN_STATUS_STATE = 0) :
    Completes .windowOpen s fun t => t.f F.THM_WIN_STATUS_STATE = 1 ∧ t.f F.THM_WIN_STATUS_WIN_ID = e.seq % 65536 ∧
      ∃ n, t.done e n := by
  refine .of_command hr rfl ?_
  obtain ⟨hst, hid, hj⟩ := s.winOpen_fields e.seq (e.arg.toNat % 65536 * 10000) (s.pageCrit e.ch) h
  unfold State.windowOpenCmd
  exact ⟨(State.f_doneNow _ _ _).trans hst, (State.f_doneNow _ _ _).trans hid, _,
    State.done_doneNow ((State.jent?_of_journal hj _).trans hr.jent) hr.final _⟩

theorem State.windowClose_completes (hr : s.runs 0x31 e) (h : s.winLive = true) :
    Completes .windowClose s fun t => t.f F.THM_WIN_STATUS_STATE = 0 ∧ t.done e (s.winLeft / 1000) := by
  refine .of_command hr rfl ?_
  obtain ⟨hst, -, hj⟩ := s.winPut_fields 0
  unfold State.windowCloseCmd State.winClose
  simp only [h, if_true]
  exact ⟨(State.f_doneNow _ _ _).trans hst,
    State.done_doneNow ((State.jent?_of_journal hj _).trans hr.jent) hr.final _⟩

/-! ### SAFE_EXIT (R448) -/

theorem State.safeExit_completes (hr : s.runs 0x62 e) (h : s.safe = true) (hx : s.safeExitRefused = none) :
    Completes .safeExit s fun t => t.safe = false ∧ t.done e 0 := by
  refine .of_command hr rfl ?_
  unfold State.safeExitCmd
  rw [h, hx]
  simp only [Option.isNone_none, Bool.and_self, if_true]
  refine ⟨?_, State.done_doneNow ((State.jent?_of_journal s.journal_safeLeave _).trans hr.jent) hr.final _⟩
  exact (State.on_of_rd (State.rd_doneNow _ _ _ (by decide) (Reg.at_ne_chanStatus (by decide)))).trans s.safe_safeLeave

end Sys2Proof.Machine
end

section
/-! SUPPORT. TRACE_TRIGGER: a trigger is counted once, whatever becomes of its marker and its region (R500 to R502). -/
namespace Sys2Proof.Machine
open Sys2Proof

set_option Elab.async false

variable {s₀ s : State}

/-- From `s₀` to `s` the counts of triggers and gaps did not change. -/
def State.CountKept (s₀ s : State) : Prop := s.rd R.TRC_COUNT 0 = s₀.rd R.TRC_COUNT 0

theorem State.CountKept.refl : s.CountKept s := rfl

theorem State.CountKept.ite {c : Prop} [Decidable c] {t : State} (hs : s₀.CountKept s) (ht : s₀.CountKept t) :
    s₀.CountKept (if c then s else t) := by
  split
  · exact hs
  · exact ht

theorem State.CountKept.foldl {β : Type} {f : State → β → State} {l : List β} (h : s₀.CountKept s)
    (hf : ∀ s x, s₀.CountKept s → s₀.CountKept (f s x)) : s₀.CountKept (l.foldl f s) :=
  List.foldlRecOn (motive := s₀.CountKept) l f h fun s hs x _ => hf s x hs

section
variable (h : s₀.CountKept s)
include h

theorem State.CountKept.of_regs {t : State} (hr : t.regs = s.regs := by rfl) : s₀.CountKept t := (State.rd_of_regs hr _ _).trans h

/-- A field of a register before the counts. -/
theorem State.CountKept.setf {x : Fld} {v : Nat} (hr : R.TRC_COUNT.at 0 ≠ x.reg.at 0 := by decide) : s₀.CountKept (s.setf x 0 v) :=
  (State.rd_setf_other _ _ _ hr).trans h

/-- A register of a block behind the counts. -/
theorem State.CountKept.wr {r : Reg} {i : Nat} {w : Word} (hr : R.TRC_COUNT.at 0 < r.off := by decide) : s₀.CountKept (s.wr r i w) :=
  (State.rd_wr_other _ _ (Reg.at_ne_of_lt hr)).trans h

theorem State.CountKept.placeTile {l : List Byte} : s₀.CountKept (s.placeTile l) := by
  unfold State.placeTile
  split
  · exact h
  · exact h.of_regs

theorem State.CountKept.patchTile {typ index i : Nat} {l : List Byte} : s₀.CountKept (s.patchTile typ index i l) := by
  unfold State.patchTile
  split
  · exact h
  · exact h.of_regs

theorem State.CountKept.trcPressure : s₀.CountKept s.trcPressure := by
  unfold State.trcPressure
  exact h.setf.setf

theorem State.CountKept.putPos {p : Nat} {v : BitVec 128} : s₀.CountKept (s.putPos p v) := by
  unfold State.putPos
  extract_lets +onlyGivenNames _ _ u1 u2
  have hu1 : s₀.CountKept u1 := h.of_regs
  have hu2 : s₀.CountKept u2 := .ite hu1.setf hu1
  exact hu2.setf.trcPressure

theorem State.CountKept.trcSeek : s₀.CountKept s.trcSeek := by
  unfold State.trcSeek
  refine .ite h ?_
  extract_lets u1 u2
  have hu1 : s₀.CountKept u1 := h.of_regs
  have hu2 : s₀.CountKept u2 := .ite hu1.setf hu1
  exact hu2.setf

theorem State.CountKept.putRec {r : TraceRec} {t : State} (e : s.putRec r = some t) : s₀.CountKept t := by
  replace h := h.trcSeek
  simp only [State.putRec] at e
  generalize s.trcSeek = v at e h
  split at e
  · exact Option.some.inj e ▸ h
  · split at e
    · exact Option.some.inj e ▸ h.putPos
    · cases e
  · split at e
    · cases e
    · next u hu =>
      replace hu : s₀.CountKept u := by
        split at hu
        · split at hu
          · exact Option.some.inj hu ▸ h.putPos.trcSeek
          · cases hu
        · exact Option.some.inj hu ▸ h
      split at e
      · exact Option.some.inj e ▸ hu.putPos.putPos
      · cases e

theorem State.CountKept.showRegions : s₀.CountKept s.showRegions := by
  unfold State.showRegions
  refine State.CountKept.setf (h.foldl fun _ _ hs => ?_)
  split
  · exact hs.wr.wr
  · exact hs.wr.wr.wr.wr.wr

theorem State.CountKept.completeRegions : s₀.CountKept s.completeRegions := by
  unfold State.completeRegions
  exact State.CountKept.showRegions (State.CountKept.of_regs (h.foldl fun _ _ hs => hs.patchTile))

end

/-- A trigger that is enabled while the island records is counted (R500). -/
theorem State.triggers_trigger (cause bit tag : Nat) (ht : s.tracing = true) (hb : s.bitf F.TRC_CTRL_TRIG_EN 0 bit = true) :
    (s.trigger cause bit tag).f F.TRC_COUNT_TRIGGERS = (s.f F.TRC_COUNT_TRIGGERS + 1) % 65536 := by
  have hcount : (s.completeRegions.incf F.TRC_COUNT_TRIGGERS 0).f F.TRC_COUNT_TRIGGERS = (s.f F.TRC_COUNT_TRIGGERS + 1) % 65536 := by
    rw [← State.f_of_rd (x := F.TRC_COUNT_TRIGGERS) (State.CountKept.refl.completeRegions : s.CountKept s.completeRegions)]
    exact State.f_setf_same _ _ _ _ (by decide)
  unfold State.trigger
  rw [if_pos (by rw [ht, hb]; rfl)]
  extract_lets u1 u2 _ _ put
  have h : u2.CountKept u2 := .refl
  have hput : ∀ s r, u2.CountKept s → u2.CountKept (put s r) := fun s r hs => by
    simp only [put]
    split
    · next e => exact hs.putRec e
    · exact hs.of_regs
  replace hcount : u2.f F.TRC_COUNT_TRIGGERS = _ := hcount
  clear_value u2 put
  refine Eq.trans (State.f_of_rd (x := F.TRC_COUNT_TRIGGERS) (?_ : u2.CountKept _)) hcount
  refine .ite (hput _ _ h) (.ite ?_ (hput _ _ h.setf))
  exact (hput _ _ (State.CountKept.placeTile h.trcSeek.of_regs)).showRegions.trcPressure

theorem State.traceTrigger_completes {e : JEnt} (hr : s.runs 0x52 e) (ht : s.tracing = true)
    (hb : s.bitf F.TRC_CTRL_TRIG_EN 0 0 = true) : Completes .traceTrigger s fun t =>
      t.f F.TRC_COUNT_TRIGGERS = (s.f F.TRC_COUNT_TRIGGERS + 1) % 65536 ∧ (t.hasEffect e false ∨ t.hasEffect e true) := by
  refine .of_command hr rfl ?_
  have hq : (s.hostTrigger (e.arg.toNat % 256)).1 = s.trigger 0x01 0 (e.arg.toNat % 256) := by
    unfold State.hostTrigger
    rw [ht]
    rfl
  have hcount := State.triggers_trigger 0x01 0 (e.arg.toNat % 256) ht hb
  have hj : (s.trigger 0x01 0 (e.arg.toNat % 256)).jent? e.slot = some e :=
    (State.jent?_of_journal (congrArg EyeSt.journal State.Traced.refl.trigger.eye) _).trans hr.jent
  unfold State.traceTriggerCmd
  dsimp only
  rw [hq]
  generalize s.trigger 0x01 0 (e.arg.toNat % 256) = u at hcount hj
  split
  · exact ⟨(State.f_of_rd (u.effect_regs_ne _ _ (by decide))).trans hcount,
      .inl (hr.final ▸ State.hasEffect_effect hj _)⟩
  · exact ⟨(State.f_doneNow _ _ _).trans hcount, .inr (State.done_doneNow hj hr.final _).2⟩

end Sys2Proof.Machine
end

section
/-! SUPPORT. The commands that reach the sequencer, a station, a sensor and the Lace (R104, R105, R219, R220, R387, R430, R444). -/
namespace Sys2Proof.Machine
open Sys2Proof

set_option Elab.async false

variable {s : State} {e : JEnt}

/-- What a command does after its effect leaves the entry as the effect left it. -/
theorem State.hasEffect_stays {t : State} {lim v : Nat} (hr : s.runs op e) (h : (s.effect e.slot v).Stays lim t) :
    t.hasEffect e false :=
  State.hasEffect_of_journal h.journal (hr.final ▸ State.hasEffect_effect hr.jent v)

/-! ### RAIL_ON while the sequencer runs, and SEQUENCE (R219, R220) -/

theorem State.railOn_waits (hr : s.runs 0x11 e) (h : s.seqBusy = true) :
    Completes .railOn s fun t => t.regs = s.regs ∧ t.eye.journal = s.eye.journal := by
  refine .of_command hr rfl ?_
  unfold State.railOnCmd
  rw [if_pos h]
  exact ⟨rfl, rfl⟩

theorem State.sequence_completes (hr : s.runs 0x12 e) :
    Completes .sequence s fun t => t.on F.SEQ_CTRL_UP = e.arg.getLsbD 0 ∧ t.hasEffect e false := by
  refine .of_command hr rfl ?_
  have h : ((s.effect e.slot 0).setb F.SEQ_CTRL_UP 0 (e.arg.getLsbD 0)).Stays 0x8004 (s.sequenceCmd e) :=
    State.Stays.refl.seqRequest
  refine ⟨(h.on (by decide)).trans (State.on_setb_same _ _ _ _ (by decide)), ?_⟩
  exact State.hasEffect_stays hr ((State.Stays.refl (lim := 0x8000)).setb.trans (h.mono (by decide)))

/-! ### SET_ROLE (R104) -/

theorem State.roleWrite_fields (s : State) (n role : Nat) (slot : Option Nat) :
    (s.roleWrite n role slot).f F.CRDSn_ROLE_ROLE n = role % 4 ∧ (s.roleWrite n role slot).eye.journal = s.eye.journal := by
  have hrole : (s.setf F.CRDSn_ROLE_ROLE n role).f F.CRDSn_ROLE_ROLE n = role % 4 := State.f_setf_same _ _ _ _ (by decide)
  have hj : (s.setf F.CRDSn_ROLE_ROLE n role).eye.journal = s.eye.journal := rfl
  unfold State.roleWrite
  generalize s.setf F.CRDSn_ROLE_ROLE n role = u at hrole hj
  have hdrop : (u.dropPendingRole n).f F.CRDSn_ROLE_ROLE n = role % 4 ∧ (u.dropPendingRole n).eye.journal = s.eye.journal := by
    unfold State.dropPendingRole
    dsimp only
    split
    · exact ⟨(State.f_setf_beside _ _ _).trans hrole, hj⟩
    · exact ⟨(State.f_setf_beside _ _ _).trans hrole, hj⟩
  have hheld {u : State} (hu : u.f F.CRDSn_ROLE_ROLE n = role % 4 ∧ u.eye.journal = s.eye.journal) {x : StationSt} :
      ((u.setStation n x).setf F.CRDSn_ROLE_PENDING n 1).f F.CRDSn_ROLE_ROLE n = role % 4 ∧
        ((u.setStation n x).setf F.CRDSn_ROLE_PENDING n 1).eye.journal = s.eye.journal :=
    ⟨(State.f_setf_beside _ _ _).trans hu.1, hu.2⟩
  dsimp only
  split
  · split
    · exact hdrop
    · exact hheld hdrop
  · split
    · exact ⟨hrole, hj⟩
    · split
      · exact hheld ⟨hrole, hj⟩
      · have hactive : (u.setf F.CRDSn_ROLE_ACTIVE_ROLE n role).f F.CRDSn_ROLE_ROLE n = role % 4 :=
          (State.f_setf_beside _ _ _).trans hrole
        unfold State.changeRole
        generalize hv : u.setf F.CRDSn_ROLE_ACTIVE_ROLE n role = v at hactive
        have hcount : (v.incf F.CRDSn_ROLE_ROLE_EPOCH n).f F.CRDSn_ROLE_ROLE n = role % 4 :=
          (State.f_setf_beside v n _).trans hactive
        exact ⟨hcount, (congrArg (fun w : State => w.eye.journal) hv).symm.trans hj⟩

theorem State.setRole_completes (hr : s.runs 0x20 e) (h : s.takes R.CRDSn_ROLE (argCore e.arg.toNat) = true) :
    Completes .setRole s fun t => t.f F.CRDSn_ROLE_ROLE (argCore e.arg.toNat) = e.arg.toNat % 4 ∧ t.hasEffect e false := by
  refine .of_command hr rfl ?_
  unfold State.setRoleCmd
  rw [if_pos h]
  obtain ⟨hrole, hj⟩ := s.roleWrite_fields (argCore e.arg.toNat) (e.arg.toNat % 4) (some e.slot)
  have hent := (State.jent?_of_journal hj e.slot).trans hr.jent
  refine ⟨(State.f_of_rd (State.effect_regs_ne _ _ _ ?_)).trans (hrole.trans (Nat.mod_mod _ _)),
    hr.final ▸ State.hasEffect_effect hent _⟩
  exact (Reg.at_ne_of_lt (by decide)).symm

/-! ### Unit messages (R105) -/

theorem State.sendUnit_fields (s : State) (e : JEnt) (code arg : Nat) :
    (s.sendUnit e code arg).eye.fw.unitCmds = s.eye.fw.unitCmds ++ [{
      core := argCore e.arg.toNat, slot := e.slot, word := unitWord (argEpoch e.arg.toNat) code arg }] ∧
      (s.sendUnit e code arg).eye.journal = s.eye.journal := ⟨rfl, rfl⟩

theorem State.unitMessage_completes {i : Instr} {op code : Nat} {arg : JEnt → Nat} (hr : s.runs op e)
    (hx : exec i s = .next (s.command op fun e s => s.sendUnit e code (arg e))) : Completes i s fun t =>
      t.eye.fw.unitCmds = s.eye.fw.unitCmds ++ [{
        core := argCore e.arg.toNat, slot := e.slot, word := unitWord (argEpoch e.arg.toNat) code (arg e) }] ∧
      t.eye.journal = s.eye.journal :=
  .of_command hr hx (s.sendUnit_fields e code (arg e))

/-! ### UNFENCE of a sensor (R444) -/

theorem State.unfenceSensor_completes {u : Nat} {bad : List Nat} (hr : s.runs 0x63 e)
    (hu : unfenceUnit e.arg.toNat = some (.sensor, u)) : Completes (.unfence bad) s fun t =>
      Tab.get false t.flt.fencedSensors u = false ∧ (t.sens u).broken = true ∧ (t.sens u).unbreak = true ∧ t.hasEffect e false := by
  refine .of_command hr rfl ?_
  unfold State.unfenceCmd
  rw [hu]
  have hset (v : State) : (v.readmitUnit .sensor u e.slot).sens u = { v.sens u with broken := true, unbreak := true } := by
    unfold State.readmitUnit State.sens State.setSens
    exact Tab.get_set_same _ _ _ _
  refine ⟨?_, ?_, ?_, ?_⟩
  · exact Tab.get_set_same false (s.effect e.slot 0).flt.fencedSensors u false
  · exact congrArg SensSt.broken (hset _)
  · exact congrArg SensSt.unbreak (hset _)
  · exact State.hasEffect_stays hr (State.Stays.refl (lim := 0)).setFw.upd.upd

/-! ### REMOTE (R430) -/

theorem State.remote_completes (hr : s.runs 0x80 e) (hlen : s.lace.relays.length < 16)
    (hm : s.memberMap.testBit (e.arg.toNat % 64) = true) : Completes .remote s fun t =>
      (∃ r, t.lace.relays = s.lace.relays ++ [r] ∧ r.slot = e.slot ∧ r.site = e.arg.toNat % 64 ∧
        r.word = BitVec.ofNat 64 (leNat (s.pageBytes e.ch 0 8))) ∧ t.hasEffect e false := by
  refine .of_command hr rfl ?_
  have hsend (v : State) (m : LaceMsg) : (v.laceSend m).lace.relays = v.lace.relays ∧ (v.laceSend m).eye = v.eye := by
    unfold State.laceSend
    extract_lets
    split
    · exact ⟨rfl, rfl⟩
    · exact ⟨rfl, rfl⟩
  unfold State.remoteCmd State.sendRelay
  dsimp only
  rw [if_neg (Nat.not_le.mpr hlen), if_neg (by simp [hm])]
  refine ⟨⟨_, (hsend _ _).1, rfl, rfl, rfl⟩, State.hasEffect_of_journal (congrArg EyeSt.journal (hsend _ _).2) ?_⟩
  exact State.hasEffect_stays hr (State.Stays.refl (lim := 0)).upd.setf

end Sys2Proof.Machine
end

section
/-! SUPPORT. FW_ACTIVATE: the warm reset keeps the journal and the slot to be activated (R387, R525, R562). -/
namespace Sys2Proof.Machine
open Sys2Proof

set_option Elab.async false

variable {s₀ s : State}

/-- From `s₀` to `s` neither the journal nor the slot to be activated changed. -/
structure State.EntriesKept (s₀ s : State) : Prop where
  journal : s.eye.journal = s₀.eye.journal
  activating : s.eye.fw.activating = s₀.eye.fw.activating

section
variable (h : s₀.EntriesKept s)
include h

theorem State.EntriesKept.upd {pending regs shadow free served rsp time seams islands flt trc sec rst tele crd welt ph rails loop lasts
    thm pwr lace trd} : s₀.EntriesKept (State.mk pending regs shadow free served rsp time seams islands s.eye flt trc sec rst tele crd
      welt ph rails loop lasts thm pwr lace trd) := ⟨h.journal, h.activating⟩

theorem State.EntriesKept.traced {t : State} (g : s.Traced t) : s₀.EntriesKept t :=
  ⟨by rw [g.eye, h.journal], by rw [g.eye, h.activating]⟩

theorem State.EntriesKept.foldl {β : Type} {f : State → β → State} {l : List β} (hf : ∀ s x, s₀.EntriesKept s → s₀.EntriesKept (f s x)) :
    s₀.EntriesKept (l.foldl f s) :=
  List.foldlRecOn (motive := s₀.EntriesKept) l f h fun u hu x _ => hf u x hu

theorem State.EntriesKept.dropRegions : s₀.EntriesKept s.dropRegions := by
  have hfree : s₀.EntriesKept (s.freeTiles 0x50 fun n => s.trc.regions.any fun (r : Region) => r.number == n) := by
    refine h.foldl fun _ _ hs => ?_
    split
    · exact hs.upd
    · exact hs
  unfold State.dropRegions
  exact hfree.upd.traced State.Traced.refl.showRegions

theorem State.EntriesKept.dropRelays : s₀.EntriesKept s.dropRelays := by
  unfold State.dropRelays
  exact h.upd.foldl fun _ _ hs => ⟨hs.journal, hs.activating⟩

theorem State.EntriesKept.islandLost {d : Nat} : s₀.EntriesKept (s.islandLost d) := by
  have hlace := h.dropRelays
  fun_cases State.islandLost
  exacts [hlace.upd, h.upd, h.upd, h]

theorem State.EntriesKept.keepDomains {old : State} : s₀.EntriesKept (s.keepDomains old) := h.foldl fun _ _ hs => hs.upd

theorem State.EntriesKept.teleZero {gone : Nat → Bool} : s₀.EntriesKept (s.teleZero gone) := by
  refine h.foldl fun _ _ hs => ?_
  split
  · exact hs.upd
  · exact hs

end

theorem State.eye_resetNoted (v : State) (cause : Nat) : (v.resetNoted cause).eye = v.eye := by
  unfold State.resetNoted
  extract_lets
  split
  · rfl
  · rfl

/-- The state under a name, so that a check by evaluation stops at it. -/
theorem State.EntriesKept.generalized (h : s₀.EntriesKept s) : ∃ v, s₀.EntriesKept v ∧ v = s := ⟨s, h, rfl⟩

/-- The reset stops the firmware. -/
theorem State.warmReset_entries (s : State) (cause : Nat) :
    s.EntriesKept (s.warmReset cause) ∧ (s.warmReset cause).eye.fw.running = false := by
  unfold State.warmReset
  extract_lets +onlyGivenNames _ u1 u2 u3
  have h1 : s.EntriesKept u1 := State.EntriesKept.dropRelays (.islandLost (.dropRegions ⟨rfl, rfl⟩))
  have h3 : s.EntriesKept u3 := State.EntriesKept.teleZero (.keepDomains h1.upd)
  clear_value u3
  obtain ⟨u3, h3, rfl⟩ := h3.generalized
  extract_lets +onlyGivenNames _ _ _ _ _ u4 _ u5
  have h5 := u5.eye_resetNoted cause
  refine ⟨⟨(congrArg EyeSt.journal h5).trans h3.journal, (congrArg (fun x : EyeSt => x.fw.activating) h5).trans h3.activating⟩, ?_⟩
  exact (congrArg (fun x : EyeSt => x.fw.running) h5)

theorem State.rd_putBoot (s : State) (counter slot : Nat) : (s.putBoot counter slot).rd R.FLT_STATUS 0 = s.rd R.FLT_STATUS 0 := by
  unfold State.putBoot
  exact State.rd_setf_other _ _ _ (by decide)

theorem State.fwActivate_completes {e : JEnt} {v slot : Nat} (hr : s.runs 0xF3 e) (hc : s.eye.fw.committed = some (v, slot)) :
    Completes .fwActivate s fun t => t.rst.warm = true ∧ t.rst.warmCause = 3 ∧ t.eye.fw.activating = some slot ∧
      t.eye.fw.running = false ∧ t.hasEffect e false := by
  refine .of_command hr rfl ?_
  unfold State.fwActivateCmd
  rw [hc]
  dsimp only [Option.map_some, Option.getD_some]
  have hup := hr.fwUp
  unfold State.fwUp at hup
  simp only [Bool.and_eq_true, Bool.not_eq_true'] at hup
  obtain ⟨⟨⟨-, hwarm⟩, hcold⟩, -⟩ := hup
  generalize hu : State.setFw _ _ = u
  have hcu : u.rst = s.rst := by rw [← hu]; rfl
  have hju : u.eye.journal = (s.effect e.slot 0).eye.journal := by rw [← hu]; rfl
  have hau : u.eye.fw.activating = some slot := by rw [← hu]; rfl
  have hsu : u.sag = false := by
    have hset (v : State) (x : FwSt) : (v.setFw x).sag = v.sag := rfl
    rw [← hu, hset]
    exact (State.on_of_rd (x := F.FLT_STATUS_SAG_ACTIVE) (State.rd_putBoot _ _ _)).trans
      ((State.on_of_rd (State.effect_regs_ne _ _ _ (by decide))).trans hr.sag)
  have hbegin := u.warmArises_begins (cause := 3) (hcu ▸ hcold) hsu (hcu ▸ hwarm) (by decide)
  have heq : u.warmArises 3 = u.warmReset 3 := by
    unfold State.warmArises
    rw [if_neg (by simp [hcu, hcold]), if_neg (by simp [hsu]), if_neg (by simp [hcu, hwarm])]
  rw [heq] at hbegin ⊢
  obtain ⟨hkept, hrun⟩ := u.warmReset_entries 3
  exact ⟨hbegin.warm, hbegin.cause_eq, hkept.activating.trans hau, hrun,
    State.hasEffect_of_journal (hkept.journal.trans hju) (hr.final ▸ State.hasEffect_effect hr.jent 0)⟩

end Sys2Proof.Machine
end

section
/-! SUPPORT. RAIL_TARGET and RAIL_ON: what a rail's target and its stop leave of the rails' settings (R193 to R195, R214, R576). -/
namespace Sys2Proof.Machine
open Sys2Proof

set_option Elab.async false

variable {s₀ s : State} {e : JEnt} {r : Nat}

/-! ### Fields of the rails' blocks -/

/-- Two fields of the rails' blocks share no bit, whatever their instances. -/
abbrev Fld.RailApart (x y : Fld) : Prop := x.reg.stride = 0x80 ∧ y.reg.stride = 0x80 ∧
  (x.reg.off % 0x80 ≠ y.reg.off % 0x80 ∨
    (x.reg.off = y.reg.off ∧ (∀ r < 8, y.reg.rst r = x.reg.rst r) ∧ x.ok ∧ (y.lo + y.len ≤ x.lo ∨ x.lo + x.len ≤ y.lo)))

theorem Fld.RailApart.apart {x y : Fld} (h : Fld.RailApart x y) (hr : r < 8) (i : Nat) : Fld.Apart x i y r := by
  obtain ⟨hx, hy, hoff⟩ := h
  have hxi : x.reg.at i = x.reg.off + 0x80 * i := by rw [← hx]; rfl
  have hyr : y.reg.at r = y.reg.off + 0x80 * r := by rw [← hy]; rfl
  obtain hne | ⟨heq, hrst, hok, hdis⟩ := hoff
  · exact .inl (by omega)
  · by_cases hi : i = r
    · exact .inr ⟨hi ▸ hrst r hr, hok, hdis⟩
    · exact .inl (by omega)

/-- From `s₀` to `s` rail `r` keeps ON and its host target, and goes on stopping where it stops. -/
structure State.RailKept (r : Nat) (s₀ s : State) : Prop where
  on : s.on F.RAILr_CTRL_ON r = s₀.on F.RAILr_CTRL_ON r
  code : s.f F.RAILr_TARGET_CODE r = s₀.f F.RAILr_TARGET_CODE r
  stopping : s₀.railSt r = 3 → s.railSt r = 3

/-- A field that no statement about a rail's ON, target or state reads. -/
abbrev Fld.RailQuiet (x : Fld) : Prop :=
  x.RailApart F.RAILr_CTRL_ON ∧ x.RailApart F.RAILr_TARGET_CODE ∧ x.RailApart F.RAILr_STATUS_STATE

theorem State.RailKept.refl : s.RailKept r s := ⟨rfl, rfl, id⟩

theorem State.RailKept.trans {t : State} (h : State.RailKept r s₀ s) (g : s.RailKept r t) : s₀.RailKept r t :=
  ⟨g.on.trans h.on, g.code.trans h.code, fun hs => g.stopping (h.stopping hs)⟩

theorem State.RailKept.ite {c : Prop} [Decidable c] {t : State} (hs : s₀.RailKept r s) (ht : s₀.RailKept r t) :
    s₀.RailKept r (if c then s else t) := by
  split
  · exact hs
  · exact ht

section
variable (hr : r < 8)
include hr

theorem State.Stays.railKept (h : s₀.Stays 0xA000 s) : s₀.RailKept r s := by
  have hon : R.RAILr_CTRL.at r < 0xA000 := Reg.at_lt_of_le (k := 8) (by omega) (by decide)
  have hcode : R.RAILr_TARGET.at r < 0xA000 := Reg.at_lt_of_le (k := 8) (by omega) (by decide)
  have hst : R.RAILr_STATUS.at r < 0xA000 := Reg.at_lt_of_le (k := 8) (by omega) (by decide)
  exact ⟨h.on hon, h.f hcode, fun hs => (h.f hst).trans hs⟩

theorem State.railKept_setf {x : Fld} {i v : Nat} (hx : x.RailQuiet := by decide) : s.RailKept r (s.setf x i v) :=
  ⟨State.on_setf_apart _ _ (hx.1.apart hr i), State.f_setf_apart _ _ (hx.2.1.apart hr i),
    fun hs => (State.f_setf_apart _ _ (hx.2.2.apart hr i)).trans hs⟩

section
variable (h : s₀.RailKept r s)
include h

theorem State.RailKept.setf {x : Fld} {i v : Nat} (hx : x.RailQuiet := by decide) : s₀.RailKept r (s.setf x i v) :=
  h.trans (State.railKept_setf hr hx)

theorem State.RailKept.setb {x : Fld} {i : Nat} {b : Bool} (hx : x.RailQuiet := by decide) : s₀.RailKept r (s.setb x i b) :=
  h.setf hr hx

/-- An operation on phases, logs or records. -/
theorem State.RailKept.stays {t : State} (g : s.Stays 0xA000 t) : s₀.RailKept r t := h.trans (g.railKept hr)

/-! ### Targets (R194, R195, R202, R203) -/

theorem State.RailKept.showEff {q : Nat} : s₀.RailKept r (s.showEff q) := by
  unfold State.showEff
  exact .ite ((h.setf hr).setf hr) (((h.setf hr).setf hr).setb hr)

theorem State.RailKept.hostDone {q : Nat} : s₀.RailKept r (s.hostDone q) := by
  fun_cases State.hostDone
  exacts [((h.stays hr State.Stays.refl.setRail).setf hr).stays hr State.Stays.refl.setFw,
    (h.stays hr State.Stays.refl.setRail).setf hr, h]

theorem State.RailKept.setTarget {q : Nat} {z : Int} : s₀.RailKept r (s.setTarget q z) := by
  unfold State.setTarget
  exact .setb hr (.ite h (h.stays hr State.Stays.refl.setRail.markArrival))

theorem State.RailKept.recompose {q : Nat} : s₀.RailKept r (s.recompose q) := by
  unfold State.recompose
  exact .ite ((h.showEff hr).setTarget hr) (h.showEff hr)

/-! ### Stopping (R214) -/

/-- A rail that begins to stop. -/
theorem State.RailKept.railPut_stopping {q : Nat} : s₀.RailKept r (s.railPut q 3) := by
  have hput : s.RailKept r (s.setf F.RAILr_STATUS_STATE q 3) := by
    refine ⟨State.on_setf_apart _ _ (Fld.RailApart.apart (by decide) hr q), State.f_setf_apart _ _ (Fld.RailApart.apart (by decide) hr q),
      fun hs => ?_⟩
    by_cases hq : q = r
    · subst hq
      exact State.f_setf_same _ _ _ _ (by decide)
    · have hat : R.RAILr_STATUS.at r ≠ R.RAILr_STATUS.at q := by
        have hi (i : Nat) : R.RAILr_STATUS.at i = 0x9020 + 0x80 * i := rfl
        rw [hi, hi]
        omega
      exact (State.f_setf_reg _ _ hat).trans hs
  unfold State.railPut State.noteRail
  exact .stays hr (.stays hr (.ite (h.trans hput) ((h.trans hput).setf hr)) State.Stays.refl.setRail) State.Stays.refl.log

/-- What stopping a rail does behind its change of state. -/
theorem State.RailKept.retargeted {q : Nat} {x : RailSt} {b : Bool} :
    s₀.RailKept r ((((s.setRail q x).setb F.RAILr_STATUS_TRACKING q b).setTarget q 0).railWentOff q) :=
  ((((h.stays hr State.Stays.refl.setRail).setb hr).setTarget hr).stays hr State.Stays.refl.railWentOff)

theorem State.RailKept.railStop {n q : Nat} : s₀.RailKept r (s.railStop n q) := by
  induction n generalizing s q with
  | zero => exact h
  | succ n ih =>
    refine .ite ?_ h
    exact List.foldlRecOn (motive := s₀.RailKept r) _ _ ((h.railPut_stopping hr).retargeted hr) fun u hu _ _ => ih hu

end

/-- The rail itself stops. -/
theorem State.railStop_stops (n : Nat) (h : s.railOn r = true) : (s.railStop (n + 1) r).railSt r = 3 := by
  have hstop {u : State} (hu : u.railSt r = 3) {l : List Nat} : (l.foldl (fun s q => s.railStop n q) u).railSt r = 3 :=
    List.foldlRecOn (motive := fun t : State => t.railSt r = 3) _ _ hu fun t ht _ _ => (State.RailKept.refl.railStop hr).stopping ht
  have hput : (s.railPut r 3).railSt r = 3 := by
    have hset : (s.setf F.RAILr_STATUS_STATE r 3).railSt r = 3 := State.f_setf_same _ _ _ _ (by decide)
    have hpg : ((s.setf F.RAILr_STATUS_STATE r 3).setf F.RAILr_STATUS_PG r 0).railSt r = 3 := (State.f_setf_beside _ _ _).trans hset
    unfold State.railPut State.noteRail
    exact (State.Stays.log (State.Stays.refl (lim := 0xA000))).railKept hr |>.stopping hpg
  unfold State.railStop
  rw [if_pos h]
  exact hstop ((State.RailKept.refl.retargeted hr).stopping hput)

end

/-! ### RAIL_TARGET (R193, R203) -/

/-- Tracking is read from the tracking registers. -/
theorem State.trackMode_of_track {t : State} (h : ∀ q, t.rd R.RAILr_TRACK q = s.rd R.RAILr_TRACK q) (r : Nat) :
    t.trackMode r = s.trackMode r := by
  have hmode (q : Nat) : t.f F.RAILr_TRACK_MODE q = s.f F.RAILr_TRACK_MODE q := State.f_of_rd (h q)
  have hlead (q : Nat) : t.f F.RAILr_TRACK_LEADER q = s.f F.RAILr_TRACK_LEADER q := State.f_of_rd (h q)
  have hafter (n : Nat) : t.leaderAfter r n = s.leaderAfter r n := by
    induction n with
    | zero => rfl
    | succ k ih =>
      unfold State.leaderAfter
      rw [ih]
      cases s.leaderAfter r k with
      | none => rfl
      | some q => simp only [hmode, hlead]
  unfold State.trackMode State.trackBad
  simp only [hmode, hlead, hafter]

/-- The host target stands in its register (R193). -/
theorem State.setHost_fields (s : State) (hr : r < 8) (code : Nat) (slot : Option Nat) :
    (s.setHost r code slot).f F.RAILr_TARGET_CODE r = code % 4096 ∧ (s.setHost r code slot).eye.journal = s.eye.journal := by
  have hreplace : s.Stays 0x9000 (s.replaceHost r) := by
    have h : s.Stays 0x9000 s := .refl
    fun_cases State.replaceHost
    exacts [h.incf.setFw, h.incf, h]
  unfold State.setHost
  generalize s.replaceHost r = u at hreplace
  have hcode : (u.setf F.RAILr_TARGET_CODE r code).f F.RAILr_TARGET_CODE r = code % 4096 := State.f_setf_same _ _ _ _ (by decide)
  extract_lets _ w _ x y
  have hw : (u.setf F.RAILr_TARGET_CODE r code).RailKept r w := State.railKept_setf hr
  have hx : (u.setf F.RAILr_TARGET_CODE r code).RailKept r x := hw.stays hr State.Stays.refl.setRail
  have hy : (u.setf F.RAILr_TARGET_CODE r code).RailKept r y := hx.recompose hr
  have hjw : s.Stays 0x9000 w := hreplace.setf.setf
  have hjy : s.Stays 0x9000 y := hjw.setRail.recompose
  clear_value w x y
  exact ⟨(State.RailKept.ite (hy.hostDone hr) hy).code.trans hcode, (State.Stays.ite hjy.hostDone hjy).journal⟩

theorem argRail_lt (a : Nat) : argRail a < 8 := Nat.mod_lt _ (by decide)

theorem State.railTarget_completes (hr : s.runs 0x10 e) (hlo : 400 ≤ e.arg.toNat % 4096) (hhi : e.arg.toNat % 4096 ≤ 3600)
    (hm : s.trackMode (argRail e.arg.toNat) ≠ 1) : Completes .railTarget s fun t =>
      t.f F.RAILr_TARGET_CODE (argRail e.arg.toNat) = e.arg.toNat % 4096 ∧
      (s.railOn (argRail e.arg.toNat) = true → t.hasEffect e false) ∧
      (s.railOn (argRail e.arg.toNat) = false → t.hasEffect e true) := by
  refine .of_command hr rfl ?_
  have hlt := argRail_lt e.arg.toNat
  unfold State.railTargetCmd
  generalize argRail e.arg.toNat = r at *
  have hwrite (u : State) (slot : Option Nat) (hu : u.trackMode r ≠ 1) :
      u.targetWrite r (e.arg.toNat % 4096) slot = u.setHost r (e.arg.toNat % 4096) slot := by
    unfold State.targetWrite
    exact if_neg (by omega)
  have hcode : e.arg.toNat % 4096 % 4096 = e.arg.toNat % 4096 := Nat.mod_mod _ _
  dsimp only
  cases hon : s.railOn r with
  | true =>
    have htrack : (s.effect e.slot 0).trackMode r ≠ 1 := by
      rwa [State.trackMode_of_track fun q => s.effect_regs_ne _ _ (Reg.at_ne_of_lt (by decide)).symm]
    rw [if_pos ⟨rfl, hm⟩, hwrite _ _ htrack]
    obtain ⟨hc, hj⟩ := (s.effect e.slot 0).setHost_fields hlt (e.arg.toNat % 4096) (some e.slot)
    exact ⟨hc.trans hcode, fun _ => State.hasEffect_of_journal hj (hr.final ▸ State.hasEffect_effect hr.jent 0), nofun⟩
  | false =>
    rw [if_neg (by simp), hwrite _ _ hm]
    obtain ⟨hc, hj⟩ := s.setHost_fields hlt (e.arg.toNat % 4096) none
    have hat : R.RAILr_TARGET.at r = 0x9004 + 0x80 * r := rfl
    refine ⟨(State.f_doneNow _ _ _ ?_ ?_).trans (hc.trans hcode), nofun, fun _ => ?_⟩
    · exact (Reg.at_ne_of_lt (by decide)).symm
    · change R.RAILr_TARGET.at r % 32 ≠ 16
      omega
    · exact (State.done_doneNow ((State.jent?_of_journal hj _).trans hr.jent) hr.final _).2

/-! ### RAIL_ON (R200, R214, R576) -/

/-- A write of RAILr_CTRL before its ON acts. -/
def State.ctrlWritten (s : State) (r : Nat) (w : Word) : State :=
  (writeFields s .firmware R.RAILr_CTRL r [⟨30, 30, .rw⟩] w).1.coefHold r (w.getLsbD 29)

theorem writeRailCtrl_eq (s : State) (r : Nat) (w : Word) : (writeRailCtrl r .firmware w s).1 =
    if (s.ctrlWritten r w).on F.RAILr_CTRL_ON r = w.getLsbD 31 then s.ctrlWritten r w
    else if (s.ctrlWritten r w).seqBusy then s.ctrlWritten r w
    else (s.ctrlWritten r w).writeOn r (w.getLsbD 31) := by
  unfold writeRailCtrl State.ctrlWritten
  dsimp only
  split
  · rfl
  · split
    · rfl
    · rfl

/-- Neither ON nor the rail's state nor the sequencer is touched before ON acts. -/
theorem State.ctrlWritten_fields (s : State) (r : Nat) (w : Word) : s.Stays 0x9000 (s.ctrlWritten r w) ∧
    (s.ctrlWritten r w).on F.RAILr_CTRL_ON r = s.on F.RAILr_CTRL_ON r ∧ (s.ctrlWritten r w).railSt r = s.railSt r := by
  have hfields : s.Stays 0x9000 (writeFields s .firmware R.RAILr_CTRL r [⟨30, 30, .rw⟩] w).1 := State.Stays.refl.wr
  have hon : (writeFields s .firmware R.RAILr_CTRL r [⟨30, 30, .rw⟩] w).1.f F.RAILr_CTRL_ON r = s.f F.RAILr_CTRL_ON r :=
    writeFields_f_kept ⟨by decide, by decide⟩ (by decide)
  have hst : (writeFields s .firmware R.RAILr_CTRL r [⟨30, 30, .rw⟩] w).1.railSt r = s.railSt r :=
    State.f_of_rd (writeFields_rd_other (Reg.at_ne_of_off rfl (by decide)))
  unfold State.ctrlWritten State.coefHold
  generalize (writeFields s .firmware R.RAILr_CTRL r [⟨30, 30, .rw⟩] w).1 = u at hfields hon hst
  have honu : u.on F.RAILr_CTRL_ON r = s.on F.RAILr_CTRL_ON r := congrArg (· == 1) hon
  split
  · exact ⟨hfields, honu, hst⟩
  · exact ⟨hfields.setb.setRail, (State.on_setf_beside u r _).trans honu, (State.f_setf_elsewhere u r _).trans hst⟩

/-- ON of a word of RAILr_CTRL with ON put. -/
theorem getLsbD_putOn (w : Word) (b : Bool) : (putBits w F.RAILr_CTRL_ON.lo 1 (if b then 1 else 0)).getLsbD 31 = b := by
  rw [← getBits_one]
  change (getBits (putBits w 31 1 _) 31 1 == 1) = b
  rw [getBits_putBits_same _ _ _ _ (by decide) (by decide)]
  cases b <;> rfl

/-- RAIL_ON takes effect, in a state whose registers of rails are as before; then RAILr_CTRL is written. -/
theorem State.railOn_runs {P : State → Prop} (hr : s.runs 0x11 e) (h : s.seqBusy = false)
    (hp : ∀ u w, (∀ (q : Reg) i, 0x8000 ≤ q.off → u.rd q i = s.rd q i) → u.eye.journal = (s.effect e.slot 0).eye.journal →
      w.getLsbD 31 = e.arg.getLsbD 0 → P (writeRailCtrl (argRail e.arg.toNat) .firmware w u).1)
    (hres : ∀ u b, P u → P (u.resumed b) := by exact fun _ _ h => h) : Completes .railOn s P := by
  refine .of_command hr rfl ?_ hres
  have hrd {u : State} (hu : u.regs = (s.effect e.slot 0).regs) (q : Reg) (i : Nat) (hq : 0x8000 ≤ q.off) : u.rd q i = s.rd q i :=
    (State.rd_of_regs hu q i).trans (s.effect_regs_ne _ _ (Reg.at_ne_of_lt (Nat.lt_of_lt_of_le (by decide) hq)).symm)
  unfold State.railOnCmd
  rw [if_neg (by simp [h])]
  dsimp only
  split
  · exact hp _ _ (hrd rfl) rfl (getLsbD_putOn _ _)
  · exact hp _ _ (hrd rfl) rfl (getLsbD_putOn _ _)

theorem State.railOn_same (hr : s.runs 0x11 e) (h : s.seqBusy = false)
    (hon : e.arg.getLsbD 0 = s.on F.RAILr_CTRL_ON (argRail e.arg.toNat)) : Completes .railOn s fun t =>
      t.on F.RAILr_CTRL_ON (argRail e.arg.toNat) = e.arg.getLsbD 0 ∧ t.hasEffect e false := by
  refine State.railOn_runs hr h fun u w hrd hj hw => ?_
  obtain ⟨hstays, honw, -⟩ := u.ctrlWritten_fields (argRail e.arg.toNat) w
  have hsame : (u.ctrlWritten (argRail e.arg.toNat) w).on F.RAILr_CTRL_ON (argRail e.arg.toNat) = e.arg.getLsbD 0 :=
    honw.trans ((State.on_of_rd (hrd _ _ (by decide))).trans hon.symm)
  rw [writeRailCtrl_eq, if_pos (hsame.trans hw.symm)]
  exact ⟨hsame, State.hasEffect_of_journal (hstays.journal.trans hj) (hr.final ▸ State.hasEffect_effect hr.jent 0)⟩

/-- A rail in STARTING or ON stops where its ON is written 0. -/
theorem State.onWritten0_stops (hr : r < 8) (h : s.railOn r = true) :
    (s.onWritten0 r).railSt r = 3 ∧ (s.onWritten0 r).on F.RAILr_CTRL_ON r = false := by
  have hst : (s.setf F.RAILr_CTRL_ON r 0).railSt r = s.railSt r := State.f_setf_elsewhere _ _ _
  have hoff : (s.setf F.RAILr_CTRL_ON r 0).on F.RAILr_CTRL_ON r = false := State.on_setf_same _ _ _ _ (by decide)
  have hon : (s.setf F.RAILr_CTRL_ON r 0).railOn r = true := by
    unfold State.railOn at h ⊢
    rwa [hst]
  unfold State.onWritten0
  generalize s.setf F.RAILr_CTRL_ON r 0 = u at hst hoff hon
  have hstop : (u.railStop 8 r).railSt r = 3 ∧ (u.railStop 8 r).on F.RAILr_CTRL_ON r = false :=
    ⟨State.railStop_stops hr 7 hon, (State.RailKept.refl.railStop hr).on.trans hoff⟩
  have hcase : u.railSt r = 1 ∨ u.railSt r = 2 := by
    unfold State.railOn at hon
    simpa using hon
  dsimp only
  obtain hc | hc := hcase
  · rw [hc]
    exact hstop
  · rw [hc]
    exact hstop

theorem State.railOn_stops (hr : s.runs 0x11 e) (h : s.seqBusy = false) (harg : e.arg.getLsbD 0 = false)
    (hrail : s.railOn (argRail e.arg.toNat) = true) (hon : s.on F.RAILr_CTRL_ON (argRail e.arg.toNat) = true) :
    Completes .railOn s fun t => t.railSt (argRail e.arg.toNat) = 3 ∧
      t.on F.RAILr_CTRL_ON (argRail e.arg.toNat) = false ∧ t.hasEffect e false := by
  refine State.railOn_runs hr h fun u w hrd hj hw => ?_
  have hlt := argRail_lt e.arg.toNat
  generalize argRail e.arg.toNat = r at *
  obtain ⟨hstays, honw, hst⟩ := u.ctrlWritten_fields r w
  rw [writeRailCtrl_eq, hw, harg]
  generalize u.ctrlWritten r w = v at hstays honw hst
  have honv : v.on F.RAILr_CTRL_ON r = true := honw.trans ((State.on_of_rd (hrd _ _ (by decide))).trans hon)
  have hbusy : v.seqBusy = false := by
    have hseq : v.f F.SEQ_STATUS_STATE = s.f F.SEQ_STATUS_STATE := (hstays.f (by decide)).trans (State.f_of_rd (hrd _ _ (by decide)))
    unfold State.seqBusy at h ⊢
    rwa [hseq]
  have hrailv : v.railOn r = true := by
    unfold State.railOn at hrail ⊢
    rwa [hst.trans (State.f_of_rd (hrd _ _ (by decide)))]
  rw [if_neg (by simp [honv]), if_neg (by simp [hbusy])]
  unfold State.writeOn
  rw [if_neg (by simp [honv]), if_neg (by simp)]
  obtain ⟨hstop, hoff⟩ := v.onWritten0_stops hlt hrailv
  exact ⟨hstop, hoff, State.hasEffect_of_journal ((State.Stays.onWritten0 (State.Stays.refl (lim := 0))).journal.trans
    (hstays.journal.trans hj)) (hr.final ▸ State.hasEffect_effect hr.jent 0)⟩

end Sys2Proof.Machine
end

section
/-! SUPPORT. PHASE_EN: an enabled phase probes, whatever its rail's capability does (R177, R178, R185, R188). -/
namespace Sys2Proof.Machine
open Sys2Proof

set_option Elab.async false

variable {s₀ s : State} {e : JEnt} {p : Nat}

/-- From `s₀` to `s` the state of phase `p` did not change. -/
def State.PhaseKept (p : Nat) (s₀ s : State) : Prop := s.phSt p = s₀.phSt p

theorem State.PhaseKept.refl : s.PhaseKept p s := rfl

theorem State.PhaseKept.ite {c : Prop} [Decidable c] {t : State} (hs : s₀.PhaseKept p s) (ht : s₀.PhaseKept p t) :
    s₀.PhaseKept p (if c then s else t) := by
  split
  · exact hs
  · exact ht

theorem State.PhaseKept.foldl {β : Type} {f : State → β → State} {l : List β} (h : s₀.PhaseKept p s)
    (hf : ∀ s, ∀ x ∈ l, s₀.PhaseKept p s → s₀.PhaseKept p (f s x)) : s₀.PhaseKept p (l.foldl f s) :=
  List.foldlRecOn (motive := s₀.PhaseKept p) l f h fun u hu x hx => hf u x hx hu

theorem Reg.at_phStatus (i : Nat) : R.PHp_STATUS.at i = 0xB008 + 0x20 * i := rfl

section
variable (h : s₀.PhaseKept p s)
include h

/-- An operation on records, on logs or on the clamp. -/
theorem State.PhaseKept.stays {t : State} (hp : p < 96) (g : s.Stays 0x10000 t) : s₀.PhaseKept p t :=
  (g.f (Reg.at_lt_of_le (k := 96) (by omega) (by decide))).trans h

/-- A field of another phase's status. -/
theorem State.PhaseKept.setf_other {x : Fld} {q v : Nat} (hq : q ≠ p) (hx : x.reg = R.PHp_STATUS := by rfl) :
    s₀.PhaseKept p (s.setf x q v) := by
  refine (State.f_setf_reg _ _ ?_).trans h
  rw [hx]
  change R.PHp_STATUS.at p ≠ R.PHp_STATUS.at q
  rw [Reg.at_phStatus, Reg.at_phStatus]
  omega

/-- Another field of a phase's status. -/
theorem State.PhaseKept.setf_beside {x : Fld} {q v : Nat} (hx : x.reg = R.PHp_STATUS := by rfl)
    (hb : Fld.Beside x F.PHp_STATUS_STATE := by decide) : s₀.PhaseKept p (s.setf x q v) := by
  by_cases hq : q = p
  · subst hq
    exact (State.f_setf_beside _ _ _ hx.symm hb).trans h
  · exact h.setf_other hq hx

/-- A field of a rail's phase status. -/
theorem State.PhaseKept.setf_rail {x : Fld} {r v : Nat} (hr : r < 8) (hx : x.reg = R.PHRAILr_STATUS := by rfl) :
    s₀.PhaseKept p (s.setf x r v) := by
  refine (State.f_setf_reg _ _ (Nat.ne_of_gt ?_)).trans h
  rw [hx]
  exact Nat.lt_of_lt_of_le (Reg.at_lt_of_le (r := R.PHRAILr_STATUS) (k := 8) (by omega) (by decide)) (Reg.off_le_at _ _)

/-! ### The phases of a rail (R163, R166) -/

theorem State.PhaseKept.endDe {r : Nat} : s₀.PhaseKept p (s.endDe r) := by
  have hrail (x : RailSt) : s₀.PhaseKept p (s.setRail r x) := h
  unfold State.endDe
  exact (hrail _).foldl fun _ _ _ hs => hs.setf_beside

variable (hp : p < 96)
include hp

theorem State.PhaseKept.phPut {q st : Nat} (hq : q ≠ p) : s₀.PhaseKept p (s.phPut q st) := by
  unfold State.phPut State.notePhase
  extract_lets +onlyGivenNames u1 u2 x sw unseen u3 u4
  have hu2 : s₀.PhaseKept p u2 := (h.setf_other hq).setf_other hq
  have hu3 : s₀.PhaseKept p u3 := hu2
  have hu4 : s₀.PhaseKept p u4 := .ite hu3 hu3.setf_beside
  exact hu4.stays hp State.Stays.refl.log.hang

theorem State.PhaseKept.softStart {q n : Nat} (hq : q ≠ p) : s₀.PhaseKept p (s.softStart q n) := by
  have hput (x : PhaseSt) : s₀.PhaseKept p ((s.phPut q PH_SOFT).setPhase q x) := h.phPut hp hq
  unfold State.softStart
  exact .ite (hput _).endDe (hput _)

theorem State.PhaseKept.addPhases {l : List Nat} (hl : p ∉ l) : s₀.PhaseKept p (s.addPhases l) := by
  have hstart : s₀.PhaseKept p (l.foldl (fun s p => s.softStart p 8) s) :=
    h.foldl fun _ q hq hs => hs.softStart hp fun heq => hl (heq ▸ hq)
  exact hstart.foldl fun _ _ _ hs => hs

theorem State.PhaseKept.showCap {r : Nat} (hr : r < 8) : s₀.PhaseKept p (s.showCap r) := by
  unfold State.showCap
  exact State.PhaseKept.setf_rail (.ite h ((h.setf_rail hr).stays hp State.Stays.refl.setRail)) hr

/-- The capability of a rail adds phases in SHED only (R178). -/
theorem State.PhaseKept.capClamp {r : Nat} (hr : r < 8) (hs : s₀.phSt p ≠ PH_SHED) : s₀.PhaseKept p (s.capClamp r) := by
  have hcap : s₀.PhaseKept p (s.showCap r) := h.showCap hp hr
  have hset (v : Nat) (b : Bool) : s₀.PhaseKept p (((s.showCap r).setf F.PHRAILr_STATUS_CAP_LOW r v).clampSet 0 r b) :=
    (hcap.setf_rail hr).stays hp State.Stays.refl.clampSet
  unfold State.capClamp
  generalize s.showCap r = u at hset
  refine .ite (hset _ _) (.ite ?_ (hset _ _))
  have hadd := hset 1 true
  generalize (u.setf F.PHRAILr_STATUS_CAP_LOW r 1).clampSet 0 r true = v at hadd
  have hnot : p ∉ (v.phasesOf r).filter fun p => v.phSt p = PH_SHED := fun hmem =>
    hs (hadd.symm.trans (of_decide_eq_true (List.mem_filter.mp hmem).2))
  exact State.PhaseKept.showCap (.ite (hadd.addPhases hp hnot).endDe (hadd.addPhases hp hnot)) hp hr

end

theorem State.phSt_phPut (s : State) (hp : p < 96) {st : Nat} (hst : st < 16) : (s.phPut p st).phSt p = st := by
  have hset : (s.setf F.PHp_STATUS_STATE p st).phSt p = st :=
    (State.f_setf_same _ _ _ _ (by decide)).trans (Nat.mod_eq_of_lt hst)
  unfold State.phPut State.notePhase
  extract_lets +onlyGivenNames u1 u2 x sw unseen u3 u4
  have hu2 : u1.PhaseKept p u2 := State.PhaseKept.refl.setf_beside
  have hu3 : u1.PhaseKept p u3 := hu2
  have hu4 : u1.PhaseKept p u4 := .ite hu3 hu3.setf_beside
  exact (hu4.stays hp State.Stays.refl.log.hang).trans hset

/-- A phase that goes to PROBE stays there while its old and its new rail are evaluated (R185). -/
theorem State.phSt_phProbe (s : State) (hp : p < 96) : (s.phProbe p).phSt p = PH_PROBE := by
  have hshed {u : State} (hu : u.phSt p = PH_PROBE) : u.phSt p ≠ PH_SHED := by
    rw [hu]
    decide
  have hgo (u : State) : (u.phGo p PH_PROBE).phSt p = PH_PROBE := by
    have hput : (u.phPut p PH_PROBE).phSt p = PH_PROBE := u.phSt_phPut hp (by decide)
    unfold State.phGo
    generalize u.phPut p PH_PROBE = v at hput
    extract_lets _ w
    have hw : v.PhaseKept p w := .ite (.stays .refl hp State.Stays.refl.pmbLatch) .refl
    have hnote : v.PhaseKept p (w.noteRailTemp p) := hw.stays hp State.Stays.refl.noteRailTemp
    exact (hnote.capClamp hp (Fin.is_lt _) (hshed hput)).trans hput
  unfold State.phProbe
  extract_lets +onlyGivenNames x old u
  have hprobe := hgo u
  generalize u.phGo p PH_PROBE = v at hprobe
  unfold State.showShare
  have hshare (n : Nat) : v.PhaseKept p (v.setf F.PHp_STATUS_SHARE_EFF p n) := State.PhaseKept.refl.setf_beside
  exact ((hshare _).capClamp hp (Fin.is_lt _) (hshed hprobe)).trans hprobe

theorem State.phaseEn_completes (hr : s.runs 0x15 e) (hb : e.arg.getLsbD 8 = true) (hst : s.phSt (e.arg.toNat % 128) = PH_OFF)
    (hp : e.arg.toNat % 128 < Config.phaseCount) : Completes .phaseEn s fun t =>
      t.phSt (e.arg.toNat % 128) = PH_PROBE ∧ t.hasEffect e false := by
  refine .of_command hr rfl ?_
  unfold State.phaseEnCmd State.phEnWrite
  rw [if_pos hb]
  have hoff : (s.effect e.slot 0).phSt (e.arg.toNat % 128) = PH_OFF :=
    (State.f_of_rd (s.effect_regs_ne _ _ (Reg.at_ne_of_lt (by decide)).symm)).trans hst
  unfold State.phEnable
  dsimp only
  rw [if_pos hoff]
  exact ⟨State.phSt_phProbe _ hp, State.hasEffect_stays hr (State.Stays.refl (lim := 0)).setf.phProbe⟩

end Sys2Proof.Machine
end

section
/-! SUPPORT. DOMAIN_REQ: a domain in OFF without a parent begins its wake (R329, R333, R334, R341, R342). -/
namespace Sys2Proof.Machine
open Sys2Proof

set_option Elab.async false

variable {s t : State} {e : JEnt} {d : Nat}

/-! ### Steps -/

theorem domainPresent_lt (h : domainPresent d = true) : d < 0x470 := by
  have hcores : Config.coreCount = 512 := rfl
  have hclusters : Config.clusterCount = 32 := rfl
  have hedges : Config.edgeStacks = 8 := rfl
  have hrails : Config.railCount = 8 := rfl
  simp only [domainPresent, Bool.or_eq_true, Bool.and_eq_true, decide_eq_true_eq] at h
  omega

theorem Reg.at_pwrStatus_lt (hd : d < 0x470) : R.PWRd_STATUS.at d < 0x8000 :=
  Reg.at_lt_of_le (k := 0x470) (Nat.le_of_lt hd) (by decide)

theorem Reg.at_pwrStatus_ne_ctrl (i : Nat) : R.PWRd_CTRL.at i ≠ R.PWRd_STATUS.at d := by
  have hctrl : R.PWRd_CTRL.at i = 0x5800 + 8 * i := rfl
  have hstatus : R.PWRd_STATUS.at d = 0x5804 + 8 * d := rfl
  omega

/-- A step shows itself and leaves the target in force. -/
theorem State.putStep_fields (s : State) (hd : d < 0x470) {step : Nat} (hs : step < 16) :
    (s.putStep d step).domStep d = step ∧ (s.putStep d step).domTarget d = s.domTarget d := by
  have hset (u : State) : (u.setf F.PWRd_STATUS_STEP d step).domStep d = step ∧
      (u.setf F.PWRd_STATUS_STEP d step).domTarget d = u.domTarget d :=
    ⟨(State.f_setf_same _ _ _ _ (by decide)).trans (Nat.mod_eq_of_lt hs), State.f_setf_beside _ _ _⟩
  have hkept {u v : State} (h : v.regs = u.regs) (hu : u.domStep d = step ∧ u.domTarget d = s.domTarget d) :
      v.domStep d = step ∧ v.domTarget d = s.domTarget d :=
    ⟨(State.f_of_regs h _ _).trans hu.1, (State.f_of_regs h _ _).trans hu.2⟩
  unfold State.putStep
  dsimp only
  split
  · have hroll : (s.rollEpoch (d - 0x400)).domTarget d = s.domTarget d :=
      (State.Above.refl.rollEpoch).f _ _ (Reg.at_pwrStatus_lt hd)
    have hnote (u : State) (c : Nat) : (u.noteOn c).regs = u.regs := by
      unfold State.noteOn
      split
      · rfl
      · rfl
    refine hkept (hnote _ _) ?_
    exact ⟨(hset _).1, (hset _).2.trans hroll⟩
  · split
    · exact hkept rfl (hset s)
    · exact hset s

/-- The action of RAMP writes ON of a rail or the state of the switches. -/
theorem State.Stays.rampAction : s.Stays 0x8000 (s.stepAction d 8) := by
  unfold State.stepAction
  exact .ite (.ite State.Stays.refl.writeOn (.ite State.Stays.refl.writeOn .refl)) State.Stays.refl.setDom

/-- A wake begins with RAMP towards ON. -/
theorem State.startWake_fields (s : State) (slot : Option Nat) (hd : d < 0x470) :
    (s.startWake d slot).domStep d = 8 ∧ (s.startWake d slot).domTarget d = 0 := by
  have hact (u : State) : (u.stepAction d 8).domStep d = u.domStep d ∧ (u.stepAction d 8).domTarget d = u.domTarget d :=
    ⟨State.Stays.rampAction.f (Reg.at_pwrStatus_lt hd), State.Stays.rampAction.f (Reg.at_pwrStatus_lt hd)⟩
  have htarget (u : State) : (u.putTarget d 0).domTarget d = 0 := State.f_setf_same _ _ _ _ (by decide)
  unfold State.startWake State.beginStep
  extract_lets +onlyGivenNames u x v
  obtain ⟨hstep, hput⟩ := State.putStep_fields v hd (show 8 < 16 by decide)
  exact ⟨(hact _).1.trans hstep, (hact _).2.trans (hput.trans (htarget _))⟩

/-! ### Requests -/

theorem State.parentCycle_congr (h : ∀ i, t.f F.PWRd_CTRL_PARENT i = s.f F.PWRd_CTRL_PARENT i) (n start d : Nat) :
    t.parentCycle n start d = s.parentCycle n start d := by
  induction n generalizing d with
  | zero => rfl
  | succ n ih => simp only [State.parentCycle, h, ih]

/-- The parent in effect is told by PARENT of the domains. -/
theorem State.parentOf_congr (h : ∀ i, t.f F.PWRd_CTRL_PARENT i = s.f F.PWRd_CTRL_PARENT i) : t.parentOf d = s.parentOf d := by
  unfold State.parentOf State.parentBad
  dsimp only
  rw [h, State.parentCycle_congr h]

/-- A domain in OFF that nothing keeps from waking: no pending request, no fence, no safe state or sag save, no parent. -/
structure State.FreeInOff (s : State) (d : Nat) : Prop where
  step : s.domStep d = 7
  pending : s.domPending d = 3
  fenced : s.domFenced d = false
  safe : s.safe = false
  sag : s.sag = false
  parent : s.parentOf d = none

section
variable (h : s.FreeInOff d)
include h

theorem State.FreeInOff.domRest : s.domRest d = 2 := by
  unfold State.domRest
  rw [h.step]
  rfl

theorem State.FreeInOff.of_fields (hd : ∀ x ∈ [F.PWRd_STATUS_STEP, F.PWRd_STATUS_PENDING, F.PWRd_STATUS_FENCED], t.f x d = s.f x d)
    (hp : ∀ i, t.f F.PWRd_CTRL_PARENT i = s.f F.PWRd_CTRL_PARENT i) (hf : t.rd R.FLT_STATUS = s.rd R.FLT_STATUS) : t.FreeInOff d where
  step := (hd _ (by simp)).trans h.step
  pending := (hd _ (by simp)).trans h.pending
  fenced := (congrArg (· == 1) (hd F.PWRd_STATUS_FENCED (by simp))).trans h.fenced
  safe := (State.on_of_rd hf).trans h.safe
  sag := (State.on_of_rd hf).trans h.sag
  parent := (State.parentOf_congr hp).trans h.parent

theorem State.FreeInOff.of_regs (hr : t.regs = s.regs) : t.FreeInOff d :=
  h.of_fields (fun x _ => State.f_of_regs hr x d) (fun i => State.f_of_regs hr _ i) (State.rd_of_regs hr _ _)

theorem State.FreeInOff.slotOutcome {slot : Option Nat} {v : Nat} : (s.slotOutcome slot v).FreeInOff d := by
  cases slot with
  | none => exact h
  | some k => exact h.of_regs rfl

theorem State.FreeInOff.setDom {x : DomSt} : (s.setDom d x).FreeInOff d := h.of_regs rfl

theorem State.FreeInOff.effect {k v : Nat} : (s.effect k v).FreeInOff d :=
  h.of_fields (fun x hx => by
      have hreg : x.reg = R.PWRd_STATUS := by
        simp only [List.mem_cons, List.not_mem_nil, or_false] at hx
        rcases hx with rfl | rfl | rfl <;> rfl
      exact State.f_of_rd (s.effect_regs_ne k v (hreg ▸ (Reg.at_ne_of_lt (by decide)).symm)))
    (fun i => State.f_of_rd (s.effect_regs_ne k v (Reg.at_ne_of_lt (by decide)).symm))
    (s.effect_regs_ne k v (by decide))

theorem State.FreeInOff.setReqStatus {v : Nat} : (s.setf F.PWRd_CTRL_REQ_STATUS d v).FreeInOff d := by
  refine h.of_fields (fun x hx => ?_) (fun i => State.f_setf_apart _ _ ?_)
    (State.rd_setf_other _ _ _ (Nat.ne_of_lt (Nat.lt_of_lt_of_le (by decide) (R.PWRd_CTRL.off_le_at d))))
  · have hreg : x.reg = R.PWRd_STATUS := by
      simp only [List.mem_cons, List.not_mem_nil, or_false] at hx
      rcases hx with rfl | rfl | rfl <;> rfl
    exact State.f_setf_reg _ _ (hreg ▸ (Reg.at_pwrStatus_ne_ctrl d).symm)
  · by_cases hi : i = d
    · subst hi
      exact .inr ⟨rfl, by decide, by decide⟩
    · refine .inl ?_
      have hat (j : Nat) : R.PWRd_CTRL.at j = 0x5800 + 8 * j := rfl
      change R.PWRd_CTRL.at i ≠ R.PWRd_CTRL.at d
      rw [hat, hat]
      omega

theorem State.FreeInOff.wakeSrc {src : Nat} : (s.wakeSrc d src).FreeInOff d := by
  unfold State.wakeSrc
  split
  · exact h
  · refine h.of_fields (fun x hx => ?_) (fun i => State.f_setf_reg _ _ (Reg.at_pwrStatus_ne_ctrl i))
      (State.rd_setf_other _ _ _ (Nat.ne_of_lt (Nat.lt_of_lt_of_le (by decide) (R.PWRd_STATUS.off_le_at d))))
    simp only [List.mem_cons, List.not_mem_nil, or_false] at hx
    rcases hx with rfl | rfl | rfl
    exacts [State.f_setf_beside _ _ _, State.f_setf_beside _ _ _, State.f_setf_beside _ _ _]

theorem State.FreeInOff.beginWake (n src : Nat) (slot : Option Nat) :
    s.beginWake n d src slot = (s.wakeSrc d src).startWake d slot := by
  have hsrc := h.wakeSrc (src := src)
  cases n with
  | zero =>
    unfold State.beginWake
    dsimp only
    rw [if_neg (by simp [hsrc.safe, hsrc.sag])]
  | succ n =>
    unfold State.beginWake
    dsimp only
    rw [if_neg (by simp [hsrc.safe, hsrc.sag]), hsrc.parent]

/-- A request for ON begins the wake at once. -/
theorem State.FreeInOff.domRequest (src : Nat) (slot : Option Nat) (hold : Bool) :
    ∃ u : State, u.FreeInOff d ∧ s.Stays 0x5000 u ∧ s.domRequest d 0 src slot hold = u.startWake d slot := by
  unfold State.domRequest
  extract_lets +onlyGivenNames u1 x u2 u3 y u4 u5 u6
  have hu1 : u1.FreeInOff d := h.setReqStatus
  have hu2 : u2.FreeInOff d := hu1.slotOutcome
  have hu3 : u3.FreeInOff d := hu2.setDom
  have hu4 : u4.FreeInOff d := hu3.slotOutcome
  have hu5 : u5 = u4 := if_neg (not_not_intro hu4.pending)
  have hu6 : u6.FreeInOff d := by
    unfold u6
    split
    · exact (hu5 ▸ hu4).slotOutcome
    · exact hu5 ▸ hu4
  have hs3 : s.Stays 0x5000 u3 := State.Stays.refl.setf.slotOutcome.setDom
  have hs4 : s.Stays 0x5000 u4 := hs3.slotOutcome
  have hs6 : s.Stays 0x5000 u6 := .ite (hu5 ▸ hs4).slotOutcome (hu5 ▸ hs4)
  rw [if_neg (by simp [hu3.domRest]), if_neg (by simp), if_neg (by simp [hu6.fenced]), if_neg (by simp [hu6.domRest]),
    if_pos rfl]
  exact ⟨u6.wakeSrc d src, hu6.wakeSrc, hs6.wakeSrc, hu6.beginWake _ _ _⟩

end

theorem State.domainReq_completes (hr : s.runs 0x28 e) (hd : d = e.arg.toNat % 2048) (ht : e.arg.toNat / 4096 % 4 = 0)
    (hpresent : domainPresent d = true) (hstep : s.domStep d = 7) (hpending : s.domPending d = 3) (hfenced : s.domFenced d = false)
    (hsafe : s.safe = false) (hparent : s.parentOf d = none) : Completes .domainReq s fun t =>
      t.domStep d = 8 ∧ t.domTarget d = 0 ∧ t.hasEffect e false := by
  refine .of_command hr rfl ?_
  have hfree : s.FreeInOff d := ⟨hstep, hpending, hfenced, hsafe, hr.sag, hparent⟩
  obtain ⟨u, -, hstays, hu⟩ := (hfree.effect (k := e.slot) (v := 0)).domRequest 6 (some e.slot) (waitsForUnit d)
  obtain ⟨h8, h0⟩ := u.startWake_fields (some e.slot) (domainPresent_lt hpresent)
  unfold State.domainReqCmd
  rw [← hd, ht]
  dsimp only
  rw [hu]
  exact ⟨h8, h0, State.hasEffect_stays hr hstays.startWake⟩

end Sys2Proof.Machine
end

section
/-! SUPPORT. PLAN_LOAD of a bare header ends the plan load and is DONE (R389, R391). -/
namespace Sys2Proof.Machine
open Sys2Proof

set_option Elab.async false

variable {s₀ s : State} {e : JEnt}

/-! ### The end of a plan load leaves the journal alone (R294, R389, R481) -/

section
variable (h : State.Stays 0 s₀ s)
include h

theorem State.Stays.enqueue {c : Nat} {q : QWord} : s₀.Stays 0 (s.enqueue c q) := by
  have hset (x : ChanSt) : s₀.Stays 0 (s.setChan c x) := h.upd
  exact (hset _).setf

theorem State.Stays.notice {kind subject arg : Nat} : s₀.Stays 0 (s.notice kind subject arg) := by
  unfold State.notice
  refine .ite h.incf (.ite h.incf.upd ?_)
  extract_lets w u v
  have hv : s₀.Stays 0 v := h.log.incf
  exact hv.enqueue

theorem State.Stays.predEn {b : Bool} : s₀.Stays 0 (s.predEn b) := by
  have hclr (x : PredSt) : s₀.Stays 0 ((s.setPred x).clrAll R.PREDn_EST) :=
    ⟨fun _ ha => absurd ha (Nat.not_lt_zero _), h.journal⟩
  exact (hclr _).setf

theorem State.Stays.writePredCtrl {b : Writer} {w : Word} : s₀.Stays 0 (writePredCtrl b w s).1 := by
  unfold Machine.writePredCtrl
  extract_lets en hold q u p v
  have hu : s₀.Stays 0 u := h.wr
  have hv : s₀.Stays 0 v := .ite hu.upd (.ite hu.upd hu)
  exact .ite hv hv.predEn

theorem State.Stays.predCtrlField {lo len v : Nat} : s₀.Stays 0 (s.predCtrlField lo len v) := by
  have hf : findReg 0x60000 = some (R.PRED_CTRL, 0) := rfl
  have hwrite (w : Word) : s₀.Stays 0 (s.regWrite .firmware R.PRED_CTRL 0 w).1 := h.writePredCtrl
  unfold State.predCtrlField State.fwWrite
  rw [hf]
  dsimp only
  split
  · exact h
  · exact hwrite _

theorem State.Stays.endHold : s₀.Stays 0 s.endHold := .ite h.predCtrlField h

theorem State.Stays.planError {index type : Nat} : s₀.Stays 0 (s.planError index type) := h.fault.notice

theorem State.Stays.putGuard {c k v code : Nat} : s₀.Stays 0 (s.putGuard c k v code) := by
  have hset : s₀.Stays 0 (s.setGuard c k v) := .ite h.upd (h.setf (Nat.zero_le _))
  unfold State.putGuard
  exact hset.incf.upd.notice

theorem State.Stays.raiseGuards : s₀.Stays 0 s.raiseGuards.1 := by
  refine List.foldlRecOn (motive := fun q : State × Nat => s₀.Stays 0 q.1) _ State.raiseCluster h fun q hq c _ => ?_
  refine List.foldlRecOn (motive := fun q : State × Nat => s₀.Stays 0 q.1) _ _ hq fun p hp k _ => ?_
  dsimp only
  split
  · exact hp.putGuard
  · exact hp

theorem State.Stays.writeGuards {l : List Byte} : s₀.Stays 0 (s.writeGuards l) :=
  h.foldl fun _ _ hs => hs.foldl fun _ _ ht => ht.setf (Nat.zero_le _)

theorem State.Stays.takeGuards {old : Word} : s₀.Stays 0 (s.takeGuards old) := by
  unfold State.takeGuards
  exact .ite h (.ite h.upd.writeGuards.setf h.upd.raiseGuards)

theorem State.Stays.planEnd {tiles : List (List Byte)} : s₀.Stays 0 (s.planEnd tiles) := by
  unfold State.planEnd
  extract_lets +onlyGivenNames u1 u2 old hdr u3 u4
  have hu1 : s₀.Stays 0 u1 := h.endHold
  have hu2 : s₀.Stays 0 u2 := by
    unfold u2
    split
    · exact hu1.predCtrlField.planError
    · exact hu1
  have hu4 : s₀.Stays 0 u4 := hu2.setf.setf.takeGuards
  exact hu4.setFw.incf

end

/-! ### The header alone (R389, R391) -/

theorem State.planHdr_planEnd (s : State) (tiles : List (List Byte)) : (s.planEnd tiles).eye.fw.planHdr = planHeader tiles := rfl

/-- The final reply leaves the plan's header as it is. -/
theorem State.planHdr_finish (s : State) (k status v : Nat) : (s.finish k status v).eye.fw.planHdr = s.eye.fw.planHdr := by
  unfold State.finish
  split
  · rfl
  · split
    · rfl
    · rfl

/-- The only step of a bare header's load is the header's: the load ends with it. -/
theorem State.planSteps_header {n : Nat} {h : List Byte} (hj : s.jent? e.slot = some e) (hf : e.final = false)
    (horder : planOrder (s.planTiles (e.arg.getLsbD 0)) = [h]) (htype : tileType h = 8) (hstep : e.step = 0) :
    ((s.effect e.slot 0).planSteps e (max 1 n)).eye.fw.planHdr = planHeader (s.planTiles (e.arg.getLsbD 0)) ∧
      ((s.effect e.slot 0).planSteps e (max 1 n)).hasEffect e true := by
  have htake : (([h] : List (List Byte)).drop e.step).take (max 1 n) = [h] := by
    rw [hstep, List.drop_zero, List.take_of_length_le (by simp)]
  have hall : min (e.step + max 1 n) ([h] : List (List Byte)).length = 1 := by
    rw [hstep, List.length_singleton]
    omega
  have htiles : (s.effect e.slot 0).planTiles (e.arg.getLsbD 0) = s.planTiles (e.arg.getLsbD 0) := rfl
  unfold State.planSteps
  rw [htiles]
  generalize s.planTiles (e.arg.getLsbD 0) = tiles at horder
  dsimp only
  rw [horder, htake, hall, if_pos (by simp)]
  have happly (u : State) : ([h].foldl (fun s t => s.applyTile tiles t) u).eye.journal = u.eye.journal := by
    change (u.applyTile tiles h).eye.journal = _
    unfold State.applyTile
    rw [htype]
    rfl
  have hent := (State.jent?_of_journal (happly _) e.slot).trans ((s.jent?_effect _ 0).trans (congrArg _ hj))
  generalize [h].foldl (fun s t => s.applyTile tiles t) (s.effect e.slot 0) = u at hent
  have hmod := (u.jent?_jmod e.slot fun x => { x with step := 1, partialDone := decide (1 < ([h] : List (List Byte)).length) }).trans
    (congrArg _ hent)
  generalize u.jmod e.slot (fun x => { x with step := 1, partialDone := decide (1 < ([h] : List (List Byte)).length) }) = w at hmod
  have hend := (State.jent?_of_journal ((State.Stays.refl (s := w)).planEnd (tiles := tiles)).journal e.slot).trans hmod
  have hdone := State.done_finish
    (e := { e with effect := true, result := BitVec.ofNat 32 0, step := 1, partialDone := false }) hend hf rfl
    (planVersion (w.planEnd tiles).eye.fw.planHdr)
  exact ⟨(State.planHdr_finish _ _ _ _).trans (w.planHdr_planEnd tiles), hdone.2⟩

theorem State.planLoad_completes {n : Nat} {h : List Byte} (hr : s.runs 0x40 e) (hp : s.planInProgress = none)
    (horder : planOrder (s.planTiles (e.arg.getLsbD 0)) = [h]) (htype : tileType h = 8) (hstep : e.step = 0) :
    Completes (.planLoad n) s fun t => t.eye.fw.planHdr = planHeader (s.planTiles (e.arg.getLsbD 0)) ∧ t.hasEffect e true := by
  have hx : exec (.planLoad n) s = .next (s.command 0x40 fun e s => (s.effect e.slot 0).planSteps e (max 1 n)) := by
    change Host.Outcome.next (s.planLoadCmd n) = _
    unfold State.planLoadCmd
    rw [hp]
  exact .of_command hr hx (State.planSteps_header hr.jent hr.final horder htype hstep)

end Sys2Proof.Machine
end

section
/-! SUPPORT. What the commands whose completion waits for hardware do when they run (R386). -/
namespace Sys2Proof.Machine
open Sys2Proof

set_option Elab.async false

/-- The five unit messages, each with its code and its argument. -/
theorem State.unitMessages_complete (s : State) (e : JEnt) : ∀ p ∈ ([
      (.setPriority, 0x21, 1, argValue e.arg.toNat % 64 * 4), (.setCap, 0x22, 3, argValue e.arg.toNat % 4096 * 2 ^ 20),
      (.setJob, 0x23, 2, argValue e.arg.toNat % 64 * 2 ^ 16), (.readmitPart, 0x24, 4, argValue e.arg.toNat % 2),
      (.unitPing, 0x25, 5, 0)] : List (Instr × Nat × Nat × Nat)), s.runs p.2.1 e → Completes p.1 s fun t =>
    t.eye.fw.unitCmds = s.eye.fw.unitCmds ++ [{
      core := argCore e.arg.toNat, slot := e.slot, word := unitWord (argEpoch e.arg.toNat) p.2.2.1 p.2.2.2 }] ∧
    t.eye.journal = s.eye.journal := by
  intro p hp hr
  simp only [List.mem_cons, List.not_mem_nil, or_false] at hp
  rcases hp with rfl | rfl | rfl | rfl | rfl
  · exact State.unitMessage_completes (arg := fun e => argValue e.arg.toNat % 64 * 4) hr rfl
  · exact State.unitMessage_completes (arg := fun e => argValue e.arg.toNat % 4096 * 2 ^ 20) hr rfl
  · exact State.unitMessage_completes (arg := fun e => argValue e.arg.toNat % 64 * 2 ^ 16) hr rfl
  · exact State.unitMessage_completes (arg := fun e => argValue e.arg.toNat % 2) hr rfl
  · exact State.unitMessage_completes (arg := fun _ => 0) hr rfl

/-- Settles O51, command by command. -/
theorem deferredCommandsTakeEffect : Obligations.DeferredCommandsTakeEffect := by
  unfold Obligations.DeferredCommandsTakeEffect
  exact ⟨fun _ _ => State.railTarget_completes, fun _ _ => State.railOn_same, fun _ _ => State.railOn_stops,
    fun _ _ => State.railOn_waits, fun _ _ => State.sequence_completes, fun _ _ => State.phaseEn_completes,
    fun _ _ => State.setRole_completes, State.unitMessages_complete, fun _ _ _ => State.domainReq_completes,
    fun _ _ => State.windowOpen_completes, fun _ _ => State.windowClose_completes, fun _ _ => State.safeExit_completes,
    fun _ _ => State.traceTrigger_completes, fun _ _ _ _ => State.unfenceSensor_completes, fun _ _ => State.remote_completes,
    fun _ _ _ _ => State.fwActivate_completes, fun _ _ _ _ => State.planLoad_completes⟩

end Sys2Proof.Machine
end

section
/-! SUPPORT. Operations that leave the Welts: notes, credit records and registers from 0x10000 on. What reads the same after
them, and which Welt registers share no word. -/
namespace Sys2Proof.Machine
open Sys2Proof

set_option Elab.async false

/-! ### Offsets -/

/-- Two registers of one stride that start at different places of it share no word. -/
theorem Reg.at_ne_of_phase {r q : Reg} (i j : Nat)
    (h : r.stride = q.stride ∧ r.off % r.stride ≠ q.off % q.stride := by decide) : r.at i ≠ q.at j := by
  obtain ⟨hs, hp⟩ := h
  intro he
  refine hp ?_
  rw [← Nat.add_mul_mod_self_left r.off r.stride i, ← Nat.add_mul_mod_self_left q.off q.stride j]
  exact (congrArg (· % r.stride) he).trans (by rw [hs]; rfl)

/-- The registers of a present cluster lie below those of the credit economy. -/
theorem Reg.at_cluster_lt {r : Reg} {c : Nat} (hc : c < Config.clusterCount)
    (h : r.off + r.stride * Config.clusterCount < 0x10000 := by decide) : r.at c < 0x10000 :=
  Reg.at_lt_of_le (Nat.le_of_lt hc) h

/-! ### What leaves the Welts -/

/-- From `s₀` to `s` the registers below 0x10000, the Welts, the stations and the clock are the same. -/
structure State.WeltKept (s₀ s : State) : Prop where
  get : ∀ a, a < 0x10000 → ∀ d, Tab.get d s.regs a = Tab.get d s₀.regs a
  welt : s.welt = s₀.welt
  stations : s.crd.stations = s₀.crd.stations
  time : s.time = s₀.time

variable {s₀ s : State}

theorem State.WeltKept.refl : s.WeltKept s := ⟨fun _ _ _ => rfl, rfl, rfl, rfl⟩

theorem State.WeltKept.trans {t : State} (h : s₀.WeltKept s) (g : s.WeltKept t) : s₀.WeltKept t :=
  ⟨fun a ha d => (g.get a ha d).trans (h.get a ha d), g.welt.trans h.welt, g.stations.trans h.stations, g.time.trans h.time⟩

theorem State.Traced.welt (h : s₀.Traced s) : s.welt = s₀.welt := (congrArg State.welt h.rest :)

theorem State.Traced.weltKept (h : s₀.Traced s) : s₀.WeltKept s :=
  ⟨fun a ha d => h.get a (by omega) d, h.welt, congrArg CrdSt.stations h.crd, h.time⟩

section
variable (h : s₀.WeltKept s)
include h

theorem State.WeltKept.setf {x : Fld} {i v : Nat} (hr : 0x10000 ≤ x.reg.off := by decide) : s₀.WeltKept (s.setf x i v) :=
  ⟨fun a ha d => (Tab.get_set_other _ _ _ _ (by have := x.reg.off_le_at i; omega)).trans (h.get a ha d), h.welt, h.stations,
    h.time⟩

theorem State.WeltKept.crd {x : CrdSt} (hx : x.stations = s.crd.stations := by rfl) : s₀.WeltKept { s with crd := x } :=
  ⟨h.get, h.welt, hx.trans h.stations, h.time⟩

theorem State.WeltKept.traced {t : State} (g : s.Traced t) : s₀.WeltKept t := h.trans g.weltKept

/-! ### What reads the same -/

theorem State.WeltKept.rd {r : Reg} {i : Nat} (hr : r.at i < 0x10000) : s.rd r i = s₀.rd r i := h.get _ hr _

theorem State.WeltKept.f {x : Fld} {i : Nat} (hr : x.reg.at i < 0x10000) : s.f x i = s₀.f x i := State.f_of_rd (h.rd hr)

theorem State.WeltKept.on {x : Fld} {i : Nat} (hr : x.reg.at i < 0x10000) : s.on x i = s₀.on x i := State.on_of_rd (h.rd hr)

theorem State.WeltKept.weltC (c : Nat) : s.weltC c = s₀.weltC c := by
  unfold State.weltC
  rw [h.welt]

theorem State.WeltKept.station (n : Nat) : s.station n = s₀.station n := State.station_of_crd h.stations n

theorem State.WeltKept.head (n : Nat) : s.head n = s₀.head n := congrArg (fun x => x.queue.head?) (h.station n)

theorem State.WeltKept.now : s.now = s₀.now := by
  unfold State.now State.started
  rw [h.on (by decide), h.time]

end

/-! ### Fields of the Welt blocks -/

section
variable {x y : Fld} (i v j : Nat)

/-- A field of a register that shares no word with the one written. -/
theorem State.f_setf_phase (h : y.reg.stride = x.reg.stride ∧ y.reg.off % y.reg.stride ≠ x.reg.off % x.reg.stride := by decide) :
    (s.setf x i v).f y j = s.f y j := State.f_setf_reg _ _ (Reg.at_ne_of_phase j i h)

end

/-- A one-bit field just set to 1, and to 0. -/
theorem State.on_setf_one (s : State) {x : Fld} (i : Nat) (h : x.ok := by decide) : (s.setf x i 1).on x i = true :=
  State.on_setb_same s x i true h

theorem State.on_setf_zero (s : State) {x : Fld} (i : Nat) (h : x.ok := by decide) : (s.setf x i 0).on x i = false :=
  State.on_setb_same s x i false h

/-- A value that fits the field just set. -/
theorem State.f_setf_fits (s : State) {x : Fld} (i : Nat) {v : Nat} (hv : v < 2 ^ x.len) (h : x.ok := by decide) :
    (s.setf x i v).f x i = v := (State.f_setf_same _ _ _ _ h).trans (Nat.mod_eq_of_lt hv)

theorem State.lt_clusterCount_of_clusterUp {c : Nat} (h : s.clusterUp c = true) : c < Config.clusterCount := by
  unfold State.clusterUp at h
  rw [Bool.and_eq_true, decide_eq_true_eq] at h
  exact h.1

theorem State.weltC_of_welt {t : State} (h : t.welt = s.welt) (c : Nat) : t.weltC c = s.weltC c := by
  unfold State.weltC
  rw [h]

@[simp] theorem State.weltC_setf (s : State) (x : Fld) (i v c : Nat) : (s.setf x i v).weltC c = s.weltC c :=
  State.weltC_of_welt rfl c

theorem State.on_setf_reg (s : State) {x y : Fld} {i j : Nat} (v : Nat) (h : y.reg.at j ≠ x.reg.at i) :
    (s.setf x i v).on y j = s.on y j := congrArg (· == 1) (State.f_setf_reg s v h)

@[simp] theorem State.weltC_setb (s : State) (x : Fld) (i c : Nat) (b : Bool) : (s.setb x i b).weltC c = s.weltC c :=
  State.weltC_of_welt rfl c

/-! ### Writes of a few Welt registers -/

/-- From `s₀` to `s` the registers below 0x10000 are the same but for those at the listed offsets, and so are the stations and
the clock. -/
structure State.WeltBut (l : List Nat) (s₀ s : State) : Prop where
  get : ∀ a, a < 0x10000 → a ∉ l → ∀ d, Tab.get d s.regs a = Tab.get d s₀.regs a
  stations : s.crd.stations = s₀.crd.stations
  time : s.time = s₀.time

section
variable {l : List Nat} {s₀ : State}

theorem State.WeltBut.refl : s.WeltBut l s := ⟨fun _ _ _ _ => rfl, rfl, rfl⟩

section
variable (h : s₀.WeltBut l s)
include h

theorem State.WeltBut.trans {t : State} (g : s.WeltBut l t) : s₀.WeltBut l t :=
  ⟨fun a ha hl d => (g.get a ha hl d).trans (h.get a ha hl d), g.stations.trans h.stations, g.time.trans h.time⟩

theorem State.WeltBut.kept {t : State} (g : s.WeltKept t) : s₀.WeltBut l t :=
  ⟨fun a ha hl d => (g.get a ha d).trans (h.get a ha hl d), g.stations.trans h.stations, g.time.trans h.time⟩

theorem State.WeltBut.traced {t : State} (g : s.Traced t) : s₀.WeltBut l t := h.kept g.weltKept

theorem State.WeltBut.welt {x : WeltAll} : s₀.WeltBut l { s with welt := x } := ⟨h.get, h.stations, h.time⟩

theorem State.WeltBut.wr {r : Reg} {i : Nat} {w : Word} (hr : r.at i ∈ l) : s₀.WeltBut l (s.wr r i w) :=
  ⟨fun a ha hl d => (Tab.get_set_other _ _ _ _ (fun e : a = r.at i => hl (e.symm ▸ hr))).trans (h.get a ha hl d), h.stations, h.time⟩

theorem State.WeltBut.setf {x : Fld} {i v : Nat} (hr : x.reg.at i ∈ l) : s₀.WeltBut l (s.setf x i v) := h.wr hr

theorem State.WeltBut.incf {x : Fld} {i v : Nat} (hr : x.reg.at i ∈ l) : s₀.WeltBut l (s.incf x i v) := h.wr hr

theorem State.WeltBut.setPair {lo hi : Reg} {i v : Nat} (hlo : lo.at i ∈ l) (hhi : hi.at i ∈ l) :
    s₀.WeltBut l (s.setPair lo hi i v) := (h.wr hlo).wr hhi

theorem State.WeltBut.rd {r : Reg} {i : Nat} (hr : r.at i < 0x10000) (hl : r.at i ∉ l) : s.rd r i = s₀.rd r i := h.get _ hr hl _

theorem State.WeltBut.f {x : Fld} {i : Nat} (hr : x.reg.at i < 0x10000) (hl : x.reg.at i ∉ l) : s.f x i = s₀.f x i :=
  State.f_of_rd (h.rd hr hl)

theorem State.WeltBut.on {x : Fld} {i : Nat} (hr : x.reg.at i < 0x10000) (hl : x.reg.at i ∉ l) : s.on x i = s₀.on x i :=
  State.on_of_rd (h.rd hr hl)

theorem State.WeltBut.station (n : Nat) : s.station n = s₀.station n := State.station_of_crd h.stations n

theorem State.WeltBut.now (hl : R.TIME_STATUS.at 0 ∉ l) : s.now = s₀.now := by
  unfold State.now State.started
  rw [h.on (by decide) hl, h.time]

end
end

end Sys2Proof.Machine
end

section
/-! SUPPORT. Stuck detectors, the current limit and the over-voltage of a cluster (R138 to R141). -/
namespace Sys2Proof.Machine
open Sys2Proof

set_option Elab.async false

variable {s : State}

/-! ### Bits of a bitmap field -/

/-- A bit of a field is a bit of its register's word. -/
theorem State.bitf_eq_getLsbD (s : State) {x : Fld} {i k : Nat} (hk : k < x.len) :
    s.bitf x i k = (s.rd x.reg i).getLsbD (x.lo + k) := by
  unfold State.bitf State.f getBits
  rw [BitVec.testBit_toNat, BitVec.getLsbD_extractLsb', decide_eq_true hk, Bool.true_and]

theorem State.bitf_setBitf_other (s : State) {x : Fld} {i k e : Nat} (hx : x.ok) (hlt : e < x.len) (he : e ≠ k) :
    (s.setBitf x i k true).bitf x i e = s.bitf x i e := by
  unfold State.setBitf State.bitf setBit
  rw [State.f_setf_same _ _ _ _ hx, Nat.testBit_mod_two_pow, if_pos rfl, Nat.testBit_or, Nat.testBit_shiftLeft]
  have hne : ¬ (1 : Nat).testBit (e - k) = true ∨ ¬ k ≤ e := by
    by_cases hke : k ≤ e
    · exact .inl (by rw [Nat.testBit_one_eq_true_iff_self_eq_zero]; omega)
    · exact .inr hke
  rcases hne with h | h
  · simp [hlt, Bool.eq_false_of_not_eq_true h]
  · simp [hlt, h]

theorem State.Traced.bitf {s₀ : State} (h : s₀.Traced s) {x : Fld} {i : Nat} (hr : x.reg.at i < 0x78000) (k : Nat) :
    s.bitf x i k = s₀.bitf x i k := congrArg (Nat.testBit · k) (h.f hr)

/-! ### Events that wait (R438) -/

/-- An event that waits stays when another one is added. -/
theorem addFault_keeps {l : List FaultEv} {x : FaultEv} (e : FaultEv) (h : x ∈ l) :
    ∃ y ∈ addFault l e, y.row = x.row ∧ y.unit = x.unit := by
  induction l with
  | nil => cases h
  | cons z r ih =>
    unfold addFault
    rcases List.mem_cons.1 h with rfl | hr
    · split
      · exact ⟨_, List.mem_cons_self, rfl, rfl⟩
      · exact ⟨x, List.mem_cons_self, rfl, rfl⟩
    · split
      · exact ⟨x, List.mem_cons_of_mem _ hr, rfl, rfl⟩
      · obtain ⟨y, hy, hyx⟩ := ih hr
        exact ⟨y, List.mem_cons_of_mem _ hy, hyx⟩

theorem State.reported_fault_of_reported {row unit row' unit' : Nat} (h : s.reported row unit) :
    (s.fault row' unit').reported row unit := by
  unfold State.fault State.faultA
  split
  · extract_lets arg u1 e _ u2 u3
    obtain ⟨x, hx, hrow, hunit⟩ := h
    obtain ⟨y, hy, hyrow, hyunit⟩ := addFault_keeps e hx
    unfold State.reported
    rw [State.sysRec_flt, show u3.flt = u2.flt from State.log_flt ..]
    exact ⟨y, hy, hyrow.trans hrow, hyunit.trans hunit⟩
  · exact h

/-! ### Stuck detectors (R138, R139) -/

/-- The detector is masked and reported, and the fourth mask of a core as such. -/
def State.detectorMasked (s : State) (n d : Nat) : State :=
  let s := (s.setBitf F.DRPn_STATUS_STUCK n d true).fault 0x42 n
  if s.f F.DRPn_STATUS_STUCK n = 15 then s.fault 0x43 n else s

theorem execDetectorStuck_masks {n d : Nat} (hup : s.coreUp n = true) (hd : d < 4)
    (hu : s.bitf F.DRPn_STATUS_STUCK n d = false) (hr : s.stuckRun n d = true) :
    execDetectorStuck n d s = .next (s.detectorMasked n d) :=
  congrArg _ (if_pos (by simp [hup, hd, hu, hr]))

theorem State.detectorMasked_traced (s : State) (n d : Nat) :
    (s.setBitf F.DRPn_STATUS_STUCK n d true).Traced (s.detectorMasked n d) := by
  unfold State.detectorMasked
  exact .ite State.Traced.refl.fault.fault State.Traced.refl.fault

theorem State.detectorMasked_reported (s : State) {n : Nat} (d : Nat) (hn : n < Config.coreCount) :
    (s.detectorMasked n d).reported 0x42 n ∧
    ((s.detectorMasked n d).f F.DRPn_STATUS_STUCK n = 15 → (s.detectorMasked n d).reported 0x43 n) := by
  have hat : R.DRPn_STATUS.at n < 0x78000 := Reg.at_core_lt hn
  have h42 := (s.setBitf F.DRPn_STATUS_STUCK n d true).reported_faultA (row := 0x42) n false rfl
  unfold State.detectorMasked
  change ((s.setBitf F.DRPn_STATUS_STUCK n d true).fault 0x42 n).reported 0x42 n at h42
  generalize (s.setBitf F.DRPn_STATUS_STUCK n d true).fault 0x42 n = u at *
  dsimp only
  split
  · exact ⟨State.reported_fault_of_reported h42, fun _ => u.reported_faultA n false rfl⟩
  · next h => exact ⟨h42, fun h15 => absurd h15 h⟩

theorem detectorStatusFieldsOk : fieldsOk R.DRPn_STATUS.wf := fieldsOk_of_findReg (off := 0xD204) rfl

/-- A write of DRPn_STATUS: a written 1 clears its mask bit, and the trip count stays. -/
theorem writeReg_detectorStatus (s : State) (n : Nat) (w : Word) :
    (∀ d, d < 4 → (writeReg s .cfg R.DRPn_STATUS n w).1.bitf F.DRPn_STATUS_STUCK n d =
      (s.bitf F.DRPn_STATUS_STUCK n d && !w.getLsbD (16 + d))) ∧
    (writeReg s .cfg R.DRPn_STATUS n w).1.f F.DRPn_STATUS_TRIPS n = s.f F.DRPn_STATUS_TRIPS n := by
  refine ⟨fun d hd => ?_, writeFields_f_kept (x := F.DRPn_STATUS_TRIPS) detectorStatusFieldsOk (by decide)⟩
  obtain ⟨hin, -, -⟩ := merge_spec (s := s) (b := .cfg) (new := w) R.DRPn_STATUS.wf detectorStatusFieldsOk (s.rd R.DRPn_STATUS n) false
  rw [State.bitf_eq_getLsbD _ hd, State.bitf_eq_getLsbD _ hd]
  exact (congrArg (BitVec.getLsbD · (16 + d)) (State.rd_wr_same ..)).trans <| hin ⟨19, 16, .w1c⟩ (by decide) (16 + d) (by dsimp only; omega) (by dsimp only; omega)

/-! ### The current limit and the over-voltage (R140, R141) -/

/-- A cluster whose zero allowance holds has no ramp tokens. -/
theorem State.allowance_of_zeroAllow {c : Nat} (h : (s.weltC c).zeroAllow = true) : s.allowance c = 0 := if_pos h

theorem weltIlimTimeout_zeroes {c : Nat} {u : Word64} (hu : (s.weltC c).ilimAt = some u) (hup : s.clusterUp c = true)
    (hon : s.on F.WELTc_STATUS_ILIM c = true) (ht : 1000 < s.since u) (hn : (s.weltC c).ilimTold = false) :
    Completes (.weltIlimTimeout c) s fun t => (t.weltC c).zeroAllow = true ∧ t.reported 0x44 c ∧ t.allowance c = 0 := by
  have hx : execWeltIlimTimeout c s =
      .next ((s.setWelt c { s.weltC c with zeroAllow := true, ilimTold := true }).fault 0x44 c) := by
    unfold execWeltIlimTimeout
    dsimp only
    rw [hu]
    exact congrArg _ (if_pos (by simp [hup, hon, ht, hn]))
  refine .of_next hx rfl ?_
  have hr := (s.setWelt c { s.weltC c with zeroAllow := true, ilimTold := true }).reported_faultA (row := 0x44) c false rfl
  have hk := (State.Traced.refl (s := s.setWelt c { s.weltC c with zeroAllow := true, ilimTold := true })).fault (row := 0x44) (unit := c)
  have hz := congrArg WeltSt.zeroAllow ((hk.weltKept.weltC c).trans (State.weltC_setWelt_same ..))
  exact ⟨hz, hr, State.allowance_of_zeroAllow hz⟩

theorem weltIlimRelease_gives {c : Nat} {u : Word64} (hu : (s.weltC c).below90 = some u) (hup : s.clusterUp c = true)
    (hz : (s.weltC c).zeroAllow = true) (hp : s.passed u 1000 = true) :
    Completes (.weltIlimRelease c) s fun t => (t.weltC c).zeroAllow = false ∧ t.on F.WELTc_STATUS_ILIM c = false := by
  have hx : execWeltIlimRelease c s =
      .next ((s.setWelt c { s.weltC c with zeroAllow := false, ilimAt := none }).setf F.WELTc_STATUS_ILIM c 0) := by
    unfold execWeltIlimRelease
    dsimp only
    rw [hu]
    exact congrArg _ (if_pos (by simp [hup, hz, hp]))
  exact .of_next hx rfl ⟨congrArg WeltSt.zeroAllow (State.weltC_setWelt_same ..), State.on_setf_zero _ c⟩

/-- Settles O25: what each command writes, and an event added after another keeps it. -/
theorem detectorsAndLimits : Obligations.DetectorsAndLimits := by
  refine ⟨fun s n d hup hd hu hr => ?_, fun s n d h => ?_, fun s n w hp => ?_, fun s c iout hup hi hoff => ?_,
    fun s c u hu hup hon ht hn => weltIlimTimeout_zeroes hu hup hon ht hn,
    fun s c u hu hup hz hp => weltIlimRelease_gives hu hup hz hp, fun s c v hup hen hv => ?_⟩
  · have hn := State.lt_coreCount_of_coreUp hup
    have hat : R.DRPn_STATUS.at n < 0x78000 := Reg.at_core_lt hn
    have htr := s.detectorMasked_traced n d
    obtain ⟨h42, h43⟩ := s.detectorMasked_reported d hn
    refine .of_next (execDetectorStuck_masks hup hd hu hr) rfl ⟨?_, h42, h43, fun e he hne => ?_⟩
    · exact (htr.bitf hat d).trans (State.bitf_setBitf_same _ (by decide) hd)
    · exact (htr.bitf hat e).trans (State.bitf_setBitf_other _ (by decide) he hne)
  · exact congrArg Host.Outcome.next (if_neg (by simp [h]))
  · obtain ⟨hbits, htrips⟩ := writeReg_detectorStatus s n w
    exact .of_next (congrArg Host.Outcome.next (State.cfgWrite_takes _ hp)) rfl ⟨hbits, htrips, rfl⟩
  · have hw := s.weltC_setWelt_same c { s.weltC c with ilimAt := some s.now, below90 := none, ilimTold := false }
    exact .of_next (congrArg Host.Outcome.next (if_pos (by simp [hup, hi, hoff]))) rfl
      ⟨State.on_setf_one _ c, (congrArg WeltSt.ilimAt hw :), (congrArg WeltSt.zeroAllow hw :)⟩
  · have hat : R.WELTc_STATUS.at c < 0x10000 := Reg.at_cluster_lt (State.lt_clusterCount_of_clusterUp hup)
    refine .of_next (congrArg Host.Outcome.next (if_pos (by simp [hup, hen, hv]))) rfl ⟨?_, State.reported_faultA _ c false rfl⟩
    exact (State.Traced.refl.fault.weltKept.on hat).trans (State.on_setf_one s c)

end Sys2Proof.Machine
end

section
/-! SUPPORT. Droop trips, stretches, kicks and storms (R129 to R137). -/
namespace Sys2Proof.Machine
open Sys2Proof

set_option Elab.async false

variable {s : State}

/-! ### The account of a cluster -/

/-- An account that is up to date only takes the number of the present epoch. -/
theorem State.rollEpoch_current {c : Nat} (h : s.epoch ≤ (s.weltC c).tripsEpoch) :
    (s.rollEpoch c).weltC c = { s.weltC c with tripsEpoch := s.epoch } ∧ { s.rollEpoch c with welt := s.welt } = s := by
  unfold State.rollEpoch
  dsimp only
  by_cases he : s.epoch = (s.weltC c).tripsEpoch
  · rw [if_pos he, he]
    exact ⟨rfl, rfl⟩
  · rw [if_neg he, if_pos (by omega)]
    exact ⟨State.weltC_setWelt_same .., rfl⟩

theorem State.rollEpoch_weltBut {c : Nat} (h : s.epoch ≤ (s.weltC c).tripsEpoch) : s.WeltBut [] (s.rollEpoch c) := by
  obtain ⟨-, heq⟩ := State.rollEpoch_current h
  have hregs : (s.rollEpoch c).regs = s.regs := (congrArg State.regs heq :)
  exact ⟨fun a _ _ d => by rw [hregs], (congrArg (fun t : State => t.crd.stations) heq :), (congrArg State.time heq :)⟩

/-! ### The clamp source of storms (R136) -/

theorem State.clampAsserted_weltKept (s : State) (bit unit : Nat) : s.WeltKept (s.clampAsserted bit unit) :=
  (State.WeltKept.refl.crd (s := s)).setf (x := Fld.clampSticky)

theorem State.clampOn_weltKept (s : State) (bit unit : Nat) : s.WeltKept (s.clampOn bit unit) := by
  by_cases hc : s.clamped = true
  · rw [State.clampOn_of_clamped hc]
    exact s.clampAsserted_weltKept bit unit
  · refine State.WeltKept.traced ?_ (State.clampOn_of_not_clamped (Bool.eq_false_of_not_eq_true hc))
    exact (((s.clampAsserted_weltKept bit unit).setf (x := F.CRD_CLAMP_STATUS_ACTIVE)).setf (x := F.CRD_CLAMP_COUNT_COUNT)).crd

theorem State.clampSet_weltKept (s : State) (bit unit : Nat) (on : Bool) : s.WeltKept (s.clampSet bit unit on) := by
  unfold State.clampSet
  split
  · split
    · exact .refl
    · exact s.clampOn_weltKept bit unit
  · unfold State.clampOffSrc
    split
    · dsimp only
      split
      · exact State.WeltKept.refl.crd
      · exact State.WeltKept.refl.crd
    · exact .refl

theorem State.clampSrc_clampSet {bit : Nat} (s : State) (unit : Nat) (hbit : bit < 6) : (s.clampSet bit unit true).clampSrc bit unit = true := by
  unfold State.clampSet
  rw [if_pos rfl]
  split
  · next h => exact h
  · obtain ⟨-, hsrc, -⟩ := State.clampOn_fields (s := s) (unit := unit) hbit
    exact hsrc

/-- Storms call for the clamp: too many clusters are in one, or one lasts too long. -/
def State.stormCalls (s : State) : Bool :=
  decide (max (s.f F.DRP_STORM_STORM_CLUSTERS) 1 ≤ s.f F.DRP_STATUS_STORMS) || allClusters.any (fun c => (s.weltC c).stormLong)

theorem State.stormClamp_eq (s : State) :
    s.stormClamp = (s.setb F.DRP_STATUS_CLAMP_REQ 0 s.stormCalls).clampSet 2 0 s.stormCalls := rfl

theorem State.stormClamp_weltKept (s : State) : (s.setb F.DRP_STATUS_CLAMP_REQ 0 s.stormCalls).WeltKept s.stormClamp :=
  State.clampSet_weltKept ..

/-! ### The entry to a storm (R134 to R136) -/

/-- The cluster's storm begins and is counted. -/
def State.stormCounted (s : State) (c : Nat) : State :=
  let s := s.setWelt c { s.weltC c with
    stormAt := some s.now, stormFrom := s.window + 1, stormSeen := true, quiet := 0, stormLong := false }
  ((s.setf F.DRPCc_STATUS_STORM c 1).incf F.DRPCc_STATUS_STORM_COUNT c).incf F.DRP_STATUS_STORMS 0

theorem State.enterStorm_eq (s : State) (c : Nat) : s.enterStorm c =
    ((((s.stormCounted c).cutSent c).log 0x4801 c (s.weltC c).trips).trigger 0x06 5 c).stormClamp := rfl

/-- What an entry to a storm writes of the Welts. -/
theorem State.enterStorm_fields (s : State) {c : Nat} (hc : c < Config.clusterCount) :
    s.WeltBut [R.DRPCc_STATUS.at c, R.DRP_STATUS.at 0] (s.enterStorm c) ∧ (s.enterStorm c).on F.DRPCc_STATUS_STORM c = true ∧
    (s.enterStorm c).weltC c = { s.weltC c with
      stormAt := some s.now, stormFrom := s.window + 1, stormSeen := true, quiet := 0, stormLong := false } := by
  have hat : R.DRPCc_STATUS.at c < 0x10000 := Reg.at_cluster_lt hc
  have hne : R.DRPCc_STATUS.at c ≠ R.DRP_STATUS.at 0 := by
    change 0x0D100 + 0x4 * c ≠ 0x0D008
    omega
  have hcount : s.WeltBut [R.DRPCc_STATUS.at c, R.DRP_STATUS.at 0] (s.stormCounted c) :=
    ((State.WeltBut.refl.welt.setf (x := F.DRPCc_STATUS_STORM) (i := c) (.head _)).incf
      (x := F.DRPCc_STATUS_STORM_COUNT) (i := c) (.head _)).incf (x := F.DRP_STATUS_STORMS) (i := 0) (.tail _ (.head _))
  have hon : (s.stormCounted c).on F.DRPCc_STATUS_STORM c = true :=
    (State.on_setf_reg _ _ hne).trans ((State.on_setf_beside _ c _).trans (State.on_setf_one _ c))
  have hw : (s.stormCounted c).weltC c = { s.weltC c with
      stormAt := some s.now, stormFrom := s.window + 1, stormSeen := true, quiet := 0, stormLong := false } :=
    State.weltC_setWelt_same ..
  have hkept : (s.stormCounted c).WeltKept
      ((((s.stormCounted c).cutSent c).log 0x4801 c (s.weltC c).trips).trigger 0x06 5 c) :=
    State.WeltKept.refl.crd.traced State.Traced.refl.log.trigger
  rw [State.enterStorm_eq]
  generalize (((s.stormCounted c).cutSent c).log 0x4801 c (s.weltC c).trips).trigger 0x06 5 c = u at *
  have hclamp := u.stormClamp_weltKept
  refine ⟨((hcount.kept hkept).setf (List.mem_cons_of_mem _ List.mem_cons_self)).kept hclamp, ?_, ?_⟩
  · exact (hclamp.on hat).trans ((State.on_setf_reg _ _ hne).trans ((hkept.on hat).trans hon))
  · exact (hclamp.weltC c).trans ((State.weltC_setb ..).trans ((hkept.weltC c).trans hw))

/-! ### Trips (R129 to R134) -/

/-- The station after a trip: the stretch restarts, and the run of trips goes on. -/
def State.tripStation (s : State) (n d : Nat) : StationSt :=
  let x := s.station n
  { x with stretchLeft := s.f F.DRP_CTRL_STRETCH_CYC + 1,
           stretches := if decide (0 < x.stretchLeft) then x.stretches else x.stretches + 1,
           tripRun := some (s.tripRun n d) }

theorem State.tripStation_stretchLeft (s : State) (n d : Nat) :
    (s.tripStation n d).stretchLeft = s.f F.DRP_CTRL_STRETCH_CYC + 1 := rfl

/-- A trip at its core: the stretch restarts, and the trip is counted there and for the chip. -/
def State.tripStretched (s : State) (n d : Nat) : State :=
  let again := decide (0 < (s.station n).stretchLeft)
  let s := s.setStation n (s.tripStation n d)
  let s := if again then s else s.hang n 0x04 d
  let s := s.incf F.DRPn_STATUS_TRIPS n
  s.setPair R.DRP_TRIPS_LO R.DRP_TRIPS_HI 0 (s.pair R.DRP_TRIPS_LO R.DRP_TRIPS_HI + 1)

/-- A trip at its cluster: it is counted for the storm and kicks. -/
def State.tripKicked (s : State) (c n v : Nat) : State :=
  ((s.setWelt c { s.weltC c with trips := (s.weltC c).trips + 1 }).trace 6 0 n v).kick c

/-- What a trip writes at its core. -/
theorem State.tripStretched_fields (s : State) {n : Nat} (d : Nat) :
    (s.tripStretched n d).f F.DRPn_STATUS_TRIPS n = (s.f F.DRPn_STATUS_TRIPS n + 1) % 65536 ∧
    (s.tripStretched n d).pair R.DRP_TRIPS_LO R.DRP_TRIPS_HI = (s.pair R.DRP_TRIPS_LO R.DRP_TRIPS_HI + 1) % 2 ^ 64 ∧
    (s.tripStretched n d).welt = s.welt ∧ (s.setStation n (s.tripStation n d)).WeltBut
      [R.DRPn_STATUS.at n, R.DRP_TRIPS_LO.at 0, R.DRP_TRIPS_HI.at 0] (s.tripStretched n d) := by
  unfold State.tripStretched
  extract_lets again u1 u2 u3
  have hu2 : u1.Traced u2 := by
    unfold u2
    exact .ite .refl State.Traced.refl.hang
  have hregs : u2.regs = s.regs := by
    unfold u2
    split
    · rfl
    · rfl
  have hwelt : u2.welt = s.welt := hu2.welt
  have hpair (r : Reg) (h : r.at 0 < R.DRPn_STATUS.off) : u3.rd r = s.rd r :=
    (State.rd_setf_other u2 n _ (Reg.at_ne_of_lt h)).trans (State.rd_of_regs hregs r 0)
  clear_value u2
  refine ⟨?_, ?_, (State.setPair_welt ..).trans ((State.incf_welt ..).trans hwelt), ?_⟩
  · have hne (r : Reg) (h : r.at 0 < R.DRPn_STATUS.off) : R.DRPn_STATUS.at n ≠ r.at 0 := (Reg.at_ne_of_lt h).symm
    refine (State.f_of_rd (State.rd_setPair_other (hne _ (by decide)) (hne _ (by decide)))).trans ?_
    refine (State.f_setf_same _ _ _ _ (by decide)).trans ?_
    rw [State.f_of_regs hregs]
    rfl
  · rw [State.pair_setPair_same _ _ _ _ _ (by decide)]
    unfold State.pair
    rw [hpair _ (by decide), hpair _ (by decide)]
  · exact ((State.WeltBut.refl.traced hu2).incf (x := F.DRPn_STATUS_TRIPS) (i := n) (.head _)).setPair (.tail _ (.head _))
      (.tail _ (.tail _ (.head _)))

/-- What a kick writes. -/
theorem State.kick_fields (s : State) (c : Nat) : s.WeltBut [R.WELTc_COUNT.at c] (s.kick c) ∧ (s.kick c).weltC c =
    { s.weltC c with kickUntil := some (s.now + BitVec.ofNat 64 (s.f F.WELT_CTRL_KICK_T * 20)) } := by
  have htr (u : State) : u.Traced (u.trace 7 1 c 0) := State.Traced.refl.trace
  unfold State.kick
  refine ⟨(State.WeltBut.refl.welt.incf (x := F.WELTc_COUNT_KICKS) (i := c) (.head _)).traced (htr _), ?_⟩
  exact ((htr _).weltKept.weltC c).trans (State.weltC_setWelt_same ..)

/-- What a trip writes of its cluster. -/
theorem State.tripKicked_fields (s : State) (c n v : Nat) :
    s.WeltBut [R.WELTc_COUNT.at c] (s.tripKicked c n v) ∧ (s.tripKicked c n v).weltC c = { s.weltC c with
      trips := (s.weltC c).trips + 1, kickUntil := some (s.now + BitVec.ofNat 64 (s.f F.WELT_CTRL_KICK_T * 20)) } := by
  unfold State.tripKicked
  have hw := s.weltC_setWelt_same c { s.weltC c with trips := (s.weltC c).trips + 1 }
  have hbut : s.WeltBut [R.WELTc_COUNT.at c] (s.setWelt c { s.weltC c with trips := (s.weltC c).trips + 1 }) :=
    State.WeltBut.refl.welt
  generalize s.setWelt c { s.weltC c with trips := (s.weltC c).trips + 1 } = u at *
  have htr : u.Traced (u.trace 6 0 n v) := State.Traced.refl.trace
  replace hw := (htr.weltKept.weltC c).trans hw
  replace hbut := hbut.traced htr
  clear htr
  generalize u.trace 6 0 n v = u at *
  obtain ⟨hkick, hwelt⟩ := u.kick_fields c
  rw [hbut.now (by simp [Reg.at, R.TIME_STATUS, R.WELTc_COUNT]; omega), hw, State.f_of_rd (x := F.WELT_CTRL_KICK_T)
    (hbut.rd (r := R.WELT_CTRL) (by decide) (by simp [Reg.at, R.WELT_CTRL, R.WELTc_COUNT]; omega))] at hwelt
  exact ⟨hbut.trans hkick, hwelt⟩

/-- A cluster with more trips than STORM_TRIPS enters a storm, unless it is in one. -/
def State.stormIfOver (s : State) (c k : Nat) : State :=
  if s.f F.DRP_STORM_STORM_TRIPS < k ∧ s.on F.DRPCc_STATUS_STORM c = false then s.enterStorm c else s

theorem State.stormIfOver_fields (s : State) {c : Nat} (k : Nat) (hc : c < Config.clusterCount) :
    s.WeltBut [R.DRPCc_STATUS.at c, R.DRP_STATUS.at 0] (s.stormIfOver c k) ∧
    ((s.stormIfOver c k).weltC c).trips = (s.weltC c).trips ∧
    ((s.stormIfOver c k).weltC c).kickUntil = (s.weltC c).kickUntil ∧
    (s.f F.DRP_STORM_STORM_TRIPS < k → (s.stormIfOver c k).on F.DRPCc_STATUS_STORM c = true) ∧
    (k ≤ s.f F.DRP_STORM_STORM_TRIPS → (s.stormIfOver c k).on F.DRPCc_STATUS_STORM c = s.on F.DRPCc_STATUS_STORM c) := by
  obtain ⟨hbut, hon, hw⟩ := s.enterStorm_fields hc
  unfold State.stormIfOver
  split
  · next h => exact ⟨hbut, (congrArg WeltSt.trips hw :), (congrArg WeltSt.kickUntil hw :), fun _ => hon,
      fun hle => absurd h.1 (Nat.not_lt.2 hle)⟩
  · next h => exact ⟨.refl, rfl, rfl, fun hlt => by simpa [hlt] using h, fun _ => rfl⟩

/-! ### What reads the same around a trip -/

theorem State.tripStretched_rd (s : State) (n d : Nat) (q : Reg) (i : Nat)
    (h : q.at i < 0x0D018 ∨ 0x0D100 ≤ q.at i ∧ q.at i < 0x0D200) : (s.tripStretched n d).rd q i = s.rd q i := by
  obtain ⟨-, -, -, hbut⟩ := s.tripStretched_fields (n := n) d
  refine hbut.rd (by omega) ?_
  simp [Reg.at, R.DRPn_STATUS, R.DRP_TRIPS_LO, R.DRP_TRIPS_HI] at h ⊢
  omega

theorem State.tripKicked_rd (s : State) {c : Nat} (n v : Nat) (hc : c < Config.clusterCount) (q : Reg) (i : Nat)
    (h : q.at i < 0x0C100 ∨ 0x0D000 ≤ q.at i ∧ q.at i < 0x10000) : (s.tripKicked c n v).rd q i = s.rd q i := by
  obtain ⟨hbut, -⟩ := s.tripKicked_fields c n v
  refine hbut.rd (by omega) ?_
  replace hc : c < 32 := hc
  simp [Reg.at, R.WELTc_COUNT] at h ⊢
  omega

theorem State.stormIfOver_rd (s : State) {c : Nat} (k : Nat) (hc : c < Config.clusterCount) (q : Reg) (i : Nat)
    (h : 0x0D010 ≤ q.at i ∧ q.at i < 0x0D100 ∨ 0x0D200 ≤ q.at i ∧ q.at i < 0x10000) : (s.stormIfOver c k).rd q i = s.rd q i := by
  obtain ⟨hbut, -⟩ := s.stormIfOver_fields k hc
  refine hbut.rd (by omega) ?_
  replace hc : c < 32 := hc
  simp [Reg.at, R.DRPCc_STATUS, R.DRP_STATUS] at h ⊢
  omega

/-! ### The commands on droop -/

theorem execDroopTrip_eq {n d : Nat} (hup : s.coreUp n = true) (hd : d < 4) (hu : s.bitf F.DRPn_STATUS_STUCK n d = false) :
    ∃ v, execDroopTrip n d s = .next ((((s.rollEpoch (clusterOf n)).tripStretched n d).tripKicked (clusterOf n) n v).stormIfOver
      (clusterOf n) ((((s.rollEpoch (clusterOf n)).tripStretched n d).weltC (clusterOf n)).trips + 1)) :=
  ⟨_, congrArg _ (if_pos (by simp [hup, hd, hu]))⟩

theorem droopTrip_counts {n d : Nat} (hup : s.coreUp n = true) (hd : d < 4) (hu : s.bitf F.DRPn_STATUS_STUCK n d = false)
    (he : s.epoch ≤ (s.weltC (clusterOf n)).tripsEpoch) :
    Completes (.droopTrip n d) s fun t => (t.station n).stretchLeft = s.f F.DRP_CTRL_STRETCH_CYC + 1 ∧
      t.f F.DRPn_STATUS_TRIPS n = (s.f F.DRPn_STATUS_TRIPS n + 1) % 65536 ∧
      (t.weltC (clusterOf n)).trips = (s.weltC (clusterOf n)).trips + 1 ∧
      (t.weltC (clusterOf n)).kickUntil = some (s.now + BitVec.ofNat 64 (s.f F.WELT_CTRL_KICK_T * 20)) ∧
      t.pair R.DRP_TRIPS_LO R.DRP_TRIPS_HI = (s.pair R.DRP_TRIPS_LO R.DRP_TRIPS_HI + 1) % 2 ^ 64 ∧
      (s.f F.DRP_STORM_STORM_TRIPS < (s.weltC (clusterOf n)).trips + 1 → t.on F.DRPCc_STATUS_STORM (clusterOf n) = true) ∧
      ((s.weltC (clusterOf n)).trips + 1 ≤ s.f F.DRP_STORM_STORM_TRIPS →
        t.on F.DRPCc_STATUS_STORM (clusterOf n) = s.on F.DRPCc_STATUS_STORM (clusterOf n)) := by
  obtain ⟨v, hx⟩ := execDroopTrip_eq hup hd hu
  refine .of_next hx rfl ?_
  have hc : clusterOf n < Config.clusterCount := State.clusterOf_lt (State.lt_coreCount_of_coreUp hup)
  have hn : R.DRPn_STATUS.at n < 0x10000 := Reg.at_lt_of_le (Nat.le_of_lt (State.lt_coreCount_of_coreUp hup)) (by decide)
  obtain ⟨hroll, -⟩ := State.rollEpoch_current he
  have hroll' := State.rollEpoch_weltBut he
  generalize clusterOf n = c at *
  generalize s.rollEpoch c = r at *
  obtain ⟨htrips, hpair, hwelt, hstretch⟩ := r.tripStretched_fields (n := n) d
  have ha := r.tripStretched_rd n d
  generalize r.tripStretched n d = a at *
  obtain ⟨hkick, hkickW⟩ := a.tripKicked_fields c n v
  have hb := a.tripKicked_rd n v hc
  generalize a.tripKicked c n v = b at *
  obtain ⟨hstorm, hstormT, hstormK, hover, hunder⟩ := b.stormIfOver_fields ((a.weltC c).trips + 1) hc
  have ht := b.stormIfOver_rd ((a.weltC c).trips + 1) hc
  generalize b.stormIfOver c ((a.weltC c).trips + 1) = t at *
  have hr (q : Reg) (i : Nat) (hq : q.at i < 0x10000) : r.rd q i = s.rd q i := hroll'.rd hq List.not_mem_nil
  have hstormAt : R.DRPCc_STATUS.at c < 0x0D200 := Reg.at_lt_of_le (Nat.le_of_lt hc) (by decide)
  have hst : t.station n = r.tripStation n d :=
    (hstorm.station n).trans ((hkick.station n).trans ((hstretch.station n).trans (State.station_setStation_same ..)))
  have htripsC : (a.weltC c).trips = (s.weltC c).trips := by rw [State.weltC_of_welt hwelt c, hroll]
  have hlimit : b.f F.DRP_STORM_STORM_TRIPS = s.f F.DRP_STORM_STORM_TRIPS :=
    State.f_of_rd (((hb R.DRP_STORM 0 (by decide)).trans (ha _ _ (by decide))).trans (hr _ _ (by decide)))
  have hwas : b.on F.DRPCc_STATUS_STORM c = s.on F.DRPCc_STATUS_STORM c := by
    have hlow := R.DRPCc_STATUS.off_le_at c
    change 0x0D100 ≤ _ at hlow
    exact State.on_of_rd (((hb R.DRPCc_STATUS c (by omega)).trans (ha _ _ (by omega))).trans (hr _ _ (by omega)))
  rw [hlimit, htripsC] at hover hunder
  refine ⟨?_, ?_, ?_, ?_, ?_, hover, fun h => (hunder h).trans hwas⟩
  · rw [hst, State.tripStation_stretchLeft, State.f_of_rd (x := F.DRP_CTRL_STRETCH_CYC) (hr R.DRP_CTRL 0 (by decide))]
  · have hlow := R.DRPn_STATUS.off_le_at n
    change 0x0D204 ≤ _ at hlow
    rw [State.f_of_rd (x := F.DRPn_STATUS_TRIPS) ((ht R.DRPn_STATUS n (by omega)).trans (hb _ _ (by omega))), htrips,
      State.f_of_rd (x := F.DRPn_STATUS_TRIPS) (hr R.DRPn_STATUS n hn)]
  · rw [hstormT, hkickW]
    exact congrArg (· + 1) htripsC
  · have hnow : a.now = s.now := by
      unfold State.now State.started
      rw [State.on_of_rd (x := F.TIME_STATUS_STARTED) ((ha R.TIME_STATUS 0 (by decide)).trans (hr _ _ (by decide))),
        hstretch.time.trans hroll'.time]
    rw [hstormK, hkickW, hnow,
      State.f_of_rd (x := F.WELT_CTRL_KICK_T) ((ha R.WELT_CTRL 0 (by decide)).trans (hr _ _ (by decide)))]
  · unfold State.pair at hpair ⊢
    rw [ht R.DRP_TRIPS_LO 0 (by decide), ht R.DRP_TRIPS_HI 0 (by decide), hb R.DRP_TRIPS_LO 0 (by decide),
      hb R.DRP_TRIPS_HI 0 (by decide), hpair, hr R.DRP_TRIPS_LO 0 (by decide), hr R.DRP_TRIPS_HI 0 (by decide)]

/-- The generator cycles that have ended leave the stretch, and nothing else changes. -/
theorem stretchEnd_shortens {n : Nat} (cyc : Nat) (hup : s.coreUp n = true) : Completes (.stretchEnd ⟨n, cyc⟩) s fun t =>
    (t.station n).stretchLeft = (s.station n).stretchLeft - cyc ∧ (∀ m, m ≠ n → t.station m = s.station m) ∧
    { t with crd := s.crd } = s := by
  have hst := s.station_setStation_same n { s.station n with stretchLeft := (s.station n).stretchLeft - cyc }
  exact .of_next (congrArg Host.Outcome.next (if_pos hup)) rfl
    ⟨(congrArg StationSt.stretchLeft hst :), fun m hm => State.station_setStation_other _ _ hm, rfl⟩

theorem kickExpire_ends {c : Nat} {u : Word64} (hu : (s.weltC c).kickUntil = some u) (hup : s.clusterUp c = true)
    (ht : u.toNat ≤ s.now.toNat) :
    Completes (.kickExpire c) s fun t => (t.weltC c).kickUntil = none ∧ { t with welt := s.welt } = s := by
  have hx : execKickExpire c s = .next (s.setWelt c { s.weltC c with kickUntil := none }) := by
    unfold execKickExpire
    dsimp only
    rw [hu]
    exact congrArg _ (if_pos (by simp [hup, ht]))
  have hw := s.weltC_setWelt_same c { s.weltC c with kickUntil := none }
  exact .of_next hx rfl ⟨(congrArg WeltSt.kickUntil hw :), rfl⟩

/-- The storm of a cluster is over: its account, its flag and the count of storms. -/
def State.stormEnded (s : State) (c : Nat) : State :=
  let s := (s.setWelt c { s.weltC c with stormAt := none, stormLong := false }).setf F.DRPCc_STATUS_STORM c 0
  s.setf F.DRP_STATUS_STORMS 0 (s.f F.DRP_STATUS_STORMS - 1)

theorem execStormExit_ends {c : Nat} (hup : s.clusterUp c = true) (he : s.epoch ≤ (s.weltC c).tripsEpoch)
    (hon : s.on F.DRPCc_STATUS_STORM c = true) (hq : s.f F.DRP_STORM_STORM_QUIET + 1 ≤ (s.weltC c).quiet) :
    ∃ arg, execStormExit c s = .next ((((s.rollEpoch c).stormEnded c).log 0x4802 c arg).stormClamp) := by
  have hat : R.DRPCc_STATUS.at c < 0x10000 := Reg.at_cluster_lt (State.lt_clusterCount_of_clusterUp hup)
  obtain ⟨hroll, -⟩ := State.rollEpoch_current he
  have hroll' := State.rollEpoch_weltBut he
  have hguard : ((s.rollEpoch c).on F.DRPCc_STATUS_STORM c
      && decide ((s.rollEpoch c).f F.DRP_STORM_STORM_QUIET + 1 ≤ ((s.rollEpoch c).weltC c).quiet)) = true := by
    rw [hroll'.on hat List.not_mem_nil, hroll'.f (x := F.DRP_STORM_STORM_QUIET) (by decide) List.not_mem_nil, hroll]
    simp [hon, hq]
  unfold execStormExit
  rw [if_pos hup]
  dsimp only
  rw [if_pos hguard]
  exact ⟨_, rfl⟩

theorem stormExit_ends {c : Nat} (hup : s.clusterUp c = true) (he : s.epoch ≤ (s.weltC c).tripsEpoch)
    (hon : s.on F.DRPCc_STATUS_STORM c = true) (hq : s.f F.DRP_STORM_STORM_QUIET + 1 ≤ (s.weltC c).quiet) :
    Completes (.stormExit c) s fun t => t.on F.DRPCc_STATUS_STORM c = false ∧ (t.weltC c).stormAt = none := by
  have hat : R.DRPCc_STATUS.at c < 0x10000 := Reg.at_cluster_lt (State.lt_clusterCount_of_clusterUp hup)
  have hne : R.DRPCc_STATUS.at c ≠ R.DRP_STATUS.at 0 := by
    change 0x0D100 + 0x4 * c ≠ 0x0D008
    omega
  obtain ⟨arg, hx⟩ := execStormExit_ends hup he hon hq
  refine .of_next hx rfl ?_
  generalize s.rollEpoch c = r
  have hoff : (r.stormEnded c).on F.DRPCc_STATUS_STORM c = false := by
    unfold State.stormEnded
    rw [State.on_setf_reg _ _ hne]
    exact State.on_setf_zero _ c
  have hw : (r.stormEnded c).weltC c = { r.weltC c with stormAt := none, stormLong := false } := by
    unfold State.stormEnded
    rw [State.weltC_setf, State.weltC_setf, State.weltC_setWelt_same]
  generalize r.stormEnded c = u at *
  have hlog : u.Traced (u.log 0x4802 c arg) := State.Traced.refl.log
  generalize u.log 0x4802 c arg = v at *
  have hclamp := v.stormClamp_weltKept
  refine ⟨?_, ?_⟩
  · exact (hclamp.on hat).trans ((State.on_setf_reg _ _ hne).trans ((hlog.weltKept.on hat).trans hoff))
  · exact (congrArg WeltSt.stormAt ((hclamp.weltC c).trans ((State.weltC_setb ..).trans ((hlog.weltKept.weltC c).trans hw))) :)

theorem stormClampTimeout_clamps {c : Nat} {u : Word64} (hu : (s.weltC c).stormAt = some u) (hup : s.clusterUp c = true)
    (ht : max (s.f F.DRP_STORM_STORM_CLAMP_US) 1 * 1000 < s.since u) : Completes (.stormClampTimeout c) s fun t =>
      (t.weltC c).stormLong = true ∧ t.on F.DRP_STATUS_CLAMP_REQ = true ∧ t.clampSrc 2 0 = true := by
  have hover : s.stormOver c = true := by
    unfold State.stormOver
    rw [hu]
    exact decide_eq_true ht
  refine .of_next (congrArg Host.Outcome.next (if_pos (by rw [hup, hover]; rfl))) rfl ?_
  have hlong : ((s.setWelt c { s.weltC c with stormLong := true }).weltC c).stormLong = true :=
    (congrArg WeltSt.stormLong (State.weltC_setWelt_same ..) :)
  generalize s.setWelt c { s.weltC c with stormLong := true } = v at *
  have hcalls : v.stormCalls = true := by
    unfold State.stormCalls
    rw [Bool.or_eq_true]
    exact .inr (List.any_eq_true.2 ⟨c, List.mem_range.2 (State.lt_clusterCount_of_clusterUp hup), hlong⟩)
  have hkept := v.stormClamp_weltKept
  rw [hcalls] at hkept
  refine ⟨?_, (hkept.on (by decide)).trans (State.on_setb_same v F.DRP_STATUS_CLAMP_REQ 0 true (by decide)), ?_⟩
  · rw [hkept.weltC, State.weltC_setb]
    exact hlong
  · rw [State.stormClamp_eq, hcalls]
    exact State.clampSrc_clampSet _ _ (by decide)

/-- The counts of the storm fraction restart at the boundary. -/
theorem execStormFracUpdate_restarts (hup : s.dieUp = true) (hdue : s.due 5 0 100000 0 = true) :
    ∃ u : State, execStormFracUpdate s = .next { u with welt := { u.welt with epochs := 0, storms := 0 } } :=
  ⟨_, congrArg _ (if_pos (by rw [hup, hdue]; rfl))⟩

/-- Settles O24: a trip at its core, at its cluster and at the storm limit; the other commands each by what they write. -/
theorem droopTripsAndStorms : Obligations.DroopTripsAndStorms := by
  refine ⟨fun s n d hup hd hu he => droopTrip_counts hup hd hu he, fun s n cyc hup => stretchEnd_shortens cyc hup,
    fun s c u hu hup ht => kickExpire_ends hu hup ht, fun s c hup he hon hq => stormExit_ends hup he hon hq,
    fun s c u hu hup ht => stormClampTimeout_clamps hu hup ht, fun s hup hdue => ?_⟩
  obtain ⟨u, hx⟩ := execStormFracUpdate_restarts hup hdue
  exact .of_next hx rfl ⟨rfl, rfl⟩

end Sys2Proof.Machine
end

section
/-! SUPPORT. Width classes: class-ready, the wait for it, and the changes of a class and of a ceiling (R114, R120 to R125, R128). -/
namespace Sys2Proof.Machine
open Sys2Proof

set_option Elab.async false

variable {s : State} {c n : Nat}

/-! ### What class-ready depends on (R122) -/

/-- Class-ready is decided by EN in force, the present class, the needs, the set-point and the output. -/
theorem State.classReady_congr {t : State} (hen : t.welt.en = s.welt.en) (hout : (t.weltC c).vout = (s.weltC c).vout)
    (hcls : t.clsNow c = s.clsNow c) (hneed : ∀ k, t.need16 c k = s.need16 c k) (k : Nat) :
    t.classReady c k = s.classReady c k := by
  unfold State.clsNow at hcls
  unfold State.weltC at hout
  unfold State.classReady
  rw [hen, hcls, hneed, hout]

theorem State.need16_congr {t : State} (hvalid : t.on F.WELTc_STATUS_NEED_VALID c = s.on F.WELTc_STATUS_NEED_VALID c)
    (hn : t.rd R.WELTc_NEED_N c = s.rd R.WELTc_NEED_N c) (hwm : t.rd R.WELTc_NEED_WM c = s.rd R.WELTc_NEED_WM c)
    (hset : t.rd R.RAILr_SETPT = s.rd R.RAILr_SETPT) (k : Nat) : t.need16 c k = s.need16 c k := by
  have hcode : t.needCode c k = s.needCode c k := by
    unfold State.needCode
    split
    · exact State.f_of_rd hn
    · exact State.f_of_rd hwm
    · exact State.f_of_rd hwm
  unfold State.need16
  rw [hvalid, hcode, State.f_of_rd (x := F.RAILr_SETPT_SETPT) hset]

section
variable {s₀ : State} (h : s₀.WeltKept s) (hc : c < Config.clusterCount)
include h hc

theorem State.WeltKept.need16 (k : Nat) : s.need16 c k = s₀.need16 c k :=
  State.need16_congr (h.on (Reg.at_cluster_lt hc)) (h.rd (Reg.at_cluster_lt hc)) (h.rd (Reg.at_cluster_lt hc))
    (h.rd (by decide)) k

theorem State.WeltKept.classReady (k : Nat) : s.classReady c k = s₀.classReady c k :=
  State.classReady_congr (congrArg WeltAll.en h.welt) (congrArg WeltSt.vout (h.weltC c)) (h.f (Reg.at_cluster_lt hc))
    (h.need16 hc) k

end

/-- Without EN every class is ready (R114). -/
theorem State.classReady_of_off (h : s.welt.en = false) (k : Nat) : s.classReady c k = true :=
  if_neg (by rw [h]; exact Bool.false_ne_true)

/-- A present class is ready when the output reaches its need less 4 mV. -/
theorem State.classReady_of_reached {k : Nat} (hk : k ≤ s.clsNow c) (h : s.need16 c k ≤ (s.weltC c).vout + 64) :
    s.classReady c k = true := by
  unfold State.clsNow at hk
  unfold State.weltC at h
  unfold State.classReady
  split
  · rw [decide_eq_true hk, decide_eq_true h]
    rfl
  · rfl

theorem State.classReady_of_below {k : Nat} (hen : s.welt.en = true) (h : (s.weltC c).vout + 64 < s.need16 c k) :
    s.classReady c k = false := by
  unfold State.weltC at h
  unfold State.classReady
  rw [if_pos hen, decide_eq_false (Nat.not_le.2 h), Bool.and_false]

/-! ### The stations that wait (R122) -/

/-- CLASS_WAIT of one station is cleared where its head token's class is signalled ready. -/
def State.clearWait (s : State) (c n : Nat) : State :=
  match s.head n with
  | some t => if s.on F.CRDSn_STATUS_CLASS_WAIT n && s.classReady c t.cls then s.setf F.CRDSn_STATUS_CLASS_WAIT n 0 else s
  | none => s

theorem State.clearWaits_eq (s : State) (c : Nat) : s.clearWaits c = (coresOf c).foldl (fun s n => s.clearWait c n) s := rfl

theorem State.clearWait_weltKept (s : State) (c n : Nat) : s.WeltKept (s.clearWait c n) := by
  unfold State.clearWait
  split
  · split
    · exact State.WeltKept.refl.setf
    · exact .refl
  · exact .refl

theorem State.clearWaits_weltKept (s : State) (c : Nat) : s.WeltKept (s.clearWaits c) :=
  List.foldlRecOn (motive := s.WeltKept) _ _ .refl fun u hu m _ => hu.trans (u.clearWait_weltKept c m)

theorem State.clearWait_classWait (s : State) (c m : Nat) {tk : Token} (hh : s.head n = some tk) :
    (s.clearWait c m).on F.CRDSn_STATUS_CLASS_WAIT n =
      (s.on F.CRDSn_STATUS_CLASS_WAIT n && !(decide (n = m) && s.classReady c tk.cls)) := by
  unfold State.clearWait
  by_cases hm : n = m
  · subst hm
    rw [hh, decide_eq_true rfl]
    dsimp only
    split
    · next h =>
      rw [Bool.and_eq_true] at h
      rw [State.on_setf_zero, h.2, Bool.true_and, Bool.not_true, Bool.and_false]
    · next h =>
      rw [Bool.and_eq_true, not_and, Bool.not_eq_true] at h
      cases hw : s.on F.CRDSn_STATUS_CLASS_WAIT n
      · rfl
      · rw [h hw]
        rfl
  · have hne : R.CRDSn_STATUS.at n ≠ R.CRDSn_STATUS.at m := by
      change 0x1100C + 0x20 * n ≠ 0x1100C + 0x20 * m
      omega
    rw [decide_eq_false hm, Bool.false_and, Bool.not_false, Bool.and_true]
    split
    · split
      · exact State.on_setf_reg _ _ hne
      · rfl
    · rfl

/-- A station waits on exactly where its head token's class is not signalled ready. -/
theorem State.clearWaits_classWait (s : State) (hc : c < Config.clusterCount) (hn : clusterOf n = c) {tk : Token}
    (hh : s.head n = some tk) : (s.clearWaits c).on F.CRDSn_STATUS_CLASS_WAIT n =
      (s.on F.CRDSn_STATUS_CLASS_WAIT n && !s.classReady c tk.cls) := by
  have hfold (l : List Nat) : ∀ s : State, s.head n = some tk →
      (l.foldl (fun s n => s.clearWait c n) s).on F.CRDSn_STATUS_CLASS_WAIT n =
        (s.on F.CRDSn_STATUS_CLASS_WAIT n && !(decide (n ∈ l) && s.classReady c tk.cls)) := by
    induction l with
    | nil => intro s _; simp
    | cons m l ih =>
      intro s hs
      have hk := s.clearWait_weltKept c m
      rw [List.foldl_cons, ih _ ((hk.head n).trans hs), hk.classReady hc, s.clearWait_classWait c m hs]
      by_cases hm : n = m
      · cases s.classReady c tk.cls <;> simp [hm]
      · simp [hm]
  rw [State.clearWaits_eq, hfold _ _ hh, decide_eq_true (mem_coresOf.2 hn), Bool.true_and]

/-! ### The end of a class-up (R122, R128) -/

/-- A class-up whose class is signalled ready is over, and the trip level follows the new target. -/
def State.classOver (s : State) (c : Nat) : State :=
  match (s.weltC c).reqClass with
  | some k => if s.classReady c k then
      (s.setWelt c { s.weltC c with reqClass := none, tripClass := k }).setf F.WELTc_STATUS_RISING c 0
    else s
  | none => s

theorem State.classSettle_eq (s : State) (c : Nat) : s.classSettle c = (s.classOver c).clearWaits c := rfl

theorem State.classOver_ready {k : Nat} (hk : (s.weltC c).reqClass = some k) (hr : s.classReady c k = true) :
    s.classOver c = (s.setWelt c { s.weltC c with reqClass := none, tripClass := k }).setf F.WELTc_STATUS_RISING c 0 := by
  unfold State.classOver
  rw [hk]
  exact if_pos hr

theorem State.classOver_unready {k : Nat} (hk : (s.weltC c).reqClass = some k) (hr : s.classReady c k = false) :
    s.classOver c = s := by
  unfold State.classOver
  rw [hk]
  exact if_neg (by rw [hr]; exact Bool.false_ne_true)

/-- The end of a class-up writes RISING, and the class of the request and of the trip level. -/
theorem State.classOver_cases (s : State) (c : Nat) : s.classOver c = s ∨ ∃ k, s.classOver c =
    (s.setWelt c { s.weltC c with reqClass := none, tripClass := k }).setf F.WELTc_STATUS_RISING c 0 := by
  unfold State.classOver
  split
  · split
    · exact .inr ⟨_, rfl⟩
    · exact .inl rfl
  · exact .inl rfl

theorem State.classOver_f (s : State) {y : Fld} {j : Nat} (h : Fld.Apart F.WELTc_STATUS_RISING c y j) :
    (s.classOver c).f y j = s.f y j := by
  obtain e | ⟨k, e⟩ := s.classOver_cases c
  · rw [e]
  · rw [e, State.f_setf_apart _ _ h]
    rfl

theorem State.classOver_fields (s : State) (c : Nat) : (s.classOver c).welt.en = s.welt.en ∧ (s.classOver c).crd = s.crd ∧
    ∀ d, ((s.classOver c).weltC d).vout = (s.weltC d).vout ∧ ((s.classOver c).weltC d).drop = (s.weltC d).drop := by
  obtain e | ⟨k, e⟩ := s.classOver_cases c
  · rw [e]
    exact ⟨rfl, rfl, fun d => ⟨rfl, rfl⟩⟩
  · rw [e]
    refine ⟨rfl, rfl, fun d => ?_⟩
    rw [State.weltC_setf]
    by_cases hd : d = c
    · rw [hd, State.weltC_setWelt_same]
      exact ⟨rfl, rfl⟩
    · rw [State.weltC_setWelt_other _ _ hd]
      exact ⟨rfl, rfl⟩

/-! ### The end of a class-up and the stations that waited for it -/

/-- Other fields of the status register, and the fields of other registers of the clusters, are apart from RISING. -/
theorem State.classSettle_f (s : State) {y : Fld} {j : Nat} (h : Fld.Apart F.WELTc_STATUS_RISING c y j)
    (hlt : y.reg.at j < 0x10000) : (s.classSettle c).f y j = s.f y j :=
  (((s.classOver c).clearWaits_weltKept c).f hlt).trans (s.classOver_f h)

theorem State.classSettle_on (s : State) {y : Fld} {j : Nat} (h : Fld.Apart F.WELTc_STATUS_RISING c y j)
    (hlt : y.reg.at j < 0x10000) : (s.classSettle c).on y j = s.on y j := congrArg (· == 1) (s.classSettle_f h hlt)

theorem State.classSettle_clsNow (s : State) (hc : c < Config.clusterCount) : (s.classSettle c).clsNow c = s.clsNow c :=
  s.classSettle_f (.inr ⟨rfl, by decide, by decide⟩) (Reg.at_cluster_lt hc)

theorem State.classSettle_station (s : State) (c m : Nat) : (s.classSettle c).station m = s.station m := by
  obtain ⟨-, hcrd, -⟩ := s.classOver_fields c
  exact (((s.classOver c).clearWaits_weltKept c).station m).trans (State.station_of_crd (congrArg CrdSt.stations hcrd) m)

theorem State.classSettle_welt (s : State) (c : Nat) : (s.classSettle c).welt = (s.classOver c).welt :=
  ((s.classOver c).clearWaits_weltKept c).welt

theorem State.classOver_rd (s : State) {q : Reg} {j : Nat} (h : q.at j ≠ R.WELTc_STATUS.at c) :
    (s.classOver c).rd q j = s.rd q j := by
  obtain e | ⟨k, e⟩ := s.classOver_cases c
  · rw [e]
  · rw [e, State.rd_setf_other _ _ _ h]
    rfl

/-- The end of a class-up changes no class's readiness. -/
theorem State.classOver_classReady (s : State) (c k : Nat) : (s.classOver c).classReady c k = s.classReady c k := by
  obtain ⟨hen, -, hwelt⟩ := s.classOver_fields c
  obtain ⟨hout, -⟩ := hwelt c
  have hset : R.RAILr_SETPT.at 0 ≠ R.WELTc_STATUS.at c := Reg.at_ne_of_lt (by decide)
  refine State.classReady_congr hen hout (s.classOver_f (.inr ⟨rfl, by decide, by decide⟩)) (State.need16_congr ?_ ?_ ?_ ?_) k
  · exact congrArg (· == 1) (s.classOver_f (y := F.WELTc_STATUS_NEED_VALID) (.inr ⟨rfl, by decide, by decide⟩))
  · exact s.classOver_rd (Reg.at_ne_of_phase c c)
  · exact s.classOver_rd (Reg.at_ne_of_phase c c)
  · exact s.classOver_rd hset

theorem State.classSettle_classReady (s : State) (hc : c < Config.clusterCount) (k : Nat) :
    (s.classSettle c).classReady c k = s.classReady c k :=
  (((s.classOver c).clearWaits_weltKept c).classReady hc k).trans (s.classOver_classReady c k)

/-- A station of the cluster waits on exactly where its head token's class is not signalled ready. -/
theorem State.classSettle_classWait (s : State) (hc : c < Config.clusterCount) (hn : clusterOf n = c) {tk : Token}
    (hh : s.head n = some tk) : (s.classSettle c).on F.CRDSn_STATUS_CLASS_WAIT n =
      (s.on F.CRDSn_STATUS_CLASS_WAIT n && !s.classReady c tk.cls) := by
  obtain ⟨-, hcrd, -⟩ := s.classOver_fields c
  have hhead : (s.classOver c).head n = some tk :=
    (congrArg (fun x => x.queue.head?) (State.station_of_crd (congrArg CrdSt.stations hcrd) n)).trans hh
  have hne : R.CRDSn_STATUS.at n ≠ R.WELTc_STATUS.at c := (Reg.at_ne_of_lt (Nat.lt_of_lt_of_le (Reg.at_cluster_lt hc) (by decide))).symm
  rw [State.classSettle_eq, (s.classOver c).clearWaits_classWait hc hn hhead, s.classOver_classReady,
    State.on_of_rd (x := F.CRDSn_STATUS_CLASS_WAIT) (s.classOver_rd hne)]

/-- A class-up whose class is signalled ready ends. -/
theorem State.classSettle_ready (hc : c < Config.clusterCount) {k : Nat} (hk : (s.weltC c).reqClass = some k)
    (hr : s.classReady c k = true) : ((s.classSettle c).weltC c).reqClass = none ∧
    ((s.classSettle c).weltC c).tripClass = k ∧ (s.classSettle c).on F.WELTc_STATUS_RISING c = false := by
  have hkept := (s.classOver c).clearWaits_weltKept c
  rw [State.classSettle_eq, hkept.weltC, hkept.on (Reg.at_cluster_lt hc), State.classOver_ready hk hr, State.weltC_setf,
    State.weltC_setWelt_same]
  exact ⟨rfl, rfl, State.on_setf_zero _ c⟩

/-- Until then it goes on. -/
theorem State.classSettle_unready (hc : c < Config.clusterCount) {k : Nat} (hk : (s.weltC c).reqClass = some k)
    (hr : s.classReady c k = false) : (s.classSettle c).weltC c = s.weltC c ∧
    (s.classSettle c).on F.WELTc_STATUS_RISING c = s.on F.WELTc_STATUS_RISING c := by
  have hkept := (s.classOver c).clearWaits_weltKept c
  rw [State.classSettle_eq, hkept.weltC, hkept.on (Reg.at_cluster_lt hc), State.classOver_unready hk hr]
  exact ⟨rfl, rfl⟩

theorem State.classSettle_vout (s : State) (c d : Nat) : ((s.classSettle c).weltC d).vout = (s.weltC d).vout := by
  obtain ⟨-, -, hwelt⟩ := s.classOver_fields c
  obtain ⟨hout, -⟩ := hwelt d
  exact (congrArg WeltSt.vout (State.weltC_of_welt (s.classSettle_welt c) d)).trans hout

/-! ### A wider head token (R121, R123 to R125) -/

theorem Token.cls_lt (tk : Token) : tk.cls < 4 := by
  unfold Token.cls formatClass
  split
  all_goals decide

/-- A class wider than the present one becomes the present one, and the ceiling is at least as wide. -/
theorem State.noteAdmit_fields (s : State) (hc : c < Config.clusterCount) {k : Nat} (hk : s.clsNow c < k) (hlt : k < 4) :
    s.WeltBut [R.WELTc_STATUS.at c] (s.noteAdmit c k) ∧ (s.noteAdmit c k).clsNow c = k ∧
    k ≤ (s.noteAdmit c k).f F.WELTc_STATUS_CEIL_EFF c ∧ ((s.noteAdmit c k).weltC c).tripClass = (s.weltC c).tripClass := by
  have hat : R.WELTc_STATUS.at c < 0x10000 := Reg.at_cluster_lt hc
  unfold State.noteAdmit
  extract_lets w now w' _ u1 u2
  have hw : (u1.weltC c).tripClass = (s.weltC c).tripClass := by
    have hsame : u1.weltC c = w' := s.weltC_setWelt_same c w'
    rw [hsame]
    unfold w'
    split
    all_goals rfl
  have hbut : s.WeltBut [R.WELTc_STATUS.at c] u1 := State.WeltBut.refl.welt
  have hlow : u1.f F.WELTc_STATUS_CLASS c < k := hk
  have hcls : (u1.setf F.WELTc_STATUS_CLASS c k).clsNow c = k := State.f_setf_fits u1 c hlt
  have htr : (u1.setf F.WELTc_STATUS_CLASS c k).Traced u2 := by
    unfold u2
    rw [if_pos hlow]
    exact State.Traced.refl.trace
  replace hw : (u2.weltC c).tripClass = (s.weltC c).tripClass := by
    rw [htr.weltKept.weltC, State.weltC_setf, hw]
  replace hcls : u2.clsNow c = k := (htr.weltKept.f hat).trans hcls
  replace hbut := (hbut.setf (x := F.WELTc_STATUS_CLASS) (i := c) (v := k) (.head _)).traced htr
  clear_value u2
  split
  · refine ⟨hbut.setf (x := F.WELTc_STATUS_CEIL_EFF) (i := c) (.head _), ?_, ?_, ?_⟩
    · exact (State.f_setf_beside u2 c k).trans hcls
    · exact Nat.le_of_eq (State.f_setf_fits u2 c hlt).symm
    · rw [State.weltC_setf, hw]
  · next h => exact ⟨hbut, hcls, Nat.not_lt.1 h, hw⟩

/-- An admission leaves the credit economy. -/
theorem State.noteAdmit_creditKept (s : State) (hc : c < Config.clusterCount) (k : Nat) : s.CreditKept (s.noteAdmit c k) := by
  have hkept := s.noteTile_creditKept k hc
  have hsame : (s.noteTile c k).regs = (s.noteAdmit c k).regs ∧ (s.noteTile c k).crd = (s.noteAdmit c k).crd := by
    unfold State.noteTile
    dsimp only
    split
    · exact ⟨rfl, rfl⟩
    · exact ⟨rfl, rfl⟩
  obtain ⟨hregs, hcrd⟩ := hsame
  exact ⟨fun a ha hb d => by rw [← hregs, hkept.get a ha hb d], hcrd.symm.trans hkept.crd⟩

theorem State.setClass_same {k : Nat} (h : s.clsNow c = k) : s.setClass c k = s := if_pos h

/-- A class-up to the present class `k` is in progress. -/
def State.classRising (s : State) (c k : Nat) : State :=
  let s := s.setWelt c { s.weltC c with reqClass := some k }
  ((s.setClass c k).setf F.WELTc_STATUS_RISING c 1).incf F.WELTc_COUNT_CLASS_UPS c

theorem State.classRising_fields (s : State) (hc : c < Config.clusterCount) {k : Nat} (h : s.clsNow c = k) :
    (s.classRising c k).clsNow c = k ∧
    (s.classRising c k).f F.WELTc_STATUS_CEIL_EFF c = s.f F.WELTc_STATUS_CEIL_EFF c ∧
    (s.classRising c k).on F.WELTc_STATUS_RISING c = true ∧
    (s.classRising c k).on F.CRDSn_STATUS_CLASS_WAIT n = s.on F.CRDSn_STATUS_CLASS_WAIT n ∧
    (s.classRising c k).station n = s.station n ∧
    (s.classRising c k).weltC c = { s.weltC c with reqClass := some k } := by
  have hlow : 0x10000 ≤ R.CRDSn_STATUS.at n := Nat.le_trans (by decide) (Reg.off_le_at _ _)
  have hne {r : Reg} (hr : r.at c < 0x10000) : R.CRDSn_STATUS.at n ≠ r.at c := by omega
  have hw := s.weltC_setWelt_same c { s.weltC c with reqClass := some k }
  have hregs : (s.setWelt c { s.weltC c with reqClass := some k }).regs = s.regs := rfl
  have hst : (s.setWelt c { s.weltC c with reqClass := some k }).station n = s.station n := rfl
  unfold State.classRising
  dsimp only
  generalize s.setWelt c { s.weltC c with reqClass := some k } = u at *
  have hcls : u.clsNow c = k := (State.f_of_regs hregs _ _).trans h
  rw [State.setClass_same hcls]
  unfold State.incf
  refine ⟨?_, ?_, ?_, ?_, hst, ?_⟩
  · exact (State.f_setf_elsewhere _ c _).trans ((State.f_setf_beside _ c _).trans hcls)
  · rw [State.f_setf_elsewhere, State.f_setf_beside, State.f_of_regs hregs]
  · rw [State.on_setf_elsewhere]
    exact State.on_setf_one _ c
  · rw [State.on_setf_reg _ _ (hne (Reg.at_cluster_lt hc)), State.on_setf_reg _ _ (hne (Reg.at_cluster_lt hc)),
      State.on_of_regs hregs]
  · rw [State.weltC_setf, State.weltC_setf, hw]

/-- The class-up that a wider head token of class `k` begins. -/
def State.classUp (s : State) (n k : Nat) : State :=
  ((s.setf F.CRDSn_STATUS_CLASS_WAIT n 1).noteAdmit (clusterOf n) k).classRising (clusterOf n) k

theorem State.classUp_fields (s : State) {k : Nat} (hn : n < Config.coreCount) (hk : s.clsNow (clusterOf n) < k) (hlt : k < 4) :
    (s.classUp n k).clsNow (clusterOf n) = k ∧ k ≤ (s.classUp n k).f F.WELTc_STATUS_CEIL_EFF (clusterOf n) ∧
    (s.classUp n k).station n = s.station n ∧ (s.classUp n k).on F.CRDSn_STATUS_CLASS_WAIT n = true ∧
    (s.classUp n k).on F.WELTc_STATUS_RISING (clusterOf n) = true ∧
    ((s.classUp n k).weltC (clusterOf n)).reqClass = some k ∧
    ((s.classUp n k).weltC (clusterOf n)).tripClass = (s.weltC (clusterOf n)).tripClass := by
  have hc := State.clusterOf_lt hn
  unfold State.classUp
  generalize clusterOf n = c at *
  have hat : R.WELTc_STATUS.at c < 0x10000 := Reg.at_cluster_lt hc
  have hlow : 0x10000 ≤ R.CRDSn_STATUS.at n := Nat.le_trans (by decide) (Reg.off_le_at _ _)
  have hcls : (s.setf F.CRDSn_STATUS_CLASS_WAIT n 1).clsNow c = s.clsNow c :=
    State.WeltKept.refl.setf.f hat
  have hwait : (s.setf F.CRDSn_STATUS_CLASS_WAIT n 1).on F.CRDSn_STATUS_CLASS_WAIT n = true := State.on_setf_one s n
  rw [← hcls] at hk
  obtain ⟨hbut, hnow, hceil, htrip⟩ := (s.setf F.CRDSn_STATUS_CLASS_WAIT n 1).noteAdmit_fields hc hk hlt
  have hkept := (s.setf F.CRDSn_STATUS_CLASS_WAIT n 1).noteAdmit_creditKept hc k
  replace hwait := (State.on_of_rd (x := F.CRDSn_STATUS_CLASS_WAIT)
    (hkept.rd hlow (Reg.at_lt_of_le (Nat.le_of_lt hn) (by decide)))).trans hwait
  replace htrip := htrip.trans (congrArg WeltSt.tripClass (State.weltC_setf ..))
  have hst := (hbut.station n).trans (State.station_setf ..)
  generalize (s.setf F.CRDSn_STATUS_CLASS_WAIT n 1).noteAdmit c k = u at *
  obtain ⟨hnow', hceil', hrise, hwait', hst', hw⟩ := u.classRising_fields (n := n) hc hnow
  rw [hceil', hwait', hst', hw]
  exact ⟨hnow', hceil, hst, hwait, hrise, rfl, htrip⟩

theorem execClassUpRequest_wider {tk : Token} (hh : s.head n = some tk) (hup : s.coreUp n = true)
    (hw : max (s.clsNow (clusterOf n)) ((s.weltC (clusterOf n)).reqClass.getD 0) < tk.cls) :
    execClassUpRequest n s = .next ((s.classUp n tk.cls).classSettle (clusterOf n)) := by
  unfold execClassUpRequest
  rw [hh]
  exact congrArg _ (if_pos (by rw [hup, decide_eq_true hw]; rfl))

theorem classUpRequest_wider {tk : Token} (hh : s.head n = some tk) (hup : s.coreUp n = true)
    (hw : max (s.clsNow (clusterOf n)) ((s.weltC (clusterOf n)).reqClass.getD 0) < tk.cls) :
    Completes (.classUpRequest n) s fun t =>
      t.clsNow (clusterOf n) = tk.cls ∧ tk.cls ≤ t.f F.WELTc_STATUS_CEIL_EFF (clusterOf n) ∧ t.station n = s.station n ∧
      (t.classReady (clusterOf n) tk.cls = false → (t.weltC (clusterOf n)).reqClass = some tk.cls ∧
        t.on F.CRDSn_STATUS_CLASS_WAIT n = true ∧ t.on F.WELTc_STATUS_RISING (clusterOf n) = true ∧
        (t.weltC (clusterOf n)).tripClass = (s.weltC (clusterOf n)).tripClass) ∧
      (t.classReady (clusterOf n) tk.cls = true → (t.weltC (clusterOf n)).reqClass = none ∧
        t.on F.CRDSn_STATUS_CLASS_WAIT n = false ∧ t.on F.WELTc_STATUS_RISING (clusterOf n) = false ∧
        (t.weltC (clusterOf n)).tripClass = tk.cls) := by
  have hn := State.lt_coreCount_of_coreUp hup
  have hc := State.clusterOf_lt hn
  obtain ⟨hnow, hceil, hst, hwait, hrise, hreq, htrip⟩ := s.classUp_fields hn (lt_of_le_of_lt (le_max_left ..) hw) tk.cls_lt
  refine .of_next (execClassUpRequest_wider hh hup hw) rfl ?_
  generalize s.classUp n tk.cls = u at *
  have hwaits := u.classSettle_classWait hc rfl ((congrArg (fun x => x.queue.head?) hst).trans hh)
  rw [hwait, Bool.true_and] at hwaits
  rw [u.classSettle_classReady hc, u.classSettle_clsNow hc, u.classSettle_station,
    u.classSettle_f (y := F.WELTc_STATUS_CEIL_EFF) (.inr ⟨rfl, by decide, by decide⟩) (Reg.at_cluster_lt hc)]
  refine ⟨hnow, hceil, hst, fun hr => ?_, fun hr => ?_⟩
  · obtain ⟨hsame, hrising⟩ := State.classSettle_unready hc hreq hr
    rw [hwaits, hr, hsame]
    exact ⟨hreq, rfl, hrising.trans hrise, htrip⟩
  · obtain ⟨hnone, hk, hoff⟩ := State.classSettle_ready hc hreq hr
    rw [hwaits, hr]
    exact ⟨hnone, rfl, hoff, hk⟩

/-! ### The output reaches the need (R114, R122, R128) -/

/-- The output as last seen. -/
def State.outputSeen (s : State) (c vout : Nat) : State := s.setWelt c { s.weltC c with vout := vout }

theorem State.outputSeen_weltC (s : State) (c vout : Nat) : (s.outputSeen c vout).weltC c = { s.weltC c with vout := vout } :=
  State.weltC_setWelt_same ..

theorem execClassReady_eq {vout : Nat} (hup : s.clusterUp c = true) :
    execClassReady c vout s = .next ((s.outputSeen c vout).classSettle c) := by
  unfold execClassReady State.outputSeen
  rw [if_pos hup]

theorem classReady_signals {vout k : Nat} (hup : s.clusterUp c = true) (hk : (s.weltC c).reqClass = some k)
    (h : s.welt.en = false ∨ (k ≤ s.clsNow c ∧ s.need16 c k ≤ vout + 64)) :
    Completes (.classReady c vout) s fun t => (t.weltC c).vout = vout ∧ (t.weltC c).reqClass = none ∧
      (t.weltC c).tripClass = k ∧ t.on F.WELTc_STATUS_RISING c = false := by
  refine .of_next (execClassReady_eq hup) rfl ?_
  have hw := s.outputSeen_weltC c vout
  have hready : (s.outputSeen c vout).classReady c k = true := by
    rcases h with hoff | ⟨hcls, hneed⟩
    · exact State.classReady_of_off (s := s.outputSeen c vout) hoff k
    · exact State.classReady_of_reached hcls (by rw [hw]; exact hneed)
  generalize s.outputSeen c vout = u at *
  rw [u.classSettle_vout, hw]
  exact ⟨rfl, State.classSettle_ready (State.lt_clusterCount_of_clusterUp hup) (by rw [hw]; exact hk) hready⟩

theorem classReady_frees {vout : Nat} (hup : s.clusterUp c = true) (hn : clusterOf n = c) {tk : Token} (hh : s.head n = some tk) :
    Completes (.classReady c vout) s fun t => t.classReady c tk.cls = true → t.on F.CRDSn_STATUS_CLASS_WAIT n = false := by
  have hc := State.lt_clusterCount_of_clusterUp hup
  have hh' : (s.outputSeen c vout).head n = some tk := hh
  refine .of_next (execClassReady_eq hup) rfl fun hr => ?_
  rw [State.classSettle_classReady _ hc] at hr
  rw [State.classSettle_classWait _ hc hn hh', hr]
  exact Bool.and_false _

theorem classReady_waits {vout k : Nat} (hen : s.welt.en = true) (hk : (s.weltC c).reqClass = some k)
    (h : vout + 64 < s.need16 c k) : Completes (.classReady c vout) s fun t => (t.weltC c).reqClass = some k ∧
      (t.weltC c).tripClass = (s.weltC c).tripClass ∧ t.on F.WELTc_STATUS_RISING c = s.on F.WELTc_STATUS_RISING c := by
  by_cases hup : s.clusterUp c = true
  · refine .of_next (execClassReady_eq hup) rfl ?_
    have hw := s.outputSeen_weltC c vout
    have hready : (s.outputSeen c vout).classReady c k = false := State.classReady_of_below hen (by rw [hw]; exact h)
    have hrising : (s.outputSeen c vout).on F.WELTc_STATUS_RISING c = s.on F.WELTc_STATUS_RISING c := rfl
    generalize s.outputSeen c vout = u at *
    obtain ⟨hsame, hrising'⟩ := State.classSettle_unready (State.lt_clusterCount_of_clusterUp hup) (by rw [hw]; exact hk) hready
    rw [hsame, hw]
    exact ⟨hk, rfl, hrising'.trans hrising⟩
  · exact .of_next (congrArg Host.Outcome.next (if_neg hup)) rfl ⟨hk, rfl, rfl⟩

/-! ### Classes and ceilings narrow (R124, R125) -/

theorem classExpire_narrows (hup : s.clusterUp c = true) (hk : (s.weltC c).reqClass = none) (hlt : s.classOf c < s.clsNow c) :
    Completes (.classExpire c) s fun t => t.clsNow c = s.classOf c ∧ (t.weltC c).tripClass = s.classOf c := by
  have hat : R.WELTc_STATUS.at c < 0x10000 := Reg.at_cluster_lt (State.lt_clusterCount_of_clusterUp hup)
  refine .of_next (congrArg Host.Outcome.next ((if_pos hup).trans (if_pos ⟨hk, hlt⟩))) rfl ?_
  have hw := s.weltC_setWelt_same c { s.weltC c with tripClass := s.classOf c }
  have hcls : (s.setWelt c { s.weltC c with tripClass := s.classOf c }).clsNow c = s.clsNow c := rfl
  have hfits : s.clsNow c < 4 := getBits_lt ..
  change (State.setClass _ c (s.classOf c)).clsNow c = _ ∧ ((State.setClass _ c (s.classOf c)).weltC c).tripClass = _
  generalize s.setWelt c { s.weltC c with tripClass := s.classOf c } = u at *
  have hset : u.setClass c (s.classOf c) = (u.setf F.WELTc_STATUS_CLASS c (s.classOf c)).trace 7 0 c (s.classOf c) :=
    if_neg (by rw [hcls]; exact Nat.ne_of_gt hlt)
  have htr := (State.Traced.refl (s := u.setf F.WELTc_STATUS_CLASS c (s.classOf c))).trace (k := 7) (typ := 0) (idx := c)
    (value := s.classOf c) (ext := none)
  rw [hset]
  refine ⟨(htr.weltKept.f hat).trans (State.f_setf_fits _ c (lt_trans hlt hfits)), ?_⟩
  rw [htr.weltKept.weltC, State.weltC_setf, hw]

theorem ceilHoldExpire_narrows (hup : s.clusterUp c = true) (hlt : s.ceilOf c < s.f F.WELTc_STATUS_CEIL_EFF c) :
    Completes (.ceilHoldExpire c) s fun t => t.f F.WELTc_STATUS_CEIL_EFF c = s.ceilOf c ∧
      t.f F.WELTc_STATUS_CLASS c = s.f F.WELTc_STATUS_CLASS c ∧ { t with regs := s.regs } = s := by
  refine .of_next (congrArg Host.Outcome.next (if_pos (by rw [hup, decide_eq_true hlt]; rfl))) rfl ⟨?_, ?_, rfl⟩
  · exact State.f_setf_fits _ c (lt_trans hlt (getBits_lt ..))
  · exact State.f_setf_beside _ c _

/-- Settles O23: each change of a class is what its command writes, followed by what class-ready makes of it. -/
theorem widthClasses : Obligations.WidthClasses := by
  refine ⟨fun s n tk hh hup hw => classUpRequest_wider hh hup hw, fun s c vout k hup hk h => classReady_signals hup hk h,
    fun s c vout n tk hup hn hh => classReady_frees hup hn hh, fun s c vout k hen hk h => classReady_waits hen hk h,
    fun s c hup hk hlt => classExpire_narrows hup hk hlt, fun s c k hk => ?_, fun s c hup hlt => ceilHoldExpire_narrows hup hlt⟩
  refine congrArg Host.Outcome.next ?_
  split
  · exact if_neg fun h => Option.some_ne_none k (hk.symm.trans h.1)
  · rfl

end Sys2Proof.Machine
end

section
/-! SUPPORT. Welt reports: what a controller reports at 100 ns, and the needs, the dissipations and the rail need at 1 µs (R113
to R119, R126). -/
namespace Sys2Proof.Machine
open Sys2Proof

set_option Elab.async false

variable {s : State} {c : Nat}

/-! ### The report at 100 ns (R112 to R114, R140) -/

theorem State.clearWaits_crd (s : State) (c : Nat) : (s.clearWaits c).crd = s.crd := by
  refine List.foldlRecOn (motive := fun t : State => t.crd = s.crd) (coresOf c) (fun s n => s.clearWait c n) rfl fun u hu m _ => ?_
  refine Eq.trans ?_ hu
  unfold State.clearWait
  split
  · split
    · rfl
    · rfl
  · rfl

theorem State.classSettle_crd (s : State) (c : Nat) : (s.classSettle c).crd = s.crd := by
  obtain ⟨-, hcrd, -⟩ := s.classOver_fields c
  exact ((s.classOver c).clearWaits_crd c).trans hcrd

theorem State.classSettle_en (s : State) (c : Nat) : (s.classSettle c).welt.en = s.welt.en := by
  obtain ⟨hen, -, -⟩ := s.classOver_fields c
  exact (congrArg WeltAll.en (s.classSettle_welt c)).trans hen

/-- A new current writes the flag of the limit alone. -/
theorem State.noteCurrent_f (s : State) (c iout : Nat) {y : Fld} {j : Nat} (h : Fld.Apart F.WELTc_STATUS_ILIM c y j) :
    (s.noteCurrent c iout).f y j = s.f y j := by
  unfold State.noteCurrent
  extract_lets w below u
  have hu : u.regs = s.regs := rfl
  clear_value u
  split
  · rw [State.f_setf_apart _ _ h]
    exact State.f_of_regs hu y j
  · exact State.f_of_regs hu y j

theorem State.noteCurrent_fields (s : State) (c iout : Nat) :
    (s.noteCurrent c iout).crd = s.crd ∧ (s.noteCurrent c iout).welt.en = s.welt.en := by
  unfold State.noteCurrent
  extract_lets w below u
  have hu : u.crd = s.crd ∧ u.welt.en = s.welt.en := ⟨rfl, rfl⟩
  clear_value u
  split
  · exact hu
  · exact hu

/-- EN takes effect, the voltages are seen, and DROPOUT follows them. -/
def State.outputsSeen (s : State) (c vrail vout dropout : Nat) : State :=
  let s := s.serve 3 c
  let s := { s with welt := { s.welt with en := s.on F.WELT_CTRL_EN } }
  let s := s.setWelt c { s.weltC c with vout := vout, drop := vrail - vout, room := vrail - dropout }
  let d := decide (vrail < s.clusterTarget c + dropout)
  if s.on F.WELTc_STATUS_DROPOUT c = d then s
  else (s.setb F.WELTc_STATUS_DROPOUT c d).trace 7 2 c (if d then 1 else 0)

theorem State.outputsSeen_en (s : State) (c vrail vout dropout : Nat) :
    (s.outputsSeen c vrail vout dropout).welt.en = s.on F.WELT_CTRL_EN := by
  unfold State.outputsSeen
  dsimp only
  split
  · rfl
  · exact congrArg WeltAll.en State.Traced.refl.trace.welt

/-- A report: the actual drop, the headroom and the current. -/
def State.reportShown (s : State) (c drop h iout vout : Nat) : State :=
  let s := s.setf F.WELTc_STATUS_DROP_ACT c drop
  let s := s.setf F.WELTc_STATUS_HEADROOM c h
  let s := (s.setf F.WELTc_POWER_IOUT c iout).telem (0x20000000 + c) iout
  let k := s.cluster c
  (s.setCluster c { k with h := h, iout := iout }).notePower c iout vout (s.clusterOn c && s.welt.en)

theorem State.reportShown_fields (s : State) (c drop vout : Nat) {h iout : Nat} (hh : h < 256) (hi : iout < 65536) :
    (s.reportShown c drop h iout vout).welt = s.welt ∧ ((s.reportShown c drop h iout vout).cluster c).h = h ∧
    ((s.reportShown c drop h iout vout).cluster c).iout = iout ∧
    (s.reportShown c drop h iout vout).f F.WELTc_STATUS_HEADROOM c = h ∧
    (s.reportShown c drop h iout vout).f F.WELTc_POWER_IOUT c = iout := by
  unfold State.reportShown
  extract_lets u1 u2 u3 k
  have hhead : u3.f F.WELTc_STATUS_HEADROOM c = h := (State.f_setf_elsewhere u2 c iout).trans (State.f_setf_fits u1 c hh)
  have hiout : u3.f F.WELTc_POWER_IOUT c = iout := State.f_setf_fits u2 c hi
  have hwelt : u3.welt = s.welt := rfl
  clear_value u3
  have hcl := u3.cluster_setCluster_same c { k with h := h, iout := iout }
  exact ⟨hwelt, (congrArg ClusterSt.h hcl :), (congrArg ClusterSt.iout hcl :), hhead, hiout⟩

theorem execWeltHeadroomReport_eq {vrail vout iout dropout : Nat} (hup : s.clusterUp c = true) (hdue : s.due 3 c 100 0 = true) :
    execWeltHeadroomReport c vrail vout iout dropout s = .next ((((s.outputsSeen c vrail vout dropout).reportShown c
      (min (divNearest ((vrail - vout : Nat) : Int) 16).toNat 255)
      (if s.on F.WELT_CTRL_EN then min ((vrail - vout - dropout) / 16) 255 else 0) (min iout 65535) vout).noteCurrent c
        (min iout 65535)).classSettle c) := by
  unfold execWeltHeadroomReport
  rw [if_pos (by rw [hup, hdue]; rfl)]
  rfl

theorem weltHeadroomReport_reports (vrail vout iout drop : Nat) (hup : s.clusterUp c = true) (hdue : s.due 3 c 100 0 = true) :
    Completes (.weltHeadroomReport c vrail vout iout drop) s fun t =>
      t.welt.en = s.on F.WELT_CTRL_EN ∧ (t.cluster c).iout = min iout 65535 ∧
      (t.cluster c).h = (if s.on F.WELT_CTRL_EN then min ((vrail - vout - drop) / 16) 255 else 0) ∧
      t.f F.WELTc_STATUS_HEADROOM c = (t.cluster c).h ∧ t.f F.WELTc_POWER_IOUT c = min iout 65535 := by
  have hc := State.lt_clusterCount_of_clusterUp hup
  refine .of_next (execWeltHeadroomReport_eq hup hdue) rfl ?_
  have hen := s.outputsSeen_en c vrail vout drop
  generalize s.outputsSeen c vrail vout drop = u at *
  have hh : (if s.on F.WELT_CTRL_EN then min ((vrail - vout - drop) / 16) 255 else 0) < 256 := by
    split
    · omega
    · decide
  have hi : min iout 65535 < 65536 := by omega
  generalize min (divNearest ((vrail - vout : Nat) : Int) 16).toNat 255 = shown at *
  generalize (if s.on F.WELT_CTRL_EN then min ((vrail - vout - drop) / 16) 255 else 0) = h at *
  generalize min iout 65535 = i at *
  obtain ⟨hwelt, hcl, hcli, hhead, hiout⟩ := u.reportShown_fields c shown vout hh hi
  generalize u.reportShown c shown h i vout = v at *
  obtain ⟨hcrd, hen'⟩ := v.noteCurrent_fields c i
  have hv {y : Fld} (hy : Fld.Apart F.WELTc_STATUS_ILIM c y c) := v.noteCurrent_f c i hy
  have hphase : R.WELTc_POWER.at c ≠ R.WELTc_STATUS.at c := Reg.at_ne_of_phase c c
  generalize v.noteCurrent c i = w at *
  rw [State.classSettle_en, State.cluster_of_crd (congrArg CrdSt.clusters (w.classSettle_crd c)),
    State.cluster_of_crd (congrArg CrdSt.clusters hcrd),
    w.classSettle_f (y := F.WELTc_STATUS_HEADROOM) (.inr ⟨rfl, by decide, by decide⟩) (Reg.at_cluster_lt hc),
    w.classSettle_f (y := F.WELTc_POWER_IOUT) (.inl hphase) (Reg.at_cluster_lt hc),
    hv (y := F.WELTc_STATUS_HEADROOM) (.inr ⟨rfl, by decide, by decide⟩), hv (y := F.WELTc_POWER_IOUT) (.inl hphase)]
  exact ⟨hen'.trans ((congrArg WeltAll.en hwelt).trans hen), hcli, hcl, hhead.trans hcl.symm, hiout⟩

/-! ### The needs of a sampled cluster (R117 to R119) -/

theorem mvCode_lt (mv : Int) : mvCode mv < 4096 := by
  unfold mvCode clampInt
  split
  · decide
  · split
    · decide
    · omega

/-- A need falls by at most 1 mV, to no more than the greater of the two. -/
theorem fallNeed_bounds (old new : Nat) : old ≤ fallNeed old new + 4 ∧ fallNeed old new ≤ max old new := by
  unfold fallNeed
  split
  · omega
  · omega

/-- The new need of class `k`, from the present one or, without one, from the set-point. -/
def State.formNeed (valid : Bool) (setp tgt : Nat) (i : NeedIn) (s : State) (k : Nat) (sum : Int) (sens guard : Nat) : State :=
  s.setNeed i.c k (fallNeed (if valid then s.needCode i.c k else setp) (mvCode (needMv i.voutSum tgt sum sens guard)))

/-- The needs of the three classes. -/
def State.needsFormed (s : State) (i : NeedIn) : State :=
  let form := State.formNeed (s.on F.WELTc_STATUS_NEED_VALID i.c) (mvCode (divUp (s.f F.RAILr_SETPT_SETPT 0) 16))
    (s.f F.WELT_CLASS_SLACK_TGT) i
  let s := form s 2 i.slackW (s.f F.WELT_SENS_SENS_W) (s.f F.WELTc_GUARD_GUARD_W i.c)
  let s := form s 1 i.slackM (s.f F.WELT_SENS_SENS_M) (s.f F.WELTc_GUARD_GUARD_M i.c)
  form s 0 i.slackN (s.f F.WELT_SENS_SENS_N) (s.f F.WELTc_GUARD_GUARD_N i.c)

/-- The slacks of the samples and their output. -/
def State.samplesSeen (s : State) (i : NeedIn) : State :=
  let s := s.setfiSat F.WELTc_SLACK_SLACK_W i.c (divNearest i.slackW 8)
  let s := s.setfiSat F.WELTc_SLACK_SLACK_M i.c (divNearest i.slackM 8)
  let s := s.setfiSat F.WELTc_SLACK_SLACK_N i.c (divNearest i.slackN 8)
  s.setWelt i.c { s.weltC i.c with vout := i.voutSum / 8 }

theorem State.needOne_eq {i : NeedIn} (hc : i.c < Config.clusterCount) : s.needOne i =
    (((s.needsFormed i).setf F.WELTc_STATUS_NEED_VALID i.c 1).samplesSeen i).classSettle i.c :=
  if_pos (decide_eq_true hc)

/-- From `s₀` to `s` no current, dissipation or drop changed, and needs that were valid stay valid. -/
structure State.NeedsOnly (s₀ s : State) : Prop where
  power : ∀ d, d < Config.clusterCount → s.rd R.WELTc_POWER d = s₀.rd R.WELTc_POWER d
  drop : ∀ d, (s.weltC d).drop = (s₀.weltC d).drop
  valid : ∀ d, d < Config.clusterCount → s₀.on F.WELTc_STATUS_NEED_VALID d = true → s.on F.WELTc_STATUS_NEED_VALID d = true

section
variable {s₀ : State}

theorem State.NeedsOnly.refl : s.NeedsOnly s := ⟨fun _ _ => rfl, fun _ => rfl, fun _ _ h => h⟩

theorem State.NeedsOnly.trans {t : State} (h : s₀.NeedsOnly s) (g : s.NeedsOnly t) : s₀.NeedsOnly t :=
  ⟨fun d hd => (g.power d hd).trans (h.power d hd), fun d => (g.drop d).trans (h.drop d),
    fun d hd hv => g.valid d hd (h.valid d hd hv)⟩

variable (h : s₀.NeedsOnly s)
include h

/-- A register of the clusters that holds neither the flags nor the dissipation. -/
theorem State.NeedsOnly.setf {x : Fld} {i v : Nat}
    (hp : R.WELTc_POWER.stride = x.reg.stride ∧ R.WELTc_POWER.off % R.WELTc_POWER.stride ≠ x.reg.off % x.reg.stride := by decide)
    (hs : R.WELTc_STATUS.stride = x.reg.stride ∧ R.WELTc_STATUS.off % R.WELTc_STATUS.stride ≠ x.reg.off % x.reg.stride := by decide) :
    s₀.NeedsOnly (s.setf x i v) :=
  ⟨fun d hd => (State.rd_setf_other s i v (Reg.at_ne_of_phase d i hp)).trans (h.power d hd),
    fun d => (congrArg WeltSt.drop (State.weltC_setf ..)).trans (h.drop d),
    fun d hd hv => (State.on_setf_reg s v (Reg.at_ne_of_phase d i hs)).trans (h.valid d hd hv)⟩

theorem State.NeedsOnly.setNeed {i k v : Nat} : s₀.NeedsOnly (s.setNeed i k v) := by
  unfold State.setNeed
  split
  · exact h.setf
  · exact h.setf
  · exact h.setf

theorem State.NeedsOnly.setValid {i : Nat} : s₀.NeedsOnly (s.setf F.WELTc_STATUS_NEED_VALID i 1) := by
  refine ⟨fun d hd => (State.rd_setf_other s i 1 (Reg.at_ne_of_phase d i)).trans (h.power d hd),
    fun d => (congrArg WeltSt.drop (State.weltC_setf ..)).trans (h.drop d), fun d hd hv => ?_⟩
  by_cases hdi : d = i
  · rw [hdi]
    exact State.on_setf_one s i
  · refine (State.on_setf_reg s 1 ?_).trans (h.valid d hd hv)
    change 0x0C114 + 0x20 * d ≠ 0x0C114 + 0x20 * i
    omega

theorem State.NeedsOnly.outputSeen {i v : Nat} : s₀.NeedsOnly (s.outputSeen i v) := by
  refine ⟨h.power, fun d => Eq.trans ?_ (h.drop d), h.valid⟩
  by_cases hdi : d = i
  · rw [hdi, State.outputSeen_weltC]
  · exact congrArg WeltSt.drop (State.weltC_setWelt_other _ _ hdi)

theorem State.NeedsOnly.classSettle {i : Nat} : s₀.NeedsOnly (s.classSettle i) := by
  have hkept := (s.classOver i).clearWaits_weltKept i
  obtain ⟨-, -, hwelt⟩ := s.classOver_fields i
  refine ⟨fun d hd => ?_, fun d => ?_, fun d hd hv => ?_⟩
  · exact ((hkept.rd (Reg.at_cluster_lt hd)).trans (s.classOver_rd (Reg.at_ne_of_phase d i))).trans (h.power d hd)
  · obtain ⟨-, hdrop⟩ := hwelt d
    exact ((congrArg WeltSt.drop (hkept.weltC d)).trans hdrop).trans (h.drop d)
  · have hapart : Fld.Apart F.WELTc_STATUS_RISING i F.WELTc_STATUS_NEED_VALID d := .inr ⟨rfl, by decide, by decide⟩
    rw [s.classSettle_on hapart (Reg.at_cluster_lt hd)]
    exact h.valid d hd hv

end

theorem State.needsFormed_needsOnly (s : State) (i : NeedIn) : s.NeedsOnly (s.needsFormed i) := by
  unfold State.needsFormed State.formNeed
  exact State.NeedsOnly.refl.setNeed.setNeed.setNeed

theorem State.samplesSeen_needsOnly (s : State) (i : NeedIn) : s.NeedsOnly (s.samplesSeen i) :=
  (State.NeedsOnly.refl.setf (x := F.WELTc_SLACK_SLACK_W)).setf (x := F.WELTc_SLACK_SLACK_M) |>.setf
    (x := F.WELTc_SLACK_SLACK_N) |>.outputSeen

theorem State.needOne_needsOnly (s : State) (i : NeedIn) : s.NeedsOnly (s.needOne i) := by
  by_cases hc : i.c < Config.clusterCount
  · rw [State.needOne_eq hc]
    exact ((s.needsFormed_needsOnly i).setValid.trans (State.samplesSeen_needsOnly _ i)).classSettle
  · have hsame : s.needOne i = s := if_neg (by simpa using hc)
    rw [hsame]
    exact .refl

theorem State.needOne_valid (s : State) {i : NeedIn} (hc : i.c < Config.clusterCount) :
    (s.needOne i).on F.WELTc_STATUS_NEED_VALID i.c = true := by
  rw [State.needOne_eq hc]
  have h := (State.NeedsOnly.refl.trans (State.samplesSeen_needsOnly ((s.needsFormed i).setf F.WELTc_STATUS_NEED_VALID i.c 1) i)).classSettle
    (i := i.c)
  exact h.valid _ hc (State.on_setf_one _ _)

/-- The needs of every sampled cluster are valid. -/
theorem State.needs_valid (l : List NeedIn) (s : State) : s.NeedsOnly (l.foldl State.needOne s) ∧
    ∀ i ∈ l, i.c < Config.clusterCount → (l.foldl State.needOne s).on F.WELTc_STATUS_NEED_VALID i.c = true := by
  induction l generalizing s with
  | nil => exact ⟨.refl, fun i hi => absurd hi List.not_mem_nil⟩
  | cons j l ih =>
    obtain ⟨hkept, hvalid⟩ := ih (s.needOne j)
    refine ⟨(s.needOne_needsOnly j).trans hkept, fun i hi hc => ?_⟩
    rcases List.mem_cons.1 hi with rfl | hi
    · exact hkept.valid _ hc (s.needOne_valid hc)
    · exact hvalid i hi hc

theorem State.needCode_two (s : State) (c : Nat) : s.needCode c 2 = s.f F.WELTc_NEED_WM_NEED_W c := rfl

theorem State.needW_setNeed_same (s : State) (c : Nat) {v : Nat} (hv : v < 4096) : (s.setNeed c 2 v).needCode c 2 = v :=
  State.f_setf_fits s c hv

/-- The needs of the other classes are held elsewhere. -/
theorem State.needW_setNeed_other (s : State) (c v : Nat) {k : Nat} (hk : k < 2) :
    (s.setNeed c k v).needCode c 2 = s.needCode c 2 := by
  match k, hk with
  | 0, _ => exact State.f_setf_elsewhere s c v
  | 1, _ => exact State.f_setf_beside s c v

/-- The slacks are held elsewhere than the needs of the classes W and M. -/
theorem State.needW_setfiSat (s : State) {x : Fld} (c : Nat) (v : Int) (h : Fld.Elsewhere x F.WELTc_NEED_WM_NEED_W) :
    (s.setfiSat x c v).needCode c 2 = s.needCode c 2 := State.f_setf_elsewhere s c _ h

theorem State.needCode_setWelt (s : State) (c : Nat) (w : WeltSt) (d k : Nat) : (s.setWelt c w).needCode d k = s.needCode d k := rfl

theorem State.samplesSeen_needCode (s : State) (i : NeedIn) : (s.samplesSeen i).needCode i.c 2 = s.needCode i.c 2 := by
  unfold State.samplesSeen
  dsimp only
  rw [State.needCode_setWelt, State.needW_setfiSat _ _ _ (by decide), State.needW_setfiSat _ _ _ (by decide),
    State.needW_setfiSat _ _ _ (by decide)]

/-- The need of class W that a cluster's samples give. -/
def State.needWOf (s : State) (i : NeedIn) : Nat :=
  fallNeed (if s.on F.WELTc_STATUS_NEED_VALID i.c then s.needCode i.c 2 else mvCode (divUp (s.f F.RAILr_SETPT_SETPT) 16))
    (mvCode (needMv i.voutSum (s.f F.WELT_CLASS_SLACK_TGT) i.slackW (s.f F.WELT_SENS_SENS_W) (s.f F.WELTc_GUARD_GUARD_W i.c)))

theorem State.needWOf_of_regs {t : State} (h : t.regs = s.regs) (i : NeedIn) : t.needWOf i = s.needWOf i := by
  have hf (x : Fld) (j : Nat) : t.f x j = s.f x j := State.f_of_regs h x j
  unfold State.needWOf State.on State.needCode
  simp only [hf]

theorem State.needWOf_lt (s : State) (i : NeedIn) : s.needWOf i < 4096 := by
  refine lt_of_le_of_lt (fallNeed_bounds ..).2 (max_lt ?_ (mvCode_lt _))
  split
  · exact getBits_lt ..
  · exact mvCode_lt _

theorem State.needsFormed_needW (s : State) (i : NeedIn) : (s.needsFormed i).needCode i.c 2 = s.needWOf i := by
  unfold State.needsFormed State.formNeed
  dsimp only
  rw [State.needW_setNeed_other _ _ _ (by decide), State.needW_setNeed_other _ _ _ (by decide)]
  exact State.needW_setNeed_same s i.c (s.needWOf_lt i)

theorem State.needOne_needW (s : State) {i : NeedIn} (hc : i.c < Config.clusterCount) :
    (s.needOne i).needCode i.c 2 = s.needWOf i := by
  have hphase : R.WELTc_NEED_WM.at i.c ≠ R.WELTc_STATUS.at i.c := Reg.at_ne_of_phase _ _
  rw [State.needOne_eq hc, ← s.needsFormed_needW]
  refine (State.classSettle_f _ (y := F.WELTc_NEED_WM_NEED_W) (.inl hphase) (Reg.at_cluster_lt hc)).trans ?_
  exact (State.samplesSeen_needCode _ i).trans (State.f_setf_elsewhere _ i.c 1)

/-! ### The dissipations (R126) -/

/-- From `s₀` to `s` the registers of the clusters' power show other dissipations, and nothing else below the telemetry. -/
structure State.DissShown (s₀ s : State) : Prop where
  rd : ∀ q j, (∀ d, q.at j ≠ R.WELTc_POWER.at d) → s.rd q j = s₀.rd q j
  iout : ∀ d, s.f F.WELTc_POWER_IOUT d = s₀.f F.WELTc_POWER_IOUT d
  welt : s.welt = s₀.welt

theorem State.showDiss_dissShown (s : State) (c p : Nat) : s.DissShown (s.showDiss c p) := by
  unfold State.showDiss
  split
  · exact ⟨fun _ _ _ => rfl, fun _ => rfl, rfl⟩
  · refine ⟨fun q j h => ?_, fun d => ?_, rfl⟩
    · exact (State.rd_telem ..).trans (State.rd_setf_other s c p (h c))
    · refine (State.f_of_rd (State.rd_telem ..)).trans (State.f_setf_apart s p (.inr ⟨rfl, by decide, by decide⟩))

theorem State.DissShown.dissOf {s₀ : State} (h : s₀.DissShown s) (l : List NeedIn) (c : Nat) : s.dissOf l c = s₀.dissOf l c := by
  unfold State.dissOf
  rw [h.iout, State.weltC_of_welt h.welt]

theorem State.dissOf_lt (s : State) (l : List NeedIn) (c : Nat) : s.dissOf l c < 65536 := by
  unfold State.dissOf dissCode
  split
  · omega
  · omega

theorem State.showDiss_same (s : State) (c : Nat) {p : Nat} (hp : p < 65536) : (s.showDiss c p).f F.WELTc_POWER_DISS c = p := by
  unfold State.showDiss
  split
  · next h => exact h
  · exact (State.f_of_rd (State.rd_telem ..)).trans (State.f_setf_fits s c hp)

theorem State.showDiss_other (s : State) {c d : Nat} (p : Nat) (h : d ≠ c) :
    (s.showDiss c p).f F.WELTc_POWER_DISS d = s.f F.WELTc_POWER_DISS d := by
  have hne : R.WELTc_POWER.at d ≠ R.WELTc_POWER.at c := by
    change 0x0C118 + 0x20 * d ≠ 0x0C118 + 0x20 * c
    omega
  unfold State.showDiss
  split
  · rfl
  · exact (State.f_of_rd (State.rd_telem ..)).trans (State.f_setf_reg s p hne)

/-- The dissipations of a list of clusters are shown. -/
def State.showAllDiss (s : State) (l : List NeedIn) (cs : List Nat) : State :=
  cs.foldl (fun s c => s.showDiss c (s.dissOf l c)) s

theorem State.showAllDiss_fields (l : List NeedIn) (cs : List Nat) (s : State) : s.DissShown (s.showAllDiss l cs) ∧
    ∀ c, (s.showAllDiss l cs).f F.WELTc_POWER_DISS c = if c ∈ cs then s.dissOf l c else s.f F.WELTc_POWER_DISS c := by
  induction cs generalizing s with
  | nil => exact ⟨⟨fun _ _ _ => rfl, fun _ => rfl, rfl⟩, fun c => (if_neg List.not_mem_nil).symm⟩
  | cons m cs ih =>
    obtain ⟨hshown, hdiss⟩ := ih (s.showDiss m (s.dissOf l m))
    have hone := s.showDiss_dissShown m (s.dissOf l m)
    refine ⟨⟨fun q j h => (hshown.rd q j h).trans (hone.rd q j h), fun d => (hshown.iout d).trans (hone.iout d),
      hshown.welt.trans hone.welt⟩, fun c => (hdiss c).trans ?_⟩
    rw [hone.dissOf]
    by_cases hc : c ∈ cs
    · rw [if_pos hc, if_pos (List.mem_cons_of_mem _ hc)]
    · rw [if_neg hc]
      by_cases hm : c = m
      · rw [hm, if_pos List.mem_cons_self, s.showDiss_same m (s.dissOf_lt l m)]
      · rw [if_neg (by simp [hc, hm]), s.showDiss_other _ hm]

/-- The loss is counted and the dissipation of all clusters shown. -/
def State.lossCounted (s : State) : State :=
  let d := (allClusters.map (fun c => s.f F.WELTc_POWER_DISS c)).sum
  let s := s.setPair R.WELT_LOSS_LO R.WELT_LOSS_HI 0 (s.pair R.WELT_LOSS_LO R.WELT_LOSS_HI + 8 * d)
  (s.setf F.WELT_DISS_DISS 0 (min d 65535)).telem 0x22000000 (min d 65535)

theorem State.lossCounted_rd (s : State) {q : Reg} {j : Nat} (h : 0x0C100 ≤ q.at j) : s.lossCounted.rd q j = s.rd q j := by
  have hne (r : Reg) (hr : r.at 0 < 0x0C100) : q.at j ≠ r.at 0 := by omega
  unfold State.lossCounted
  extract_lets d u
  have hu : u.rd q j = s.rd q j := State.rd_setPair_other (lo := R.WELT_LOSS_LO) (hi := R.WELT_LOSS_HI)
    (hne R.WELT_LOSS_LO (by decide)) (hne R.WELT_LOSS_HI (by decide))
  clear_value u
  rw [State.rd_telem]
  exact (State.rd_setf_other (x := F.WELT_DISS_DISS) u 0 _ (hne R.WELT_DISS (by decide))).trans hu

/-! ### The rail need (R115) -/

theorem State.needSetter_congr {t : State} (hceil : ∀ c, t.ceilNeed c = s.ceilNeed c)
    (hcount : ∀ c, c < Config.clusterCount → t.counted c = s.counted c) : t.needSetter = s.needSetter := by
  have hfun : t.ceilNeed = s.ceilNeed := funext hceil
  have hfilter : allClusters.filter (fun c => t.counted c) = allClusters.filter (fun c => s.counted c) :=
    List.filter_congr fun c hc => hcount c (List.mem_range.1 hc)
  unfold State.needSetter
  rw [hfun, hfilter]

/-- What decides the rail need. -/
def State.railNeed (s : State) : Nat :=
  match s.needSetter with
  | none => 0
  | some c => min (s.ceilNeed c + 4 * (s.f F.WELT_CTRL_HEADROOM_MV + s.f F.DRP_NUDGE_NUDGE)) 4095

theorem State.railNeed_lt (s : State) : s.railNeed < 4096 := by
  unfold State.railNeed
  split
  · decide
  · omega

/-- The need `v` of cluster `c` is shown with its setter, and sent. -/
def State.railNeedSent (s : State) (v c : Nat) : State :=
  let s := (s.setf F.WELT_RAIL_NEED_NEED 0 v).setf F.WELT_RAIL_NEED_SETTER 0 c
  { s with welt := { s.welt with needSent := some v } }

theorem State.railNeedSent_need (s : State) (c : Nat) {v : Nat} (hv : v < 4096) :
    (s.railNeedSent v c).f F.WELT_RAIL_NEED_NEED = v :=
  (State.f_setf_beside (x := F.WELT_RAIL_NEED_SETTER) (y := F.WELT_RAIL_NEED_NEED) _ 0 c).trans
    (State.f_setf_fits (x := F.WELT_RAIL_NEED_NEED) s 0 hv)

theorem State.sendRailNeed_eq (s : State) : s.sendRailNeed = s.railNeedSent s.railNeed (s.needSetter.getD 0) := by
  unfold State.sendRailNeed State.railNeed
  cases s.needSetter with
  | none => rfl
  | some c => rfl

theorem State.sendRailNeed_sends (s : State) : s.sendRailNeed.welt.needSent = some s.railNeed ∧
    s.sendRailNeed.f F.WELT_RAIL_NEED_NEED = s.railNeed := by
  rw [State.sendRailNeed_eq]
  exact ⟨rfl, s.railNeedSent_need _ s.railNeed_lt⟩

theorem State.sendRailNeed_rd (s : State) {q : Reg} {j : Nat} (h : q.at j ≠ R.WELT_RAIL_NEED.at 0) :
    s.sendRailNeed.rd q j = s.rd q j := by
  rw [State.sendRailNeed_eq]
  generalize s.railNeed = v, s.needSetter.getD 0 = c
  exact (State.rd_setf_other (x := F.WELT_RAIL_NEED_SETTER) (s.setf F.WELT_RAIL_NEED_NEED 0 v) 0 c h).trans
    (State.rd_setf_other (x := F.WELT_RAIL_NEED_NEED) s 0 v h)

/-- Sending the rail need leaves what decides it. -/
theorem State.railNeed_sendRailNeed (s : State) : s.sendRailNeed.railNeed = s.railNeed := by
  have hrd {q : Reg} {j : Nat} (h : q.at j ≠ R.WELT_RAIL_NEED.at 0) := s.sendRailNeed_rd h
  have hcluster {q : Reg} (c : Nat) (h : R.WELT_RAIL_NEED.at 0 < q.off) : s.sendRailNeed.rd q c = s.rd q c :=
    hrd (Reg.at_ne_of_lt h).symm
  have hceil (c : Nat) : s.sendRailNeed.ceilNeed c = s.ceilNeed c := by
    unfold State.ceilNeed State.needCode
    rw [State.f_of_rd (x := F.WELTc_STATUS_CEIL_EFF) (hcluster (q := R.WELTc_STATUS) c (by decide))]
    split
    · exact State.f_of_rd (hcluster (q := R.WELTc_NEED_N) c (by decide))
    · exact State.f_of_rd (hcluster (q := R.WELTc_NEED_WM) c (by decide))
    · exact State.f_of_rd (hcluster (q := R.WELTc_NEED_WM) c (by decide))
  have hcount (c : Nat) (hc : c < Config.clusterCount) : s.sendRailNeed.counted c = s.counted c := by
    have hne : R.PWRd_STATUS.at (0x400 + c) ≠ R.WELT_RAIL_NEED.at 0 := by
      replace hc : c < 32 := hc
      change 0x05804 + 0x8 * (0x400 + c) ≠ 0x0C00C
      omega
    unfold State.counted State.clusterOn
    rw [State.f_of_rd (x := F.PWRd_STATUS_STEP) (hrd hne),
      State.on_of_rd (x := F.WELTc_STATUS_NEED_VALID) (hcluster (q := R.WELTc_STATUS) c (by decide))]
  unfold State.railNeed
  rw [State.needSetter_congr hceil hcount, State.f_of_rd (x := F.WELT_CTRL_HEADROOM_MV) (hrd (q := R.WELT_CTRL) (j := 0) (by decide)),
    State.f_of_rd (x := F.DRP_NUDGE_NUDGE) (hrd (q := R.DRP_NUDGE) (j := 0) (by decide))]
  simp only [hceil]

/-! ### The update at 1 µs -/

/-- After the needs of the samples, the registers of the clusters but for their power stay. -/
theorem State.needUpdate_rd (s : State) (l : List NeedIn) {q : Reg} {c : Nat} (hlow : 0x0C100 ≤ q.off)
    (hphase : q.stride = R.WELTc_POWER.stride ∧ q.off % q.stride ≠ R.WELTc_POWER.off % R.WELTc_POWER.stride) :
    (s.showAllDiss l allClusters).lossCounted.sendRailNeed.rd q c = s.rd q c := by
  obtain ⟨hshown, -⟩ := s.showAllDiss_fields l allClusters
  have hat : 0x0C100 ≤ q.at c := Nat.le_trans hlow (Reg.off_le_at _ _)
  have hne : q.at c ≠ R.WELT_RAIL_NEED.at 0 := (Reg.at_ne_of_lt (Nat.lt_of_lt_of_le (by decide) hlow)).symm
  rw [State.sendRailNeed_rd _ hne, State.lossCounted_rd _ hat, hshown.rd q c fun d => Reg.at_ne_of_phase c d hphase]

/-- The state after an update of the needs of the list. -/
def State.needsUpdated (s : State) (l : List NeedIn) : State :=
  ((l.foldl State.needOne (s.serve 4 0)).showAllDiss l allClusters).lossCounted.sendRailNeed

theorem execNeedUpdate_eq {l : List NeedIn} (hup : s.dieUp = true) (hdue : s.due 4 0 1000 0 = true) :
    execNeedUpdate l s = .next (s.needsUpdated l) := by
  unfold execNeedUpdate
  rw [if_pos (by rw [hup, hdue]; rfl)]
  rfl

theorem State.needsUpdated_valid (s : State) {l : List NeedIn} {i : NeedIn} (hi : i ∈ l) (hc : i.c < Config.clusterCount) :
    (s.needsUpdated l).on F.WELTc_STATUS_NEED_VALID i.c = true := by
  obtain ⟨-, hvalid⟩ := State.needs_valid l (s.serve 4 0)
  exact (State.on_of_rd (State.needUpdate_rd _ l (q := R.WELTc_STATUS) (by decide) (by decide))).trans (hvalid i hi hc)

theorem State.needsUpdated_sends (s : State) (l : List NeedIn) :
    (s.needsUpdated l).welt.needSent = some (s.needsUpdated l).railNeed ∧
    some ((s.needsUpdated l).f F.WELT_RAIL_NEED_NEED) = (s.needsUpdated l).welt.needSent := by
  unfold State.needsUpdated
  generalize ((l.foldl State.needOne (s.serve 4 0)).showAllDiss l allClusters).lossCounted = u
  obtain ⟨hsent, hshown⟩ := u.sendRailNeed_sends
  rw [hsent, hshown, u.railNeed_sendRailNeed]
  exact ⟨rfl, rfl⟩

/-- The dissipation follows from the listed samples, or from the current and the drop last reported. -/
theorem State.NeedsOnly.dissOf {s₀ : State} (h : s₀.NeedsOnly s) (l : List NeedIn) (hc : c < Config.clusterCount) :
    s.dissOf l c = s₀.dissOf l c := by
  unfold State.dissOf
  rw [State.f_of_rd (x := F.WELTc_POWER_IOUT) (h.power c hc), h.drop c]

theorem State.needsUpdated_diss (s : State) (l : List NeedIn) (hc : c < Config.clusterCount) :
    (s.needsUpdated l).f F.WELTc_POWER_DISS c = s.dissOf l c := by
  obtain ⟨hkept, -⟩ := State.needs_valid l (s.serve 4 0)
  have hserve : (s.serve 4 0).dissOf l c = s.dissOf l c := rfl
  unfold State.needsUpdated
  rw [← hserve, ← hkept.dissOf l hc]
  generalize l.foldl State.needOne (s.serve 4 0) = u
  obtain ⟨-, hdiss⟩ := u.showAllDiss_fields l allClusters
  rw [← (hdiss c).trans (if_pos (List.mem_range.2 hc))]
  have hat : 0x0C100 ≤ R.WELTc_POWER.at c := Nat.le_trans (by decide) (Reg.off_le_at _ c)
  have hne : R.WELTc_POWER.at c ≠ R.WELT_RAIL_NEED.at 0 := (Reg.at_ne_of_lt (by decide)).symm
  exact State.f_of_rd ((State.sendRailNeed_rd _ hne).trans (State.lossCounted_rd _ hat))

/-- One sample: the need of class W is the one its samples give. -/
theorem State.needsUpdated_needW (s : State) {i : NeedIn} (hc : i.c < Config.clusterCount) :
    (s.needsUpdated [i]).needCode i.c 2 = s.needWOf i := by
  have hserve : (s.serve 4 0).needWOf i = s.needWOf i := State.needWOf_of_regs rfl i
  rw [← hserve, ← State.needOne_needW _ hc]
  unfold State.needsUpdated
  rw [List.foldl_cons, List.foldl_nil]
  generalize (s.serve 4 0).needOne i = u
  have hrd := u.needUpdate_rd [i] (q := R.WELTc_NEED_WM) (c := i.c) (by decide) (by decide)
  generalize (u.showAllDiss [i] allClusters).lossCounted.sendRailNeed = t at *
  rw [State.needCode_two, State.needCode_two]
  exact State.f_of_rd hrd

theorem needUpdate_completes {l : List NeedIn} {P : State → Prop} (hup : s.dieUp = true) (hdue : s.due 4 0 1000 0 = true)
    (h : ∀ t, t = s.needsUpdated l → P t) : Completes (.needUpdate l) s P := .of_next (execNeedUpdate_eq hup hdue) rfl (h _ rfl)

/-- Settles O22: the controller's report, and the parts of the update of the needs one after another. -/
theorem clusterVoltageReports : Obligations.ClusterVoltageReports := by
  unfold Obligations.ClusterVoltageReports
  refine ⟨fun s c vrail vout iout drop hup hdue => weltHeadroomReport_reports vrail vout iout drop hup hdue,
    fun s l hup hdue => needUpdate_completes hup hdue fun t ht => ?_,
    fun s i hup hdue hc hv => needUpdate_completes hup hdue fun t ht => ?_,
    fun s i hup hdue hc hv => needUpdate_completes hup hdue fun t ht => ?_⟩
  · have hvalid (i : NeedIn) (hi : i ∈ l) (hc : i.c < Config.clusterCount) := ht ▸ s.needsUpdated_valid hi hc
    obtain ⟨hsent, hshown⟩ : t.welt.needSent = some t.railNeed ∧ some (t.f F.WELT_RAIL_NEED_NEED) = t.welt.needSent :=
      ht ▸ s.needsUpdated_sends l
    exact ⟨hvalid, hsent, hshown, fun c hc => ht ▸ s.needsUpdated_diss l hc⟩
  · have hneed : t.needCode i.c 2 = s.needWOf i := ht ▸ s.needsUpdated_needW hc
    unfold State.needWOf at hneed
    rw [if_pos hv] at hneed
    rw [hneed]
    exact ⟨rfl, (fallNeed_bounds ..).1⟩
  · have hneed : t.needCode i.c 2 = s.needWOf i := ht ▸ s.needsUpdated_needW hc
    unfold State.needWOf at hneed
    rwa [if_neg (by simp [hv])] at hneed

end Sys2Proof.Machine
end
